-- ==== Sys2Proof/Word.lean ====
section
/-! DEFINITION. The word types of the model and their plainest arithmetic: bytes and register words as bit vectors
(what software reads and writes as bits), TIME64 as a natural number of nanoseconds (R6: no TIME64 value wraps, and a
difference below 0 is 0), measured and demodulated values as exact rationals. -/

namespace Sys2Proof

/-- One byte of a frame, of the mailbox or of a dictionary value. -/
abbrev Byte := BitVec 8

/-- A 32-bit register of the host window (R270). -/
abbrev Word := BitVec 32

/-- An IEEE 802 address. -/
abbrev Mac := BitVec 48

/-- A time in nanoseconds. R6: unsigned, never wraps, subtraction stops at 0 (as subtraction of `Nat` does). -/
abbrev Time := Nat

/-- A complex value of the demodulator (R116): exact, because the spec gives the engines no number format. -/
structure Cx where
  re : Rat := 0
  im : Rat := 0
  deriving DecidableEq, Repr, Inhabited

/-- Sum of two complex values. -/
def Cx.add (a b : Cx) : Cx := { re := a.re + b.re, im := a.im + b.im }
/-- Difference of two complex values. -/
def Cx.sub (a b : Cx) : Cx := { re := a.re - b.re, im := a.im - b.im }
/-- Product of two complex values. -/
def Cx.mul (a b : Cx) : Cx := { re := a.re * b.re - a.im * b.im, im := a.re * b.im + a.im * b.re }
/-- A complex value scaled by a rational. -/
def Cx.scale (q : Rat) (a : Cx) : Cx := { re := q * a.re, im := q * a.im }
/-- The complex conjugate. -/
def Cx.conj (a : Cx) : Cx := { re := a.re, im := -a.im }
/-- The square of the magnitude. -/
def Cx.normSq (a : Cx) : Rat := a.re * a.re + a.im * a.im

/-- Replace element i of a vector by f of it. -/
def updV {α : Type} {n : Nat} (v : Vector α n) (i : Fin n) (f : α → α) : Vector α n := v.set i (f v[i])

/-- The n low bytes of a number, least significant first (R5). -/
def leBytes : Nat → Nat → List Byte
  | 0, _ => []
  | n + 1, x => BitVec.ofNat 8 x :: leBytes n (x / 256)

/-- The number that little-endian bytes spell (R5). -/
def leNat : List Byte → Nat
  | [] => 0
  | b :: bs => b.toNat + 256 * leNat bs

/-- Two's complement reading of the low n bits of x. -/
def signedOf (n x : Nat) : Int :=
  let m := x % 2 ^ n
  if 2 * m < 2 ^ n then (m : Int) else (m : Int) - 2 ^ n

/-- The low n bits of an integer in two's complement, as a number. -/
def wrapOf (n : Nat) (x : Int) : Nat := (x % (2 ^ n : Int)).toNat

/-- Bit i of a number. -/
def bitOf (x i : Nat) : Bool := x.testBit i

/-- A Bool as a register bit. -/
def b2n (b : Bool) : Nat := if b then 1 else 0

end Sys2Proof
end

