-- ==== Sys2Proof/Syntax.lean ====
section
/-! DEFINITION. The commands of the block: one constructor per row of spec/opcode_table.json, each with the time at which
it happens (elapsed nanoseconds, log entry 1) and the operands the row names or its rules measure. -/

namespace Sys2Proof

/-- R209, R294, R349: a priority or VLAN tag of a frame. -/
structure Tag where
  pcp : BitVec 3
  vid : BitVec 12
  deriving DecidableEq, Repr

/-- R355: a PRP redundancy control trailer. -/
structure PrpTrailer where
  seqNr : BitVec 16
  lanId : BitVec 4
  size  : BitVec 12
  deriving DecidableEq, Repr

/-- An Ethernet frame as received or sent on a port (R209, R294, R349). `body` holds the bytes after the EtherType, up to
the PRP trailer. -/
structure Frame where
  dst   : Mac
  src   : Mac
  tag   : Option Tag
  ether : BitVec 16
  body  : List Byte
  prp   : Option PrpTrailer
  fcsOk : Bool
  deriving DecidableEq, Repr

/-- R127: the kind of edge of a presence event. -/
inductive Edge where
  | onset | confirm | endd | withdraw
  deriving DecidableEq, Repr

/-- R127: one event of a signal engine. -/
structure PresenceEvent where
  ch       : Fin 16
  edge     : Edge
  stamp    : Time
  centroid : Time := 0
  peak     : Nat := 0
  cls      : Nat := 0
  settling : Bool := false
  takeover : Bool := false
  blanked  : Bool := false
  deriving DecidableEq, Repr

/-- R68: one conversion of a wheel channel, before the front end adds its flags. -/
structure RawIn where
  data : BitVec 16
  ovr  : Bool
  deriving DecidableEq, Repr

/-- R70, R71: what the steps of a front-end calibration measure on one channel as they come. Lists are indexed by amplitude or gain
code 0 to 7. -/
structure CalReport where
  selfCheck   : Bool
  limiterActs : List Bool
  peakCurrent : List Rat
  senseShare  : List Rat
  aCal        : Rat
  iCal        : Rat
  aRefLow     : Rat
  aRefHigh    : Rat
  deriving DecidableEq, Repr

/-- R139, R140: what an engine writes with a checkpoint beside its state: the sequence number, whether the CRC-32C holds, and the
result of its known-answer test. -/
structure CkptWrite where
  seq   : Nat
  crcOk : Bool
  kat   : Bool
  deriving DecidableEq, Repr

/-- R433, R434, R444 to R446, R432: the results of the start-up self-checks. -/
structure BootReport where
  svaFail   : Option Bool    -- some false: boot self-check failed (3); some true: image check failed (4)
  svbFail   : Option Bool
  engKat    : BitVec 9       -- bit e: WSEe passed its known-answer test
  mapLost   : Bool           -- the repair map cannot be read (R445)
  rowsFound : List (Nat × Nat) -- memory rows found failing: memory in the order of SpareRowsLeft, row; in memory 4, row r of
                               -- WSEe is 64 × e + r
  deadboltOk : BitVec 4      -- bit n: the path test of PERMITn passed
  imageCrcA : Word
  imageCrcB : Word
  badEntries : List Nat      -- stored entries (index × 256 + sub) whose read was uncorrectable
  deriving DecidableEq, Repr

/-- R374: what a wake finds: per supervisor the resynchronisation and image check. -/
structure WakeReport where
  svaFail : Option Bool
  svbFail : Option Bool
  deriving DecidableEq, Repr

/-- R465: the monitored rails. -/
inductive Rail where
  | vafe | vio | vcore | vaon | vrefm
  deriving DecidableEq, Repr

/-- R53: a drop input of one permit's Deadbolt. -/
inductive DropInput where
  | voteA | voteB | faultLine (h : Fin 8) | selfTest
  deriving DecidableEq, Repr

/-- R57: why a supervisor fails at once. -/
inductive SvFault where
  | lockstep | ecc
  deriving DecidableEq, Repr

/-- R141: the check that declares an engine failed. -/
inductive EngineCheck where
  | watchdog | programMemory | checkpoint | inputTag
  deriving DecidableEq, Repr

/-- R84, R102, R104, R108, R123, R129, R134, R135, R128, R146, R467: what raises a channel's warning. -/
inductive WarnKind where
  | loopRange | currentRange | blankedShare | amplitudeReduced | bodySensor
  | noCleanCarrier | carrierUnstable | scanOverdue | blankStuck
  | kappaFit | shallowPeak | noise | residual | drift | proofOverdue | feed
  deriving DecidableEq, Repr

/-- R171, R443: what a scrub finds. -/
inductive ScrubResult where
  | clean | corrected | uncorrectable | differ
  deriving DecidableEq, Repr

/-- R416, R418: an event offered to the recorder. `payload` follows the TIME64 (R418). -/
structure RecEvent where
  code      : BitVec 16
  emergency : Bool := false
  source    : BitVec 2 := 0
  time      : Time
  payload   : List Byte := []
  deriving DecidableEq, Repr

/-- R294, R290: where a dictionary request comes from: the mailbox, or a frame from the network. -/
inductive SdpSrc where
  | mailbox
  | net (mac : Mac) (tag : Option Tag) (payload : List Byte)
  deriving DecidableEq, Repr

/-- R358: the priority vector and the source of a received Announce message. -/
structure AnnounceInfo where
  priority1 : Nat
  clockClass : Nat
  accuracy  : Nat
  variance  : Nat
  priority2 : Nat
  gmId      : BitVec 64
  steps     : Nat
  source    : Nat
  deriving DecidableEq, Repr

/-- R446, R448: a memory that is refreshed. -/
inductive RefreshMem where
  | configStore | recorder
  deriving DecidableEq, Repr

/-- R318, R319: how far the store writes of step 3 of a transaction get: to the end, to a stop by something else after n
entries (the command that stops them follows), or to entry n, whose write fails. -/
inductive StoreRun where
  | whole | stops (n : Nat) | fails (n : Nat)
  deriving DecidableEq, Repr

/-- The commands of the block, one per row of spec/opcode_table.json, in the table's order. -/
inductive Instr where
  | powerGood (t : Time)
  | resetRelease (t : Time) (slotA slotB : BitVec 12)
  | supervisorsInService (t : Time) (r : BootReport)
  | trialStartFailure (t : Time)
  | removalWarning (t : Time)
  | supplyLoss (t : Time)
  | skrstReq (t : Time)
  | immediateReset (t : Time)
  | railOutOfRange (t : Time) (rail : Rail)
  | feedDisconnect (t : Time) (feed : Fin 2)
  | feedReconnect (t : Time) (feed : Fin 2)
  | feedOutOfRangeWarning (t : Time) (feed : Fin 2)
  | opsecSave (t : Time)
  | evaluationStep (t : Time) (v : Fin 2)
  | deferredSetApply (t : Time)
  | verdictShadowLoad (t : Time) (sec : Fin 4)
  | deadboltDrop (t : Time) (n : Fin 4) (input : DropInput)
  | permitRise (t : Time) (n : Fin 4)
  | supervisorFailure (t : Time) (v : Fin 2) (cause : SvFault)
  | supervisorClockFault (t : Time) (v : Fin 2)
  | stepOverrun (t : Time) (v : Fin 2)
  | degradedRunEntry (t : Time)
  | degradedClearExpiry (t : Time)
  | referenceSwitchover (t : Time)
  | bothReferencesLost (t : Time)
  | frameBoundary (t : Time)
  | settlingMaskEnd (t : Time) (c : Fin 16)
  | fastSample (t : Time) (c : Fin 16) (raws : List RawIn)
  | presenceEvent (t : Time) (ev : PresenceEvent)
  | loopMonitorEval (t : Time) (c : Fin 16) (amp : Rat) (unblanked : Nat)
  | excCurrentEval (t : Time) (c : Fin 16) (cur : Rat) (limiter : Bool)
  | commonModeEval (t : Time) (c : Fin 16) (volts vafe : Rat)
  | burnoutEval (t : Time) (c : Fin 16) (share : Rat)
  | faultCauseFinal (t : Time) (c : Fin 16)
  | reconnectQuietExpiry (t : Time) (c : Fin 16) (r : CalReport)
  | calibrationStart (t : Time) (c : Fin 16) (r : CalReport)
  | calibrationDone (t : Time) (c : Fin 16)
  | channelWarning (t : Time) (c : Fin 16) (kind : WarnKind)
  | warningHoldExpiry (t : Time) (c : Fin 16) (kind : WarnKind)
  | tchReading (t : Time) (c : Fin 8) (m1 m2 vref : Rat)
  | blankStuck (t : Time) (src : Fin 6)
  | blankSourceRestore (t : Time) (src : Fin 6)
  | scanDue (t : Time) (c : Fin 16)
  | scanOverdue (t : Time) (c : Fin 16)
  | scanPauseStart (t : Time) (c : Fin 16)
  | scanComplete (t : Time) (c : Fin 16)
  | noiseBlock (t : Time) (c : Fin 16)
  | baselineStore (t : Time)
  | driftEvaluation (t : Time) (c : Fin 16)
  | kappaFit (t : Time) (c : Fin 16)
  | residualPresence (t : Time) (c : Fin 16)
  | engineCheckpoint (t : Time) (e : Fin 9) (w : CkptWrite)
  | engineFailure (t : Time) (e : Fin 9) (check : EngineCheck)
  | takeoverFirstDecision (t : Time) (h : Fin 8)
  | proofTestDue (t : Time) (c : Fin 16)
  | proofTestStart (t : Time) (c : Fin 16)
  | proofTestEnd (t : Time) (c : Fin 16)
  | proofTestRetry (t : Time) (c : Fin 16)
  | proofTestOverdue (t : Time) (c : Fin 16)
  | ledgerStall (t : Time) (slot : Fin 2048)
  | ledgerScrub (t : Time) (slot : Fin 2048) (copy : Fin 2) (r : ScrubResult)
  | checkpointDone (t : Time) (ok : Bool)
  | tumblerCompare (t : Time)
  | tumblerToleranceExpiry (t : Time)
  | tumblerRederiveDone (t : Time)
  | clearTimerExpiry (t : Time) (v : Fin 2) (sec : Fin 4)
  | disturbedHoldExpiry (t : Time) (v : Fin 2) (sec : Fin 4) (cause : Nat)
  | bemfAlarm (t : Time) (v : Fin 2) (sec : Fin 4)
  | tractionStage (t : Time) (n : Fin 4) (dclink : Bool) (w : Word)
  | tractionCommit (t : Time) (n : Fin 4) (w : Word)
  | tractionStale (t : Time) (n : Fin 4)
  | kinExpiry (t : Time) (sec : Fin 4)
  | skTimeRead (t : Time)
  | deadboltClear (t : Time) (w : Word)
  | mailboxSend (t : Time)
  | mailboxCancel (t : Time)
  | mailboxResponse (t : Time)
  | registerWrite (t : Time) (off : BitVec 16) (size : Nat) (w : Word)
  | hecSourcePending (t : Time) (src : Fin 64)
  | hecAccept (t : Time) (core : Fin 4)
  | hecFirstAccess (t : Time) (core : Fin 4)
  | hecEoi (t : Time) (core : Fin 4) (w : Word)
  | hecPendClear (t : Time) (high : Bool) (w sets : Word)
  | hecTargetWrite (t : Time) (i : Fin 8) (w : Word)
  | hecVbaseWrite (t : Time) (core : Fin 4) (w : Word)
  | clrCounts (t : Time)
  | coreReset (t : Time) (core : Fin 4)
  | cvuCtrlWrite (t : Time) (u : Fin 2) (w : Word)
  | start (t : Time) (u : Fin 2)
  | finish (t : Time) (u : Fin 2)
  | clrRej (t : Time) (u : Fin 2)
  | cvuData (t : Time) (u : Fin 2) (width : Nat) (w : Word)
  | cvuValWrite (t : Time) (u : Fin 2) (w : Word)
  | haspGateClose (t : Time) (port : Fin 4)
  | haspSend (t : Time) (k : Fin 8)
  | haspReceive (t : Time) (port : Fin 4) (f : Frame)
  | connectionTimeout (t : Time) (k : Fin 8)
  | laneTimeout (t : Time) (k : Fin 8) (lane : Fin 2)
  | mirrorGapTimeout (t : Time) (k : Fin 8)
  | attestTimeout (t : Time) (sec : Fin 4)
  | attestRetry (t : Time) (sec : Fin 4)
  | attestHeldClear (t : Time) (sec : Fin 4)
  | selfAttestation (t : Time) (sec : Fin 4)
  | pitchCommit (t : Time) (src : SdpSrc)
  | pitchTime (t : Time)
  | strike (t : Time) (src : SdpSrc)
  | sweepRequest (t : Time) (src : SdpSrc)
  | directClear (t : Time) (src : SdpSrc)
  | rereference (t : Time) (src : SdpSrc)
  | bemfRelease (t : Time) (src : SdpSrc)
  | keySlotLoad (t : Time) (src : SdpSrc)
  | noEntryRelease (t : Time) (src : SdpSrc)
  | scanNow (t : Time) (src : SdpSrc)
  | proofNow (t : Time) (src : SdpSrc)
  | releaseOverride (t : Time) (src : SdpSrc)
  | sdpOpen (t : Time) (src : SdpSrc)
  | sdpClose (t : Time) (src : SdpSrc)
  | sdpRead (t : Time) (src : SdpSrc)
  | sdpWrite (t : Time) (src : SdpSrc)
  | readInit (t : Time) (src : SdpSrc)
  | readSeg (t : Time) (src : SdpSrc)
  | writeInit (t : Time) (src : SdpSrc)
  | writeSeg (t : Time) (src : SdpSrc)
  | xferAbort (t : Time) (src : SdpSrc)
  | txnBegin (t : Time) (src : SdpSrc)
  | txnEnd (t : Time) (src : SdpSrc) (w : StoreRun)
  | txnDiscard (t : Time) (src : SdpSrc)
  | unknownOp (t : Time) (src : SdpSrc)
  | challenge (t : Time) (src : SdpSrc)
  | response (t : Time) (src : SdpSrc)
  | sessionLevel (t : Time) (src : SdpSrc)
  | pendingCommit (t : Time) (src : SdpSrc)
  | pendingDiscard (t : Time) (src : SdpSrc)
  | waitingCancel (t : Time) (src : SdpSrc)
  | rollback (t : Time) (src : SdpSrc) (w : StoreRun)
  | rerun (t : Time) (src : SdpSrc) (w : StoreRun)
  | recAdvance (t : Time) (src : SdpSrc)
  | validationTimeout (t : Time)
  | sessionIdleTimeout (t : Time) (sess : Fin 5)
  | transferTimeout (t : Time) (sess : Fin 5)
  | pendingTimeout (t : Time) (sess : Fin 5)
  | txnTimeout (t : Time)
  | raiseBarExpiry (t : Time) (sess : Fin 5)
  | configWanted (t : Time)
  | imageCheckDone (t : Time) (okA okB : Bool) (version : Word)
  | recorderEvent (t : Time) (ev : RecEvent)
  | recordWritten (t : Time) (rowFails : Nat) (row : BitVec 16)
  | tokenRefill (t : Time) (cls : BitVec 8)
  | suppressionRunEnd (t : Time) (cls : BitVec 8)
  | linkUp (t : Time) (port : Fin 4) (capable requests : Bool)
  | linkDown (t : Time) (port : Fin 4)
  | frameReceive (t : Time) (port : Fin 4) (f : Frame)
  | addressAgeout (t : Time)
  | nodeTableAgeout (t : Time)
  | prpTrailerEnable (t : Time)
  | supervisionFrame (t : Time)
  | announce (t : Time) (port : Fin 4) (a : AnnounceInfo)
  | pdelayReq (t : Time) (port : Fin 4) (delay : Option Nat)
  | sync (t : Time) (port : Fin 4) (gmTime : Time)
  | syncTimeout (t : Time)
  | holdoverExpiry (t : Time)
  | syncPpsEdge (t : Time)
  | syncPpsTimeout (t : Time)
  | syncPpsOutput (t : Time)
  | tbClockLoss (t : Time)
  | sleepExecute (t : Time)
  | wakeTimer (t : Time)
  | wakeComplete (t : Time) (r : WakeReport)
  | hibernateHaspSend (t : Time) (k : Fin 8)
  | isolationRequest (t : Time) (h : Fin 8) (durUs patterns : Nat)
  | isolationReady (t : Time)
  | testDone (t : Time) (patterns : Nat) (good : Bool)
  | testDoneTimeout (t : Time)
  | isolationReturnDone (t : Time)
  | memoryScrub (t : Time) (v : Fin 2) (r : ScrubResult)
  | comparatorTest (t : Time) (v : Fin 2) (ok : Bool)
  | tumblerTest (t : Time) (ok : Bool)
  | deadboltPathTest (t : Time) (n : Fin 4) (ok : Bool)
  | authKnownAnswer (t : Time) (ok : Bool)
  | mramRefresh (t : Time) (mem : RefreshMem) (row : Nat) (ok : Bool)
  | deFailure (t : Time) (d : Fin 2)
  | crystalLoss (t : Time)
  | rcLoss (t : Time)
  | storeEccError (t : Time) (key : Nat)
  | dieOvertemp (t : Time)
  | blankingWindowEdge (t : Time) (src : Fin 6) (level : Bool)
  | contactBounce (t : Time)
  | cutThroughStart (t : Time) (port : Fin 4) (f : Frame)
  | egressFrameEnd (t : Time) (port : Fin 4)
  | syncPpsPulseEnd (t : Time)
  deriving DecidableEq, Repr

end Sys2Proof
end

