-- ==== Sys2Proof/Config.lean ====
section
/-! DEFINITION. What an implementation fixes and what the spec leaves open: free values, opaque constants without a body,
so that no proof can lean on a value of theirs (notes/assumptions 2, 3, 4). -/

namespace Sys2Proof

/-- R299: the n-th random byte the part draws for a Challenge. Free (log entry 2). -/
opaque Config.randomByte : Nat → Byte

/-- Direction of the n-th rounding for which the spec states a unit but no rounding: true rounds up. Free (log entry 3). -/
opaque Config.roundUp : Nat → Bool

/-- The n-th free number: a value the spec leaves open after a step whose other effects it states (log entry 4). -/
opaque Config.freeNat : Nat → Nat

/-- R116: coefficient i, below 31, of the linear-phase filter: the spec fixes its length, its symmetry and its scale and states no
coefficient (log entry 4). -/
opaque Config.tap : Nat → Rat

/-- R101: the scale of a bin of the transform, as an amplitude per unit of its sum: the spec states the window and the length and no
scale (log entry 4). -/
opaque Config.binScale : Rat

/-- R77, R81: FaultCause of a fault by discard, for which the table of R81 has no code (log entry 4). -/
opaque Config.discardCause : Nat

/-- R124, R138: the n-th band value taken where no band stream is valid (log entry 10). -/
opaque Config.freeCx : Nat → Cx

/-- R375: direction in which a distance divided by a speed is rounded to a nanosecond, by distance in mm and speed in mm/s,
where it is not whole. Free (log entry 3). -/
opaque Config.travelUp : Nat → Nat → Bool

/-- R101 and R343 leave the contents of some listings to the implementation: the bytes RepairMap serialises (log entry 4). -/
opaque Config.repairMapBytes : List (Nat × Nat) → List Byte

/-- R352: how many frames a queue of an egress port holds. The spec names no depth (log entry 4). -/
opaque Config.queueDepth : Nat

/-- R231: ATT_ZONE of an answer at t_R where t_R lies outside the zone history: the spec states the flag of the answer and not
the count (log entry 4). -/
opaque Config.zoneNotHeld : Nat → BitVec 16

/-- R326: the text of an image version that FirmwareVersion reads (log entry 4). -/
opaque Config.versionText : Nat → List Byte

end Sys2Proof
end

