-- ==== Sys2Proof/Machine/State.lean ====
section
/-! DEFINITION. The state of the block as plain data, everything the spec gives it, with the state after reset and the
reasons a step can stop. Every structure's defaults are its values at reset (log entries 1, 5 and 6 name those the spec
does not give). -/

namespace Sys2Proof.Machine

/-- Nothing in the spec stops this block with a fault: its faults are states it goes on in (R57, R198, R432). The type has
no constructor, so no step can answer a fault (safe: it forbids nothing the spec allows). -/
inductive Fault where
  deriving DecidableEq, Repr

/-- Why a step is turned away. -/
inductive Refusal where
  /-- Raised by an arm of exec whose command has no meaning yet. Safe: nothing can be proved of what follows. -/
  | notModelled (mnemonic : String)
  deriving DecidableEq, Repr

/-! ### Clock, part and pins -/

/-- R50, R361, R362: elapsed time, and the time base as its distance from it, with the slewing still to be done. -/
structure Clock where
  now   : Time := 0
  tbOff : Int := 0
  slew  : Int := 0
  deriving DecidableEq, Repr

/-- R1, R271: the part's variant. -/
inductive Variant where
  | ty440 | ty420
  deriving DecidableEq, Repr

/-- R326, R328, R301: what is fixed in one part. -/
structure Part where
  variant    : Variant := .ty440
  silRev     : BitVec 8 := 0x21
  serial     : Word := 1
  nodeMac    : Mac := 0x020000000001
  deriving DecidableEq, Repr

/-- R467: one VAFE feed. -/
structure Feed where
  connected : Bool := true
  deriving DecidableEq, Repr

/-- R449 to R458, R465: supplies, contacts and the phase of the part. -/
inductive Phase where
  | held | good | booting | service | removed
  deriving DecidableEq, Repr

/-- R449, R321, R465, R467: pins of supply, backplane and position. -/
structure Pins where
  presentHigh : Bool := true
  auxLow      : Bool := true
  railsBad    : List Rail := [.vafe, .vio, .vcore, .vaon, .vrefm]
  vcoreLost   : Bool := true
  vaonLost    : Bool := true
  feeds       : Vector Feed 2 := Vector.replicate 2 {}
  slotA       : BitVec 12 := 0
  slotB       : BitVec 12 := 0
  releaseAt   : Time := 0
  farewellCause : Nat := 0
  highAt      : Option Time := none
  deriving DecidableEq, Repr

/-! ### Front end -/

/-- R95: ChannelState. -/
inductive ChanPhase where
  | off | calibrating | inService | faulted | paused | isolated
  deriving DecidableEq, Repr

/-- R72: a commanded change that is a settling event. -/
inductive ChanChange where
  | amp (code : Nat) | gain (code : Nat) | burn (code : Nat) | carriers (kL kH : Nat) (plan : Bool)
  deriving DecidableEq, Repr

/-- R72: a settling mask, by the times it covers. `loops` and `curs`: the evaluations of the loop and excitation-current monitors
within it, from which R107 takes A_cal and I_cal. -/
structure Mask where
  start : Time
  until_ : Time
  move  : Bool := false
  oldMag : Rat := 0
  loops : List (Time × Rat) := []
  curs  : List (Time × Rat) := []
  deriving DecidableEq, Repr

/-- R68: a raw sample word, with what R116 demodulates it by: its number within 2,048 samples from the FE reference, the steps of
its channel and its gain code when it was taken. -/
structure RawWord where
  n        : Nat := 0
  kL       : Nat := 0
  kH       : Nat := 0
  gain     : Nat := 0
  data     : BitVec 16
  pol      : Bool
  blanked  : Bool
  settling : Bool
  ovr      : Bool
  invalid  : Bool
  deriving DecidableEq, Repr

/-- R79 to R81: a latched channel fault. `suspect` is in the time base, `at_` in elapsed time; `seen` holds the causes of R81
that the monitors have reported since. -/
structure ChanFault where
  at_     : Time
  suspect : Time
  prov    : Nat := 0
  final   : Bool := false
  seen    : List Nat := []
  deriving DecidableEq, Repr

/-- R60 to R115: one wheel channel. The calibrated per-carrier amplitudes of R101 are held as squares. `kPast`: when the steps last
changed, and those before. `deferred`: changes that wait, true for one that waits for a frame boundary (R64, R113), false for one
that waits for the partner's mask (R73). `cal`, `calStage`: what the calibration under way measures, and how far it has come (R70).
`iqL`, `iqH`: the latest demodulated values (R75). `moveEnd` is the end of the mask of the latest carrier change (R107),
`settledAt` that of the latest mask. -/
structure Chan where
  phase      : ChanPhase := .off
  amp        : Nat := 0
  gain       : Nat := 0
  burn       : Nat := 0
  kL         : Nat := 44
  kH         : Nat := 131
  kPast      : Option (Time × Nat × Nat) := none
  excOn      : Bool := false
  mask       : Option Mask := none
  settledAt  : Time := 0
  deferred   : List (ChanChange × Bool) := []
  plan       : Option (Nat × Nat) := none
  raws       : List RawWord := []
  rawAt      : Time := 0
  invalidRun : Nat := 0
  loopLow    : Nat := 0
  excBad     : Nat := 0
  cmBad      : Nat := 0
  loopOut    : Bool := false
  excOut     : Bool := false
  cmOut      : Bool := false
  boRail     : Bool := false
  lossAt     : Option Time := none
  excOpenAt  : Option Time := none
  fault      : Option ChanFault := none
  faultCause : Nat := 0
  lastFault  : Time := 0
  suspectFrom : Time := 0
  quietSince : Option Time := none
  recal      : Bool := false
  calAt      : Time := 0
  cal        : Option CalReport := none
  calStage   : Nat := 0
  again      : Bool := false
  iqL        : Cx := {}
  iqH        : Cx := {}
  lastClass  : Nat := 0
  moveEnd    : Option Time := none
  aCal       : Rat := 0
  iCal       : Rat := 0
  aRefSqL    : Rat := 0
  aRefSqH    : Rat := 0
  loopAmp    : Rat := 0
  excCur     : Rat := 0
  rawCount   : Nat := 0
  blankCount : Nat := 0
  blankedShare : Nat := 0
  deriving DecidableEq, Repr

/-- R84, R128, R129, R137: the warnings of a channel, each with the latest time its condition or cause was seen, and the
times since which a condition that must last has held. -/
structure Warn where
  raised : List (WarnKind × Time) := []
  since  : List (WarnKind × Time) := []
  deriving DecidableEq, Repr

/-- R98 to R108, R115: scanning and carrier moves of a channel. `winAt`, `endAt`: the start of the latest pause, and its end where it
has ended; `win`: the samples of its analysis window, taken at the gain code `winGain`. `table`: D(k) of the latest scan, held as
a_int² ÷ a_ref²; `open_`: supervisors have still to form their plans from it, those formed stand in `plans`. -/
structure Scan where
  due       : Bool := false
  dueAt     : Time := 0
  lastDone  : Time := 0
  lastTime  : Time := 0
  distLow   : Int := 0
  distHigh  : Int := 0
  spectrum  : List Byte := List.replicate 177 0
  pause     : Option Time := none
  stop      : Bool := false
  resumed   : Bool := false
  reports   : Nat := 0
  winAt     : Time := 0
  endAt     : Time := 0
  winGain   : Nat := 0
  win       : List Int := []
  table     : List Rat := []
  tableAt   : Time := 0
  open_     : Bool := false
  plans     : Vector (Option (Nat × Nat)) 2 := Vector.replicate 2 none
  deriving DecidableEq, Repr

/-- R87 to R89: a resistive channel. Temperatures in 0.1 °C; none is invalid. `goodAt`: the time of the latest valid reading. -/
structure Tch where
  temp    : Option Int := none
  last    : Option Int := none
  lastAt  : Time := 0
  goodAt  : Time := 0
  badRun  : Nat := 0
  goodRun : Nat := 0
  faulted : Bool := false
  deriving DecidableEq, Repr

/-- R74, R109, R110: a blanking source: its signal or pin, and its windows. -/
structure Blank where
  level    : Bool := false
  active   : Bool := false
  since    : Time := 0
  windows  : List (Time × Time) := []
  stuck    : Bool := false
  shortRun : Nat := 0
  deriving DecidableEq, Repr

/-- R90: the level of an AMON output, as R90 states it; in service by the square of min(m, fs) ÷ fs. -/
inductive Amon where
  | pulledDown | off | faultLevel | noMagnitude | level (shareSq : Rat)
  deriving DecidableEq, Repr

/-- The FE domain: channels, resistive channels, blanking sources, monitor outputs and the reference. -/
structure FrontEnd where
  frame   : Nat := 0
  frameAt : Time := 0
  refsLost : Nat := 0
  chans   : Vector Chan 16 := Vector.replicate 16 {}
  warns   : Vector Warn 16 := Vector.replicate 16 {}
  scans   : Vector Scan 16 := Vector.replicate 16 {}
  tch     : Vector Tch 8 := Vector.replicate 8 {}
  blank   : Vector Blank 6 := Vector.replicate 6 {}
  amon    : Vector Amon 4 := Vector.replicate 4 .pulledDown
  deriving DecidableEq, Repr

/-! ### Signal engines -/

/-- R111, R130: why a channel's presence decision is held. -/
inductive Hold where
  | free | settling | takeover
  deriving DecidableEq, Repr

/-- R116 to R118: a valid sample of the fast stream, corrected by R117, and whether its span carries SETTLING. -/
structure FastS where
  zL       : Cx
  zH       : Cx
  settling : Bool
  deriving DecidableEq, Repr

/-- R119 to R138: the detector of one channel. Stamps are in the time base. `clsL` and `clsH` sum d ÷ b (R131); `noClass` marks
a presence carried over by R124; `frozen`: the latest sample left the baseline as it was (R122). `hist`: the valid samples free of
SETTLING over the spans that R134 and R146 judge, oldest first, with the elapsed time of each. -/
structure Det where
  haveB0    : Bool := false
  b0L       : Cx := {}
  b0H       : Cx := {}
  nL        : Cx := {}
  nH        : Cx := {}
  fast      : List (Option FastS) := []
  lastAt    : Time := 0
  evenL     : Cx := {}
  evenH     : Cx := {}
  oddL      : Cx := {}
  oddH      : Cx := {}
  evenN     : Nat := 0
  oddN      : Nat := 0
  pairOk    : Bool := true
  hold      : Hold := .free
  resumeAt  : Time := 0
  present   : Bool := false
  confirmed : Bool := false
  onset     : Time := 0
  windowExt : Nat := 0
  run       : Nat := 0
  runStart  : Time := 0
  peakSq    : Rat := 0
  cenNum    : Rat := 0
  cenDen    : Rat := 0
  clsN      : Nat := 0
  clsL      : Cx := {}
  clsH      : Cx := {}
  noClass   : Bool := false
  ratioSq   : Rat := 0
  lastOnset : Option Time := none
  runBlanked : Bool := false
  frozen    : Bool := false
  hist      : List (Time × FastS) := []
  deriving DecidableEq, Repr

/-- R125, R129, R135, R123: the slow statistics of one channel's detector. -/
structure Stats where
  blockPeakSq : Rat := 0
  blockN      : Nat := 0
  blockAt     : Time := 0
  peaksSq     : List Rat := []
  resSumL     : Rat := 0
  resSumH     : Rat := 0
  resN        : Nat := 0
  noiseRun    : Nat := 0
  driftRun    : Nat := 0
  dMagL       : Int := 0
  dPhL        : Int := 0
  dMagH       : Int := 0
  dPhH        : Int := 0
  driftAt     : Time := 0
  hourL       : Cx := {}
  hourH       : Cx := {}
  hourN       : Nat := 0
  meansT      : List (Time × Rat × Cx × Cx) := []
  kappaAt     : Time := 0
  residual    : Bool := false
  detectCause : Nat := 0
  reRefd      : Bool := false
  deriving DecidableEq, Repr

/-- R145 to R149: the proof test of one channel. Due times are elapsed times; `doneAt` is the end of the last completed test. The
test's start keeps the baselines the phantom is scaled from, the mean of the real samples and the half-width of their quiet band
squared. `injAt`, `fall`: the start of the latest injection, and when and from which share of its height an abort let it fall.
`shadow` and the fields after it: the shadow decision, when it reported each edge, its class, and the sums of d ÷ b and of its
magnitude over the hold. -/
structure Proof where
  due      : Bool := false
  dueAt    : Time := 0
  doneAt   : Option Time := none
  running  : Option Time := none
  failed   : Bool := false
  notBefore : Time := 0
  lastTime : Time := 0
  result   : Nat := 0
  serviceAt : Time := 0
  bL       : Cx := {}
  bH       : Cx := {}
  cL       : Cx := {}
  cH       : Cx := {}
  band     : Rat := 0
  injAt    : Option Time := none
  fall     : Option (Time × Rat) := none
  shadow   : Det := {}
  onsetAt  : Option Time := none
  confirmAt : Option Time := none
  endAt    : Option Time := none
  cls      : Nat := 0
  holdL    : Cx := {}
  holdH    : Cx := {}
  holdEL   : Rat := 0
  holdEH   : Rat := 0
  holdN    : Nat := 0
  deriving DecidableEq, Repr

/-- R140: what an engine checkpoint holds of one channel: the detector with b0, N̂ and the freeze state, b_ref, κ, T, the slow
statistics and the proof test. -/
structure ChanCkpt where
  det   : Det
  ref   : Option (Cx × Cx)
  kapL  : Int × Int
  kapH  : Int × Int
  temp  : Option Int
  stats : Stats
  proof : Proof
  deriving DecidableEq, Repr

/-- R140: an engine checkpoint: its sequence number, whether its CRC-32C holds, the known-answer result, the index and the stamp of
the last sample processed, and both channels. -/
structure EngineCkpt where
  seq   : Nat
  crcOk : Bool
  kat   : Bool
  index : Nat
  stamp : Time
  x     : ChanCkpt
  y     : ChanCkpt
  deriving DecidableEq, Repr

/-- R139 to R144, R434: a signal engine. `hbAt`, `ckAt`: its latest heartbeat and checkpoint since it began to run; `samples`: the
fast samples it has processed. -/
structure Engine where
  failed  : Bool := false
  hbAt    : Option Time := none
  ckAt    : Option Time := none
  samples : Nat := 0
  seq     : Nat := 0
  ckpts   : Vector (Option EngineCkpt) 2 := Vector.replicate 2 none
  deriving DecidableEq, Repr

/-- The engines, the crossbar and what they have reported. -/
structure Engines where
  dets     : Vector Det 16 := Vector.replicate 16 {}
  stats    : Vector Stats 16 := Vector.replicate 16 {}
  proofs   : Vector Proof 16 := Vector.replicate 16 {}
  wse      : Vector Engine 9 := Vector.replicate 9 {}
  assigned : Vector (Option (Fin 9)) 8 := Vector.ofFn fun h => some (h.castLE (by decide))
  takeover : Vector (Option Time) 8 := Vector.replicate 8 none
  storeAt  : Time := 0
  declared : List (Fin 9) := []
  agreed   : Vector (List (Fin 9)) 2 := Vector.replicate 2 []
  out      : List PresenceEvent := []
  deriving DecidableEq, Repr

/-! ### Passages and the Ledger -/

/-- R156: the last END of a system within an episode. -/
structure EndRec where
  stamp    : Time
  centroid : Time
  peak     : Nat
  cls      : Nat
  deriving DecidableEq, Repr

/-- R154 to R158: the episode of a head, as the passage unit and as each supervisor keep it. `onset` and `conf` are per
system (0 X, 1 Y); `prev` is the preceding CANCELLED episode with one system confirmed, its system and last END. -/
structure Episode where
  active   : Bool := false
  complete : Bool := true
  first    : Time := 0
  startY   : Bool := false
  slot     : Option (Fin 2048) := none
  onset    : Vector (Option Time) 2 := Vector.replicate 2 none
  confd    : Vector Bool 2 := Vector.replicate 2 false
  conf     : Vector (Option Time) 2 := Vector.replicate 2 none
  ends     : Vector (Option EndRec) 2 := Vector.replicate 2 none
  takeover : Vector Bool 2 := Vector.replicate 2 false
  blanked  : Vector Bool 2 := Vector.replicate 2 false
  settling : Vector Bool 2 := Vector.replicate 2 false
  prev     : Option (Fin 2 × Time) := none
  deriving DecidableEq, Repr

/-- R164: STATE of a Ledger entry. -/
inductive EntryState where
  | free | opn | detected | countedOne | counted | attested | cancelled | void
  deriving DecidableEq, Repr

/-- R163, R168: a Ledger entry, with the unrounded values the rules use beside it (R160, R165, R170), the acknowledgement bit of
its copy with its parity bit, the number of the count that set it in the order of its supervisor's counts, and when. -/
structure Entry where
  seq    : BitVec 16 := 0
  head   : Fin 8 := 0
  dir    : Bool := false
  st     : EntryState := .free
  cls    : Nat := 0
  qual   : BitVec 5 := 0
  stamp  : Time := 0
  speed  : Nat := 0
  dxy    : Nat := 0
  dwell  : Nat := 0
  tc     : Time := 0
  mid    : Time := 0
  peakX  : Nat := 0
  peakY  : Nat := 0
  since  : Time := 0
  ckpt   : Bool := false
  ack    : Bool := false
  ackPar : Bool := false
  ackNo  : Nat := 0
  ackAt  : Time := 0
  deriving DecidableEq, Repr

/-- One copy of the Ledger: the slots in use, slot number rising, none of them FREE. -/
abbrev LedgerCopy := List (Nat × Entry)

/-- R163 to R171: both copies, with what the Ledger keeps beside them. -/
structure Ledger where
  copies  : Vector LedgerCopy 2 := Vector.replicate 2 []
  fenced  : List Nat := []
  nextSeq : BitVec 16 := 0
  peakUse : Nat := 0
  forgotten : Nat := 0
  deriving DecidableEq, Repr

/-- The passage unit. `gone`: events that the engines still had to hand over and that are dealt with already: processed before a
later one (R153) or discarded at a takeover (R174). -/
structure PassageUnit where
  eps     : Vector Episode 8 := Vector.replicate 8 {}
  gone    : List PresenceEvent := []
  discard : Vector Bool 8 := Vector.replicate 8 false
  stopped : Bool := false
  lastSeq : Vector (BitVec 16) 8 := Vector.replicate 8 0
  voidCause : Vector Nat 8 := Vector.replicate 8 0
  deriving DecidableEq, Repr

/-! ### Supervisors -/

/-- R32: section states. -/
inductive SecState where
  | clear | occupied | disturbed | restoring | prepared | unconfigured
  deriving DecidableEq, Repr

/-- What reaches a supervisor between two of its steps: a forwarded event with its episode's slot (R153), a head fault
(R173), a cause found elsewhere for a set of sections (R198) with the leg whose boundary it concerns (R249). -/
inductive Notice where
  | presence (ev : PresenceEvent) (slot : Option (Fin 2048)) (ended : Bool)
  | headFault (h : Fin 8)
  | cause (sec : Fin 4) (code : Nat) (leg : Option (Fin 4))
  deriving DecidableEq, Repr

/-- R182: where a passage of a section's settle queue was counted. -/
inductive QPlace where
  | leg (n : Fin 4) | nbr (n : Fin 4) | interior
  deriving DecidableEq, Repr

/-- R180, R181: a passage in a settle queue. `pri` orders equal T_C (R184). -/
structure QPass where
  tc    : Time
  place : QPlace
  into  : Bool
  pri   : Nat
  speed : Nat := 0
  clean : Bool := true
  deriving DecidableEq, Repr

/-- R225: an axle in the model of an overlap zone; atOwn: it entered at the own leg head. -/
structure Axle where
  tc    : Time
  speed : Nat
  clean : Bool
  atOwn : Bool
  deriving DecidableEq, Repr

/-- R247 to R250: the latest changes of a flag, oldest first, with the time base's time of each. -/
abbrev FlagLog := List (Time × Bool)

/-- R179, R186, R248, R249: the counters of one section in one supervisor's set. `soundLog`: how `sound` has changed. -/
structure SecCnt where
  b      : Nat := 0
  bs     : Int := 0
  z      : Vector Int 6 := Vector.replicate 6 0
  tSet   : Time := 0
  queue  : List QPass := []
  hist   : Vector (List (Time × Int)) 4 := Vector.replicate 4 []
  recent : List QPass := []
  sound  : Bool := false
  soundLog : FlagLog := []
  taint  : Bool := true
  taintLeg : Vector Bool 4 := Vector.replicate 4 false
  tq     : Time := 0
  transit : Vector (List Axle) 4 := Vector.replicate 4 []
  transitOff : Vector Bool 4 := Vector.replicate 4 false
  deriving DecidableEq, Repr

/-- R179, R231, R249: the counters and histories of one own head in one supervisor's set. -/
structure HeadCnt where
  pos   : Word := 0
  neg   : Word := 0
  hist  : List (Time × Bool) := []
  eps   : List (Time × Time) := []
  histFull : Bool := false
  epsFull  : Bool := false
  deriving DecidableEq, Repr

/-- R38, R39, R46, R193, R196, R199, R262: a supervisor's proposal for one section. Event causes are held with the elapsed time
of their latest occurrence. -/
structure Prop_ where
  state     : SecState := .unconfigured
  since     : Time := 0
  dirValid  : Bool := false
  dir       : Bool := false
  dirLeg    : Fin 4 := 0
  provisional : Bool := false
  provHead  : Option (Fin 8) := none
  legBusy   : BitVec 4 := 0
  noEntry   : Bool := true
  causes    : List (Nat × Time) := []
  condCauses : List Nat := []
  witness   : Bool := false
  first     : Nat := 0
  clearAt   : Option Time := none
  bemfAt    : Option Time := none
  c3FailAt  : Time := 0
  c7FailAt  : Time := 0
  selfAt    : Option Time := none
  entryLeg  : Option (Fin 4) := none
  sweptIn   : Bool := false
  route     : Nat := 0
  routeT    : Time := 0
  deriving DecidableEq, Repr

/-- R210, R212: one passage record of a telegram. -/
structure PassRec where
  tc    : Time
  pnum  : Nat
  into  : Bool
  qual  : Nat
  cls   : Nat
  speed : Nat
  deriving DecidableEq, Repr

/-- R210: the fields of a telegram. -/
structure Tele where
  typ        : Nat := 0
  auth       : Nat := 0
  alive      : Nat := 0
  sender     : Nat := 0
  sendTime   : Time := 0
  completeTo : Time := 0
  ackTo      : Time := 0
  epoch      : Nat := 0
  overlap    : Nat := 0
  period     : Nat := 0
  bhead      : Nat := 0
  secState   : Nat := 5
  farewell   : Nat := 0
  flags      : Nat := 0
  speed      : Nat := 0xFFFF
  linkBreaks : Nat := 0
  bal        : Nat := 0
  voidHeads  : Nat := 0
  zoneTime   : Time := 0
  zoneCount  : Int := 0
  cumIn      : Nat := 0
  cumOut     : Nat := 0
  farHorizon : Nat := 0
  farDist    : Nat := 0
  reqTime    : Time := 0
  attTime    : Time := 0
  attIn      : Nat := 0
  attOut     : Nat := 0
  attZone    : Int := 0
  attFlags   : Nat := 0
  recs       : List PassRec := []
  deriving DecidableEq, Repr

/-- R217 to R232: one supervisor's side of a connection. -/
structure SvConn where
  inService  : Bool := false
  farewell   : Bool := false
  last       : Option Tele := none
  lastBytes  : List Byte := []
  lastAt     : Time := 0
  mirrorIn   : Word := 0
  mirrorOut  : Word := 0
  delivered  : Time := 0
  tN         : Option Time := none
  ackAt      : Time := 0
  reinit     : Bool := true
  gapSince   : Option Time := none
  detail     : Nat := 0
  pendCmp    : List (Time × Int) := []
  matched    : Option Time := none
  sendRecs   : List PassRec := []
  since      : Time := 0
  unread     : List (Bool × Tele) := []
  deriving DecidableEq, Repr

/-- R255: an accepted answer of a connection. -/
structure Answer where
  zov : Int
  cum : Int
  deriving DecidableEq, Repr

/-- R256, R257: a result: per section of the group the core and the total, and per outer leg the count of its overlap zone. -/
structure Result where
  sums  : List (Int × Int) := []
  zones : List ((Fin 4 × Fin 4) × Int) := []
  deriving DecidableEq, Repr

/-- R254 to R260: restoration of one section (of the group it leads) in one supervisor. -/
structure Rest where
  state    : Nat := 0
  refusal  : Nat := 0
  onceOnly : Bool := false
  tR       : Time := 0
  reqAt    : Time := 0
  tRAt     : Time := 0
  group    : BitVec 4 := 0
  answers  : Vector (Option Answer) 8 := Vector.replicate 8 none
  breaks   : Vector (Option Nat) 8 := Vector.replicate 8 none
  latest   : Vector (Option Nat) 8 := Vector.replicate 8 none
  result   : Option Result := none
  retryAt  : Option Time := none
  deriving DecidableEq, Repr

/-- R275, R277: a permit vote: rise, or drop with the cause of R277. -/
inductive Vote where
  | rise | drop (cause : Nat)
  deriving DecidableEq, Repr

/-- R337: SvState. -/
inductive SvState where
  | booting | inService | survivor | failed
  deriving DecidableEq, Repr

/-- R369: power states. -/
inductive PState where
  | active | watch | lull | hibernate
  deriving DecidableEq, Repr

/-- One supervisor (R44): its own derivations, counter set, proposals, mirrors, votes and horizons. An absent time in a
horizon is infinite. `lastSeq`: SEQ of the last entry counted of each head (R168); `counts`: entries counted so far. -/
structure Sv where
  st        : SvState := .booting
  failCause : Nat := 0
  failTime  : Time := 0
  overruns  : Nat := 0
  imageCrc  : Word := 0
  inbox     : List Notice := []
  der       : Vector Episode 8 := Vector.replicate 8 {}
  todo      : List (Fin 2048 × BitVec 4) := []
  heads     : Vector HeadCnt 8 := Vector.replicate 8 {}
  secs      : Vector SecCnt 4 := Vector.replicate 4 {}
  props     : Vector Prop_ 4 := Vector.replicate 4 {}
  conns     : Vector SvConn 8 := Vector.replicate 8 {}
  lastSeq   : Vector (BitVec 16) 8 := Vector.replicate 8 0
  counts    : Nat := 0
  rests     : Vector Rest 4 := Vector.replicate 4 {}
  votes     : Vector Vote 4 := Vector.replicate 4 (.drop 0)
  entry     : Vector (Option Time) 16 := Vector.replicate 16 none
  horizon   : Vector (Option Time) 8 := Vector.replicate 8 none
  power     : PState := .active
  budget    : Option Nat := some 0
  limiter   : Nat := 0
  limitHead : Nat := 0xFF
  stepped   : Bool := false
  deriving DecidableEq, Repr

/-! ### Count keeper, Verdict port and Deadbolt -/

/-- R46, R52, R199, R200: a merged Verdict. `first`: the code that made the section DISTURBED. -/
structure Merged where
  state    : SecState := .unconfigured
  bal      : Nat := 0
  dirValid : Bool := false
  dir      : Bool := false
  legBusy  : BitVec 4 := 0
  noEntry  : Bool := true
  bemf     : Bool := false
  chg      : BitVec 6 := 0
  since    : Time := 0
  distSince : Time := 0
  first    : Nat := 0
  deriving DecidableEq, Repr

/-- R53, R54, R277, R444: the Deadbolt latch of one permit. -/
structure Permit where
  latch    : Bool := false
  qualAt   : Option Time := none
  cause    : Nat := 0
  gateShut : Bool := false
  testAt   : Time := 0
  lowSince : Option Time := none
  deriving DecidableEq, Repr

/-- R187: what the Tumbler is tolerating: since when counters and proposals of a section, and counters of a head, differ. -/
structure Tumbler where
  secAt   : Vector (Option Time) 4 := Vector.replicate 4 none
  propAt  : Vector (Option Time) 4 := Vector.replicate 4 none
  headAt  : Vector (Option Time) 8 := Vector.replicate 8 none
  rederiving : Bool := false
  rederiveAt : Time := 0
  failing : Bool := false
  deriving DecidableEq, Repr

/-- R245, R269: the content of a checkpoint, whether its check holds, and whether CheckpointSlotErrors has counted that it does
not. -/
structure Checkpoint where
  seq      : Nat
  time     : Time
  position : Nat
  pos      : Vector Word 8
  neg      : Vector Word 8
  cumValid : Vector Bool 8
  epochs   : Vector Nat 4
  lastEpochs : Vector Nat 4
  states   : Vector SecState 4
  bal      : Vector Nat 4
  bs       : Vector Int 4
  z        : Vector (Vector Int 6) 4
  tSet     : Vector Time 4
  sound    : Vector Bool 4
  barred   : Vector Bool 4
  braking  : Vector Bool 4
  breaks   : Vector Nat 8
  good     : Bool
  counted  : Bool := false
  deriving DecidableEq, Repr

/-- R46 to R54, R187, R245, R247, R40: what the keeper holds for both supervisors. `fdropAt` and `fheadAt`: when hardware last set
each flag (R7). -/
structure Keeper where
  merged    : Vector Merged 4 := Vector.replicate 4 {}
  holding   : Vector (Option Word) 4 := Vector.replicate 4 none
  waiting   : Vector Bool 4 := Vector.replicate 4 false
  shadow    : Vector Word 4 := Vector.replicate 4 0x0000000D
  permits   : Vector Permit 4 := Vector.replicate 4 {}
  fdrop     : BitVec 4 := 0
  fhead     : BitVec 8 := 0
  fdropAt   : Vector (Option Time) 4 := Vector.replicate 4 none
  fheadAt   : Vector (Option Time) 8 := Vector.replicate 8 none
  degraded  : Bool := false
  degradedAt : Option Time := none
  expired   : BitVec 4 := 0
  failedAt  : Option Time := none
  tumbler   : Tumbler := {}
  cumValid  : Vector (Option Time) 8 := Vector.replicate 8 none
  cumLog    : Vector FlagLog 8 := Vector.replicate 8 []
  braking   : Vector Bool 4 := Vector.replicate 4 false
  farewell  : Bool := false
  barred    : Vector Bool 4 := Vector.replicate 4 false
  barredLog : Vector FlagLog 4 := Vector.replicate 4 []
  breaks    : Vector Nat 8 := Vector.replicate 8 0
  ckBusy    : Option Checkpoint := none
  ckBal     : Vector Int 4 := Vector.replicate 4 0
  neighbour : Word := 0x0000FFFF
  deriving DecidableEq, Repr

/-! ### Traction side and host window -/

/-- R204, R279 to R283: the traction status of one stage. `braked`: committed blocks in which short-circuit braking has risen, on
their way to the supervisors, oldest first. `lastValid`: the latest valid back-EMF reading. -/
structure Traction where
  stBemf   : Word := 0
  stDc     : Word := 0
  bemf     : Word := 0
  dclink   : Word := 0
  ctrl     : Word := 0
  any      : Bool := false
  commitAt : Time := 0
  fresh    : Bool := false
  takeAny  : Bool := true
  rejects  : Nat := 0
  braked   : List (Word × Word × Word) := []
  lastValid : Nat := 0
  deriving DecidableEq, Repr

/-- R287: a kinematic block. -/
structure Kin where
  seq      : BitVec 8 := 0
  valid    : Bool := false
  dir      : Bool := false
  prov     : Bool := false
  reversed : Bool := false
  held     : Bool := false
  refPoint : Nat := 0xF
  axles    : Nat := 0
  speed    : Int := 0
  ref      : Time := 0
  unc0     : Nat := 0
  uncSpd   : Nat := 0
  acc      : Nat := 0
  maxAge   : Nat := 0
  entry    : Time := 0
  entryLeg : Nat := 0
  deriving DecidableEq, Repr

/-- R290, R291: the mailbox. `respAt`, `overAt`, `cancAt`: when RESP_READY, OVERRUN and CANCELLED were last set (R7); `ahead`: the
requests of the field network that were received before the one in progress (R308). -/
structure Mailbox where
  busy      : Bool := false
  respReady : Bool := false
  overrun   : Bool := false
  cancelled : Bool := false
  respAt    : Option Time := none
  overAt    : Option Time := none
  cancAt    : Option Time := none
  reqLen    : Nat := 0
  respLen   : Nat := 0
  req       : List Word := List.replicate 64 0
  resp      : List Word := List.replicate 64 0
  current   : Option (List Byte) := none
  ahead     : Nat := 0
  staged    : Option (List Byte) := none
  deriving DecidableEq, Repr

/-- The HOST domain's own registers: the time latch (R272) and the mailbox. -/
structure HostRegs where
  timeLo  : Word := 0
  timeHi  : Word := 0
  mailbox : Mailbox := {}
  deriving DecidableEq, Repr

/-- R396, R397, R403: the in-service slot of one core. `errAt`: when EOI_ERR was last set (R7). -/
structure HecSlot where
  busy     : Bool := false
  src      : Fin 64 := 0
  accessed : Bool := false
  ceased   : Bool := false
  gone     : Bool := false
  eoiErr   : Bool := false
  errAt    : Option Time := none
  deriving DecidableEq, Repr

/-- R392 to R406: the host event controller. `setAt`, `goneAt`, `lostAt`: when hardware last set each pending flag (R7) and advanced
each counter (R406); `prev`: the offers of the cycle before the last arbitration `arbAt` (R406); `levels`: the level conditions at entry
to HIBERNATE (R405). -/
structure Hec where
  target   : Vector (BitVec 3) 64 := Vector.replicate 64 0
  vbase    : Vector Word 4 := Vector.replicate 4 0
  slots    : Vector HecSlot 4 := Vector.replicate 4 {}
  pend     : BitVec 64 := 0
  setAt    : Vector (Option Time) 64 := Vector.replicate 64 none
  goneCnt  : Vector Word 4 := Vector.replicate 4 0
  lostClr  : Vector (BitVec 16) 64 := Vector.replicate 64 0
  goneAt   : Vector (Option Time) 4 := Vector.replicate 4 none
  lostAt   : Vector (Option Time) 64 := Vector.replicate 64 none
  offer    : Vector (Option (Fin 64 × Word)) 4 := Vector.replicate 4 none
  prev     : Vector (Option (Fin 64 × Word)) 4 := Vector.replicate 4 none
  arbAt    : Option Time := none
  levels   : BitVec 64 := 0
  inflight : List Nat := []
  held     : List Instr := []
  deriving DecidableEq, Repr

/-- R409 to R412: one host check-value unit. `clrAt`: when CLR_REJ last cleared the count (R414). -/
structure Cvu where
  poly      : BitVec 2 := 0
  aliveEn   : Bool := false
  mode      : Bool := false
  window    : BitVec 4 := 4
  sync      : Bool := false
  val       : Word := 0
  result    : Word := 0
  aliveTx   : BitVec 16 := 0
  aliveRx   : BitVec 16 := 0
  aliveLast : BitVec 16 := 0
  expect    : Word := 0
  pass      : Bool := false
  crcBad    : Bool := false
  aliveBad  : Bool := false
  rej       : Word := 0
  clrAt     : Option Time := none
  deriving DecidableEq, Repr

/-! ### Hasp layer -/

/-- R214 to R220, R229, R238, R386: the Hasp layer's side of a connection. `lastSlot` is the SEND_TIME last used, `lastBefore` the
telegram last accepted before entry to HIBERNATE. The entry bounds of R386 are those of the supervisors' latest telegrams. -/
structure HaspConn where
  alive     : BitVec 16 := 0
  sent      : Bool := false
  done      : Bool := false
  lastSlot  : Option Time := none
  laneGood  : Vector (Option Time) 2 := Vector.replicate 2 none
  laneOut   : Vector Bool 2 := Vector.replicate 2 true
  lastAcc   : Time := 0
  lastAge   : Nat := 0
  rejCrc    : Nat := 0
  rejAuth   : Nat := 0
  rejSource : Nat := 0
  rejAlive  : Nat := 0
  rejAge    : Nat := 0
  rejConfig : Nat := 0
  rejFormat : Nat := 0
  dups      : Nat := 0
  stale     : Nat := 0
  noEntry   : Bool := true
  template  : Vector (Option Tele) 2 := Vector.replicate 2 none
  lastBefore : Option Tele := none
  deriving DecidableEq, Repr

/-- R205 to R238: the Hasp layer. -/
structure Hasp where
  conns   : Vector HaspConn 8 := Vector.replicate 8 {}
  unknown : Nat := 0
  deriving DecidableEq, Repr

/-! ### Object dictionary -/

/-- R313: a pending entry: index × 256 + sub, and its value's bytes. -/
abbrev KeyVal := Nat × List Byte

/-- R304: a segmented transfer. -/
structure Xfer where
  key    : Nat
  write  : Bool
  data   : List Byte
  size   : Nat
  next   : Nat
  lastAt : Time
  txn    : Bool := false
  timedOut : Bool := false
  deriving DecidableEq, Repr

/-- R297 to R300, R313, R341: a session. Session 0 is the mailbox. `lastResp`: the response to the request `lastReq`, empty while it
has none; `before`: REQID, request and response as they stood before it; `recStale`: the recorder's cursor is one of before a clear
(R431). -/
structure Session where
  opened    : Bool := false
  mac       : Mac := 0
  level     : Nat := 0
  idle      : Nat := 0
  lastAt    : Time := 0
  reqId     : Option Nat := none
  lastReq   : List Byte := []
  lastResp  : List Byte := []
  before    : Option (Option Nat × List Byte × List Byte) := none
  challenge : Option (List Byte × Time) := none
  refusals  : Nat := 0
  barUntil  : Option Time := none
  key       : List Byte := []
  authed    : Bool := false
  raiseSlot : Nat := 0
  pending   : List KeyVal := []
  pendAt    : Time := 0
  xfer      : Option Xfer := none
  xferOver  : Bool := false
  ledCursor : Nat := 0
  ledCopy   : Nat := 0
  recCursor : Nat := 0
  recStale  : Bool := false
  deriving DecidableEq, Repr

/-- R317: the open transaction. -/
structure Txn where
  sess   : Fin 5
  number : Nat
  items  : List KeyVal := []
  lastAt : Time
  deriving DecidableEq, Repr

/-- R306: a request that waits for the supervisors. -/
structure WaitingReq where
  src  : SdpSrc
  at_  : Time
  deriving DecidableEq, Repr

/-- R294 to R323: the dictionary engines: sessions, the open transaction, requests that wait for the supervisors, the working
configuration, entries whose stored value was lost, the engines out of service, position binding. `jrnOpen`: an interrupted
journal stands since start-up; `jrnReply`: the response due at the end of a journal under way. -/
structure Sdp where
  sessions : Vector Session 5 := (Vector.replicate 5 {}).set 0 { opened := true }
  txn      : Option Txn := none
  waiting  : List WaitingReq := []
  work     : List KeyVal := []
  eccBad   : List Nat := []
  deOut    : Vector Bool 2 := Vector.replicate 2 false
  deFails  : Vector Nat 2 := Vector.replicate 2 0
  position : Nat := 0xFFFF
  posState : Nat := 1
  emcyCount : Nat := 0
  wantedAt : Time := 0
  random   : Nat := 0
  jrnOpen  : Bool := false
  jrnReply : Option (Fin 5 × SdpSrc × List Byte) := none
  deriving DecidableEq, Repr

/-! ### Field network and time base -/

/-- R350, R352, R355: a frame on its way out of a port. -/
structure TxFrame where
  frame  : Frame
  cls    : Nat
  cut    : Bool := false
  badFcs : Bool := false
  deriving DecidableEq, Repr

/-- R344 to R352, R358 to R360: one port. `role` is the port state of R358: 0 disabled, 1 master, 2 slave, 3 passive. `pdelayAt`
is when the next Pdelay_Req is due, `gate` the SEND_TIME for which the port's gate is closed; both are elapsed times. -/
structure Port where
  link     : Bool := false
  level24  : Bool := false
  asCapable : Bool := false
  delay    : Nat := 0
  exchanges : Nat := 0
  pdelayAt : Time := 0
  role     : Nat := 0
  best     : Option AnnounceInfo := none
  queues   : Vector (List TxFrame) 3 := Vector.replicate 3 []
  sending  : Option TxFrame := none
  gate     : Option Time := none
  deriving DecidableEq, Repr

/-- R349 to R357: the switch and parallel redundancy. `sent` holds frames that ended on an egress port since reset. -/
structure Net where
  ports    : Vector Port 4 := Vector.replicate 4 {}
  stopped  : Bool := false
  learnt   : List (Mac × Bool × Time) := []
  seqNr    : BitVec 16 := 0
  trailers : Bool := false
  seen     : List (Mac × BitVec 16 × Time) := []
  nodes    : List (Mac × Time) := []
  discards : Nat := 0
  wrongA   : Nat := 0
  wrongB   : Nat := 0
  delivered : List (Fin 4 × Frame) := []
  sent     : List (Fin 4 × TxFrame) := []
  superAt  : Option Time := none
  deriving DecidableEq, Repr

/-- R361 to R365: the time base. -/
structure TimeBase where
  state    : Nat := 0
  stepped  : Bool := false
  offset   : Int := 0
  gmId     : BitVec 64 := 0
  slave    : Option (Fin 4) := none
  good     : Nat := 0
  bad      : Nat := 0
  lastSync : Time := 0
  holdAt   : Time := 0
  holdOff  : Nat := 0
  signals  : Nat := 0
  ppsRun   : Nat := 0
  ppsLock  : Bool := false
  ppsAt    : Option Time := none
  ppsPhase : Nat := 0
  ppsOut   : Bool := false
  ppsOutAt : Time := 0
  deriving DecidableEq, Repr

/-! ### Power, recorder, self-test -/

/-- R369 to R391: the power manager. -/
structure Power where
  state    : PState := .active
  decision : Option PState := none
  waking   : Option (PState × Time) := none
  lastWake : Option Time := none
  latched  : List Nat := []
  enteredAt : Time := 0
  crystalLost : Bool := false
  rcLost   : Bool := false
  deriving DecidableEq, Repr

/-- R421: the rate limiter of one class. `held`: its run has ended and the summary waits for a slot (R431). -/
structure Bucket where
  cls     : BitVec 8
  tokens  : Nat := 32
  refillAt : Option Time := none
  runFrom : Option Time := none
  runLast : Time := 0
  runTb   : Time := 0
  runTbLast : Time := 0
  count   : Nat := 0
  first   : BitVec 16 := 0
  last    : BitVec 16 := 0
  held    : Bool := false
  deriving DecidableEq, Repr

/-- R416, R420: an event in the intake queue. -/
structure Queued where
  ev      : RecEvent
  summary : Bool := false
  degraded : Bool := false
  queued  : Bool := false
  deriving DecidableEq, Repr

/-- R420 to R431: the volatile side of the recorder. `stopAt`: when memory failure last stopped it (R431). -/
structure Intake where
  offered  : List RecEvent := []
  queue    : List Queued := []
  writing  : Option Queued := none
  buckets  : List Bucket := []
  suppressed : Nat := 0
  overflow : Nat := 0
  lost     : Option (Nat × Time × BitVec 16) := none
  discarded : Nat := 0
  clearBy  : Option Nat := none
  stopAt   : Option Time := none
  deriving DecidableEq, Repr

/-- R435 to R442: an isolation test. stage: 0 requested, 1 granted, 2 with the test controller, 3 returning. -/
structure Isolation where
  head     : Fin 8
  durNs    : Nat
  patterns : Nat
  stage    : Nat := 0
  grantAt  : Time := 0
  grantTb  : Time := 0
  startAt  : Time := 0
  secs     : BitVec 4 := 0
  wheel    : Bool := false
  abortAt  : Option Time := none
  x        : Det := {}
  y        : Det := {}
  deriving DecidableEq, Repr

/-- R435 to R444, R432: the self-test coordinator. -/
structure SelfTest where
  iso       : Option Isolation := none
  refusal   : Nat := 0
  drop      : BitVec 4 := 0
  result    : Nat := 0
  patterns  : Nat := 0
  planned   : Nat := 0
  abortSent : Bool := false
  authFail  : Bool := false
  softRepairs : Nat := 0
  deriving DecidableEq, Repr

/-! ### What survives a reset -/

/-- R12, R95, R98, R108, R115, R121 to R124, R135, R151: what is stored for a channel. κ of each carrier counts once it is known.
`moves`: when its carriers moved within the last hour and the holdoff. -/
structure NvChan where
  faultCount : Nat := 0
  learnedLow : Option Nat := none
  learnedHigh : Option Nat := none
  moveCount  : Nat := 0
  moves      : List Time := []
  kapL       : Int × Int := (0, 0)
  kapH       : Int × Int := (0, 0)
  kapLKnown  : Bool := false
  kapHKnown  : Bool := false
  b0         : Option (Cx × Cx) := none
  ref        : Option (Cx × Cx) := none
  aCal       : Rat := 0
  gain       : Nat := 0
  proofCount : Nat := 0
  minPeak    : Nat := 0xFFFF
  deriving DecidableEq, Repr

/-- R152, R178, R201, R269: what is stored for a head. -/
structure NvHead where
  takeovers : Nat := 0
  withdrawn : Nat := 0
  rejects   : Nat := 0
  cancelled : Nat := 0
  voids     : Nat := 0
  splits    : Nat := 0
  lastTime  : Time := 0
  lastDir   : Nat := 0xFF
  lastRebase : Int := 0
  deriving DecidableEq, Repr

/-- R204, R268, R269: what is stored for a section. -/
structure NvSec where
  disturbed : Nat := 0
  resolved  : Nat := 0
  mismatch  : Nat := 0
  late      : Nat := 0
  unchecked : Nat := 0
  lastClear : Time := 0
  restoreTime : Time := 0
  route     : Nat := 0
  restores  : Nat := 0
  epoch     : Nat := 0
  lastEpoch : Nat := 0
  epochStart : Time := 0
  deriving DecidableEq, Repr

/-- R238: what is stored for a connection. -/
structure NvConn where
  transitUnchecked : Nat := 0
  laneLoss : Vector Nat 2 := Vector.replicate 2 0
  loss     : Nat := 0
  deriving DecidableEq, Repr

/-- R316: a waiting set. -/
structure WaitingSet where
  number : Nat
  time   : Time
  level  : Nat
  items  : List KeyVal
  slot   : Nat := 0
  deriving DecidableEq, Repr

/-- R318, R319, R339: the journal. Each item: key, old value, new value. `secs`: the sections its entries concern. `back`: it is
being rolled back. -/
structure Journal where
  state  : Nat := 0
  number : Nat := 0
  items  : List (Nat × List Byte × List Byte) := []
  map    : Nat := 0
  cause  : Nat := 0
  time   : Time := 0
  next   : Nat := 1
  secs   : BitVec 4 := 0
  back   : Bool := false
  deriving DecidableEq, Repr

/-- R336, R460, R461: a firmware bank and the switching of banks. -/
structure Images where
  active   : Nat := 0
  version  : Vector Word 2 := Vector.replicate 2 0
  state    : Nat := 0
  image    : List Byte := []
  trial    : Bool := false
  switchTo : Nat := 0
  deriving DecidableEq, Repr

/-- R415 to R431: the recorder memory. Records in order of writing; `tail` is the length of a record cut short. -/
structure RecMem where
  recs     : List (List Byte) := []
  used     : Nat := 0
  capacity : Nat := 2097152
  stop     : Nat := 0
  mapped   : Nat := 0
  tail     : Option Nat := none
  latch    : List (BitVec 16 × BitVec 16 × Word) := []
  deriving DecidableEq, Repr

/-- R445, R446: repairs and spare rows. `soft`: memory, row, and at how many consecutive start-ups it was found failing; `fused`:
memory and row. `engSpares`: spare rows of each engine's program memory. -/
structure Repair where
  soft    : List (Nat × Nat × Nat) := []
  onFree  : List (Nat × Nat) := []
  fused   : List (Nat × Nat) := []
  fuses   : Nat := 0
  spares  : Vector Nat 8 := #v[64, 16, 4, 4, 2, 16, 16, 4]
  engSpares : Vector Nat 9 := Vector.replicate 9 2
  retired : BitVec 9 := 0
  ckSlots : Nat := 4
  deriving DecidableEq, Repr

/-- R12, R452: everything that survives a reset. Keys are 16 lists of 16 bytes; an empty list is an empty slot. -/
structure NonVolatile where
  cfg       : List KeyVal := []
  chans     : Vector NvChan 16 := Vector.replicate 16 {}
  heads     : Vector NvHead 8 := Vector.replicate 8 {}
  secs      : Vector NvSec 4 := Vector.replicate 4 {}
  conns     : Vector NvConn 8 := Vector.replicate 8 {}
  ledger    : Vector Nat 4 := Vector.replicate 4 0
  ckpts     : List Checkpoint := []
  ckSeq     : Nat := 0
  ckTime    : Time := 0
  ckWrites  : Nat := 0
  ckErrors  : Nat := 0
  waiting   : List WaitingSet := []
  nextSet   : Nat := 1
  journal   : Journal := {}
  images    : Images := {}
  keys      : List (List Byte) := []
  pitch     : List KeyVal := []
  pitchRes  : Nat := 0
  mem       : RecMem := {}
  repair    : Repair := {}

  opsecNs   : Time := 0
  opsecSaved : Nat := 0
  pcyc      : Nat := 0
  degradedNs : Nat := 0
  refusedRaises : Nat := 0
  assembly  : Nat := 0
  wakes     : Nat := 0
  sleepsAborted : Nat := 0
  stateNs   : Vector Nat 4 := Vector.replicate 4 0
  svEcc     : Vector Nat 2 := Vector.replicate 2 0
  svLock    : Vector Nat 2 := Vector.replicate 2 0
  staleCount : Vector Nat 4 := Vector.replicate 4 0
  deriving DecidableEq, Repr

/-- R214: what a telegram of a connection is assembled from, as it stood at the snapshot time of a SEND_TIME. -/
structure Past where
  sendTime : Time
  fe   : FrontEnd
  eng  : Engines
  pas  : PassageUnit
  led  : Ledger
  sv   : Vector Sv 2
  keep : Keeper
  kin  : Vector Kin 4
  secs : Vector NvSec 4
  work : List KeyVal
  test : SelfTest
  deriving DecidableEq, Repr

/-- The state of the block (R42). `past`: the latest snapshot of each connection (R214). `freeCount` is the model's own field: the
number of free values drawn so far. -/
structure State where
  pending : List Instr := []
  phase   : Phase := .held
  clk     : Clock := {}
  part    : Part := {}
  pins    : Pins := {}
  nv      : NonVolatile := {}
  fe      : FrontEnd := {}
  eng     : Engines := {}
  pas     : PassageUnit := {}
  led     : Ledger := {}
  sv      : Vector Sv 2 := Vector.replicate 2 {}
  keep    : Keeper := {}
  trac    : Vector Traction 4 := Vector.replicate 4 {}
  kin     : Vector Kin 4 := Vector.replicate 4 {}
  host    : HostRegs := {}
  hec     : Hec := {}
  cvu     : Vector Cvu 2 := Vector.replicate 2 {}
  hasp    : Hasp := {}
  sdp     : Sdp := {}
  net     : Net := {}
  tb      : TimeBase := {}
  pwr     : Power := {}
  intake  : Intake := {}
  test    : SelfTest := {}
  past    : Vector (Option Past) 8 := Vector.replicate 8 none
  freeCount : Nat := 0
  deriving DecidableEq, Repr

/-- The factory key of slot 0 at reset (per part, R301; log entry 6). -/
def factoryKey : List Byte := (List.range 16).map (BitVec.ofNat 8)

/-- The block right after reset: held in reset until power good (R449), every field at its reset value. -/
def State.reset : State := { nv := { keys := factoryKey :: List.replicate 15 [] } }

end Sys2Proof.Machine
end

