-- ==== Sys2Proof/Machine/Dict.lean ====
section
/-! DEFINITION. The object dictionary map (R9, R10, R324 to R342): one row per entry or run of entries, and the lookup of a
row. A key is index × 256 + subindex. -/

namespace Sys2Proof.Machine

/-- R303: the types of entries. TIME64 has the size and range of U64. -/
inductive DType where
  | bool | u8 | u16 | u32 | u64 | i16 | i32 | vstr | octets | domain
  deriving DecidableEq, Repr

/-- R10: access codes. -/
inductive DAcc where
  | ro | rw | wo | rwc | rwt | const
  deriving DecidableEq, Repr

/-- A row of the map: `members` consecutive indices from `index`, `subs` consecutive subindices from `sub`. `lo` to `hi` is
the part of the range that names no other entry, `alt` a further value allowed, `len` the size of OCTETS or the largest of
VSTR. `dflt` is the default, little-endian over the entry's size, where the map gives a number. -/
structure DRow where
  index   : Nat
  members : Nat
  sub     : Nat
  subs    : Nat
  typ     : DType
  acc     : DAcc
  level   : Nat
  dflt    : Int
  lo      : Int
  hi      : Int
  alt     : Option Int
  stored  : Bool
  len     : Nat
  deriving DecidableEq, Repr

/-- Rows of the dictionary from index 0x1000 to 0x1400 (R324 to R342 and the chapters they name). -/
def dictRows0 : List DRow := [
  ⟨0x1000, 1, 0x00, 1, .u32, .const, 0, 92, 0, 4294967295, none, true, 0⟩,  -- DeviceType
  ⟨0x1008, 1, 0x00, 1, .vstr, .const, 0, 0, 0, 0, none, true, 32⟩,  -- DeviceName
  ⟨0x1009, 1, 0x00, 1, .vstr, .const, 0, 0, 0, 0, none, true, 32⟩,  -- HardwareVersion
  ⟨0x100A, 1, 0x00, 1, .vstr, .ro, 0, 0, 0, 0, none, true, 32⟩,  -- FirmwareVersion
  ⟨0x1018, 1, 0x01, 1, .u32, .const, 0, 10112535, 0, 4294967295, none, true, 0⟩,  -- VendorId
  ⟨0x1018, 1, 0x02, 1, .u32, .const, 0, 0, 0, 4294967295, none, true, 0⟩,  -- ProductCode
  ⟨0x1018, 1, 0x03, 1, .u32, .const, 0, 0, 0, 4294967295, none, true, 0⟩,  -- RevisionNumber
  ⟨0x1018, 1, 0x04, 1, .u32, .const, 0, 0, 0, 4294967295, none, true, 0⟩,  -- SerialNumber
  ⟨0x1018, 1, 0x05, 1, .u32, .const, 0, 0, 0, 4294967295, none, true, 0⟩,  -- FactoryKeyCheck
  ⟨0x1100, 1, 0x01, 1, .u8, .rw, 0, 0, 0, 255, none, false, 0⟩,  -- SessionLevel
  ⟨0x1100, 1, 0x02, 1, .octets, .ro, 0, 0, 0, 0, none, false, 16⟩,  -- Challenge
  ⟨0x1100, 1, 0x03, 1, .octets, .wo, 0, 0, 0, 0, none, false, 9⟩,  -- Response
  ⟨0x1100, 1, 0x04, 3, .u8, .rwt, 3, 0, 0, 15, none, true, 0⟩,  -- LevelKeySlot1
  ⟨0x1100, 1, 0x07, 1, .octets, .rw, 3, 0, 0, 0, none, true, 6⟩,  -- EmergencyMac
  ⟨0x1100, 1, 0x08, 1, .u8, .ro, 0, 0, 0, 255, none, false, 0⟩,  -- OpenSessions
  ⟨0x1100, 1, 0x09, 1, .u32, .ro, 0, 0, 0, 4294967295, none, true, 0⟩,  -- RaiseRefusals
  ⟨0x1200, 1, 0x01, 1, .octets, .const, 0, 0, 0, 0, none, true, 6⟩,  -- NodeMac
  ⟨0x1200, 1, 0x02, 1, .u8, .ro, 0, 0, 0, 255, none, false, 0⟩,  -- PortLink
  ⟨0x1200, 1, 0x03, 1, .u8, .ro, 0, 0, 0, 255, none, false, 0⟩,  -- PortAmplitude
  ⟨0x1200, 1, 0x04, 1, .u8, .ro, 0, 0, 0, 255, none, false, 0⟩,  -- TimeState
  ⟨0x1200, 1, 0x05, 1, .i32, .ro, 0, 0, (-2147483648), 2147483647, none, false, 0⟩,  -- TimeOffset
  ⟨0x1200, 1, 0x06, 1, .octets, .ro, 0, 0, 0, 0, none, false, 8⟩,  -- GrandmasterId
  ⟨0x1200, 1, 0x07, 1, .u32, .ro, 0, 0, 0, 4294967295, none, false, 0⟩,  -- PathDelayWest
  ⟨0x1200, 1, 0x08, 1, .u32, .ro, 0, 0, 0, 4294967295, none, false, 0⟩,  -- PathDelayEast
  ⟨0x1200, 1, 0x09, 1, .u32, .ro, 0, 0, 0, 4294967295, none, false, 0⟩,  -- PrpDiscards
  ⟨0x1200, 1, 0x0A, 1, .u32, .ro, 0, 0, 0, 4294967295, none, false, 0⟩,  -- PrpWrongLanA
  ⟨0x1200, 1, 0x0B, 1, .u32, .ro, 0, 0, 0, 4294967295, none, false, 0⟩,  -- PrpWrongLanB
  ⟨0x1200, 1, 0x0C, 1, .u8, .ro, 0, 0, 0, 255, none, false, 0⟩,  -- SyncPpsState
  ⟨0x1400, 1, 0x01, 1, .u8, .rwc, 3, 2, 1, 10, none, true, 0⟩,  -- HaspPeriod
  ⟨0x1400, 1, 0x02, 1, .u16, .rwc, 3, 2000, 500, 10000, none, true, 0⟩,  -- MaxAge
  ⟨0x1400, 1, 0x03, 1, .u16, .rw, 3, 0, 0, 65535, none, true, 0⟩,  -- NodeNumber
  ⟨0x1400, 1, 0x04, 1, .u8, .rw, 3, 6, 0, 7, none, true, 0⟩,  -- HaspPriority
  ⟨0x1400, 1, 0x05, 1, .bool, .rwc, 3, 1, 0, 1, none, true, 0⟩,  -- CrossCheckEnable
  ⟨0x1400, 1, 0x06, 1, .u8, .rwc, 3, 20, 12, 50, none, true, 0⟩]  -- CrossSpeedFactor

/-- Rows of the dictionary from index 0x1410 to 0x2200 (R324 to R342 and the chapters they name). -/
def dictRows1 : List DRow := [
  ⟨0x1410, 8, 0x01, 1, .bool, .rwc, 3, 0, 0, 1, none, true, 0⟩,  -- ConnEnable
  ⟨0x1410, 8, 0x02, 1, .u8, .rwc, 3, 0, 0, 3, none, true, 0⟩,  -- ConnSection
  ⟨0x1410, 8, 0x03, 1, .u8, .rwc, 3, 0, 0, 3, none, true, 0⟩,  -- ConnLeg
  ⟨0x1410, 8, 0x04, 1, .u8, .rwc, 3, 0, 0, 1, none, true, 0⟩,  -- ConnSide
  ⟨0x1410, 8, 0x05, 1, .octets, .rwc, 3, 0, 0, 0, none, true, 6⟩,  -- NeighbourMac
  ⟨0x1410, 8, 0x06, 1, .u32, .rwt, 3, 0, 0, 4294967295, none, true, 0⟩,  -- TxConnId
  ⟨0x1410, 8, 0x07, 1, .u32, .rwt, 3, 0, 0, 4294967295, none, true, 0⟩,  -- RxConnId
  ⟨0x1410, 8, 0x08, 1, .u8, .rwt, 3, 0, 0, 1, none, true, 0⟩,  -- AuthMode
  ⟨0x1410, 8, 0x09, 1, .u8, .rwt, 3, 0, 0, 15, none, true, 0⟩,  -- KeySlot
  ⟨0x1410, 8, 0x0A, 1, .u16, .rwc, 3, 0, 0, 9950, none, true, 0⟩,  -- SendOffset
  ⟨0x2000, 1, 0x01, 1, .vstr, .rw, 2, 0, 0, 0, none, true, 32⟩,  -- ProfileName
  ⟨0x2000, 1, 0x02, 1, .u32, .rwc, 3, 8000, 500, 70000, none, true, 0⟩,  -- SpeedLimit
  ⟨0x2000, 1, 0x03, 1, .u32, .rw, 2, 0, 0, 4294967295, none, true, 0⟩,  -- ConfigRevision
  ⟨0x2000, 1, 0x04, 1, .u16, .rw, 3, 100, 1, 1000, none, true, 0⟩,  -- SpanWest
  ⟨0x2000, 1, 0x05, 1, .u16, .rw, 3, 100, 1, 1000, none, true, 0⟩,  -- SpanEast
  ⟨0x2100, 8, 0x01, 1, .bool, .rwc, 3, 0, 0, 1, none, true, 0⟩,  -- HeadEnable
  ⟨0x2100, 8, 0x02, 1, .u16, .rwc, 3, 80, 40, 200, none, true, 0⟩,  -- SystemSpacing
  ⟨0x2100, 8, 0x03, 1, .i32, .rwc, 3, 0, (-2147483648), 2147483647, none, true, 0⟩,  -- HeadChainage
  ⟨0x2100, 8, 0x04, 1, .u8, .rwc, 3, 20, 1, 50, none, true, 0⟩,  -- CableLength
  ⟨0x2100, 8, 0x05, 1, .u8, .rwc, 3, 0, 0, 7, (some 255), true, 0⟩,  -- HeadTch
  ⟨0x2200, 4, 0x01, 1, .u8, .rwc, 3, 0, 0, 4, none, true, 0⟩,  -- LegCount
  ⟨0x2200, 4, 0x02, 1, .u32, .rwc, 3, 4294967295, 0, 4294967295, none, true, 0⟩,  -- LegHeads
  ⟨0x2200, 4, 0x03, 1, .u8, .rwc, 3, 0, 0, 255, none, true, 0⟩,  -- LegSense
  ⟨0x2200, 4, 0x04, 1, .u16, .rwc, 3, 0, 0, 65535, none, true, 0⟩,  -- LegBeyond
  ⟨0x2200, 4, 0x05, 4, .u16, .rwc, 3, 0, 150, 2000, (some 0), true, 0⟩,  -- OverlapLeg
  ⟨0x2200, 4, 0x09, 1, .u16, .rwc, 3, 0, 800, 40000, (some 0), true, 0⟩,  -- SectionLength
  ⟨0x2200, 4, 0x0A, 1, .bool, .rwc, 3, 0, 0, 1, none, true, 0⟩,  -- StubEnd
  ⟨0x2200, 4, 0x0B, 1, .bool, .rw, 1, 0, 0, 1, none, true, 0⟩,  -- NoEntryRequest
  ⟨0x2200, 4, 0x0C, 1, .bool, .rwt, 1, 0, 0, 1, none, false, 0⟩,  -- SweepRequest
  ⟨0x2200, 4, 0x0D, 1, .u32, .rwt, 3, 0, 0, 4294967295, none, false, 0⟩,  -- DirectClearRef
  ⟨0x2200, 4, 0x0E, 1, .bool, .wo, 1, 0, 0, 1, none, false, 0⟩,  -- NoEntryRelease
  ⟨0x2200, 4, 0x0F, 1, .u32, .rwc, 3, 4294967295, 0, 4294967295, none, true, 0⟩]  -- LegPartner

/-- Rows of the dictionary from index 0x2300 to 0x3200 (R324 to R342 and the chapters they name). -/
def dictRows2 : List DRow := [
  ⟨0x2300, 1, 0x01, 1, .u8, .rw, 2, 3, 0, 3, none, true, 0⟩,  -- DeepestState
  ⟨0x2400, 1, 0x01, 1, .u8, .rw, 2, 1, 0, 2, none, true, 0⟩,  -- PassageRecords
  ⟨0x2400, 1, 0x02, 1, .bool, .rw, 3, 1, 0, 1, none, true, 0⟩,  -- EmergencyEnable
  ⟨0x2500, 1, 0x01, 4, .u8, .rw, 2, 255, 0, 15, (some 255), true, 0⟩,  -- AmonChannel
  ⟨0x2500, 1, 0x05, 4, .u8, .rw, 2, 2, 0, 2, none, true, 0⟩,  -- AmonMeasure
  ⟨0x3000, 1, 0x01, 1, .u16, .ro, 0, 0, 0, 65535, none, true, 0⟩,  -- OverrideCount
  ⟨0x3000, 1, 0x02, 1, .domain, .ro, 0, 0, 0, 0, none, true, 0⟩,  -- OverrideList
  ⟨0x3000, 1, 0x03, 1, .u32, .wo, 2, 0, 0, 4294967295, none, false, 0⟩,  -- ReleaseOverride
  ⟨0x3100, 16, 0x01, 1, .u8, .rwc, 2, 0, 0, 7, none, true, 0⟩,  -- ExcAmplitude
  ⟨0x3100, 16, 0x02, 1, .u8, .rwc, 2, 44, 24, 184, none, true, 0⟩,  -- CarrierLowK
  ⟨0x3100, 16, 0x03, 1, .u8, .rwc, 2, 131, 40, 200, none, true, 0⟩,  -- CarrierHighK
  ⟨0x3100, 16, 0x04, 1, .u8, .rwc, 2, 255, 0, 7, (some 255), true, 0⟩,  -- SenseGain
  ⟨0x3100, 16, 0x05, 1, .u8, .rwc, 2, 2, 0, 3, none, true, 0⟩,  -- BurnOut
  ⟨0x3100, 16, 0x06, 1, .u8, .rwc, 2, 0, 0, 63, none, true, 0⟩,  -- BlankMask
  ⟨0x3100, 16, 0x07, 1, .u8, .rwc, 2, 2, 0, 8, none, true, 0⟩,  -- BlankGuard
  ⟨0x3100, 16, 0x08, 1, .u8, .rwc, 2, 12, 5, 40, none, true, 0⟩,  -- LoopFloor
  ⟨0x3100, 16, 0x09, 1, .u8, .rwc, 2, 40, 20, 80, none, true, 0⟩,  -- ExcCurrentMin
  ⟨0x3100, 16, 0x0A, 1, .u8, .rwc, 2, 160, 120, 250, none, true, 0⟩,  -- ExcCurrentMax
  ⟨0x3100, 16, 0x0B, 1, .u16, .rwc, 2, 1000, 100, 10000, none, true, 0⟩,  -- ReconnectQuiet
  ⟨0x3200, 8, 0x01, 1, .u16, .rwc, 2, 80, 40, 150, none, true, 0⟩,  -- OnsetLevel
  ⟨0x3200, 8, 0x02, 1, .u16, .rwc, 2, 40, 20, 130, none, true, 0⟩,  -- ReleaseLevel
  ⟨0x3200, 8, 0x03, 1, .u16, .rwc, 2, 20, 10, 130, none, true, 0⟩,  -- FreezeLevel
  ⟨0x3200, 8, 0x04, 1, .u16, .rwc, 2, 60, 20, 150, none, true, 0⟩,  -- ConfirmLevel
  ⟨0x3200, 8, 0x05, 1, .u16, .rwc, 2, 1024, 256, 4096, none, true, 0⟩,  -- ConfirmWindow
  ⟨0x3200, 8, 0x06, 1, .u16, .rwc, 2, 150, 100, 190, none, true, 0⟩,  -- WheelFloor
  ⟨0x3200, 8, 0x07, 1, .u16, .rwc, 2, 0, 5, 1000, none, true, 0⟩,  -- BaselineSlew
  ⟨0x3200, 8, 0x08, 1, .u16, .rwc, 2, 10, 5, 40, none, true, 0⟩,  -- NoiseWarn
  ⟨0x3200, 8, 0x09, 1, .u16, .rwc, 2, 20, 10, 65, none, true, 0⟩,  -- NoiseFault
  ⟨0x3200, 8, 0x0A, 1, .u16, .rwc, 2, 200, 50, 400, none, true, 0⟩,  -- DriftWarnMag
  ⟨0x3200, 8, 0x0B, 1, .u16, .rwc, 2, 400, 100, 600, none, true, 0⟩,  -- DriftFaultMag
  ⟨0x3200, 8, 0x0C, 1, .u16, .rwc, 2, 80, 20, 200, none, true, 0⟩,  -- DriftWarnPhase
  ⟨0x3200, 8, 0x0D, 1, .u16, .rwc, 2, 150, 50, 300, none, true, 0⟩,  -- DriftFaultPhase
  ⟨0x3200, 8, 0x0E, 1, .u16, .rwc, 2, 600, 10, 3600, none, true, 0⟩,  -- ResidualTime
  ⟨0x3200, 8, 0x0F, 1, .bool, .rwc, 2, 1, 0, 1, none, true, 0⟩,  -- TempCompEnable
  ⟨0x3200, 8, 0x10, 1, .bool, .rwc, 2, 1, 0, 1, none, true, 0⟩,  -- RejectEnable
  ⟨0x3200, 8, 0x11, 1, .u16, .rwc, 2, 600, 60, 3600, none, true, 0⟩,  -- ProofInterval
  ⟨0x3200, 8, 0x12, 1, .u8, .rwt, 2, 0, 0, 3, none, false, 0⟩]  -- ReReference

/-- Rows of the dictionary from index 0x3300 to 0x3600 (R324 to R342 and the chapters they name). -/
def dictRows3 : List DRow := [
  ⟨0x3300, 4, 0x01, 1, .u8, .rwc, 2, 255, 0, 7, (some 255), true, 0⟩,  -- InteriorHead
  ⟨0x3300, 4, 0x02, 1, .bool, .rwc, 2, 0, 0, 1, none, true, 0⟩,  -- InteriorSide
  ⟨0x3300, 4, 0x03, 1, .u8, .rwc, 2, 0, 0, 255, none, true, 0⟩,  -- Z5Legs
  ⟨0x3300, 4, 0x04, 1, .u16, .rwc, 2, 250, 20, 10000, none, true, 0⟩,  -- ClearConfirmDelay
  ⟨0x3300, 4, 0x05, 1, .u16, .rwc, 2, 2000, 100, 60000, none, true, 0⟩,  -- DisturbedHold
  ⟨0x3300, 4, 0x06, 1, .u8, .rwt, 3, 8, 0, 72, none, true, 0⟩,  -- DegradedClearTime
  ⟨0x3300, 4, 0x07, 1, .bool, .rwc, 2, 0, 0, 1, none, true, 0⟩,  -- BemfEnable
  ⟨0x3300, 4, 0x08, 1, .u16, .rwc, 2, 20, 5, 500, none, true, 0⟩,  -- BemfThreshold
  ⟨0x3300, 4, 0x09, 1, .u16, .rwc, 2, 20, 2, 1000, none, true, 0⟩,  -- BemfTime
  ⟨0x3300, 4, 0x0A, 1, .bool, .rwt, 1, 0, 0, 1, none, false, 0⟩,  -- BemfRelease
  ⟨0x3300, 4, 0x0B, 1, .u16, .rw, 2, 3000, 200, 60000, none, true, 0⟩,  -- KinMaxAge
  ⟨0x3300, 4, 0x0C, 1, .u16, .rw, 2, 50, 10, 1000, none, true, 0⟩,  -- KinRefUnc
  ⟨0x3300, 4, 0x0D, 1, .u16, .rw, 2, 30, 5, 200, none, true, 0⟩,  -- KinSpeedErr
  ⟨0x3300, 4, 0x0E, 1, .u16, .rw, 2, 1500, 100, 10000, none, true, 0⟩,  -- KinAccelMax
  ⟨0x3300, 4, 0x0F, 1, .u8, .rwc, 2, 10, 2, 100, none, true, 0⟩,  -- TractionStale
  ⟨0x3400, 1, 0x01, 1, .bool, .rw, 2, 1, 0, 1, none, true, 0⟩,  -- AttestEnable
  ⟨0x3400, 1, 0x02, 1, .u16, .rw, 2, 100, 20, 2000, none, true, 0⟩,  -- AttestTimeout
  ⟨0x3400, 1, 0x03, 1, .u16, .rw, 2, 1000, 100, 60000, none, true, 0⟩,  -- AttestRetry
  ⟨0x3500, 1, 0x01, 1, .u32, .rwc, 3, 0, 500, 70000, none, true, 0⟩,  -- HorizonSpeed
  ⟨0x3500, 1, 0x02, 1, .u8, .rw, 2, 20, 0, 100, none, true, 0⟩,  -- GuardShare
  ⟨0x3500, 1, 0x03, 1, .u16, .rw, 2, 5, 0, 1000, none, true, 0⟩,  -- GuardFixed
  ⟨0x3500, 1, 0x04, 1, .u16, .rw, 2, 1000, 0, 60000, none, true, 0⟩,  -- SleepHoldoff
  ⟨0x3600, 1, 0x01, 1, .bool, .rw, 2, 1, 0, 1, none, true, 0⟩,  -- ScanEnable
  ⟨0x3600, 1, 0x02, 1, .u32, .rw, 2, 300, 60, 86400, none, true, 0⟩,  -- ScanInterval
  ⟨0x3600, 1, 0x03, 1, .u32, .rw, 2, 3600, 600, 604800, none, true, 0⟩,  -- ScanOverdue
  ⟨0x3600, 1, 0x04, 1, .bool, .rw, 2, 1, 0, 1, none, true, 0⟩,  -- AdaptEnable
  ⟨0x3600, 1, 0x05, 1, .i16, .rw, 2, (-34), (-60), -20, none, true, 0⟩,  -- MoveThreshold
  ⟨0x3600, 1, 0x06, 1, .u8, .rw, 2, 6, 3, 20, none, true, 0⟩,  -- MoveGain
  ⟨0x3600, 1, 0x07, 1, .u8, .rw, 2, 12, 0, 16, none, true, 0⟩,  -- MoveSpanLow
  ⟨0x3600, 1, 0x08, 1, .u8, .rw, 2, 24, 0, 32, none, true, 0⟩,  -- MoveSpanHigh
  ⟨0x3600, 1, 0x09, 1, .u16, .rw, 2, 60, 10, 3600, none, true, 0⟩,  -- MoveHoldoff
  ⟨0x3600, 1, 0x0A, 1, .u16, .rw, 2, 5, 5, 1000, none, true, 0⟩,  -- MoveHorizonMin
  ⟨0x3600, 1, 0x0B, 1, .u8, .wo, 2, 0, 0, 15, none, false, 0⟩,  -- ScanNow
  ⟨0x3600, 1, 0x0C, 1, .u8, .ro, 0, 0, 0, 255, none, false, 0⟩,  -- BlankSourceStuck
  ⟨0x3600, 1, 0x0D, 1, .u8, .rw, 2, 0, 0, 3, none, true, 0⟩]  -- BlankPinInvert

/-- Rows of the dictionary from index 0x3700 to 0x4030 (R324 to R342 and the chapters they name). -/
def dictRows4 : List DRow := [
  ⟨0x3700, 1, 0x01, 8, .u8, .rwc, 2, 0, 0, 51, none, true, 0⟩,  -- TchRole
  ⟨0x3700, 1, 0x09, 1, .u8, .rwc, 2, 0, 0, 255, none, true, 0⟩,  -- TchFourWire
  ⟨0x3800, 1, 0x01, 4, .u8, .rw, 3, 0, 0, 2, none, true, 0⟩,  -- PhyAmplitudeP
  ⟨0x3800, 1, 0x05, 1, .u16, .rw, 3, 2000, 100, 10000, none, true, 0⟩,  -- PrpLifeCheckInterval
  ⟨0x3800, 1, 0x06, 1, .u16, .rw, 3, 400, 100, 2000, none, true, 0⟩,  -- PrpEntryForgetTime
  ⟨0x3800, 1, 0x07, 1, .i16, .rw, 3, (-3), (-7), 0, none, true, 0⟩,  -- SyncLogInterval
  ⟨0x3800, 1, 0x08, 1, .i16, .rw, 3, 0, (-3), 3, none, true, 0⟩,  -- PdelayLogInterval
  ⟨0x3800, 1, 0x09, 1, .u32, .rw, 3, 800, 100, 10000, none, true, 0⟩,  -- PropDelayThreshold
  ⟨0x3800, 1, 0x0A, 1, .u16, .rw, 3, 60, 0, 3600, none, true, 0⟩,  -- HoldoverLimit
  ⟨0x3800, 1, 0x0B, 1, .u8, .rw, 3, 2, 0, 7, none, true, 0⟩,  -- DictPriority
  ⟨0x3800, 1, 0x0C, 1, .u8, .rw, 3, 0, 0, 2, none, true, 0⟩,  -- SyncPpsMode
  ⟨0x3800, 1, 0x0D, 1, .bool, .rw, 3, 1, 0, 1, none, true, 0⟩,  -- CutThrough
  ⟨0x4010, 1, 0x01, 1, .u32, .wo, 1, 0, 0, 4294967295, none, false, 0⟩,  -- PendingCommit
  ⟨0x4010, 1, 0x02, 1, .domain, .ro, 0, 0, 0, 0, none, false, 0⟩,  -- PendingList
  ⟨0x4010, 1, 0x03, 1, .bool, .wo, 1, 0, 0, 1, none, false, 0⟩,  -- PendingDiscard
  ⟨0x4010, 1, 0x04, 1, .u8, .ro, 0, 0, 0, 255, none, false, 0⟩,  -- PendingCount
  ⟨0x4010, 1, 0x05, 1, .domain, .ro, 0, 0, 0, 0, none, true, 0⟩,  -- WaitingList
  ⟨0x4010, 1, 0x06, 1, .u32, .wo, 1, 0, 0, 4294967295, none, false, 0⟩,  -- WaitingCancel
  ⟨0x4020, 1, 0x01, 1, .u8, .rwt, 3, 0, 0, 15, none, false, 0⟩,  -- PitchSections
  ⟨0x4020, 1, 0x02, 1, .u32, .rwt, 3, 0, 1, 4294967295, none, false, 0⟩,  -- PitchEpoch
  ⟨0x4020, 1, 0x03, 1, .u64, .rwt, 3, 0, 0, 18446744073709551615, none, false, 0⟩,  -- PitchTime
  ⟨0x4020, 1, 0x04, 1, .u32, .rwt, 3, 0, 1, 4294967295, none, false, 0⟩,  -- PitchInspector
  ⟨0x4020, 1, 0x05, 1, .u8, .ro, 0, 0, 0, 255, none, true, 0⟩,  -- PitchResult
  ⟨0x4021, 1, 0x01, 1, .u8, .rwt, 3, 0, 0, 15, none, false, 0⟩,  -- StrikeSections
  ⟨0x4022, 1, 0x01, 4, .u32, .ro, 0, 0, 0, 4294967295, none, true, 0⟩,  -- SectionEpoch
  ⟨0x4022, 1, 0x05, 4, .u32, .ro, 0, 0, 0, 4294967295, none, true, 0⟩,  -- LastEpoch
  ⟨0x4022, 1, 0x09, 4, .u64, .ro, 0, 0, 0, 18446744073709551615, none, true, 0⟩,  -- EpochStart
  ⟨0x4023, 1, 0x01, 4, .u32, .rw, 3, 0, 0, 4294967295, none, true, 0⟩,  -- EpochRestore
  ⟨0x4023, 1, 0x05, 1, .u8, .rw, 3, 15, 0, 15, none, true, 0⟩,  -- AttestBarredRestore
  ⟨0x4030, 1, 0x01, 1, .u16, .ro, 0, 65535, 0, 65535, none, false, 0⟩,  -- PositionNow
  ⟨0x4030, 1, 0x02, 1, .u16, .rw, 3, 0, 1, 1022, (some 0), true, 0⟩,  -- BoundPosition
  ⟨0x4030, 1, 0x03, 1, .u8, .ro, 0, 1, 0, 255, none, false, 0⟩,  -- PositionState
  ⟨0x4030, 1, 0x04, 1, .u32, .ro, 0, 0, 0, 4294967295, none, false, 0⟩]  -- SlotIdRaw

/-- Rows of the dictionary from index 0x4040 to 0x5100 (R324 to R342 and the chapters they name). -/
def dictRows5 : List DRow := [
  ⟨0x4040, 1, 0x01, 16, .octets, .rwt, 3, 0, 0, 0, none, true, 16⟩,  -- KeySlot
  ⟨0x4041, 1, 0x01, 16, .u32, .ro, 0, 0, 0, 4294967295, none, true, 0⟩,  -- KeyCheck
  ⟨0x4050, 1, 0x01, 1, .domain, .wo, 3, 0, 0, 0, none, true, 0⟩,  -- ImageLoad
  ⟨0x4050, 1, 0x02, 1, .u8, .ro, 0, 0, 0, 255, none, true, 0⟩,  -- ImageState
  ⟨0x4050, 1, 0x03, 1, .u8, .ro, 0, 0, 0, 255, none, true, 0⟩,  -- ActiveBank
  ⟨0x4050, 1, 0x04, 1, .u32, .ro, 0, 0, 0, 4294967295, none, true, 0⟩,  -- ActiveVersion
  ⟨0x4050, 1, 0x05, 1, .u32, .ro, 0, 0, 0, 4294967295, none, true, 0⟩,  -- InactiveVersion
  ⟨0x4050, 1, 0x06, 1, .u8, .rwt, 3, 0, 0, 1, none, true, 0⟩,  -- SwitchBank
  ⟨0x4050, 1, 0x07, 1, .u32, .const, 0, 90112, 0, 4294967295, none, true, 0⟩,  -- ImageBankSize
  ⟨0x5100, 16, 0x01, 1, .u8, .ro, 0, 0, 0, 255, none, false, 0⟩,  -- ChannelState
  ⟨0x5100, 16, 0x02, 1, .u8, .ro, 0, 0, 0, 255, none, false, 0⟩,  -- FaultCause
  ⟨0x5100, 16, 0x03, 1, .u16, .ro, 0, 0, 0, 65535, none, false, 0⟩,  -- LoopAmplitude
  ⟨0x5100, 16, 0x04, 1, .u16, .ro, 0, 0, 0, 65535, none, false, 0⟩,  -- ExcCurrent
  ⟨0x5100, 16, 0x05, 1, .u16, .ro, 0, 0, 0, 65535, none, false, 0⟩,  -- CalExcCurrent
  ⟨0x5100, 16, 0x06, 1, .u8, .ro, 0, 0, 0, 255, none, false, 0⟩,  -- GainInUse
  ⟨0x5100, 16, 0x07, 1, .u16, .ro, 0, 0, 0, 65535, none, false, 0⟩,  -- BlankedShare
  ⟨0x5100, 16, 0x08, 1, .u32, .ro, 0, 0, 0, 4294967295, none, true, 0⟩,  -- FaultCount
  ⟨0x5100, 16, 0x09, 1, .u64, .ro, 0, 0, 0, 18446744073709551615, none, false, 0⟩,  -- LastFaultTime
  ⟨0x5100, 16, 0x0A, 1, .u64, .ro, 0, 0, 0, 18446744073709551615, none, false, 0⟩,  -- SuspectFrom
  ⟨0x5100, 16, 0x0B, 1, .u8, .ro, 0, 0, 0, 255, none, true, 0⟩,  -- LearnedLowK
  ⟨0x5100, 16, 0x0C, 1, .u8, .ro, 0, 0, 0, 255, none, true, 0⟩,  -- LearnedHighK
  ⟨0x5100, 16, 0x0D, 1, .u64, .ro, 0, 0, 0, 18446744073709551615, none, false, 0⟩,  -- LastScanTime
  ⟨0x5100, 16, 0x0E, 1, .i16, .ro, 0, 0, (-32768), 32767, none, false, 0⟩,  -- DistLow
  ⟨0x5100, 16, 0x0F, 1, .i16, .ro, 0, 0, (-32768), 32767, none, false, 0⟩,  -- DistHigh
  ⟨0x5100, 16, 0x10, 1, .u32, .ro, 0, 0, 0, 4294967295, none, true, 0⟩,  -- MoveCount
  ⟨0x5100, 16, 0x11, 1, .octets, .ro, 0, 0, 0, 0, none, false, 177⟩,  -- ScanSpectrum
  ⟨0x5100, 16, 0x12, 1, .u16, .ro, 0, 0, 0, 65535, none, false, 0⟩,  -- NoisePeak
  ⟨0x5100, 16, 0x13, 1, .i16, .ro, 0, 0, (-32768), 32767, none, false, 0⟩,  -- DriftMagLow
  ⟨0x5100, 16, 0x14, 1, .i16, .ro, 0, 0, (-32768), 32767, none, false, 0⟩,  -- DriftPhaseLow
  ⟨0x5100, 16, 0x15, 1, .i16, .ro, 0, 0, (-32768), 32767, none, false, 0⟩,  -- DriftMagHigh
  ⟨0x5100, 16, 0x16, 1, .i16, .ro, 0, 0, (-32768), 32767, none, false, 0⟩,  -- DriftPhaseHigh
  ⟨0x5100, 16, 0x17, 1, .u32, .ro, 0, 0, 0, 4294967295, none, true, 0⟩,  -- TempCoeffLow
  ⟨0x5100, 16, 0x18, 1, .u32, .ro, 0, 0, 0, 4294967295, none, true, 0⟩,  -- TempCoeffHigh
  ⟨0x5100, 16, 0x19, 1, .u64, .ro, 0, 0, 0, 18446744073709551615, none, false, 0⟩,  -- LastProofTime
  ⟨0x5100, 16, 0x1A, 1, .u8, .ro, 0, 0, 0, 255, none, false, 0⟩,  -- LastProofResult
  ⟨0x5100, 16, 0x1B, 1, .u32, .ro, 0, 0, 0, 4294967295, none, true, 0⟩,  -- ProofCount
  ⟨0x5100, 16, 0x1C, 1, .u8, .ro, 0, 0, 0, 255, none, false, 0⟩,  -- DetectCause
  ⟨0x5100, 16, 0x1D, 1, .u16, .ro, 0, 65535, 0, 65535, none, true, 0⟩]  -- MinWheelPeak

/-- Rows of the dictionary from index 0x5200 to 0x5300 (R324 to R342 and the chapters they name). -/
def dictRows6 : List DRow := [
  ⟨0x5200, 8, 0x01, 1, .u8, .ro, 0, 0, 0, 255, none, false, 0⟩,  -- EngineAssigned
  ⟨0x5200, 8, 0x02, 1, .u8, .ro, 0, 0, 0, 255, none, false, 0⟩,  -- PresenceState
  ⟨0x5200, 8, 0x03, 1, .u8, .ro, 0, 0, 0, 255, none, false, 0⟩,  -- LastClass
  ⟨0x5200, 8, 0x04, 1, .u32, .ro, 0, 0, 0, 4294967295, none, true, 0⟩,  -- TakeoverCount
  ⟨0x5200, 8, 0x05, 1, .u32, .ro, 0, 0, 0, 4294967295, none, true, 0⟩,  -- WithdrawnCount
  ⟨0x5200, 8, 0x06, 1, .u32, .ro, 0, 0, 0, 4294967295, none, true, 0⟩,  -- RejectCount
  ⟨0x5200, 8, 0x07, 1, .u64, .ro, 0, 0, 0, 18446744073709551615, none, false, 0⟩,  -- StandingSince
  ⟨0x5200, 8, 0x08, 1, .u32, .ro, 0, 0, 0, 4294967295, none, true, 0⟩,  -- CancelledCount
  ⟨0x5200, 8, 0x09, 1, .u32, .ro, 0, 0, 0, 4294967295, none, true, 0⟩,  -- VoidCount
  ⟨0x5200, 8, 0x0A, 1, .u32, .ro, 0, 0, 0, 4294967295, none, true, 0⟩,  -- SplitCount
  ⟨0x5200, 8, 0x0B, 1, .u16, .ro, 0, 0, 0, 65535, none, false, 0⟩,  -- LastSeq
  ⟨0x5200, 8, 0x0C, 1, .u8, .ro, 0, 0, 0, 255, none, false, 0⟩,  -- LastVoidCause
  ⟨0x5200, 8, 0x0D, 1, .bool, .ro, 0, 0, 0, 1, none, true, 0⟩,  -- HeadCumValid
  ⟨0x5200, 8, 0x0E, 1, .i32, .ro, 0, 0, (-2147483648), 2147483647, none, true, 0⟩,  -- LastRebase
  ⟨0x5300, 4, 0x01, 1, .u16, .ro, 0, 0, 0, 65535, none, false, 0⟩,  -- ConfigViolation
  ⟨0x5300, 4, 0x02, 1, .u8, .ro, 0, 0, 0, 255, none, false, 0⟩,  -- DisturbedFirst
  ⟨0x5300, 4, 0x03, 1, .u64, .ro, 0, 0, 0, 18446744073709551615, none, false, 0⟩,  -- DisturbedSince
  ⟨0x5300, 4, 0x04, 1, .u32, .ro, 0, 0, 0, 4294967295, none, true, 0⟩,  -- DisturbedCount
  ⟨0x5300, 4, 0x05, 1, .u8, .ro, 0, 127, 0, 255, none, false, 0⟩,  -- ClearBlock
  ⟨0x5300, 4, 0x06, 1, .u32, .ro, 0, 0, 0, 4294967295, none, true, 0⟩,  -- TumblerResolved
  ⟨0x5300, 4, 0x07, 1, .u32, .ro, 0, 0, 0, 4294967295, none, true, 0⟩,  -- TumblerMismatch
  ⟨0x5300, 4, 0x08, 1, .u32, .ro, 0, 0, 0, 4294967295, none, true, 0⟩,  -- LateReports
  ⟨0x5300, 4, 0x09, 1, .u32, .ro, 0, 0, 0, 4294967295, none, true, 0⟩,  -- OverlapUnchecked
  ⟨0x5300, 4, 0x0A, 1, .bool, .ro, 0, 0, 0, 1, none, true, 0⟩,  -- AttestationBarred
  ⟨0x5300, 4, 0x0B, 1, .u16, .ro, 0, 0, 0, 65535, none, false, 0⟩,  -- BemfLast
  ⟨0x5300, 4, 0x0C, 1, .u64, .ro, 0, 0, 0, 18446744073709551615, none, true, 0⟩,  -- LastClearTime
  ⟨0x5300, 4, 0x0D, 1, .u8, .ro, 0, 0, 0, 255, none, false, 0⟩,  -- RestoreState
  ⟨0x5300, 4, 0x0E, 1, .u8, .ro, 0, 0, 0, 255, none, false, 0⟩,  -- RestoreRefusal
  ⟨0x5300, 4, 0x0F, 1, .u64, .ro, 0, 0, 0, 18446744073709551615, none, true, 0⟩,  -- RestoreTime
  ⟨0x5300, 4, 0x10, 1, .u8, .ro, 0, 0, 0, 255, none, true, 0⟩,  -- RestoreRoute
  ⟨0x5300, 4, 0x11, 1, .u32, .ro, 0, 0, 0, 4294967295, none, true, 0⟩,  -- RestoreCount
  ⟨0x5300, 4, 0x12, 1, .i16, .ro, 0, 0, (-32768), 32767, none, false, 0⟩,  -- RestoreCheckpointBal
  ⟨0x5300, 4, 0x13, 1, .bool, .ro, 0, 0, 0, 1, none, false, 0⟩]  -- BalanceSound

/-- Rows of the dictionary from index 0x5400 to 0x5710 (R324 to R342 and the chapters they name). -/
def dictRows7 : List DRow := [
  ⟨0x5400, 2, 0x01, 1, .u8, .ro, 0, 0, 0, 255, none, false, 0⟩,  -- SvState
  ⟨0x5400, 2, 0x02, 1, .u8, .ro, 0, 0, 0, 255, none, false, 0⟩,  -- SvFailCause
  ⟨0x5400, 2, 0x03, 1, .u64, .ro, 0, 0, 0, 18446744073709551615, none, false, 0⟩,  -- SvFailTime
  ⟨0x5400, 2, 0x04, 1, .u32, .ro, 0, 0, 0, 4294967295, none, true, 0⟩,  -- SvEccCorrected
  ⟨0x5400, 2, 0x05, 1, .u32, .ro, 0, 0, 0, 4294967295, none, true, 0⟩,  -- SvLockstepEvents
  ⟨0x5400, 2, 0x06, 1, .u32, .ro, 0, 0, 0, 4294967295, none, false, 0⟩,  -- SvStepOverruns
  ⟨0x5400, 2, 0x07, 1, .u32, .ro, 0, 0, 0, 4294967295, none, false, 0⟩,  -- SvImageCrc
  ⟨0x5480, 1, 0x01, 1, .u32, .ro, 0, 0, 0, 4294967295, none, true, 0⟩,  -- CheckpointSeq
  ⟨0x5480, 1, 0x02, 1, .u64, .ro, 0, 0, 0, 18446744073709551615, none, true, 0⟩,  -- CheckpointTime
  ⟨0x5480, 1, 0x03, 1, .u64, .ro, 0, 0, 0, 18446744073709551615, none, true, 0⟩,  -- CheckpointWrites
  ⟨0x5480, 1, 0x04, 1, .u32, .ro, 0, 0, 0, 4294967295, none, true, 0⟩,  -- CheckpointSlotErrors
  ⟨0x5500, 1, 0x01, 1, .u8, .ro, 0, 0, 0, 255, none, false, 0⟩,  -- PowerState
  ⟨0x5500, 1, 0x02, 1, .u32, .ro, 0, 0, 0, 4294967295, none, false, 0⟩,  -- SleepBudget
  ⟨0x5500, 1, 0x03, 1, .u8, .ro, 0, 0, 0, 255, none, false, 0⟩,  -- SleepLimiter
  ⟨0x5500, 1, 0x04, 1, .u8, .ro, 0, 255, 0, 255, none, false, 0⟩,  -- LimitingHead
  ⟨0x5500, 1, 0x05, 1, .u32, .ro, 0, 0, 0, 4294967295, none, true, 0⟩,  -- WakeCount
  ⟨0x5500, 1, 0x06, 1, .u32, .ro, 0, 0, 0, 4294967295, none, true, 0⟩,  -- SleepAborted
  ⟨0x5500, 1, 0x07, 1, .octets, .ro, 0, 0, 0, 0, none, true, 32⟩,  -- TimeInState
  ⟨0x5510, 8, 0x01, 1, .u32, .ro, 0, 0, 0, 4294967295, none, false, 0⟩,  -- HeadHorizon
  ⟨0x5510, 8, 0x02, 1, .u8, .ro, 0, 0, 0, 255, none, false, 0⟩,  -- HorizonSource
  ⟨0x5600, 1, 0x01, 8, .i16, .ro, 0, 32768, (-32768), 32767, none, false, 0⟩,  -- TchTemp
  ⟨0x5600, 1, 0x09, 1, .u8, .ro, 0, 0, 0, 255, none, false, 0⟩,  -- TchFault
  ⟨0x5610, 4, 0x01, 1, .u32, .ro, 0, 0, 0, 4294967295, none, false, 0⟩,  -- TractionRejects
  ⟨0x5610, 4, 0x02, 1, .u32, .ro, 0, 0, 0, 4294967295, none, true, 0⟩,  -- TractionStaleCount
  ⟨0x5610, 4, 0x03, 1, .u8, .ro, 0, 0, 0, 255, none, false, 0⟩,  -- TractionLastSeq
  ⟨0x5700, 1, 0x01, 1, .u32, .ro, 0, 0, 0, 4294967295, none, false, 0⟩,  -- UnknownHasp
  ⟨0x5700, 1, 0x02, 1, .u32, .ro, 0, 0, 0, 4294967295, none, true, 0⟩,  -- AssemblyMismatch
  ⟨0x5710, 8, 0x01, 1, .u8, .ro, 0, 0, 0, 255, none, false, 0⟩,  -- ConnState
  ⟨0x5710, 8, 0x02, 1, .u64, .ro, 0, 0, 0, 18446744073709551615, none, false, 0⟩,  -- LastAccepted
  ⟨0x5710, 8, 0x03, 1, .u16, .ro, 0, 0, 0, 65535, none, false, 0⟩,  -- LastAge
  ⟨0x5710, 8, 0x04, 1, .u32, .ro, 0, 0, 0, 4294967295, none, false, 0⟩,  -- RejCrc
  ⟨0x5710, 8, 0x05, 1, .u32, .ro, 0, 0, 0, 4294967295, none, false, 0⟩,  -- RejAuth
  ⟨0x5710, 8, 0x06, 1, .u32, .ro, 0, 0, 0, 4294967295, none, false, 0⟩,  -- RejSource
  ⟨0x5710, 8, 0x07, 1, .u32, .ro, 0, 0, 0, 4294967295, none, false, 0⟩,  -- RejAlive
  ⟨0x5710, 8, 0x08, 1, .u32, .ro, 0, 0, 0, 4294967295, none, false, 0⟩,  -- RejAge
  ⟨0x5710, 8, 0x09, 1, .u32, .ro, 0, 0, 0, 4294967295, none, false, 0⟩,  -- RejConfig
  ⟨0x5710, 8, 0x0A, 1, .u32, .ro, 0, 0, 0, 4294967295, none, false, 0⟩,  -- RejFormat
  ⟨0x5710, 8, 0x0B, 1, .bool, .ro, 0, 1, 0, 1, none, false, 0⟩,  -- NeighbourNoEntry
  ⟨0x5710, 8, 0x0C, 1, .u8, .ro, 0, 5, 0, 255, none, false, 0⟩,  -- NeighbourState
  ⟨0x5710, 8, 0x0D, 1, .u16, .ro, 0, 0, 0, 65535, none, false, 0⟩,  -- NeighbourFlags
  ⟨0x5710, 8, 0x0E, 1, .u32, .ro, 0, 0, 0, 4294967295, none, false, 0⟩,  -- NeighbourEpoch
  ⟨0x5710, 8, 0x0F, 1, .u32, .ro, 0, 0, 0, 4294967295, none, false, 0⟩,  -- MirrorIn
  ⟨0x5710, 8, 0x10, 1, .u32, .ro, 0, 0, 0, 4294967295, none, false, 0⟩,  -- MirrorOut
  ⟨0x5710, 8, 0x11, 1, .u32, .ro, 0, 0, 0, 4294967295, none, false, 0⟩,  -- Duplicates
  ⟨0x5710, 8, 0x12, 1, .u32, .ro, 0, 0, 0, 4294967295, none, false, 0⟩,  -- StaleCopies
  ⟨0x5710, 8, 0x13, 1, .u8, .ro, 0, 0, 0, 255, none, false, 0⟩,  -- CrossCheckDetail
  ⟨0x5710, 8, 0x14, 1, .u32, .ro, 0, 0, 0, 4294967295, none, true, 0⟩,  -- TransitUnchecked
  ⟨0x5710, 8, 0x15, 1, .u32, .ro, 0, 0, 0, 4294967295, none, true, 0⟩,  -- LaneLossA
  ⟨0x5710, 8, 0x16, 1, .u32, .ro, 0, 0, 0, 4294967295, none, true, 0⟩,  -- LaneLossB
  ⟨0x5710, 8, 0x17, 1, .u32, .ro, 0, 0, 0, 4294967295, none, true, 0⟩]  -- GuylineLoss

/-- Rows of the dictionary from index 0x5F00 to 0x6300 (R324 to R342 and the chapters they name). -/
def dictRows8 : List DRow := [
  ⟨0x5F00, 1, 0x01, 1, .u8, .ro, 0, 0, 0, 255, none, true, 0⟩,  -- JournalState
  ⟨0x5F00, 1, 0x02, 1, .u32, .ro, 0, 0, 0, 4294967295, none, true, 0⟩,  -- TxnNumber
  ⟨0x5F00, 1, 0x03, 1, .u8, .ro, 0, 0, 0, 255, none, true, 0⟩,  -- TxnEntryCount
  ⟨0x5F00, 1, 0x04, 1, .u64, .ro, 0, 0, 0, 18446744073709551615, none, true, 0⟩,  -- AppliedMap
  ⟨0x5F00, 1, 0x05, 1, .u8, .ro, 0, 0, 0, 255, none, true, 0⟩,  -- InterruptCause
  ⟨0x5F00, 1, 0x06, 1, .u64, .ro, 0, 0, 0, 18446744073709551615, none, true, 0⟩,  -- InterruptTime
  ⟨0x5F00, 1, 0x07, 1, .domain, .ro, 0, 0, 0, 0, none, true, 0⟩,  -- TxnList
  ⟨0x5F00, 1, 0x08, 1, .bool, .wo, 1, 0, 0, 1, none, false, 0⟩,  -- Rollback
  ⟨0x5F00, 1, 0x09, 1, .bool, .wo, 1, 0, 0, 1, none, false, 0⟩,  -- Rerun
  ⟨0x5F00, 1, 0x0A, 1, .u32, .ro, 0, 1, 0, 4294967295, none, true, 0⟩,  -- NextTxnNumber
  ⟨0x6000, 4, 0x01, 1, .u32, .ro, 0, 13, 0, 4294967295, none, false, 0⟩,  -- VerdictWord
  ⟨0x6000, 4, 0x02, 1, .u8, .ro, 0, 5, 0, 255, none, false, 0⟩,  -- SectionState
  ⟨0x6000, 4, 0x03, 1, .u16, .ro, 0, 0, 0, 65535, none, false, 0⟩,  -- SectionBalance
  ⟨0x6000, 4, 0x04, 1, .u64, .ro, 0, 0, 0, 18446744073709551615, none, false, 0⟩,  -- StateSince
  ⟨0x6000, 4, 0x05, 1, .u16, .ro, 0, 65535, 0, 65535, none, false, 0⟩,  -- ClearTimer
  ⟨0x6000, 4, 0x06, 1, .u32, .ro, 0, 0, 0, 4294967295, none, false, 0⟩,  -- DisturbedCauses
  ⟨0x6000, 4, 0x07, 1, .u32, .ro, 0, 4294967295, 0, 4294967295, none, false, 0⟩,  -- DegradedClearLeft
  ⟨0x6100, 8, 0x01, 1, .u32, .ro, 0, 0, 0, 4294967295, none, true, 0⟩,  -- CumPositive
  ⟨0x6100, 8, 0x02, 1, .u32, .ro, 0, 0, 0, 4294967295, none, true, 0⟩,  -- CumNegative
  ⟨0x6100, 8, 0x03, 1, .u64, .ro, 0, 0, 0, 18446744073709551615, none, true, 0⟩,  -- LastPassageTime
  ⟨0x6100, 8, 0x04, 1, .u8, .ro, 0, 255, 0, 255, none, true, 0⟩,  -- LastPassageDir
  ⟨0x6200, 4, 0x01, 1, .u64, .ro, 0, 0, 0, 18446744073709551615, none, false, 0⟩,  -- SettledTime
  ⟨0x6200, 4, 0x02, 6, .i16, .ro, 0, 0, (-32768), 32767, none, false, 0⟩,  -- Zone
  ⟨0x6200, 4, 0x08, 1, .i16, .ro, 0, 0, (-32768), 32767, none, false, 0⟩,  -- SettledBalance
  ⟨0x6200, 4, 0x09, 1, .u32, .ro, 0, 0, 0, 4294967295, none, false, 0⟩,  -- SettleLag
  ⟨0x6200, 4, 0x0A, 1, .u16, .ro, 0, 0, 0, 65535, none, false, 0⟩,  -- QueuedPassages
  ⟨0x6300, 4, 0x01, 1, .octets, .ro, 0, 0, 0, 0, none, false, 32⟩,  -- KinBlock
  ⟨0x6300, 4, 0x02, 1, .bool, .ro, 0, 0, 0, 1, none, false, 0⟩,  -- KinValid
  ⟨0x6300, 4, 0x03, 1, .i32, .ro, 0, 0, (-2147483648), 2147483647, none, false, 0⟩,  -- KinSpeed
  ⟨0x6300, 4, 0x04, 1, .u64, .ro, 0, 0, 0, 18446744073709551615, none, false, 0⟩,  -- KinRefTime
  ⟨0x6300, 4, 0x05, 1, .u8, .ro, 0, 15, 0, 255, none, false, 0⟩,  -- KinRefPoint
  ⟨0x6300, 4, 0x06, 1, .u16, .ro, 0, 0, 0, 65535, none, false, 0⟩,  -- KinAxles
  ⟨0x6300, 4, 0x07, 1, .u64, .ro, 0, 0, 0, 18446744073709551615, none, false, 0⟩]  -- KinEntryTime

/-- Rows of the dictionary from index 0x7000 to 0x7200 (R324 to R342 and the chapters they name). -/
def dictRows9 : List DRow := [
  ⟨0x7000, 1, 0x01, 1, .u32, .rw, 0, 0, 0, 4294967295, none, false, 0⟩,  -- RecCursor
  ⟨0x7000, 1, 0x02, 1, .domain, .ro, 0, 0, 0, 0, none, false, 0⟩,  -- RecRecord
  ⟨0x7000, 1, 0x03, 1, .bool, .wo, 0, 0, 0, 1, none, false, 0⟩,  -- RecAdvance
  ⟨0x7000, 1, 0x04, 1, .u32, .ro, 0, 0, 0, 4294967295, none, true, 0⟩,  -- RecFirst
  ⟨0x7000, 1, 0x05, 1, .u32, .ro, 0, 0, 0, 4294967295, none, true, 0⟩,  -- RecNewest
  ⟨0x7000, 1, 0x06, 1, .u32, .ro, 0, 0, 0, 4294967295, none, true, 0⟩,  -- RecUsed
  ⟨0x7000, 1, 0x07, 1, .u32, .ro, 0, 2097152, 0, 4294967295, none, true, 0⟩,  -- RecCapacity
  ⟨0x7000, 1, 0x08, 1, .bool, .ro, 0, 0, 0, 1, none, true, 0⟩,  -- RecFull
  ⟨0x7000, 1, 0x09, 1, .bool, .rwt, 3, 0, 0, 1, none, false, 0⟩,  -- RecClear
  ⟨0x7000, 1, 0x0A, 1, .u8, .ro, 0, 0, 0, 255, none, true, 0⟩,  -- RecStopCause
  ⟨0x7000, 1, 0x0B, 1, .u32, .ro, 0, 0, 0, 4294967295, none, false, 0⟩,  -- RecSuppressed
  ⟨0x7000, 1, 0x0C, 1, .u32, .ro, 0, 0, 0, 4294967295, none, false, 0⟩,  -- RecIntakeOverflow
  ⟨0x7000, 1, 0x0D, 1, .octets, .ro, 0, 0, 0, 0, none, true, 64⟩,  -- RecFaultLatch
  ⟨0x7000, 1, 0x0E, 1, .bool, .rwt, 3, 0, 0, 1, none, false, 0⟩,  -- RecFaultLatchClear
  ⟨0x7100, 1, 0x01, 1, .u16, .rw, 0, 0, 0, 65535, none, false, 0⟩,  -- LedgerCursor
  ⟨0x7100, 1, 0x02, 1, .u8, .rw, 0, 0, 0, 1, none, false, 0⟩,  -- LedgerCopy
  ⟨0x7100, 1, 0x03, 1, .octets, .ro, 0, 0, 0, 0, none, false, 16⟩,  -- LedgerEntry
  ⟨0x7100, 1, 0x04, 1, .domain, .ro, 0, 0, 0, 0, none, false, 0⟩,  -- LedgerBlock
  ⟨0x7100, 1, 0x05, 1, .u16, .ro, 0, 0, 0, 65535, none, false, 0⟩,  -- LedgerNewest
  ⟨0x7100, 1, 0x06, 1, .u16, .ro, 0, 0, 0, 65535, none, false, 0⟩,  -- LedgerOldest
  ⟨0x7100, 1, 0x07, 1, .u16, .ro, 0, 2048, 0, 65535, none, false, 0⟩,  -- LedgerUsable
  ⟨0x7100, 1, 0x08, 1, .u16, .ro, 0, 0, 0, 65535, none, false, 0⟩,  -- LedgerInUse
  ⟨0x7100, 1, 0x09, 1, .u16, .ro, 0, 0, 0, 65535, none, false, 0⟩,  -- LedgerPeakInUse
  ⟨0x7100, 1, 0x0A, 1, .u32, .ro, 0, 0, 0, 4294967295, none, true, 0⟩,  -- LedgerForcedRetire
  ⟨0x7100, 1, 0x0B, 1, .u32, .ro, 0, 0, 0, 4294967295, none, true, 0⟩,  -- LedgerEccCorrected
  ⟨0x7100, 1, 0x0C, 1, .u32, .ro, 0, 0, 0, 4294967295, none, true, 0⟩,  -- LedgerCopyMismatch
  ⟨0x7100, 1, 0x0D, 1, .u32, .ro, 0, 0, 0, 4294967295, none, true, 0⟩,  -- LedgerExhausted
  ⟨0x7200, 1, 0x01, 1, .u8, .wo, 2, 0, 0, 15, none, false, 0⟩,  -- ProofNow
  ⟨0x7200, 1, 0x02, 1, .u8, .ro, 0, 0, 0, 255, none, false, 0⟩,  -- IsolationRequested
  ⟨0x7200, 1, 0x03, 1, .u8, .ro, 0, 0, 0, 255, none, false, 0⟩,  -- IsolationGranted
  ⟨0x7200, 1, 0x04, 1, .u8, .ro, 0, 0, 0, 255, none, false, 0⟩,  -- LastTestResult
  ⟨0x7200, 1, 0x05, 1, .u32, .ro, 0, 0, 0, 4294967295, none, false, 0⟩,  -- LastTestPatterns
  ⟨0x7200, 1, 0x06, 1, .u32, .ro, 0, 0, 0, 4294967295, none, false, 0⟩,  -- PlannedPatterns
  ⟨0x7200, 1, 0x07, 1, .domain, .ro, 0, 0, 0, 0, none, true, 0⟩,  -- RepairMap
  ⟨0x7200, 1, 0x08, 1, .u32, .ro, 0, 0, 0, 4294967295, none, false, 0⟩,  -- SoftRepairs
  ⟨0x7200, 1, 0x09, 1, .u32, .ro, 0, 0, 0, 4294967295, none, true, 0⟩,  -- FuseRepairs
  ⟨0x7200, 1, 0x0A, 1, .octets, .ro, 0, 0, 0, 0, none, true, 8⟩,  -- SpareRowsLeft
  ⟨0x7200, 1, 0x0B, 1, .u16, .ro, 0, 0, 0, 65535, none, true, 0⟩,  -- RetiredEngines
  ⟨0x7200, 1, 0x0C, 1, .u16, .ro, 0, 0, 0, 65535, none, false, 0⟩]  -- PathsUnderTest

/-- The rows of the dictionary map (R324). -/
def dictRows : List DRow :=
  dictRows0 ++ dictRows1 ++ dictRows2 ++ dictRows3 ++ dictRows4 ++ dictRows5 ++ dictRows6 ++ dictRows7 ++ dictRows8 ++ dictRows9


/-- The row that holds an entry. -/
def dictRow (key : Nat) : Option DRow :=
  dictRows.find? fun r =>
    decide (r.index ≤ key / 256 ∧ key / 256 < r.index + r.members ∧ r.sub ≤ key % 256 ∧ key % 256 < r.sub + r.subs)

/-- Rows of one index. -/
def dictRowsOf (idx : Nat) : List DRow := dictRows.filter fun r => decide (r.index ≤ idx ∧ idx < r.index + r.members)

/-- R325: an index of R324. -/
def indexExists (idx : Nat) : Bool := !(dictRowsOf idx).isEmpty

/-- R9: the highest subindex of a record. -/
def highestSub (idx : Nat) : Nat := (dictRowsOf idx).foldl (fun m r => max m (r.sub + r.subs - 1)) 0

/-- R326: 0x1000 to 0x100A are single entries at subindex 0; every other record has its count there. -/
def isCountEntry (key : Nat) : Bool := key % 256 == 0 && (dictRow key).isNone && indexExists (key / 256)

/-- R303: the size of an entry; none where it may vary. -/
def DRow.size (r : DRow) : Option Nat :=
  match r.typ with
  | .bool => some 1
  | .u8 => some 1
  | .u16 => some 2
  | .i16 => some 2
  | .u32 => some 4
  | .i32 => some 4
  | .u64 => some 8
  | .octets => some r.len
  | .vstr => none
  | .domain => none

/-- The number a value spells under the entry's type. -/
def DRow.num (r : DRow) (v : List Byte) : Int :=
  match r.typ with
  | .i16 => signedOf 16 (leNat v)
  | .i32 => signedOf 32 (leNat v)
  | _ => (leNat v : Int)

/-- R309: an expert setting is an expert entry that is writable and stored. -/
def DRow.expertSetting (r : DRow) : Bool :=
  decide (0x3000 ≤ r.index ∧ r.index < 0x4000) && r.stored && (r.acc == .rw || r.acc == .rwc || r.acc == .rwt)

end Sys2Proof.Machine
end

