-- ==== Sys2Proof/Machine/Ops.lean ====
section
/-! DEFINITION. Operations that every family of commands shares: the clock, free values, the recorder's intake, host event
pulses, the working configuration, canonical maps and updates of one member of an array. -/

namespace Sys2Proof.Machine

/-- The answer of a command that completes: no rule stops this block. -/
abbrev done (s : State) : Host.Outcome State Fault Refusal := .next s

/-- Apply an effect where its condition holds; otherwise the state stays. -/
def State.when (s : State) (b : Bool) (f : State → State) : State := if b then f s else s

/-- Apply an effect to the content of an option. -/
def State.whenSome {α : Type} (s : State) (o : Option α) (f : State → α → State) : State :=
  match o with
  | some a => f s a
  | none => s

/-- Units of time. -/
def us (n : Nat) : Time := n * 1000
def ms (n : Nat) : Time := n * 1000000
def secs (n : Nat) : Time := n * 1000000000

/-! ### Clock (R6, R50, R361, R362) -/

/-- The time base's time. R6: it does not go below 0. -/
def State.tbNow (s : State) : Time := ((s.clk.now : Int) + s.clk.tbOff).toNat

/-- A time base stamp of an elapsed time. -/
def State.toTb (s : State) (t : Time) : Time := ((t : Int) + s.clk.tbOff).toNat

/-- The share of a slewing that elapsed time dt allows at ± 100 ppm (R361). -/
def slewShare (slew : Int) (dt : Time) : Int :=
  if 0 ≤ slew then min slew (dt / 10000 : Nat) else max slew (-((dt / 10000 : Nat) : Int))

/-- R361: elapsed time moves to t, never back, and slewing goes on at no more than 100 ppm. -/
def Clock.moved (k : Clock) (t : Time) : Clock :=
  let d := slewShare k.slew (t - k.now)
  { now := max k.now t, tbOff := k.tbOff + d, slew := k.slew - d }

/-- R369: the number of a power state. -/
def PState.code : PState → Fin 4
  | .active => 0
  | .watch => 1
  | .lull => 2
  | .hibernate => 3

/-- Whether the part is out of reset. -/
def State.released (s : State) : Bool := s.phase == .booting || s.phase == .service

/-- R417, R338, R432: the counts of elapsed time that run while the part is out of reset, through dt. -/
def NonVolatile.elapsed (nv : NonVolatile) (p : PState) (degraded : Bool) (dt : Time) : NonVolatile :=
  { nv with
    opsecNs := nv.opsecNs + dt
    stateNs := updV nv.stateNs p.code (· + dt)
    degradedNs := if degraded then nv.degradedNs + dt else nv.degradedNs }

/-- Elapsed time runs to t. -/
def State.elapse (s : State) (t : Time) : State :=
  { s with
    clk := s.clk.moved t
    nv := if s.released then s.nv.elapsed s.pwr.state s.keep.degraded (t - s.clk.now) else s.nv }

/-- R417: operating seconds. -/
def State.opsec (s : State) : Nat := s.nv.opsecNs / 1000000000

/-! ### Free values (log entries 2, 3, 4) -/

/-- The next free number, and the state with it drawn. -/
def State.drawFree (s : State) : Nat × State := (Config.freeNat s.freeCount, { s with freeCount := s.freeCount + 1 })

/-- A rational as an integer where the spec names a unit and no rounding: floor or floor + 1, free which (log entry 3). An
exact value is itself. -/
def State.unstatedRound (s : State) (q : Rat) : Int × State :=
  if (q.floor : Rat) = q then (q.floor, s)
  else (if Config.roundUp s.freeCount then q.floor + 1 else q.floor, { s with freeCount := s.freeCount + 1 })

/-- R96 and others state "rounded to the nearest": halves away from zero. -/
def roundNearest (q : Rat) : Int := if 0 ≤ q then (q + 1 / 2).floor else -((-q + 1 / 2).floor)

/-! ### Flags that writing 1 clears (R7) -/

/-- R7: what a write of 1 leaves of a flag: hardware that set it in the same cycle, the same instant of the model, wins. -/
def w1c (flag clear : Bool) (setAt : Option Time) (now : Time) : Bool := flag && (!clear || setAt == some now)

/-- R7: the mask of the flags of a field that hardware set at this instant. -/
def setNow {n : Nat} (at_ : Vector (Option Time) n) (now : Time) : BitVec n :=
  (List.finRange n).foldl (fun (m : BitVec n) (i : Fin n) => if at_[i] == some now then m ||| (1 <<< i.val) else m) 0

/-! ### Flags judged at an earlier time (R247 to R250) -/

/-- A change of a flag joins its log; the latest 16 changes are kept. -/
def FlagLog.set (l : FlagLog) (t : Time) (b : Bool) : FlagLog :=
  let m := l ++ [(t, b)]
  if 16 < m.length then m.drop (m.length - 16) else m

/-- The flag at a time: its latest change at or before it, 0 before the first. -/
def FlagLog.at_ (l : FlagLog) (t : Time) : Bool :=
  match (l.filter fun p => decide (p.1 ≤ t)).getLast? with
  | some p => p.2
  | none => false

/-- R247: HeadCumValid of a head becomes 1 or 0. -/
def State.setCumValid (s : State) (h : Fin 8) (b : Bool) : State :=
  { s with keep := { s.keep with
    cumValid := updV s.keep.cumValid h fun _ => if b then some s.tbNow else none
    cumLog := updV s.keep.cumLog h fun l => if s.keep.cumValid[h].isSome == b then l else l.set s.tbNow b } }

/-- R246, R250: AttestationBarred of a section becomes 1 or 0. -/
def State.setBarred (s : State) (n : Fin 4) (b : Bool) : State :=
  { s with keep := { s.keep with
    barred := updV s.keep.barred n fun _ => b
    barredLog := updV s.keep.barredLog n fun l => if s.keep.barred[n] == b then l else l.set s.tbNow b } }

/-- R248: a balance becomes sound or unsound. -/
def SecCnt.setSound (k : SecCnt) (t : Time) (b : Bool) : SecCnt :=
  if k.sound = b then k else { k with sound := b, soundLog := k.soundLog.set t b }

/-! ### Canonical maps: keys strictly rising, one entry a key -/

/-- The value of a key. -/
def kvGet {α : Type} (k : Nat) : List (Nat × α) → Option α
  | [] => none
  | (j, a) :: m => if j = k then some a else kvGet k m

/-- The map with a key set. -/
def kvSet {α : Type} (k : Nat) (a : α) : List (Nat × α) → List (Nat × α)
  | [] => [(k, a)]
  | (j, b) :: m => if k < j then (k, a) :: (j, b) :: m else if j = k then (k, a) :: m else (j, b) :: kvSet k a m

/-- The map without a key. -/
def kvDel {α : Type} (k : Nat) : List (Nat × α) → List (Nat × α)
  | [] => []
  | (j, b) :: m => if j = k then m else (j, b) :: kvDel k m

/-- The canonical form: keys strictly rising. -/
def kvWf {α : Type} : List (Nat × α) → Bool
  | [] => true
  | [_] => true
  | (j, _) :: (k, b) :: m => decide (j < k) && kvWf ((k, b) :: m)

/-- Insert into a list kept in order of a key; equal keys go behind. -/
def insertBy {α : Type} (f : α → Nat) (a : α) : List α → List α
  | [] => [a]
  | b :: l => if f a < f b then a :: b :: l else b :: insertBy f a l

/-- A list in order of a key; equal keys keep their order. -/
def sortBy {α : Type} (f : α → Nat) (l : List α) : List α := l.foldl (fun acc a => insertBy f a acc) []

/-! ### The working configuration (R12, R309) -/

/-- Dictionary key of an entry. -/
def dkey (idx sub : Nat) : Nat := idx * 256 + sub

/-- The value in force of a setting, as a number; `d` is what it reads while nothing is stored for it. -/
def State.cfg (s : State) (idx sub d : Nat) : Nat :=
  match kvGet (dkey idx sub) s.sdp.work with
  | some v => leNat v
  | none => d

/-- The value in force of a signed 16-bit setting. -/
def State.cfgI16 (s : State) (idx sub : Nat) (d : Int) : Int :=
  match kvGet (dkey idx sub) s.sdp.work with
  | some v => signedOf 16 (leNat v)
  | none => d

/-- The value in force of a signed 32-bit setting. -/
def State.cfgI32 (s : State) (idx sub : Nat) (d : Int) : Int :=
  match kvGet (dkey idx sub) s.sdp.work with
  | some v => signedOf 32 (leNat v)
  | none => d

/-! ### One member of an array -/

def State.onChan (s : State) (c : Fin 16) (f : Chan → Chan) : State :=
  { s with fe := { s.fe with chans := updV s.fe.chans c f } }
def State.onWarn (s : State) (c : Fin 16) (f : Warn → Warn) : State :=
  { s with fe := { s.fe with warns := updV s.fe.warns c f } }
def State.onScan (s : State) (c : Fin 16) (f : Scan → Scan) : State :=
  { s with fe := { s.fe with scans := updV s.fe.scans c f } }
def State.onTch (s : State) (c : Fin 8) (f : Tch → Tch) : State :=
  { s with fe := { s.fe with tch := updV s.fe.tch c f } }
def State.onBlank (s : State) (b : Fin 6) (f : Blank → Blank) : State :=
  { s with fe := { s.fe with blank := updV s.fe.blank b f } }
def State.onDet (s : State) (c : Fin 16) (f : Det → Det) : State :=
  { s with eng := { s.eng with dets := updV s.eng.dets c f } }
def State.onStats (s : State) (c : Fin 16) (f : Stats → Stats) : State :=
  { s with eng := { s.eng with stats := updV s.eng.stats c f } }
def State.onProof (s : State) (c : Fin 16) (f : Proof → Proof) : State :=
  { s with eng := { s.eng with proofs := updV s.eng.proofs c f } }
def State.onWse (s : State) (e : Fin 9) (f : Engine → Engine) : State :=
  { s with eng := { s.eng with wse := updV s.eng.wse e f } }
def State.onSv (s : State) (v : Fin 2) (f : Sv → Sv) : State := { s with sv := updV s.sv v f }
def State.onPermit (s : State) (n : Fin 4) (f : Permit → Permit) : State :=
  { s with keep := { s.keep with permits := updV s.keep.permits n f } }
def State.onMerged (s : State) (n : Fin 4) (f : Merged → Merged) : State :=
  { s with keep := { s.keep with merged := updV s.keep.merged n f } }
def State.onNvChan (s : State) (c : Fin 16) (f : NvChan → NvChan) : State :=
  { s with nv := { s.nv with chans := updV s.nv.chans c f } }
def State.onNvHead (s : State) (h : Fin 8) (f : NvHead → NvHead) : State :=
  { s with nv := { s.nv with heads := updV s.nv.heads h f } }
def State.onNvSec (s : State) (n : Fin 4) (f : NvSec → NvSec) : State :=
  { s with nv := { s.nv with secs := updV s.nv.secs n f } }
def State.onNvConn (s : State) (k : Fin 8) (f : NvConn → NvConn) : State :=
  { s with nv := { s.nv with conns := updV s.nv.conns k f } }
def State.onHaspConn (s : State) (k : Fin 8) (f : HaspConn → HaspConn) : State :=
  { s with hasp := { s.hasp with conns := updV s.hasp.conns k f } }
def State.onSession (s : State) (i : Fin 5) (f : Session → Session) : State :=
  { s with sdp := { s.sdp with sessions := updV s.sdp.sessions i f } }
def State.onPort (s : State) (p : Fin 4) (f : Port → Port) : State :=
  { s with net := { s.net with ports := updV s.net.ports p f } }
def State.onTraction (s : State) (n : Fin 4) (f : Traction → Traction) : State := { s with trac := updV s.trac n f }
def State.onCvu (s : State) (u : Fin 2) (f : Cvu → Cvu) : State := { s with cvu := updV s.cvu u f }
def Sv.onProp (v : Sv) (n : Fin 4) (f : Prop_ → Prop_) : Sv := { v with props := updV v.props n f }
def Sv.onSec (v : Sv) (n : Fin 4) (f : SecCnt → SecCnt) : Sv := { v with secs := updV v.secs n f }
def Sv.onHead (v : Sv) (h : Fin 8) (f : HeadCnt → HeadCnt) : Sv := { v with heads := updV v.heads h f }
def Sv.onConn (v : Sv) (k : Fin 8) (f : SvConn → SvConn) : Sv := { v with conns := updV v.conns k f }
def Sv.onRest (v : Sv) (n : Fin 4) (f : Rest → Rest) : Sv := { v with rests := updV v.rests n f }

/-- Every member of an array in turn. -/
def State.each {α : Type} (s : State) (l : List α) (f : State → α → State) : State := l.foldl f s

/-- Every member of a fixed range in turn, in rising order. -/
def State.eachFin (s : State) (n : Nat) (f : State → Fin n → State) : State := (List.finRange n).foldl f s

/-! ### The recorder's intake and the host's pulses -/

/-- R416, R418, R420: an event on its way to the recorder's intake, stamped with the time base, its payload after the
stamp. -/
def State.record (s : State) (code : BitVec 16) (src : BitVec 2) (payload : List Byte) (emergency : Bool := false) :
    State :=
  { s with intake := { s.intake with
      offered := s.intake.offered ++
        [{ code := code, emergency := emergency, source := src, time := s.tbNow, payload := payload }] } }

/-- R392: a pulse source fires; its flag is set once it has crossed into the HOST domain (HEC_SOURCE_PENDING). -/
def State.pulse (s : State) (n : Nat) : State :=
  { s with hec := { s.hec with inflight := s.hec.inflight ++ [n] } }

/-- R416: the SOURCE code of a supervisor. -/
def svSource (v : Fin 2) : BitVec 2 := if v = 0 then 1 else 2

/-! ### Codes of recorder events

R418: numbers run from 0x01 in each class in the order of the statements that call for the records, by number, and within a
statement in its own order (log entry 8). -/

def codeContactBounce : BitVec 16 := 0x0101
def codeReversion : BitVec 16 := 0x0102
def codeSectionEntry : BitVec 16 := 0x0201
def codeNoEntry : BitVec 16 := 0x0202
def codeNbrNoEntry : BitVec 16 := 0x0203
def codeTumblerResolved : BitVec 16 := 0x0301
def codeTumblerMismatch : BitVec 16 := 0x0302
def codeCause : BitVec 16 := 0x0303
def codeVoid : BitVec 16 := 0x0401
def codeRetire : BitVec 16 := 0x0402
def codePassage : BitVec 16 := 0x0403
def codePassageHour : BitVec 16 := 0x0404
def codeChanFault : BitVec 16 := 0x0501
def codeChanRail : BitVec 16 := 0x0502
def codeChanWarn : BitVec 16 := 0x0503
def codeTemperature : BitVec 16 := 0x0504
def codeReject : BitVec 16 := 0x0601
def codeReReference : BitVec 16 := 0x0602
def codeTakeover : BitVec 16 := 0x0603
def codeProofAborted : BitVec 16 := 0x0604
def codeProofFailed : BitVec 16 := 0x0605
def codeScanOverdue : BitVec 16 := 0x0701
def codeNoCleanCarrier : BitVec 16 := 0x0702
def codePlansDiffer : BitVec 16 := 0x0703
def codeBlankStuck : BitVec 16 := 0x0704
def codeCarrierMove : BitVec 16 := 0x0705
def codeHaspReject : BitVec 16 := 0x0801
def codeHaspSplit : BitVec 16 := 0x0802
def codeLane : BitVec 16 := 0x0803
def codeConnection : BitVec 16 := 0x0804
def codeFarewellIn : BitVec 16 := 0x0805
def codePitchLost : BitVec 16 := 0x0901
def codePitch : BitVec 16 := 0x0902
def codeCheckpointDiffers : BitVec 16 := 0x0903
def codeZoneReset : BitVec 16 := 0x0904
def codeRebase : BitVec 16 := 0x0905
def codeRefusal : BitVec 16 := 0x0906
def codeDirectClear : BitVec 16 := 0x0907
def codeResultDiscarded : BitVec 16 := 0x0908
def codeNoCommonAmplitude : BitVec 16 := 0x0A01
def codeLinkDown : BitVec 16 := 0x0A02
def codeQueueDrop : BitVec 16 := 0x0A03
def codeTimeStep : BitVec 16 := 0x0A04
def codeTimeState : BitVec 16 := 0x0A05
def codePpsLock : BitVec 16 := 0x0A06
def codePermitDrop : BitVec 16 := 0x0B01
def codeTractionStale : BitVec 16 := 0x0B02
def codeBrakingLoss : BitVec 16 := 0x0B03
def codeDcl : BitVec 16 := 0x0B04
def codeChopper : BitVec 16 := 0x0B05
def codeRaise : BitVec 16 := 0x0C01
def codeRaiseRefused : BitVec 16 := 0x0C02
def codeDegraded : BitVec 16 := 0x0D01
def codeDegradedExpiry : BitVec 16 := 0x0D02
def codeAssembly : BitVec 16 := 0x0D03
/-- R432: a row of its table, numbered from 1. -/
def codeFaultRow (row : Nat) : BitVec 16 := BitVec.ofNat 16 (0x0D03 + row)
def codeFeed : BitVec 16 := 0x0D19
def codeRetiredEngine : BitVec 16 := 0x0E01
def codeIsolationRefused : BitVec 16 := 0x0E02
def codeTestResult : BitVec 16 := 0x0E03
def codeRepair : BitVec 16 := 0x0E04
def codeReplaceModule : BitVec 16 := 0x0E05
def codePowerState : BitVec 16 := 0x0F01
def codeSleepAborted : BitVec 16 := 0x0F02
def codeConfigWanted : BitVec 16 := 0x4001

end Sys2Proof.Machine
end

