-- ==== Sys2Proof/Machine/Settings.lean ====
section
/-! DEFINITION. The settings in force, one reader per entry of the dictionary that configures the block, with the value it
reads while nothing is written for it (its default, or the value derived from the basic entries, R309), and the geometry
they describe (R13 to R31, R205, R481). -/

namespace Sys2Proof.Machine

/-! Index 0x1100 (R327). -/

def State.levelKeySlot (s : State) (j : Nat) : Nat := s.cfg 0x1100 (0x04 + j) 0

/-! Index 0x1400 (R236). -/

def State.haspPeriod (s : State) : Nat := s.cfg 0x1400 0x01 2
def State.maxAge (s : State) : Nat := s.cfg 0x1400 0x02 2000
def State.nodeNumber (s : State) : Nat := s.cfg 0x1400 0x03 0
def State.haspPriority (s : State) : Nat := s.cfg 0x1400 0x04 6
def State.crossCheckEnable (s : State) : Bool := s.cfg 0x1400 0x05 1 != 0
def State.crossSpeedFactor (s : State) : Nat := s.cfg 0x1400 0x06 20

/-! Index 0x1410 (R237). -/

def State.connEnable (s : State) (i : Nat) : Bool := s.cfg (0x1410 + i) 0x01 0 != 0
def State.connSection (s : State) (i : Nat) : Nat := s.cfg (0x1410 + i) 0x02 0
def State.connLeg (s : State) (i : Nat) : Nat := s.cfg (0x1410 + i) 0x03 0
def State.connSide (s : State) (i : Nat) : Nat := s.cfg (0x1410 + i) 0x04 0
def State.txConnId (s : State) (i : Nat) : Nat := s.cfg (0x1410 + i) 0x06 0
def State.rxConnId (s : State) (i : Nat) : Nat := s.cfg (0x1410 + i) 0x07 0
def State.authMode (s : State) (i : Nat) : Nat := s.cfg (0x1410 + i) 0x08 0
def State.keySlot (s : State) (i : Nat) : Nat := s.cfg (0x1410 + i) 0x09 0

/-! Index 0x2000 (R329). -/

def State.speedLimit (s : State) : Nat := s.cfg 0x2000 0x02 8000
def State.configRevision (s : State) : Nat := s.cfg 0x2000 0x03 0
def State.spanWest (s : State) : Nat := s.cfg 0x2000 0x04 100
def State.spanEast (s : State) : Nat := s.cfg 0x2000 0x05 100

/-! Index 0x2100 (R30). -/

def State.headEnable (s : State) (i : Nat) : Bool := s.cfg (0x2100 + i) 0x01 0 != 0
def State.systemSpacing (s : State) (i : Nat) : Nat := s.cfg (0x2100 + i) 0x02 80
def State.headChainage (s : State) (i : Nat) : Int := s.cfgI32 (0x2100 + i) 0x03 (0)
def State.cableLength (s : State) (i : Nat) : Nat := s.cfg (0x2100 + i) 0x04 20

/-! Index 0x2200 (R30). -/

def State.legCount (s : State) (i : Nat) : Nat := s.cfg (0x2200 + i) 0x01 0
def State.legHeads (s : State) (i : Nat) : Nat := s.cfg (0x2200 + i) 0x02 4294967295
def State.legSense (s : State) (i : Nat) : Nat := s.cfg (0x2200 + i) 0x03 0
def State.legBeyond (s : State) (i : Nat) : Nat := s.cfg (0x2200 + i) 0x04 0
def State.overlapLeg (s : State) (i : Nat) (j : Nat) : Nat := s.cfg (0x2200 + i) (0x05 + j) 0
def State.sectionLength (s : State) (i : Nat) : Nat := s.cfg (0x2200 + i) 0x09 0
def State.stubEnd (s : State) (i : Nat) : Bool := s.cfg (0x2200 + i) 0x0A 0 != 0
def State.noEntryRequest (s : State) (i : Nat) : Bool := s.cfg (0x2200 + i) 0x0B 0 != 0
def State.legPartner (s : State) (i : Nat) : Nat := s.cfg (0x2200 + i) 0x0F 4294967295

/-! Index 0x2300 (R330). -/

def State.deepestState (s : State) : Nat := s.cfg 0x2300 0x01 3

/-! Index 0x2400 (R330). -/

def State.passageRecords (s : State) : Nat := s.cfg 0x2400 0x01 1
def State.emergencyEnable (s : State) : Bool := s.cfg 0x2400 0x02 1 != 0

/-! Index 0x2500 (R94). -/

def State.amonChannel (s : State) (j : Nat) : Nat := s.cfg 0x2500 (0x01 + j) 255
def State.amonMeasure (s : State) (j : Nat) : Nat := s.cfg 0x2500 (0x05 + j) 2

/-! Index 0x3100 (R93). -/

def State.carrierLowK (s : State) (i : Nat) : Nat := s.cfg (0x3100 + i) 0x02 44
def State.carrierHighK (s : State) (i : Nat) : Nat := s.cfg (0x3100 + i) 0x03 131
def State.senseGain (s : State) (i : Nat) : Nat := s.cfg (0x3100 + i) 0x04 255
def State.burnOut (s : State) (i : Nat) : Nat := s.cfg (0x3100 + i) 0x05 2
def State.blankGuard (s : State) (i : Nat) : Nat := s.cfg (0x3100 + i) 0x07 2
def State.loopFloor (s : State) (i : Nat) : Nat := s.cfg (0x3100 + i) 0x08 12
def State.excCurrentMin (s : State) (i : Nat) : Nat := s.cfg (0x3100 + i) 0x09 40
def State.excCurrentMax (s : State) (i : Nat) : Nat := s.cfg (0x3100 + i) 0x0A 160
def State.reconnectQuiet (s : State) (i : Nat) : Nat := s.cfg (0x3100 + i) 0x0B 1000

/-! Index 0x3200 (R150). -/

def State.onsetLevel (s : State) (i : Nat) : Nat := s.cfg (0x3200 + i) 0x01 80
def State.releaseLevel (s : State) (i : Nat) : Nat := s.cfg (0x3200 + i) 0x02 40
def State.freezeLevel (s : State) (i : Nat) : Nat := s.cfg (0x3200 + i) 0x03 20
def State.confirmLevel (s : State) (i : Nat) : Nat := s.cfg (0x3200 + i) 0x04 60
def State.confirmWindow (s : State) (i : Nat) : Nat := s.cfg (0x3200 + i) 0x05 1024
def State.wheelFloor (s : State) (i : Nat) : Nat := s.cfg (0x3200 + i) 0x06 150
def State.noiseWarn (s : State) (i : Nat) : Nat := s.cfg (0x3200 + i) 0x08 10
def State.noiseFault (s : State) (i : Nat) : Nat := s.cfg (0x3200 + i) 0x09 20
def State.driftWarnMag (s : State) (i : Nat) : Nat := s.cfg (0x3200 + i) 0x0A 200
def State.driftFaultMag (s : State) (i : Nat) : Nat := s.cfg (0x3200 + i) 0x0B 400
def State.driftWarnPhase (s : State) (i : Nat) : Nat := s.cfg (0x3200 + i) 0x0C 80
def State.driftFaultPhase (s : State) (i : Nat) : Nat := s.cfg (0x3200 + i) 0x0D 150
def State.residualTime (s : State) (i : Nat) : Nat := s.cfg (0x3200 + i) 0x0E 600
def State.tempCompEnable (s : State) (i : Nat) : Bool := s.cfg (0x3200 + i) 0x0F 1 != 0
def State.rejectEnable (s : State) (i : Nat) : Bool := s.cfg (0x3200 + i) 0x10 1 != 0
def State.proofInterval (s : State) (i : Nat) : Nat := s.cfg (0x3200 + i) 0x11 600

/-! Index 0x3300 (R203, R293). -/

def State.interiorHead (s : State) (i : Nat) : Nat := s.cfg (0x3300 + i) 0x01 255
def State.interiorSide (s : State) (i : Nat) : Bool := s.cfg (0x3300 + i) 0x02 0 != 0
def State.z5Legs (s : State) (i : Nat) : Nat := s.cfg (0x3300 + i) 0x03 0
def State.clearConfirmDelay (s : State) (i : Nat) : Nat := s.cfg (0x3300 + i) 0x04 250
def State.disturbedHold (s : State) (i : Nat) : Nat := s.cfg (0x3300 + i) 0x05 2000
def State.degradedClearTime (s : State) (i : Nat) : Nat := s.cfg (0x3300 + i) 0x06 8
def State.bemfThreshold (s : State) (i : Nat) : Nat := s.cfg (0x3300 + i) 0x08 20
def State.bemfTime (s : State) (i : Nat) : Nat := s.cfg (0x3300 + i) 0x09 20
def State.kinMaxAge (s : State) (i : Nat) : Nat := s.cfg (0x3300 + i) 0x0B 3000
def State.kinRefUnc (s : State) (i : Nat) : Nat := s.cfg (0x3300 + i) 0x0C 50
def State.kinSpeedErr (s : State) (i : Nat) : Nat := s.cfg (0x3300 + i) 0x0D 30
def State.kinAccelMax (s : State) (i : Nat) : Nat := s.cfg (0x3300 + i) 0x0E 1500
def State.tractionStale (s : State) (i : Nat) : Nat := s.cfg (0x3300 + i) 0x0F 10

/-! Index 0x3400 (R267). -/

def State.attestEnable (s : State) : Bool := s.cfg 0x3400 0x01 1 != 0
def State.attestTimeout (s : State) : Nat := s.cfg 0x3400 0x02 100
def State.attestRetry (s : State) : Nat := s.cfg 0x3400 0x03 1000

/-! Index 0x3500 (R332). -/

def State.guardShare (s : State) : Nat := s.cfg 0x3500 0x02 20
def State.guardFixed (s : State) : Nat := s.cfg 0x3500 0x03 5
def State.sleepHoldoff (s : State) : Nat := s.cfg 0x3500 0x04 1000

/-! Index 0x3600 (R114). -/

def State.scanEnable (s : State) : Bool := s.cfg 0x3600 0x01 1 != 0
def State.scanInterval (s : State) : Nat := s.cfg 0x3600 0x02 300
def State.scanOverdue (s : State) : Nat := s.cfg 0x3600 0x03 3600
def State.adaptEnable (s : State) : Bool := s.cfg 0x3600 0x04 1 != 0
def State.moveThreshold (s : State) : Int := s.cfgI16 0x3600 0x05 (-34)
def State.moveGain (s : State) : Nat := s.cfg 0x3600 0x06 6
def State.moveSpanLow (s : State) : Nat := s.cfg 0x3600 0x07 12
def State.moveSpanHigh (s : State) : Nat := s.cfg 0x3600 0x08 24
def State.moveHoldoff (s : State) : Nat := s.cfg 0x3600 0x09 60
def State.moveHorizonMin (s : State) : Nat := s.cfg 0x3600 0x0A 5
def State.blankPinInvert (s : State) : Nat := s.cfg 0x3600 0x0D 0

/-! Index 0x3700 (R94). -/

def State.tchFourWire (s : State) : Nat := s.cfg 0x3700 0x09 0

/-! Index 0x3800 (R333). -/

def State.prpLifeCheckInterval (s : State) : Nat := s.cfg 0x3800 0x05 2000
def State.prpEntryForgetTime (s : State) : Nat := s.cfg 0x3800 0x06 400
def State.syncLogInterval (s : State) : Int := s.cfgI16 0x3800 0x07 (-3)
def State.pdelayLogInterval (s : State) : Int := s.cfgI16 0x3800 0x08 (0)
def State.propDelayThreshold (s : State) : Nat := s.cfg 0x3800 0x09 800
def State.holdoverLimit (s : State) : Nat := s.cfg 0x3800 0x0A 60
def State.dictPriority (s : State) : Nat := s.cfg 0x3800 0x0B 2
def State.syncPpsMode (s : State) : Nat := s.cfg 0x3800 0x0C 0
def State.cutThrough (s : State) : Bool := s.cfg 0x3800 0x0D 1 != 0

/-! Index 0x4030 (R334). -/

def State.boundPosition (s : State) : Nat := s.cfg 0x4030 0x02 0

/-! ### Settings with derived values -/

/-- R91: the resistive channel at a head's body; its default is the head's own number. -/
def State.headTch (s : State) (h : Nat) : Nat := s.cfg (0x2100 + h) 0x05 h

/-- R92: amplitude by cable length. -/
def ampOfCable (m : Nat) : Nat := if m ≤ 20 then 3 else if m ≤ 35 then 5 else 7

/-- R92, R93: ExcAmplitude of a channel. -/
def State.excAmplitude (s : State) (c : Nat) : Nat := s.cfg (0x3100 + c) 0x01 (ampOfCable (s.cableLength (c / 2)))

/-- R71: ExcAmplitude is overridden. -/
def State.excOverridden (s : State) (c : Nat) : Bool := (kvGet (dkey (0x3100 + c) 0x01) s.sdp.work).isSome

/-- R92: the derived role of a resistive channel: the lowest enabled head measured by it. -/
def State.tchDerived (s : State) (c : Nat) : Nat :=
  match (List.range 8).find? fun h => s.headEnable h && s.headTch h == c with
  | some h => 0x10 + h
  | none => 0

/-- R89, R94: TchRole of a resistive channel. -/
def State.tchRole (s : State) (c : Nat) : Nat := s.cfg 0x3700 (0x01 + c) (s.tchDerived c)

/-- R150: BaselineSlew follows HeadTch. -/
def State.baselineSlew (s : State) (h : Nat) : Nat := s.cfg (0x3200 + h) 0x07 (if s.headTch h = 0xFF then 500 else 50)

/-- R332: HorizonSpeed follows SpeedLimit. -/
def State.horizonSpeed (s : State) : Nat := s.cfg 0x3500 0x01 s.speedLimit

/-- R1, R2: the stage a section gates on this variant. -/
def State.gates (s : State) (sec : Nat) : Bool := s.part.variant == .ty440 || decide (sec < 2)

/-- R203: BemfEnable follows whether the section gates a stage. -/
def State.bemfEnable (s : State) (sec : Nat) : Bool := s.cfg (0x3300 + sec) 0x07 (b2n (s.gates sec)) != 0

/-- R237: SendOffset in µs. -/
def State.sendOffset (s : State) (k : Nat) : Nat := s.cfg (0x1410 + k) 0x0A (100 * k)

/-- R333: PhyAmplitude follows the span of the port's side. -/
def State.phyAmplitude (s : State) (p : Nat) : Nat :=
  s.cfg 0x3800 (0x01 + p) (if (if p % 2 = 0 then s.spanWest else s.spanEast) ≤ 200 then 1 else 2)

/-- R237: NeighbourMac, first octet the most significant. -/
def State.neighbourMac (s : State) (k : Nat) : Mac :=
  match kvGet (dkey (0x1410 + k) 0x05) s.sdp.work with
  | some v => BitVec.ofNat 48 (leNat v.reverse)
  | none => 0

/-- R327: EmergencyMac. -/
def State.emergencyMac (s : State) : Mac :=
  match kvGet (dkey 0x1100 0x07) s.sdp.work with
  | some v => BitVec.ofNat 48 (leNat v.reverse)
  | none => 0

/-- R13, R16: the head of a channel, and the channels of a head: system 0 X, 1 Y. -/
def headOf (c : Fin 16) : Fin 8 := ⟨c.val / 2, by omega⟩
def chanX (h : Fin 8) : Fin 16 := ⟨2 * h.val, by omega⟩
def chanY (h : Fin 8) : Fin 16 := ⟨2 * h.val + 1, by omega⟩
def chanOf (h : Fin 8) (sys : Fin 2) : Fin 16 := ⟨2 * h.val + sys.val, by omega⟩
/-- R73: the other system of the same head. -/
def partnerChan (c : Fin 16) : Fin 16 := ⟨if c.val % 2 = 0 then c.val + 1 else c.val - 1, by split <;> omega⟩
/-- The system of a channel: 0 X, 1 Y. -/
def sysOf (c : Fin 16) : Fin 2 := ⟨c.val % 2, by omega⟩

/-! ### Geometry (R17 to R31, R205, R481) -/

/-- R19: beyond types. -/
def byOpen : Nat := 0
def byGuyline : Nat := 1
def byInternal : Nat := 2
def byShared : Nat := 3
def byStop : Nat := 4

/-- Byte n of a word of four. -/
def byteAt (w n : Nat) : Nat := w / 256 ^ n % 256

/-- R17: leg n of a section is in use. -/
def State.hasLeg (s : State) (sec n : Nat) : Bool := decide (n < s.legCount sec) && decide (n < 4)

/-- R17: the head of a leg in use. -/
def State.legHead (s : State) (sec n : Nat) : Option (Fin 8) :=
  let b := byteAt (s.legHeads sec) n
  if h : b < 8 then (if s.hasLeg sec n then some ⟨b, h⟩ else none) else none

/-- R17: the sense of a leg: true where a positive passage is into the section. -/
def State.sense (s : State) (sec n : Nat) : Bool := (s.legSense sec).testBit n

/-- R19: the beyond type of a leg. -/
def State.beyond (s : State) (sec n : Nat) : Nat := s.legBeyond sec / 16 ^ n % 16

/-- R25: a leg in use whose boundary is overlapped. -/
def State.overlapped (s : State) (sec n : Nat) : Bool :=
  s.hasLeg sec n && (s.beyond sec n == byGuyline || s.beyond sec n == byInternal)

/-- R481: the leg that byte n of LegPartner names: section and leg. -/
def State.partner (s : State) (sec n : Nat) : Option (Fin 4 × Fin 4) :=
  let b := byteAt (s.legPartner sec) n
  if h : b < 16 then some (⟨b / 4, by omega⟩, ⟨b % 4, by omega⟩) else none

/-- R481: the pairing of leg n of a section is accepted. -/
def State.pairingOk (s : State) (sec n : Nat) : Bool :=
  match s.partner sec n with
  | none => false
  | some (t, m) =>
    decide (t.val ≠ sec) && s.hasLeg t m && (s.beyond t m == byInternal) &&
      (match s.partner t m with
        | some (t', m') => decide (t'.val = sec ∧ m'.val = n)
        | none => false) &&
      decide (s.legHead sec n ≠ s.legHead t m) &&
      decide (s.overlapLeg sec n ≤ s.overlapLeg t m + 10 ∧ s.overlapLeg t m ≤ s.overlapLeg sec n + 10)

/-- R481, R25: the neighbour head inside a section at an INTERNAL leg. -/
def State.innerNbr (s : State) (sec n : Nat) : Option (Fin 8) :=
  if s.hasLeg sec n && s.beyond sec n == byInternal then
    match s.partner sec n with
    | some (t, m) => s.legHead t m
    | none => none
  else none

/-- R205: connections that bind a leg. -/
def State.legConns (s : State) (sec n : Nat) : List (Fin 8) :=
  (List.finRange 8).filter fun k => s.connEnable k && s.connSection k == sec && s.connLeg k == n

/-- R205: the connection of a GUYLINE leg. -/
def State.legConn (s : State) (sec n : Nat) : Option (Fin 8) :=
  if s.hasLeg sec n && s.beyond sec n == byGuyline then (s.legConns sec n).head? else none

/-- R203: the additional interior head of a section. -/
def State.interior (s : State) (sec : Nat) : Option (Fin 8) :=
  if h : s.interiorHead sec < 8 then some ⟨s.interiorHead sec, h⟩ else none

/-- The legs 0 to 3. -/
def legs : List (Fin 4) := List.finRange 4
/-- The sections. -/
def sections : List (Fin 4) := List.finRange 4
/-- The heads. -/
def heads : List (Fin 8) := List.finRange 8

/-- A set of sections as bits. -/
def secBits (l : List (Fin 4)) : BitVec 4 := l.foldl (fun (m : BitVec 4) (n : Fin 4) => m ||| (1 <<< n.val)) 0

/-- The leg of a section whose head is h. -/
def State.legOf (s : State) (sec : Nat) (h : Fin 8) : Option (Fin 4) := legs.find? fun n => s.legHead sec n == some h

/-- The leg of a section at whose INTERNAL boundary h is the neighbour head inside. -/
def State.innerLegOf (s : State) (sec : Nat) (h : Fin 8) : Option (Fin 4) := legs.find? fun n => s.innerNbr sec n == some h

/-- R53: an own head is a leg of a section or lies inside it. -/
def State.headConcerns (s : State) (h : Fin 8) (sec : Nat) : Bool :=
  (s.legOf sec h).isSome || (s.innerLegOf sec h).isSome || s.interior sec == some h

/-- The sections a head concerns (R31, R53). -/
def State.sectionsOf (s : State) (h : Fin 8) : List (Fin 4) := sections.filter fun sec => s.headConcerns h sec

/-- R92: BlankMask of a channel follows the stages gated by the sections of its head. -/
def State.blankMask (s : State) (c : Fin 16) : Nat :=
  s.cfg (0x3100 + c) 0x06
    (sections.foldl (fun m (sec : Fin 4) => if s.gates sec && s.headConcerns (headOf c) sec then m + 2 ^ sec.val else m) 0)

/-- R21: the legs that a head is, over all sections. -/
def State.legsAt (s : State) (h : Fin 8) : List (Fin 4 × Fin 4) :=
  sections.flatMap fun (sec : Fin 4) => (legs.filter fun (n : Fin 4) => s.legHead sec n == some h).map fun n => (sec, n)

/-- R17: heads of legs are distinct, unused bytes read 0xFF. -/
def State.ok17 (s : State) (sec : Nat) : Bool :=
  (legs.all fun n => if s.hasLeg sec n then (s.legHead sec n).isSome else byteAt (s.legHeads sec) n == 0xFF) &&
    (legs.all fun n => legs.all fun m => decide (n = m) || (s.legHead sec n).isNone ||
      decide (s.legHead sec n ≠ s.legHead sec m))

/-- R19: no reserved beyond type at a leg in use. DESIGN CHOICE: a reserved code for an unused leg is ignored (log entry 56). -/
def State.ok19 (s : State) (sec : Nat) : Bool := legs.all fun n => !s.hasLeg sec n || decide (s.beyond sec n ≤ 4)

/-- R20: a stub, and only a stub, has its end marked. -/
def State.ok20 (s : State) (sec : Nat) : Bool := s.stubEnd sec == (s.legCount sec == 1)

/-- R21: a head is a leg of one section, or of two whose legs are SHARED with opposite senses. DESIGN CHOICE: a SHARED
leg whose head
no other section uses breaks this rule too (log entry 56). -/
def State.ok21 (s : State) (sec : Nat) : Bool :=
  legs.all fun n =>
    match s.legHead sec n with
    | none => true
    | some h =>
      match s.legsAt h with
      | [(a, m)] => decide (s.beyond a m ≠ byShared)
      | [(a, m), (b, k)] =>
        s.beyond a m == byShared && s.beyond b k == byShared && (s.sense a m != s.sense b k)
      | _ => false

/-- R23: no overlap where none belongs. -/
def State.ok23 (s : State) (sec : Nat) : Bool := legs.all fun n => s.overlapped sec n || s.overlapLeg sec n == 0

/-- R26, R182: the interior head is enabled and lies in the core zone, and Z5Legs fits it. -/
def State.ok26 (s : State) (sec : Nat) : Bool :=
  (match s.interior sec with
    | none => s.z5Legs sec == 0
    | some h => s.headEnable h && (s.legOf sec h).isNone && (s.innerLegOf sec h).isNone) &&
    decide (s.z5Legs sec < 2 ^ s.legCount sec)

/-- R29: length and overlaps in range. -/
def State.ok29 (s : State) (sec : Nat) : Bool :=
  decide (s.sectionLength sec ≠ 0) && (legs.all fun n => !s.overlapped sec n || decide (150 ≤ s.overlapLeg sec n))

/-- R31: every leg head is enabled. -/
def State.ok31 (s : State) (sec : Nat) : Bool :=
  legs.all fun n =>
    match s.legHead sec n with
    | some h => s.headEnable h
    | none => true

/-- R205: every GUYLINE leg has exactly one enabled connection, and only such legs have one. -/
def State.ok205 (s : State) (sec : Nat) : Bool :=
  legs.all fun n =>
    if s.hasLeg sec n && s.beyond sec n == byGuyline then (s.legConns sec n).length == 1 else (s.legConns sec n).isEmpty

/-- R481: the bytes of LegPartner of one section, by themselves. -/
def State.partnersOk (s : State) (sec : Nat) : Bool :=
  legs.all fun n =>
    if s.hasLeg sec n && s.beyond sec n == byInternal then s.pairingOk sec n else byteAt (s.legPartner sec) n == 0xFF

/-- R481: the section's pairings hold, and no section with a broken pairing names it in any of its bytes. -/
def State.ok481 (s : State) (sec : Nat) : Bool :=
  s.partnersOk sec && sections.all fun t =>
    decide (t.val = sec) || s.partnersOk t ||
      legs.all fun m =>
        match s.partner t m with
        | some (u, _) => decide (u.val ≠ sec)
        | none => true

/-- R31: the number of the first statement violated, in rising number; 0 for none. R20, R29: a section with LegCount 0 needs
neither an end nor a length. -/
def State.violation (s : State) (sec : Nat) : Nat :=
  let used := decide (s.legCount sec ≠ 0)
  if !s.ok17 sec then 17
  else if !s.ok19 sec then 19
  else if used && !s.ok20 sec then 20
  else if !s.ok21 sec then 21
  else if !s.ok23 sec then 23
  else if !s.ok26 sec then 26
  else if used && !s.ok29 sec then 29
  else if !s.ok31 sec then 31
  else if !s.ok205 sec then 205
  else if !s.ok481 sec then 481
  else 0

/-- R31, R33: the section's entries are consistent. -/
def State.validSec (s : State) (sec : Nat) : Bool := decide (s.legCount sec ≠ 0) && s.violation sec == 0

/-! ### Sections an entry concerns (R30, R31, R93, R94, R150, R203, R236, R237, R325, R329, R332, R336) -/

/-- R89, R121: the resistive channel whose reading compensates head h: that of HeadTch where its role is a head body, else the one of
role 0x10 + h. None with HeadTch = 0xFF. -/
def State.bodyTch (s : State) (h : Fin 8) : Option (Fin 8) :=
  if hh : s.headTch h < 8 then
    let n : Fin 8 := ⟨s.headTch h, hh⟩
    if 0x10 ≤ s.tchRole n ∧ s.tchRole n < 0x18 then some n
    else (List.finRange 8).find? fun (m : Fin 8) => s.tchRole m == 0x10 + h.val
  else none

/-- R94: the sections of the head whose body a resistive channel measures under its role. -/
def State.tchSections (s : State) (c : Nat) : List (Fin 4) :=
  sections.filter fun (sec : Fin 4) => heads.any fun h => s.headConcerns h sec && s.tchRole c == 0x10 + h.val

/-- R94: the sections of every head whose body a resistive channel measures, by its role or by HeadTch. -/
def State.bodySections (s : State) (c : Nat) : List (Fin 4) :=
  sections.filter fun (sec : Fin 4) =>
    heads.any fun h => s.headConcerns h sec && (s.tchRole c == 0x10 + h.val || (s.bodyTch h).any fun n => n.val == c)

/-- The sections that a stored entry concerns for RWC, as the working configuration stands. -/
def State.keySections (s : State) (key : Nat) : List (Fin 4) :=
  let idx := key / 256
  let sub := key % 256
  let atHead (h : Nat) : List (Fin 4) := if hh : h < 8 then s.sectionsOf ⟨h, hh⟩ else []
  let sec (n : Nat) : List (Fin 4) := if hn : n < 4 then [⟨n, hn⟩] else []
  if idx = 0x1400 then
    (if sub = 1 || sub = 2 || sub = 5 || sub = 6 then
      sections.filter fun (n : Fin 4) => legs.any fun m => s.hasLeg n m && s.beyond n m == byGuyline
    else [])
  else if 0x1410 ≤ idx ∧ idx < 0x1418 then
    (if s.connEnable (idx - 0x1410) then sec (s.connSection (idx - 0x1410)) else [])
  else if idx = 0x2000 then (if sub = 2 then sections else [])
  else if 0x2100 ≤ idx ∧ idx < 0x2108 then atHead (idx - 0x2100)
  else if 0x2200 ≤ idx ∧ idx < 0x2204 then
    (if sub = 0x0F then
      sections.filter fun (n : Fin 4) => n.val == idx - 0x2200 || legs.any fun m =>
        match s.partner (idx - 0x2200) m with
        | some (t, _) => t == n
        | none => false
    else sec (idx - 0x2200))
  else if 0x3100 ≤ idx ∧ idx < 0x3110 then atHead ((idx - 0x3100) / 2)
  else if 0x3200 ≤ idx ∧ idx < 0x3208 then atHead (idx - 0x3200)
  else if 0x3300 ≤ idx ∧ idx < 0x3304 then sec (idx - 0x3300)
  else if idx = 0x3500 then (if sub = 1 then sections else [])
  else if idx = 0x3700 then
    (if 1 ≤ sub ∧ sub ≤ 8 then s.tchSections (sub - 1)
    else if sub = 9 then sections.filter fun (n : Fin 4) => (List.range 8).any fun c => (s.bodySections c).contains n
    else [])
  else if idx = 0x4050 then (if sub = 6 then sections else [])
  else []

/-! ### The clock and the snapshots (R214) -/

/-- R214: the SEND_TIME whose snapshot time, 50 µs before it, is the latest one after time base time a and at or before b. -/
def State.snapTime (s : State) (k : Fin 8) (a b : Time) : Option Time :=
  let off := us (s.sendOffset k)
  let t := off + (b + us 50 - off) / ms s.haspPeriod * ms s.haspPeriod
  if off ≤ b + us 50 ∧ a + us 50 < t then some t else none

/-- R214: what stands now, for a telegram of a SEND_TIME. -/
def State.snapshot (s : State) (sendTime : Time) : Past :=
  { sendTime := sendTime, fe := s.fe, eng := s.eng, pas := s.pas, led := s.led, sv := s.sv, keep := s.keep, kin := s.kin
    secs := s.nv.secs, work := s.sdp.work, test := s.test }

/-- R214: the state with what telegrams are assembled from as a snapshot holds it. -/
def State.asOf (s : State) (p : Past) : State :=
  { s with
    fe := p.fe
    eng := p.eng
    pas := p.pas
    led := p.led
    sv := p.sv
    keep := p.keep
    kin := p.kin
    nv := { s.nv with secs := p.secs }
    sdp := { s.sdp with work := p.work }
    test := p.test }

/-- R214: the snapshots of the enabled connections whose time has come since time base time a. -/
def State.snaps (s : State) (a : Time) : Vector (Option Past) 8 :=
  if s.phase = .service ∧ a < s.tbNow then
    Vector.ofFn fun k =>
      if s.connEnable k then
        (match s.snapTime k a s.tbNow with
          | some t => some (s.snapshot t)
          | none => s.past[k])
      else none
  else s.past

/-- The block at elapsed time t: what every command does first (log entry 1). -/
def State.at (s : State) (t : Time) : State :=
  let s1 := s.elapse t
  { s1 with past := s1.snaps s.tbNow }

/-- R320, R432: stored entries that concern the section are in doubt: an interrupted journal holds one, or a read of one was
uncorrectable. R322: or the stored configuration is not in use at this position. -/
def State.withheld (s : State) (sec : Fin 4) : Bool :=
  s.sdp.posState != 0 || (s.sdp.jrnOpen && s.nv.journal.secs.getLsbD sec.val) ||
    s.sdp.eccBad.any fun k => (s.keySections k).contains sec

end Sys2Proof.Machine
end

