-- ==== Sys2Proof/Machine/Crypto.lean ====
section
/-! DEFINITION. Check values and authentication: the four CRCs of the check-value units (R407, R410, R411) and AES-128 CMAC
(FIPS 197 and RFC 4493, which R213 and R299 name). -/

namespace Sys2Proof.Machine

/-! ### CRCs (R407) -/

/-- R407: whether a check takes each byte least significant bit first. -/
def crcReflected (poly : BitVec 2) : Bool := poly == 0 || poly == 1

/-- R407: the initial register of each check. -/
def crcInit (poly : BitVec 2) : Word :=
  if poly = 0 then 0xFFFFFFFF else if poly = 1 then 0xFFFFFFFF else if poly = 2 then 0x0000FFFF else 0x000000FF

/-- R407: what the result is combined with. -/
def crcXorout (poly : BitVec 2) : Word :=
  if poly = 0 then 0xFFFFFFFF else if poly = 1 then 0xFFFFFFFF else if poly = 2 then 0 else 0x000000FF

/-- R411: the width of each check's register, as a mask. -/
def crcMask (poly : BitVec 2) : Word :=
  if poly = 0 then 0xFFFFFFFF else if poly = 1 then 0xFFFFFFFF else if poly = 2 then 0x0000FFFF else 0x000000FF

/-- R407: the polynomial, bit-reversed for the reflected checks. -/
def crcPoly (poly : BitVec 2) : Word :=
  if poly = 0 then 0xEDB88320 else if poly = 1 then 0x82F63B78 else if poly = 2 then 0x1021 else 0x2F

/-- One shift of the register (R411). -/
def crcShift (poly : BitVec 2) (v : Word) : Word :=
  if crcReflected poly then (if v.getLsbD 0 then (v >>> 1) ^^^ crcPoly poly else v >>> 1)
  else
    let top := if poly = 2 then v.getLsbD 15 else v.getLsbD 7
    (if top then (v <<< 1) ^^^ crcPoly poly else v <<< 1) &&& crcMask poly

/-- Eight shifts. -/
def crcShift8 (poly : BitVec 2) (v : Word) : Word :=
  (List.range 8).foldl (fun v _ => crcShift poly v) v

/-- One byte folded into the register. -/
def crcByte (poly : BitVec 2) (v : Word) (b : Byte) : Word :=
  let x : Word := b.setWidth 32
  crcShift8 poly (v ^^^ (if poly = 2 then x <<< 8 else x))

/-- Bytes folded in turn. -/
def crcFold (poly : BitVec 2) (v : Word) (bs : List Byte) : Word := bs.foldl (crcByte poly) v

/-- The check value of a message. -/
def crcOf (poly : BitVec 2) (bs : List Byte) : Word := crcFold poly (crcInit poly) bs ^^^ crcXorout poly

/-- CRC-32C, POLY 1 (R245, R314, R415). -/
def crc32c (bs : List Byte) : Word := crcOf 1 bs

/-! ### AES-128 and CMAC -/

/-- FIPS 197: the substitution table. -/
def aesTable : List Nat :=
  [99, 124, 119, 123, 242, 107, 111, 197, 48, 1, 103, 43, 254, 215, 171, 118, 202, 130, 201, 125, 250, 89, 71, 240, 173, 212, 162, 175, 156, 164, 114, 192] ++
  [183, 253, 147, 38, 54, 63, 247, 204, 52, 165, 229, 241, 113, 216, 49, 21, 4, 199, 35, 195, 24, 150, 5, 154, 7, 18, 128, 226, 235, 39, 178, 117] ++
  [9, 131, 44, 26, 27, 110, 90, 160, 82, 59, 214, 179, 41, 227, 47, 132, 83, 209, 0, 237, 32, 252, 177, 91, 106, 203, 190, 57, 74, 76, 88, 207] ++
  [208, 239, 170, 251, 67, 77, 51, 133, 69, 249, 2, 127, 80, 60, 159, 168, 81, 163, 64, 143, 146, 157, 56, 245, 188, 182, 218, 33, 16, 255, 243, 210] ++
  [205, 12, 19, 236, 95, 151, 68, 23, 196, 167, 126, 61, 100, 93, 25, 115, 96, 129, 79, 220, 34, 42, 144, 136, 70, 238, 184, 20, 222, 94, 11, 219] ++
  [224, 50, 58, 10, 73, 6, 36, 92, 194, 211, 172, 98, 145, 149, 228, 121, 231, 200, 55, 109, 141, 213, 78, 169, 108, 86, 244, 234, 101, 122, 174, 8] ++
  [186, 120, 37, 46, 28, 166, 180, 198, 232, 221, 116, 31, 75, 189, 139, 138, 112, 62, 181, 102, 72, 3, 246, 14, 97, 53, 87, 185, 134, 193, 29, 158] ++
  [225, 248, 152, 17, 105, 217, 142, 148, 155, 30, 135, 233, 206, 85, 40, 223, 140, 161, 137, 13, 191, 230, 66, 104, 65, 153, 45, 15, 176, 84, 187, 22]

def aesSub (b : Byte) : Byte := BitVec.ofNat 8 (aesTable.getD b.toNat 0)

/-- FIPS 197: multiplication by x. -/
def aesX (b : Byte) : Byte := if b.getLsbD 7 then (b <<< 1) ^^^ 0x1B else b <<< 1

/-- Bytes combined one by one. -/
def xorBytes : List Byte → List Byte → List Byte
  | a :: as, b :: bs => (a ^^^ b) :: xorBytes as bs
  | as, [] => as
  | [], _ => []

/-- FIPS 197: rows shifted; byte r + 4 c is row r of column c. -/
def aesRows (st : List Byte) : List Byte :=
  [0, 5, 10, 15, 4, 9, 14, 3, 8, 13, 2, 7, 12, 1, 6, 11].map fun i => st.getD i 0

/-- FIPS 197: one column mixed. -/
def aesColumn (a b c d : Byte) : List Byte :=
  [aesX a ^^^ (aesX b ^^^ b) ^^^ c ^^^ d, a ^^^ aesX b ^^^ (aesX c ^^^ c) ^^^ d,
   a ^^^ b ^^^ aesX c ^^^ (aesX d ^^^ d), (aesX a ^^^ a) ^^^ b ^^^ c ^^^ aesX d]

/-- FIPS 197: all columns mixed. -/
def aesColumns : List Byte → List Byte
  | a :: b :: c :: d :: l => aesColumn a b c d ++ aesColumns l
  | l => l

/-- FIPS 197: the next round key. -/
def aesNextKey (rcon : Byte) (k : List Byte) : List Byte :=
  let g (i : Nat) : Byte := k.getD i 0
  let w0 := [g 0 ^^^ aesSub (g 13) ^^^ rcon, g 1 ^^^ aesSub (g 14), g 2 ^^^ aesSub (g 15), g 3 ^^^ aesSub (g 12)]
  let w1 := xorBytes ((k.drop 4).take 4) w0
  let w2 := xorBytes ((k.drop 8).take 4) w1
  let w3 := xorBytes (k.drop 12) w2
  w0 ++ w1 ++ w2 ++ w3

/-- FIPS 197: rounds 1 to 10 with their round constants. -/
def aesRounds : List Byte → List Byte → List Byte → List Byte
  | [], _, st => st
  | [rcon], k, st => xorBytes (aesRows (st.map aesSub)) (aesNextKey rcon k)
  | rcon :: r, k, st =>
    let k' := aesNextKey rcon k
    aesRounds r k' (xorBytes (aesColumns (aesRows (st.map aesSub))) k')

/-- AES-128 of one block under a 16-byte key. -/
def aesBlock (key block : List Byte) : List Byte :=
  aesRounds [0x01, 0x02, 0x04, 0x08, 0x10, 0x20, 0x40, 0x80, 0x1B, 0x36] key (xorBytes block key)

/-- RFC 4493: doubling of a block. -/
def cmacDouble (l : List Byte) : List Byte :=
  let n : Nat := l.foldl (fun acc b => acc * 256 + b.toNat) 0
  let m := (2 * n) % 2 ^ 128
  let m' := if n < 2 ^ 127 then m else m ^^^ 0x87
  (leBytes 16 m').reverse

/-- RFC 4493: the chain over whole blocks and the last one, combined with its subkey. -/
def cmacChain (key k1 k2 : List Byte) : Nat → List Byte → List Byte → List Byte
  | 0, x, _ => x
  | n + 1, x, m =>
    if m.length ≤ 16 then
      let last := if m.length = 16 then xorBytes m k1 else xorBytes (m ++ 0x80 :: List.replicate (15 - m.length) 0) k2
      aesBlock key (xorBytes x last)
    else cmacChain key k1 k2 n (aesBlock key (xorBytes x (m.take 16))) (m.drop 16)

/-- AES-128 CMAC of a message, 16 bytes. -/
def aesCmac (key msg : List Byte) : List Byte :=
  let k1 := cmacDouble (aesBlock key (List.replicate 16 0))
  cmacChain key k1 (cmacDouble k1) (msg.length / 16 + 1) (List.replicate 16 0) msg

/-- R335: the key check of a slot: the first 4 bytes, little-endian, of the CMAC of the empty message; 0 for no key. -/
def keyCheck (key : List Byte) : Nat := if key = [] then 0 else leNat ((aesCmac key []).take 4)

end Sys2Proof.Machine
end

