-- ==== Sys2Proof/Machine/Flags.lean ====
section
/-! DEFINITION. Words of flags: parity, the Verdict word, SK_PERMIT and SK_DEADBOLT, and the levels behind the host event
sources (R273, R277, R278, R392). -/

namespace Sys2Proof.Machine

/-- R32: the code of a section state. -/
def SecState.code : SecState → Nat
  | .clear => 0
  | .occupied => 1
  | .disturbed => 2
  | .restoring => 3
  | .prepared => 4
  | .unconfigured => 5

/-- R32: the state a code names; 6 and 7 are never reported. -/
def SecState.ofCode (n : Nat) : SecState :=
  if n = 0 then .clear else if n = 1 then .occupied else if n = 2 then .disturbed else if n = 3 then .restoring
  else if n = 4 then .prepared else .unconfigured

/-- R46: the order of restriction. -/
def SecState.rank : SecState → Nat
  | .clear => 0
  | .occupied => 1
  | .prepared => 2
  | .restoring => 3
  | .disturbed => 4
  | .unconfigured => 5

/-- The number of ones of a word. -/
def ones (w : Word) : Nat := (List.range 32).foldl (fun n i => n + b2n (w.getLsbD i)) 0

/-- R273, R277, R279: bit 31 set so that bits 31:0 hold an odd number of ones. -/
def oddPar (w : Word) : Word :=
  let w0 := w &&& 0x7FFFFFFF
  if ones w0 % 2 = 0 then w0 ||| 0x80000000 else w0

/-- Whether a word holds an odd number of ones. -/
def parOk (w : Word) : Bool := ones w % 2 == 1

/-- A Bool as bit i of a word. -/
def wbit (i : Nat) (b : Bool) : Word := if b then (1 : Word) <<< i else 0

/-- A number as a field from bit i of a word. -/
def wfield (i width n : Nat) : Word := (BitVec.ofNat 32 (n % 2 ^ width)) <<< i

/-- R273: the Verdict word of a merged Verdict. -/
def Merged.word (m : Merged) (degraded : Bool) : Word :=
  oddPar (wfield 0 3 m.state.code ||| wbit 3 m.noEntry ||| wbit 4 m.dirValid ||| wbit 5 m.dir ||| wfield 6 12 m.bal |||
    wfield 18 6 m.chg.toNat ||| wfield 24 4 m.legBusy.toNat ||| wbit 28 degraded ||| wbit 29 m.bemf)

/-- R277: GATES of the part's variant. -/
def Variant.gates : Variant → Nat
  | .ty440 => 0xF
  | .ty420 => 0x3

/-- R277: SK_PERMIT. -/
def State.skPermit (s : State) : Word :=
  let p (n : Fin 4) := s.keep.permits[n]
  oddPar (wbit 0 (p 0).latch ||| wbit 1 (p 1).latch ||| wbit 2 (p 2).latch ||| wbit 3 (p 3).latch |||
    wbit 4 (p 0).qualAt.isSome ||| wbit 5 (p 1).qualAt.isSome ||| wbit 6 (p 2).qualAt.isSome |||
    wbit 7 (p 3).qualAt.isSome ||| wfield 8 4 (p 0).cause ||| wfield 12 4 (p 1).cause ||| wfield 16 4 (p 2).cause |||
    wfield 20 4 (p 3).cause ||| wfield 24 4 s.part.variant.gates)

/-- R278: SK_DEADBOLT. -/
def State.skDeadbolt (s : State) : Word := wfield 0 4 s.keep.fdrop.toNat ||| wfield 8 8 s.keep.fhead.toNat

/-- R271: SK_ID. -/
def State.skId (s : State) : Word :=
  wfield 0 8 (match s.part.variant with | .ty440 => 1 | .ty420 => 2) ||| wfield 8 8 s.part.silRev.toNat |||
    wfield 24 8 0x5C

/-- R279: the committed block is fresh, and its named fields. -/
def Traction.scb (t : Traction) : Bool := t.ctrl.getLsbD 11
def Traction.chopOk (t : Traction) : Bool := t.ctrl.getLsbD 10
def Traction.dcl (t : Traction) : Nat := t.ctrl.toNat / 256 % 4
def Traction.bridgeOff (t : Traction) : Bool := t.ctrl.getLsbD 12
def Traction.bemfValid (t : Traction) : Bool := t.ctrl.getLsbD 13

/-- R282: the back-EMF reading is valid. -/
def Traction.reading (t : Traction) : Option Nat :=
  if t.bemfValid && t.bridgeOff && !t.scb && t.fresh then some (t.bemf.toNat % 65536) else none

end Sys2Proof.Machine
end

