-- ==== Sys2Proof/Machine/Deadbolt.lean ====
section
/-! DEFINITION. The Deadbolt: its inputs, the drop of a permit and the qualification of its rise (R53, R54, R275 to R278). -/

namespace Sys2Proof.Machine

/-- R79: the channel-fault line of a head. -/
def State.faultLine (s : State) (h : Fin 8) : Bool :=
  s.fe.chans[chanX h].fault.isSome || s.fe.chans[chanY h].fault.isSome

/-- R58, R337: the supervisor's votes count: it is in service, or survives alone. -/
def Sv.serves (v : Sv) : Bool := v.st == .inService || v.st == .survivor

/-- R53, R58: the supervisors' votes for a permit: both, or after the survivor has switched the Deadbolt, its own alone. -/
def State.votesRise (s : State) (n : Fin 4) : Bool :=
  if s.keep.degraded then
    ((s.sv[0].st == .survivor) && (s.sv[0].votes[n] == .rise)) || ((s.sv[1].st == .survivor) && (s.sv[1].votes[n] == .rise))
  else s.sv[0].votes[n] == .rise && s.sv[1].votes[n] == .rise

/-- R53, R438, R444: any input of the Deadbolt for a permit is active. -/
def State.dropActive (s : State) (n : Fin 4) : Bool :=
  !s.votesRise n || (heads.any fun h => s.faultLine h && s.headConcerns h n) || s.test.drop.getLsbD n.val ||
    s.keep.permits[n].gateShut || s.phase != .service

/-- R277: the cause shown where several reasons drop a permit at once. -/
def dropCause (l : List Nat) : Nat :=
  match (sortBy id l).find? fun c => decide (2 ≤ c ∧ c ≤ 6) with
  | some c => c
  | none => if l.contains 7 then 7 else if l.contains 8 then 8 else 1

/-- R277: codes 2 to 6 are fault drops. -/
def faultCode (c : Nat) : Bool := decide (2 ≤ c ∧ c ≤ 6)

/-- R54: reasons that begin now for PERMITn. Where the latch is set it clears; where it is cleared, only a fault reason is a
drop. `hs` are the heads whose fault lines take part. -/
def State.dropPermit (s : State) (n : Fin 4) (causes : List Nat) (hs : List (Fin 8)) : State :=
  let p := s.keep.permits[n]
  let c := dropCause causes
  let isDrop := !causes.isEmpty && (p.latch || causes.any faultCode)
  let p' : Permit := { p with
    latch := if causes.isEmpty then p.latch else false
    qualAt := if causes.isEmpty then p.qualAt else none
    cause := if isDrop then c else p.cause }
  let s1 := s.onPermit n fun _ => p'
  if isDrop && faultCode c then
    ({ s1 with keep := { s1.keep with
        fdrop := s1.keep.fdrop ||| (1 <<< n.val)
        fhead := hs.foldl (fun m (h : Fin 8) => m ||| (1 <<< h.val)) s1.keep.fhead
        fdropAt := updV s1.keep.fdropAt n fun _ => some s1.clk.now
        fheadAt := hs.foldl (fun v h => updV v h fun _ => some s1.clk.now) s1.keep.fheadAt } }).record codePermitDrop 0
      [BitVec.ofNat 8 n.val, BitVec.ofNat 8 c]
  else s1

/-- R53, R54, R444: the qualification of one permit runs while no input is active and stops, to start from zero, while one is. A
permit already high has none. `both`: both supervisors vote drop. -/
def Permit.requalified (p : Permit) (active both : Bool) (now : Time) : Permit :=
  let since := if both then some (p.lowSince.getD now) else none
  if active then { p with latch := false, qualAt := none, lowSince := since }
  else if p.latch then { p with qualAt := none, lowSince := none }
  else { p with qualAt := some (p.qualAt.getD now), lowSince := since }

/-- R444: both supervisors vote drop for a permit. -/
def State.bothDrop (s : State) (n : Fin 4) : Bool := s.sv[0].votes[n] != .rise && s.sv[1].votes[n] != .rise

/-- R53, R54: the rise qualification of every permit, judged again. -/
def State.requalify (s : State) : State :=
  let ps := Vector.ofFn fun n : Fin 4 => s.keep.permits[n].requalified (s.dropActive n) (s.bothDrop n) s.clk.now
  { s with keep := { s.keep with permits := ps } }

/-- R53: a fault line of a head asserts: it drops every permit whose section the head bounds or lies inside. -/
def State.dropForHead (s : State) (h : Fin 8) : State :=
  State.each s (s.sectionsOf h) fun s sec => s.dropPermit sec [3] [h]

end Sys2Proof.Machine
end

