-- ==== Sys2Proof/Machine/Kinematics.lean ====
section
/-! DEFINITION. The kinematic estimator (R287 to R289), with where a passage at an own head stands in a section and the
direction it shows (R38, R182), and the command KIN_EXPIRY. -/

namespace Sys2Proof.Machine

/-- R38: the direction along the axis of a passage at leg n: false along (DIR 0), true against. The axis points from leg 0
into the section. -/
def dirOfLeg (n : Fin 4) (into : Bool) : Bool := if n = 0 then !into else into

/-- R182: where an own passage stands in the settle queue of a section, with its direction there; none where the head does
not concern the section. `pos`: the passage is positive (X to Y). -/
def State.ownPlace (s : State) (sec : Fin 4) (h : Fin 8) (pos : Bool) : Option (QPlace × Bool) :=
  match s.legOf sec h with
  | some n => some (.leg n, s.sense sec n == pos)
  | none =>
    match s.innerLegOf sec h with
    | some n =>
      match s.partner sec n with
      | some (t, m) => some (.nbr n, s.sense t m == pos)
      | none => none
    | none => if s.interior sec == some h then some (.interior, s.interiorSide sec == pos) else none

/-- R182, R38: the direction along the axis that a passage shows at its place: false along. Travel into a neighbour's section
runs from the core toward the leg head; travel toward Z5 runs toward the legs whose core zone is Z5. -/
def State.placeDir (s : State) (sec : Fin 4) (place : QPlace) (into : Bool) : Bool :=
  match place with
  | .leg n => dirOfLeg n into
  | .nbr n => dirOfLeg n (!into)
  | .interior => (s.z5Legs sec).testBit 0 == into

/-- R287: REF_POINT of a place. -/
def refPointOf : QPlace → Nat
  | .leg n => n.val
  | .nbr n => 4 + n.val
  | .interior => 8

/-- R287: a change of a block writes the whole block, advances SEQ and SEQ2 and raises KIN_UPDATE. -/
def State.kinWrite (s : State) (sec : Fin 4) (f : Kin → Kin) : State :=
  let k := s.kin[sec]
  let k1 := f k
  if k1 = k then s else ({ s with kin := updV s.kin sec fun _ => { k1 with seq := k.seq + 1 } }).pulse 20

/-- R289: the conditions of VALID, for a block that has a reference. -/
def State.kinUsable (s : State) (sec : Fin 4) (k : Kin) : Bool :=
  let m := s.keep.merged[sec]
  m.dirValid && m.dir == k.dir && k.speed != 0 && k.refPoint != 0xF && decide (s.tbNow ≤ k.ref + ms (s.kinMaxAge sec))

/-- R288: UNC_SPD. -/
def State.kinUncSpeed (s : State) (sec : Fin 4) (speed : Int) (prov : Bool) : Nat × State :=
  if prov then
    let r := s.unstatedRound ((3 * speed.natAbs : Nat) / 100 : Rat)
    (r.1.toNat + 1000, r.2)
  else
    let r := s.unstatedRound ((s.kinSpeedErr sec * speed.natAbs : Nat) / 1000 : Rat)
    (r.1.toNat, r.2)

/-- R288: the block of a section as a refresh makes it: speed in mm/s without sign, `dir` the direction of travel. -/
def State.kinRefreshed (s : State) (sec : Fin 4) (k : Kin) (point : Nat) (ref : Time) (speed : Nat) (dir : Bool) (unc0 : Nat)
    (prov : Bool) : Kin × State :=
  let signed : Int := if dir then -(speed : Int) else speed
  let u := s.kinUncSpeed sec signed prov
  let k1 : Kin := { k with
    dir := dir
    reversed := dir != k.dir
    prov := prov
    held := if prov then k.held else false
    refPoint := point
    speed := signed
    ref := ref
    unc0 := unc0
    uncSpd := u.1
    acc := s.kinAccelMax sec
    maxAge := s.kinMaxAge sec }
  ({ k1 with valid := s.kinUsable sec k1 }, u.2)

/-- R288: SPEED 0 and VALID 0, with the UNC_SPD of a speed of 0. -/
def Kin.stopped (k : Kin) : Kin := { k with speed := 0, valid := false, uncSpd := if k.prov then 1000 else 0 }

/-- R288: a passage into the section adds 1 to AXLES; the first sets the entry. -/
def Kin.axle (k : Kin) (leg : Nat) (ref : Time) : Kin :=
  { k with
    axles := min 4095 (k.axles + 1)
    entry := if k.axles = 0 then ref else k.entry
    entryLeg := if k.axles = 0 then leg else k.entryLeg }

/-- R288: the block of a section after a passage that concerns it: first where its QUAL holds it, then where its SPEED is 0. -/
def State.kinTaken (s : State) (sec : Fin 4) (place : QPlace) (into : Bool) (ref : Time) (speed : Nat) (held : Bool)
    (unc0 : Nat) : Kin × State :=
  let k := s.kin[sec]
  if held then ({ k with held := true }, s)
  else if speed = 0 then (k.stopped, s)
  else s.kinRefreshed sec k (refPointOf place) ref (2 * speed) (s.placeDir sec place into) unc0 false

/-- R288: a neighbour passage at a guyline boundary head refreshes the block of the section. -/
def State.kinTake (s : State) (sec : Fin 4) (place : QPlace) (into : Bool) (ref : Time) (speed : Nat) (held : Bool)
    (unc0 : Nat) : State :=
  let r := s.kinTaken sec place into ref speed held unc0
  r.2.kinWrite sec fun _ => r.1

/-- R288, R287: an own passage counted refreshes the block of every section its head bounds or lies inside, each in one write. -/
def State.kinPassage (s : State) (en : Entry) : State :=
  State.each s sections fun s sec =>
    match s.ownPlace sec en.head (!en.dir) with
    | none => s
    | some (place, into) =>
      let r := s.kinTaken sec place into en.mid en.speed (en.qual.getLsbD 0 || en.qual.getLsbD 2) (s.kinRefUnc sec)
      r.2.kinWrite sec fun _ =>
        match place, into with
        | .leg n, true => r.1.axle n.val en.mid
        | _, _ => r.1

/-- R288: the refresh where presence has set the direction provisionally. -/
def State.kinOnset (s : State) (sec : Fin 4) (leg : Fin 4) (onset : Time) (speed : Nat) : State :=
  let r := s.kinRefreshed sec s.kin[sec] leg.val onset speed (dirOfLeg leg true) (s.kinRefUnc sec + 200) true
  r.2.kinWrite sec fun _ => r.1

/-- R288: an episode CANCELLED at a leg head while DIR_VALID is 1. -/
def State.kinRetreat (s : State) (h : Fin 8) : State :=
  State.each s (sections.filter fun (sec : Fin 4) => (s.legOf sec h).isSome && s.keep.merged[sec].dirValid) fun s sec =>
    s.kinWrite sec fun k => { k.stopped with reversed := true }

/-- R289: VALID follows the merged direction. R288: merged B becomes 0. `emptied`: it has just become 0. -/
def State.kinMerged (s : State) (sec : Fin 4) (emptied : Bool) : State :=
  if emptied then s.kinWrite sec fun k => { k with axles := 0, valid := false, refPoint := 0xF }
  else s.kinWrite sec fun k => { k with valid := s.kinUsable sec k }

/-- KIN_EXPIRY (R289): the time since the reference exceeds KinMaxAge: VALID clears. Before then only the clock moves. -/
def execKinExpiry (t : Time) (sec : Fin 4) (s : State) : Host.Outcome State Fault Refusal :=
  let s := s.at t
  done (s.when (decide (s.kin[sec].ref + ms (s.kinMaxAge sec) < s.tbNow)) fun s =>
    s.kinWrite sec fun k => { k with valid := false })

end Sys2Proof.Machine
end

