-- ==== Sys2Proof/Machine/Passage.lean ====
section
/-! DEFINITION. The passage unit and the Passage Ledger (R153 to R178), with the commands PRESENCE_EVENT, LEDGER_STALL and
LEDGER_SCRUB. -/

namespace Sys2Proof.Machine

/-! ### Causes found outside the supervisors (R198) -/

/-- What is found outside the supervisors reaches every supervisor that serves. -/
def State.notify (s : State) (n : Notice) : State :=
  { s with sv := Vector.ofFn fun v => if s.sv[v].serves then { s.sv[v] with inbox := s.sv[v].inbox ++ [n] } else s.sv[v] }

/-- R198: a cause for every section of which a head is a leg or inside which it lies. -/
def State.causeAtHead (s : State) (h : Fin 8) (code : Nat) : State :=
  State.each s (s.sectionsOf h) fun s sec =>
    s.notify (.cause sec code ((s.legOf sec h).orElse fun _ => s.innerLegOf sec h))

/-! ### Episodes (R154, R156 to R158, R160, R161) -/

/-- R131: the class counts. -/
def countingClass (c : Nat) : Bool := decide (c ≤ 3)

/-- R160: the class of a passage from the classes of its two last ENDs. -/
def passageClass (a b : Nat) : Nat :=
  if a = b then a else if countingClass a || countingClass b then min a b else 3

/-- R154, R157: how an episode ends. -/
structure EpResult where
  st       : EntryState
  cause    : Nat := 0
  dir      : Bool := false
  cls      : Nat := 0
  rejected : Bool := false
  only     : Option (Fin 2 × Time) := none
  deriving DecidableEq, Repr

/-- R154: some system of the head has presence. -/
def Episode.present (e : Episode) : Bool := e.onset[0].isSome || e.onset[1].isSome

/-- R156: the flags of an event join those of its system. -/
def Episode.flag (e : Episode) (ev : PresenceEvent) : Episode :=
  let i := sysOf ev.ch
  { e with
    takeover := updV e.takeover i (· || ev.takeover)
    blanked := updV e.blanked i (· || ev.blanked)
    settling := updV e.settling i (· || ev.settling) }

/-- R161: a flag that some event of the episode carried. -/
def someSystem (x : Vector Bool 2) : Bool := x[0] || x[1]

/-- R154: an ONSET while no system has presence begins an episode. -/
def Episode.open_ (e : Episode) (ev : PresenceEvent) : Episode :=
  ({ active := true, first := ev.stamp, startY := sysOf ev.ch == 1, prev := e.prev
     onset := updV (Vector.replicate 2 none) (sysOf ev.ch) fun _ => some ev.stamp } : Episode).flag ev

/-- R156: the first confirmed onset of a system, once its present presence is confirmed. -/
def Episode.confirm (e : Episode) (i : Fin 2) : Episode :=
  { e with
    confd := updV e.confd i fun _ => true
    conf := updV e.conf i fun c => c.orElse fun _ => e.onset[i] }

/-- R156: a presence that ends in WITHDRAW leaves its flags and nothing else: not the confirmed onset it had given. -/
def Episode.withdrawn (e : Episode) (i : Fin 2) : Episode :=
  { e with
    conf := updV e.conf i fun c => if c == e.onset[i] then none else c
    onset := updV e.onset i fun _ => none }

/-- R156, R167: one event taken into the episode of its head. An event of a system whose ONSET never came leaves the derivation
incomplete. -/
def Episode.take (e : Episode) (ev : PresenceEvent) : Episode :=
  let i := sysOf ev.ch
  match ev.edge with
  | .onset =>
    if e.present then
      ({ e with onset := updV e.onset i fun _ => some ev.stamp, confd := updV e.confd i fun _ => false }).flag ev
    else e.open_ ev
  | .confirm => if e.onset[i].isSome then (e.confirm i).flag ev else { e with complete := false }
  | .endd =>
    if e.onset[i].isSome then
      let e1 := (e.confirm i).flag ev
      { e1 with
        onset := updV e1.onset i fun _ => none
        ends := updV e1.ends i fun _ => some { stamp := ev.stamp, centroid := ev.centroid, peak := ev.peak, cls := ev.cls } }
    else { e with complete := false }
  | .withdraw => if e.onset[i].isSome then (e.withdrawn i).flag ev else { e with complete := false }

/-- R158: a CANCELLED episode with only one system confirmed completes a split crossing. -/
def Episode.split (e : Episode) (f : Fin 2) : Bool :=
  match e.prev, e.conf[f] with
  | some (g, last), some c => decide (g ≠ f) && decide (c ≤ last + secs 2)
  | _, _ => false

/-- R157, R158: the outcome at the end of an episode; `reject` is RejectEnable of the head. The first matching row applies. -/
def Episode.result (e : Episode) (reject : Bool) : EpResult :=
  match e.conf[0], e.conf[1] with
  | none, none => { st := .cancelled }
  | some _, none =>
    if e.split 0 then { st := .void, cause := 2 }
    else { st := .cancelled, only := e.ends[0].map fun r => (0, r.stamp) }
  | none, some _ =>
    if e.split 1 then { st := .void, cause := 2 }
    else { st := .cancelled, only := e.ends[1].map fun r => (1, r.stamp) }
  | some cx, some cy =>
    match e.ends[0], e.ends[1] with
    | some ex, some ey =>
      if cx = cy ∨ ex.stamp = ey.stamp then { st := .void, cause := 1 }
      else
        let entryX := decide (cx < cy)
        let entryLater := if entryX then decide (ey.stamp < ex.stamp) else decide (ex.stamp < ey.stamp)
        if entryLater then { st := .cancelled, dir := !entryX }
        else if reject && ex.cls == ey.cls && !countingClass ex.cls then { st := .cancelled, dir := !entryX, rejected := true }
        else { st := .detected, dir := !entryX, cls := passageClass ex.cls ey.cls }
    | _, _ => { st := .void, cause := 1 }

/-- R160: |difference| of two times. -/
def timeDiff (a b : Time) : Time := (a - b) + (b - a)

/-- R160: DXY in 100 ns, and whether it saturates. -/
def dxyOf (d : Time) : Nat × Bool := let q := (d + 50) / 100; if 65535 ≤ q then (0xFFFF, true) else (q, false)

/-- R160: SPEED in 2 mm/s from the spacing in mm and the centroid difference in ns. -/
def speedOf (spacing : Nat) (d : Time) : Nat :=
  if d = 0 then 0
  else if spacing * 1000000000 < d ∨ 70000 * d < spacing * 1000000000 then 0
  else (spacing * 1000000000 + d) / (2 * d)

/-- R160: DWELL in 10 µs. -/
def dwellOf (d : Time) : Nat := min 0xFFFF ((d + 5000) / 10000)

/-- R161: QUAL: bit 0 takeover, 1 blanked, 2 settling, 3 slow, 4 single-supervisor. -/
def qualOf (takeover blanked settling slow single : Bool) : BitVec 5 :=
  BitVec.ofNat 5 (b2n takeover + 2 * b2n blanked + 4 * b2n settling + 8 * b2n slow + 16 * b2n single)

/-- R157, R160, R161: an entry filled at the end of its episode: QUAL always; the rest once each system has a last END. DIR stays
provisional where the systems' order is not decided. -/
def Entry.filled (en : Entry) (e : Episode) (r : EpResult) (spacing : Nat) : Entry :=
  match e.ends[0], e.ends[1] with
  | some ex, some ey =>
    let d := timeDiff ex.centroid ey.centroid
    let last := max ex.stamp ey.stamp
    { en with
      dir := if r.st = .void then en.dir else r.dir
      cls := passageClass ex.cls ey.cls
      qual := qualOf (someSystem e.takeover) (someSystem e.blanked) (someSystem e.settling) (dxyOf d).2 false
      stamp := ex.centroid % 2 ^ 48
      speed := speedOf spacing d
      dxy := (dxyOf d).1
      dwell := dwellOf (last - e.first)
      tc := last
      mid := (ex.centroid + ey.centroid) / 2
      peakX := ex.peak
      peakY := ey.peak }
  | _, _ => { en with qual := qualOf (someSystem e.takeover) (someSystem e.blanked) (someSystem e.settling) false false }

/-! ### The Ledger (R163 to R171) -/

/-- The entry of a slot in one copy. -/
def Ledger.entry (l : Ledger) (c : Fin 2) (slot : Nat) : Option Entry := kvGet slot l.copies[c]

/-- R164: a change of an entry is written to both copies in the same cycle. -/
def Ledger.upd (l : Ledger) (slot : Nat) (f : Entry → Entry) : Ledger :=
  let put (c : LedgerCopy) : LedgerCopy :=
    match kvGet slot c with
    | some en => kvSet slot (f en) c
    | none => c
  { l with copies := #v[put l.copies[0], put l.copies[1]] }

def State.onEntry (s : State) (slot : Nat) (f : Entry → Entry) : State := { s with led := s.led.upd slot f }

/-- R164, R177: the entry is in use. -/
def EntryState.inUse (st : EntryState) : Bool :=
  st == .opn || st == .detected || st == .countedOne || st == .counted

/-- R177: LedgerInUse. -/
def Ledger.inUse (l : Ledger) : Nat := (l.copies[0].filter fun p => p.2.st.inUse).length

/-- R177, R170: usable slots. -/
def Ledger.usable (l : Ledger) : Nat := 2048 - l.fenced.length

/-- R166: how long ago an entry was allocated, in entries. -/
def Ledger.age (l : Ledger) (en : Entry) : Nat := (l.nextSeq - en.seq).toNat

/-- R170: the slot of the entry can be reclaimed at time base time tb. -/
def Entry.reclaimable (en : Entry) (tb : Time) : Bool :=
  en.st == .attested || en.st == .cancelled || en.st == .void ||
    (en.st == .counted && en.ckpt && decide (en.tc + ms 1500 < tb))

/-- R170: the lowest FREE slot among those not fenced. -/
def Ledger.lowestFree (l : Ledger) : Option Nat :=
  (List.range 2048).find? fun i => (kvGet i l.copies[0]).isNone && !l.fenced.contains i

/-- R170: the reclaimable slot with the oldest SEQ. -/
def Ledger.oldest (l : Ledger) (tb : Time) : Option (Nat × Entry) :=
  (l.copies[0].filter fun p => p.2.reclaimable tb && !l.fenced.contains p.1).foldl
    (fun best p => match best with
      | none => some p
      | some q => if l.age q.2 < l.age p.2 then some p else some q) none

/-- R159, R178, R247: a VOID entry of a head, or an episode without one: counted, recorded and a cause for the sections of the
head. -/
def State.voided (s : State) (h : Fin 8) (cause : Nat) (code : Nat := 2) : State :=
  let s1 := s.onNvHead h fun n => { n with voids := n.voids + 1 }
  let s2 := { s1 with pas := { s1.pas with voidCause := updV s1.pas.voidCause h fun _ => cause } }.setCumValid h false
  let s3 := s2.record codeVoid 0 [BitVec.ofNat 8 h.val, BitVec.ofNat 8 cause]
  let s4 := s3.causeAtHead h 2
  if code = 2 then s4 else s4.causeAtHead h code

/-- R159: an entry becomes VOID. An entry that is VOID stays so. -/
def State.voidEntry (s : State) (slot : Nat) (cause : Nat) (code : Nat := 2) : State :=
  match s.led.entry 0 slot with
  | some en =>
    if en.st = .void then (if code = 2 then s else s.causeAtHead en.head code)
    else (s.onEntry slot fun e => { e with st := .void }).voided en.head cause code
  | none => s

/-- R154, R170: a slot for a new episode, its entry written into both copies; none where no slot can be had. -/
def State.allocate (s : State) (h : Fin 8) (dir : Bool) (stamp : Time) : State × Option (Fin 2048) :=
  let put (s : State) (i : Nat) : State × Option (Fin 2048) :=
    let en : Entry := { seq := s.led.nextSeq, head := h, dir := dir, st := .opn, stamp := stamp % 2 ^ 48, since := s.clk.now }
    let led := { s.led with
      copies := #v[kvSet i en s.led.copies[0], kvSet i en s.led.copies[1]]
      nextSeq := s.led.nextSeq + 1 }
    let s1 := { s with
      led := { led with peakUse := max led.peakUse led.inUse }
      pas := { s.pas with lastSeq := updV s.pas.lastSeq h fun _ => en.seq } }
    (s1, if hi : i < 2048 then some ⟨i, hi⟩ else none)
  match s.led.lowestFree with
  | some i => put s i
  | none =>
    match s.led.oldest s.tbNow with
    | some (i, en) =>
      if en.st = .counted then
        put (({ s with nv := { s.nv with ledger := updV s.nv.ledger 0 (· + 1) } }).record codeRetire 0
          (leBytes 2 en.seq.toNat)) i
      else put s i
    | none => ({ s with nv := { s.nv with ledger := updV s.nv.ledger 3 (· + 1) } }, none)

/-! ### The passage unit -/

def State.onEp (s : State) (h : Fin 8) (f : Episode → Episode) : State :=
  { s with pas := { s.pas with eps := updV s.pas.eps h f } }

/-- R157 to R161, R170: the outcome of an episode written to its entry. -/
def State.closeEpisode (s : State) (h : Fin 8) : State :=
  let e := s.pas.eps[h]
  let r := e.result (s.rejectEnable h)
  let s1 := s.onEp h fun _ => { prev := r.only }
  match e.slot with
  | none => if s.pas.stopped then s1 else s1.voided h 7
  | some i =>
    let fill (st : EntryState) (en : Entry) : Entry := { en.filled e r (s.systemSpacing h) with st := st, since := s.clk.now }
    match r.st with
    | .detected => s1.onEntry i (fill .detected)
    | .void =>
      let s2 := s1.onEntry i fun en => fill en.st en
      (if r.cause = 2 then s2.onNvHead h fun n => { n with splits := n.splits + 1 } else s2).voidEntry i r.cause
    | _ =>
      let s2 := (s1.onEntry i (fill .cancelled)).kinRetreat h
      if r.rejected then
        (s2.onNvHead h fun n => { n with rejects := n.rejects + 1 }).record codeReject 0 [BitVec.ofNat 8 h.val]
      else s2.onNvHead h fun n => { n with cancelled := n.cancelled + 1 }

/-- R153: the order of the events of a head: STAMP, then ONSET, CONFIRM, END and WITHDRAW, then system X before system Y. -/
def eventRank (ev : PresenceEvent) : Nat :=
  let kind := match ev.edge with
    | .onset => 0
    | .confirm => 1
    | .endd => 2
    | .withdraw => 2
  6 * ev.stamp + 2 * kind + (sysOf ev.ch).val

/-- R153, R154, R156, R157: the passage unit processes one event and forwards it, with its episode's entry, to both
supervisors. -/
def State.passageEvent (s : State) (ev : PresenceEvent) : State :=
  let h := headOf ev.ch
  if s.pas.discard[h] then s
  else
    let e := s.pas.eps[h]
    let e1 := e.take ev
    let begins := ev.edge == .onset && !e.present
    let (s1, slot) :=
      if begins && !s.pas.stopped then
        (match s.allocate h (sysOf ev.ch == 1) ev.stamp with
          | (s', i) => (s', i))
      else (s, if begins then none else e.slot)
    let s2 := s1.onEp h fun _ => { e1 with slot := slot }
    let ends := e1.active && !e1.present
    let s3 := if ends then s2.closeEpisode h else s2
    s3.notify (.presence ev slot ends)

/-- R174: the events of a head that the failed engine still had to hand over are discarded. -/
def State.dropEvents (s : State) (h : Fin 8) : State :=
  { s with
    eng := { s.eng with out := s.eng.out.filter fun e => headOf e.ch != h }
    pas := { s.pas with gone := s.pas.gone ++ s.eng.out.filter fun e => headOf e.ch == h } }

/-- R173: the passage unit at a head fault, or at a head that has lost its engine (R143), from suspect time `t` in the time
base; none where every DETECTED entry becomes VOID. R176: the fault wins over an END of its own cycle: an episode closed at this
same instant has not ended. -/
def State.passageHeadFault (s : State) (h : Fin 8) (t : Option Time) : State :=
  let hit (en : Entry) : Bool :=
    en.head == h && (en.st == .opn || (en.st == .detected && (match t with
      | some x => decide (x ≤ en.tc)
      | none => true)) || ((en.st == .detected || en.st == .cancelled) && en.since == s.clk.now))
  let s1 := State.each s (s.led.copies[0].filter fun p => hit p.2) fun s p => s.voidEntry p.1 5
  let s2 := s1.onEp h fun _ => {}
  { s2 with pas := { s2.pas with discard := updV s2.pas.discard h fun _ => true } }

/-- R16: a head is quiet: neither system reports presence and no entry of it is OPEN or DETECTED. -/
def State.quiet (s : State) (h : Fin 8) : Bool :=
  !s.eng.dets[chanX h].present && !s.eng.dets[chanY h].present && !s.pas.eps[h].present &&
    !(s.led.copies[0].any fun p => p.2.head == h && (p.2.st == .opn || p.2.st == .detected))

/-! ### Commands -/

/-- R153: the passage unit takes one event out of the engines' output, where it stands there, and processes it. -/
def State.takePresence (s : State) (ev : PresenceEvent) : State :=
  let s1 := s.when (ev.edge == .withdraw) fun s =>
    s.onNvHead (headOf ev.ch) fun n => { n with withdrawn := n.withdrawn + 1 }
  ({ s1 with eng := { s1.eng with out := s1.eng.out.erase ev } }).passageEvent ev

/-- PRESENCE_EVENT (R127, R153 to R160): the passage unit takes one event. Events of its head that come before it (R153) and
still stand in the engines' output go first; one already dealt with is not taken again. -/
def execPresenceEvent (t : Time) (ev : PresenceEvent) (s : State) : Host.Outcome State Fault Refusal :=
  let s := s.at t
  done (s.when (s.phase == .service) fun s =>
    if s.pas.gone.contains ev then { s with pas := { s.pas with gone := s.pas.gone.erase ev } }
    else
      let first := sortBy eventRank
        (s.eng.out.filter fun e => headOf e.ch == headOf ev.ch && decide (eventRank e < eventRank ev))
      let s1 := State.each s first fun s e =>
        let s1 := s.takePresence e
        { s1 with pas := { s1.pas with gone := s1.pas.gone ++ [e] } }
      s1.takePresence ev)

/-- LEDGER_STALL (R169): an entry DETECTED or COUNTED_ONE for more than 24 µs with both supervisors in service is a cause for
the sections of its head; it keeps its state. Before then only the clock moves. -/
def execLedgerStall (t : Time) (slot : Fin 2048) (s : State) : Host.Outcome State Fault Refusal :=
  let s := s.at t
  done (match s.led.entry 0 slot with
    | some en =>
      s.when ((en.st == .detected || en.st == .countedOne) && decide (en.since + us 24 < s.clk.now) &&
        s.sv[0].st == .inService && s.sv[1].st == .inService) fun s => s.causeAtHead en.head 10
    | none => s)

end Sys2Proof.Machine
end

