-- ==== Sys2Proof/Machine/Counting.lean ====
section
/-! DEFINITION. What one supervisor counts, settles and checks: causes, counted passages, settled time, zones, overlap and
transit checks, direction (R38, R39, R179 to R186, R198, R199, R225, R248, R249, R262). `v` is the supervisor. -/

namespace Sys2Proof.Machine

/-! ### Health and readings -/

/-- R436, R437: the head isolated for test. -/
def State.isolated (s : State) (h : Fin 8) : Bool :=
  match s.test.iso with
  | some i => decide (i.head = h) && decide (1 ≤ i.stage)
  | none => false

/-- R369, R372: wheel channels are off because the part sleeps. -/
def State.asleep (s : State) : Bool := s.pwr.state == .lull || s.pwr.state == .hibernate

/-- R16, R372: one channel of a healthy head: no fault, calibrated, a valid baseline; asleep, one that was so at entry. -/
def State.chanHealthy (s : State) (c : Fin 16) : Bool :=
  let ch := s.fe.chans[c]
  ch.fault.isNone && (ch.phase == .inService || ch.phase == .paused || (ch.phase == .off && s.asleep)) && s.eng.dets[c].haveB0

/-- R16: a head is healthy. -/
def State.healthy (s : State) (h : Fin 8) : Bool :=
  s.chanHealthy (chanX h) && s.chanHealthy (chanY h) && s.eng.assigned[h].isSome && !s.isolated h

/-- Own heads that bound a section or lie inside it. -/
def State.headsOf (s : State) (sec : Fin 4) : List (Fin 8) := heads.filter fun h => s.headConcerns h sec

/-- The leg heads of a section. -/
def State.legHeadsOf (s : State) (sec : Fin 4) : List (Fin 8) := legs.filterMap fun (n : Fin 4) => s.legHead sec n

/-- The time a supervisor steps by: the time base in the SV domain. -/
def State.tOwnRaw (s : State) : Time := s.tbNow - us 200

/-! ### Causes (R198, R199, R248, R249) -/

/-- R248: the causes that leave a balance sound. -/
def soundCause (code : Nat) : Bool := code == 6 || code == 11 || code == 12 || code == 13 || code == 14

/-- R248, R249: the marks a cause found at `now` leaves on a section's balance and overlap counts. -/
def SecCnt.tainted (k : SecCnt) (code : Nat) (leg : Option (Fin 4)) (now : Time) : SecCnt :=
  { k.setSound now (k.sound && soundCause code) with
    taint := k.taint || code == 6 || code == 7 || code == 11
    taintLeg := if code == 12 || code == 13 || code == 14 then
        (match leg with
          | some n => updV k.taintLeg n fun _ => true
          | none => k.taintLeg)
      else k.taintLeg }

/-- R199: the latest occurrence of an event cause. -/
def setCause (code : Nat) (at_ : Time) (l : List (Nat × Time)) : List (Nat × Time) := kvSet code at_ l

/-- R198, R199: a supervisor finds an event cause in a section. An UNCONFIGURED section has none; a RESTORING section whose
balance is unsound has no arithmetic cause (R251) until a result has been applied to it (R257). -/
def State.raise (s : State) (v : Fin 2) (sec : Fin 4) (code : Nat) (leg : Option (Fin 4)) : State :=
  let p := s.sv[v].props[sec]
  let k := s.sv[v].secs[sec]
  if p.state = .unconfigured then s
  else if p.state = .restoring && !k.sound && s.sv[v].rests[sec].state != 3 && decide (4 ≤ code ∧ code ≤ 7) then s
  else
    (s.onSv v fun x =>
      (x.onProp sec fun p => { p with causes := setCause code s.clk.now p.causes }).onSec sec fun k =>
        k.tainted code leg s.tbNow).record codeCause (svSource v) [BitVec.ofNat 8 code, BitVec.ofNat 8 sec.val]

/-- R198: a cause at a head, for the sections it bounds or lies inside. -/
def State.raiseAtHead (s : State) (v : Fin 2) (h : Fin 8) (code : Nat) : State :=
  State.each s (s.sectionsOf h) fun s sec => s.raise v sec code ((s.legOf sec h).orElse fun _ => s.innerLegOf sec h)

/-- R226: cross-check cause 13 on a connection: the section of its leg and every section inside which that leg's head lies. -/
def State.crossCheck (s : State) (v : Fin 2) (k : Fin 8) (detail : Nat) : State :=
  let sec : Fin 4 := ⟨s.connSection k % 4, by omega⟩
  let n : Fin 4 := ⟨s.connLeg k % 4, by omega⟩
  let s1 := (s.onSv v fun x => x.onConn k fun c => { c with detail := detail }).raise v sec 13 (some n)
  match s1.legHead sec n with
  | some h =>
    State.each s1 (sections.filter fun (t : Fin 4) => t != sec && (s1.innerLegOf t h).isSome) fun s t =>
      s.raise v t 13 (s.innerLegOf t h)
  | none => s1

/-- R198: DisturbedCauses of a proposal, bit n for code n. -/
def Prop_.causeBits (p : Prop_) : Nat :=
  (List.range 19).foldl (fun m c =>
    if (p.causes.any fun x => x.1 == c) || p.condCauses.contains c || (c == 15 && p.witness) then m + 2 ^ c else m) 0

/-- R33: some DISTURBED cause of the section stands. -/
def Prop_.disturbedBy (p : Prop_) : Bool := !p.causes.isEmpty || !p.condCauses.isEmpty || p.witness

/-! ### Zones (R182, R186) -/

/-- R182: C(n), the core zone next to leg n. -/
def State.coreZone (s : State) (sec : Nat) (n : Fin 4) : Fin 6 := if (s.z5Legs sec).testBit n then 5 else 0

/-- The overlap zone of leg n. -/
def overlapZone (n : Fin 4) : Fin 6 := ⟨n.val + 1, by omega⟩

/-- R182: the changes a passage makes in Bs and the zones. -/
def State.zoneChange (s : State) (sec : Nat) (q : QPass) : Int × List (Fin 6 × Int) :=
  let one : Int := if q.into then 1 else -1
  match q.place with
  | .leg n => (one, [(if s.overlapped sec n then overlapZone n else s.coreZone sec n, one)])
  | .nbr n => (0, [(s.coreZone sec n, -one), (overlapZone n, one)])
  | .interior => (0, [(0, -one), (5, one)])

/-- R186: a settled change of an overlap zone joins its history of 64, behind the count it started from. -/
def histPush (tc : Time) (z : Int) (l : List (Time × Int)) : List (Time × Int) :=
  let l1 := l ++ [(tc, z)]
  if 65 < l1.length then l1.drop (l1.length - 65) else l1

/-- R186: the zone's settled count at a time; none where the history does not reach it. -/
def histAt (l : List (Time × Int)) (t : Time) : Option Int :=
  (l.filter fun p => decide (p.1 ≤ t)).getLast?.map fun p => p.2

/-- R227, R186: the settled count of leg n's overlap zone at t. -/
def SecCnt.zoneAt (k : SecCnt) (n : Fin 4) (t : Time) : Option Int := if t ≤ k.tSet then histAt k.hist[n] t else none

/-- The sum of a section's zones (R28). -/
def SecCnt.zoneSum (k : SecCnt) : Int := k.z.toList.foldl (· + ·) 0

/-- The net effect of own leg passages on a balance. -/
def netLegs (l : List QPass) : Int :=
  l.foldl (fun a q => match q.place with
    | .leg _ => if q.into then a + 1 else a - 1
    | _ => a) 0

/-- R184: the checks after an advance that settles a passage: the codes that fail. -/
def SecCnt.failures (k : SecCnt) : List Nat :=
  (if k.z.toList.any fun z => decide (z < 0) then [6] else []) ++
    (if (k.z.toList.any fun z => decide (4095 < z)) || decide (k.zoneSum ≠ k.bs) ||
        decide (k.bs ≠ (k.b : Int) - netLegs k.queue) || decide (k.bs < 0) || decide (4095 < k.bs) then [7] else [])

/-- R184: the order of equal T_C: own passages in, then neighbour-head and interior-head passages, then own passages out;
own heads first by number, then guyline heads by leg. -/
def qPri (place : QPlace) (into : Bool) (ownHead : Option (Fin 8)) : Nat :=
  let group := match place with
    | .leg _ => if into then 0 else 2
    | _ => 1
  let within := match ownHead, place with
    | some h, _ => h.val
    | none, .nbr n => 8 + n.val
    | none, _ => 15
  16 * group + within

/-! ### Transit through an overlap (R225) -/

/-- R225 detail 4: too fast: t < L ÷ 70 m/s − 100 µs, L in 10 mm. -/
def tooFast (overlap : Nat) (t : Time) : Bool := decide (7 * (t + 100000) < overlap * 1000000)

/-- R225 detail 5: L ÷ t > factor × the higher speed + 1 m/s; speeds in 2 mm/s, factor in 0.1. -/
def implausible (overlap factor sp : Nat) (t : Time) : Bool :=
  decide (t * (2 * factor * sp + 10000) < overlap * 100000000000)

/-- R225: what a settled passage does to the model of an overlap zone: the list after it and the detail of a failed check. -/
def transitStep (l : List Axle) (q : QPass) (overlap factor : Nat) : List Axle × Option Nat :=
  let axle (own : Bool) : Axle := { tc := q.tc, speed := q.speed, clean := q.clean, atOwn := own }
  let check (a : Axle) : Option Nat :=
    let t := timeDiff q.tc a.tc
    if tooFast overlap t then some 4
    else if a.speed ≠ 0 ∧ q.speed ≠ 0 ∧ a.clean ∧ q.clean ∧ implausible overlap factor (max a.speed q.speed) t then some 5
    else none
  match q.place, q.into with
  | .leg _, true => (axle true :: l, none)
  | .nbr _, true => (l ++ [axle false], none)
  | .leg _, false =>
    match l with
    | a :: r => (r, if a.atOwn then none else check a)
    | [] => ([], none)
  | .nbr _, false =>
    match l.getLast? with
    | some a => (l.dropLast, if a.atOwn then check a else none)
    | none => ([], none)
  | .interior, _ => (l, none)

/-- R225: the transit check of one settled passage of a section, where its leg is a GUYLINE leg. -/
def State.transitCheck (s : State) (v : Fin 2) (sec : Fin 4) (q : QPass) : State :=
  let leg? : Option (Fin 4) := match q.place with
    | .leg n => some n
    | .nbr n => some n
    | .interior => none
  match leg? with
  | none => s
  | some n =>
    if !(s.crossCheckEnable && s.hasLeg sec n && s.beyond sec n == byGuyline) then s
    else
      let k := s.sv[v].secs[sec]
      if k.transitOff[n] then
        let count := k.z[overlapZone n]
        if count ≤ 0 then
          s.onSv v fun x => x.onSec sec fun k =>
            { k with transitOff := updV k.transitOff n fun _ => false, transit := updV k.transit n fun _ => [] }
        else s
      else
        let r := transitStep k.transit[n] q (s.overlapLeg sec n) s.crossSpeedFactor
        if 48 < r.1.length then
          let s1 := s.onSv v fun x => x.onSec sec fun k =>
            { k with transitOff := updV k.transitOff n fun _ => true, transit := updV k.transit n fun _ => [] }
          match s.legConn sec n with
          | some c => if v = 0 || !s.sv[0].serves then
              s1.onNvConn c fun x => { x with transitUnchecked := x.transitUnchecked + 1 } else s1
          | none => s1
        else
          let s1 := s.onSv v fun x => x.onSec sec fun k => { k with transit := updV k.transit n fun _ => r.1 }
          match r.2, s.legConn sec n with
          | some d, some c => s1.crossCheck v c d
          | _, _ => s1

/-! ### Settlement (R183, R184) -/

/-- R179: settled balances are 16 bits signed. DESIGN CHOICE: they wrap (log entry 57); R184 has long since raised cause 6 or 7. -/
def wrap16 (x : Int) : Int := signedOf 16 (wrapOf 16 x)

/-- R182: zone balances after a passage's changes. -/
def zonesChanged (z : Vector Int 6) (l : List (Fin 6 × Int)) : Vector Int 6 :=
  l.foldl (fun z d => updV z d.1 fun x => wrap16 (x + d.2)) z

/-- R184: one queued passage settles. -/
def State.settleOne (s : State) (v : Fin 2) (sec : Fin 4) (q : QPass) : State :=
  let ch := s.zoneChange sec q
  let upd (k : SecCnt) : SecCnt :=
    let z := zonesChanged k.z ch.2
    let hist := Vector.ofFn fun n : Fin 4 =>
      if ch.2.any fun d => d.1 == overlapZone n then histPush q.tc z[overlapZone n] k.hist[n] else k.hist[n]
    let recent := k.recent ++ [q]
    { k with
      bs := wrap16 (k.bs + ch.1)
      z := z
      hist := hist
      recent := if 64 < recent.length then recent.drop (recent.length - 64) else recent }
  (s.onSv v fun x => x.onSec sec upd).transitCheck v sec q

/-- R183: T_own of a section: 200 µs behind, held before an own entry not yet counted by both. -/
def State.tOwn (s : State) (sec : Fin 4) : Time :=
  s.led.copies[0].foldl (fun t p =>
    if (p.2.st == .detected || p.2.st == .countedOne) && s.headConcerns p.2.head sec then min t (p.2.tc - 1) else t) s.tOwnRaw

/-- R183: the settled time a section could reach: the lower of T_own and the complete-to time of every GUYLINE leg; none where
a neighbour has given none. -/
def State.settleTo (s : State) (v : Fin 2) (sec : Fin 4) : Option Time :=
  legs.foldl (fun (t : Option Time) (n : Fin 4) =>
    match s.legConn sec n with
    | none => if s.hasLeg sec n && s.beyond sec n == byGuyline then none else t
    | some k =>
      match t, s.sv[v].conns[k].tN with
      | some a, some b => some (min a b)
      | _, _ => none) (some (s.tOwn sec))

/-- R184: failed checks of a section become arithmetic causes. -/
def State.checkSettled (s : State) (v : Fin 2) (sec : Fin 4) : State :=
  State.each s (s.sv[v].secs[sec].failures) fun s code => s.raise v sec code none

/-- R184: every queued passage with T_C at or before t settles, in order, and the checks follow. -/
def State.settleUpTo (s : State) (v : Fin 2) (sec : Fin 4) (t : Time) : State :=
  let k := s.sv[v].secs[sec]
  let now := sortBy (fun q : QPass => q.tc * 64 + q.pri) (k.queue.filter fun q => decide (q.tc ≤ t))
  let s1 := s.onSv v fun x => x.onSec sec fun k =>
    { k with queue := k.queue.filter fun q => !decide (q.tc ≤ t), tSet := max k.tSet t }
  let s2 := State.each s1 now fun s q => s.settleOne v sec q
  if now.isEmpty then s2 else s2.checkSettled v sec

/-- R179, R183, R184: the settled time of a section that is not UNCONFIGURED advances. It never moves backward. -/
def State.settle (s : State) (v : Fin 2) (sec : Fin 4) : State :=
  if s.sv[v].props[sec].state = .unconfigured then s
  else
    match s.settleTo v sec with
    | some t => if s.sv[v].secs[sec].tSet < t then s.settleUpTo v sec t else s
    | none => s

/-! ### Overlap comparison (R186) -/

/-- R186: a comparison that the zone history does not reach is counted, once for both supervisors. -/
def State.overlapUnchecked (s : State) (v : Fin 2) (sec : Fin 4) : State :=
  s.when (v = 0 || !s.sv[0].serves) fun s => s.onNvSec sec fun e => { e with unchecked := e.unchecked + 1 }

/-- R186: a sender's count of an overlap zone is compared once T_set has reached its time. -/
def State.compareZone (s : State) (v : Fin 2) (sec : Fin 4) (n : Fin 4) (k : Fin 8) : State :=
  let x := s.sv[v]
  let due := x.conns[k].pendCmp.filter fun p => decide (p.1 ≤ x.secs[sec].tSet)
  let s1 := s.onSv v fun x => x.onConn k fun c =>
    { c with pendCmp := c.pendCmp.filter fun p => !decide (p.1 ≤ x.secs[sec].tSet) }
  State.each s1 due fun s p =>
    match histAt s.sv[v].secs[sec].hist[n] p.1 with
    | none => s.overlapUnchecked v sec
    | some z =>
      if z = p.2 then s.onSv v fun x => x.onConn k fun c => { c with matched := if z = 0 then some p.1 else c.matched }
      else s.raise v sec 11 (some n)

/-- R186: the two own sections' counts of the zone they share at an INTERNAL leg, at the lower of their settled times; not while
either balance is unsound. -/
def State.compareInternal (s : State) (v : Fin 2) (sec : Fin 4) (n : Fin 4) : State :=
  match s.partner sec n with
  | none => s
  | some (t, m) =>
    let a := s.sv[v].secs[sec]
    let b := s.sv[v].secs[t]
    if !(a.sound && b.sound) then s
    else
      let at_ := min a.tSet b.tSet
      match histAt a.hist[n] at_, histAt b.hist[m] at_ with
      | some x, some y => if x = y then s else (s.raise v sec 11 (some n)).raise v t 11 (some m)
      | _, _ => s.overlapUnchecked v sec

/-- R186: every overlap of a section compared. `settled`: the section settled a passage in this step. -/
def State.compareOverlaps (s : State) (v : Fin 2) (sec : Fin 4) (settled : Bool) : State :=
  State.each s legs fun s n =>
    match s.legConn sec n with
    | some k => s.compareZone v sec n k
    | none => if settled && s.hasLeg sec n && s.beyond sec n == byInternal then s.compareInternal v sec n else s

/-! ### Direction (R38, R39) and the sweep vehicle (R262) -/

/-- R39, R262: a passage counted at leg n of a section by a supervisor, with the balance before it. -/
def Prop_.passed (p : Prop_) (n : Fin 4) (into : Bool) (before : Nat) : Prop_ :=
  let p1 : Prop_ :=
    if !p.dirValid then p
    else if into && n != p.dirLeg && decide (1 ≤ before) then
      { p with dirValid := false, dir := false, provisional := false, provHead := none }
    else if dirOfLeg n into != p.dir && !(into && decide (before = 0)) then { p with dir := !p.dir }
    else p
  if p1.state = .prepared && into && p1.entryLeg.isNone then { p1 with entryLeg := some n, sweptIn := true } else p1

/-- R262: the passage is out of order for the sweep of a PREPARED section. -/
def Prop_.outOfOrder (p : Prop_) (n : Fin 4) (into : Bool) (before legCount : Nat) : Bool :=
  p.state == .prepared &&
    (match p.entryLeg with
      | none => false
      | some e =>
        (into && n != e) || (!into && n == e && decide (2 ≤ legCount)) || (into && decide (before = 0)))

/-- R38: a passage into the section through leg n, counted by both supervisors while the balance was 0. -/
def Prop_.known (p : Prop_) (n : Fin 4) : Prop_ :=
  if p.state = .occupied || p.state = .prepared then
    { p with dirValid := true, dir := dirOfLeg n true, dirLeg := n, provisional := false, provHead := none }
  else p

/-- R211, R38: a section hands a known vehicle over toward its leg n. -/
def handsOver (legCount : Nat) (st : SecState) (dirValid dir : Bool) (n : Fin 4) : Bool :=
  decide (legCount = 2) && (st == .occupied || st == .prepared) && dirValid &&
    ((n == 0 && dir) || (n == 1 && !dir))

/-- R38, R228, R235: the section beyond leg n reports a known vehicle handing over toward it, as supervisor v sees it. -/
def State.handover (s : State) (v : Fin 2) (sec : Fin 4) (n : Fin 4) : Bool :=
  match s.legConn sec n with
  | some k =>
    let c := s.sv[v].conns[k]
    c.inService && (match c.last with
      | some t => t.flags.testBit 2
      | none => false)
  | none =>
    if s.hasLeg sec n && s.beyond sec n == byInternal then
      match s.partner sec n with
      | some (t, m) =>
        let p := s.sv[v].props[t]
        handsOver (s.legCount t) p.state p.dirValid p.dir m
      | none => false
    else false

/-! ### Counting an entry (R168, R180) -/

/-- R161: bits 0 and 2 of QUAL: neither takeover nor settling. -/
def cleanQual (q : BitVec 5) : Bool := !q.getLsbD 0 && !q.getLsbD 2

/-- R180 step 3, R190: a passage joins a section's settle queue and moves its quiet time. -/
def SecCnt.enqueue (k : SecCnt) (q : QPass) : SecCnt := { k with queue := k.queue ++ [q], tq := max k.tq q.tc }

/-- R180: the balance of a section after an own leg passage: it stays within 0 to 4,095, a count beyond is a cause. -/
def balanceStep (b : Nat) (into : Bool) : Nat × Option Nat :=
  if into then (if 4095 ≤ b then (4095, some 5) else (b + 1, none))
  else (if b = 0 then (0, some 4) else (b - 1, none))

/-- R231: the history of the last 64 passages of a head. -/
def HeadCnt.pushed (k : HeadCnt) (tc : Time) (pos : Bool) : HeadCnt :=
  let l := k.hist ++ [(tc, pos)]
  { k with
    pos := if pos then k.pos + 1 else k.pos
    neg := if pos then k.neg else k.neg + 1
    hist := if 64 < l.length then l.drop (l.length - 64) else l
    histFull := k.histFull || decide (64 < l.length) }

/-- R180, R39, R262: one section's part of a count. -/
def State.countSection (s : State) (v : Fin 2) (sec : Fin 4) (en : Entry) : State :=
  let pos := !en.dir
  match s.ownPlace sec en.head pos with
  | none => s
  | some (place, into) =>
    let x := s.sv[v]
    if x.props[sec].state = .unconfigured then s
    else
      let q : QPass := { tc := en.tc, place := place, into := into, pri := qPri place into (some en.head)
                         speed := en.speed, clean := cleanQual en.qual }
      match place with
      | .leg n =>
        let before := x.secs[sec].b
        let r := balanceStep before into
        let bad := x.props[sec].outOfOrder n into before (s.legCount sec)
        let s1 := s.onSv v fun x =>
          (x.onSec sec fun k => { k.enqueue q with b := r.1 }).onProp sec fun p => p.passed n into before
        let s2 := s1.whenSome r.2 fun s code => s.raise v sec code none
        s2.when bad fun s => s.raise v sec 18 none
      | _ => s.onSv v fun x => x.onSec sec fun k => k.enqueue q

/-- R38: the sections into which a passage at a head leads by a leg, with that leg, as the supervisor held their balance 0
before it. -/
def State.enteredEmpty (s : State) (v : Fin 2) (en : Entry) : BitVec 4 :=
  sections.foldl (fun (m : BitVec 4) (sec : Fin 4) =>
    match s.ownPlace sec en.head (!en.dir) with
    | some (.leg _, true) => if s.sv[v].secs[sec].b = 0 then m ||| (1 <<< sec.val) else m
    | _ => m) 0

/-- R168, R161: the acknowledgement of supervisor v in its own copy, with its parity bit and the number of the count, and the
new STATE in both. In degraded run one count completes the entry, marked single-supervisor. -/
def State.acknowledge (s : State) (v : Fin 2) (slot : Nat) (alone : Bool) : State :=
  let nxt (en : Entry) : Entry :=
    if alone then { en with st := .counted, qual := en.qual ||| 16, since := s.clk.now }
    else if en.st = .detected then { en with st := .countedOne }
    else { en with st := .counted, since := s.clk.now }
  let s1 := s.onEntry slot nxt
  let mark (en : Entry) : Entry :=
    if en.ack then en else { en with ack := true, ackPar := true, ackNo := s.sv[v].counts, ackAt := s.clk.now }
  let c := updV s1.led.copies v fun c => match kvGet slot c with
    | some en => kvSet slot (mark en) c
    | none => c
  { s1 with led := { s1.led with copies := c } }

/-- R128: the lowest PEAK of a channel among last ENDs of COUNTED passages. -/
def State.peaksCounted (s : State) (en : Entry) : State :=
  (s.onNvChan (chanX en.head) fun c => { c with minPeak := min c.minPeak en.peakX }).onNvChan (chanY en.head) fun c =>
    { c with minPeak := min c.minPeak en.peakY }

/-- R176: an acknowledgement of supervisor v in this same cycle is discarded with its failure: the entry stands as the other has
acknowledged it. -/
def State.unacknowledge (s : State) (v : Fin 2) : State :=
  let other := s.led.copies[1 - v]
  let hit := s.led.copies[v].filter fun p =>
    p.2.ack && p.2.ackAt == s.clk.now && (p.2.st == .countedOne || p.2.st == .counted)
  let s1 := State.each s hit fun s p => s.onEntry p.1 fun en =>
    if (kvGet p.1 other).any fun o => o.ack then { en with qual := en.qual ||| 16 }
    else { en with st := .detected }
  let clear (en : Entry) : Entry := { en with ack := false, ackPar := false, ackNo := 0 }
  let cleared (c : LedgerCopy) : LedgerCopy := hit.foldl (fun c p => match kvGet p.1 c with
    | some en => kvSet p.1 (clear en) c
    | none => c) c
  { s1 with led := { s1.led with copies := updV s1.led.copies v cleared } }

/-- R168, R201, R288, R330: an entry becomes COUNTED: PASSAGE and KIN_UPDATE are raised, the kinematic blocks refreshed, the
head's latest passage kept, and every passage recorded where PassageRecords asks for it. -/
def State.becameCounted (s : State) (en : Entry) : State :=
  let s1 := State.each s (sections.filter fun (sec : Fin 4) => (s.legOf sec en.head).isSome) fun s sec =>
    s.pulse (16 + sec.val)
  let s2 := s1.kinPassage en
  let s2 := (s2.when (s2.kin == s1.kin) fun s => s.pulse 20).onNvHead en.head fun n =>
    { n with lastTime := en.tc, lastDir := if en.dir then 1 else 0 }
  (s2.peaksCounted en).when (s2.passageRecords == 2) fun s =>
    s.record codePassage 3 [BitVec.ofNat 8 en.head.val, BitVec.ofNat 8 (b2n en.dir)]

/-- R210, R212, R215: a passage counted at the head of a connection's leg joins the records to be sent, at most 32, the oldest
dropped. Call it with the head's counters already moved. -/
def State.keepForNeighbour (s : State) (v : Fin 2) (en : Entry) (alone : Bool) : State :=
  State.each s (s.legsAt en.head) fun s p =>
    match s.legConn p.1 p.2 with
    | none => s
    | some c =>
      let k := s.sv[v].heads[en.head]
      let q := en.qual
      let r : PassRec :=
        { tc := en.tc
          pnum := (k.pos + k.neg).toNat % 65536
          into := s.sense p.1 p.2 != en.dir
          qual := b2n (q.getLsbD 2) + 2 * b2n (q.getLsbD 0) + 4 * b2n (q.getLsbD 1) + 8 * b2n (q.getLsbD 3) +
            16 * b2n (alone || q.getLsbD 4)
          cls := en.cls
          speed := en.speed }
      s.onSv v fun x => x.onConn c fun y =>
        let l := y.sendRecs ++ [r]
        { y with sendRecs := if 32 < l.length then l.drop (l.length - 32) else l }

/-- R180: a supervisor counts a DETECTED entry, or one the other has counted. `alone`: it runs alone. -/
def State.countEntry (s : State) (v : Fin 2) (slot : Fin 2048) (alone : Bool) : State :=
  match s.led.entry 0 slot with
  | none => s
  | some en =>
    let empty := s.enteredEmpty v en
    let s1 := s.onSv v fun x =>
      let x1 := x.onHead en.head fun k => k.pushed en.tc (!en.dir)
      { x1 with todo := x1.todo ++ [(slot, empty)], counts := x1.counts + 1, lastSeq := updV x1.lastSeq en.head fun _ => en.seq }
    let s2 := State.each (s1.keepForNeighbour v en alone) sections fun s sec => s.countSection v sec en
    let s3 := s2.acknowledge v slot alone
    if alone || en.st = .countedOne then s3.becameCounted { en with st := .counted } else s3

/-- R38: for each entry this supervisor has counted that both have counted now, the sections it entered while empty hold a
known vehicle. -/
def State.knownVehicles (s : State) (v : Fin 2) : State :=
  let isDone (slot : Fin 2048) : Bool := match s.led.entry 0 slot with
    | some en => en.st == .counted || en.st == .attested
    | none => true
  let isVoid (slot : Fin 2048) : Bool := match s.led.entry 0 slot with
    | some en => en.st == .void
    | none => true
  let ready := s.sv[v].todo.filter fun p => isDone p.1
  let s1 := s.onSv v fun x => { x with todo := x.todo.filter fun p => !isDone p.1 && !isVoid p.1 }
  State.each s1 ready fun s p =>
    match s.led.entry 0 p.1 with
    | none => s
    | some en =>
      State.each s (sections.filter fun (sec : Fin 4) => p.2.getLsbD sec.val) fun s sec =>
        match s.ownPlace sec en.head (!en.dir) with
        | some (.leg n, true) => s.onSv v fun x => x.onProp sec fun p => p.known n
        | _ => s

/-! ### Forwarded events (R167, R188, R190, R249) -/

/-- R249 (b): the head's last 64 episodes: the stamps of the first ONSET and of the ending event. -/
def HeadCnt.episode (k : HeadCnt) (first last : Time) : HeadCnt :=
  let l := k.eps ++ [(first, last)]
  { k with
    eps := if 64 < l.length then l.drop (l.length - 64) else l
    epsFull := k.epsFull || decide (64 < l.length) }

/-- R249 (b): the head is quiet at t by its history: 1 yes, none where the history does not reach t or an episode covers it. -/
def Sv.quietAt (x : Sv) (h : Fin 8) (t : Time) : Bool :=
  let k := x.heads[h]
  let reaches := !k.epsFull || (match k.eps.head? with
    | some e => decide (e.1 ≤ t)
    | none => true)
  let openAt := x.der[h].active && x.der[h].present && decide (x.der[h].first ≤ t)
  reaches && !openAt && !(k.eps.any fun e => decide (e.1 ≤ t) && decide (t < e.2))

/-- R167: the supervisor's derivation against the entry: equal in STATE, DIR and CLASS, whatever the outcome. The derived DIR
and CLASS are those the passage unit writes under R154, R159 and R160. -/
def agrees (e : Episode) (r : EpResult) (en : Entry) : Bool :=
  let own := ({ dir := e.startY } : Entry).filled e r 0
  (en.st == r.st || (r.st == .detected && en.st == .countedOne)) && en.dir == own.dir && en.cls == own.cls

/-- R167, R168: an episode has ended: the supervisor compares its derivation with the entry and counts what it derived. An
entry that another rule has made VOID meanwhile is that rule's (R173, R171). -/
def State.concluded (s : State) (v : Fin 2) (h : Fin 8) (e : Episode) (slot : Fin 2048) (alone : Bool) : State :=
  match s.led.entry 0 slot with
  | none => s
  | some en =>
    let r := e.result (s.rejectEnable h)
    let byOther := en.st == .void && !(s.pas.voidCause[h] == 1 || s.pas.voidCause[h] == 2 || s.pas.voidCause[h] == 3)
    if byOther then s
    else if e.complete && agrees e r en then (if r.st = .detected then s.countEntry v slot alone else s)
    else
      let s1 := if en.st = .void then s else (s.onEntry slot fun e => { e with st := .void }).voided h 3
      (s1.raiseAtHead v h 9).record (codeFaultRow 10) (svSource v) [BitVec.ofNat 8 h.val]

/-- R38: presence at the head of leg n of a CLEAR or PREPARED section with balance 0 while the section beyond hands over a
known vehicle toward the leg sets the direction provisionally. -/
def State.provisionalDir (s : State) (v : Fin 2) (sec : Fin 4) (n : Fin 4) (h : Fin 8) : State :=
  let p := s.sv[v].props[sec]
  if (p.state == .clear || p.state == .prepared) && s.sv[v].secs[sec].b == 0 && !p.dirValid && s.handover v sec n then
    s.onSv v fun x => x.onProp sec fun p =>
      { p with dirValid := true, dir := dirOfLeg n true, dirLeg := n, provisional := true, provHead := some h }
  else s

/-- R39: the presence that set a provisional direction ends; without a counted passage into the section it is cleared. -/
def State.endProvisional (s : State) (v : Fin 2) (h : Fin 8) (counted : Bool) : State :=
  if counted then s
  else
    s.onSv v fun x => { x with props := Vector.ofFn fun sec =>
                          let p := x.props[sec]
                          if p.provisional && p.provHead == some h then
                            { p with dirValid := false, dir := false, provisional := false, provHead := none }
                          else p }

/-- R167, R188, R190: a supervisor takes one forwarded event. The sections with an ONSET at a leg head join `trig`. -/
def State.takeEvent (s : State) (v : Fin 2) (ev : PresenceEvent) (slot : Option (Fin 2048)) (ended alone : Bool)
    (trig : BitVec 4) : State × BitVec 4 :=
  let h := headOf ev.ch
  let e := s.sv[v].der[h]
  let e1 := e.take ev
  let s1 := s.onSv v fun x => { x with der := updV x.der h fun _ => e1 }
  match ev.edge with
  | .onset =>
    let s2 := State.each s1 sections fun s sec =>
      match s.legOf sec h with
      | some n => s.provisionalDir v sec n h
      | none => s
    (s2, sections.foldl (fun (m : BitVec 4) (sec : Fin 4) =>
      if (s.legOf sec h).isSome then m ||| (1 <<< sec.val) else m) trig)
  | _ =>
    let isEnd := ev.edge == .endd || ev.edge == .withdraw
    let s2 := s1.when isEnd fun s => s.onSv v fun x =>
      { x with secs := Vector.ofFn fun sec =>
                 if (s.legOf sec h).isSome then { x.secs[sec] with tq := max x.secs[sec].tq ev.stamp } else x.secs[sec] }
    if !ended then (s2, trig)
    else
      let s3 := s2.onSv v fun x =>
        { (x.onHead h fun k => k.episode e1.first ev.stamp) with der := updV x.der h fun _ =>
                                                                   { prev := (e1.result (s.rejectEnable h)).only } }
      let s4 := match slot with
        | some i => s3.concluded v h e1 i alone
        | none => s3
      let counted := match slot with
        | some i => (e1.result (s.rejectEnable h)).st == .detected && (s4.led.entry 0 i).any fun en => en.st != .void
        | none => false
      (s4.endProvisional v h counted, trig)

/-- A supervisor takes everything that has reached it since its last step; answers the occupancy triggers. -/
def State.takeInbox (s : State) (v : Fin 2) (alone : Bool) : State × BitVec 4 :=
  let l := s.sv[v].inbox
  let s1 := s.onSv v fun x => { x with inbox := [] }
  l.foldl (fun (r : State × BitVec 4) n =>
    match n with
    | .presence ev slot ended => r.1.takeEvent v ev slot ended alone r.2
    | .headFault h => (r.1.onSv v fun x => { x with der := updV x.der h fun _ => {} }, r.2)
    | .cause sec code leg => (r.1.raise v sec code leg, r.2)) (s1, 0)

end Sys2Proof.Machine
end

