-- ==== Sys2Proof/Machine/Restore.lean ====
section
/-! DEFINITION. Restoration in one supervisor: soundness of overlap counts, terms, groups, results, rebasing, refusals
(R33, R247 to R263). -/

namespace Sys2Proof.Machine

/-- The supervisor whose findings are recorded once for both: SVA, or the one that serves alone. -/
def State.lead (s : State) (v : Fin 2) : Bool := decide (v = 0) || !s.sv[0].serves

/-- The supervisors that serve. -/
def State.serving (s : State) : List (Fin 2) := (List.finRange 2).filter fun v => s.sv[v].serves

/-- An effect in every serving supervisor. -/
def State.bothSv (s : State) (f : Fin 2 → Sv → Sv) : State :=
  State.each s s.serving fun s v => s.onSv v (f v)

/-- R392, R408: the check-value units of the serving supervisors complete a block. -/
def State.cvuDone (s : State) : State := State.each s s.serving fun s v => s.pulse (26 + v.val)

/-! ### Counts at an earlier time (R231, R249, R252) -/

/-- R231: the net positive passages of a head after t; none where the history does not reach t. -/
def HeadCnt.netAfter (k : HeadCnt) (t : Time) : Option Int :=
  let reaches := !k.histFull || (match k.hist.head? with
    | some p => decide (p.1 ≤ t)
    | none => true)
  if reaches then
    some (k.hist.foldl (fun a p => if decide (t < p.1) then (if p.2 then a + 1 else a - 1) else a) 0)
  else none

/-- R252: differences of counters are taken modulo 2^32 as signed 32-bit values. -/
def HeadCnt.net (k : HeadCnt) : Int := (k.pos - k.neg).toInt

/-- The net positive passages of a head up to t. -/
def HeadCnt.netAt (k : HeadCnt) (t : Time) : Option Int := (k.netAfter t).map fun d => k.net - d

/-- The net into a section at leg n's head from a net positive count. -/
def State.intoSense (s : State) (sec : Nat) (n : Fin 4) (net : Int) : Int := if s.sense sec n then net else -net

/-- R249: the balance of a section at t; none where a history does not reach it. -/
def State.balanceAt (s : State) (v : Fin 2) (sec : Fin 4) (t : Time) : Option Int :=
  legs.foldl (fun (b : Option Int) (n : Fin 4) =>
    match b, s.legHead sec n with
    | some b, some h => (s.sv[v].heads[h].netAfter t).map fun d => b - s.intoSense sec n d
    | b, none => b
    | none, _ => none) (some (s.sv[v].secs[sec].b : Int))

/-- R249 (a). -/
def SecCnt.soundA (k : SecCnt) (n : Fin 4) (t : Time) : Bool := !k.taint && !k.taintLeg[n] && (histAt k.hist[n] t).isSome

/-- R249 (b). -/
def State.soundB (s : State) (v : Fin 2) (sec : Fin 4) (t : Time) : Bool :=
  s.balanceAt v sec t == some 0 && (s.legHeadsOf sec).all fun h => s.sv[v].quietAt h t

/-- R249: the settled count of leg n's overlap zone is sound at t. -/
def State.overlapSound (s : State) (v : Fin 2) (sec : Fin 4) (n : Fin 4) (t : Time) : Bool :=
  s.sv[v].secs[sec].soundLog.at_ t && (s.sv[v].secs[sec].soundA n t || s.soundB v sec t)

/-- R249: the zone reset: Bs and every zone 0, the settle queue cleared up to t, route (a) open again from t. -/
def SecCnt.zoneReset (k : SecCnt) (t : Time) : SecCnt :=
  { k with
    bs := 0
    z := Vector.replicate 6 0
    tSet := max k.tSet t
    queue := k.queue.filter fun q => decide (t < q.tc)
    hist := Vector.replicate 4 [(t, 0)]
    taint := false
    taintLeg := Vector.replicate 4 false
    transit := Vector.replicate 4 []
    transitOff := Vector.replicate 4 false }

/-- R249: a zone reset of a section in one supervisor, recorded once for both, and checked (R184). -/
def State.applyZoneReset (s : State) (v : Fin 2) (sec : Fin 4) (t : Time) : State :=
  let s1 := s.onSv v fun x => x.onSec sec fun k => k.zoneReset t
  (if s.lead v then s1.record codeZoneReset (svSource v) [BitVec.ofNat 8 sec.val] else s1).checkSettled v sec

/-- R249: at the first settled time at which (b) holds and (a) does not, the zones are reset. -/
def State.zoneResetDue (s : State) (v : Fin 2) (sec : Fin 4) : State :=
  let k := s.sv[v].secs[sec]
  let st := s.sv[v].props[sec].state
  let someTaint := k.taint || k.taintLeg.toList.any id
  if st != .unconfigured && k.sound && someTaint && decide (0 < k.tSet) && s.soundB v sec k.tSet then
    (s.applyZoneReset v sec k.tSet)
  else s

/-! ### Entry into a state (R33, R39, R179, R248, R251) -/

/-- R253, R261, R264: a section of a group leaves RESTORING or enters it anew: the request of its group is withdrawn, and with it a
result not yet applied; its other sections wait again. -/
def Sv.withdrawWith (x : Sv) (sec : Fin 4) : Sv :=
  { x with rests := x.rests.map fun r =>
    if r.state == 2 && r.group.getLsbD sec.val then { state := 1, refusal := r.refusal } else r }

/-- A supervisor's proposal for a section enters a state. `route` is the route of R269 by which it leaves RESTORING. -/
def State.enter (s : State) (v : Fin 2) (sec : Fin 4) (st : SecState) (route : Nat := 0) : State :=
  let live := st == .clear || st == .occupied || st == .prepared
  let keepDir := st == .occupied || st == .prepared
  let p (p : Prop_) : Prop_ := { p with
    state := st
    since := s.tbNow
    dirValid := p.dirValid && keepDir
    dir := p.dir && p.dirValid && keepDir
    provisional := p.provisional && keepDir
    provHead := if keepDir then p.provHead else none
    clearAt := none
    selfAt := none
    entryLeg := none
    sweptIn := false
    bemfAt := none
    causes := if st = .unconfigured then [] else p.causes
    condCauses := if st = .unconfigured then [] else p.condCauses
    route := if route = 0 then p.route else route }
  let k (k : SecCnt) : SecCnt :=
    if st = .unconfigured then {}
    else if live then k.setSound s.tbNow true
    else if st = .restoring && !k.sound then
      { k with b := 0, bs := 0, z := Vector.replicate 6 0, hist := Vector.replicate 4 [], queue := [], recent := [], taint := true }
    else k
  let r (r : Rest) : Rest :=
    if st = .restoring then { state := 1, refusal := r.refusal }
    else { r with state := 0, group := 0, tR := 0, result := none, retryAt := none, onceOnly := false
                  refusal := if live then 0 else r.refusal }
  (s.onSv v fun x => x.withdrawWith sec).onSv v fun x => ((x.onProp sec p).onSec sec k).onRest sec r

/-! ### Terms and groups (R252, R253) -/

/-- R252: a cum within −4,095 to 4,095 is usable. -/
def usableCum (c : Int) : Bool := decide (-4095 ≤ c ∧ c ≤ 4095)

/-- R252: the term of an INTERNAL leg at t_R. -/
def State.internalTerm (s : State) (v : Fin 2) (sec : Fin 4) (n : Fin 4) (tR : Time) : Option Answer :=
  match s.partner sec n with
  | none => none
  | some (t, m) =>
    match s.legHead t m with
    | none => none
    | some h =>
      if s.overlapSound v t m tR && s.keep.cumValid[h].isSome then
        match s.sv[v].heads[h].netAt tR with
        | some net =>
          let cum := -(s.intoSense t m net)
          if usableCum cum then some { zov := (histAt s.sv[v].secs[t].hist[m] tR).getD 0, cum := cum } else none
        | none => none
      else none

/-- R252: the boundary term of a leg at t_R, given the answers accepted. -/
def State.term (s : State) (v : Fin 2) (sec : Fin 4) (n : Fin 4) (answers : Vector (Option Answer) 8) (tR : Time) :
    Option Answer :=
  let by_ := s.beyond sec n
  if by_ = byStop then some { zov := 0, cum := 0 }
  else if by_ = byInternal then s.internalTerm v sec n tR
  else match s.legConn sec n with
    | some k => answers[k]
    | none => none

/-- The section on the other side of an INTERNAL or SHARED leg. -/
def State.otherSide (s : State) (sec : Fin 4) (n : Fin 4) : Option (Fin 4 × Fin 4) :=
  if !s.hasLeg sec n then none
  else if s.beyond sec n = byInternal then s.partner sec n
  else if s.beyond sec n = byShared then
    match s.legHead sec n with
    | some h => (s.legsAt h).find? fun p => p.1 != sec
    | none => none
  else none

/-- R253: one round of reaching RESTORING sections across INTERNAL or SHARED legs without a usable term. -/
def State.growGroup (s : State) (v : Fin 2) (tR : Time) (g : BitVec 4) : BitVec 4 :=
  sections.foldl (fun (g : BitVec 4) (sec : Fin 4) =>
    if g.getLsbD sec.val then
      legs.foldl (fun (g : BitVec 4) (n : Fin 4) =>
        match s.otherSide sec n with
        | some (t, _) =>
          let usable := s.beyond sec n == byInternal && (s.internalTerm v sec n tR).isSome
          if s.sv[v].props[t].state = .restoring && !usable then g ||| (1 <<< t.val) else g
        | none => g) g
    else g) g

/-- R253: the restoration group of a section. -/
def State.restGroup (s : State) (v : Fin 2) (sec : Fin 4) (tR : Time) : BitVec 4 :=
  (List.range 4).foldl (fun g _ => s.growGroup v tR g) (1 <<< sec.val)

/-- The sections of a group. -/
def members (g : BitVec 4) : List (Fin 4) := sections.filter fun n => g.getLsbD n.val

/-- R253: the outer legs of a group: those that do not join two of its sections. -/
def State.outerLegs (s : State) (g : BitVec 4) : List (Fin 4 × Fin 4) :=
  (members g).flatMap fun (sec : Fin 4) => (legs.filter fun (n : Fin 4) => s.hasLeg sec n && !(match s.otherSide sec n with
    | some (t, _) => g.getLsbD t.val
    | none => false)).map fun n => (sec, n)

/-- The connections of a group's outer GUYLINE legs. -/
def State.groupConns (s : State) (g : BitVec 4) : List (Fin 8) := (s.outerLegs g).filterMap fun p => s.legConn p.1 p.2

/-! ### Refusal (R260) -/

/-- R260: a refused attempt of a group in one supervisor. Codes 1 for epoch 0 and 2 are not retried. -/
def State.refuse (s : State) (v : Fin 2) (g : BitVec 4) (code : Nat) (once : Bool := false) : State :=
  let s1 := State.each s (members g) fun s sec =>
    s.onSv v fun x => x.onRest sec fun r =>
      { r with
        state := 4
        refusal := code
        onceOnly := once
        result := none
        answers := Vector.replicate 8 none
        tR := 0
        retryAt := if once then none else some (s.clk.now + ms s.attestRetry) }
  if s.lead v then
    (s1.record codeRefusal (svSource v) [BitVec.ofNat 8 g.toNat, BitVec.ofNat 8 code]).pulse 22
  else s1

/-! ### Request (R254) -/

/-- R361: the time base is synchronised or in holdover. -/
def State.timeGood (s : State) : Bool := s.tb.state == 2 || s.tb.state == 3

/-- R254: the conditions of a request hold for a group. -/
def State.mayRequest (s : State) (v : Fin 2) (g : BitVec 4) : Bool :=
  let x := s.sv[v]
  ((members g).all fun sec => s.nv.secs[sec].epoch != 0) &&
    ((s.outerLegs g).all fun p => s.beyond p.1 p.2 == byGuyline || s.beyond p.1 p.2 == byInternal ||
      s.beyond p.1 p.2 == byStop) &&
    ((members g).all fun sec => (s.headsOf sec).all fun h => s.healthy h) && s.timeGood &&
    ((s.groupConns g).all fun k => x.conns[k].inService) &&
    ((s.outerLegs g).all fun p => s.beyond p.1 p.2 != byInternal ||
      (match s.partner p.1 p.2 with
        | some (t, _) => (s.internalTerm v p.1 p.2 x.secs[t].tSet).isSome
        | none => false))

/-- R251, R254: t_R is chosen: the section drops the passages up to it from its queue, and the balance of an unsound one is the net
of its own leg passages after it. -/
def SecCnt.chosen (k : SecCnt) (tR : Time) : SecCnt :=
  let late (l : List QPass) : List QPass := l.filter fun q => decide (tR < q.tc)
  { k with
    queue := late k.queue
    b := if k.sound then k.b else min 4095 (netLegs (late (k.recent ++ k.queue))).toNat }

/-- R254: the request of a group takes its t_R in one supervisor. -/
def State.chooseTR (s : State) (v : Fin 2) (g : BitVec 4) (tR : Time) : State :=
  State.each s (members g) fun s sec =>
    s.onSv v fun x => (x.onRest sec fun r =>
      { r with tR := tR, reqAt := s.clk.now, tRAt := s.clk.now - (s.tbNow - tR), answers := Vector.replicate 8 none
               breaks := Vector.replicate 8 none, latest := Vector.replicate 8 none, result := none }).onSec sec fun k =>
      k.chosen tR

/-- R254: where no outer leg is GUYLINE, t_R is the lowest T_set of the group's sections and of those beyond its INTERNAL
outer legs; taken once every serving supervisor requests. -/
def State.chooseInternal (s : State) (g : BitVec 4) : State :=
  let ready := s.serving.all fun v => (members g).all fun sec =>
    s.sv[v].rests[sec].state == 2 && s.sv[v].rests[sec].group == g && s.sv[v].rests[sec].tR == 0
  if ready && (s.groupConns g).isEmpty then
    let secs := members g ++ (s.outerLegs g).filterMap fun p => (s.otherSide p.1 p.2).map fun q => q.1
    let times := s.serving.flatMap fun v => secs.map fun sec => s.sv[v].secs[sec].tSet
    match times with
    | [] => s
    | t :: ts => State.each s s.serving fun s v => s.chooseTR v g (max 1 (ts.foldl min t))
  else s

/-- R253, R254, R260: a waiting section's request is made, refused or held back, in one supervisor. -/
def State.request (s : State) (v : Fin 2) (sec : Fin 4) : State :=
  let x := s.sv[v]
  let r := x.rests[sec]
  let selfOnly := x.secs[sec].sound && x.secs[sec].b == 0
  if x.props[sec].state != .restoring || r.state != 1 then s
  else if s.nv.secs[sec].epoch = 0 then s.refuse v (1 <<< sec.val) 1 true
  else if selfOnly then s
  else
    let g := s.restGroup v sec x.secs[sec].tSet
    let leader := (members g).head?
    if leader != some sec then s
    else if (s.outerLegs g).any fun p => s.beyond p.1 p.2 == byOpen || s.beyond p.1 p.2 == byShared then s.refuse v g 2 true
    else if !s.attestEnable then s.refuse v g 13
    else if !((s.outerLegs g).any fun p => s.beyond p.1 p.2 == byGuyline || s.beyond p.1 p.2 == byInternal) then
      s.refuse v g 7
    else if (members g).any fun sec => s.keep.barred[sec] then s.refuse v g 8
    else if s.mayRequest v g then
      (State.each s (members g) fun s sec => s.onSv v fun x => x.onRest sec fun r =>
        { r with state := 2, group := g, tR := 0 }).chooseInternal g
    else s

/-! ### Result (R255 to R257) -/

/-- R256: the result of a group from the terms of its outer legs; the refusal code otherwise. -/
def State.resultOf (s : State) (g : BitVec 4) (terms : List ((Fin 4 × Fin 4) × Answer)) : Except Nat Result :=
  let core (sec : Fin 4) : Int := terms.foldl (fun a p => if p.1.1 = sec then a + p.2.cum else a) 0
  let total : Int := terms.foldl (fun a p => a + p.2.zov + p.2.cum) 0
  let secs := members g
  if (secs.any fun sec => decide (core sec < 0)) || decide (total < 0) || decide (4095 < total) then .error 9
  else if decide (1 < secs.length) && total != 0 then .error 6
  else if secs.any fun sec => (s.interior sec).isSome && core sec != 0 then .error 6
  else .ok { sums := secs.map fun sec => (core sec, total), zones := terms.map fun p => (p.1, p.2.zov) }

/-- R255, R256: a supervisor computes its result once every answer is accepted and every INTERNAL term can be taken. -/
def State.compute (s : State) (v : Fin 2) (sec : Fin 4) : State :=
  let x := s.sv[v]
  let r := x.rests[sec]
  let g := r.group
  if r.state != 2 || r.tR == 0 || r.result.isSome || (members g).head? != some sec then s
  else
    let outer := s.outerLegs g
    let answered := (s.groupConns g).all fun k => r.answers[k].isSome
    let reached := outer.all fun p => s.beyond p.1 p.2 != byInternal ||
      (match s.partner p.1 p.2 with
        | some (t, _) => decide (r.tR ≤ x.secs[t].tSet)
        | none => true)
    if !(answered && reached) then s
    else
      let ts := outer.map fun p => (p, s.term v p.1 p.2 r.answers r.tR)
      if ts.any fun p => p.2.isNone then s.refuse v g 3
      else
        match s.resultOf g (ts.filterMap fun p => p.2.map fun a => (p.1, a)) with
        | .error c => s.refuse v g c
        | .ok l => s.onSv v fun x => x.onRest sec fun r => { r with result := some l }

/-! ### Rebase (R258) -/

/-- R258: the counters of a head after a rebase by d into a leg's section. -/
def HeadCnt.rebased (k : HeadCnt) (intoPos : Bool) (d : Int) : HeadCnt :=
  let add : Word := BitVec.ofNat 32 d.natAbs
  if d = 0 then k
  else if decide (0 < d) == intoPos then { k with pos := k.pos + add } else { k with neg := k.neg + add }

/-- R258: one head rebased to a required net into a section by a leg of sense `intoPos`, in every serving supervisor, at t_R. -/
def State.rebaseHead (s : State) (h : Fin 8) (intoPos : Bool) (required : Int) (tR : Time) : State :=
  let d (x : Sv) : Int :=
    let k := x.heads[h]
    let net := (k.netAt tR).getD k.net
    required - (if intoPos then net else -net)
  let d0 := match s.serving with
    | v :: _ => d s.sv[v]
    | [] => 0
  let s1 := s.bothSv fun _ x => x.onHead h fun k => k.rebased intoPos (d x)
  ((s1.setCumValid h true).onNvHead h fun n => { n with lastRebase := if intoPos then d0 else -d0 }).record codeRebase 3
    (BitVec.ofNat 8 h.val :: leBytes 4 (wrapOf 32 (if intoPos then d0 else -d0)))

/-- R258: rebase of an outer leg from its term. -/
def State.rebaseOuter (s : State) (sec : Fin 4) (n : Fin 4) (a : Answer) (tR : Time) : State :=
  match s.legHead sec n with
  | some h => s.rebaseHead h (s.sense sec n) (a.zov + a.cum) tR
  | none => s

/-- R258: flows across the joints of a group of several sections, worked inward from the outer legs: a joint whose section has
no other open joint carries on what its outer legs and settled joints bring in. Answers the net into the section beyond. -/
def State.jointFlows (s : State) (g : BitVec 4) (core : Fin 4 → Int) : List ((Fin 4 × Fin 4) × Int) :=
  let joints (sec : Fin 4) : List (Fin 4 × Fin 4) :=
    legs.filterMap fun n => match s.otherSide sec n with
      | some (t, m) => if g.getLsbD t.val then some (t, m) else none
      | none => none
  (List.range 4).foldl (fun fl _ =>
    (members g).foldl (fun (fl : List ((Fin 4 × Fin 4) × Int)) sec =>
      let known (p : Fin 4 × Fin 4) : Bool := fl.any fun q => q.1 == p
      let opn := (joints sec).filter fun p => !known p
      match opn with
      | [p] =>
        let into := (legs.filterMap fun n => (fl.find? fun q => q.1 == (sec, n)).map fun q => q.2).foldl (· + ·) (core sec)
        let sent := ((joints sec).filterMap fun p => (fl.find? fun q => q.1 == p).map fun q => q.2).foldl (· + ·) 0
        let back := match s.otherSide p.1 p.2 with
          | some q => [(q, sent - into)]
          | none => []
        fl ++ [(p, into - sent)] ++ back
      | _ => fl) fl) []

/-- R182, R258: the net at the interior head into Z5 that makes Z5 0: what its own legs have brought into the core next to them has
gone out there. -/
def State.z5Need (s : State) (sec : Fin 4) (cums : List ((Fin 4 × Fin 4) × Int)) : Int :=
  cums.foldl (fun a p => if p.1.1 = sec && s.coreZone sec p.1.2 == 5 then a - p.2 else a) 0

/-- R258: every own head of a restored group rebased. -/
def State.rebaseGroup (s : State) (g : BitVec 4) (terms : List ((Fin 4 × Fin 4) × Answer)) (tR : Time) : State :=
  let s1 := State.each s terms fun s p => s.rebaseOuter p.1.1 p.1.2 p.2 tR
  let core (sec : Fin 4) : Int := terms.foldl (fun a p => if p.1.1 = sec then a + p.2.cum else a) 0
  let flows := if 1 < (members g).length then s1.jointFlows g core else []
  let s2 := State.each s1 flows fun s f =>
    match s.legHead f.1.1 f.1.2 with
    | some h => s.rebaseHead h (s.sense f.1.1 f.1.2) f.2 tR
    | none => s
  State.each s2 (members g) fun s sec =>
    match s.interior sec with
    | some h => s.rebaseHead h (s.interiorSide sec) (s.z5Need sec (terms.map (fun p => (p.1, p.2.cum)) ++ flows)) tR
    | none => s

/-! ### Application (R257) -/

/-- R251, R257: Bs and the zones take the result at t_R; the passages after it, those settled since included, are queued. -/
def SecCnt.restored (k : SecCnt) (core total : Int) (tR : Time) : SecCnt :=
  let z := updV (Vector.replicate 6 0) 0 fun _ => core
  let q := (k.recent ++ k.queue).filter fun q => decide (tR < q.tc)
  { k with
    bs := total
    z := z
    tSet := tR
    queue := q
    recent := []
    hist := Vector.replicate 4 [(tR, 0)]
    taint := false
    taintLeg := Vector.replicate 4 false
    transit := Vector.replicate 4 []
    transitOff := Vector.replicate 4 false
    b := min 4095 (total + netLegs q).toNat }

/-- R257: overlap zones of a single section take the result's counts. -/
def SecCnt.overlapsRestored (k : SecCnt) (zones : List ((Fin 4 × Fin 4) × Int)) (sec : Fin 4) (tR : Time) : SecCnt :=
  zones.foldl (fun k p =>
    if p.1.1 = sec then
      { k with
        z := updV k.z (overlapZone p.1.2) fun _ => wrap16 p.2
        hist := updV k.hist p.1.2 fun _ => [(tR, wrap16 p.2)] }
    else k) k

/-- R257, R260: a check of R184 has failed after a result applied: code 9, recorded; its cause makes the section DISTURBED. -/
def State.resultFailed (s : State) (v : Fin 2) (sec : Fin 4) : State :=
  let s1 := s.onSv v fun x => x.onRest sec fun r => { r with refusal := 9 }
  if s.lead v then
    (s1.record codeRefusal (svSource v) [BitVec.ofNat 8 (2 ^ sec.val), 9]).pulse 22
  else s1

/-- R257: the result applied to one section in one supervisor: settled from t_R on, checked, held for the outcome. -/
def State.applySection (s : State) (v : Fin 2) (sec : Fin 4) (core total : Int) (zones : List ((Fin 4 × Fin 4) × Int))
    (single : Bool) (tR : Time) : State :=
  let s1 := s.onSv v fun x =>
    (x.onSec sec fun k =>
      let k1 := k.restored (if single then core else 0) (if single then total else 0) tR
      if single then k1.overlapsRestored (zones.filter fun p => s.overlapped p.1.1 p.1.2) sec tR else k1).onRest sec fun r =>
      { r with state := 3, result := none }
  let s2 := match s1.settleTo v sec with
    | some t => if tR < t then s1.settleUpTo v sec t else s1
    | none => s1
  let s3 := (s2.checkSettled v sec).when (!s2.sv[v].secs[sec].failures.isEmpty) fun s => s.resultFailed v sec
  s3.onSv v fun x => x.onProp sec fun p => { p with route := 2, routeT := tR }

/-- R257: identical results of every serving supervisor apply in one step; different ones are refused with code 10. -/
def State.applyResults (s : State) (sec : Fin 4) : State :=
  match s.serving with
  | [] => s
  | v :: vs =>
    let r := s.sv[v].rests[sec]
    match r.result with
    | none => s
    | some l =>
      if !(vs.all fun w => s.sv[w].rests[sec].result.isSome) then s
      else if !(vs.all fun w => s.sv[w].rests[sec].result == some l && s.sv[w].rests[sec].tR == r.tR) then
        State.each s (v :: vs) fun s w => s.refuse w r.group 10
      else
        let terms := (s.outerLegs r.group).filterMap fun p => (s.term v p.1 p.2 r.answers r.tR).map fun a => (p, a)
        let single := decide ((members r.group).length = 1)
        let s1 := State.each s ((members r.group).zip l.sums) fun s p =>
          State.each s (v :: vs) fun s w => s.applySection w p.1 p.2.1 p.2.2 l.zones single r.tR
        (s1.rebaseGroup r.group terms r.tR).pulse 22

end Sys2Proof.Machine
end

