-- ==== Sys2Proof/Machine/Horizon.lean ====
section
/-! DEFINITION. The horizon and the choice of a power state (R370, R375 to R385), and how a wake begins (R374, R390). An
absent time is infinite. -/

namespace Sys2Proof.Machine

/-! ### Entry bounds and horizons (R375 to R378) -/

/-- The earlier of two bounds, absent being infinite. -/
def minBound : Option Time → Option Time → Option Time
  | none, b => b
  | a, none => a
  | some a, some b => some (min a b)

/-- R375: the distance of two own heads in mm. -/
def State.dist (s : State) (a b : Fin 8) : Nat := (s.headChainage a - s.headChainage b).natAbs

/-- R375: travel time in ns over d mm at v mm/s. -/
def travel (d v : Nat) : Time :=
  let q := d * 1000000000 / v
  if q * v = d * 1000000000 then q else if Config.travelUp d v then q + 1 else q

/-- A bound later by the travel between two heads. -/
def State.later (s : State) (b : Option Time) (x y : Fin 8) : Option Time :=
  b.map fun t => t + travel (s.dist x y) s.horizonSpeed

/-- R377: the bound of a GUYLINE leg, from the latest accepted telegram. -/
def State.guylineBound (s : State) (v : Fin 2) (sec : Fin 4) (n : Fin 4) (k : Fin 8) : Option Time :=
  let c := s.sv[v].conns[k]
  match c.last with
  | none => some s.tbNow
  | some t =>
    if !c.inService || !s.timeGood then some s.tbNow
    else if t.secState != 0 || !t.flags.testBit 4 then some s.tbNow
    else if t.farHorizon = 0xFFFFFFFF then none
    else
      let d := (t.farDist - min t.overlap (s.overlapLeg sec n)) * 10
      some (t.sendTime + t.farHorizon * 1000 + travel d s.horizonSpeed)

/-- R376: index of leg n of section s among the entry bounds. -/
def legIndex (sec n : Fin 4) : Fin 16 := ⟨4 * sec.val + n.val, by omega⟩

/-- R376: the section beyond an INTERNAL or SHARED leg, with its leg at this boundary. -/
def State.beyondLeg (s : State) (sec : Fin 4) (n : Fin 4) : Option (Fin 4 × Fin 4) := s.otherSide sec n

/-- R376: the bound of one leg of a section that is CLEAR, the others as they stand. -/
def State.entryOf (s : State) (v : Fin 2) (e : Vector (Option Time) 16) (sec : Fin 4) (n : Fin 4) : Option Time :=
  let b := s.beyond sec n
  if b = byOpen then some s.tbNow
  else if b = byStop then none
  else match s.legConn sec n with
    | some k => s.guylineBound v sec n k
    | none =>
      match s.beyondLeg sec n, s.legHead sec n with
      | some (t, m), some g =>
        if s.sv[v].props[t].state != .clear then some s.tbNow
        else (legs.filter fun (l : Fin 4) => l != m && s.hasLeg t l).foldl (fun acc (l : Fin 4) =>
          match s.legHead t l with
          | some h => minBound acc (s.later e[legIndex t l] h g)
          | none => acc) none
      | _, _ => some s.tbNow

/-- R378: one pass over every bound; `first`: INTERNAL and SHARED bounds are still infinite. -/
def State.entryPass (s : State) (v : Fin 2) (first : Bool) (e : Vector (Option Time) 16) : Vector (Option Time) 16 :=
  Vector.ofFn fun i : Fin 16 =>
    let sec : Fin 4 := ⟨i.val / 4, by omega⟩
    let n : Fin 4 := ⟨i.val % 4, by omega⟩
    let joint := s.beyond sec n == byInternal || s.beyond sec n == byShared
    if !s.hasLeg sec n || s.sv[v].props[sec].state != .clear || (first && joint) then none else s.entryOf v e sec n

/-- R376 to R378: every entry bound of a supervisor. -/
def State.entries (s : State) (v : Fin 2) : Vector (Option Time) 16 :=
  (List.range 4).foldl (fun e _ => s.entryPass v false e) (s.entryPass v true (Vector.replicate 16 none))

/-- R378: the horizon of an enabled head. -/
def State.headHorizon (s : State) (v : Fin 2) (e : Vector (Option Time) 16) (h : Fin 8) : Option Time :=
  (s.sectionsOf h).foldl (fun hz (sec : Fin 4) =>
    let b := if s.sv[v].props[sec].state != .clear then some s.tbNow
      else (legs.filter fun (m : Fin 4) => s.hasLeg sec m).foldl (fun acc (m : Fin 4) =>
        match s.legHead sec m with
        | some g => minBound acc (s.later e[legIndex sec m] g h)
        | none => acc) none
    minBound hz b) none

/-- R379, R387: FAR_HORIZON and FAR_DIST of leg n of a section at send time t, from the bounds of now. -/
def State.farFields (s : State) (v : Fin 2) (sec : Fin 4) (n : Fin 4) (t : Time) : Nat × Nat :=
  let far := legs.filter fun (m : Fin 4) => m != n && s.hasLeg sec m
  let e := s.entries v
  let bound := far.foldl (fun acc (m : Fin 4) => minBound acc e[legIndex sec m]) none
  let hz := if s.sv[v].props[sec].state != .clear then 0
    else match bound with
      | none => 0xFFFFFFFF
      | some b => min 0xFFFFFFFE ((b - t) / 1000)
  let d := match s.legHead sec n with
    | none => 0
    | some b => (far.filterMap fun (m : Fin 4) => (s.legHead sec m).map fun h => s.dist h b).foldl
        (fun acc x => match acc with
          | none => some x
          | some y => some (min y x)) (none : Option Nat) |>.getD 0
  (hz, d / 10)

/-! ### The sleep budget (R382, R383) -/

/-- R194, R382: the time of DegradedClearTime still to run, in ns. -/
def State.degradedLeft (s : State) (sec : Fin 4) : Nat := s.degradedClearTime sec * 3600000000000 - s.nv.degradedNs

/-- R361: the end of holdover: HoldoverLimit, or before it the moment at which the error estimate reaches 1 µs. -/
def State.holdoverEnd (s : State) : Time :=
  let limit := s.tb.holdAt + secs s.holdoverLimit
  if s.tb.ppsLock then (if 1000 < s.tb.ppsPhase + 100 then s.clk.now else limit)
  else min limit (s.tb.holdAt + (1000 - s.tb.holdOff) * 50000000)

/-- R382: the next internal events, as elapsed times. -/
def State.internalEvents (s : State) : List Time :=
  let pitch := match kvGet (dkey 0x4020 3) s.nv.pitch with
    | some v => if s.nv.pitchRes = 1 then [s.clk.now + (leNat v - s.tbNow)] else []
    | none => []
  let hold := if s.tb.state = 3 then [s.holdoverEnd] else []
  let deg := if s.keep.degraded then
      (sections.filter fun (n : Fin 4) => !s.keep.expired.getLsbD n.val && decide (0 < s.degradedLeft n)).map fun n => s.clk.now + s.degradedLeft n
    else []
  pitch ++ hold ++ deg

/-- R146: when the next test of a channel falls due: ProofInterval after its last completed test, at once without one. -/
def State.proofDueAt (s : State) (c : Fin 16) : Time :=
  match s.eng.proofs[c].doneAt with
  | some d => d + secs (s.proofInterval (headOf c))
  | none => s.eng.proofs[c].dueAt

/-- R382: the next due time of a proof test of a channel in service, as an elapsed time. -/
def State.proofDue (s : State) : Option Time :=
  (List.finRange 16).foldl (fun acc (c : Fin 16) =>
    if s.fe.chans[c].phase == .inService || s.fe.chans[c].phase == .paused || s.fe.chans[c].phase == .off &&
        s.eng.dets[c].haveB0 then
      minBound acc (some (if s.eng.proofs[c].due then s.clk.now else s.proofDueAt c))
    else acc) none

/-- R382: the sleep budget in ns, with the code of what limits it (R338) and the limiting head. -/
def State.sleepBudget (s : State) (hz : Vector (Option Time) 8) : Option Nat × Nat × Nat :=
  let head := heads.foldl (fun (acc : Option Time × Nat) (h : Fin 8) =>
    if s.headEnable h then
      match hz[h], acc.1 with
      | some t, some b => if t < b then (some t, h.val) else acc
      | some t, none => (some t, h.val)
      | none, _ => acc
    else acc) (none, 0xFF)
  let b0 := head.1.map fun t => t - s.tbNow
  let p := s.proofDue.map fun t => t - s.clk.now
  let i := s.internalEvents.foldl (fun acc t => minBound acc (some t)) none |>.map fun t => t - s.clk.now
  let less (a b : Option Nat) : Bool := match a, b with
    | some x, some y => decide (x < y)
    | some _, none => true
    | none, _ => false
  if less i p && less i b0 then (i, 2, 0xFF)
  else if less p b0 then (p, 1, 0xFF)
  else (b0, 0, head.2)

/-- R374: wake time to ACTIVE in ns. -/
def PState.wakeTime : PState → Nat
  | .active => 0
  | .watch => us 2
  | .lull => us 1600
  | .hibernate => ms 35

/-- R383: the budget a state needs. -/
def State.threshold (s : State) (x : PState) : Nat :=
  x.wakeTime + x.wakeTime * s.guardShare / 100 + ms s.guardFixed

/-- R383, R432: the deepest state allowed by setting. -/
def State.deepest (s : State) : Nat := if s.pwr.rcLost then min 1 s.deepestState else s.deepestState

/-- R383: a state deeper than WATCH is allowed for a budget. -/
def State.sleepAllowed (s : State) (x : PState) (budget : Option Nat) : Bool :=
  (match budget with
    | none => true
    | some b => decide (s.threshold x ≤ b)) &&
    decide (x.code.val ≤ s.deepest) &&
    (match s.pwr.lastWake with
      | none => true
      | some w => decide (w + ms s.sleepHoldoff ≤ s.clk.now)) &&
    (s.timeGood || !((List.finRange 8).any fun k => s.connEnable k)) && (x == .lull || !s.keep.degraded)

/-- R370: what keeps Stoska in ACTIVE, as supervisor v sees it. -/
def State.mustBeActive (s : State) (v : Fin 2) : Bool :=
  (sections.any fun (n : Fin 4) => decide (1 ≤ s.legCount n) && s.sv[v].props[n].state != .clear) ||
    (sections.any fun (n : Fin 4) => (s.legHeadsOf n).any fun h => !s.quiet h) ||
    ((List.finRange 16).any fun (c : Fin 16) => s.headEnable (headOf c) &&
      (s.fe.chans[c].phase == .calibrating || s.fe.chans[c].recal || s.fe.chans[c].plan.isSome ||
        (s.fe.chans[c].phase == .faulted && s.fe.chans[c].quietSince.isSome) ||
        (match s.fe.chans[c].mask with
          | some m => m.move
          | none => false))) ||
    (match s.test.iso with
      | some i => decide (1 ≤ i.stage)
      | none => false) ||
    s.sdp.txn.isSome || s.nv.journal.state == 3 || s.nv.images.state == 1

/-- R383: the state a supervisor proposes, with the code of what limits it (R338). -/
def State.proposePower (s : State) (v : Fin 2) (budget : Option Nat) (code : Nat) : PState × Nat :=
  if s.mustBeActive v then (.active, code)
  else if s.deepest = 0 then (.active, 3)
  else if s.sleepAllowed .hibernate budget then (.hibernate, code)
  else
    let fits (x : PState) : Bool := match budget with
      | none => true
      | some b => decide (s.threshold x ≤ b)
    let next : PState := if s.sleepAllowed .lull budget then .lull else .watch
    let wanted : PState := if next = .lull then .hibernate else .lull
    let limiter := if !fits wanted then code
      else if s.deepest < wanted.code.val then 3
      else match s.pwr.lastWake with
        | some w => if s.clk.now < w + ms s.sleepHoldoff then 4 else code
        | none => code
    (next, limiter)

/-- The horizons and the power proposal of a supervisor's step. -/
def State.horizons (s : State) (v : Fin 2) : State :=
  let e := s.entries v
  let hz := Vector.ofFn fun h : Fin 8 => if s.headEnable h then s.headHorizon v e h else none
  let b := s.sleepBudget hz
  let p := s.proposePower v b.1 b.2.1
  s.onSv v fun x => { x with
    entry := e
    horizon := hz
    budget := b.1
    power := p.1
    limiter := p.2
    limitHead := b.2.2 }

/-! ### The power manager (R369, R374, R383, R390) -/

/-- R369: a change of power state raises POWER_STATE and is recorded with the states. -/
def State.powerChange (s : State) (x : PState) : State :=
  if s.pwr.state = x then s
  else
    ({ s with pwr := { s.pwr with state := x, enteredAt := s.clk.now } }.record codePowerState 0
      [BitVec.ofNat 8 s.pwr.state.code.val, BitVec.ofNat 8 x.code.val]).pulse 23

/-- R374, R384, R388, R390: a source of wake events is enabled in a power state. Sources: 1 the wake timer, 2 the supervisors'
bounds and failures, 3 the Hasp layer, 4 the test controller (R435), 8 the HOST path; 3 and 8 wake from HIBERNATE alone. -/
def wakeEnabled (source : Nat) : PState → Bool
  | .active => false
  | .watch => source == 2
  | .lull => source != 3 && source != 8
  | .hibernate => true

/-- R374, R390: a wake event: latched against a decision under way whose target it is enabled in, else the start of a wake from
LULL or HIBERNATE. -/
def State.wakeEvent (s : State) (source : Nat) : State :=
  match s.pwr.decision with
  | some d => s.when (wakeEnabled source d) fun s => { s with pwr := { s.pwr with latched := s.pwr.latched ++ [source] } }
  | none =>
    if (s.pwr.state = .lull || s.pwr.state = .hibernate) && wakeEnabled source s.pwr.state && s.pwr.waking.isNone then
      { s with pwr := { s.pwr with waking := some (s.pwr.state, s.clk.now) } }
    else s

/-- R382, R386: the budget as the bounds of now give it. -/
def State.budgetNow (s : State) (v : Fin 2) : Option Nat :=
  let e := s.entries v
  (s.sleepBudget (Vector.ofFn fun h : Fin 8 => if s.headEnable h then s.headHorizon v e h else none)).1

/-- R384, R432: the timer of a state has fallen due: the budget has fallen to the state's threshold. Without the crystal the
interval since the part entered its state is 5 % shorter. -/
def State.timerDue (s : State) (x : PState) : Bool :=
  (x == .lull || x == .hibernate) && s.serving.any fun v => match s.budgetNow v with
    | some b =>
      let left := b - s.threshold x
      let run := s.clk.now - s.pwr.enteredAt
      left == 0 || (s.pwr.crystalLost && decide (95 * (run + left) ≤ 100 * run))
    | none => false

/-- R383: the shallower of the proposals of the serving supervisors. -/
def State.powerWanted (s : State) : PState :=
  s.serving.foldl (fun (p : PState) v => if s.sv[v].power.code < p.code then s.sv[v].power else p) .hibernate

/-- R383, R384, R390: the power manager after a supervisor's step: a shallower state at once, a deeper one as a decision that
the AON domain executes. -/
def State.managePower (s : State) : State :=
  let w := if s.serving.isEmpty then .active else s.powerWanted
  let shallow (s : State) : State :=
    if w.code < s.pwr.state.code then
      (match s.pwr.state with
        | .watch => s.powerChange .active
        | .lull => s.wakeEvent 2
        | _ => s)
    else s
  match s.pwr.decision with
  | some d => shallow (if w.code < d.code && s.pwr.latched.isEmpty then s.wakeEvent 2 else s)
  | none =>
    if s.pwr.state.code < w.code && s.pwr.waking.isNone then
      { s with pwr := { s.pwr with decision := some w, latched := [] } }
    else shallow s

end Sys2Proof.Machine
end

