-- ==== Sys2Proof/Machine/Isolation.lean ====
section
/-! DEFINITION. The isolation of a head for test: judgement, grant, abort triggers and abort (R435 to R442). -/

namespace Sys2Proof.Machine

/-- R437: the sections a head concerns, as a mask. -/
def State.secMask (s : State) (h : Fin 8) : BitVec 4 :=
  (s.sectionsOf h).foldl (fun (m : BitVec 4) (n : Fin 4) => m ||| (1 <<< n.val)) 0

/-- R436: neither channel of a head is paused, masked or under proof test. -/
def State.headFree (s : State) (h : Fin 8) : Bool :=
  [chanX h, chanY h].all fun c => s.fe.chans[c].phase != .paused && s.fe.chans[c].mask.isNone &&
    s.eng.proofs[c].running.isNone

/-- R436: the code of the first condition that fails; none grants. Code 4, another head isolated, cannot arise: R435 holds one
request at a time. -/
def State.isoRefusal (s : State) (i : Isolation) : Option Nat :=
  let vs := s.serving
  if !((s.sectionsOf i.head).all fun n => vs.all fun v => s.sv[v].props[n].state == .clear) then some 1
  else if !(vs.all fun v => match s.sv[v].horizon[i.head] with
      | some t => decide (s.tbNow + i.durNs + ms 10 ≤ t)
      | none => true) then some 2
  else if !(s.headEnable i.head && s.healthy i.head) then some 3
  else if vs.length != 2 then some 5
  else if s.keep.farewell || s.phase == .removed then some 6
  else if !s.headFree i.head then some 7
  else none

/-- R436: a refusal goes back to the test controller, is recorded and raises SELFTEST. -/
def State.isoRefuse (s : State) (i : Isolation) (code : Nat) : State :=
  ({ s with test := { s.test with iso := none, refusal := code } }.record codeIsolationRefused 3
    [BitVec.ofNat 8 i.head.val, BitVec.ofNat 8 code]).pulse 31

/-- R441: a result is kept, recorded with D, P and the pattern count, and raises SELFTEST. -/
def State.isoResult (s : State) (i : Isolation) (result patterns : Nat) : State :=
  ({ s with test := { s.test with result := result, patterns := patterns, planned := i.patterns } }.record codeTestResult 3
    (BitVec.ofNat 8 i.head.val :: BitVec.ofNat 8 result ::
      (leBytes 4 (i.durNs / 1000) ++ leBytes 4 i.patterns ++ leBytes 4 patterns))).pulse 31

/-- R439: the abort of a test: its result, and the return at once, from `startAt`. The pattern count reached is the test
controller's. `abortAt` keeps the moment where the test controller had the channels (R442). -/
def State.isoAbort (s : State) (horizon : Bool) : State :=
  match s.test.iso with
  | some i =>
    if i.stage = 1 ∨ i.stage = 2 then
      let d := s.drawFree
      let s1 := d.2.isoResult i (if horizon then 4 else 2) d.1
      { s1 with test := { s1.test with
          iso := some { i with stage := 3, startAt := s.clk.now, abortAt := if i.stage = 2 then some s.clk.now else none }
          abortSent := true } }
    else s
  | none => s

/-- R438: a wheel at an isolated head is cause 3 for every section the grant concerns, and aborts the test. -/
def State.isoWheel (s : State) (v : Fin 2) : State :=
  match s.test.iso with
  | some i =>
    if 1 ≤ i.stage then
      let s1 := State.each s (sections.filter fun n => i.secs.getLsbD n.val) fun s n => s.raise v n 3 none
      { s1 with test := { s1.test with iso := some { i with wheel := true } } }.isoAbort false
    else s
  | none => s

/-- R438: an ONSET at another head of a section the grant concerns has reached a supervisor. -/
def State.isoOnset (s : State) (v : Fin 2) : Bool :=
  match s.test.iso with
  | some i => decide (1 ≤ i.stage) && s.sv[v].inbox.any fun n => match n with
    | .presence ev _ _ => ev.edge == .onset && headOf ev.ch != i.head &&
        (sections.any fun n => i.secs.getLsbD n.val && s.headConcerns (headOf ev.ch) n)
    | _ => false
  | none => false

/-- R439: the planned end of a test in the time base. -/
def State.isoEnd (s : State) (i : Isolation) : Time :=
  if i.stage = 2 then s.toTb i.startAt + i.durNs else i.grantTb + us 50 + i.durNs

/-- R439: the horizon of the head has fallen below the planned end of the test + 10 ms. -/
def State.isoNear (s : State) (v : Fin 2) (i : Isolation) : Bool :=
  match s.sv[v].horizon[i.head] with
  | some t => decide (t < s.isoEnd i + ms 10)
  | none => false

/-- R439: a section the grant concerns has left CLEAR. -/
def State.isoLeft (s : State) (v : Fin 2) (i : Isolation) : Bool :=
  sections.any fun n => i.secs.getLsbD n.val && s.sv[v].props[n].state != .clear

/-- R439: the abort triggers a supervisor's step finds, beside a wheel (R438). -/
def State.isoWatch (s : State) (v : Fin 2) : State :=
  match s.test.iso with
  | some i =>
    if i.stage = 1 ∨ i.stage = 2 then
      (if s.isoNear v i then s.isoAbort true else if s.isoLeft v i then s.isoAbort false else s)
    else s
  | none => s

end Sys2Proof.Machine
end

