-- ==== Sys2Proof/Machine/Demod.lean ====
section
/-! DEFINITION. The arithmetic of the engines and the scanner: roots, angles, the reference phases, the filter, demodulation, the
carrier model, the transform and decibels (R65, R66, R75, R100, R101, R116, R117, R119, R131). The spec gives no number format: values
are exact rationals, and where a result is irrational it has the precision that log entries 3 and 9 name. -/

namespace Sys2Proof.Machine

/-! ### Roots and angles (log entry 9) -/

/-- The greatest r below 2^(k+1) above `r` in steps whose square is at most n. -/
def isqrtGo (n : Nat) : Nat → Nat → Nat
  | 0, r => if (r + 1) * (r + 1) ≤ n then r + 1 else r
  | k + 1, r => let q := r + 2 ^ (k + 1); isqrtGo n k (if q * q ≤ n then q else r)

/-- The integer part of a square root. -/
def isqrt (n : Nat) : Nat := isqrtGo n (n.log2 / 2 + 1) 0

/-- A square root with 32 fractional bits. -/
def rootOf (q : Rat) : Rat := (isqrt (q * 18446744073709551616).floor.toNat : Rat) / 4294967296

/-- A square root in units of 1/k: an exact one is itself, another one of its two neighbours, free which (log entry 3). -/
def State.rootRound (s : State) (k : Nat) (q : Rat) : Int × State :=
  let x : Rat := (k : Rat) * k * q
  let r : Nat := isqrt x.floor.toNat
  if ((r * r : Nat) : Rat) = x then ((r : Int), s) else s.unstatedRound ((r : Rat) + 1 / 2)

/-- Arc tangent in radians of a ratio of at most 1/4, by its series. -/
def atanSmall (x : Rat) : Rat :=
  let y := x * x
  x * (1 - y * (1 / 3 - y * (1 / 5 - y * (1 / 7 - y * (1 / 9 - y * (1 / 11 - y / 13))))))

/-- Half of an angle, by its tangent. -/
def halfTan (x : Rat) : Rat := x / (1 + rootOf (1 + x * x))

/-- Arc tangent in degrees of a ratio of at most 1. -/
def atanDeg (x : Rat) : Rat := 4 * atanSmall (halfTan (halfTan x)) * (180 * 100000000000000000000 / 314159265358979323846)

/-- R119: the argument of a complex value in degrees, from −180 to 180. -/
def argDeg (v : Cx) : Rat :=
  let ax := max v.re (-v.re)
  let ay := max v.im (-v.im)
  let a := if ay ≤ ax then atanDeg (ay / ax) else 90 - atanDeg (ax / ay)
  let b := if v.re < 0 then 180 - a else a
  if v.im < 0 then -b else b

/-! ### Angles of a class (R131) and of a proof test (R147), by comparison -/

/-- |θ| is at least 120°. -/
def angleBack (v : Cx) : Bool := decide (v.re < 0 ∧ v.im * v.im ≤ 3 * v.re * v.re)
/-- |θ| is at most 60°. -/
def angleFront (v : Cx) : Bool := decide (0 < v.re ∧ v.im * v.im ≤ 3 * v.re * v.re)
/-- θ lies from −120° to −60°. -/
def angleDown (v : Cx) : Bool := decide (v.im < 0 ∧ 3 * v.re * v.re ≤ v.im * v.im)
/-- |θ| is at most 15°: tan 15° = 2 − √3. -/
def angleNear (v : Cx) : Bool :=
  let y := max v.im (-v.im)
  decide (0 < v.re ∧ y ≤ 2 * v.re ∧ 3 * v.re * v.re ≤ (2 * v.re - y) * (2 * v.re - y))
/-- |θ| is at least 165°. -/
def angleFar (v : Cx) : Bool := angleNear { re := -v.re, im := -v.im }
/-- |θ| is at most 5°. -/
def angleWithin5 (v : Cx) : Bool := decide (0 < v.re) && decide (argDeg v ≤ 5) && decide (-5 ≤ argDeg v)

/-! ### Reference phases (R65, R116) -/

/-- 1 in the fixed point of the phases: 60 fractional bits. -/
def fixOne : Int := 1152921504606846976

/-- A product in that fixed point. -/
def fixMul (a b : Int) : Int := a * b / fixOne

/-- An eighth of a turn in 512 steps: the angle of n of them in radians. -/
def fixAngle (n : Nat) : Int := 2 * 3622009729038561421 * (n : Int) / 4096

/-- The nested sum 1 − y ÷ a (1 − y ÷ b (…)), innermost divisor first. -/
def fixSeries (y : Int) (l : List Int) : Int := l.foldl (fun acc q => fixOne - fixMul y acc / q) fixOne

/-- Cosine of n steps of 1/4096 turn, n at most 512. -/
def cosSmall (n : Nat) : Int :=
  let x := fixAngle n
  fixSeries (fixMul x x) [306, 240, 182, 132, 90, 56, 30, 12, 2]

/-- Sine of n steps of 1/4096 turn, n at most 512. -/
def sinSmall (n : Nat) : Int :=
  let x := fixAngle n
  fixMul x (fixSeries (fixMul x x) [342, 272, 210, 156, 110, 72, 42, 20, 6])

/-- Cosine of n steps of 1/4096 turn. -/
def cosFix (n : Nat) : Int :=
  let r := n % 1024
  let c := if r ≤ 512 then cosSmall r else sinSmall (1024 - r)
  let s := if r ≤ 512 then sinSmall r else cosSmall (1024 - r)
  match n / 1024 % 4 with
  | 0 => c
  | 1 => -s
  | 2 => -c
  | _ => s

/-- The cosines of a turn. -/
def cosTable : Array Int := (Array.range 4096).map cosFix

/-- Cosine of n steps of 1/4096 turn, from the table. -/
def cosTurn (n : Nat) : Int := cosTable.getD (n % 4096) 0

/-- Sine of n steps of 1/4096 turn. -/
def sinTurn (n : Nat) : Int := cosTurn (n + 3072)

/-- R116: the reference phase of a carrier at step k for sample n, as its cosine and sine. -/
def refPhase (k n : Nat) : Cx :=
  let a := 2 * k * (n % 2048)
  { re := (cosTurn a : Rat) / fixOne, im := (sinTurn a : Rat) / fixOne }

/-- R65: the drive of channel c is inverted in frame n: the parity of popcount((2c + 1) & n), n modulo 32. -/
def driveInverted (c : Fin 16) (n : Nat) : Bool :=
  (List.range 5).foldl (fun p i => p != (bitOf (2 * c.val + 1) i && bitOf n i)) false

/-! ### Demodulation (R66, R116, R117) -/

/-- R66: one unit of DATA at a gain code, in volts. -/
def unitOf (gain : Nat) : Rat := 5 / 2 / (2 ^ gain * 32768 : Nat)

/-- R116: coefficient i of the filter: linear phase, so symmetric, and of gain 1 at rest, which scales a steady carrier as the rule
says. -/
def firTap (i : Nat) : Rat :=
  let j := if i < 32 then i else 63 - i
  if j < 31 then Config.tap j else 1 / 2 - ((List.range 31).map Config.tap).sum

/-- R116: the drive sign of a raw sample. -/
def RawWord.sign (w : RawWord) : Rat := if w.pol then -1 else 1

/-- R116: the products of one raw sample with the reference phases of a carrier at step k. -/
def RawWord.mixed (w : RawWord) (k : Nat) : Cx :=
  let p := refPhase k w.n
  let x : Rat := w.sign * (w.data.toInt : Rat) * unitOf w.gain
  { re := x * p.re, im := -x * p.im }

/-- R116: the weighted sum of a span. -/
def filtered (l : List RawWord) (f : RawWord → Cx) : Cx :=
  (l.foldl (fun (a : Nat × Cx) w => (a.1 + 1, a.2.add ((f w).scale (firTap a.1)))) (0, {})).2

/-- R116: z of both carriers over a span. -/
def demod (l : List RawWord) : Cx × Cx :=
  ((filtered l fun w => w.mixed w.kL).scale 2, (filtered l fun w => w.mixed w.kH).scale 2)

/-- R117: w̄s, the filter-weighted mean of the drive sign over a span. -/
def meanSign (l : List RawWord) : Rat := (filtered l fun w => { re := w.sign }).re

/-- R75: the value of the carrier model at a sample, in volts: both carriers' I and Q at the reference phases, with the sign. -/
def carrierModel (zL zH : Cx) (kL kH n : Nat) (inverted : Bool) : Rat :=
  let p := refPhase kL n
  let q := refPhase kH n
  let v := zL.re * p.re - zL.im * p.im + (zH.re * q.re - zH.im * q.im)
  if inverted then -v else v

/-- R68, R75: a value in volts as DATA at a gain code, within the range of the converter. -/
def State.dataOf (s : State) (v : Rat) (gain : Nat) : BitVec 16 × State :=
  let r := s.unstatedRound (v / unitOf gain)
  (BitVec.ofInt 16 (max (-32768) (min 32767 r.1)), r.2)

/-! ### The transform and decibels (R101) -/

/-- R101: the samples of an analysis window under a Hann window, in fixed point. -/
def hannOf (l : List Int) : List Int := l.mapIdx fun i x => x * ((fixOne - cosTurn i) / 2) / 1073741824

/-- R101: the square of the magnitude of bin j of the 4,096-point transform. -/
def binSq (l : List Int) (j : Nat) : Int :=
  let f := l.foldl (fun (a : Nat × Int × Int) x =>
    (a.1 + 1, a.2.1 + x * cosTurn (j * a.1) / 1073741824, a.2.2 - x * sinTurn (j * a.1) / 1073741824)) (0, 0, 0)
  f.2.1 * f.2.1 + f.2.2 * f.2.2

/-- R101: the nine bins whose centres lie in the detection band of step k: mean of their squares. -/
def bandSq (bins : Array Int) (k : Nat) : Rat :=
  ((((List.range 9).map fun i => bins.getD (2 * k + i - 4) 0).sum : Int) : Rat) / 9

/-- R101: a_int² of every step from 24 to 200, in volts squared, from the samples of a window taken at a gain code. -/
def disturbance (win : List Int) (gain : Nat) : List Rat :=
  let h := hannOf win
  let bins := (Array.range 405).map fun j => if j < 44 then 0 else binSq h j
  let q : Rat := Config.binScale * unitOf gain / 1152921504606846976
  (List.range 177).map fun i => q * q * bandSq bins (24 + i)

/-- The greatest r from lo to lo + 2^k − 1 with 10^r at most q, −1 below lo. -/
def logSearch (q : Rat) : Nat → Int → Int
  | 0, lo => lo
  | k + 1, lo => if (10 : Rat) ^ (lo + 2 ^ k) ≤ q then logSearch q k (lo + 2 ^ k) else logSearch q k lo

/-- R101: 20 log10 of a ratio given by its square, in units of 1/n dB, within 16 bits. A ratio of 0 has no logarithm: free
(log entry 4). -/
def State.decibels (s : State) (n : Nat) (sq : Rat) : Int × State :=
  if sq = 0 then
    let d := s.drawFree
    (signedOf 16 d.1, d.2)
  else
    let p := sq ^ (10 * n)
    let r := logSearch p 16 (-32768)
    if (10 : Rat) ^ r = p then (r, s) else s.unstatedRound ((r : Rat) + 1 / 2)

/-- R102, R104: a ratio given by its square lies above a level in dB. -/
def aboveDb (sq : Rat) (level : Int) : Bool := decide ((10 : Rat) ^ level < sq ^ 10)

end Sys2Proof.Machine
end

