-- ==== Sys2Proof/Machine/FrontEnd.lean ====
section
/-! DEFINITION. The wheel channel front end up to the raw sample, its monitors, faults, calibration, settling events and
warnings, the resistive channels, blanking and the monitor outputs (R60 to R95, R98, R109, R110, R121, R124), with their
commands. -/

namespace Sys2Proof.Machine

/-! ### Values of the demodulator against a baseline (R119, R121, R125) -/

/-- Quotient of two complex values. -/
def cdiv (a b : Cx) : Cx := (a.mul b.conj).scale (1 / b.normSq)

/-- R119: the square of e, the normalised deviation of one carrier. -/
def devSq (z b : Cx) : Rat := (z.sub b).normSq / b.normSq

/-- R119: the square of the combined deviation e_c. -/
def combinedSq (zL zH bL bH : Cx) : Rat := (devSq zL bL + devSq zH bH) / 2

/-- A level in 0.1 % is reached by the square of a deviation. -/
def reaches (sq : Rat) (level : Nat) : Bool := decide ((level : Rat) * level / 1000000 ≤ sq)

/-- R88, R121: T of a head, in 0.1 °C: the last valid reading of its sensor. -/
def State.headTemp (s : State) (h : Fin 8) : Option Int :=
  match s.bodyTch h with
  | some n => s.fe.tch[n].last
  | none => none

/-- R121: 1 + κ × (T − 25) of both carriers of a channel. κ of a carrier counts as 0 where compensation is off, no sensor is named,
κ is not learned or no reading has been taken. DESIGN CHOICE: κ is held at the resolution of its entry (log entry 60). -/
def State.tempFactor (s : State) (c : Fin 16) : Cx × Cx :=
  let h := headOf c
  let n := s.nv.chans[c]
  let one : Cx := { re := 1 }
  match s.headTemp h with
  | some t =>
    let dt : Rat := (t : Rat) / 10 - 25
    let f (known : Bool) (k : Int × Int) : Cx :=
      if known && s.tempCompEnable h then { re := 1 + (k.1 : Rat) / 100000 * dt, im := (k.2 : Rat) / 100000 * dt } else one
    (f n.kapLKnown n.kapL, f n.kapHKnown n.kapH)
  | none => (one, one)

/-- R121: the baselines of a channel at the present temperature. -/
def State.baseline (s : State) (c : Fin 16) : Cx × Cx :=
  let d := s.eng.dets[c]
  let f := s.tempFactor c
  (d.b0L.mul f.1, d.b0H.mul f.2)

/-- R118: mean of a list of samples. -/
def meanOf (l : List FastS) : Cx × Cx :=
  let sum := l.foldl (fun (a : Cx × Cx) x => (a.1.add x.zL, a.2.add x.zH)) ({}, {})
  let q : Rat := 1 / (l.length : Rat)
  (sum.1.scale q, sum.2.scale q)

/-- R118: the band stream: the mean of the valid fast samples among the last 64, valid when at least 16 are. -/
def Det.band (d : Det) : Option (Cx × Cx) :=
  let l := d.fast.filterMap id
  if 16 ≤ l.length then some (meanOf l) else none

/-- R125: the square of NoisePeak. -/
def Stats.noiseSq (st : Stats) : Rat := st.peaksSq.foldl max 0

/-- R125: the square of the half-width of the quiet noise band. -/
def Stats.quietSq (st : Stats) : Rat := max (4 * st.noiseSq) (1 / 40000)

/-- R125: a set of samples lies within the quiet noise band of a channel. DESIGN CHOICE: a distance from the mean of the set is
normalised by that mean (log entry 60). -/
def State.quietSet (s : State) (c : Fin 16) (l : List FastS) : Bool :=
  let m := meanOf l
  l.all fun x => decide (combinedSq x.zL x.zH m.1 m.2 ≤ s.eng.stats[c].quietSq)

/-- R124, R138: the present band values of a channel; where no band stream is valid, free values (log entry 10). -/
def State.bandNow (s : State) (c : Fin 16) : (Cx × Cx) × State :=
  match s.eng.dets[c].band with
  | some b => (b, s)
  | none => ((Config.freeCx s.freeCount, Config.freeCx (s.freeCount + 1)), { s with freeCount := s.freeCount + 2 })

/-! ### Running, warnings -/

/-- R369, R372, R374: excitation, converters and engines run. -/
def State.feOn (s : State) : Bool :=
  s.phase == .service && (s.pwr.state == .active || s.pwr.state == .watch) && s.pwr.waking.isNone

/-- The number under which a warning is recorded (log entry 8). -/
def warnCode : WarnKind → Nat
  | .loopRange => 1
  | .currentRange => 2
  | .blankedShare => 3
  | .amplitudeReduced => 4
  | .bodySensor => 5
  | .noCleanCarrier => 6
  | .carrierUnstable => 7
  | .scanOverdue => 8
  | .blankStuck => 9
  | .kappaFit => 10
  | .shallowPeak => 11
  | .noise => 12
  | .residual => 13
  | .drift => 14
  | .proofOverdue => 15
  | .feed => 16

/-- The recorder event of a warning. -/
def warnEvent : WarnKind → BitVec 16
  | .noCleanCarrier => codeNoCleanCarrier
  | .scanOverdue => codeScanOverdue
  | _ => codeChanWarn

/-- A time kept under a kind of warning. -/
def warnAt (k : WarnKind) (l : List (WarnKind × Time)) : Option Time := (l.find? fun p => p.1 == k).map (·.2)

/-- The list with a kind of warning at a new time, or without it. -/
def warnPut (k : WarnKind) (o : Option Time) (l : List (WarnKind × Time)) : List (WarnKind × Time) :=
  let rest := l.filter fun p => p.1 != k
  match o with
  | some t => rest ++ [(k, t)]
  | none => rest

/-- R84, R137: a channel's warning is raised, or its latest cause moves to now. -/
def State.warn (s : State) (c : Fin 16) (k : WarnKind) : State :=
  let new := (warnAt k s.fe.warns[c].raised).isNone
  let s1 := s.onWarn c fun w => { w with raised := warnPut k (some s.clk.now) w.raised }
  s1.when (new && k != .feed) fun s => s.record (warnEvent k) 0 [BitVec.ofNat 8 c.val, BitVec.ofNat 8 (warnCode k)]

/-- R84, R137: the condition of a warning stands, since its first moment, or has gone. -/
def State.warnCond (s : State) (c : Fin 16) (k : WarnKind) (on : Bool) : State :=
  match warnAt k s.fe.warns[c].since, on with
  | some _, true => s
  | none, false => s
  | none, true => s.onWarn c fun w => { w with since := warnPut k (some s.clk.now) w.since }
  | some _, false => s.onWarn c fun w =>
      { w with
        since := warnPut k none w.since
        raised := if (warnAt k w.raised).isSome then warnPut k (some s.clk.now) w.raised else w.raised }

/-- A warning that is raised as soon as its condition stands. -/
def State.warnWhile (s : State) (c : Fin 16) (k : WarnKind) (on : Bool) : State :=
  (s.warnCond c k on).when on fun s => s.warn c k

/-! ### Monitor outputs (R90) -/

/-- R90: the fixed level of an output; none where it shows a magnitude. -/
def State.amonFixed (s : State) (n : Fin 4) : Option Amon :=
  if s.phase == .held || s.phase == .good || s.phase == .removed then some .pulledDown
  else if hc : s.amonChannel n < 16 then
    let c : Fin 16 := ⟨s.amonChannel n, hc⟩
    let ch := s.fe.chans[c]
    if ch.fault.isSome then some .faultLevel
    else if s.phase != .service || !ch.excOn || ch.phase != .inService || ch.mask.isSome || s.eng.dets[c].hold != .free ||
      s.isolated (headOf c)
    then some .noMagnitude
    else none
  else some .off

/-- R90: the outputs follow the conditions; where none applies, the last value is held until the next valid sample. -/
def State.amonRefresh (s : State) : State :=
  let out (n : Fin 4) : Amon :=
    match s.amonFixed n with
    | some a => a
    | none => match s.fe.amon[n] with
      | .level q => .level q
      | _ => .noMagnitude
  { s with fe := { s.fe with amon := Vector.ofFn out } }

/-- R90: the square of min(m, fs) ÷ fs for a measure. -/
def amonShare (measure : Nat) (zL zH : Cx) (refL refH : Rat) : Rat :=
  let m := if measure = 0 then zL.normSq else if measure = 1 then zH.normSq else zL.normSq + zH.normSq
  let f := 4 * (if measure = 0 then refL else if measure = 1 then refH else refL + refH)
  min m f / f

/-- R90: the outputs that show channel c take its magnitude. -/
def State.amonShow (s : State) (c : Fin 16) (zL zH : Cx) : State :=
  let ch := s.fe.chans[c]
  let out (n : Fin 4) : Amon :=
    if s.amonChannel n = c.val ∧ (s.amonFixed n).isNone then
      .level (amonShare (s.amonMeasure n) zL zH ch.aRefSqL ch.aRefSqH)
    else s.fe.amon[n]
  { s with fe := { s.fe with amon := Vector.ofFn out } }

/-! ### Channel faults (R79 to R82) -/

/-- R145: the share of its full height that the profile has x ns after its start. -/
def profileAt (x : Time) : Rat :=
  if x < us 256 then (x : Rat) / us 256
  else if x ≤ us 768 then 1
  else if x < us 1024 then ((us 1024 : Nat) - (x : Rat)) / us 256
  else 0

/-- R145, R148: the share of its full height that the injection has at an instant. -/
def Proof.share (p : Proof) (x : Time) : Rat :=
  match p.injAt with
  | none => 0
  | some b =>
    if x < b then 0
    else match p.fall with
      | some f => if x < f.1 then profileAt (x - b) else f.2 * max 0 (1 - ((x - f.1 : Nat) : Rat) / us 64)
      | none => profileAt (x - b)

/-- R148, R392: a proof test under way aborts, stays due and waits 10 s; its injection falls to zero. -/
def State.abortProof (s : State) (c : Fin 16) : State :=
  if s.eng.proofs[c].running.isSome then
    ((s.onProof c fun p =>
      { p with
        running := none
        due := true
        result := 2
        notBefore := s.clk.now + secs 10
        fall := some (s.clk.now, p.share s.clk.now) }).record codeProofAborted 0 [BitVec.ofNat 8 c.val]).pulse 31
  else s

/-- R80: raw samples from the suspect time on are discarded. -/
def Chan.discardFrom (ch : Chan) (t : Time) : Chan :=
  let n := ch.raws.length
  let mark (i : Nat) (w : RawWord) : RawWord := if t + 500 * (n - 1 - i) ≤ ch.rawAt then { w with invalid := true } else w
  { ch with raws := ch.raws.mapIdx mark }

/-- R82: the monitors of a faulted channel as their latest evaluations stand. -/
def Chan.monitorsIn (ch : Chan) : Bool := !ch.loopOut && !ch.excOut && !ch.cmOut && !ch.boRail

/-- R79 to R81, R173, R247: a channel fault asserts, with the time from its suspect time to now; its cause is written 2 ms later. A
fault that stands stays. -/
def State.chanFault (s : State) (c : Fin 16) (prov : Nat) (back : Time) (detect : Nat := 0) : State :=
  if s.fe.chans[c].fault.isSome then s
  else
    let h := headOf c
    let f : ChanFault := { at_ := s.clk.now, suspect := s.tbNow - back, prov := prov, seen := [prov] }
    let s1 := (s.abortProof (chanX h)).abortProof (chanY h)
    let s2 := s1.onChan c fun ch =>
      { ch.discardFrom (s.clk.now - back) with
        phase := .faulted
        fault := some f
        faultCause := 0
        lastFault := s.tbNow
        suspectFrom := f.suspect
        cal := none
        calStage := 0
        recal := false
        excOn := true
        quietSince := if ch.monitorsIn then some s.clk.now else none }
    let s3 := (s2.onNvChan c fun n => { n with faultCount := n.faultCount + 1 }).onStats c fun st =>
      { st with detectCause := detect, reRefd := false }
    let s4 := [chanX h, chanY h].foldl (fun (s : State) c => s.onScan c fun k => { k with stop := k.stop || k.pause.isSome }) s3
    let s5 := s4.setCumValid h false
    ((((s5.notify (.headFault h)).passageHeadFault h (some f.suspect)).dropForHead h).requalify).amonRefresh

/-- R81: the recorder event of a channel fault. -/
def State.recordFault (s : State) (c : Fin 16) (cause : Nat) : State :=
  s.record codeChanFault 0 (BitVec.ofNat 8 c.val :: BitVec.ofNat 8 cause :: leBytes 8 s.fe.chans[c].suspectFrom)

/-- R81: a monitor reports a cause while a fault stands. -/
def Chan.report (ch : Chan) (cause : Nat) : Chan :=
  { ch with fault := ch.fault.map fun f => { f with seen := if f.seen.contains cause then f.seen else f.seen ++ [cause] } }

/-- R82: after an evaluation of a monitor: a faulted channel is within limits from now, or its return is interrupted. -/
def State.monitorSeen (s : State) (c : Fin 16) : State :=
  s.onChan c fun ch =>
    if ch.fault.isSome then
      (if ch.monitorsIn then { ch with quietSince := some (ch.quietSince.getD s.clk.now) }
      else { ch with quietSince := none, phase := .faulted, recal := false })
    else { ch with quietSince := none }

/-- R374: in a wake the monitors judge the waking channels from 0.6 ms of the wake from LULL, which starts 33.4 ms into one from
HIBERNATE. -/
def State.wakeMonitors (s : State) (c : Fin 16) : Bool :=
  s.phase == .service && s.fe.chans[c].phase == .off && s.eng.dets[c].haveB0 &&
    (match s.pwr.waking with
      | some (from_, t0) => decide (t0 + (if from_ = .hibernate then ms 34 else us 600) ≤ s.clk.now)
      | none => false)

/-- R78, R83: the loop and excitation-current monitors judge a channel: in service, faulted or from
23.2 ms of a calibration (R70), and not in a pause. -/
def State.monitored (s : State) (c : Fin 16) : Bool :=
  let ch := s.fe.chans[c]
  s.wakeMonitors c || s.feOn && s.headEnable (headOf c) &&
    (ch.phase == .inService || ch.phase == .faulted || (ch.phase == .calibrating && ch.calStage == 5)) &&
    s.fe.scans[c].pause.isNone && !s.isolated (headOf c)

/-- R70, R78, R83: the common-mode and burn-out monitors judge a channel: in a pause too. -/
def State.monitoredDc (s : State) (c : Fin 16) : Bool :=
  let ch := s.fe.chans[c]
  s.wakeMonitors c || s.feOn && s.headEnable (headOf c) && (ch.phase == .inService || ch.phase == .paused ||
    ch.phase == .faulted || (ch.phase == .calibrating && ch.calStage == 5)) && !s.isolated (headOf c)

/-- R70, R124, R374, R440: the engine of a channel takes samples without a decision: from 23.2 ms of a calibration, and from 0.6 ms
of a wake or of a return from isolation. -/
def State.samplesOnly (s : State) (c : Fin 16) : Bool :=
  let ch := s.fe.chans[c]
  s.wakeMonitors c || s.feOn && ((ch.phase == .calibrating && ch.calStage == 5) ||
    (ch.phase == .isolated && match s.test.iso with
      | some i => i.stage == 3 && i.head == headOf c && decide (i.startAt + us 600 ≤ s.clk.now)
      | none => false))

/-! ### Settling events (R72, R73, R97, R98, R113) -/

/-- R72: a change takes effect. -/
def Chan.changed (ch : Chan) : ChanChange → Chan
  | .amp a => { ch with amp := a }
  | .gain g => { ch with gain := g }
  | .burn b => { ch with burn := b }
  | .carriers l h _ => { ch with kL := l, kH := h }

/-- R64, R97: the steps of a channel change at an instant. -/
def Chan.stepped (ch : Chan) (t : Time) (l h : Nat) : Chan :=
  if ch.kL = l ∧ ch.kH = h then ch else { ch with kL := l, kH := h, kPast := some (t, ch.kL, ch.kH) }

/-- The steps of a channel at an instant, the latest change known. -/
def Chan.stepsAt (ch : Chan) (x : Time) : Nat × Nat :=
  match ch.kPast with
  | some p => if x < p.1 then p.2 else (ch.kL, ch.kH)
  | none => (ch.kL, ch.kH)

/-- R72: the change moves carriers. -/
def ChanChange.isMove : ChanChange → Bool
  | .carriers _ _ _ => true
  | _ => false

/-- R72: the change is an agreed plan. -/
def ChanChange.isPlan : ChanChange → Bool
  | .carriers _ _ p => p
  | _ => false

/-- R72, R111, R146, R148: a settling mask of 150 µs begins on a channel, or one that runs is extended to that time; the decision is
held, and a proof test of the head aborts. -/
def State.maskFrom (s0 : State) (c : Fin 16) (move : Bool) : State :=
  let s := (s0.abortProof c).abortProof (partnerChan c)
  let end_ := s.clk.now + us 150
  let d := s.eng.dets[c]
  let mag := match d.band with
    | some m => m.1.normSq + m.2.normSq
    | none => let b := s.baseline c; b.1.normSq + b.2.normSq
  let s1 := s.onChan c fun ch =>
    let m : Mask := match ch.mask with
      | some m => { m with until_ := max m.until_ end_, move := m.move || move }
      | none => { start := s.clk.now, until_ := end_, move := move, oldMag := mag }
    { ch with mask := some m, settledAt := m.until_, moveEnd := if m.move then some m.until_ else ch.moveEnd }
  let u := match s1.fe.chans[c].mask with
    | some m => m.until_
    | none => end_
  (s1.onDet c fun d =>
    { d with
      hold := if d.hold == .takeover then .takeover else .settling
      resumeAt := s.toTb u
      fast := if move then [] else d.fast }).amonRefresh

/-- R72, R106, R115: changes of one channel take effect as one settling event. DESIGN CHOICE: MoveCount counts agreed plans when they
take effect, and no written change (log entry 60). -/
def State.applyChanges (s : State) (c : Fin 16) (l : List ChanChange) : State :=
  let s1 := s.onChan c fun ch =>
    let d := l.foldl Chan.changed ch
    { d with kL := ch.kL, kH := ch.kH }.stepped s.clk.now d.kL d.kH
  let s2 := s1.when (l.any ChanChange.isPlan) fun s =>
    s.onNvChan c fun n =>
      { n with
        moveCount := n.moveCount + 1
        moves := (n.moves.filter fun t => decide (s.clk.now < t + secs 3600)) ++ [s.clk.now] }
  s2.maskFrom c (l.any ChanChange.isMove)

/-- R73, R111: a channel of a head neither masked nor paused, so that no decision of it is held by either. -/
def State.steadyChan (s : State) (c : Fin 16) : Bool := s.fe.chans[c].mask.isNone && s.fe.scans[c].pause.isNone

/-- R62, R66, R67: a channel is driven or about to be: it is neither off, nor isolated, nor before the ramp of a calibration. -/
def Chan.driven (ch : Chan) : Bool :=
  ch.phase != .off && ch.phase != .isolated && (ch.phase != .calibrating || ch.excOn)

/-- R64, R72, R73, R111, R113: a change commanded on a channel: at once where nothing defers it; a carrier change, and any change
while the channel itself is masked or paused, at a frame boundary; else after the partner's mask or pause. A plan for the channel is
discarded. A channel that is not driven takes a change without a settling event. -/
def State.commandChange (s : State) (c : Fin 16) (x : ChanChange) : State :=
  let s1 := s.onChan c fun ch => { ch with plan := none }
  if !s.fe.chans[c].driven then s1.onChan c fun ch => ch.changed x
  else
    let later := x.isMove || !s.steadyChan c
    if later || !s.steadyChan (partnerChan c) then
      s1.onChan c fun ch => { ch with deferred := ch.deferred ++ [(x, later)] }
    else s1.applyChanges c [x]

/-! ### Calibration (R70, R71, R82, R98, R124) -/

/-- R97: steps within the windows around the start values. -/
def State.stepsOk (s : State) (c : Fin 16) (l h : Nat) : Bool :=
  let sl := s.carrierLowK c
  let sh := s.carrierHighK c
  decide (l + 16 ≤ h) && decide (max 24 (sl - s.moveSpanLow) ≤ l ∧ l ≤ min 184 (sl + s.moveSpanLow)) &&
    decide (max 40 (sh - s.moveSpanHigh) ≤ h ∧ h ≤ min 200 (sh + s.moveSpanHigh))

/-- R98: the steps a channel calibrates on. -/
def State.startSteps (s : State) (c : Fin 16) : Nat × Nat :=
  match s.adaptEnable, s.nv.chans[c].learnedLow, s.nv.chans[c].learnedHigh with
  | true, some l, some h => if s.stepsOk c l h then (l, h) else (s.carrierLowK c, s.carrierHighK c)
  | _, _, _ => (s.carrierLowK c, s.carrierHighK c)

/-- R64, R70: the calibration of a channel starts, with what its steps will measure: the drive is off until its ramp, so its steps
change at once. The fault of a channel that returns stays latched through it. -/
def State.startCal (s : State) (c : Fin 16) (r : CalReport) : State :=
  let k := s.startSteps c
  (s.onChan c fun ch =>
    { ch.stepped s.clk.now k.1 k.2 with
      phase := .calibrating
      calAt := s.clk.now
      cal := some r
      calStage := 1
      again := false
      excOn := false
      amp := s.excAmplitude c
      burn := s.burnOut c
      raws := []
      invalidRun := 0
      mask := none
      moveEnd := none
      deferred := []
      plan := none
      recal := ch.fault.isSome
      loopLow := 0
      excBad := 0
      cmBad := 0 }).amonRefresh

/-- R71: the amplitude code taken, and whether it was reduced; none where calibration fails. -/
def ampChoice (r : CalReport) (a : Nat) (overridden : Bool) : Option (Nat × Bool) :=
  if r.limiterActs.getD a false then
    (if overridden then none
    else some ((((List.range a).reverse.find? fun b => decide (r.peakCurrent.getD b 0 ≤ 32)).getD 0), true))
  else some (a, false)

/-- R71: the gain code by the search: the highest with at most 50 % of the range. -/
def gainSearch (r : CalReport) : Nat :=
  ((List.range 8).reverse.find? fun g => decide (r.senseShare.getD g 0 ≤ 1 / 2)).getD 0

/-- R71: the levels at which calibration fails. -/
def gainFails (r : CalReport) (g : Nat) : Bool :=
  decide (4 / 5 < r.senseShare.getD 0 0) || decide (r.senseShare.getD g 0 < 1 / 50)

/-- R82: the gain search of a returning channel is repeated. -/
def searchAgain (stored now : Rat) : Bool := decide (3 / 2 * stored < now ∨ 3 / 2 * now < stored ∨ stored = 0)

/-- R124: an engine takes over a presence that stands at the end of calibration, wake or isolation: confirmed, class 0. -/
def State.carryPresence (s : State) (c : Fin 16) : State :=
  let t := s.tbNow
  let ev (e : Edge) : PresenceEvent := { ch := c, edge := e, stamp := t }
  let s1 := s.onDet c fun d =>
    { d with present := true, confirmed := true, onset := t, lastOnset := some t, noClass := true }
  { s1 with eng := { s1.eng with out := s1.eng.out ++ [ev .onset, ev .confirm] } }

/-- R111, R124: the baseline check of a channel against stored baselines, with what it takes: baselines and presence. A channel
without stored baselines takes the band value, which becomes the reference too. Its decision is held where a mask runs. -/
def State.baselineCheck (s0 : State) (c : Fin 16) (stored : Option (Cx × Cx)) : State :=
  let r := s0.bandNow c
  let s := r.2
  let mL := r.1.1
  let mH := r.1.2
  let f := s.tempFactor c
  let d := s.eng.dets[c]
  let fresh : Det :=
    { nL := d.nL, nH := d.nH, haveB0 := true, hold := if s.fe.chans[c].mask.isSome then .settling else .free
      resumeAt := match s.fe.chans[c].mask with
        | some m => s.toTb m.until_
        | none => 0 }
  let take (s : State) : State :=
    s.onDet c fun _ => { fresh with b0L := cdiv mL f.1, b0H := cdiv mH f.2 }
  match stored with
  | none => (take s).onNvChan c fun n => { n with ref := some (cdiv mL f.1, cdiv mH f.2) }
  | some b =>
    if reaches (combinedSq mL mH (b.1.mul f.1) (b.2.mul f.2)) (s.onsetLevel (headOf c)) then
      (s.onDet c fun _ => { fresh with b0L := b.1, b0H := b.2 }).carryPresence c
    else take s

/-- R102, R146: a channel enters service: its proof test and its scan are due. -/
def State.enterService (s : State) (c : Fin 16) : State :=
  let s1 := s.onProof c fun p =>
    { p with
      due := true
      dueAt := s.clk.now
      doneAt := none
      running := none
      failed := false
      notBefore := 0
      serviceAt := s.clk.now
      injAt := none }
  let s2 := s1.onStats c fun st =>
    { meansT := st.meansT, kappaAt := st.kappaAt, blockAt := s.clk.now, driftAt := s.clk.now,
      dMagL := st.dMagL, dPhL := st.dPhL, dMagH := st.dMagH, dPhH := st.dPhH }
  s2.onScan c fun k =>
    { k with
      due := true
      dueAt := if k.due then k.dueAt else s.clk.now
      pause := none
      stop := false
      resumed := false
      reports := 0 }

/-- R173: the passage unit takes events of a head again once both its channels have returned and an engine serves it. -/
def State.headReturns (s : State) (h : Fin 8) : State :=
  if !s.faultLine h && s.eng.assigned[h].isSome && !s.isolated h then
    { s with pas := { s.pas with discard := updV s.pas.discard h fun _ => false } }
  else s

/-- R71, R80, R82: calibration of a channel fails. The cause of a fault that stands does not change; its drive stays on. -/
def State.calFails (s : State) (c : Fin 16) (cause : Nat) : State :=
  if s.fe.chans[c].fault.isSome then
    s.onChan c fun ch =>
      { ch with phase := .faulted, recal := false, cal := none, calStage := 0, excOn := true, quietSince := some s.clk.now }
  else s.chanFault c cause 0

/-- R70: the time from its start at which a calibration leaves a stage: self-check, ramp (odd channels 0.6 ms after even ones), gain
search, averages. -/
def calTime (c : Fin 16) (stage : Nat) : Time :=
  if stage ≤ 1 then ms 4 else if stage = 2 then us (if c.val % 2 = 0 then 4000 else 4600) else if stage = 3 then us 21200 else us 23200

/-- R64, R70, R71: the ramp: the amplitude, lowered where the limiter acts. -/
def State.calRamp (s : State) (c : Fin 16) (r : CalReport) : State :=
  match ampChoice r (s.excAmplitude c) (s.excOverridden c) with
  | none => s.calFails c 9
  | some (a, reduced) =>
    (s.onChan c fun ch => { ch with excOn := true, amp := a, calStage := 3 }).warnWhile c .amplitudeReduced reduced

/-- R71, R82: the end of the gain search: the gain found, or the one written; on a return the stored gain, unless A_cal has moved. -/
def State.calGain (s : State) (c : Fin 16) (r : CalReport) : State :=
  let n := s.nv.chans[c]
  let return_ := s.fe.chans[c].fault.isSome
  let again := return_ && searchAgain n.aCal r.aCal
  let g := if s.senseGain c != 255 then s.senseGain c else if return_ && !again then n.gain else gainSearch r
  if gainFails r g then s.calFails c 9
  else s.onChan c fun ch => { ch with gain := g, again := again, calStage := 4 }

/-- R70, R101: I_cal, A_cal and the per-carrier amplitudes are taken; the monitors become active and the engine takes samples. -/
def State.calAverages (s : State) (c : Fin 16) (r : CalReport) : State :=
  (s.onChan c fun ch =>
    { ch with
      aCal := r.aCal
      iCal := r.iCal
      aRefSqL := r.aRefLow * r.aRefLow
      aRefSqH := r.aRefHigh * r.aRefHigh
      loopAmp := r.aCal
      excCur := r.iCal
      calStage := 5 }).onDet c fun d => { d with fast := [], hist := [] }

/-- R70, R71: one stage of a calibration, once its time has come. -/
def State.calStep (s : State) (c : Fin 16) : State :=
  let ch := s.fe.chans[c]
  match ch.cal with
  | some r =>
    if ch.phase != .calibrating || decide (s.clk.now < ch.calAt + calTime c ch.calStage) then s
    else match ch.calStage with
      | 1 => if r.selfCheck then s.onChan c fun ch => { ch with calStage := 2 } else s.calFails c 10
      | 2 => s.calRamp c r
      | 3 => s.calGain c r
      | 4 => s.calAverages c r
      | _ => s
  | none => s

/-- R70, R71: every stage of a calibration whose time has come. -/
def State.calRun (s : State) (c : Fin 16) : State := (((s.calStep c).calStep c).calStep c).calStep c

/-- R71, R80, R82, R98, R124: calibration of a channel ends in service. The invalid run of the latch ends with it. -/
def State.calEnds (s : State) (c : Fin 16) : State :=
  let n := s.nv.chans[c]
  let ch := s.fe.chans[c]
  let again := ch.again
  let stored := if again then none else n.b0
  let s1 := s.onNvChan c fun n =>
    { n with
      aCal := ch.aCal
      gain := ch.gain
      learnedLow := some ch.kL
      learnedHigh := some ch.kH
      b0 := stored
      ref := if again then none else n.ref
      kapL := if again then (0, 0) else n.kapL
      kapH := if again then (0, 0) else n.kapH
      kapLKnown := !again && n.kapLKnown
      kapHKnown := !again && n.kapHKnown }
  let s2 := s1.onChan c fun ch =>
    { ch with
      phase := .inService
      cal := none
      calStage := 0
      fault := none
      faultCause := 0
      recal := false
      invalidRun := 0
      lossAt := none
      excOpenAt := none
      quietSince := none
      loopOut := false
      excOut := false }
  let s3 := (s2.enterService c).baselineCheck c stored
  ((s3.headReturns (headOf c)).requalify).amonRefresh

/-- R82: the other system of the head goes first: it is system X, and it returns too, from no later a calibration. -/
def State.afterX (s : State) (c : Fin 16) : Bool :=
  let ch := s.fe.chans[c]
  let x := s.fe.chans[chanX (headOf c)]
  c.val % 2 == 1 && ch.recal && x.recal && x.phase == .calibrating && decide (x.calAt ≤ ch.calAt)

/-! ### Commands: monitors and faults -/

/-- R107: evaluations of a move's mask, of which those of the 72 µs before its end count. -/
def evalsPut (now until_ : Time) (x : Rat) (l : List (Time × Rat)) : List (Time × Rat) :=
  if until_ < now + us 72 then l ++ [(now, x)] else l

/-- LOOP_MONITOR_EVAL (R78, R83, R84, R107). An evaluation with fewer than 8 unblanked samples is skipped. -/
def execLoopMonitorEval (t : Time) (c : Fin 16) (amp : Rat) (unblanked : Nat) (s : State) :
    Host.Outcome State Fault Refusal :=
  let s := (s.at t).calRun c
  let ch := s.fe.chans[c]
  if s.monitored c && decide (8 ≤ unblanked) then
    let out := decide (amp < (s.loopFloor c : Rat) / 100 * ch.aCal)
    let low := if out then ch.loopLow + 1 else 0
    let s1 := s.onChan c fun ch =>
      { ch with
        loopAmp := amp
        loopLow := low
        loopOut := out
        mask := ch.mask.map fun m => { m with loops := evalsPut s.clk.now m.until_ amp m.loops } }
    let s2 := s1.when (low == 2) fun s => s.onChan c fun ch => { ch.report 2 with lossAt := some s.clk.now }
    let s3 := s2.when (decide (2 ≤ low)) fun s => s.chanFault c 2 (us 16)
    let wide := decide (amp < ch.aCal / 2 ∨ 2 * ch.aCal < amp) && ch.phase == .inService && s.quiet (headOf c)
    done ((s3.monitorSeen c).warnCond c .loopRange wide)
  else done s

/-- EXC_CURRENT_EVAL (R63, R78, R83, R84, R107). -/
def execExcCurrentEval (t : Time) (c : Fin 16) (cur : Rat) (limiter : Bool) (s : State) :
    Host.Outcome State Fault Refusal :=
  let s := (s.at t).calRun c
  let ch := s.fe.chans[c]
  if s.monitored c then
    let low := decide (cur < (s.excCurrentMin c : Rat) / 100 * ch.iCal)
    let high := limiter || decide ((s.excCurrentMax c : Rat) / 100 * ch.iCal < cur)
    let bad := if low || high then ch.excBad + 1 else 0
    let cause := if high then 5 else 4
    let s1 := s.onChan c fun ch =>
      { ch with
        excCur := cur
        excBad := bad
        excOut := low || high
        mask := ch.mask.map fun m => { m with curs := evalsPut s.clk.now m.until_ cur m.curs } }
    let s2 := s1.when (bad == 4) fun s => s.onChan c fun ch =>
      { ch.report cause with excOpenAt := if high then ch.excOpenAt else some s.clk.now }
    let s3 := s2.when (decide (4 ≤ bad)) fun s => s.chanFault c cause (us 50)
    let wide := decide (cur < 3 / 4 * ch.iCal ∨ 133 / 100 * ch.iCal < cur) && ch.phase == .inService
    done ((s3.monitorSeen c).warnCond c .currentRange wide)
  else done s

/-- COMMON_MODE_EVAL (R78). -/
def execCommonModeEval (t : Time) (c : Fin 16) (volts vafe : Rat) (s : State) : Host.Outcome State Fault Refusal :=
  let s := (s.at t).calRun c
  let ch := s.fe.chans[c]
  if s.monitoredDc c then
    let out := decide (volts < 1 / 2 ∨ vafe - 1 / 2 < volts)
    let bad := if out then ch.cmBad + 1 else 0
    let s1 := s.onChan c fun ch => { ch with cmBad := bad, cmOut := out }
    let s2 := s1.when (bad == 4) fun s => s.onChan c fun ch => ch.report 3
    done ((s2.when (decide (4 ≤ bad)) fun s => s.chanFault c 3 (us 16)).monitorSeen c)
  else done s

/-- BURNOUT_EVAL (R78, R80, R81): beyond 50 % is the fault; what it says of the cause counts only with a burn-out code other
than 0. -/
def execBurnoutEval (t : Time) (c : Fin 16) (share : Rat) (s : State) : Host.Outcome State Fault Refusal :=
  let s := (s.at t).calRun c
  let ch := s.fe.chans[c]
  if s.monitoredDc c then
    let rail := decide (1 / 2 < share)
    let open_ := rail && ch.burn != 0
    let s1 := s.onChan c fun ch => if open_ then { ch.report 1 with boRail := rail } else { ch with boRail := rail }
    let back := match s.fe.scans[c].pause with
      | some p => s.clk.now - p
      | none => us 64
    let late := match ch.fault with
      | some f => f.final && ch.faultCause == 2 && open_
      | none => false
    let s2 := s1.when rail fun s => s.chanFault c 1 back
    let s3 := s2.when late fun s => (s.onChan c fun ch => { ch with faultCause := 1 }).recordFault c 1
    done (s3.monitorSeen c)
  else done s

/-- R81: both channels of a head have lost signal and excitation current within 1 ms. -/
def headAbsent (x y : Chan) : Bool :=
  match x.lossAt, x.excOpenAt, y.lossAt, y.excOpenAt with
  | some a, some b, some c, some d => decide (max (max a b) (max c d) ≤ min (min a b) (min c d) + ms 1)
  | _, _, _, _ => false

/-- R81: the final cause from the provisional cause and what the other monitors have reported. -/
def finalCause (f : ChanFault) (ch partner : Chan) : Nat :=
  if (f.prov == 1 || f.prov == 2 || f.prov == 4) && headAbsent ch partner then 6
  else if f.prov = 2 then
    (if f.seen.contains 3 then 3
    else if f.seen.contains 5 then 5
    else if f.seen.contains 4 then 4
    else if ch.boRail && ch.burn != 0 then 1
    else 2)
  else f.prov

/-- FAULT_CAUSE_FINAL (R81): 2 ms after the fault. Before then only the clock moves. -/
def execFaultCauseFinal (t : Time) (c : Fin 16) (s : State) : Host.Outcome State Fault Refusal :=
  let s := s.at t
  let ch := s.fe.chans[c]
  done (match ch.fault with
    | some f =>
      if !f.final && decide (f.at_ + ms 2 ≤ s.clk.now) then
        let cause := finalCause f ch s.fe.chans[partnerChan c]
        (s.onChan c fun ch => { ch with fault := some { f with final := true }, faultCause := cause }).recordFault c cause
      else s
    | none => s)

/-- R81, R82, R136: a faulted channel of an enabled head may recalibrate. -/
def State.mayReturn (s : State) (c : Fin 16) : Bool :=
  let ch := s.fe.chans[c]
  let st := s.eng.stats[c]
  s.feOn && s.headEnable (headOf c) && decide (s.fe.refsLost < 2) && ch.phase == .faulted && ch.fault.isSome &&
    !s.isolated (headOf c) &&
    (st.detectCause != 3 || st.reRefd) &&
    (match ch.quietSince with
      | some q => decide (q + ms (s.reconnectQuiet c) ≤ s.clk.now)
      | none => false)

/-- RECONNECT_QUIET_EXPIRY (R82): a faulted channel whose monitors have been within limits for ReconnectQuiet recalibrates, system X
before system Y. Before then only the clock moves. -/
def execReconnectQuietExpiry (t : Time) (c : Fin 16) (r : CalReport) (s : State) : Host.Outcome State Fault Refusal :=
  let s := s.at t
  done (s.when (s.mayReturn c && (c.val % 2 == 0 || !s.mayReturn (chanX (headOf c)))) fun s => s.startCal c r)

/-! ### Commands: calibration -/

/-- CALIBRATION_START (R70): a channel of an enabled head that is off starts its calibration; `r`: what its steps will measure. -/
def execCalibrationStart (t : Time) (c : Fin 16) (r : CalReport) (s : State) : Host.Outcome State Fault Refusal :=
  let s := s.at t
  let ch := s.fe.chans[c]
  done (s.when (s.feOn && s.headEnable (headOf c) && ch.phase == .off && decide (s.fe.refsLost < 2)) fun s => s.startCal c r)

/-- CALIBRATION_DONE (R70, R71, R82, R124): 150 ms after its start a calibration that has not failed ends with the baseline check.
Before then only the clock and the stages passed move. -/
def execCalibrationDone (t : Time) (c : Fin 16) (s : State) : Host.Outcome State Fault Refusal :=
  let s := (s.at t).calRun c
  let ch := s.fe.chans[c]
  done (s.when (s.feOn && ch.phase == .calibrating && ch.calStage == 5 && decide (ch.calAt + ms 150 ≤ s.clk.now) && !s.afterX c)
    fun s => s.calEnds c)

/-! ### Commands: warnings -/

/-- CHANNEL_WARNING (R84): a condition that has stood for 1 s raises the warning. Before then only the clock moves. -/
def execChannelWarning (t : Time) (c : Fin 16) (kind : WarnKind) (s : State) : Host.Outcome State Fault Refusal :=
  let s := s.at t
  done (match warnAt kind s.fe.warns[c].since with
    | some q => s.when (decide (q + secs 1 ≤ s.clk.now) || kind == .blankedShare) fun s => s.warn c kind
    | none => s)

/-- WARNING_HOLD_EXPIRY (R137): a warning ends once its condition has been absent, or 60 s have passed since its latest cause.
Before then only the clock moves. -/
def execWarningHoldExpiry (t : Time) (c : Fin 16) (kind : WarnKind) (s : State) : Host.Outcome State Fault Refusal :=
  let s := s.at t
  done (match warnAt kind s.fe.warns[c].raised, warnAt kind s.fe.warns[c].since with
    | some q, none => s.when (decide (q + secs 60 ≤ s.clk.now)) fun s =>
        s.onWarn c fun w => { w with raised := warnPut kind none w.raised }
    | _, _ => s)

/-! ### Resistive channels (R87 to R89) -/

/-- IEC 60751: the resistance of a PT1000 at n tenths of a degree, in ohms. -/
def ptOhms (n : Int) : Rat :=
  let t : Rat := (n : Rat) / 10
  let a : Rat := 39083 / 10000000
  let b : Rat := -5775 / 10000000000
  let c : Rat := -4183 / 1000000000000000
  1000 * (1 + a * t + b * t * t + if n < 0 then c * (t - 100) * t * t * t else 0)

/-- The greatest tenth of a degree from lo to lo + 2^k − 1 whose resistance is at most r. -/
def ptSearch (r : Rat) : Nat → Int → Int
  | 0, lo => lo
  | k + 1, lo => if ptOhms (lo + 2 ^ k) ≤ r then ptSearch r k (lo + 2 ^ k) else ptSearch r k lo

/-- R87, R95: a resistance as a temperature in 0.1 °C, within the range of the entry. -/
def State.ptTemp (s : State) (ohms : Rat) : Int × State :=
  let lo := ptSearch ohms 12 (-1000)
  let r : Int × State := if ptOhms lo = ohms then (lo, s) else s.unstatedRound ((lo : Rat) + 1 / 2)
  (max (-500) (min 2500 r.1), r.2)

/-- R84, R88: the body-sensor warning of one head follows the fault of its sensor. -/
def State.bodyWarning (s : State) (h : Fin 8) : State :=
  let on := s.headEnable h && match s.bodyTch h with
    | some n => s.fe.tch[n].faulted
    | none => false
  (s.warnWhile (chanX h) .bodySensor on).warnWhile (chanY h) .bodySensor on

/-- R84, R88: the body-sensor warnings of the heads that a resistive channel measures. -/
def State.bodyWarnings (s : State) (n : Fin 8) : State :=
  State.each s (heads.filter fun (h : Fin 8) => s.bodyTch h == some n) fun s (h : Fin 8) => s.bodyWarning h

/-- R86: the resistance from the two phases of a reading and the reference voltage. DESIGN CHOICE for four-wire: one current whose
direction the second phase reverses (log entry 14). -/
def tchOhms (fourWire : Bool) (m1 m2 vref : Rat) : Rat :=
  if fourWire then 2000 * (m1 - m2) / (2 * vref) else 2000 * (m1 + m2) / vref

/-- R89: a temperature of the cabinet goes to the recorder. DESIGN CHOICE: where it differs from the reading before (log entry 61). -/
def State.cabinetReading (s : State) (c : Fin 8) (before : Option Int) : State :=
  match s.fe.tch[c].temp with
  | some x => s.when (s.tchRole c == 0x20 && before != some x) fun s =>
      s.record codeTemperature 0 (BitVec.ofNat 8 c.val :: leBytes 2 (wrapOf 16 x))
  | none => s

/-- TCH_READING (R86 to R89): a reading of a resistive channel in use completes. Before its interval has passed, and in
HIBERNATE, only the clock moves. -/
def execTchReading (t : Time) (c : Fin 8) (m1 m2 vref : Rat) (s : State) : Host.Outcome State Fault Refusal :=
  let s := s.at t
  let k := s.fe.tch[c]
  let ohms := tchOhms (bitOf s.tchFourWire c.val) m1 m2 vref
  let interval := if s.feOn then ms 100 else secs 10
  let reads := s.phase == .service && s.pwr.state != .hibernate && s.tchRole c != 0 && decide (k.lastAt + interval ≤ s.clk.now)
  if reads then
    let ok := decide (700 ≤ ohms ∧ ohms ≤ 2100)
    if ok then
      let good := k.goodRun + 1
      let back := k.faulted && decide (2 ≤ good)
      if k.faulted && !back then
        done (s.onTch c fun k => { k with lastAt := s.clk.now, goodRun := good, badRun := 0 })
      else
        let r := s.ptTemp ohms
        let s1 := r.2.onTch c fun k =>
          { k with
            temp := some r.1
            last := some r.1
            lastAt := s.clk.now
            goodAt := s.clk.now
            goodRun := good
            badRun := 0
            faulted := false }
        done ((s1.when back fun s => s.bodyWarnings c).cabinetReading c k.temp)
    else
      let bad := k.badRun + 1
      let s1 := s.onTch c fun k => { k with lastAt := s.clk.now, badRun := bad, goodRun := 0 }
      done (s1.when (bad == 2) fun s => (s.onTch c fun k => { k with temp := none, faulted := true }).bodyWarnings c)
  else done s

/-! ### Blanking (R74, R109, R110) -/

/-- R74: the instant lies within an applied window of a source, or within the guard of one. -/
def Blank.covers (b : Blank) (guard_ : Time) (x : Time) : Bool :=
  !b.stuck && ((b.active && decide (b.since ≤ x + guard_)) ||
    b.windows.any fun w => decide (w.1 ≤ x + guard_ ∧ x ≤ w.2 + guard_))

/-- R74: a raw sample of a channel taken at an instant is blanked. -/
def State.blankedAt (s : State) (c : Fin 16) (x : Time) : Bool :=
  (List.finRange 6).any fun b => bitOf (s.blankMask c) b.val && s.fe.blank[b].covers (50 * s.blankGuard c) x

/-- R109, R110: a source enters or leaves its window. Windows older than any span still to come are dropped. -/
def State.blankWindow (s : State) (src : Fin 6) (active : Bool) : State :=
  let now := s.clk.now
  s.onBlank src fun b =>
    if active == b.active then b
    else if active then { b with active := true, since := now }
    else { b with
      active := false
      windows := (b.windows.filter fun w => decide (now ≤ w.2 + us 20)) ++ [(b.since, now)]
      shortRun := if b.stuck then (if now - b.since ≤ us 4 then b.shortRun + 1 else 0) else 0 }

/-- R109: a source is in its window at its present level: pins at their active level. -/
def State.blankActive (s : State) (src : Fin 6) (level : Bool) : Bool :=
  if src = 4 then level != bitOf s.blankPinInvert 0 else if src = 5 then level != bitOf s.blankPinInvert 1 else level

/-- R109: a source is in its window or not, by its present level. -/
def State.blankJudge (s : State) (src : Fin 6) : State := s.blankWindow src (s.blankActive src s.fe.blank[src].level)

/-- BLANKING_WINDOW_EDGE (R74, R109): the signal of a stage, or the level of a pin, changes. -/
def execBlankingWindowEdge (t : Time) (src : Fin 6) (level : Bool) (s : State) : Host.Outcome State Fault Refusal :=
  let s := s.at t
  let s1 := s.onBlank src fun b => { b with level := level }
  done (s1.when (s.phase == .service) fun s => s.blankJudge src)

/-- The channels whose BlankMask selects a source. -/
def State.selecting (s : State) (src : Fin 6) : List (Fin 16) :=
  (List.finRange 16).filter fun c => bitOf (s.blankMask c) src.val

/-- BLANK_STUCK (R110): a source in its window for more than 50 µs. Before then only the clock moves. -/
def execBlankStuck (t : Time) (src : Fin 6) (s : State) : Host.Outcome State Fault Refusal :=
  let s := s.at t
  let b := s.fe.blank[src]
  done (s.when (s.phase == .service && b.active && !b.stuck && decide (b.since + us 50 < s.clk.now)) fun s =>
    (State.each (s.onBlank src fun b => { b with stuck := true, shortRun := 0 }) (s.selecting src) fun s c =>
      s.warnWhile c .blankStuck true).record codeBlankStuck 0 [BitVec.ofNat 8 src.val])

/-- BLANK_SOURCE_RESTORE (R110): after 1,000 consecutive windows of 4 µs or less. Before then only the clock moves. -/
def execBlankSourceRestore (t : Time) (src : Fin 6) (s : State) : Host.Outcome State Fault Refusal :=
  let s := s.at t
  let b := s.fe.blank[src]
  done (s.when (b.stuck && decide (1000 ≤ b.shortRun)) fun s =>
    let s1 := s.onBlank src fun b => { b with stuck := false, shortRun := 0 }
    State.each s1 (s1.selecting src) fun s c =>
      s.warnCond c .blankStuck ((List.finRange 6).any fun b => bitOf (s.blankMask c) b.val && s.fe.blank[b].stuck))

/-! ### Masks and references -/

/-- R107: a new baseline after a carrier move, from the six samples that end at the end of the mask; none where it is not
accepted. -/
def State.moveBaseline (s : State) (c : Fin 16) (m : Mask) : Option (Cx × Cx) :=
  let l := (s.eng.dets[c].fast.drop (s.eng.dets[c].fast.length - 6)).filterMap id
  let b := meanOf l
  let mag := b.1.normSq + b.2.normSq
  if l.length = 6 && s.quietSet c l && decide (9 / 25 * m.oldMag ≤ mag ∧ mag ≤ 289 / 100 * m.oldMag) then some b else none

/-- R107: the mean of the evaluations of a monitor over the last 72 µs of a move's mask; its latest evaluation where it made none. -/
def meanOver (m : Mask) (l : List (Time × Rat)) (latest : Rat) : Rat :=
  let w := (l.filter fun p => decide (m.until_ < p.1 + us 72)).map Prod.snd
  if w.isEmpty then latest else w.sum / (w.length : Rat)

/-- R107: a carrier move is accepted, or faults the channel. -/
def State.moveEnds (s : State) (c : Fin 16) (m : Mask) : State :=
  match s.moveBaseline c m with
  | none => s.chanFault c 9 0 4
  | some b =>
    let f := s.tempFactor c
    let ch := s.fe.chans[c]
    let a := meanOver m m.loops ch.loopAmp
    let s1 := s.onDet c fun d => { d with b0L := cdiv b.1 f.1, b0H := cdiv b.2 f.2 }
    let s2 := s1.onChan c fun ch =>
      { ch with aCal := a, iCal := meanOver m m.curs ch.excCur, aRefSqL := b.1.normSq, aRefSqH := b.2.normSq }
    (s2.onNvChan c fun n => { n with aCal := a, learnedLow := some ch.kL, learnedHigh := some ch.kH }).record
      codeCarrierMove 0 [BitVec.ofNat 8 c.val, BitVec.ofNat 8 ch.kL, BitVec.ofNat 8 ch.kH]

/-- R73: changes of a channel that waited for its partner's mask or pause alone apply, the head being steady again. -/
def State.releaseDeferred (s : State) (c : Fin 16) : State :=
  let l := (s.fe.chans[c].deferred.filter fun x => !x.2).map Prod.fst
  if !l.isEmpty && s.steadyChan c && s.steadyChan (partnerChan c) && s.fe.chans[c].driven then
    (s.onChan c fun ch => { ch with deferred := ch.deferred.filter Prod.snd }).applyChanges c l
  else s

/-- SETTLING_MASK_END (R72, R73, R107): a mask that has run ends. Before then only the clock moves. -/
def execSettlingMaskEnd (t : Time) (c : Fin 16) (s : State) : Host.Outcome State Fault Refusal :=
  let s := (s.at t).calRun c
  done (match s.fe.chans[c].mask with
    | some m =>
      if m.until_ ≤ s.clk.now then
        let s1 := s.onChan c fun ch => { ch with mask := none }
        let s2 := s1.when (m.move && s.fe.chans[c].phase == .inService) fun s => s.moveEnds c m
        (s2.releaseDeferred (partnerChan c)).amonRefresh
      else s
    | none => s)

/-- REFERENCE_SWITCHOVER (R57, R72, R103, R113): one reference is lost: every channel is masked at once and every pause ends
at the next frame boundary. -/
def execReferenceSwitchover (t : Time) (s : State) : Host.Outcome State Fault Refusal :=
  let s := s.at t
  done (s.when (s.phase == .service && s.fe.refsLost == 0) fun s =>
    let s1 := { s with fe := { s.fe with refsLost := 1 } }
    let s2 := State.eachFin s1 16 fun s c =>
      if s.fe.chans[c].phase == .off then s
      else (s.maskFrom c false).onScan c fun k => { k with stop := k.stop || k.pause.isSome }
    s2.record (codeFaultRow 6) 0 [])

/-- BOTH_REFERENCES_LOST (R59, R432): every channel's fault line asserts, cause 2. -/
def execBothReferencesLost (t : Time) (s : State) : Host.Outcome State Fault Refusal :=
  let s := s.at t
  done (s.when (s.phase == .service && decide (s.fe.refsLost < 2)) fun s =>
    let s1 := { s with fe := { s.fe with refsLost := 2 } }
    (State.eachFin s1 16 fun s c => s.chanFault c 2 500).record (codeFaultRow 7) 0 [])

end Sys2Proof.Machine
end

