-- ==== Sys2Proof/Machine/Scanner.lean ====
section
/-! DEFINITION. Frame boundaries, the drive polarity, the interference scanner and carrier moves (R64, R65, R96 to R108, R113,
R117), with their commands. -/

namespace Sys2Proof.Machine

/-- R99, R103, R106: the horizon of a head, as every serving supervisor holds it, is at least MoveHorizonMin. -/
def State.horizonOk (s : State) (h : Fin 8) : Bool :=
  !s.serving.isEmpty && s.serving.all fun v => match s.sv[v].horizon[h] with
    | some t => decide (s.tbNow + ms s.moveHorizonMin ≤ t)
    | none => true

/-- R102: the time spent in ACTIVE and WATCH. -/
def State.awakeNs (s : State) : Nat := s.nv.stateNs[0] + s.nv.stateNs[1]

/-- R102: a scan of a channel becomes due; one that is due stays so from its first moment. -/
def State.scanDue (s : State) (c : Fin 16) : State :=
  s.onScan c fun k => if k.due then k else { k with due := true, dueAt := s.clk.now }

/-- R99: what must hold at a frame boundary for a pause on a channel; R113: an agreed plan goes first. -/
def State.mayPause (s : State) (c : Fin 16) : Bool :=
  let h := headOf c
  let k := s.fe.scans[c]
  s.feOn && s.scanEnable && k.due && !k.resumed && s.fe.chans[c].phase == .inService && s.fe.chans[c].plan.isNone &&
    s.steadyChan c && s.steadyChan (partnerChan c) && s.quiet h && s.healthy h && s.horizonOk h &&
    s.eng.proofs[chanX h].running.isNone && s.eng.proofs[chanY h].running.isNone && !s.isolated h &&
    decide (((List.finRange 16).filter fun c => s.fe.scans[c].pause.isSome).length < 2)

/-- R102: due scans start in ascending channel order. -/
def State.firstDue (s : State) (c : Fin 16) : Bool :=
  s.mayPause c && (List.finRange 16).all fun d => decide (c ≤ d) || !s.mayPause d

/-! ### Frame boundaries -/

/-- R117: the update of the component that does not invert, after an odd frame. -/
def Det.nUpdate (d : Det) : Det :=
  let d1 := if d.pairOk && d.evenN != 0 && d.oddN != 0 then
      let qe : Rat := 1 / (d.evenN : Rat)
      let qo : Rat := 1 / (d.oddN : Rat)
      let upd (n e o : Cx) : Cx := n.add ((((e.scale qe).sub (o.scale qo)).scale (1 / 2)).sub n |>.scale (1 / 16))
      { d with nL := upd d.nL d.evenL d.oddL, nH := upd d.nH d.evenH d.oddH }
    else d
  { d1 with evenL := {}, evenH := {}, oddL := {}, oddH := {}, evenN := 0, oddN := 0, pairOk := true }

/-- R103: the horizon of a head whose channel is paused has fallen: its pause is to end. -/
def State.horizonStops (s : State) : State :=
  State.eachFin s 16 fun s c => s.when (s.fe.scans[c].pause.isSome && !s.horizonOk (headOf c)) fun s =>
    s.onScan c fun k => { k with stop := true }

/-- R100, R103: a pause ends at this boundary: its time has run, or it is cut short and its scan stays due. -/
def State.pauseEnds (s : State) (c : Fin 16) : State :=
  match s.fe.scans[c].pause with
  | none => s
  | some p =>
    let ended := decide (p + us 3072 ≤ s.clk.now)
    let cut := s.fe.scans[c].stop || (!ended && !s.horizonOk (headOf c))
    if (ended || cut) && s.fe.chans[partnerChan c].mask.isNone then
      let s1 := s.onScan c fun k =>
        { k with pause := none, stop := false, resumed := !cut, endAt := s.clk.now, lastTime := if cut then k.lastTime else s.tbNow }
      (s1.onChan c fun ch => { ch with phase := if ch.phase == .paused then .inService else ch.phase, excOn := true }).maskFrom
        c false
    else s

/-- R64, R73, R106, R113: deferred changes of a channel, or its agreed plan, take effect at this boundary; a plan whose
conditions fail is withdrawn and its scan is due again. -/
def State.boundaryChanges (s : State) (c : Fin 16) : State :=
  let ch := s.fe.chans[c]
  let h := headOf c
  if !s.steadyChan c then s
  else if !ch.deferred.isEmpty then
    s.when (s.steadyChan (partnerChan c)) fun s =>
      (s.onChan c fun ch => { ch with deferred := [], plan := none }).applyChanges c (ch.deferred.map Prod.fst)
  else match ch.plan with
    | none => s
    | some p =>
      if s.fe.chans[partnerChan c].mask.isSome then s
      else
        let s1 := s.onChan c fun ch => { ch with plan := none }
        if ch.phase == .inService && s.adaptEnable && s.stepsOk c p.1 p.2 && s.quiet h && s.healthy h && s.horizonOk h &&
            s.fe.scans[partnerChan c].pause.isNone then
          s1.applyChanges c [.carriers p.1 p.2 true]
        else s1.scanDue c

/-- FRAME_BOUNDARY (R64, R65, R70, R100, R103, R106, R117): one frame, 1.024 ms, after the last. Before then only the clock
moves. -/
def execFrameBoundary (t : Time) (s : State) : Host.Outcome State Fault Refusal :=
  let s := s.at t
  done (s.when (s.phase == .service && decide (s.fe.frameAt + us 1024 ≤ s.clk.now)) fun s =>
    let odd := s.fe.frame % 2 == 1
    let s1 := { s with fe := { s.fe with frame := s.fe.frame + 1, frameAt := s.clk.now } }
    let s2 := if odd then State.eachFin s1 16 fun s c => s.onDet c Det.nUpdate else s1
    if s2.feOn then
      State.eachFin (State.eachFin (State.eachFin s2 16 fun s c => s.calRun c) 16 fun s c => s.pauseEnds c) 16 fun s c =>
        s.boundaryChanges c
    else s2)

/-! ### Scans -/

/-- SCAN_DUE (R102): ScanInterval has passed in ACTIVE and WATCH since the last scan, or three reports in a row call for one.
Otherwise only the clock moves. -/
def execScanDue (t : Time) (c : Fin 16) (s : State) : Host.Outcome State Fault Refusal :=
  let s := s.at t
  let k := s.fe.scans[c]
  let ch := s.fe.chans[c]
  done (s.when (s.phase == .service && (ch.phase == .inService || ch.phase == .paused) &&
      (decide (k.lastDone + secs s.scanInterval ≤ s.awakeNs) || decide (3 ≤ k.reports))) fun s => s.scanDue c)

/-- SCAN_OVERDUE (R102, R114): a scan still due after ScanOverdue. Before then, and with scans stopped, only the clock
moves. -/
def execScanOverdue (t : Time) (c : Fin 16) (s : State) : Host.Outcome State Fault Refusal :=
  let s := s.at t
  let k := s.fe.scans[c]
  done (s.when (s.phase == .service && k.due && s.scanEnable && decide (k.dueAt + secs s.scanOverdue ≤ s.clk.now)) fun s =>
    s.warnWhile c .scanOverdue true)

/-- SCAN_PAUSE_START (R99, R100, R111): at a frame boundary, the drive of the first due channel that may pause stops. -/
def execScanPauseStart (t : Time) (c : Fin 16) (s : State) : Host.Outcome State Fault Refusal :=
  let s := s.at t
  done (s.when (s.firstDue c && s.clk.now == s.fe.frameAt) fun s =>
    let s1 := s.onChan c fun ch => { ch with phase := .paused, excOn := false, loopLow := 0, excBad := 0 }
    let s2 := s1.onScan c fun k =>
      { k with pause := some s.clk.now, stop := false, winAt := s.clk.now, winGain := s.fe.chans[c].gain, win := [] }
    (s2.onDet c fun d => { d with hold := if d.hold == .takeover then .takeover else .settling }).amonRefresh)

/-! ### Carrier plans (R97, R104, R105, R108) -/

/-- R101: D(k) of a table, as the square of its ratio. -/
def distAt (d : List Rat) (k : Nat) : Rat := d.getD (k - 24) 0

/-- R104: one figure lies at least n dB below another. -/
def dbBelow (n : Nat) (a b : Rat) : Bool := decide (a ^ 10 * (10 : Rat) ^ n ≤ b ^ 10)

/-- The distance of two steps. -/
def stepDist (a b : Nat) : Nat := (a - b) + (b - a)

/-- R104: the better of two candidates that count as equal: nearer the start value, then the lower step. -/
def nearer (start a b : Nat) : Nat :=
  if stepDist a start < stepDist b start then a
  else if stepDist b start < stepDist a start then b
  else min a b

/-- R104: the step taken from the candidates; none where none qualifies. -/
def bestStep (d : List Rat) (start : Nat) (cands : List Nat) : Option Nat :=
  match cands with
  | [] => none
  | k :: ks =>
    let low := ks.foldl (fun m j => min m (distAt d j)) (distAt d k)
    ((k :: ks).filter fun j => decide (distAt d j ^ 10 ≤ low ^ 10 * 10)).foldl (fun acc j => match acc with
      | none => some j
      | some i => some (nearer start i j)) none

/-- R104: candidates that qualify for a carrier at step `use`, among those allowed. -/
def State.candidates (s : State) (d : List Rat) (use : Nat) (allowed : Nat → Bool) : List Nat :=
  ((List.range 177).map (· + 24)).filter fun k =>
    allowed k && !aboveDb (distAt d k) s.moveThreshold && dbBelow s.moveGain (distAt d k) (distAt d use)

/-- R104: a supervisor's plan for a channel from a table, and whether a carrier to be moved has no qualifying candidate. DESIGN
CHOICE: where both are to be moved, the high step in use bounds the candidates of the low carrier (log entry 60). -/
def State.carrierPlan (s : State) (c : Fin 16) (d : List Rat) : (Nat × Nat) × Bool :=
  let ch := s.fe.chans[c]
  let bad (k : Nat) : Bool := aboveDb (distAt d k) s.moveThreshold
  let low := if bad ch.kL then bestStep d (s.carrierLowK c) (s.candidates d ch.kL fun k => s.stepsOk c k ch.kH) else some ch.kL
  let l := low.getD ch.kL
  let high := if bad ch.kH then bestStep d (s.carrierHighK c) (s.candidates d ch.kH fun k => s.stepsOk c l k) else some ch.kH
  ((l, high.getD ch.kH), low.isNone || high.isNone)

/-- R108: a further move is within the limits. -/
def State.moveAllowed (s : State) (c : Fin 16) : Bool :=
  let m := s.nv.chans[c].moves
  m.all (fun t => decide (t + secs s.moveHoldoff ≤ s.clk.now)) &&
    decide ((m.filter fun t => decide (s.clk.now < t + secs 3600)).length < 12)

/-- R101: a table as ScanSpectrum shows it: −2 D, from 0 to 255. -/
def State.spectrumOf (s : State) (d : List Rat) : List Byte × State :=
  d.foldl (fun (acc : List Byte × State) x =>
    if x = 0 then (acc.1 ++ [255], acc.2)
    else
      let r := acc.2.decibels 2 x
      (acc.1 ++ [BitVec.ofNat 8 (max 0 (min 255 (-r.1))).toNat], r.2)) ([], s)

/-- R104: a carrier that is to be moved has no qualifying candidate: the channel's warning, and a record each time. -/
def State.noCleanCarrier (s : State) (c : Fin 16) : State :=
  if (warnAt .noCleanCarrier s.fe.warns[c].raised).isNone then s.warn c .noCleanCarrier
  else (s.warn c .noCleanCarrier).record codeNoCleanCarrier 0 [BitVec.ofNat 8 c.val, BitVec.ofNat 8 (warnCode .noCleanCarrier)]

/-- R105: plans that differ, or that are not both formed in time, are discarded. -/
def State.plansDiscarded (s : State) (c : Fin 16) : State :=
  (s.onScan c fun k => { k with open_ := false }).record codePlansDiffer 0 [BitVec.ofNat 8 c.val]

/-- R97, R105, R106, R108: what follows from two identical plans: nothing where they change no carrier, where the carriers are fixed or
where a limit is broken; a warning where the channel has moved too often; else the plan goes to the front end. -/
def State.plansAgree (s : State) (c : Fin 16) (p : Nat × Nat) : State :=
  let ch := s.fe.chans[c]
  let s1 := s.onScan c fun k => { k with open_ := false }
  if p = (ch.kL, ch.kH) ∨ !s.stepsOk c p.1 p.2 ∨ ch.phase != .inService then s1
  else if !s.moveAllowed c then s1.warn c .carrierUnstable
  else if s.adaptEnable then s1.onChan c fun ch => { ch with plan := some p }
  else s1

/-- R104, R105: a supervisor forms its plan from a table that has been delivered, within 2 ms, and the plans of both are compared once
both stand. -/
def State.planStep (s : State) (v : Fin 2) (c : Fin 16) : State :=
  let k := s.fe.scans[c]
  if !k.open_ then s
  else if k.tableAt + ms 2 < s.clk.now then s.plansDiscarded c
  else if k.plans[v].isSome then s
  else
    let p := s.carrierPlan c k.table
    let s1 := s.onScan c fun k => { k with plans := updV k.plans v fun _ => some p.1 }
    let s2 := s1.when (p.2 && k.plans[1 - v].isNone) fun s => s.noCleanCarrier c
    match k.plans[1 - v] with
    | some q => if q = p.1 then s2.plansAgree c q else s2.plansDiscarded c
    | none => s2

/-- SCAN_COMPLETE (R100 to R102): the table of a pause that ran to its end is delivered to both supervisors; the scan is no longer due.
A window that lost samples gives none: its scan stays due (log entry 60). -/
def execScanComplete (t : Time) (c : Fin 16) (s : State) : Host.Outcome State Fault Refusal :=
  let s := s.at t
  let ch := s.fe.chans[c]
  let k := s.fe.scans[c]
  done (s.when (s.phase == .service && k.resumed) fun s =>
    if k.win.length != 4096 then s.onScan c fun k => { k with resumed := false, win := [] }
    else
      let ref := min ch.aRefSqL ch.aRefSqH
      let d := (disturbance k.win k.winGain).map fun x => x / ref
      let lo := s.decibels 10 (distAt d ch.kL)
      let hi := lo.2.decibels 10 (distAt d ch.kH)
      let sp := hi.2.spectrumOf d
      let s1 := sp.2.onScan c fun k =>
        { k with
          due := false
          resumed := false
          reports := 0
          lastDone := s.awakeNs
          distLow := lo.1
          distHigh := hi.1
          spectrum := sp.1
          win := []
          table := d
          tableAt := s.clk.now
          open_ := true
          plans := Vector.replicate 2 none }
      s1.warnCond c .scanOverdue false)

end Sys2Proof.Machine
end

