-- ==== Sys2Proof/Machine/Engine.lean ====
section
/-! DEFINITION. The signal engines: demodulation, presence, classification, baselines, noise, drift, proof tests, checkpoints and
takeover (R69, R75 to R77, R111, R112, R116 to R149), with their commands. -/

namespace Sys2Proof.Machine

/-! ### Classes (R131) -/

/-- R131: the class of a presence; `partner` is the latest onset of the other system. -/
def Det.classOf (d : Det) (wheelFloor : Nat) (partner : Option Time) : Nat :=
  if d.noClass || decide (d.clsN < 4) then 0
  else if reaches d.peakSq wheelFloor then (if angleFront d.clsL && angleBack d.clsH then 1 else 2)
  else
    let together := match partner with
      | some p => decide (timeDiff p d.onset ≤ us 200)
      | none => false
    if together && ((angleNear d.clsL && angleNear d.clsH) || (angleFar d.clsL && angleFar d.clsH)) then 10
    else if angleDown d.clsL && angleBack d.clsH && decide (4 ≤ d.ratioSq ∧ d.ratioSq ≤ 64) then 8
    else if angleBack d.clsL && angleBack d.clsH then 9
    else 3

/-! ### Raw samples and the validity of a span (R65, R68, R69, R72, R74 to R76) -/

/-- R100: an instant lies in a pause of a channel. -/
def State.inPause (s : State) (c : Fin 16) (x : Time) : Bool :=
  let k := s.fe.scans[c]
  decide (k.winAt ≤ x) && (k.pause.isSome || decide (x < k.endAt))

/-- R72, R100: a raw sample taken at an instant carries SETTLING. -/
def State.settlingAt (s : State) (c : Fin 16) (x : Time) : Bool :=
  let ch := s.fe.chans[c]
  s.inPause c x || match ch.mask with
    | some m => decide (m.start ≤ x ∧ x < m.until_)
    | none => decide (x < ch.settledAt)

/-- R64, R65, R116: the frame that holds an instant, and the number of the sample taken then within 2,048. -/
def State.framePos (s : State) (x : Time) : Nat × Nat :=
  if s.fe.frameAt ≤ x then (s.fe.frame + (x - s.fe.frameAt) / us 1024, (x - s.fe.frameAt) / 500 % 2048)
  else (s.fe.frame - 1, 2047 - (s.fe.frameAt - x - 1) / 500 % 2048)

/-- R68, R75, R80, R100: the raw sample word of a conversion at an instant. A blanked one holds the value of the carrier model, or zero
in a pause. -/
def State.rawWord (s : State) (c : Fin 16) (x : Time) (r : RawIn) : RawWord × State :=
  let ch := s.fe.chans[c]
  let p := s.framePos x
  let k := ch.stepsAt x
  let w : RawWord :=
    { n := p.2
      kL := k.1
      kH := k.2
      gain := ch.gain
      data := r.data
      pol := driveInverted c p.1
      blanked := s.blankedAt c x
      settling := s.settlingAt c x
      ovr := r.ovr
      invalid := ch.fault.isSome }
  if !w.blanked then (w, s)
  else if s.inPause c x then ({ w with data := 0 }, s)
  else
    let d := s.dataOf (carrierModel ch.iqL ch.iqH w.kL w.kH w.n w.pol) ch.gain
    ({ w with data := d.1 }, d.2)

/-- R68: the raw sample words of the conversions since the last fast sample, each with its instant: the last is now. -/
def State.rawWords (s : State) (c : Fin 16) (l : List RawIn) : List (Time × RawWord) × State :=
  (l.foldl (fun (a : Time × List (Time × RawWord) × State) r =>
    let w := a.2.2.rawWord c a.1 r
    (a.1 + 500, a.2.1 ++ [(a.1, w.1)], w.2)) (s.clk.now - 500 * (l.length - 1), [], s)).2

/-- R76: the longest run of blanked samples. -/
def blankRun (l : List RawWord) : Nat :=
  (l.foldl (fun (a : Nat × Nat) w => if w.blanked then (a.1 + 1, max a.2 (a.1 + 1)) else (0, a.2)) (0, 0)).2

/-- R69, R76, R77: why a span of raw samples is invalid: 7 over-range, 0 discarded, 8 blanking. -/
def spanBad (l : List RawWord) : Option Nat :=
  if 2 < (l.filter fun w => w.ovr).length then some 7
  else if l.any fun w => w.invalid then some 0
  else if 8 < blankRun l ∨ 16 < (l.filter fun w => w.blanked).length then some 8
  else none

/-- R100: the samples that fall into the analysis window of a pause join it. -/
def State.windowTakes (s : State) (c : Fin 16) (l : List (Time × RawWord)) : State :=
  let k := s.fe.scans[c]
  let new := l.filter fun p => s.inPause c p.1 && decide (k.winAt + us 1024 ≤ p.1 ∧ p.1 < k.winAt + us 3072)
  s.when (!new.isEmpty) fun s => s.onScan c fun k => { k with win := k.win ++ new.map fun p => p.2.data.toInt }

/-- R68, R84, R95, R100: the raw samples of a channel taken in, with the share of blanked samples each second. -/
def State.takeRaws (s0 : State) (c : Fin 16) (l : List RawIn) : State :=
  let r := s0.rawWords c l
  let s := r.2.windowTakes c r.1
  let ws := r.1.map Prod.snd
  let ch := s.fe.chans[c]
  let all := ch.raws ++ ws
  let n := ch.rawCount + ws.length
  let b := ch.blankCount + (ws.filter fun w => w.blanked).length
  let s1 := s.onChan c fun ch => { ch with raws := all.drop (all.length - 64), rawAt := s.clk.now, rawCount := n, blankCount := b }
  if n < 2000000 then s1
  else
    let r := s1.unstatedRound ((1000 * b : Nat) / (n : Rat))
    (r.2.onChan c fun ch => { ch with rawCount := 0, blankCount := 0, blankedShare := r.1.toNat }).warnCond c .blankedShare
      (decide (15 * n < 100 * b))

/-! ### Presence (R111, R112, R126 to R128, R131) -/

/-- R119: what one valid fast sample says of a channel: its stamp, e_c and ē_c squared, d ÷ b of both carriers, and whether its
span held a blanked raw sample. -/
structure Seen where
  stamp   : Time
  ecSq    : Rat
  ebSq    : Option Rat
  qL      : Cx
  qH      : Cx
  blanked : Bool

/-- R127, R131: a sample of a presence joins its peak, its centroid and its class sums. -/
def Det.gather (d : Det) (x : Seen) (release confirm : Nat) : Det :=
  let e := rootOf x.ecSq
  let top := decide (d.peakSq < x.ecSq)
  let cen := reaches x.ecSq release
  let cls := reaches x.ecSq confirm
  { d with
    peakSq := max d.peakSq x.ecSq
    ratioSq := if top then x.qH.normSq / x.qL.normSq else d.ratioSq
    cenNum := if cen then d.cenNum + (x.stamp : Rat) * e else d.cenNum
    cenDen := if cen then d.cenDen + e else d.cenDen
    clsN := if cls then d.clsN + 1 else d.clsN
    clsL := if cls then d.clsL.add x.qL else d.clsL
    clsH := if cls then d.clsH.add x.qH else d.clsH }

/-- R126: a presence begins at a stamp. -/
def Det.began (d : Det) (stamp : Time) : Det :=
  { d with
    present := true
    confirmed := false
    onset := stamp
    lastOnset := some stamp
    windowExt := 0
    run := 0
    peakSq := 0
    cenNum := 0
    cenDen := 0
    clsN := 0
    clsL := {}
    clsH := {}
    ratioSq := 0
    noClass := false }

/-- R126: the band stream confirms. -/
def Seen.confirms (x : Seen) (confirm : Nat) : Bool :=
  match x.ebSq with
  | some q => reaches q confirm
  | none => false

/-- R126: the levels of a head, and its window in ns. -/
structure Levels where
  onset   : Nat
  release : Nat
  confirm : Nat
  window  : Nat

/-- R126: one valid sample decides; what it reports, with the stamp of each report. DESIGN CHOICE: a run that reaches 7 unconfirmed on
the sample that also exceeds ConfirmWindow reports one WITHDRAW, stamped at the start of the run (log entry 60). -/
def Det.judge (d : Det) (x : Seen) (k : Levels) : Det × List (Edge × Time × Bool) :=
  if !d.present then
    (if reaches x.ecSq k.onset then ((d.began x.stamp).gather x k.release k.confirm, [(.onset, x.stamp, x.blanked)]) else (d, []))
  else
    let d1 := d.gather x k.release k.confirm
    let conf := !d1.confirmed && x.confirms k.confirm
    let d2 := if conf then { d1 with confirmed := true } else d1
    let out1 := if conf then [(Edge.confirm, x.stamp, x.blanked)] else []
    let low := !reaches x.ecSq k.release
    let d3 := if low then
        { d2 with
          run := d2.run + 1
          runStart := if d2.run = 0 then x.stamp else d2.runStart
          runBlanked := x.blanked || (decide (d2.run ≠ 0) && d2.runBlanked) }
      else { d2 with run := 0 }
    if low && d3.run == 7 then
      ({ d3 with present := false, run := 0 },
        out1 ++ [(if d3.confirmed then .endd else .withdraw, d3.runStart, d3.runBlanked)])
    else if !d3.confirmed && decide (k.window + us d3.windowExt < x.stamp - d3.onset) then
      ({ d3 with present := false, run := 0 }, out1 ++ [(.withdraw, x.stamp, x.blanked)])
    else (d3, out1)

/-- R112, R130, R142: the first decision after a hold, where it differs from the held one: the presence has ended, or it has not been
confirmed within its window. -/
def Det.firstJudge (d : Det) (x : Seen) (k : Levels) (stamp : Time) : Option (Det × Edge) :=
  if d.present then
    (let conf := d.confirmed || x.confirms k.confirm
    if !reaches x.ecSq k.release then
      some ({ d with present := false, confirmed := conf, run := 0 }, if conf then .endd else .withdraw)
    else if !conf && decide (k.window + us d.windowExt < x.stamp - d.onset) then
      some ({ d with present := false, run := 0 }, .withdraw)
    else none)
  else if reaches x.ecSq k.onset then some ((d.began stamp).gather x k.release k.confirm, .onset)
  else none

/-- R126, R150: the levels of a head. -/
def State.levels (s : State) (h : Fin 8) : Levels :=
  { onset := s.onsetLevel h, release := s.releaseLevel h, confirm := s.confirmLevel h, window := us (s.confirmWindow h) }

/-- R103, R107, R148: an ONSET ends what the partner channel is doing. -/
def State.partnerOnset (s : State) (c : Fin 16) : State :=
  let p := partnerChan c
  let s1 := (s.onScan p fun k => { k with stop := k.stop || k.pause.isSome }).abortProof p
  match s.fe.chans[p].moveEnd with
  | some e => s1.when (decide (s.clk.now ≤ e + ms 2)) fun s => s.chanFault p 9 0 4
  | none => s1

/-- R127, R128, R131, R134: a report of the engine goes to the passage unit. -/
def State.emit (s : State) (c : Fin 16) (edge : Edge) (stamp : Time) (settling takeover blanked : Bool) : State :=
  let d := s.eng.dets[c]
  let h := headOf c
  let out (s : State) (ev : PresenceEvent) : State := { s with eng := { s.eng with out := s.eng.out ++ [ev] } }
  let base : PresenceEvent :=
    { ch := c, edge := edge, stamp := stamp, settling := settling, takeover := takeover, blanked := blanked }
  let ending := edge == .endd || edge == .withdraw
  if ending then
    let peak := s.rootRound 1000 d.peakSq
    let cls := d.classOf (s.wheelFloor h) s.eng.dets[partnerChan c].lastOnset
    let cen : Nat × State :=
      if edge != .endd then (0, peak.2)
      else if d.cenDen = 0 then peak.2.drawFree
      else let r := peak.2.unstatedRound (d.cenNum / d.cenDen); (r.1.toNat, r.2)
    let p := min 0xFFFF peak.1.toNat
    let s1 := out cen.2 { base with centroid := cen.1, peak := p, cls := cls }
    let s2 := (s1.onDet c fun d => { d with noClass := false }).onChan c fun ch => { ch with lastClass := cls }
    let s3 := (s2.onStats c fun st => { st with residual := false }).warnCond c .residual false
    s3.when (edge == .endd && (cls == 3 || ((cls == 1 || cls == 2) && decide (p < 200)))) fun s => s.warn c .shallowPeak
  else
    let s1 := out s base
    s1.when (edge == .onset) fun s => s.partnerOnset c

/-- R126: the reports of one sample. -/
def State.emitAll (s : State) (c : Fin 16) (l : List (Edge × Time × Bool)) : State :=
  State.each s l fun s r => s.emit c r.1 r.2.1 false false r.2.2

/-- R120, R122: the sample and the band stream are free of SETTLING. -/
def Det.bandClean (d : Det) : Bool := d.fast.all fun f => match f with
  | some x => !x.settling
  | none => true

/-- R122: one step of a baseline toward a target, limited in magnitude to `lim` × |b0|. -/
def trackStep (b0 target : Cx) (lim : Rat) : Cx :=
  let d := target.sub b0
  let q := lim * lim * b0.normSq
  if d.normSq ≤ q then target
  else b0.add (d.scale ((isqrt (q / d.normSq * 2 ^ 160).floor.toNat : Rat) / 2 ^ 80))

/-- R122: baseline tracking of one sample; where its conditions do not all hold the baseline is frozen. -/
def State.track (s : State) (c : Fin 16) (x : Seen) : State :=
  let h := headOf c
  let d := s.eng.dets[c]
  match d.band with
  | none => s.onDet c fun d => { d with frozen := true }
  | some m =>
    if !s.eng.dets[chanX h].present && !s.eng.dets[chanY h].present && !reaches x.ecSq (s.freezeLevel h) && d.bandClean &&
        s.eng.proofs[c].running.isNone then
      let f := s.tempFactor c
      let lim (known : Bool) : Rat := (s.baselineSlew h : Rat) / 10000 * 8 / 3600000000 * (if known then 1 else 10)
      s.onDet c fun d =>
        { d with
          b0L := trackStep d.b0L (cdiv m.1 f.1) (lim s.nv.chans[c].kapLKnown)
          b0H := trackStep d.b0H (cdiv m.2 f.2) (lim s.nv.chans[c].kapHKnown)
          frozen := false }
    else s.onDet c fun d => { d with frozen := true }

/-- R123, R125: noise, residual disturbance and hourly means take one sample of a quiet head. -/
def State.gatherStats (s : State) (c : Fin 16) (x : Seen) : State :=
  if !s.quiet (headOf c) then s
  else
    let b := s.baseline c
    let band := s.eng.dets[c].band
    s.onStats c fun st =>
      let st1 := { st with blockPeakSq := max st.blockPeakSq x.ecSq, blockN := st.blockN + 1 }
      match band with
      | some m => { st1 with
          resSumL := st1.resSumL + (m.1.sub b.1).normSq
          resSumH := st1.resSumH + (m.2.sub b.2).normSq
          resN := st1.resN + 1
          hourL := st1.hourL.add m.1
          hourH := st1.hourH.add m.2
          hourN := st1.hourN + 1 }
      | none => st1

/-- R147, R148: a real sample outside the quiet band taken at the start of a proof test aborts it. -/
def State.watchProof (s : State) (c : Fin 16) (zL zH : Cx) : State :=
  let p := s.eng.proofs[c]
  s.when (p.running.isSome && decide (p.band < combinedSq zL zH p.cL p.cH)) fun s => s.abortProof c

/-- R118: the last 64 of a stream with one more sample. -/
def pushFast (l : List (Option FastS)) (f : Option FastS) : List (Option FastS) :=
  let m := l ++ [f]
  m.drop (m.length - 64)

/-- R117, R118: a fast sample joins the stream; its z, N̂ × w̄s not yet removed, joins the means of its frame. -/
def Det.push (d : Det) (f : Option FastS) (z : Cx × Cx) (even quiet : Bool) (at_ : Time) : Det :=
  let d1 := { d with fast := pushFast d.fast f, lastAt := at_ }
  match f with
  | none => { d1 with pairOk := false }
  | some x =>
    let ok := d1.pairOk && quiet && !x.settling
    if even then { d1 with pairOk := ok, evenL := d1.evenL.add z.1, evenH := d1.evenH.add z.2, evenN := d1.evenN + 1 }
    else { d1 with pairOk := ok, oddL := d1.oddL.add z.1, oddH := d1.oddH.add z.2, oddN := d1.oddN + 1 }

/-- R134, R146: a valid sample free of SETTLING joins the history, which covers `span`. -/
def Det.recall (d : Det) (now : Time) (f : FastS) (span : Time) : Det :=
  if f.settling then d else { d with hist := (d.hist.filter fun p => decide (now ≤ p.1 + span)) ++ [(now, f)] }

/-- R134, R146: the samples of a history over the last `span`. -/
def Det.lately (d : Det) (now span : Time) : List FastS := (d.hist.filter fun p => decide (now ≤ p.1 + span)).map Prod.snd

/-- R119: what a sample says against the baseline of its channel. -/
def State.see (s : State) (c : Fin 16) (f : FastS) (stamp : Time) (blanked : Bool) : Seen :=
  let b := s.baseline c
  { stamp := stamp
    ecSq := combinedSq f.zL f.zH b.1 b.2
    ebSq := s.eng.dets[c].band.map fun m => combinedSq m.1 m.2 b.1 b.2
    qL := cdiv (f.zL.sub b.1) b.1
    qH := cdiv (f.zH.sub b.2) b.2
    blanked := blanked }

/-- R111, R112, R126: the decision on a valid sample free of a takeover. -/
def State.decideOn (s : State) (c : Fin 16) (f : FastS) (x : Seen) : State :=
  let d := s.eng.dets[c]
  let k := s.levels (headOf c)
  if f.settling then s.onDet c fun d => { d with hold := .settling }
  else if d.hold = .settling then
    match d.firstJudge x k d.resumeAt with
    | some r => (s.onDet c fun _ => { r.1 with hold := .free }).emit c r.2 d.resumeAt true false x.blanked
    | none =>
      let r := { d with hold := .free }.judge x k
      (s.onDet c fun _ => r.1).emitAll c r.2
  else
    let r := d.judge x k
    (s.onDet c fun _ => r.1).emitAll c r.2

/-- R145: the injected component in the fast stream of a channel: the profile, weighted as the filter weights its span, times 30 % of
the baseline at the start, at 0° on the low carrier and at 180° on the high one. -/
def State.injected (s : State) (c : Fin 16) : Cx × Cx :=
  let p := s.eng.proofs[c]
  if p.injAt.isNone then ({}, {})
  else
    let w : Rat := ((List.range 64).map fun i => firTap i * p.share (s.clk.now - 500 * (63 - i))).sum * (3 / 10)
    (p.bL.scale w, p.bH.scale (-w))

/-- R127, R131, R145: the edges that a sample of the shadow reports. -/
def Proof.edges (p : Proof) (after : Time) (r : Det × List (Edge × Time × Bool)) (floor : Nat) : Proof :=
  let has (e : Edge) : Bool := r.2.any fun x => x.1 == e
  { p with
    shadow := r.1
    onsetAt := if p.onsetAt.isNone && has .onset then some after else p.onsetAt
    confirmAt := if p.confirmAt.isNone && (has .confirm || has .endd) then some after else p.confirmAt
    endAt := if p.endAt.isNone && has .endd then some after else p.endAt
    cls := if has .endd then r.1.classOf floor none else p.cls }

/-- R145, R147: the shadow decision takes one sample of the injected component; none is an invalid one. -/
def State.shadowSample (s : State) (c : Fin 16) (inj : Option (Cx × Cx)) (stamp : Time) : State :=
  let p := s.eng.proofs[c]
  match p.running with
  | none => s
  | some b =>
    let f : Option FastS := inj.map fun d => { zL := d.1, zH := d.2, settling := false }
    let sh := { p.shadow with fast := pushFast p.shadow.fast f }
    match inj with
    | none => s.onProof c fun p => { p with shadow := sh }
    | some d =>
      let q (m : Cx × Cx) : Rat := (m.1.normSq / p.bL.normSq + m.2.normSq / p.bH.normSq) / 2
      let x : Seen :=
        { stamp := stamp
          ecSq := q d
          ebSq := sh.band.map q
          qL := cdiv d.1 p.bL
          qH := cdiv d.2 p.bH
          blanked := false }
      let r := sh.judge x (s.levels (headOf c))
      let centre := s.clk.now - us 16
      let held := decide (b + us 256 ≤ centre ∧ centre ≤ b + us 768)
      s.onProof c fun p =>
        let p1 := p.edges (s.clk.now - b) r (s.wheelFloor (headOf c))
        if held then
          { p1 with
            holdL := p1.holdL.add x.qL
            holdH := p1.holdH.add x.qH
            holdEL := p1.holdEL + rootOf x.qL.normSq
            holdEH := p1.holdEH + rootOf x.qH.normSq
            holdN := p1.holdN + 1 }
        else p1

/-- The engine of a head works: it is assigned and has not failed. -/
def State.engineOf (s : State) (h : Fin 8) : Option (Fin 9) :=
  match s.eng.assigned[h] with
  | some e => if s.eng.wse[e].failed then none else some e
  | none => none

/-- R437: the engine of an isolated head holds its decisions. -/
def State.decisionHeld (s : State) (h : Fin 8) : Bool := match s.test.iso with
  | some i => i.head == h && decide (1 ≤ i.stage)
  | none => false

/-- The engine decides on a channel: it is in service with a baseline, and its head is not isolated. -/
def State.decides (s : State) (c : Fin 16) : Bool :=
  let ch := s.fe.chans[c]
  ch.fault.isNone && (ch.phase == .inService || ch.phase == .paused) && s.eng.dets[c].haveB0 && !s.decisionHeld (headOf c)

/-- R116 to R126, R145: the engine takes one fast sample, formed from the 64 raw samples held. -/
def State.engineSample (s : State) (c : Fin 16) (valid : Bool) : State :=
  let raws := s.fe.chans[c].raws
  let stamp := s.toTb (s.clk.now - us 16)
  let d := s.eng.dets[c]
  let even := s.fe.frame % 2 == 0
  let quiet := s.quiet (headOf c)
  if !valid then (s.onDet c fun d => d.push none ({}, {}) even quiet stamp).shadowSample c none stamp
  else
    let m := demod raws
    let w := meanSign raws
    let inj := s.injected c
    let z : Cx × Cx := (m.1.sub inj.1, m.2.sub inj.2)
    let f : FastS :=
      { zL := z.1.sub (d.nL.scale w), zH := z.2.sub (d.nH.scale w), settling := raws.any fun w => w.settling }
    let span := if d.present then max (ms 100) (secs (s.residualTime (headOf c))) else ms 100
    let s1 := (s.onDet c fun d => (d.push (some f) z even quiet stamp).recall s.clk.now f span).onChan c fun ch =>
      { ch with iqL := m.1, iqH := m.2 }
    if d.hold = .takeover || !s.decides c then s1
    else
      let seen := s1.see c f stamp (raws.any fun w => w.blanked)
      let s2 := (s1.decideOn c f seen).shadowSample c (some inj) stamp
      let s3 := if f.settling then s2.onDet c fun d => { d with frozen := true }
        else ((s2.track c seen).gatherStats c seen).watchProof c f.zL f.zH
      s3.amonRefresh.amonShow c f.zL f.zH

/-- R139: the heartbeat of the engine of a channel after a fast sample. -/
def State.heartbeat (s : State) (c : Fin 16) : State :=
  s.whenSome (s.engineOf (headOf c)) fun s e => s.onWse e fun w => { w with hbAt := some s.clk.now, samples := w.samples + 1 }

/-- R77, R81: FaultCause of a fault after 19 invalid samples, by what invalidated the last: over-range, blanking, or discard, for which
the spec names no code (log entry 4). -/
def invalidCause (bad : Option Nat) : Nat := if bad = some 7 then 7 else if bad = some 8 then 8 else Config.discardCause

/-- FAST_SAMPLE (R68, R69, R77, R90, R116 to R126, R139, R145): the raw samples taken since the last fast sample, and the sample that
they complete once 64 are held; the nineteenth invalid one in a row faults the channel. A calibration on a return looks past the
INVALID of the latch that stands through it. -/
def execFastSample (t : Time) (c : Fin 16) (l : List RawIn) (s : State) : Host.Outcome State Fault Refusal :=
  let s := (s.at t).calRun c
  let ph := s.fe.chans[c].phase
  let only := s.samplesOnly c
  if !only && (!s.feOn || ph == .off || ph == .isolated) then done s
  else
    let s1 := s.takeRaws c l
    let raws := s1.fe.chans[c].raws
    if raws.length < 64 then done s1
    else
      let bad := spanBad (if only then raws.map fun w => { w with invalid := false } else raws)
      let judged := ph == .inService || ph == .paused || (ph == .calibrating && only)
      let run := if judged && bad.isSome then s1.fe.chans[c].invalidRun + 1 else 0
      let s2 := (s1.onChan c fun ch => { ch with invalidRun := run }).heartbeat c
      let s3 := s2.when (decide (19 ≤ run)) fun s => s.chanFault c (invalidCause bad) (us 152)
      done (s3.when ((s3.engineOf (headOf c)).isSome && (only || s3.decides c || s3.fe.chans[c].fault.isSome)) fun s =>
        s.engineSample c (bad.isNone && (only || s.fe.chans[c].fault.isNone)))

/-! ### Noise, baselines, drift and κ (R123 to R125, R129, R134 to R138) -/

/-- NOISE_BLOCK (R102, R125, R129): a block of 1 s ends. Before then, and out of service, only the clock moves. DESIGN CHOICE: a
second without a sample of the quiet head is no block and no report: it neither counts to a run of either nor breaks one (log
entry 60). -/
def execNoiseBlock (t : Time) (c : Fin 16) (s : State) : Host.Outcome State Fault Refusal :=
  let s := s.at t
  let st := s.eng.stats[c]
  let ch := s.fe.chans[c]
  let h := headOf c
  done (s.when (s.feOn && ch.phase == .inService && decide (st.blockAt + secs 1 ≤ s.clk.now)) fun s =>
    let peaks := if st.blockN = 0 then st.peaksSq else (st.peaksSq ++ [st.blockPeakSq]).drop (st.peaksSq.length - 7)
    let noise := peaks.foldl max 0
    let above (n : Nat) : Bool := decide ((n : Rat) * n / 1000000 < noise)
    let run := if st.blockN = 0 then st.noiseRun else if above (s.noiseFault h) then st.noiseRun + 1 else 0
    let n : Rat := st.resN
    let ref := min ch.aRefSqL ch.aRefSqH
    let hit := aboveDb (st.resSumL / n / ref) s.moveThreshold || aboveDb (st.resSumH / n / ref) s.moveThreshold
    let s1 := s.onStats c fun st =>
      { st with
        blockPeakSq := 0, blockN := 0, blockAt := s.clk.now, peaksSq := peaks, resSumL := 0, resSumH := 0, resN := 0,
        noiseRun := run }
    let s2 := s1.onScan c fun k => { k with reports := if st.resN = 0 then k.reports else if hit then k.reports + 1 else 0 }
    (s2.warnWhile c .noise (above (s.noiseWarn h))).when (decide (8 ≤ run)) fun s => s.chanFault c 9 0 2)

/-- R124: b0 of both carriers of a channel is stored. -/
def State.storeBaseline (s : State) (c : Fin 16) : State :=
  let d := s.eng.dets[c]
  s.when d.haveB0 fun s => s.onNvChan c fun n => { n with b0 := some (d.b0L, d.b0H) }

/-- R123: the mean of the hour of the quiet band stream joins the means, with the temperature; those of the last 30 days stay. -/
def State.closeHour (s : State) (c : Fin 16) : State :=
  let st := s.eng.stats[c]
  let means := match s.headTemp (headOf c) with
    | some x =>
      if st.hourN = 0 then st.meansT
      else
        let q : Rat := 1 / (st.hourN : Rat)
        st.meansT ++ [(s.clk.now, (x : Rat) / 10, st.hourL.scale q, st.hourH.scale q)]
    | none => st.meansT
  s.onStats c fun st =>
    { st with hourL := {}, hourH := {}, hourN := 0, meansT := means.filter fun m => decide (s.clk.now ≤ m.1 + secs 2592000) }

/-- R124: b0 of every carrier is stored. -/
def State.storeBaselines (s : State) : State := State.eachFin s 16 fun s c => s.storeBaseline c

/-- BASELINE_STORE (R123, R124): every hour the mean of the hour closes, and b0 of every quiet head is stored. Before then only the
clock moves; entry to LULL or HIBERNATE stores by itself. -/
def execBaselineStore (t : Time) (s : State) : Host.Outcome State Fault Refusal :=
  let s := s.at t
  done (s.when (s.feOn && decide (s.eng.storeAt + secs 3600 ≤ s.clk.now)) fun s =>
    State.eachFin { s with eng := { s.eng with storeAt := s.clk.now } } 16 fun s c =>
      (s.when (s.quiet (headOf c)) fun s => s.storeBaseline c).closeHour c)

/-- R135: a magnitude drift, by squares, exceeds a limit in 0.1 %. -/
def magBeyond (q : Rat) (limit : Nat) : Bool :=
  let l : Rat := (limit : Rat) / 1000
  decide ((1 + l) * (1 + l) < q) || decide (q < (1 - l) * (1 - l))

/-- R135: a phase drift in degrees exceeds a limit in 0.1°. -/
def phaseBeyond (psi : Rat) (limit : Nat) : Bool := decide ((limit : Rat) / 10 < max psi (-psi))

/-- R135: the drift of one channel, published and acted on. -/
def State.drift (s : State) (c : Fin 16) (rL rH : Cx) : State :=
  let d := s.eng.dets[c]
  let h := headOf c
  let qL := d.b0L.normSq / rL.normSq
  let qH := d.b0H.normSq / rH.normSq
  let pL := argDeg (cdiv d.b0L rL)
  let pH := argDeg (cdiv d.b0H rH)
  let a := s.rootRound 1000 qL
  let b := a.2.rootRound 1000 qH
  let x := b.2.unstatedRound (10 * pL)
  let y := x.2.unstatedRound (10 * pH)
  let beyond (m p : Nat) : Bool := magBeyond qL m || magBeyond qH m || phaseBeyond pL p || phaseBeyond pH p
  let bad := beyond (s.driftFaultMag h) (s.driftFaultPhase h)
  let run := if bad then s.eng.stats[c].driftRun + 1 else 0
  let s1 := y.2.onStats c fun st =>
    { st with dMagL := a.1 - 1000, dMagH := b.1 - 1000, dPhL := x.1, dPhH := y.1, driftRun := run, driftAt := s.clk.now }
  (s1.warnWhile c .drift (beyond (s.driftWarnMag h) (s.driftWarnPhase h))).when (decide (2 ≤ run)) fun s =>
    s.chanFault c 9 0 3

/-- DRIFT_EVALUATION (R135): every hour while the head is quiet. Otherwise only the clock moves. -/
def execDriftEvaluation (t : Time) (c : Fin 16) (s : State) : Host.Outcome State Fault Refusal :=
  let s := s.at t
  let ch := s.fe.chans[c]
  done (match s.nv.chans[c].ref with
    | some r =>
      s.when (s.feOn && ch.phase == .inService && s.quiet (headOf c) && decide (s.eng.stats[c].driftAt + secs 3600 ≤ s.clk.now))
        fun s => s.drift c r.1 r.2
    | none => s)

/-- R123: κ of one carrier by least squares over pairs of temperature and mean. -/
def fitKappa (l : List (Rat × Cx)) : Cx :=
  let n : Rat := (l.length : Rat)
  let mt := (l.foldl (fun a p => a + p.1) 0) / n
  let my := (l.foldl (fun (a : Cx) p => a.add p.2) {}).scale (1 / n)
  let sxx := l.foldl (fun a p => a + (p.1 - mt) * (p.1 - mt)) 0
  let sxy := l.foldl (fun (a : Cx) p => a.add ((p.2.sub my).scale (p.1 - mt))) {}
  let slope := sxy.scale (1 / sxx)
  cdiv slope (my.add (slope.scale (25 - mt)))

/-- R123: a coefficient within ± 0.3 %/°C in both parts. -/
def kappaOk (k : Cx) : Bool := decide (-(3 / 1000) ≤ k.re ∧ k.re ≤ 3 / 1000 ∧ -(3 / 1000) ≤ k.im ∧ k.im ≤ 3 / 1000)

/-- R151: a coefficient in 0.001 %/°C. -/
def State.kappaUnits (s : State) (k : Cx) : (Int × Int) × State :=
  let a := s.unstatedRound (k.re * 100000)
  let b := a.2.unstatedRound (k.im * 100000)
  ((a.1, b.1), b.2)

/-- R123: a fit of one carrier is used within its limits. DESIGN CHOICE: rounded to the unit of its entry (log entry 60). -/
def State.takeKappa (s : State) (c : Fin 16) (high : Bool) (k : Cx) : State :=
  if kappaOk k then
    let a := s.kappaUnits k
    a.2.onNvChan c fun n => if high then { n with kapH := a.1, kapHKnown := true } else { n with kapL := a.1, kapLKnown := true }
  else s.warn c .kappaFit

/-- R123: the daily fit of a channel, carrier by carrier. -/
def State.fitChannel (s : State) (c : Fin 16) : State :=
  let l := s.eng.stats[c].meansT.filter fun m => decide (s.clk.now ≤ m.1 + secs 2592000)
  let ts := l.map fun m => m.2.1
  match ts with
  | [] => s
  | x :: xs =>
    if xs.foldl max x - xs.foldl min x < 10 then s
    else
      (s.takeKappa c false (fitKappa (l.map fun m => (m.2.1, m.2.2.1)))).takeKappa c true
        (fitKappa (l.map fun m => (m.2.1, m.2.2.2)))

/-- KAPPA_FIT (R123): once a day. Before then only the clock moves. -/
def execKappaFit (t : Time) (c : Fin 16) (s : State) : Host.Outcome State Fault Refusal :=
  let s := s.at t
  done (s.when (s.feOn && decide (s.eng.stats[c].kappaAt + secs 86400 ≤ s.clk.now)) fun s =>
    (s.onStats c fun st => { st with kappaAt := s.clk.now }).fitChannel c)

/-- RESIDUAL_PRESENCE (R134): a presence longer than ResidualTime below WheelFloor, its samples over that time within the quiet noise
band, the partner quiet. Otherwise only the clock moves. -/
def execResidualPresence (t : Time) (c : Fin 16) (s : State) : Host.Outcome State Fault Refusal :=
  let s := s.at t
  let d := s.eng.dets[c]
  let h := headOf c
  let l := d.lately s.clk.now (secs (s.residualTime h))
  done (s.when (s.feOn && d.present && !l.isEmpty && s.quietSet c l && !s.eng.dets[partnerChan c].present &&
      !reaches d.peakSq (s.wheelFloor h) && decide (secs (s.residualTime h) < s.tbNow - d.onset)) fun s =>
    (s.onStats c fun st => { st with residual := true }).warnWhile c .residual true)

/-- R138: a channel is quiet: in service, and without presence. -/
def State.quietChan (s : State) (c : Fin 16) : Bool :=
  let ch := s.fe.chans[c]
  (ch.phase == .inService || ch.phase == .paused) && ch.fault.isNone && !s.eng.dets[c].present

/-- R138: a re-reference of the selected systems of a head may be committed. -/
def State.rerefAllowed (s : State) (h : Fin 8) (bits : Nat) : Bool :=
  ((List.finRange 2).all fun (i : Fin 2) => !bitOf bits i.val ||
    (let c := chanOf h i
     let free := s.quietChan c || s.eng.stats[c].residual ||
       (s.fe.chans[c].fault.isSome && s.eng.stats[c].detectCause == 3)
     free && s.quietChan (partnerChan c))) &&
    (s.sectionsOf h).all fun (n : Fin 4) => s.serving.all fun v => s.sv[v].secs[n].b == 0

/-- R138: b0 of one channel is taken from the present band stream, becomes the reference, and κ is cleared; a residual presence ends
as WITHDRAW. Where no band stream is valid, b0 is a free value (log entry 10). -/
def State.rereference (s0 : State) (c : Fin 16) : State :=
  let r := s0.bandNow c
  let s := r.2
  let b := r.1
  let s1 := s.onNvChan c fun n =>
    { n with b0 := some b, ref := some b, kapL := (0, 0), kapH := (0, 0), kapLKnown := false, kapHKnown := false }
  let s2 := s1.onDet c fun d => { d with b0L := b.1, b0H := b.2, present := d.present && !s.eng.stats[c].residual }
  let s3 := s2.when (s.eng.stats[c].residual) fun s => s.emit c .withdraw s.tbNow false false false
  let s4 := s3.onStats c fun st => { st with reRefd := true, meansT := [], driftRun := 0 }
  s4.record codeReReference 0 [BitVec.ofNat 8 c.val]

/-! ### Checkpoints and takeover (R139 to R144) -/

/-- R42, R43: the head an engine serves. -/
def State.headServed (s : State) (e : Fin 9) : Option (Fin 8) := heads.find? fun h => s.eng.assigned[h] == some e

/-- R141, R142, R432: an engine is declared failed; the decisions of its head are held. -/
def State.engineFails (s : State) (e : Fin 9) (row : Nat) : State :=
  if s.eng.wse[e].failed then s
  else
    let s1 := s.onWse e fun w => { w with failed := true }
    let s2 := { s1 with eng := { s1.eng with declared := s1.eng.declared ++ [e] } }
    let s3 := s2.whenSome (s.headServed e) fun s h =>
      ((s.onDet (chanX h) fun d => { d with hold := .takeover }).onDet (chanY h) fun d => { d with hold := .takeover }).amonRefresh
    s3.record (codeFaultRow row) 0 [BitVec.ofNat 8 e.val]

/-- R140: what a checkpoint holds of one channel. The band stream restarts at a takeover and is not held. -/
def State.chanCkpt (s : State) (c : Fin 16) : ChanCkpt :=
  { det := { s.eng.dets[c] with fast := [], hist := [] }
    ref := s.nv.chans[c].ref
    kapL := s.nv.chans[c].kapL
    kapH := s.nv.chans[c].kapH
    temp := s.headTemp (headOf c)
    stats := s.eng.stats[c]
    proof := s.eng.proofs[c] }

/-- R141: the checkpoint of an engine is overdue by 8 µs. -/
def State.ckptOverdue (s : State) (e : Fin 9) : Bool :=
  match s.eng.wse[e].ckAt with
  | some a => decide (a + us 108 ≤ s.clk.now)
  | none => false

/-- R139 to R141: an engine writes the checkpoint of its head into the other slot; a bad CRC, a sequence number out of step, a wrong
known-answer result or a write overdue declares it failed. -/
def State.ckptWritten (s : State) (e : Fin 9) (h : Fin 8) (w : CkptWrite) : State :=
  let x := s.chanCkpt (chanX h)
  let y := s.chanCkpt (chanY h)
  let n := s.eng.wse[e].seq + 1
  let k : EngineCkpt :=
    { seq := w.seq
      crcOk := w.crcOk && w.seq == n
      kat := w.kat
      index := s.eng.wse[e].samples
      stamp := max x.det.lastAt y.det.lastAt
      x := x
      y := y }
  let slot : Fin 2 := ⟨n % 2, by omega⟩
  (s.onWse e fun w => { w with seq := n, ckAt := some s.clk.now, ckpts := updV w.ckpts slot fun _ => some k }).when
    (!k.crcOk || !k.kat || s.ckptOverdue e) fun s => s.engineFails e 8

/-- ENGINE_CHECKPOINT (R139 to R141): 100 µs after its last one an engine writes a checkpoint of its head; WSE8 on standby runs the
known-answer test alone. Before then only the clock moves. -/
def execEngineCheckpoint (t : Time) (e : Fin 9) (w : CkptWrite) (s : State) : Host.Outcome State Fault Refusal :=
  let s := s.at t
  let k := s.eng.wse[e]
  let early := match k.ckAt with
    | some a => decide (s.clk.now < a + us 100)
    | none => false
  done (s.when (s.feOn && !k.failed && !early) fun s =>
    match s.headServed e with
    | some h => s.ckptWritten e h w
    | none => s.when (!w.kat) fun s => s.engineFails e 8)

/-- R141, R434: a check of an engine fails: four heartbeats are missing, a checkpoint is overdue; a fetch of its program or a tag of
its input is not for the block to judge. -/
def State.checkFails (s : State) (e : Fin 9) (check : EngineCheck) : Bool :=
  match check with
  | .watchdog => match s.eng.wse[e].hbAt with
    | some b => decide (b + 4 * us 8 ≤ s.clk.now)
    | none => false
  | .checkpoint => s.ckptOverdue e
  | .programMemory => true
  | .inputTag => true

/-- ENGINE_FAILURE (R141). While the check named does not fail only the clock moves. -/
def execEngineFailure (t : Time) (e : Fin 9) (check : EngineCheck) (s : State) : Host.Outcome State Fault Refusal :=
  let s := s.at t
  done (s.when (s.feOn && s.checkFails e check) fun s => s.engineFails e (if check = .inputTag then 9 else 8))

/-- R140, R142: the newer valid checkpoint of an engine. -/
def Engine.newest (w : Engine) : Option EngineCkpt :=
  let valid (o : Option EngineCkpt) : Option EngineCkpt := o.filter fun k => k.crcOk && k.kat
  match valid w.ckpts[0], valid w.ckpts[1] with
  | some a, some b => if a.seq < b.seq then some b else some a
  | some a, none => some a
  | none, b => b

/-- R142, R174: a detector as WSE8 resumes it, its presence from the passage unit's last events: one that began after the checkpoint
begins its peak and sums afresh. -/
def Det.resumed (k : Det) (e : Episode) (i : Fin 2) : Det :=
  let present := e.onset[i].isSome
  let onset := e.onset[i].getD k.onset
  let d := if present && !(k.present && k.onset == onset) then k.began onset else k
  { d with
    hold := .takeover
    fast := []
    hist := []
    run := 0
    pairOk := false
    present := present
    confirmed := present && e.confd[i]
    onset := onset
    windowExt := if present && !e.confd[i] then d.windowExt + 512 else d.windowExt }

/-- R140, R142: the slow statistics as WSE8 resumes them: noise blocks, residual accumulators and drift figures of the checkpoint. -/
def Stats.resumed (st k : Stats) : Stats :=
  { st with
    blockPeakSq := k.blockPeakSq
    blockN := k.blockN
    blockAt := k.blockAt
    peaksSq := k.peaksSq
    noiseRun := k.noiseRun
    resSumL := k.resSumL
    resSumH := k.resSumH
    resN := k.resN
    driftRun := k.driftRun
    dMagL := k.dMagL
    dPhL := k.dPhL
    dMagH := k.dMagH
    dPhH := k.dPhH
    driftAt := k.driftAt }

/-- R142: one channel resumes from a checkpoint. -/
def State.chanResumes (s : State) (c : Fin 16) (k : ChanCkpt) (e : Episode) (i : Fin 2) : State :=
  (s.onDet c fun _ => k.det.resumed e i).onStats c fun st => st.resumed k.stats

/-- R142: WSE8 takes over a head from an engine. -/
def State.takeOver (s : State) (h : Fin 8) (e : Fin 9) : State :=
  let s1 := (({ s with eng := { s.eng with
      assigned := updV s.eng.assigned h fun _ => some 8
      takeover := updV s.eng.takeover h fun _ => some s.clk.now } }.pulse 15).onNvHead h fun n =>
        { n with takeovers := n.takeovers + 1 }).record codeTakeover 0 [BitVec.ofNat 8 h.val, BitVec.ofNat 8 e.val]
  let s2 := ((s1.dropEvents h).abortProof (chanX h)).abortProof (chanY h)
  match s.eng.wse[e].newest with
  | some k =>
    let e := s.pas.eps[h]
    ((s2.chanResumes (chanX h) k.x e 0).chanResumes (chanY h) k.y e 1).amonRefresh
  | none => (s2.chanFault (chanX h) 9 0 5).chanFault (chanY h) 9 0 5

/-- R143: a head is left without an engine. -/
def State.loseEngine (s : State) (h : Fin 8) (e : Fin 9) : State :=
  let s1 := { s with
    eng := { s.eng with
      assigned := updV s.eng.assigned h fun _ => none
      takeover := updV s.eng.takeover h fun _ => none } }.setCumValid h false
  let s2 := (s1.abortProof (chanX h)).abortProof (chanY h)
  ((s2.notify (.headFault h)).passageHeadFault h (s.eng.wse[e].newest.map fun k => k.stamp)).amonRefresh

/-- R43, R142, R143: a declared engine is replaced: WSE8 where it is free, else its head has none. -/
def State.remapOne (s : State) (e : Fin 9) : State :=
  match s.headServed e with
  | none => s
  | some h =>
    if !s.headEnable h then { s with eng := { s.eng with assigned := updV s.eng.assigned h fun _ => none } }
    else if !s.eng.wse[8].failed && (s.headServed 8).isNone then s.takeOver h e
    else s.loseEngine h e

/-- R141 to R143: a supervisor's step takes the declarations; once every serving supervisor has, the remap follows, lower head
number first. -/
def State.remapStep (s : State) (v : Fin 2) : State :=
  let s1 := { s with eng := { s.eng with agreed := updV s.eng.agreed v fun _ => s.eng.declared } }
  if s.eng.declared.isEmpty || !(s.serving.all fun w => s1.eng.agreed[w] == s.eng.declared) then s1
  else
    let order := sortBy (fun e => match s.headServed e with
      | some h => h.val
      | none => 8) s.eng.declared
    let s2 := State.each s1 order fun s e => s.remapOne e
    { s2 with eng := { s2.eng with declared := [], agreed := Vector.replicate 2 [] } }

/-- R142: a valid sample of a channel stands, or forms from the 64 raw samples held. -/
def State.sampleReady (s : State) (c : Fin 16) : Bool :=
  (match s.eng.dets[c].fast.getLast? with
    | some (some _) => true
    | _ => false) || (s.fe.chans[c].raws.length == 64 && (spanBad s.fe.chans[c].raws).isNone)

/-- R142: the first decision of one channel after a takeover, on its first sample. -/
def State.takeoverDecision (s0 : State) (c : Fin 16) : State :=
  let s := match s0.eng.dets[c].fast.getLast? with
    | some (some _) => s0
    | _ => s0.engineSample c true
  let d := s.eng.dets[c]
  let blanked := s.fe.chans[c].raws.any fun w => w.blanked
  match d.fast.getLast? with
  | some (some f) =>
    if f.settling then s.onDet c fun d => { d with hold := .settling }
    else
      match d.firstJudge (s.see c f s.tbNow blanked) (s.levels (headOf c)) s.tbNow with
      | some r => (s.onDet c fun _ => { r.1 with hold := .free }).emit c r.2 s.tbNow false true blanked
      | none => s.onDet c fun d => { d with hold := .free }
  | _ => s

/-- TAKEOVER_FIRST_DECISION (R142): WSE8 decides on both channels of a head that take samples, once it has a sample of each. Before
then only the clock moves. -/
def execTakeoverFirstDecision (t : Time) (h : Fin 8) (s : State) : Host.Outcome State Fault Refusal :=
  let s := s.at t
  let ready (c : Fin 16) : Bool := !s.decides c || s.sampleReady c
  done (s.when (s.feOn && s.eng.takeover[h].isSome && ready (chanX h) && ready (chanY h)) fun s =>
    let s1 := { s with eng := { s.eng with takeover := updV s.eng.takeover h fun _ => none } }
    let one (s : State) (c : Fin 16) : State :=
      if s.decides c then s.takeoverDecision c else s.onDet c fun d => { d with hold := .free }
    (one (one s1 (chanX h)) (chanY h)).amonRefresh)

/-! ### Proof tests (R145 to R149) -/

/-- R146, R385: a test of a channel in service falls due `ahead` of its time. -/
def State.proofComes (s : State) (c : Fin 16) (ahead : Time) : Bool :=
  let p := s.eng.proofs[c]
  (s.fe.chans[c].phase == .inService || s.fe.chans[c].phase == .paused) && p.running.isNone &&
    decide (s.proofDueAt c ≤ s.clk.now + ahead)

/-- PROOF_TEST_DUE (R146, R385): a test falls due, and with it every test due within a quarter of its ProofInterval. Before its
time only the clock moves. -/
def execProofTestDue (t : Time) (c : Fin 16) (s : State) : Host.Outcome State Fault Refusal :=
  let s := s.at t
  done (s.when (s.phase == .service && s.proofComes c 0) fun s =>
    State.eachFin s 16 fun s d =>
      s.when (s.proofComes d (if d = c then 0 else secs (s.proofInterval (headOf d)) / 4)) fun s =>
        s.onProof d fun p => { p with due := true })

/-- R145, R146, R148, R149: a due test may start: its real samples of the last 100 ms lie within the quiet noise band. -/
def State.mayProve (s : State) (c : Fin 16) : Bool :=
  let p := s.eng.proofs[c]
  let q := partnerChan c
  let l := s.eng.dets[c].lately s.clk.now (ms 100)
  !l.isEmpty && s.quietSet c l &&
  s.feOn && p.due && p.running.isNone && decide (p.notBefore ≤ s.clk.now) && s.healthy (headOf c) && !s.isolated (headOf c) &&
    s.steadyChan c && s.steadyChan q && s.eng.dets[c].hold == .free && s.eng.proofs[q].running.isNone &&
    decide (p.serviceAt + ms 100 ≤ s.clk.now) &&
    (match s.pwr.lastWake with
      | some w => decide (w + ms 100 ≤ s.clk.now)
      | none => true)

/-- R145: a test starts: the phantom is scaled from the baselines of now, the quiet band of the real samples is kept, and the shadow
decision starts with a band stream without injection. -/
def State.proofStarts (s : State) (c : Fin 16) : State :=
  let b := s.baseline c
  let m := meanOf (s.eng.dets[c].lately s.clk.now (ms 100))
  s.onProof c fun p =>
    { p with
      running := some s.clk.now
      bL := b.1
      bH := b.2
      cL := m.1
      cH := m.2
      band := s.eng.stats[c].quietSq
      injAt := some s.clk.now
      fall := none
      shadow := { fast := List.replicate 64 (some { zL := {}, zH := {}, settling := false }) }
      onsetAt := none
      confirmAt := none
      endAt := none
      cls := 0
      holdL := {}
      holdH := {}
      holdEL := 0
      holdEH := 0
      holdN := 0 }

/-- PROOF_TEST_START (R145, R146): at a frame boundary, a due test starts where its conditions hold. -/
def execProofTestStart (t : Time) (c : Fin 16) (s : State) : Host.Outcome State Fault Refusal :=
  let s := s.at t
  done (s.when (s.mayProve c && s.clk.now == s.fe.frameAt) fun s => s.proofStarts c)

/-- R147: a sum of magnitudes over the hold has a mean from 27.5 % to 32.5 %. -/
def holdOk (sum : Rat) (n : Nat) : Bool := decide (275 / 1000 * (n : Rat) ≤ sum ∧ sum ≤ 325 / 1000 * (n : Rat))

/-- R147: every check of a test holds. The check of the real e_c has aborted the test where it failed (R148). -/
def Proof.passed (p : Proof) : Bool :=
  (match p.onsetAt with
    | some x => decide (x ≤ us 120)
    | none => false) &&
    (match p.confirmAt with
      | some x => decide (x < us 768)
      | none => false) &&
    (match p.endAt with
      | some x => decide (x ≤ us 1100)
      | none => false) &&
    p.holdN != 0 && holdOk p.holdEL p.holdN && holdOk p.holdEH p.holdN && angleWithin5 p.holdL &&
    angleWithin5 { re := -p.holdH.re, im := -p.holdH.im } && p.cls == 1

/-- R146, R147: a passed test. -/
def State.proofPassed (s : State) (c : Fin 16) : State :=
  (s.onNvChan c fun n => { n with proofCount := n.proofCount + 1 }).onProof c fun p =>
    { p with running := none, due := false, doneAt := some s.clk.now, failed := false, result := 1, lastTime := s.tbNow }

/-- R149, R392: a failed test: repeated after 1 s the first time, a fault the second. -/
def State.proofFailed (s : State) (c : Fin 16) : State :=
  let again := s.eng.proofs[c].failed
  let s1 := ((s.onProof c fun p =>
    { p with
      running := none
      due := false
      failed := true
      result := 3
      lastTime := s.tbNow
      notBefore := s.clk.now + secs 1
      doneAt := none
      dueAt := s.clk.now + secs 1 }).record codeProofFailed 0 [BitVec.ofNat 8 c.val]).pulse 31
  s1.when again fun s => s.chanFault c 9 0 1

/-- PROOF_TEST_END (R145, R147, R149): the profile of 1.024 ms has run, and the shadow decision has ended or has not within 1,100 µs: it
is judged. Before then only the clock moves. -/
def execProofTestEnd (t : Time) (c : Fin 16) (s : State) : Host.Outcome State Fault Refusal :=
  let s := s.at t
  let p := s.eng.proofs[c]
  done (match p.running with
    | some b =>
      if b + us 1024 ≤ s.clk.now ∧ (p.endAt.isSome ∨ b + us 1100 ≤ s.clk.now) then
        (if p.passed then s.proofPassed c else s.proofFailed c).warnCond c .proofOverdue false
      else s
    | none => s)

/-- PROOF_TEST_RETRY (R149): 1 s after a first failure the test is due again. Before then only the clock moves. -/
def execProofTestRetry (t : Time) (c : Fin 16) (s : State) : Host.Outcome State Fault Refusal :=
  let s := s.at t
  let p := s.eng.proofs[c]
  done (s.when (p.failed && p.running.isNone && decide (p.notBefore ≤ s.clk.now)) fun s =>
    s.onProof c fun p => { p with due := true })

/-- PROOF_TEST_OVERDUE (R146): a test not started within twice ProofInterval of its due time. Before then only the clock
moves. -/
def execProofTestOverdue (t : Time) (c : Fin 16) (s : State) : Host.Outcome State Fault Refusal :=
  let s := s.at t
  let p := s.eng.proofs[c]
  done (s.when (s.phase == .service && p.due && p.running.isNone &&
      decide (s.proofDueAt c + 2 * secs (s.proofInterval (headOf c)) ≤ s.clk.now)) fun s => s.warnWhile c .proofOverdue true)

end Sys2Proof.Machine
end

