-- ==== Sys2Proof/Machine/Evaluate.lean ====
section
/-! DEFINITION. One evaluation step of a supervisor and what the keeper publishes after it (R33, R36, R46 to R48, R187 to
R199, R245, R251 to R259, R275, R283, R284), with the commands that are an evaluation step at a given time. -/

namespace Sys2Proof.Machine

/-! ### The back-EMF witness (R196, R197) -/

/-- R196: the witness of a section is enabled. -/
def State.witnessOn (s : State) (sec : Fin 4) : Bool := s.bemfEnable sec && s.gates sec

/-- R196: a valid reading of the gated stage exceeds the threshold. -/
def State.bemfHigh (s : State) (sec : Fin 4) : Bool :=
  match s.trac[sec].reading with
  | some r => decide (s.bemfThreshold sec < r)
  | none => false

/-- R196, R197: the witness alarm of one supervisor. -/
def State.bemfAlarm (s : State) (v : Fin 2) (sec : Fin 4) : State :=
  let s1 := s.onSv v fun x =>
    (x.onProp sec fun p => { p with witness := true, bemfAt := none }).onSec sec fun k => k.tainted 15 none s.tbNow
  (s1.setBarred sec true).record codeCause (svSource v)
    [15, BitVec.ofNat 8 sec.val]

/-- R196: the run of valid readings above the threshold while the supervisor's state is CLEAR, and the alarm at its end. -/
def State.evalWitness (s : State) (v : Fin 2) (sec : Fin 4) : State :=
  let p := s.sv[v].props[sec]
  if p.state == .clear && s.witnessOn sec && s.bemfHigh sec && !p.witness then
    let from_ := p.bemfAt.getD s.clk.now
    if from_ + ms (s.bemfTime sec) ≤ s.clk.now then s.bemfAlarm v sec
    else s.onSv v fun x => x.onProp sec fun p => { p with bemfAt := some from_ }
  else s.onSv v fun x => x.onProp sec fun p => { p with bemfAt := none }

/-! ### Causes of a step (R198, R199) -/

/-- R198, R49: the fault level of a head that is not isolated for test. -/
def State.headFaulty (s : State) (h : Fin 8) : Bool := s.faultLine h && !s.isolated h

/-- R198: legs whose enabled connection is not in service. -/
def State.lostLegs (s : State) (v : Fin 2) (sec : Fin 4) : List (Fin 4) :=
  legs.filter fun n => match s.legConn sec n with
    | some k => !s.sv[v].conns[k].inService
    | none => false

/-- R198: whether a condition cause stands. Code 1 stands from the fault level of a head until that head is healthy. DESIGN
CHOICE: it is the fault level in SV, so of own heads alone: a neighbour's head that its telegrams report as not healthy raises no
cause here (log entry 56). -/
def State.condHolds (s : State) (v : Fin 2) (sec : Fin 4) (code : Nat) : Bool :=
  let hs := s.headsOf sec
  if code = 1 then
    (hs.any fun h => s.headFaulty h) ||
      (s.sv[v].props[sec].condCauses.contains 1 && hs.any fun h => !s.healthy h && !s.isolated h)
  else if code = 14 then !(s.lostLegs v sec).isEmpty
  else if code = 16 then decide (s.led.usable < 512)
  else if code = 17 then hs.any fun h => s.eng.assigned[h].isNone
  else false

/-- R198: the condition causes of a section, recorded as they arise. -/
def State.conditions (s : State) (v : Fin 2) (sec : Fin 4) : State :=
  let p := s.sv[v].props[sec]
  if p.state = .unconfigured then s
  else
    let on := [1, 14, 16, 17].filter fun c => s.condHolds v sec c
    let new := on.filter fun c => !p.condCauses.contains c
    let lost := s.lostLegs v sec
    let s1 := s.onSv v fun x =>
      (x.onProp sec fun p => { p with condCauses := on }).onSec sec fun k =>
        lost.foldl (fun k n => k.tainted 14 (some n) s.tbNow) (new.foldl (fun k c => k.tainted c none s.tbNow) k)
    State.each s1 new fun s c => s.record codeCause (svSource v) [BitVec.ofNat 8 c, BitVec.ofNat 8 sec.val]

/-- R199: event causes cease DisturbedHold after their latest occurrence; R432: cause 8 stands while the Tumbler's self-test keeps
failing. -/
def State.expireCauses (s : State) (v : Fin 2) (sec : Fin 4) : State :=
  let stands (c : Nat × Time) : Bool :=
    decide (s.clk.now < c.2 + ms (s.disturbedHold sec)) || (c.1 == 8 && s.keep.tumbler.failing)
  s.onSv v fun x => x.onProp sec fun p => { p with causes := p.causes.filter stands }

/-- R198: the lowest cause code that stands. -/
def Prop_.lowestCause (p : Prop_) : Nat := ((List.range 19).find? fun c => p.causeBits.testBit c).getD 0

/-- R36 step 1, R33: configuration withdrawal, and a section that has become valid. -/
def State.configStep (s : State) (v : Fin 2) (sec : Fin 4) : State :=
  let valid := s.validSec sec && !s.withheld sec
  let st := s.sv[v].props[sec].state
  if valid && st == .unconfigured then s.enter v sec .restoring
  else if !valid && st != .unconfigured then s.enter v sec .unconfigured
  else s

/-- R33: every leg head quiet and healthy. -/
def State.legsReady (s : State) (sec : Fin 4) : Bool := (s.legHeadsOf sec).all fun h => s.quiet h && s.healthy h

/-- R36 step 2, R33: into DISTURBED while a cause stands, out of it once all have ceased. -/
def State.disturbStep (s : State) (v : Fin 2) (sec : Fin 4) : State :=
  let p := s.sv[v].props[sec]
  if p.state = .unconfigured then s
  else if p.state = .disturbed then
    (if !p.disturbedBy && s.legsReady sec then s.enter v sec .restoring else s)
  else if p.disturbedBy then
    (s.onSv v fun x => x.onProp sec fun p => { p with first := p.lowestCause }).enter v sec .disturbed
  else s

/-! ### Clearance (R191 to R195) -/

/-- R191 C3. -/
def State.c3 (s : State) (sec : Fin 4) : Bool := s.legsReady sec && (s.headsOf sec).all fun h => s.healthy h

/-- R191 C7, at this step. -/
def State.c7 (s : State) (sec : Fin 4) : Bool := !(s.witnessOn sec && s.bemfHigh sec)

/-- R192: the latest telegram of a GUYLINE leg confirms it. -/
def State.confirmedByTele (s : State) (v : Fin 2) (sec : Fin 4) (k : Fin 8) : Bool :=
  let c := s.sv[v].conns[k]
  let tq := s.sv[v].secs[sec].tq
  c.inService && (match c.last with
    | some t => t.epoch == s.nv.secs[sec].epoch && t.flags.testBit 6 && t.zoneCount == 0 && decide (tq ≤ t.zoneTime) &&
        c.matched == some t.zoneTime && t.flags.testBit 4
    | none => false)

/-- R262: while PREPARED, a leg whose neighbour section is RESTORING or PREPARED counts as confirmed. -/
def State.confirmedBySweep (s : State) (v : Fin 2) (sec : Fin 4) (n : Fin 4) : Bool :=
  let k := s.sv[v].secs[sec]
  s.sv[v].props[sec].state == .prepared && k.z[overlapZone n] == 0 && decide (k.tq ≤ k.tSet) &&
    (match s.legConn sec n with
      | some c =>
        let x := s.sv[v].conns[c]
        x.inService && (match x.last with
          | some t => (t.secState == 3 || t.secState == 4) && t.epoch == s.nv.secs[sec].epoch && t.flags.testBit 4
          | none => false)
      | none =>
        match s.partner sec n with
        | some (t, _) => s.sv[v].props[t].state == .restoring || s.sv[v].props[t].state == .prepared
        | none => false)

/-- R192: an overlapped leg is confirmed. -/
def State.confirmed (s : State) (v : Fin 2) (sec : Fin 4) (n : Fin 4) : Bool :=
  s.confirmedBySweep v sec n ||
    (match s.legConn sec n with
      | some k => s.confirmedByTele v sec k
      | none =>
        match s.partner sec n with
        | some (t, m) =>
          let o := s.sv[v].secs[t]
          o.z[overlapZone m] == 0 && decide (s.sv[v].secs[sec].tq ≤ o.tSet)
        | none => false)

/-- R191: the clearance conditions C1 to C7 of a supervisor. -/
def State.clearConds (s : State) (v : Fin 2) (sec : Fin 4) : List Bool :=
  let p := s.sv[v].props[sec]
  let k := s.sv[v].secs[sec]
  [ p.state == .occupied || (p.state == .prepared && p.sweptIn && k.b == 0),
    k.b == 0,
    s.c3 sec,
    decide (k.tq ≤ k.tSet),
    k.bs == 0 && k.z.toList.all fun z => z == 0,
    legs.all fun n => !s.overlapped sec n || s.confirmed v sec n,
    s.c7 sec ]

/-- R194: the terms of the neighbour witness: each GUYLINE leg's count of the overlap and its net out of the neighbour's
section; none where a telegram is missing or too old. -/
def State.witnessTerms (s : State) (v : Fin 2) (sec : Fin 4) : Option (List (Int × Word)) :=
  (legs.filterMap fun (n : Fin 4) => s.legConn sec n).foldr (fun k acc =>
    match acc, s.sv[v].conns[k].last with
    | some l, some t =>
      if s.sv[v].secs[sec].tq ≤ t.zoneTime then
        some ((t.zoneCount, BitVec.ofNat 32 t.cumOut - BitVec.ofNat 32 t.cumIn) :: l)
      else none
    | _, _ => none) (some [])

/-- R194: the neighbour witness is 0. -/
def witnessZero (l : List (Int × Word)) : Bool :=
  (l.all fun p => p.1 == 0) && l.foldl (fun (w : Word) p => w + BitVec.ofInt 32 p.1 + p.2) 0 == 0

/-- R194, R195: degraded run permits the section to become CLEAR. -/
def State.degradedAllows (s : State) (v : Fin 2) (sec : Fin 4) : Bool :=
  !s.keep.degraded ||
    ((legs.all fun n => !s.hasLeg sec n || s.beyond sec n == byGuyline || s.beyond sec n == byStop) &&
      decide (0 < s.degradedLeft sec) && (match s.witnessTerms v sec with
        | some l => witnessZero l
        | none => false))

/-- R193: the clear timer of one supervisor, and CLEAR once it has run. Before that, the latest failures of C3 and C7. -/
def State.clearance (s : State) (v : Fin 2) (sec : Fin 4) : State :=
  let conds := s.clearConds v sec
  let now := s.clk.now
  let s1 := s.onSv v fun x => x.onProp sec fun p =>
    { p with
      c3FailAt := if s.c3 sec then p.c3FailAt else now
      c7FailAt := if s.c7 sec then p.c7FailAt else now
      clearAt := if conds.all id then some (p.clearAt.getD now) else none }
  match s1.sv[v].props[sec].clearAt with
  | some a =>
    if a + ms (s.clearConfirmDelay sec) ≤ now && s1.degradedAllows v sec then s1.enter v sec .clear else s1
  | none => s1

/-! ### Restoration outcomes of a step (R257, R259, R260) -/

/-- R255, R260: an attempt under way fails: a connection left service, an own head is not healthy, or AttestTimeout. -/
def State.attemptFails (s : State) (v : Fin 2) (sec : Fin 4) : Option Nat :=
  let x := s.sv[v]
  let r := x.rests[sec]
  if r.state != 2 || r.tR == 0 || (members r.group).head? != some sec then none
  else if (s.groupConns r.group).any fun k => !x.conns[k].inService || r.breaks[k] == some 0x10000 then some 4
  else if (members r.group).any fun m => (s.headsOf m).any fun h => !s.healthy h then some 12
  else if r.reqAt + ms s.attestTimeout ≤ s.clk.now then
    ((s.groupConns r.group).find? fun k => r.answers[k].isNone).map fun k => r.latest[k].getD 5
  else none

/-- R260: a refused section that may try again. -/
def State.retryDue (s : State) (v : Fin 2) (sec : Fin 4) : Bool :=
  let r := s.sv[v].rests[sec]
  r.state == 4 && s.sv[v].props[sec].state == .restoring &&
    (if r.onceOnly then r.refusal == 2 && s.nv.secs[sec].epoch != 0 &&
        !((s.outerLegs (s.restGroup v sec s.sv[v].secs[sec].tSet)).any fun p =>
          s.beyond p.1 p.2 == byOpen || s.beyond p.1 p.2 == byShared)
    else match r.retryAt with
      | some t => decide (t ≤ s.clk.now)
      | none => false)

/-- R251 to R257, R260: restoration of one section in one supervisor, up to the result. -/
def State.restoreStep (s : State) (v : Fin 2) (sec : Fin 4) : State :=
  let s1 := s.when (s.retryDue v sec) fun s =>
    s.onSv v fun x => x.onRest sec fun r => { r with state := 1, onceOnly := false, retryAt := none }
  let s2 := s1.request v sec
  match s2.attemptFails v sec with
  | some c => s2.refuse v (s2.sv[v].rests[sec].group) c
  | none => s2.compute v sec

/-- R257: in degraded run a result of B = 0 that R194 does not permit at the moment it would apply is refused. -/
def State.barResult (s : State) (v : Fin 2) (sec : Fin 4) : State :=
  let r := s.sv[v].rests[sec]
  match r.result with
  | none => s
  | some x =>
    let late (n : Fin 4) : Int :=
      netLegs ((s.sv[v].secs[n].recent ++ s.sv[v].secs[n].queue).filter fun q => decide (r.tR < q.tc))
    s.when (s.keep.degraded && ((members r.group).zip x.sums).any fun p => p.2.2 + late p.1 == 0 && !s.degradedAllows v p.1) fun s =>
      s.refuse v r.group 11

/-- R257: C3 and C7 have held without a break for ClearConfirmDelay since t_R. -/
def State.heldLong (s : State) (v : Fin 2) (sec : Fin 4) : Bool :=
  let p := s.sv[v].props[sec]
  s.c3 sec && s.c7 sec &&
    decide (max s.sv[v].rests[sec].tRAt (max p.c3FailAt p.c7FailAt) + ms (s.clearConfirmDelay sec) ≤ s.clk.now)

/-- R257: the outcome of a held result. -/
def State.outcome (s : State) (v : Fin 2) (sec : Fin 4) : State :=
  let x := s.sv[v]
  if x.props[sec].state != .restoring || x.rests[sec].state != 3 then s
  else if x.secs[sec].b != 0 || !((s.legHeadsOf sec).all fun h => s.quiet h) then s.enter v sec .occupied 2
  else if s.heldLong v sec then
    (if s.degradedAllows v sec then s.enter v sec .clear 2 else s.refuse v (1 <<< sec.val) 11)
  else s

/-- R259: what self-attestation asks of a section in one supervisor. -/
def State.selfReady (s : State) (v : Fin 2) (sec : Fin 4) : Bool :=
  let x := s.sv[v]
  x.props[sec].state == .restoring && x.secs[sec].sound && x.secs[sec].b == 0 && s.legsReady sec && s.c7 sec &&
    legs.all fun n => match s.legConn sec n with
      | some k => x.conns[k].inService && (match x.conns[k].last with
          | some t => t.flags.testBit 4
          | none => false)
      | none => true

/-- R259: since when the conditions of self-attestation have held in one supervisor. -/
def State.selfTimer (s : State) (v : Fin 2) (sec : Fin 4) : State :=
  s.onSv v fun x => x.onProp sec fun p =>
    { p with selfAt := if s.selfReady v sec then some (p.selfAt.getD s.clk.now) else none }

/-- R259, R260: no result is held, and a self-attestation refused before waits for AttestRetry. -/
def State.maySelf (s : State) (v : Fin 2) (sec : Fin 4) : Bool :=
  let r := s.sv[v].rests[sec]
  r.state != 3 && !(r.state == 4 && (r.refusal == 8 || r.refusal == 11 || r.refusal == 13) && (match r.retryAt with
    | some t => decide (s.clk.now < t)
    | none => false))

/-- R259: the conditions of self-attestation have run out in every serving supervisor. -/
def State.selfDue (s : State) (sec : Fin 4) : Bool :=
  !s.serving.isEmpty && s.serving.all fun v =>
    s.maySelf v sec && s.selfReady v sec && (match s.sv[v].props[sec].selfAt with
      | some a => decide (a + ms (s.clearConfirmDelay sec) ≤ s.clk.now)
      | none => false)

/-- R259, R392: the zone reset and the rebase of the heads whose terms are usable. -/
def State.selfApply (s : State) (sec : Fin 4) : State :=
  let s1 := State.each s s.serving fun s v => s.applyZoneReset v sec s.sv[v].secs[sec].tSet
  match s.serving with
  | [] => s1
  | v :: _ =>
    let tR := s1.sv[v].secs[sec].tSet
    let terms : List (Fin 4 × Answer) := legs.filterMap fun (n : Fin 4) =>
      if s1.hasLeg sec n then (s1.term v sec n (Vector.replicate 8 none) tR).map fun a => (n, a) else none
    let s2 := State.each s1 terms fun s p => s.rebaseOuter sec p.1 p.2 tR
    let all := decide (terms.length = (legs.filter fun (n : Fin 4) => s1.hasLeg sec n).length)
    let s3 := match s2.interior sec with
      | some h => if all then s2.rebaseHead h (s2.interiorSide sec) (s2.z5Need sec (terms.map fun p => ((sec, p.1), p.2.cum))) tR
          else s2
      | none => s2
    (State.each s3 s3.serving fun s v =>
      (s.onSv v fun x => x.onProp sec fun p => { p with routeT := tR }).enter v sec .clear 3).pulse 22

/-- R259: self-attestation of a section, or its refusal. -/
def State.selfAttest (s : State) (sec : Fin 4) : State :=
  if !s.selfDue sec then s
  else
    let stop (c : Nat) : State := State.each s s.serving fun s v => s.refuse v (1 <<< sec.val) c
    if !s.attestEnable then stop 13
    else if s.keep.barred[sec] then stop 8
    else if !(s.serving.all fun v => s.degradedAllows v sec) then stop 11
    else s.selfApply sec

/-! ### Votes (R275, R277, R54) -/

/-- R275: the vote of a supervisor for a permit. -/
def State.vote (s : State) (v : Fin 2) (sec : Fin 4) : Vote :=
  let p := s.sv[v].props[sec]
  let p2 := p.state == .clear || ((p.state == .occupied || p.state == .prepared) && p.dirValid)
  let l := (if p2 then [] else [if p.state = .disturbed then 2 else 1]) ++ (if s.trac[sec].fresh then [] else [6]) ++
    (if s.pwr.state = .hibernate then [8] else []) ++ (if s.gates sec then [] else [1])
  if l.isEmpty then .rise else .drop (dropCause l)

/-- R54: a supervisor's vote changes: a drop where it falls from rise, or changes to a fault reason from another reason. Votes
cast first after a reset are no drops. -/
def State.castVote (s : State) (v : Fin 2) (sec : Fin 4) (new : Vote) : State :=
  let old := s.sv[v].votes[sec]
  if old = new then s
  else
    let s1 := s.onSv v fun x => { x with votes := updV x.votes sec fun _ => new }
    match new, old with
    | .rise, _ => s1
    | .drop c, .rise => s1.dropPermit sec [c] []
    | .drop c, .drop o => if o ≠ 0 ∧ faultCode c ∧ ¬ faultCode o then s1.dropPermit sec [c] [] else s1

/-! ### The Verdict merge (R46, R47, R58, R59) -/

/-- The supervisors whose fields the merge takes: both until the survivor has switched it, a failed one's held. -/
def State.merging (s : State) : List (Fin 2) :=
  if s.keep.degraded then s.serving
  else (List.finRange 2).filter fun v => s.sv[v].serves || (s.sv[v].st == .failed && s.sv[v].stepped)

/-- R46: the more restrictive of two states. -/
def SecState.worse (a b : SecState) : SecState := if a.rank < b.rank then b else a

/-- R46, R58, R59: the merged state of a section. DESIGN CHOICE: from a failure until the survivor has switched the merge, the
failed supervisor's STATE no longer counts, and the survivor's PREPARED and UNCONFIGURED take effect too, as its other proposals do; its
CLEAR does not (log entry 58). -/
def State.mergedState (s : State) (sec : Fin 4) : SecState :=
  let m := s.keep.merged[sec].state
  match s.serving with
  | [] => if m = .unconfigured then m else .disturbed
  | [v] =>
    let p := s.sv[v].props[sec].state
    if !s.keep.degraded && p == .clear then m else p
  | v :: w :: _ => (s.sv[v].props[sec].state).worse s.sv[w].props[sec].state

/-- R40: NOENTRY of a section, given the state proposed for it. -/
def State.noEntryNow (s : State) (sec : Fin 4) (st : SecState) : Bool :=
  s.keep.braking[sec] || s.noEntryRequest sec || st == .unconfigured || s.keep.farewell

/-- R17, R189: LEG_BUSY of a section as the heads stand. -/
def State.legBusyNow (s : State) (sec : Fin 4) : BitVec 4 :=
  legs.foldl (fun (b : BitVec 4) (n : Fin 4) => match s.legHead sec n with
    | some h => if s.quiet h then b else b ||| (1 <<< n.val)
    | none => b) 0

/-- R46: a supervisor's proposals of LEG_BUSY and NOENTRY. -/
def State.proposeBits (s : State) (v : Fin 2) : State :=
  s.onSv v fun x => { x with props := Vector.ofFn fun n : Fin 4 =>
    let p := x.props[n]
    { p with legBusy := s.legBusyNow n, noEntry := s.noEntryNow n p.state } }

/-- R46: the merged Verdict of a section as the proposals stand. -/
def State.mergeOf (s : State) (sec : Fin 4) : Merged :=
  let m := s.keep.merged[sec]
  let st := s.mergedState sec
  let l := s.merging
  let ps := l.map fun v => s.sv[v].props[sec]
  let valid := match ps with
    | [] => false
    | p :: r => p.dirValid && r.all fun q => q.dirValid && q.dir == p.dir
  { m with
    state := st
    bal := if l.isEmpty then m.bal else l.foldl (fun b v => max b s.sv[v].secs[sec].b) 0
    dirValid := valid && !s.serving.isEmpty
    dir := valid && !s.serving.isEmpty && (match ps with
      | p :: _ => p.dir
      | [] => false)
    legBusy := if l.isEmpty then m.legBusy else ps.foldl (fun b p => b ||| p.legBusy) 0
    noEntry := (ps.any fun p => p.noEntry) || (s.serving.isEmpty && (m.noEntry || s.noEntryNow sec st))
    bemf := ps.any fun p => p.witness
    chg := if st = m.state then m.chg else m.chg + 1
    since := if st = m.state then m.since else s.tbNow
    distSince := if st = .disturbed ∧ m.state ≠ .disturbed then s.tbNow else m.distSince }

/-- R37, R416: who declared a state: 1 SVA, 2 SVB, 3 both. -/
def State.declarer (s : State) (sec : Fin 4) (st : SecState) : BitVec 2 :=
  (List.finRange 2).foldl (fun (b : BitVec 2) v =>
    if s.sv[v].serves && s.sv[v].props[sec].state == st then b ||| svSource v else b) 0

/-- R37: the cause of a state entry: the DISTURBED cause of R198; out of RESTORING the route of R269. DESIGN CHOICE: those codes,
and 0 for every other entry, for which the spec numbers no cause (log entry 58). -/
def State.entryCause (s : State) (sec : Fin 4) (st old : SecState) : Nat :=
  match s.serving with
  | [] => 0
  | v :: r =>
    if st = .disturbed then
      ((v :: r).find? fun w => s.sv[w].props[sec].state == .disturbed).elim 0 fun w => s.sv[w].props[sec].first
    else if old = .restoring then s.sv[v].props[sec].route
    else 0

/-- R51, R52: a new word of a section goes to its holding register, or waits for the transfer under way. -/
def State.publishWord (s : State) (sec : Fin 4) (w : Word) : State :=
  match s.keep.holding[sec] with
  | none => { s with keep := { s.keep with holding := updV s.keep.holding sec fun _ => some w } }
  | some _ => { s with keep := { s.keep with waiting := updV s.keep.waiting sec fun _ => true } }

/-- R262: the rebase of a leg head when a swept or directly cleared section becomes CLEAR: zov 0, cum from the mirror or from
the other own section. -/
def State.sweepTerm (s : State) (v : Fin 2) (sec : Fin 4) (n : Fin 4) : Option Int :=
  match s.legConn sec n with
  | some k =>
    let c := s.sv[v].conns[k]
    if c.inService && (match c.last with
        | some t => t.flags.testBit 7
        | none => false) then some (c.mirrorOut - c.mirrorIn).toInt else none
  | none =>
    if s.beyond sec n = byInternal then
      match s.partner sec n with
      | some (t, m) =>
        (match s.legHead t m with
          | some h => if s.keep.cumValid[h].isSome then some (-(s.intoSense t m s.sv[v].heads[h].net)) else none
          | none => none)
      | none => none
    else none

/-- R262, R263: every leg head whose term is to be had is rebased. -/
def State.sweepRebase (s : State) (sec : Fin 4) : State :=
  match s.serving with
  | [] => s
  | v :: _ =>
    State.each s (legs.filter fun (n : Fin 4) => s.hasLeg sec n) fun s n =>
      match s.sweepTerm v sec n with
      | some c => s.rebaseOuter sec n { zov := 0, cum := c } s.tbNow
      | none => s

/-- What the entry of a merged section into a state brings with it (R37, R197, R204, R262, R269). -/
def State.mergedEntry (s : State) (sec : Fin 4) (st old : SecState) : State :=
  let p := s.sv[match s.serving with
    | v :: _ => v
    | [] => 0].props[sec]
  let s1 := (s.record codeSectionEntry (s.declarer sec st) [BitVec.ofNat 8 sec.val, BitVec.ofNat 8 st.code,
    BitVec.ofNat 8 (s.entryCause sec st old), BitVec.ofNat 8 (s.declarer sec st).toNat]).pulse (1 + sec.val)
  let s2 := s1.onNvSec sec fun e =>
    { e with
      disturbed := if st = .disturbed then e.disturbed + 1 else e.disturbed
      lastClear := if st = .clear then s.tbNow else e.lastClear }
  let s3 := s2.when (old == .restoring && (st == .clear || st == .occupied || st == .prepared)) fun s =>
    s.onNvSec sec fun e =>
      { e with restores := e.restores + 1, route := p.route, restoreTime := if p.route ≤ 3 then p.routeT else e.restoreTime }
  let s4 := (s3.when (st == .clear) fun s => s.setBarred sec false).when (st == .disturbed) fun s' =>
    s'.onMerged sec fun m => { m with first := s.entryCause sec st old }
  s4.when (st == .clear && old == .prepared) fun s => s.sweepRebase sec

/-- R288: the provisional refresh when DIR_VALID has just been set by presence. -/
def State.kinProvisional (s : State) (sec : Fin 4) : State :=
  match s.serving with
  | [] => s
  | v :: _ =>
    let p := s.sv[v].props[sec]
    match p.provHead with
    | none => s
    | some h =>
      let n := p.dirLeg
      let speed : Option Nat := match s.legConn sec n with
        | some k => s.sv[v].conns[k].last.bind fun t => if t.speed = 0xFFFF then none else some (2 * t.speed)
        | none => (s.partner sec n).map fun q => s.kin[q.1].speed.natAbs
      match speed with
      | some w => s.kinOnset sec n s.sv[v].der[h].first w
      | none => s

/-- R46 to R52: the merge of one section, published where it changes the word. -/
def State.mergeSec (s : State) (sec : Fin 4) : State :=
  let old := s.keep.merged[sec]
  let new := s.mergeOf sec
  if new = old then s
  else
    let s1 := s.onMerged sec fun _ => new
    let s2 := s1.when (new.state != old.state) fun s => s.mergedEntry sec new.state old.state
    let s3 := s2.when (new.noEntry != old.noEntry) fun s =>
      (s.record codeNoEntry 3 [BitVec.ofNat 8 sec.val, BitVec.ofNat 8 (b2n new.noEntry)]).pulse 5
    let s4 := s3.when (new.word s.keep.degraded != old.word s.keep.degraded) fun s =>
      s.publishWord sec (new.word s.keep.degraded)
    let s5 := s4.when (new.dirValid && !old.dirValid) fun s => s.kinProvisional sec
    s5.kinMerged sec (new.bal == 0 && old.bal != 0)

/-- R283: each block with short-circuit braking that has reached SV sets the latched NOENTRY of the section that gates the stage,
raises source 5 and is recorded. -/
def State.brakeStep (s : State) (sec : Fin 4) : State :=
  let blocks := if s.gates sec then s.trac[sec].braked else []
  State.each (s.onTraction sec fun t => { t with braked := [] }) blocks fun s b =>
    (({ s with keep := { s.keep with braking := updV s.keep.braking sec fun _ => true } }).record codeBrakingLoss 3
      (BitVec.ofNat 8 sec.val :: (leBytes 4 b.1.toNat ++ leBytes 4 b.2.1.toNat ++ leBytes 4 b.2.2.toNat))).pulse 5

/-- R284: SK_NEIGHBOUR as a supervisor sees it. -/
def State.neighbourWord (s : State) (v : Fin 2) : Word :=
  sections.foldl (fun (w : Word) (sec : Fin 4) => legs.foldl (fun (w : Word) (n : Fin 4) =>
    let i := 4 * sec.val + n.val
    if !s.hasLeg sec n then w
    else match s.legConn sec n with
      | some k =>
        let c := s.sv[v].conns[k]
        let ne := !c.inService || (match c.last with
          | some t => t.flags.testBit 0
          | none => true)
        w ||| wbit i ne ||| wbit (16 + i) (s.handover v sec n)
      | none =>
        match s.otherSide sec n with
        | some (t, m) =>
          let p := s.sv[v].props[t]
          w ||| wbit i s.keep.merged[t].noEntry ||| wbit (16 + i) (handsOver (s.legCount t) p.state p.dirValid p.dir m)
        | none => w) w) 0

/-! ### ATTESTED and checkpoints (R165, R245) -/

/-- R165: a COUNTED entry whose checkpoint is written and whose completion every section it changed has settled. -/
def State.attestable (s : State) (en : Entry) : Bool :=
  en.st == .counted && en.ckpt && (s.sectionsOf en.head).all fun sec => s.serving.all fun v =>
    s.sv[v].props[sec].state == .unconfigured || decide (en.tc ≤ s.sv[v].secs[sec].tSet)

/-- R165: every such entry becomes ATTESTED. -/
def State.attestEntries (s : State) : State :=
  let put (c : LedgerCopy) : LedgerCopy := c.map fun p => (p.1, if s.attestable p.2 then { p.2 with st := .attested } else p.2)
  { s with led := { s.led with copies := #v[put s.led.copies[0], put s.led.copies[1]] } }

/-- R187, R245: the two counter sets agree; a survivor's set needs no agreement. -/
def State.setsAgree (s : State) : Bool :=
  match s.serving with
  | [v, w] =>
    (heads.all fun h => s.sv[v].heads[h].pos == s.sv[w].heads[h].pos && s.sv[v].heads[h].neg == s.sv[w].heads[h].neg) &&
      sections.all fun n => s.sv[v].secs[n].b == s.sv[w].secs[n].b && s.sv[v].secs[n].bs == s.sv[w].secs[n].bs &&
        s.sv[v].secs[n].z == s.sv[w].secs[n].z
  | [_] => true
  | _ => false

/-- R245: the content of a checkpoint of this step, from the first serving supervisor's set. -/
def State.checkpoint (s : State) : Checkpoint :=
  let x := s.sv[match s.serving with
    | v :: _ => v
    | [] => 0]
  { seq := s.nv.ckSeq + 1
    time := s.tbNow
    position := s.sdp.position
    pos := Vector.ofFn fun h => x.heads[h].pos
    neg := Vector.ofFn fun h => x.heads[h].neg
    cumValid := Vector.ofFn fun h => s.keep.cumValid[h].isSome
    epochs := Vector.ofFn fun n => s.nv.secs[n].epoch
    lastEpochs := Vector.ofFn fun n => s.nv.secs[n].lastEpoch
    states := Vector.ofFn fun n => s.keep.merged[n].state
    bal := Vector.ofFn fun n => x.secs[n].b
    bs := Vector.ofFn fun n => x.secs[n].bs
    z := Vector.ofFn fun n => x.secs[n].z
    tSet := Vector.ofFn fun n => x.secs[n].tSet
    sound := Vector.ofFn fun n => x.secs[n].sound
    barred := s.keep.barred
    braking := s.keep.braking
    breaks := s.keep.breaks
    good := true }

/-- R245: what calls for a checkpoint has changed between two of them. -/
def Checkpoint.changed (a b : Checkpoint) : Bool :=
  decide (a.pos ≠ b.pos) || decide (a.neg ≠ b.neg) || decide (a.states ≠ b.states) || decide (a.bal ≠ b.bal) ||
    decide (a.bs ≠ b.bs) || decide (a.z ≠ b.z) || decide (a.breaks ≠ b.breaks) || decide (a.barred ≠ b.barred) ||
    decide (a.braking ≠ b.braking) || decide (a.epochs ≠ b.epochs)

/-- R246: the good slot with the highest sequence number. -/
def newestCkpt (l : List Checkpoint) : Option Checkpoint :=
  (l.filter fun c => c.good).foldl (fun (best : Option Checkpoint) c => match best with
    | none => some c
    | some b => if b.seq < c.seq then some c else some b) none

/-- R245: a checkpoint is written after a step that changed anything it is called for by; one write at a time. -/
def State.checkpointDue (s : State) : State :=
  if s.keep.ckBusy.isSome || !s.setsAgree then s
  else
    let c := s.checkpoint
    let due := match newestCkpt s.nv.ckpts with
      | some b => b.changed c
      | none => true
    if due then ({ s with keep := { s.keep with ckBusy := some c } }).cvuDone else s

/-! ### The step -/

/-- The passages into a section counted at its legs by a supervisor so far, modulo 2^32 a head. -/
def State.intoCount (s : State) (v : Fin 2) (sec : Fin 4) : List Word :=
  legs.filterMap fun (n : Fin 4) => (s.legHead sec n).map fun h =>
    if s.sense sec n then s.sv[v].heads[h].pos else s.sv[v].heads[h].neg

/-- R188: a CLEAR section with an ONSET at a leg head, or a passage into it counted, in this step. -/
def State.occupancy (s : State) (v : Fin 2) (sec : Fin 4) (triggered : Bool) : State :=
  if triggered && s.sv[v].props[sec].state == .clear then s.enter v sec .occupied else s

/-- R183 to R186, R249: settlement of one section in a step. -/
def State.settleStep (s : State) (v : Fin 2) (sec : Fin 4) : State :=
  let s1 := s.settle v sec
  let k := s1.sv[v].secs[sec]
  let settled := decide (s.sv[v].secs[sec].tSet < k.tSet) && s.sv[v].secs[sec].queue.any fun q => decide (q.tc ≤ k.tSet)
  (s1.compareOverlaps v sec settled).zoneResetDue v sec

/-- What the keeper makes of the proposals after any change of them (R46 to R53, R165, R245, R283, R284). -/
def State.publish (s : State) : State :=
  let s1 := State.each s sections fun s sec => s.brakeStep sec
  let s2 := State.each s1 sections fun s sec => s.mergeSec sec
  s2.attestEntries.checkpointDue.requalify

/-- What the keeper makes of what every supervisor proposes now, outside a step. -/
def State.publishAll (s : State) : State := (State.each s s.serving fun s v => s.proposeBits v).publish

/-- R48, R371: the supervisor runs evaluation steps. -/
def State.evaluates (s : State) (v : Fin 2) : Bool :=
  s.phase == .service && s.sv[v].serves && s.pwr.state != .hibernate

/-- R58, R172: this supervisor counts alone: the other does not serve. -/
def State.alone (s : State) (v : Fin 2) : Bool := s.serving == [v]

/-- R437: the engine of a head writes a checkpoint, outside the 100 µs of R139. DESIGN CHOICE: its write passes (log entry 1). -/
def State.ckptNow (s : State) (h : Fin 8) : State :=
  s.whenSome s.eng.assigned[h] fun s e => s.ckptWritten e h { seq := s.eng.wse[e].seq + 1, crcOk := true, kat := true }

/-- R437: the grant: the self-test drop, HeadCumValid, the engine's checkpoint, the bits and SELFTEST. -/
def State.isoGrant (s : State) (i : Isolation) : State :=
  let m := s.secMask i.head
  let s1 := State.each s (s.sectionsOf i.head) fun s n => s.dropPermit n [5] []
  let j : Isolation := { i with
    stage := 1
    grantAt := s.clk.now
    grantTb := s.tbNow
    secs := m
    x := s.eng.dets[chanX i.head]
    y := s.eng.dets[chanY i.head] }
  ({ s1 with
    test := { s1.test with iso := some j, drop := s1.test.drop ||| m }
    pas := { s1.pas with
      eps := updV s1.pas.eps i.head fun _ => {}
      discard := updV s1.pas.discard i.head fun _ => true } }.setCumValid i.head false |>.ckptNow i.head |>.pulse 31).requalify

/-- R435, R436: a request waiting is judged in an evaluation step, in ACTIVE or WATCH, once a proof test on the head has
finished. -/
def State.isoJudge (s : State) : State :=
  match s.test.iso with
  | some i =>
    let proof := [chanX i.head, chanY i.head].any fun c => s.eng.proofs[c].running.isSome
    if i.stage != 0 || proof || !(s.pwr.state == .active || s.pwr.state == .watch) then s
    else match s.isoRefusal i with
      | some c => s.isoRefuse i c
      | none => s.isoGrant i
  | none => s

/-- R36 steps 1 and 2: an evaluation step of a supervisor up to the DISTURBED causes, with the sections it has found an occupancy
trigger for. -/
def State.evalFront (s : State) (v : Fin 2) : State × BitVec 4 :=
  if !s.evaluates v then (s, 0)
  else
    let s0 := State.each ((s.remapStep v).onSv v fun x => { x with stepped := true }) sections fun s sec => s.configStep v sec
    let wheel := s0.isoOnset v
    let before := Vector.ofFn fun sec : Fin 4 => s0.intoCount v sec
    let r := s0.takeInbox v (s0.alone v)
    let s1 := (r.1.knownVehicles v).when wheel fun s => s.isoWheel v
    let trig := secBits (sections.filter fun sec => r.2.getLsbD sec.val || s1.intoCount v sec != before[sec])
    let s2 := State.each s1 sections fun s sec => s.settleStep v sec
    let s3 := State.each s2 sections fun s sec => ((s.conditions v sec).evalWitness v sec).expireCauses v sec
    (State.each s3 sections fun s sec => s.disturbStep v sec, trig)

/-- R36 steps 4 to 6, R257: restoration outcomes, occupancy and clearance of a step of a supervisor, its votes and horizons, and what
the keeper publishes. A result applies in the step after the one that computed it. -/
def State.evalBack (s : State) (v : Fin 2) (trig : BitVec 4) : State :=
  if !s.evaluates v then s
  else
    let s1 := State.each s sections fun s sec => (s.barResult v sec).applyResults sec
    let s2 := State.each s1 sections fun s sec => s.restoreStep v sec
    let s3 := State.each s2 sections fun s sec => ((s.outcome v sec).selfTimer v sec).selfAttest sec
    let s4 := State.each s3 sections fun s sec => s.occupancy v sec (trig.getLsbD sec.val)
    let s5 := State.each s4 sections fun s sec => s.clearance v sec
    let s6 := State.each s5 sections fun s sec => s.castVote v sec (s.vote v sec)
    let s7 := State.eachFin (((s6.horizons v).horizonStops.isoWatch v).isoJudge) 16 fun s c => s.planStep v c
    let s8 := { s7 with keep := { s7.keep with neighbour := s7.neighbourWord v } }
    (s8.proposeBits v).publish.managePower

/-- R36: one evaluation step of a supervisor. -/
def State.evalStep (s : State) (v : Fin 2) : State :=
  let r := s.evalFront v
  r.1.evalBack v r.2

/-- An evaluation step of every supervisor that runs them. -/
def State.evalBoth (s : State) : State := (s.evalStep 0).evalStep 1

/-- R36: the steps of every supervisor up to the DISTURBED causes, with the occupancy triggers each has found. -/
def State.evalFronts (s : State) : State × (BitVec 4 × BitVec 4) :=
  let a := s.evalFront 0
  let b := a.1.evalFront 1
  (b.1, (a.2, b.2))

/-- R36: the rest of those steps. -/
def State.evalBacks (s : State) (trig : BitVec 4 × BitVec 4) : State := (s.evalBack 0 trig.1).evalBack 1 trig.2

/-! ### Commands -/

/-- EVALUATION_STEP (R48). -/
def execEvaluationStep (t : Time) (v : Fin 2) (s : State) : Host.Outcome State Fault Refusal := done ((s.at t).evalStep v)

/-- CLEAR_TIMER_EXPIRY (R193): the evaluation step at which a supervisor's clear timer has run ClearConfirmDelay. -/
def execClearTimerExpiry (t : Time) (v : Fin 2) (sec : Fin 4) (s : State) : Host.Outcome State Fault Refusal :=
  let s := s.at t
  done (match s.sv[v].props[sec].clearAt with
    | some a => s.when (decide (a + ms (s.clearConfirmDelay sec) ≤ s.clk.now)) fun s => s.evalStep v
    | none => s)

/-- DISTURBED_HOLD_EXPIRY (R199): the evaluation step at which an event cause ceases. -/
def execDisturbedHoldExpiry (t : Time) (v : Fin 2) (sec : Fin 4) (cause : Nat) (s : State) :
    Host.Outcome State Fault Refusal :=
  let s := s.at t
  done (match kvGet cause s.sv[v].props[sec].causes with
    | some a => s.when (decide (a + ms (s.disturbedHold sec) ≤ s.clk.now)) fun s => s.evalStep v
    | none => s)

/-- BEMF_ALARM (R196): the evaluation step at which valid readings above the threshold have lasted BemfTime. -/
def execBemfAlarm (t : Time) (v : Fin 2) (sec : Fin 4) (s : State) : Host.Outcome State Fault Refusal :=
  let s := s.at t
  done (match s.sv[v].props[sec].bemfAt with
    | some a => s.when (decide (a + ms (s.bemfTime sec) ≤ s.clk.now)) fun s => s.evalStep v
    | none => s)

/-- ATTEST_TIMEOUT (R255): the evaluation step at which AttestTimeout of a request has run out. -/
def execAttestTimeout (t : Time) (sec : Fin 4) (s : State) : Host.Outcome State Fault Refusal :=
  let s := s.at t
  done (s.when (s.serving.any fun v => s.sv[v].rests[sec].state == 2 && s.sv[v].rests[sec].tR != 0 &&
    decide (s.sv[v].rests[sec].reqAt + ms s.attestTimeout ≤ s.clk.now)) fun s => s.evalBoth)

/-- ATTEST_RETRY (R260): the evaluation step at which AttestRetry after a refusal has run out. -/
def execAttestRetry (t : Time) (sec : Fin 4) (s : State) : Host.Outcome State Fault Refusal :=
  let s := s.at t
  done (s.when (s.serving.any fun v => s.retryDue v sec) fun s => s.evalBoth)

/-- ATTEST_HELD_CLEAR (R257): the evaluation step at which a held result of balance 0 meets its timing. -/
def execAttestHeldClear (t : Time) (sec : Fin 4) (s : State) : Host.Outcome State Fault Refusal :=
  let s := s.at t
  done (s.when (s.serving.any fun v => s.sv[v].rests[sec].state == 3 && s.heldLong v sec) fun s => s.evalBoth)

/-- SELF_ATTESTATION (R259): the evaluation step at which its conditions have held for ClearConfirmDelay. -/
def execSelfAttestation (t : Time) (sec : Fin 4) (s : State) : Host.Outcome State Fault Refusal :=
  let s := s.at t
  done (s.when (s.serving.any fun v => match s.sv[v].props[sec].selfAt with
    | some a => decide (a + ms (s.clearConfirmDelay sec) ≤ s.clk.now)
    | none => false) fun s => s.evalBoth)

end Sys2Proof.Machine
end

