-- ==== Sys2Proof/Machine/Journal.lean ====
section
/-! DEFINITION. The configuration store and the journal of R318 to R320: entries written one by one, a journal that stops and
one that runs to its end. -/

namespace Sys2Proof.Machine

/-- The entries the configuration store holds (R12): stored settings. Key slots, bank selection and pitches are kept elsewhere. -/
def cfgKey (key : Nat) : Bool :=
  match dictRow key with
  | some r => r.stored && (r.acc == .rw || r.acc == .rwc || r.acc == .rwt) && r.index != 0x4040 && r.index != 0x4050
  | none => false

/-- R318 step 3: one entry written to the configuration store and verified by read-back. What was lost of it is whole again. -/
def State.storeEntry (s : State) (key : Nat) (v : List Byte) : State :=
  { s with
    nv := { s.nv with cfg := kvSet key v s.nv.cfg }
    sdp := { s.sdp with eccBad := s.sdp.eccBad.filter fun k => k != key } }

/-- The working configuration takes an entry. -/
def State.workEntry (s : State) (key : Nat) (v : List Byte) : State :=
  { s with sdp := { s.sdp with work := kvSet key v s.sdp.work } }

/-- R339: bit i of AppliedMap. -/
def Journal.mark (j : Journal) (i : Nat) (on : Bool) : Journal :=
  { j with map := if on then j.map ||| 2 ^ i else if j.map.testBit i then j.map - 2 ^ i else j.map }

/-- R318 step 3, R320: what the journal still has to write, in list order: list position, key and value. A rollback writes old
values where new ones stand. -/
def Journal.todo (j : Journal) : List (Nat × Nat × List Byte) :=
  (j.items.mapIdx fun i e => (i, e)).filterMap fun p =>
    if j.map.testBit p.1 == j.back then some (p.1, p.2.1, if j.back then p.2.2.1 else p.2.2.2) else none

/-- The key of BoundPosition. -/
def keyBound : Nat := dkey 0x4030 2

/-- R322: the transaction of the journal binds the stored configuration to the position. -/
def Journal.binding (j : Journal) : Bool := j.items.any fun e => e.1 == keyBound

/-- R318 step 3: list entries written. -/
def State.journalWrite (s : State) (l : List (Nat × Nat × List Byte)) : State :=
  State.each s l fun s p =>
    let s1 := s.when (cfgKey p.2.1) fun s => s.storeEntry p.2.1 p.2.2
    { s1 with nv := { s1.nv with journal := s1.nv.journal.mark p.1 (!s1.nv.journal.back) } }

/-- R319: a journal under way stops: state 3, with its cause and time. -/
def State.journalStop (s : State) (cause : Nat) : State :=
  if s.nv.journal.state = 2 then
    { s with
      nv := { s.nv with journal := { s.nv.journal with state := 3, cause := cause, time := s.tbNow } }
      sdp := { s.sdp with jrnReply := none } }
  else s

/-- R318 steps 3 and 4: the rest is written, and the journal is idle. -/
def State.journalFinish (s : State) : State :=
  let s1 := s.journalWrite s.nv.journal.todo
  { s1 with
    nv := { s1.nv with journal := { s1.nv.journal with state := 0, cause := 0, time := 0 } }
    sdp := { s1.sdp with jrnOpen := false } }

end Sys2Proof.Machine
end

