-- ==== Sys2Proof/Machine/Keeper.lean ====
section
/-! DEFINITION. The count keeper, the Tumbler, the Verdict port, the Deadbolt and the failure of a supervisor (R51 to R54,
R57, R58, R171, R172, R187, R195, R246, R277, R278, R432, R444), with their commands. -/

namespace Sys2Proof.Machine

/-! ### Failure of a supervisor (R57, R58, R432) -/

/-- R58 steps 1 and 2: a supervisor in service fails: its vote lines are forced to drop and its proposals held. `row` is the
row of R432 that found it. -/
def State.svFail (s : State) (v : Fin 2) (cause row : Nat) : State :=
  if !s.sv[v].serves then s
  else
    let s0 := (s.isoAbort false).unacknowledge v
    let s1 := s0.onSv v fun x => { x with
      st := .failed, failCause := cause, failTime := s.tbNow, votes := Vector.replicate 4 (.drop 4), inbox := [] }
    let s2 := State.each s1 sections fun s n => s.dropPermit n [4] []
    let s3 := { s2 with
      keep := { s2.keep with failedAt := some s.clk.now, tumbler := {} }
      nv := { s2.nv with svLock := updV s2.nv.svLock v fun n => if cause = 1 then n + 1 else n } }
    let s3 := s3.when (s3.serving.isEmpty && s3.phase == .service) fun s => s.journalStop 5
    (((s3.record (codeFaultRow row) (svSource v) [BitVec.ofNat 8 v.val, BitVec.ofNat 8 cause]).wakeEvent 2).publish).managePower

/-- SUPERVISOR_FAILURE (R57, R58): a lockstep mismatch or an uncorrectable word. -/
def execSupervisorFailure (t : Time) (v : Fin 2) (cause : SvFault) (s : State) : Host.Outcome State Fault Refusal :=
  done ((s.at t).svFail v (match cause with
    | .lockstep => 1
    | .ecc => 2) 1)

/-- SUPERVISOR_CLOCK_FAULT (R432): the pair is stopped and reported through its comparator. -/
def execSupervisorClockFault (t : Time) (v : Fin 2) (s : State) : Host.Outcome State Fault Refusal :=
  done ((s.at t).svFail v 1 2)

/-- STEP_OVERRUN (R432, R337): four consecutive periods overrun stop the pair. -/
def execStepOverrun (t : Time) (v : Fin 2) (s : State) : Host.Outcome State Fault Refusal :=
  let s := s.at t
  done ((s.when s.sv[v].serves fun s => s.onSv v fun x => { x with overruns := x.overruns + 4 }).svFail v 1 3)

/-- R172: the survivor brings one entry to rest, in its own copy. -/
def State.restEntry (s : State) (w : Fin 2) (slot : Fin 2048) : State :=
  match s.led.entry w slot with
  | none => s
  | some en =>
    if en.st = .detected then s.countEntry w slot true
    else if en.st = .countedOne then
      (if en.ack then (s.acknowledge w slot true).becameCounted { en with st := .counted } else s.countEntry w slot true)
    else s

/-- R172: every entry in the order of allocation. -/
def State.restLedger (s : State) (w : Fin 2) : State :=
  let l := sortBy (fun p : Nat × Entry => 65536 - s.led.age p.2) s.led.copies[w]
  State.each s l fun s p => if h : p.1 < 2048 then s.restEntry w ⟨p.1, h⟩ else s

/-- R58 step 3: the survivor switches the merge and the Deadbolt to single-supervisor mode. -/
def State.enterDegraded (s : State) (w : Fin 2) : State :=
  let s1 := (s.evalStep w).restLedger w
  let s2 := s1.onSv w fun x => { x with st := .survivor }
  let s3 := { s2 with keep := { s2.keep with
    degraded := true, degradedAt := some s.clk.now, failedAt := none, tumbler := {} } }
  let s4 := s3.record codeDegraded (svSource w) [BitVec.ofNat 8 w.val]
  let s5 := State.each s4 sections fun s n => s.publishWord n ((s.keep.merged[n]).word true)
  s5.evalStep w

/-- DEGRADED_CLEAR_EXPIRY (R195): DegradedClearTime of sections has run out; each section's expiry is recorded once. -/
def execDegradedClearExpiry (t : Time) (s : State) : Host.Outcome State Fault Refusal :=
  let s := s.at t
  done (s.when s.keep.degraded fun s =>
    State.each s (sections.filter fun n => !s.keep.expired.getLsbD n.val && s.degradedLeft n == 0) fun s n =>
      { s with keep := { s.keep with expired := s.keep.expired ||| (1 <<< n.val) } }.record codeDegradedExpiry 0
        [BitVec.ofNat 8 n.val])

/-! ### Ledger scrub (R171, R172) -/

/-- LEDGER_SCRUB (R171, R172): what the scrub of one slot of one copy finds. An uncorrectable word fails the copy's supervisor;
between the other's failure and degraded run, the survivor's entry becomes VOID instead. -/
def execLedgerScrub (t : Time) (slot : Fin 2048) (copy : Fin 2) (r : ScrubResult) (s : State) :
    Host.Outcome State Fault Refusal :=
  let s := s.at t
  let count (i : Fin 4) (s : State) : State := { s with nv := { s.nv with ledger := updV s.nv.ledger i (· + 1) } }
  done (match r with
    | .clean => s
    | .corrected => count 1 s
    | .uncorrectable =>
      if s.alone copy && !s.keep.degraded then s.voidEntry slot 8 else s.svFail copy 2 1
    | .differ => (count 2 s).voidEntry slot 4)

/-! ### Checkpoints (R165, R245, R246, R446) -/

/-- R446: the slots still in rotation. -/
def State.ckptSlots (s : State) : Nat := s.nv.repair.ckSlots

/-- R246: a write into the next slot of the rotation. -/
def State.storeCkpt (s : State) (c : Checkpoint) : State :=
  let l := s.nv.ckpts ++ [c]
  { s with nv := { s.nv with
      ckpts := if s.ckptSlots < l.length then l.drop (l.length - s.ckptSlots) else l
      ckSeq := c.seq
      ckTime := c.time
      ckWrites := s.nv.ckWrites + 1 } }

/-- R165: entries whose count the written checkpoint includes. -/
def State.markCkpt (s : State) (c : Checkpoint) : State :=
  let put (l : LedgerCopy) : LedgerCopy :=
    l.map fun p => (p.1, if p.2.st = .counted ∧ s.toTb p.2.since ≤ c.time then { p.2 with ckpt := true } else p.2)
  { s with led := { s.led with copies := #v[put s.led.copies[0], put s.led.copies[1]] } }

/-- R446: a slot that fails takes a spare row; without a spare it is retired. -/
def State.ckptFailed (s : State) : State :=
  let r := s.nv.repair
  let s1 := { s with nv := { s.nv with ckErrors := s.nv.ckErrors + 1 } }
  if 0 < r.spares[7] then
    { s1 with nv := { s1.nv with repair := { r with spares := r.spares.set 7 (r.spares[7] - 1) } } }.record codeRepair 0 [7]
  else
    let s2 := { s1 with nv := { s1.nv with repair := { r with ckSlots := r.ckSlots - 1 } } }
    if r.ckSlots ≤ 1 then s2.record codeReplaceModule 0 [7] else s2

/-- The write of a checkpoint ends. -/
def State.ckptDone (s : State) (ok : Bool) : State :=
  match s.keep.ckBusy with
  | none => s
  | some c =>
    let s1 := { s with keep := { s.keep with ckBusy := none } }
    if s1.ckptSlots = 0 then s1
    else if ok then (s1.storeCkpt c).markCkpt c
    else (s1.storeCkpt { c with good := false, counted := true }).ckptFailed

/-- CHECKPOINT_DONE (R165, R246). -/
def execCheckpointDone (t : Time) (ok : Bool) (s : State) : Host.Outcome State Fault Refusal :=
  let s := s.at t
  done (s.when s.keep.ckBusy.isSome fun s => (s.ckptDone ok).attestEntries.checkpointDue)

/-! ### The Tumbler (R187) -/

/-- R187: counters of a section differ. -/
def State.secDiffers (s : State) (n : Fin 4) : Bool :=
  let a := s.sv[0].secs[n]
  let b := s.sv[1].secs[n]
  a.b != b.b || a.bs != b.bs || a.z != b.z

/-- R187: proposals of a section differ. -/
def State.propDiffers (s : State) (n : Fin 4) : Bool :=
  let a := s.sv[0].props[n]
  let b := s.sv[1].props[n]
  a.state != b.state || a.dirValid != b.dirValid || a.dir != b.dir || a.noEntry != b.noEntry || a.witness != b.witness

/-- R187: counters of a head differ. -/
def State.headDiffers (s : State) (h : Fin 8) : Bool :=
  s.sv[0].heads[h].pos != s.sv[1].heads[h].pos || s.sv[0].heads[h].neg != s.sv[1].heads[h].neg

/-- R187: the Tumbler runs with both supervisors in service. -/
def State.tumbling (s : State) : Bool := s.sv[0].st == .inService && s.sv[1].st == .inService

/-- R187: since when each thing compared differs. -/
def State.tumblerSeen (s : State) : Tumbler :=
  let k := s.keep.tumbler
  let upd (o : Option Time) (d : Bool) : Option Time := if d then some (o.getD s.clk.now) else none
  { k with
    secAt := Vector.ofFn fun n => upd k.secAt[n] (s.secDiffers n)
    propAt := Vector.ofFn fun n => upd k.propAt[n] (s.propDiffers n)
    headAt := Vector.ofFn fun h => upd k.headAt[h] (s.headDiffers h) }

/-- TUMBLER_COMPARE (R187). -/
def execTumblerCompare (t : Time) (s : State) : Host.Outcome State Fault Refusal :=
  let s := s.at t
  done (s.when s.tumbling fun s => { s with keep := { s.keep with tumbler := s.tumblerSeen } })

/-- A time after which a difference is no longer tolerated. -/
def State.overdue (s : State) (o : Option Time) (d : Time) : Bool :=
  match o with
  | some a => decide (a + d < s.clk.now)
  | none => false

/-- R187, R198: a Tumbler mismatch that is not resolved. -/
def State.mismatch (s : State) (n : Fin 4) : State :=
  ((s.onNvSec n fun e => { e with mismatch := e.mismatch + 1 }).record codeTumblerMismatch 3 [BitVec.ofNat 8 n.val]).notify
    (.cause n 8 none)

/-- TUMBLER_TOLERANCE_EXPIRY (R187): a counter that has differed for more than 24 µs is re-derived; a proposal that has
differed for more than 100 µs is a comparison cause. -/
def execTumblerToleranceExpiry (t : Time) (s : State) : Host.Outcome State Fault Refusal :=
  let s := s.at t
  done (s.when s.tumbling fun s =>
    let k := s.tumblerSeen
    let late := sections.filter fun (n : Fin 4) => s.overdue k.propAt[n] (us 100)
    let counters := (sections.any fun (n : Fin 4) => s.overdue k.secAt[n] (us 24)) ||
      heads.any fun (h : Fin 8) => s.overdue k.headAt[h] (us 24)
    let k1 : Tumbler := { k with
      propAt := Vector.ofFn fun n => if late.contains n then none else k.propAt[n]
      rederiving := k.rederiving || counters
      rederiveAt := if counters && !k.rederiving then s.clk.now else k.rederiveAt }
    State.each { s with keep := { s.keep with tumbler := k1 } } late fun s n => s.mismatch n)

/-- R187, R168: the entries of some heads that a supervisor has counted since the last checkpoint, from its own copy, in the order
in which it counted them. -/
def State.countedSince (s : State) (v : Fin 2) (hs : List (Fin 8)) : List Entry :=
  sortBy (fun e : Entry => e.ackNo)
    ((s.led.copies[v].filter fun p => hs.contains p.2.head && p.2.ack && !p.2.ckpt && p.2.st != .void).map fun p => p.2)

/-- R187: a head's counters from the last checkpoint and those entries. -/
def State.rederiveHead (s : State) (v : Fin 2) (h : Fin 8) (c : Checkpoint) : HeadCnt → HeadCnt := fun k =>
  let l := s.countedSince v [h]
  { k with
    pos := c.pos[h] + BitVec.ofNat 32 (l.filter fun e => !e.dir).length
    neg := c.neg[h] + BitVec.ofNat 32 (l.filter fun e => e.dir).length }

/-- R187: a section's counters from the last checkpoint, the entries counted and the passages settled since. -/
def State.rederiveSec (s : State) (v : Fin 2) (n : Fin 4) (c : Checkpoint) : SecCnt → SecCnt := fun k =>
  let b := (s.countedSince v (s.legHeadsOf n)).foldl (fun b e => match s.ownPlace n e.head (!e.dir) with
    | some (.leg _, into) => (balanceStep b into).1
    | _ => b) c.bal[n]
  let ch := (k.recent.filter fun q => decide (c.tSet[n] < q.tc)).map fun q => s.zoneChange n q
  { k with
    b := b
    bs := ch.foldl (fun a d => wrap16 (a + d.1)) c.bs[n]
    z := ch.foldl (fun z d => zonesChanged z d.2) c.z[n] }

/-- R187: every counter that differs is re-derived by both supervisors. -/
def State.rederive (s : State) : State :=
  match newestCkpt s.nv.ckpts with
  | none => s
  | some c =>
    let hs := heads.filter fun h => s.headDiffers h
    let ns := sections.filter fun n => s.secDiffers n
    State.each s (List.finRange 2) fun s v =>
      let s1 := State.each s hs fun s h => s.onSv v fun x => x.onHead h (s.rederiveHead v h c)
      State.each s1 ns fun s n => s.onSv v fun x => x.onSec n (s.rederiveSec v n c)

/-- TUMBLER_REDERIVE_DONE (R187): the counters agree now, or a comparison cause follows. -/
def execTumblerRederiveDone (t : Time) (s : State) : Host.Outcome State Fault Refusal :=
  let s := s.at t
  done (s.when (s.tumbling && s.keep.tumbler.rederiving) fun s =>
    let hit := sections.filter fun (n : Fin 4) => s.secDiffers n || (s.headsOf n).any fun h => s.headDiffers h
    let s1 := s.rederive
    let s2 := { s1 with keep := { s1.keep with tumbler := { s1.keep.tumbler with
      rederiving := false, secAt := Vector.replicate 4 none, headAt := Vector.replicate 8 none } } }
    (State.each s2 hit fun s n =>
      if s.secDiffers n || (s.headsOf n).any fun h => s.headDiffers h then s.mismatch n
      else (s.onNvSec n fun e => { e with resolved := e.resolved + 1 }).record codeTumblerResolved 3
        [BitVec.ofNat 8 n.val]).checkpointDue)

/-! ### The Verdict port and the Deadbolt (R51 to R54, R278, R444) -/

/-- VERDICT_SHADOW_LOAD (R51, R52): the shadow takes the whole word; decisions made meanwhile go into the next transfer. -/
def execVerdictShadowLoad (t : Time) (sec : Fin 4) (s : State) : Host.Outcome State Fault Refusal :=
  let s := s.at t
  done (match s.keep.holding[sec] with
    | none => s
    | some w =>
      let next := if s.keep.waiting[sec] then some (s.keep.merged[sec].word s.keep.degraded) else none
      { s with keep := { s.keep with
          shadow := updV s.keep.shadow sec fun _ => w
          holding := updV s.keep.holding sec fun _ => next
          waiting := updV s.keep.waiting sec fun _ => false } })

/-- DEADBOLT_DROP (R53, R54, R277): an input of PERMITn becomes active: the latch clears, and qualification starts again from
zero once no input is active. A fault line of a head that does not concern section n is no input of PERMITn. -/
def execDeadboltDrop (t : Time) (n : Fin 4) (input : DropInput) (s : State) : Host.Outcome State Fault Refusal :=
  let s := s.at t
  let voteCause (v : Fin 2) : Nat := match s.sv[v].votes[n] with
    | .drop 0 => 1
    | .drop c => c
    | .rise => 1
  done (match input with
    | .voteA => (s.dropPermit n [voteCause 0] []).requalify
    | .voteB => (s.dropPermit n [voteCause 1] []).requalify
    | .faultLine h => if s.headConcerns h n then (s.dropPermit n [3] [h]).requalify else s
    | .selfTest => (s.dropPermit n [5] []).requalify)

/-- PERMIT_RISE (R53): the rise qualification has run at least 8 µs with no input active, and the latch sets. -/
def execPermitRise (t : Time) (n : Fin 4) (s : State) : Host.Outcome State Fault Refusal :=
  let s := s.at t
  done (match s.keep.permits[n].qualAt with
    | some a => s.when (decide (a + us 8 ≤ s.clk.now) && !s.dropActive n) fun s =>
        s.onPermit n fun p => { p with latch := true, qualAt := none, lowSince := none }
    | none => s)

/-- R278, R7: W1C of FDROP and FHEAD; a fault drop of the same cycle stays. -/
def State.deadboltClear (s : State) (w : Word) : State :=
  { s with keep := { s.keep with
    fdrop := s.keep.fdrop &&& (~~~(w.setWidth 4) ||| setNow s.keep.fdropAt s.clk.now)
    fhead := s.keep.fhead &&& (~~~((w >>> 8).setWidth 8) ||| setNow s.keep.fheadAt s.clk.now) } }

/-- DEADBOLT_CLEAR (R278). -/
def execDeadboltClear (t : Time) (w : Word) (s : State) : Host.Outcome State Fault Refusal := done ((s.at t).deadboltClear w)

end Sys2Proof.Machine
end

