-- ==== Sys2Proof/Machine/Net.lean ====
section
/-! DEFINITION. The ports of the field network and what Stoska sends on them: egress queues and gates, learnt addresses,
redundancy trailers, supervision frames (R209, R344 to R352, R354 to R357, R368). -/

namespace Sys2Proof.Machine

/-! ### Frames (R5, R209, R294, R349, R355) -/

/-- The octets of an address, first octet first. -/
def macBytes (m : Mac) : List Byte := (leBytes 6 m.toNat).reverse

/-- The address that six octets spell. -/
def macOf (l : List Byte) : Mac := BitVec.ofNat 48 (leNat (l.take 6).reverse)

/-- A group address has the low bit of its first octet set. -/
def isGroup (m : Mac) : Bool := m.getLsbD 40

/-- The addresses 01-80-C2-00-00-00 to 01-80-C2-00-00-0F. -/
def isLinkLocal (m : Mac) : Bool := m &&& 0xFFFFFFFFFFF0 == 0x0180C2000000

/-- R209: the first two bytes after the EtherType name the company identifier and the protocol. -/
def ouiBytes : List Byte := [0x9A, 0x4E, 0x17]

/-- R209, R294: a frame with EtherType 0x88B7 and the Iavik OUI, and its protocol identifier. -/
def protocolOf (f : Frame) : Option Nat :=
  if f.ether == 0x88B7 && f.body.take 3 == ouiBytes then
    match f.body.drop 3 with
    | a :: b :: _ => some (a.toNat * 256 + b.toNat)
    | _ => none
  else none

def protoHasp : Nat := 0x5D18
def protoSdp : Nat := 0x5D17

/-- R296, R311: the OP of an SDP frame is that of a request: no response, and no emergency of another node. -/
def requestOp (f : Frame) : Bool := match f.body.drop 6 with
  | op :: _ => decide (op.toNat < 128) && op != 0x60
  | [] => false

/-- R308: the dictionary requests that have come from the field network and are not served yet, oldest first. -/
def State.sdpQueue (s : State) : List Frame :=
  (s.net.delivered.map fun x => x.2).filter fun f => protocolOf f == some protoSdp && requestOp f
def etherTime : BitVec 16 := 0x88F7
def etherPrp : BitVec 16 := 0x88FB

/-- Bytes of a frame from its destination address to its FCS. -/
def frameSize (f : Frame) : Nat :=
  18 + (if f.tag.isSome then 4 else 0) + f.body.length + (if f.prp.isSome then 6 else 0)

/-- R209: time on the wire at 10 Mb/s, preamble and interframe gap included. -/
def wireTime (f : Frame) : Time := 800 * (frameSize f + 20)

/-- R352: the queue of a frame. -/
def queueOf (f : Frame) : Fin 3 :=
  if f.ether == etherTime then 0
  else match f.tag with
    | some t => if decide (4 ≤ t.pcp.toNat) then 1 else 2
    | none => 2

/-- IEEE 802.3: the smallest frame is filled up with zeros. -/
def padded (b : List Byte) : List Byte := b ++ List.replicate (46 - b.length) 0

/-- R344: the side and the lane of a port: 0 west, 1 east; 0 A, 1 B. -/
def sideOf (p : Fin 4) : Fin 2 := ⟨p.val % 2, by omega⟩
def laneOf (p : Fin 4) : Fin 2 := ⟨p.val / 2, by omega⟩
/-- The port of a lane on a side. -/
def portOf (lane side : Fin 2) : Fin 4 := ⟨2 * lane.val + side.val, by omega⟩
/-- The other port of the same lane. -/
def twinPort (p : Fin 4) : Fin 4 := portOf (laneOf p) ⟨1 - p.val % 2, by omega⟩
/-- The ports. -/
def ports : List (Fin 4) := List.finRange 4

/-! ### Egress (R350, R352, R368) -/

/-- R352: the gate lets a frame of a known wire time start. One whose length is not known starts only where no gate closes. -/
def Port.gateOpen (p : Port) (now : Time) (dur : Option Time) : Bool :=
  match p.gate with
  | none => true
  | some g => decide (g ≤ now) || (match dur with
      | some d => decide (now + d ≤ g)
      | none => false)

/-- R352: the first frame in strict priority, with its queue. -/
def Port.front (p : Port) : Option (TxFrame × Fin 3) :=
  match p.queues[0], p.queues[1], p.queues[2] with
  | x :: _, _, _ => some (x, 0)
  | [], x :: _, _ => some (x, 1)
  | [], [], x :: _ => some (x, 2)
  | [], [], [] => none

/-- R352: a free port starts the first frame where the gate lets it. -/
def Port.next (p : Port) (now : Time) : Port :=
  if !p.link || p.sending.isSome then p
  else match p.front with
    | none => p
    | some (x, q) =>
      if p.gateOpen now (some (wireTime x.frame)) then
        { p with sending := some x, queues := updV p.queues q fun l => l.drop 1 }
      else p

/-- Every free port starts what it may. -/
def State.serveQueues (s : State) : State := State.each s ports fun s p => s.onPort p fun x => x.next s.clk.now

/-- R352, R368: a frame joins its queue of a port. A port without link takes none; a full queue drops it, recorded. -/
def State.enqueue (s : State) (p : Fin 4) (x : TxFrame) : State :=
  let q := queueOf x.frame
  let port := s.net.ports[p]
  if !port.link then s
  else
    let direct := port.sending.isNone && port.front.isNone && port.gateOpen s.clk.now (some (wireTime x.frame))
    if direct then s.onPort p fun y => { y with sending := some x }
    else if port.queues[q].length < Config.queueDepth then
      s.onPort p fun y => ({ y with queues := updV y.queues q fun l => l ++ [x] }).next s.clk.now
    else s.record codeQueueDrop 0 [BitVec.ofNat 8 p.val, BitVec.ofNat 8 q.val]

/-- The frame on a port ends, and the next one starts. -/
def State.frameEnds (s : State) (p : Fin 4) : State :=
  match s.net.ports[p].sending with
  | none => s
  | some x =>
    let s1 := s.onPort p fun y => { y with sending := none }
    let s2 := { s1 with net := { s1.net with sent := s1.net.sent ++ [(p, x)] } }
    s2.onPort p fun y => y.next s.clk.now

/-- R352, R456: every frame in progress ends with a wrong FCS and every queue is discarded; the switch forwards no more. -/
def State.switchStops (s : State) : State :=
  let s1 := State.each s ports fun s p =>
    (s.onPort p fun y => { y with
      sending := y.sending.map fun x => { x with badFcs := true }
      queues := Vector.replicate 3 []
      gate := none }).frameEnds p
  { s1 with net := { s1.net with stopped := true } }

/-! ### Frames that Stoska originates (R351, R355) -/

/-- R355: the trailer of a frame on a port. -/
def trailerFor (seq : BitVec 16) (p : Fin 4) (tagged : Bool) (body : List Byte) : PrpTrailer :=
  { seqNr := seq, lanId := if laneOf p = 0 then 0xA else 0xB
    size := BitVec.ofNat 12 ((if tagged then 4 else 0) + 2 + body.length + 6) }

/-- R355: one frame with a trailer on some ports, under one SeqNr. Before the trailers are enabled nothing is sent. -/
def State.sendFrame (s : State) (dest : List (Fin 4)) (dst : Mac) (tag : Option Tag) (ether : BitVec 16) (data : List Byte) :
    State :=
  if !s.net.trailers then s
  else
    let body := padded data
    let s1 := State.each s dest fun s p =>
      let f : Frame := { dst := dst, src := s.part.nodeMac, tag := tag, ether := ether, body := body
                         prp := some (trailerFor s.net.seqNr p tag.isSome body), fcsOk := true }
      s.enqueue p { frame := f, cls := (queueOf f).val }
    { s1 with net := { s1.net with seqNr := s1.net.seqNr + 1 } }

/-- R351: an address ages out 300 s after it was last learnt. -/
def ageLimit : Time := secs 300

/-- R351: the side on which an address was learnt: true east. -/
def State.learntSide (s : State) (m : Mac) : Option Bool :=
  (s.net.learnt.find? fun e => e.1 == m && decide (s.clk.now < e.2.2 + ageLimit)).map fun e => e.2.1

/-- R351: the ports by which a frame of Stoska's own leaves. -/
def State.portsTo (s : State) (dst : Mac) : List (Fin 4) :=
  if isGroup dst then ports
  else match s.learntSide dst with
    | some east => ports.filter fun p => sideOf p == (if east then 1 else 0)
    | none => ports

/-- R351: a frame of Stoska's own, other than Hasp, time base or supervision. A stopped switch sends none. -/
def State.originate (s : State) (dst : Mac) (tag : Option Tag) (ether : BitVec 16) (data : List Byte) : State :=
  if s.net.stopped then s else s.sendFrame (s.portsTo dst) dst tag ether data

/-- R294: an SDP frame. -/
def State.sendSdp (s : State) (dst : Mac) (tag : Option Tag) (payload : List Byte) : State :=
  s.originate dst tag 0x88B7 (ouiBytes ++ [0x5D, 0x17] ++ payload)

/-- R333: the tag of an SDP frame that Stoska sends unasked. -/
def State.dictTag (s : State) : Option Tag := some { pcp := BitVec.ofNat 3 s.dictPriority, vid := 0 }

/-- R355: an IEEE 802.1AS message carries no trailer. Of its content the spec gives nothing; the body is its message type. -/
def State.sendTime (s : State) (p : Fin 4) (dst : Mac) (body : List Byte) : State :=
  if s.net.stopped then s
  else
    let f : Frame := { dst := dst, src := s.part.nodeMac, tag := none, ether := etherTime, body := padded body, prp := none
                       fcsOk := true }
    s.enqueue p { frame := f, cls := 0 }

/-- The address of IEEE 802.1AS messages. -/
def timeMac : Mac := 0x0180C200000E

/-! ### Commands -/

/-- R214: the next SEND_TIME of a connection after a time base time, in the time base. -/
def State.nextSend (s : State) (k : Nat) (tb : Time) : Time :=
  let per := ms s.haspPeriod
  let off := us (s.sendOffset k)
  if tb < off then off else off + ((tb - off) / per + 1) * per

/-- R352: the next SEND_TIME of the enabled connections on a side, in elapsed time. -/
def State.sideSend (s : State) (side : Fin 2) : Option Time :=
  let l := (List.finRange 8).filter fun (k : Fin 8) => s.connEnable k && s.connSide k == side.val
  (l.map fun (k : Fin 8) => s.clk.now + (s.nextSend k s.tbNow - s.tbNow)).foldl (fun acc t => match acc with
    | none => some t
    | some a => some (min a t)) none

/-- HASP_GATE_CLOSE (R352): the gate of a port closes for the next SEND_TIME of a connection on its side. Where none is sent
(R214, R366) only the clock moves. -/
def execHaspGateClose (t : Time) (port : Fin 4) (s : State) : Host.Outcome State Fault Refusal :=
  let s := s.at t
  done (s.when (!s.net.stopped && s.timeGood && s.phase == .service) fun s =>
    s.onPort port fun p => { p with gate := s.sideSend (sideOf port) })

/-- EGRESS_FRAME_END (R352). -/
def execEgressFrameEnd (t : Time) (port : Fin 4) (s : State) : Host.Outcome State Fault Refusal :=
  done ((s.at t).frameEnds port)

/-- ADDRESS_AGEOUT (R351): entries older than 300 s go. -/
def execAddressAgeout (t : Time) (s : State) : Host.Outcome State Fault Refusal :=
  let s := s.at t
  done { s with net := { s.net with learnt := s.net.learnt.filter fun e => decide (s.clk.now < e.2.2 + ageLimit) } }

/-- R356: a source is held for 60 s after its last frame, a SeqNr for PrpEntryForgetTime after its first copy. -/
def State.prpForget (s : State) : State :=
  { s with net := { s.net with
      nodes := s.net.nodes.filter fun e => decide (s.clk.now < e.2 + secs 60)
      seen := s.net.seen.filter fun e => decide (s.clk.now < e.2.2 + ms s.prpEntryForgetTime) } }

/-- NODE_TABLE_AGEOUT (R356). -/
def execNodeTableAgeout (t : Time) (s : State) : Host.Outcome State Fault Refusal := done ((s.at t).prpForget)

/-- PRP_TRAILER_ENABLE (R355): PrpEntryForgetTime has passed since release from reset. Before then only the clock moves. -/
def execPrpTrailerEnable (t : Time) (s : State) : Host.Outcome State Fault Refusal :=
  let s := s.at t
  done (s.when (s.released && decide (s.pins.releaseAt + ms s.prpEntryForgetTime ≤ s.clk.now)) fun s =>
    { s with net := { s.net with trailers := true } })

/-- The address of PRP supervision frames. -/
def superMac : Mac := 0x01154E000100

/-- SUPERVISION_FRAME (R357): one frame on both lanes each PrpLifeCheckInterval. Before it has passed, or while no frame with a
trailer may be sent, only the clock moves. -/
def execSupervisionFrame (t : Time) (s : State) : Host.Outcome State Fault Refusal :=
  let s := s.at t
  let due := match s.net.superAt with
    | some a => decide (a + ms s.prpLifeCheckInterval ≤ s.clk.now)
    | none => true
  done (s.when (due && s.net.trailers && !s.net.stopped) fun s =>
    let s1 := s.sendFrame ports superMac none etherPrp ([20, 6] ++ macBytes s.part.nodeMac)
    { s1 with net := { s1.net with superAt := some s.clk.now } })

end Sys2Proof.Machine
end

