-- ==== Sys2Proof/Machine/TimeBase.lean ====
section
/-! DEFINITION. The time base: time states, the step of R362, slewing, the best master clock, path delay, SYNC_PPS, and the
links they rest on (R346, R348, R351, R358 to R365, R368, R432). -/

namespace Sys2Proof.Machine

/-! ### The step (R362) -/

/-- A time moved by a step; 0, which stands for none, stays. R6: not below 0. -/
def movedTime (d : Int) (t : Time) : Time := if t = 0 then 0 else ((t : Int) + d).toNat

/-- R362: an optional time moved. -/
def movedOpt (d : Int) (t : Option Time) : Option Time := t.map (movedTime d)

/-- R362: an episode's stamps. -/
def Episode.movedBy (e : Episode) (d : Int) : Episode :=
  { e with
    first := movedTime d e.first
    onset := e.onset.map (movedOpt d)
    conf := e.conf.map (movedOpt d)
    ends := e.ends.map fun o => o.map fun x => { x with stamp := movedTime d x.stamp, centroid := movedTime d x.centroid }
    prev := e.prev.map fun p => (p.1, movedTime d p.2) }

/-- R362: a detector's stamps of the presence in progress (log entry 11). -/
def Det.movedBy (x : Det) (d : Int) : Det :=
  { x with
    lastAt := movedTime d x.lastAt
    resumeAt := movedTime d x.resumeAt
    onset := movedTime d x.onset
    runStart := movedTime d x.runStart
    cenNum := x.cenNum + x.cenDen * d
    lastOnset := movedOpt d x.lastOnset }

/-- R362: an event's stamps. -/
def movedEvent (d : Int) (ev : PresenceEvent) : PresenceEvent :=
  { ev with stamp := movedTime d ev.stamp, centroid := movedTime d ev.centroid }

/-- R362: an entry's stamps; its ONSET stamp keeps its 48 bits (R163). -/
def Entry.movedBy (e : Entry) (d : Int) : Entry :=
  { e with stamp := movedTime d e.stamp % 2 ^ 48, tc := movedTime d e.tc, mid := movedTime d e.mid }

/-- R362: a queued passage. -/
def QPass.movedBy (q : QPass) (d : Int) : QPass := { q with tc := movedTime d q.tc }

/-- R362: the times of a flag's changes. -/
def movedLog (d : Int) (l : FlagLog) : FlagLog := l.map fun p => (movedTime d p.1, p.2)

/-- R362: T_C in settle queues, T_set, zone histories and the axles of the transit model. -/
def SecCnt.movedBy (k : SecCnt) (d : Int) : SecCnt :=
  { k with
    tSet := movedTime d k.tSet
    queue := k.queue.map fun q => q.movedBy d
    recent := k.recent.map fun q => q.movedBy d
    hist := k.hist.map fun l => l.map fun p => (movedTime d p.1, p.2)
    soundLog := movedLog d k.soundLog
    tq := movedTime d k.tq
    transit := k.transit.map fun l => l.map fun a => { a with tc := movedTime d a.tc } }

/-- R362: the histories of a head. -/
def HeadCnt.movedBy (k : HeadCnt) (d : Int) : HeadCnt :=
  { k with
    hist := k.hist.map fun p => (movedTime d p.1, p.2)
    eps := k.eps.map fun p => (movedTime d p.1, movedTime d p.2) }

/-- R362: the times of a passage record. -/
def PassRec.movedBy (r : PassRec) (d : Int) : PassRec := { r with tc := movedTime d r.tc }

/-- R362: the times of a telegram held, and of what waits to be processed (R387). -/
def Tele.movedBy (x : Tele) (d : Int) : Tele :=
  { x with
    sendTime := movedTime d x.sendTime
    completeTo := movedTime d x.completeTo
    ackTo := movedTime d x.ackTo
    zoneTime := movedTime d x.zoneTime
    reqTime := movedTime d x.reqTime
    attTime := movedTime d x.attTime
    recs := x.recs.map fun r => r.movedBy d }

/-- R362: Hasp mirror times. -/
def SvConn.movedBy (c : SvConn) (d : Int) : SvConn :=
  { c with
    last := c.last.map fun x => x.movedBy d
    delivered := movedTime d c.delivered
    tN := movedOpt d c.tN
    ackAt := movedTime d c.ackAt
    pendCmp := c.pendCmp.map fun p => (movedTime d p.1, p.2)
    matched := movedOpt d c.matched
    sendRecs := c.sendRecs.map (fun r => r.movedBy d)
    unread := c.unread.map fun u => (u.1, u.2.movedBy d) }

/-- R362: a notice on its way to a supervisor. -/
def movedNotice (d : Int) (n : Notice) : Notice :=
  match n with
  | .presence ev slot ended => .presence (movedEvent d ev) slot ended
  | .headFault h => .headFault h
  | .cause sec code leg => .cause sec code leg

/-- R362: every TIME64 a supervisor holds. -/
def Sv.movedBy (x : Sv) (d : Int) : Sv :=
  { x with
    inbox := x.inbox.map (movedNotice d)
    der := x.der.map fun e => e.movedBy d
    heads := x.heads.map fun k => k.movedBy d
    secs := x.secs.map fun k => k.movedBy d
    props := x.props.map fun p => { p with since := movedTime d p.since, routeT := movedTime d p.routeT }
    conns := x.conns.map fun c => c.movedBy d
    rests := x.rests.map fun r => { r with tR := movedTime d r.tR }
    entry := x.entry.map (movedOpt d)
    horizon := x.horizon.map (movedOpt d) }

/-- R362: the time base steps by d, and with it every TIME64 of the passage unit, the Ledger and the supervisors; with those of
the kinematic estimator, the merge and the engines (log entry 11). Elapsed time does not move. -/
def State.stepTime (s : State) (d : Int) : State :=
  let put (c : LedgerCopy) : LedgerCopy := c.map fun p => (p.1, p.2.movedBy d)
  { s with
    clk := { s.clk with tbOff := s.clk.tbOff + d, slew := 0 }
    pas := { s.pas with eps := s.pas.eps.map (fun e => e.movedBy d), gone := s.pas.gone.map (movedEvent d) }
    past := Vector.replicate 8 none
    led := { s.led with copies := s.led.copies.map put }
    sv := s.sv.map fun x => x.movedBy d
    eng := { s.eng with dets := s.eng.dets.map (fun x => x.movedBy d), out := s.eng.out.map (movedEvent d) }
    kin := s.kin.map fun k => { k with ref := movedTime d k.ref, entry := movedTime d k.entry }
    keep := { s.keep with
      cumValid := s.keep.cumValid.map (movedOpt d)
      cumLog := s.keep.cumLog.map (movedLog d)
      barredLog := s.keep.barredLog.map (movedLog d)
      merged := s.keep.merged.map fun m => { m with since := movedTime d m.since, distSince := movedTime d m.distSince } } }

/-! ### Time states (R361, R364) -/

/-- R364: a change of time state: TIMEBASE, and a record with the offset and the grandmaster. In states 0 and 1 the output of
SYNC_PPS is low (R365). R388: leaving 2 or 3 wakes a hibernating part. -/
def State.timeState (s : State) (n : Nat) : State :=
  if s.tb.state = n then s
  else
    let s1 := { s with tb := { s.tb with
      state := n
      good := 0
      bad := 0
      stepped := if n = 1 then false else s.tb.stepped
      ppsOut := s.tb.ppsOut && decide (2 ≤ n) } }
    let s2 := s1.record codeTimeState 0 ([BitVec.ofNat 8 n] ++ leBytes 4 (wrapOf 32 s.tb.offset) ++ leBytes 8 s.tb.gmId.toNat)
    (s2.pulse 30).when (decide (2 ≤ s.tb.state) && decide (n < 2)) fun s => s.wakeEvent 3

/-- R361: the estimate of the error in holdover, in ns times 10^9. -/
def State.holdError (s : State) : Nat :=
  if s.tb.ppsLock then (s.tb.ppsPhase + 100) * 1000000000
  else s.tb.holdOff * 1000000000 + 20 * (s.clk.now - s.tb.holdAt)

/-- R361: holdover has run out. -/
def State.holdOver (s : State) : Bool :=
  s.tb.state == 3 && (decide (1000 * 1000000000 < s.holdError) || decide (s.tb.holdAt + secs s.holdoverLimit ≤ s.clk.now))

/-- R361, R367: holdover in progress is judged. -/
def State.judgeHoldover (s : State) : State := s.when s.holdOver fun s => s.timeState 0

/-- R361: synchronised goes to holdover, and on at once where HoldoverLimit is 0. -/
def State.enterHoldover (s : State) : State :=
  let s1 := { s with tb := { s.tb with holdAt := s.clk.now, holdOff := s.tb.offset.natAbs } }.timeState 3
  s1.judgeHoldover

/-- R361: the slave port is lost. -/
def State.slaveLost (s : State) : State :=
  let s1 := { s with tb := { s.tb with slave := none } }
  if s.tb.state = 2 then s1.enterHoldover
  else if s.tb.state = 1 then s1.timeState 0
  else s1

/-! ### Signaling (R360, R367) -/

/-- R360: the message interval request: Sync at 2^SyncLogInterval, Announce at 125 ms while free-running or acquiring, else at
1 s, as logarithms to the base 2. -/
def State.signalOn (s : State) (p : Fin 4) : State :=
  let announce : Byte := if s.tb.state ≤ 1 then 0xFD else 0
  let s1 := { s with tb := { s.tb with signals := s.tb.signals + 1 } }
  s1.sendTime p timeMac [0x0C, BitVec.ofNat 8 (wrapOf 8 s.syncLogInterval), announce, BitVec.ofNat 8 (wrapOf 8 s.pdelayLogInterval)]

/-! ### The best master clock (R358) -/

/-- R358: the order of two priority vectors: lower is better. -/
def annVector (a : AnnounceInfo) : List Nat :=
  [a.priority1, a.clockClass, a.accuracy, a.variance, a.priority2, a.gmId.toNat, a.steps, a.source]

/-- The lexicographic order of two lists. -/
def lexLess : List Nat → List Nat → Bool
  | a :: as, b :: bs => decide (a < b) || (a == b && lexLess as bs)
  | _, _ => false

/-- R358: the port with the best information, the lower port number first. -/
def Net.bestPort (n : Net) : Option (Fin 4) :=
  (List.finRange 4).foldl (fun (acc : Option (Fin 4)) p =>
    match n.ports[p].best with
    | none => acc
    | some a =>
      if !n.ports[p].link || !n.ports[p].asCapable then acc
      else match acc with
        | none => some p
        | some q => match n.ports[q].best with
          | some b => if lexLess (annVector a) (annVector b) then some p else acc
          | none => some p) none

/-- R358: the role of a port: slave where it holds the best information, passive where what it holds is as good as what Stoska
would send there, else master; disabled while not asCapable. -/
def roleOf (p : Port) (me : Bool) (best : Option AnnounceInfo) (source : Nat) : Nat :=
  if !p.link || !p.asCapable then 0
  else if me then 2
  else match p.best, best with
    | some a, some b => if lexLess (annVector { b with steps := b.steps + 1, source := source }) (annVector a) then 1 else 3
    | _, _ => 1

/-- R358, R361: the algorithm runs: roles follow, and a slave port chosen or lost moves the time state. -/
def State.bestMaster (s : State) : State :=
  let sel := s.net.bestPort
  let info := sel.bind fun p => s.net.ports[p].best
  let s1 := { s with net := { s.net with ports := Vector.ofFn fun p : Fin 4 =>
    { s.net.ports[p] with role := roleOf s.net.ports[p] (sel == some p) info (s.part.nodeMac.toNat % 65536) } } }
  let lost := match s.tb.slave with
    | some p => !s.net.ports[p].link || !s.net.ports[p].asCapable
    | none => false
  let s2 := s1.when lost fun s => s.slaveLost
  match sel with
  | none => s2
  | some p =>
    let s3 := { s2 with tb := { s2.tb with slave := some p, gmId := (info.map fun (a : AnnounceInfo) => a.gmId).getD s2.tb.gmId } }
    s3.when (s3.tb.state == 0) fun s => s.timeState 1

/-! ### Links (R346, R348, R351, R368) -/

/-- R346: the level of a link; none where no link comes up. -/
def linkLevel (amplitude : Nat) (capable requests : Bool) : Option Bool :=
  if amplitude = 1 then some false
  else if amplitude = 0 then some (capable && requests)
  else if capable then some true
  else none

/-- R348, R351, R368: a port loses its link: its frames are dropped, the learnt addresses of its side go. -/
def State.linkLost (s : State) (p : Fin 4) : State :=
  if !s.net.ports[p].link then s
  else
    let s1 := s.onPort p fun x => { pdelayAt := x.pdelayAt }
    let s2 := { s1 with net := { s1.net with learnt := s1.net.learnt.filter fun e => e.2.1 != (sideOf p == 1) } }
    (s2.record codeLinkDown 0 [BitVec.ofNat 8 p.val]).bestMaster

/-- LINK_UP (R346, R360): auto-negotiation completes. Where the amplitudes do not fit no link comes up, recorded. -/
def execLinkUp (t : Time) (port : Fin 4) (capable requests : Bool) (s : State) : Host.Outcome State Fault Refusal :=
  let s := s.at t
  done (s.when (s.released && !s.net.ports[port].link) fun s =>
    match linkLevel (s.phyAmplitude port.val) capable requests with
    | none => s.record codeNoCommonAmplitude 0 [BitVec.ofNat 8 port.val]
    | some l => (s.onPort port fun _ => { link := true, level24 := l, pdelayAt := s.clk.now }).signalOn port)

/-- LINK_DOWN (R348). -/
def execLinkDown (t : Time) (port : Fin 4) (s : State) : Host.Outcome State Fault Refusal := done ((s.at t).linkLost port)

/-! ### Announce, path delay, Sync (R358 to R362) -/

/-- ANNOUNCE (R358): on a port that is asCapable, unless it is worse than what another source gave there. -/
def execAnnounce (t : Time) (port : Fin 4) (a : AnnounceInfo) (s : State) : Host.Outcome State Fault Refusal :=
  let s := s.at t
  let p := s.net.ports[port]
  let take := match p.best with
    | none => true
    | some b => a.source == b.source || lexLess (annVector a) (annVector b)
  done (s.when (p.link && p.asCapable && take) fun s => (s.onPort port fun x => { x with best := some a }).bestMaster)

/-- R360: time to the next Pdelay_Req: 125 ms for the first eight exchanges after a link-up, then 2^PdelayLogInterval s. -/
def State.pdelayInterval (s : State) (exchanges : Nat) : Time :=
  if exchanges < 8 then ms 125
  else
    let n := s.pdelayLogInterval
    if 0 ≤ n then secs (2 ^ n.toNat) else secs 1 / 2 ^ n.natAbs

/-- PDELAY_REQ (R359, R360): a Pdelay_Req leaves when it is due, and the exchange gives the mean link delay, or no answer.
Before it is due only the clock moves. -/
def execPdelayReq (t : Time) (port : Fin 4) (delay : Option Nat) (s : State) : Host.Outcome State Fault Refusal :=
  let s := s.at t
  let p := s.net.ports[port]
  done (s.when (p.link && decide (p.pdelayAt ≤ s.clk.now)) fun s =>
    let s1 := s.sendTime port timeMac [0x02]
    let ok := match delay with
      | some d => decide (d ≤ s.propDelayThreshold)
      | none => false
    (s1.onPort port fun x => { x with
      exchanges := x.exchanges + 1
      pdelayAt := s.clk.now + s.pdelayInterval (x.exchanges + 1)
      delay := delay.getD x.delay
      asCapable := ok
      best := if ok then x.best else none }).bestMaster)

/-- R361: an offset within the limit of slewing is removed by it. -/
def State.slewTo (s : State) (offset : Int) : State := { s with clk := { s.clk with slew := -offset } }

/-- R359, R365: an event is stamped by the time base to 8 ns; how the stamp is rounded is not stated. -/
def State.eventStamp (s : State) : Time × State :=
  let r := s.unstatedRound ((s.tbNow : Rat) / 8)
  ((8 * r.1).toNat, r.2)

/-- R359, R361, R362: what a Sync on the slave port does. -/
def State.takeSync (s : State) (gm : Time) : State :=
  let stamped := s.eventStamp
  let offset : Int := (stamped.1 : Int) - (gm : Int)
  let s0 := { stamped.2 with tb := { s.tb with offset := offset, lastSync := s.clk.now } }
  if s.tb.state = 1 then
    (if !s.tb.stepped then
      let s1 := s0.stepTime (-offset)
      ({ s1 with tb := { s1.tb with stepped := true, good := 0, offset := 0 } }).record codeTimeStep 0
        (leBytes 8 (wrapOf 64 (-offset)))
    else if offset.natAbs ≤ 250 then
      (if 4 ≤ s.tb.good + 1 then (s0.timeState 2).slewTo offset
      else { s0 with tb := { s0.tb with good := s0.tb.good + 1 } })
    else { s0 with tb := { s0.tb with good := 0 } })
  else if s.tb.state = 2 then
    (if offset.natAbs ≤ 1000 then { s0 with tb := { s0.tb with bad := 0 } }.slewTo offset
    else if 2 ≤ s.tb.bad + 1 then s0.timeState 1
    else { s0 with tb := { s0.tb with bad := s0.tb.bad + 1 } })
  else if s.tb.state = 3 then
    (if offset.natAbs ≤ 1000 then (s0.timeState 2).slewTo offset else s0.timeState 1)
  else s0

/-- R358: Sync and Follow_Up go on to the master ports. -/
def State.relaySync (s : State) : State :=
  State.each s (ports.filter fun p => s.net.ports[p].role == 1) fun s p =>
    (s.sendTime p timeMac [0x00]).sendTime p timeMac [0x08]

/-- SYNC (R358, R361, R362): a Sync with its Follow_Up on the slave port, with the grandmaster's time. On any other port it is
not taken. -/
def execSync (t : Time) (port : Fin 4) (gmTime : Time) (s : State) : Host.Outcome State Fault Refusal :=
  let s := s.at t
  done (s.when (s.tb.slave == some port && s.net.ports[port].link) fun s => (s.takeSync gmTime).relaySync)

/-- R361: three Sync intervals. -/
def State.syncLimit (s : State) : Time :=
  let n := s.syncLogInterval
  if 0 ≤ n then 3 * secs (2 ^ n.toNat) else 3 * (secs 1 / 2 ^ n.natAbs)

/-- SYNC_TIMEOUT (R361): three Sync intervals have passed without Sync. Before that only the clock moves. -/
def execSyncTimeout (t : Time) (s : State) : Host.Outcome State Fault Refusal :=
  let s := s.at t
  done (s.when (s.tb.state == 2 && decide (s.tb.lastSync + s.syncLimit ≤ s.clk.now)) fun s => s.enterHoldover)

/-- HOLDOVER_EXPIRY (R361): the estimate exceeds 1 µs or HoldoverLimit has passed. Before that only the clock moves. -/
def execHoldoverExpiry (t : Time) (s : State) : Host.Outcome State Fault Refusal := done ((s.at t).judgeHoldover)

/-! ### SYNC_PPS (R364, R365) -/

/-- R364: lock of the input changes. -/
def State.ppsLocked (s : State) (on : Bool) : State :=
  if s.tb.ppsLock = on then s
  else
    (({ s with tb := { s.tb with ppsLock := on } }).record codePpsLock 0
      ([BitVec.ofNat 8 (b2n on)] ++ leBytes 4 (wrapOf 32 s.tb.offset) ++ leBytes 8 s.tb.gmId.toNat)).pulse 30

/-- R365: the phase of a stamp against the nearest whole second. -/
def phaseOf (stamp : Time) : Nat := let r := stamp % 1000000000; min r (1000000000 - r)

/-- R367, R368: a change of mode ends the lock. -/
def State.ppsRestart (s : State) : State :=
  let s1 := s.ppsLocked false
  { s1 with tb := { s1.tb with ppsRun := 0, ppsAt := none, ppsOut := false } }

/-- SYNC_PPS_EDGE (R365): in mode 1. -/
def execSyncPpsEdge (t : Time) (s : State) : Host.Outcome State Fault Refusal :=
  let s := s.at t
  done (s.when (s.syncPpsMode == 1) fun s =>
    let stamped := s.eventStamp
    let ph := phaseOf stamped.1
    let run := if ph ≤ 500 then min 4 (s.tb.ppsRun + 1) else 0
    let s1 := stamped.2
    { s1 with tb := { s1.tb with ppsAt := some s.clk.now, ppsPhase := ph, ppsRun := run } }.ppsLocked (run == 4))

/-- SYNC_PPS_TIMEOUT (R365): 1.5 s without an edge. Before that only the clock moves. -/
def execSyncPpsTimeout (t : Time) (s : State) : Host.Outcome State Fault Refusal :=
  let s := s.at t
  let out := match s.tb.ppsAt with
    | some a => decide (a + ms 1500 ≤ s.clk.now)
    | none => false
  done (s.when (s.syncPpsMode == 1 && out) fun s => { s with tb := { s.tb with ppsRun := 0 } }.ppsLocked false)

/-- SYNC_PPS_OUTPUT (R365): within 50 ns of a whole second, in mode 2 and a good time state. Otherwise only the clock moves. -/
def execSyncPpsOutput (t : Time) (s : State) : Host.Outcome State Fault Refusal :=
  let s := s.at t
  done (s.when (s.syncPpsMode == 2 && s.timeGood && decide (phaseOf s.tbNow ≤ 50)) fun s =>
    { s with tb := { s.tb with ppsOut := true, ppsOutAt := s.clk.now } })

/-- SYNC_PPS_PULSE_END (R365): 100 ms after the edge. Before that only the clock moves. -/
def execSyncPpsPulseEnd (t : Time) (s : State) : Host.Outcome State Fault Refusal :=
  let s := s.at t
  done (s.when (s.tb.ppsOut && decide (s.tb.ppsOutAt + ms 100 ≤ s.clk.now)) fun s =>
    { s with tb := { s.tb with ppsOut := false } })

/-- TB_CLOCK_LOSS (R432): TimeState 0. The record is that of R432. -/
def execTbClockLoss (t : Time) (s : State) : Host.Outcome State Fault Refusal :=
  let s := s.at t
  done (s.when s.released fun s => (s.timeState 0).record (codeFaultRow 17) 0 [])

end Sys2Proof.Machine
end

