-- ==== Sys2Proof/Machine/Recorder.lean ====
section
/-! DEFINITION. The event recorder: intake, rate limits, records, memory failure, full and clear (R415 to R431), and the EMCY
frames that events give rise to (R311). -/

namespace Sys2Proof.Machine

/-! ### EMCY (R311, R422) -/

/-- R295: the payload of an SDP frame without a CMAC. -/
def sdpPayload (op flags sess req index sub segno : Nat) (data : List Byte) : List Byte :=
  [1, BitVec.ofNat 8 op, BitVec.ofNat 8 flags, 0] ++ leBytes 2 sess ++ leBytes 2 req ++ leBytes 2 index ++
    [BitVec.ofNat 8 sub, 0] ++ leBytes 4 segno ++ leBytes 2 data.length ++ [0, 0] ++ data

/-- R416: FLAGS of a record. -/
def recFlags (ev : RecEvent) (summary degraded queued : Bool) : Nat :=
  b2n ev.emergency + 2 * b2n summary + 4 + 8 * ev.source.toNat + 32 * b2n degraded + 64 * b2n queued

/-- R311: the EMCY frame of an event, to EmergencyMac and to every open network session. -/
def State.emcy (s : State) (ev : RecEvent) : State :=
  if !s.emergencyEnable then s
  else
    let data := leBytes 2 ev.code.toNat ++ leBytes 2 (recFlags ev false s.keep.degraded false) ++ leBytes 8 ev.time ++ ev.payload.take 16
    let p := sdpPayload 0x60 0 0 (s.sdp.emcyCount % 65536) 0 0 0 data
    let macs := (if s.emergencyMac = 0 then [] else [s.emergencyMac]) ++
      (((List.finRange 5).filter fun i => decide (0 < i.val) && s.sdp.sessions[i].opened).map fun i => s.sdp.sessions[i].mac)
    let s1 := { s with sdp := { s.sdp with emcyCount := s.sdp.emcyCount + 1 } }
    State.each s1 macs fun s m => s.sendSdp m s.dictTag p

/-! ### Records (R415, R416, R418) -/

/-- Zeros to a multiple of 4. -/
def pad4 (l : List Byte) : List Byte := l ++ List.replicate ((4 - l.length % 4) % 4) 0

/-- R415: the bytes of a record, written with the power cycles and operating seconds of now. -/
def State.recordBytes (s : State) (q : Queued) : List Byte :=
  let payload := pad4 (leBytes 8 q.ev.time ++ q.ev.payload)
  let body := leBytes 2 (payload.length + 16) ++ leBytes 2 q.ev.code.toNat ++
    leBytes 1 (recFlags q.ev q.summary q.degraded q.queued) ++ leBytes 3 s.nv.pcyc ++ leBytes 4 s.opsec ++ payload
  body ++ leBytes 4 (crc32c body).toNat

/-- A record of the recorder's own (R419), from now. -/
def State.ownEvent (s : State) (code : BitVec 16) (emergency : Bool) (payload : List Byte) : RecEvent :=
  { code := code, emergency := emergency, source := 0, time := s.tbNow, payload := payload }

/-! ### The intake queue (R420, R421, R431) -/

/-- R418: the class of an event. -/
def eventClass (code : BitVec 16) : BitVec 8 := (code >>> 8).setWidth 8

/-- R421: classes never suppressed. -/
def exemptClass (c : BitVec 8) : Bool := c == 0 || c == 1 || c == 2 || c == 9 || c == 0x0D || c == 0x40

/-- R420: whether the queue has a slot for an event. -/
def Intake.hasSlot (i : Intake) (exempt : Bool) : Bool :=
  decide (i.queue.length < 28) || (exempt && decide (i.queue.length < 32))

/-- R421, R419: the summary of a class's run. -/
def Bucket.summary (b : Bucket) (from_ : Time) : Queued :=
  { ev := { code := 0x0001, emergency := false, source := 0, time := from_
            payload := leBytes 8 b.runTbLast ++ leBytes 4 b.count ++ leBytes 2 b.first.toNat ++ leBytes 2 b.last.toNat ++
              [b.cls, 0, 0, 0] }
    summary := true }

/-- The bucket of a class. -/
def Intake.bucket (i : Intake) (c : BitVec 8) : Bucket := (i.buckets.find? fun b => b.cls == c).getD { cls := c }

/-- The bucket of a class replaced, classes rising. -/
def Intake.setBucket (i : Intake) (b : Bucket) : Intake :=
  { i with buckets := insertBy (fun x : Bucket => x.cls.toNat) b (i.buckets.filter fun x => x.cls != b.cls) }

/-- R421: the tokens that have returned by now. -/
def Bucket.refilled (b : Bucket) (now : Time) : Bucket :=
  match b.refillAt with
  | none => b
  | some a =>
    if now < a then b
    else
      let n := (now - a) / ms 500 + 1
      if 32 ≤ b.tokens + n then { b with tokens := 32, refillAt := none }
      else { b with tokens := b.tokens + n, refillAt := some (a + n * ms 500) }

/-- R421: a class's run has ended: 10 s without suppression, or 60 s since its first. -/
def Bucket.runOver (b : Bucket) (now : Time) : Bool :=
  match b.runFrom with
  | some f => decide (b.runLast + secs 10 ≤ now) || decide (f + secs 60 ≤ now)
  | none => false

/-- R421, R431: the summary of an ended run enters the queue, or waits while the queue has no slot. -/
def Intake.endRun (i : Intake) (c : BitVec 8) : Intake :=
  let b := i.bucket c
  match b.runFrom with
  | none => i
  | some _ =>
    if i.hasSlot true then
      let q := b.summary b.runTb
      { i with queue := i.queue ++ [{ q with queued := i.writing.isSome || !i.queue.isEmpty }] }.setBucket
        { b with runFrom := none, count := 0, held := false }
    else i.setBucket { b with held := true }

/-- R420: the record the recorder takes next: the overflow record once at most 16 wait, then the head of the queue. -/
def State.recNext (s : State) : State :=
  let i := s.intake
  if i.writing.isSome || s.nv.mem.stop != 0 then s
  else
    match i.lost, decide (i.queue.length ≤ 16) with
    | some (n, t, c), true =>
      let ev : RecEvent := { code := 0x0002, emergency := false, source := 0, time := t
                             payload := leBytes 4 n ++ leBytes 2 c.toNat ++ [0, 0] }
      { s with intake := { i with lost := none, writing := some { ev := ev, summary := true, degraded := s.keep.degraded } } }
    | _, _ =>
      match i.queue with
      | [] => s
      | q :: l =>
        let i1 : Intake := { i with queue := l, writing := some q }
        { s with intake := (i1.buckets.filter fun b => b.held).foldl (fun j b => j.endRun b.cls) i1 }

/-- R420, R428: an event that passed the limits enters the queue, is lost to overflow, or is discarded by a stopped recorder. -/
def State.recEnter (s : State) (ev : RecEvent) : State :=
  let i := s.intake
  if s.nv.mem.stop != 0 then { s with intake := { i with discarded := i.discarded + 1 } }
  else if i.hasSlot (exemptClass (eventClass ev.code)) then
    let q : Queued := { ev := ev, degraded := s.keep.degraded, queued := i.writing.isSome || !i.queue.isEmpty }
    { s with intake := { i with queue := i.queue ++ [q] } }.recNext
  else
    { s with intake := { i with
        overflow := i.overflow + 1
        lost := match i.lost with
          | some (n, t, c) => some (n + 1, t, c)
          | none => some (1, ev.time, ev.code) } }

/-- The recorder records an event of its own, with its EMCY (R419, R422). -/
def State.recOwn (s : State) (code : BitVec 16) (emergency : Bool) (payload : List Byte) : State :=
  let ev := s.ownEvent code emergency payload
  (s.recEnter ev).when emergency fun s => s.emcy ev

/-- R421: an event takes a token of its class, or is suppressed. -/
def Intake.limit (i : Intake) (ev : RecEvent) (now : Time) : Intake × Bool :=
  let c := eventClass ev.code
  if exemptClass c then (i, true)
  else
    let i1 := if (i.bucket c).runOver now then i.endRun c else i
    let b := (i1.bucket c).refilled now
    if 0 < b.tokens then
      (i1.setBucket { b with tokens := b.tokens - 1, refillAt := if b.tokens = 32 then some (now + ms 500) else b.refillAt }, true)
    else
      let fresh := b.runFrom.isNone
      let b1 : Bucket := { b with
        runFrom := if fresh then some now else b.runFrom
        runLast := now
        runTb := if fresh then ev.time else b.runTb
        runTbLast := ev.time
        count := b.count + 1
        first := if fresh then ev.code else b.first
        last := ev.code }
      ({ i1 with suppressed := i1.suppressed + 1 }.setBucket b1, false)

/-- R420: the event that reaches the intake next: the first offered, and among those of one moment the one of the lowest CODE. -/
def Intake.next (i : Intake) : Option RecEvent := match i.offered with
  | [] => none
  | a :: l => some (l.foldl (fun m e => if e.time = a.time ∧ e.code < m.code then e else m) a)

/-- R311, R420 to R422, R428: an offered event reaches the intake. -/
def State.recTake (s : State) (ev : RecEvent) : State :=
  let i0 : Intake := { s.intake with offered := s.intake.offered.erase ev }
  let r := i0.limit ev s.clk.now
  let s1 := { s with intake := r.1 }
  if r.2 then (s1.recEnter ev).when ev.emergency fun s => s.emcy ev else s1

/-- RECORDER_EVENT (R420): the event that the block offers next reaches the intake. With any other only the clock moves. -/
def execRecorderEvent (t : Time) (ev : RecEvent) (s : State) : Host.Outcome State Fault Refusal :=
  let s := s.at t
  done (s.when (s.intake.next == some ev) fun s => s.recTake ev)

/-- TOKEN_REFILL (R421): the tokens of a class that are due. -/
def execTokenRefill (t : Time) (cls : BitVec 8) (s : State) : Host.Outcome State Fault Refusal :=
  let s := s.at t
  done { s with intake := s.intake.setBucket ((s.intake.bucket cls).refilled s.clk.now) }

/-- SUPPRESSION_RUN_END (R421): a class's run that is over. Before that only the clock moves. -/
def execSuppressionRunEnd (t : Time) (cls : BitVec 8) (s : State) : Host.Outcome State Fault Refusal :=
  let s := s.at t
  done (s.when ((s.intake.bucket cls).runOver s.clk.now) fun s => { s with intake := s.intake.endRun cls }.recNext)

/-! ### Memory (R423 to R429) -/

/-- R425: an entry of the Recorder Fault Latch: code, row and operating seconds; the first eight are kept. -/
def State.latchFault (s : State) (code row : BitVec 16) (force : Bool) : State :=
  let e := (code, row, BitVec.ofNat 32 s.opsec)
  let l := s.nv.mem.latch
  let l1 := if l.length < 8 then l ++ [e] else if force then l.set 7 e else l
  { s with nv := { s.nv with mem := { s.nv.mem with latch := l1 } } }

/-- R425, R431: the latch is cleared; the stop of the same cycle comes after it and takes entry 0. -/
def State.latchClear (s : State) : State :=
  let m := s.nv.mem
  { s with nv := { s.nv with mem := { m with
      latch := if s.intake.stopAt = some s.clk.now then m.latch.drop (m.latch.length - 1) else [] } } }

/-- R425: the recorder stops for memory failure; the record in progress is lost. -/
def State.recFails (s : State) (row : BitVec 16) : State :=
  let s1 := { s with
    nv := { s.nv with mem := { s.nv.mem with stop := 2 } }
    intake := { s.intake with writing := none, stopAt := some s.clk.now } }
  (s1.latchFault 0x0006 row true).emcy (s.ownEvent 0x0006 true (leBytes 2 row.toNat))

/-- R423, R424: one row has failed and the rewrite passed. -/
def State.rowFails (s : State) (row : BitVec 16) : State :=
  let left := s.nv.repair.spares[0]
  if 0 < left then
    let s1 := { s with nv := { s.nv with repair := { s.nv.repair with
      spares := s.nv.repair.spares.set 0 (left - 1)
      soft := s.nv.repair.soft ++ [(0, row.toNat, 0)] } } }
    s1.recOwn 0x0007 false (leBytes 2 row.toNat ++ leBytes 2 (64 - left) ++ leBytes 2 (left - 1) ++ [0, 0])
  else
    let s1 := { s with nv := { s.nv with mem := { s.nv.mem with
      mapped := s.nv.mem.mapped + 1
      capacity := s.nv.mem.capacity - 256 } } }
    (s1.latchFault 0x0005 row false).recOwn 0x0005 true (leBytes 2 row.toNat ++ [0, 0] ++ leBytes 4 s1.nv.mem.capacity)

/-- R427: a record is appended and readable. -/
def RecMem.append (m : RecMem) (bytes : List Byte) : RecMem :=
  { m with recs := m.recs ++ [bytes], used := m.used + bytes.length }

/-- R428: used has reached 90 % of capacity. -/
def RecMem.nine (m : RecMem) : Bool := decide (9 * m.capacity ≤ 10 * m.used)

/-- R419: a record of the recorder's own, written in place. -/
def State.appendOwn (s : State) (code : BitVec 16) (emergency : Bool) (payload : List Byte) : State :=
  let ev := s.ownEvent code emergency payload
  let b := s.recordBytes { ev := ev, degraded := s.keep.degraded }
  ({ s with nv := { s.nv with mem := s.nv.mem.append b } }).when emergency fun s => s.emcy ev

/-- R425: the row failures met in a write that stop the recorder. -/
def State.recBroken (s : State) (fails : Nat) : Bool :=
  decide (2 ≤ fails) || (decide (1 ≤ fails) && s.nv.repair.spares[0] == 0 && decide (64 ≤ s.nv.mem.mapped))

/-- R428, R431: the recorder is full: 0x0003 goes into the reserve, after 0x0004 where the mark was not reached before. The write of
0x0003 may meet row failures itself. -/
def State.recFull (s : State) (fails : Nat) (row : BitVec 16) : State :=
  let s1 := s.when (!s.nv.mem.nine) fun s => s.appendOwn 0x0004 true (leBytes 4 s.nv.mem.used)
  if s1.recBroken fails then (s1.emcy (s1.ownEvent 0x0003 true (leBytes 4 s1.nv.mem.used))).recFails row
  else
    let s2 := s1.appendOwn 0x0003 true (leBytes 4 s1.nv.mem.used)
    { s2 with
      nv := { s2.nv with mem := { s2.nv.mem with stop := 1 } }
      intake := { s2.intake with writing := none } }.when (fails != 0) fun s => s.rowFails row

/-- R431: a session whose transfer of a record is open at a clear reads no record at its old cursor. -/
def Session.cleared (x : Session) : Session :=
  { x with recStale := x.recStale || (match x.xfer with
      | some f => !f.write && f.key == 0x700002
      | none => false) }

/-- R429, R431: the clear, and the events still waiting. -/
def State.recClear (s : State) (slot : Nat) : State :=
  let s1 := { s with
    nv := { s.nv with mem := { s.nv.mem with recs := [], used := 0, stop := 0 } }
    intake := { s.intake with clearBy := none, discarded := 0 }
    sdp := { s.sdp with sessions := s.sdp.sessions.map Session.cleared } }
  (s1.appendOwn 0x0008 false ([BitVec.ofNat 8 slot, 0, 0, 0] ++ leBytes 4 s.intake.discarded)).recNext

/-- R429: a committed clear waits for the record in progress; a recorder that memory failure has stopped since takes none. -/
def State.recClearWanted (s : State) (slot : Nat) : State :=
  if s.intake.writing.isSome then { s with intake := { s.intake with clearBy := some slot } }
  else s.when (s.nv.mem.stop != 2) fun s => s.recClear slot

/-- The write of one record ends: `fails` row failures during it, of a row (R423 to R425, R428). -/
def State.recWrite (s : State) (q : Queued) (fails : Nat) (row : BitVec 16) : State :=
  let b := s.recordBytes q
  let m := s.nv.mem
  if m.capacity < m.used + b.length + 28 then s.recFull fails row
  else if s.recBroken fails then s.recFails row
  else
    let s1 := { s with
      nv := { s.nv with mem := m.append b }
      intake := { s.intake with writing := none } }
    let s2 := s1.when (fails != 0) fun s => s.rowFails row
    s2.when (!m.nine && s2.nv.mem.nine) fun s => s.recOwn 0x0004 true (leBytes 4 s.nv.mem.used)

/-- RECORD_WRITTEN (R420, R423 to R425, R428, R429): the record in progress is written and verified, with the row failures met.
With no record in progress only the clock moves. -/
def execRecordWritten (t : Time) (rowFails : Nat) (row : BitVec 16) (s : State) : Host.Outcome State Fault Refusal :=
  let s := s.at t
  done (match s.intake.writing with
    | none => s
    | some q =>
      let s1 := s.recWrite q rowFails row
      (match s1.intake.clearBy with
        | some k => if s1.nv.mem.stop = 2 then { s1 with intake := { s1.intake with clearBy := none } } else s1.recClear k
        | none => s1).recNext)

end Sys2Proof.Machine
end

