-- ==== Sys2Proof/Machine/Operands.lean ====
section
/-! DEFINITION. The layouts of what reaches the block as bytes: the Hasp telegram (R209 to R213) and the SDP payload (R295,
R296). -/

namespace Sys2Proof.Machine

/-- The little-endian number of n bytes at an offset (R5). -/
def at_ (p : List Byte) (off n : Nat) : Nat := leNat ((p.drop off).take n)

/-- A signed 16-bit field. -/
def atI16 (p : List Byte) (off : Nat) : Int := signedOf 16 (at_ p off 2)

/-! ### The Hasp telegram (R210 to R213) -/

/-- R212: the bytes of a passage record. -/
def PassRec.bytes (r : PassRec) : List Byte :=
  leBytes 8 r.tc ++ leBytes 2 r.pnum ++ leBytes 1 (b2n r.into + 2 * r.qual) ++ leBytes 1 r.cls ++ leBytes 2 r.speed ++ [0, 0]

/-- R210: the payload from offset 0 to the end of the records. -/
def Tele.bytes (x : Tele) : List Byte :=
  [1] ++ leBytes 1 x.typ ++ leBytes 1 x.recs.length ++ leBytes 1 x.auth ++ leBytes 2 x.alive ++ leBytes 2 x.sender ++
    leBytes 8 x.sendTime ++ leBytes 8 x.completeTo ++ leBytes 8 x.ackTo ++ leBytes 4 x.epoch ++ leBytes 2 x.overlap ++
    leBytes 1 x.period ++ leBytes 1 x.bhead ++ leBytes 1 x.secState ++ leBytes 1 x.farewell ++ leBytes 2 x.flags ++
    leBytes 2 x.speed ++ leBytes 2 x.linkBreaks ++ leBytes 2 x.bal ++ leBytes 1 x.voidHeads ++ [0] ++ leBytes 8 x.zoneTime ++
    leBytes 2 (wrapOf 16 x.zoneCount) ++ [0, 0] ++ leBytes 4 x.cumIn ++ leBytes 4 x.cumOut ++ leBytes 4 x.farHorizon ++
    leBytes 2 x.farDist ++ [0, 0] ++ leBytes 8 x.reqTime ++ leBytes 8 x.attTime ++ leBytes 4 x.attIn ++ leBytes 4 x.attOut ++
    leBytes 2 (wrapOf 16 x.attZone) ++ leBytes 1 x.attFlags ++ [0] ++ x.recs.flatMap PassRec.bytes

/-- R213: what the check values of a telegram cover. -/
def checkedBytes (alive connId : Nat) (payload : List Byte) : List Byte := leBytes 2 alive ++ leBytes 4 connId ++ payload

/-- R213: the CMAC field of a telegram, where it carries one. -/
def teleCmac (auth : Bool) (key : List Byte) (alive connId : Nat) (payload : List Byte) : List Byte :=
  if auth then (aesCmac key (checkedBytes alive connId payload)).take 8 else []

/-- R213: the whole Hasp payload with its check values. -/
def Tele.wire (x : Tele) (connId : Nat) (key : List Byte) : List Byte :=
  let cmac := teleCmac (x.auth == 1) key x.alive connId x.bytes
  x.bytes ++ cmac ++ leBytes 4 (crc32c (checkedBytes x.alive connId x.bytes ++ cmac)).toNat

/-- R212: a passage record. -/
def parseRec (p : List Byte) : PassRec :=
  { tc := at_ p 0 8
    pnum := at_ p 8 2
    into := (at_ p 10 1).testBit 0
    qual := at_ p 10 1 / 2 % 32
    cls := at_ p 11 1
    speed := at_ p 12 2 }

/-- R210: the fields of a payload. -/
def parseTele (p : List Byte) : Tele :=
  { typ := at_ p 1 1
    auth := at_ p 3 1
    alive := at_ p 4 2
    sender := at_ p 6 2
    sendTime := at_ p 8 8
    completeTo := at_ p 16 8
    ackTo := at_ p 24 8
    epoch := at_ p 32 4
    overlap := at_ p 36 2
    period := at_ p 38 1
    bhead := at_ p 39 1
    secState := at_ p 40 1
    farewell := at_ p 41 1
    flags := at_ p 42 2
    speed := at_ p 44 2
    linkBreaks := at_ p 46 2
    bal := at_ p 48 2
    voidHeads := at_ p 50 1
    zoneTime := at_ p 52 8
    zoneCount := atI16 p 60
    cumIn := at_ p 64 4
    cumOut := at_ p 68 4
    farHorizon := at_ p 72 4
    farDist := at_ p 76 2
    reqTime := at_ p 80 8
    attTime := at_ p 88 8
    attIn := at_ p 96 4
    attOut := at_ p 100 4
    attZone := atI16 p 104
    attFlags := at_ p 106 1
    recs := (List.range (at_ p 2 1)).map fun i => parseRec (p.drop (108 + 16 * i)) }

/-- R217 step 2: VER, TYPE, AUTH, length and reserved fields; FAREWELL_CAUSE and VOID_HEADS of a cyclic telegram. -/
def teleFormat (p : List Byte) : Bool :=
  let n := at_ p 2 1
  let a := at_ p 3 1
  at_ p 0 1 == 1 && decide (at_ p 1 1 ≤ 1) && decide (a ≤ 1) && decide (n ≤ 16) &&
    p.length == 108 + 16 * n + 8 * a + 4 && at_ p 51 1 == 0 && at_ p 62 2 == 0 && at_ p 78 2 == 0 && at_ p 107 1 == 0 &&
    decide (at_ p 42 2 < 1024) && decide (at_ p 106 1 < 4) &&
    ((List.range n).all fun i => decide (at_ p (108 + 16 * i + 10) 1 < 64) && at_ p (108 + 16 * i + 14) 2 == 0) &&
    (at_ p 1 1 == 1 || (at_ p 41 1 == 0 && at_ p 50 1 == 0))

/-- R213: the bytes of a payload that the check values cover, its CMAC and its CRC. -/
def telePayload (p : List Byte) : List Byte := p.take (108 + 16 * at_ p 2 1)
def teleMac (p : List Byte) : List Byte := (p.drop (108 + 16 * at_ p 2 1)).take (8 * at_ p 3 1)
def teleCrc (p : List Byte) : Nat := at_ p (108 + 16 * at_ p 2 1 + 8 * at_ p 3 1) 4

/-- R213: the CRC of a payload under a connection identifier. -/
def crcHolds (p : List Byte) (connId : Nat) : Bool :=
  (crc32c (checkedBytes (at_ p 4 2) connId (telePayload p) ++ teleMac p)).toNat == teleCrc p

/-- R213: the CMAC of a payload under a connection identifier and a key. -/
def cmacHolds (p : List Byte) (connId : Nat) (key : List Byte) : Bool :=
  at_ p 3 1 == 1 && !key.isEmpty && teleMac p == teleCmac true key (at_ p 4 2) connId (telePayload p)

/-! ### The SDP payload (R295) -/

/-- R295: an SDP request as its header spells it. `key` is index × 256 + sub. -/
structure SdpReq where
  ver   : Nat
  op    : Nat
  flags : Nat
  sess  : Nat
  reqId : Nat
  index : Nat
  sub   : Nat
  segNo : Nat
  data  : List Byte
  cmac  : List Byte
  whole : List Byte
  deriving DecidableEq, Repr

/-- R295: the fields of a payload of at least 20 bytes, as they stand. -/
def parseSdp (p : List Byte) : SdpReq :=
  { ver := at_ p 0 1
    op := at_ p 1 1
    flags := at_ p 2 1
    sess := at_ p 4 2
    reqId := at_ p 6 2
    index := at_ p 8 2
    sub := at_ p 10 1
    segNo := at_ p 12 4
    data := (p.drop 20).take (at_ p 16 2)
    cmac := (p.drop (20 + at_ p 16 2)).take 8
    whole := p }

/-- R295: reserved fields are 0, LEN is within the limit and the length fits. A frame may be filled up with zeros (IEEE 802.3);
the mailbox carries the request alone. -/
def sdpFormat (p : List Byte) (net : Bool) : Bool :=
  let len := at_ p 16 2
  let flags := at_ p 2 1
  let full := 20 + len + (if flags.testBit 1 then 8 else 0)
  decide (20 ≤ p.length) && decide (len ≤ (if net then 1024 else 236)) && decide (flags < 8) && at_ p 3 1 == 0 &&
    at_ p 11 1 == 0 && at_ p 18 2 == 0 &&
    (if net then decide (full ≤ p.length) && (p.drop full).all (· == 0) else p.length == full)

/-- R296: the key of the entry a request names. -/
def SdpReq.key (r : SdpReq) : Nat := dkey r.index r.sub

end Sys2Proof.Machine
end

