-- ==== Sys2Proof/Machine/Hasp.lean ====
section
/-! DEFINITION. The Hasp layer: assembly and sending of telegrams, the checks of received copies, mirrors, service of lanes and
connections, attestation answers, and Hasp while hibernating (R205 to R235, R244, R250, R254, R255, R366, R386 to R388). -/

namespace Sys2Proof.Machine

/-- The connections. -/
def connections : List (Fin 8) := List.finRange 8

/-- R205: the section and leg a connection binds. -/
def State.connAt (s : State) (k : Fin 8) : Fin 4 × Fin 4 := (⟨s.connSection k % 4, by omega⟩, ⟨s.connLeg k % 4, by omega⟩)

/-- R220, R224: the supervision limit: 4 × HaspPeriod + 500 µs. -/
def State.superLimit (s : State) : Time := 4 * ms s.haspPeriod + us 500

/-- The key of a connection. -/
def State.connKey (s : State) (k : Fin 8) : List Byte := s.nv.keys.getD (s.keySlot k) []

/-! ### Assembly (R210, R211, R214 to R216, R219, R231, R250) -/

/-- R231: the counter history of a head reaches a time. -/
def HeadCnt.reaches (k : HeadCnt) (t : Time) : Bool :=
  !k.histFull || (match k.hist.head? with
    | some p => decide (p.1 ≤ t)
    | none => true)

/-- R210, R231: passages of a head up to a time, into and out of the section of a leg of sense `sense`: the present counts less
the passages after it that the history holds. -/
def HeadCnt.countsAt (k : HeadCnt) (sense : Bool) (t : Time) : Word × Word :=
  let later := k.hist.filter fun p => decide (t < p.1)
  let pos := k.pos - BitVec.ofNat 32 (later.filter fun p => p.2).length
  let neg := k.neg - BitVec.ofNat 32 (later.filter fun p => !p.2).length
  if sense then (pos, neg) else (neg, pos)

/-- R250: the section may attest at a leg, judged at a time. -/
def State.mayAttest (s : State) (v : Fin 2) (sec n : Fin 4) (h : Fin 8) (t : Time) : Bool :=
  s.keep.cumLog[h].at_ t && s.overlapSound v sec n t && !s.keep.barredLog[sec].at_ t

/-- R254: the request that a connection carries: t_R of the group whose outer leg it serves. -/
def State.requestOn (s : State) (v : Fin 2) (k : Fin 8) : Option Time :=
  (sections.find? fun sec =>
    let r := s.sv[v].rests[sec]
    r.state == 2 && r.tR != 0 && (s.groupConns r.group).contains k).map fun sec => s.sv[v].rests[sec].tR

/-- R231: the attestation block asked for by the neighbour's latest telegram, until it withdraws or changes the request: time,
counts in and out, zone, flags. -/
def State.attBlock (s : State) (v : Fin 2) (k : Fin 8) (completeTo : Time) : Time × Nat × Nat × Int × Nat :=
  let (sec, n) := s.connAt k
  let none_ : Time × Nat × Nat × Int × Nat := (0, 0, 0, 0, 0)
  match s.sv[v].conns[k].last, s.legHead sec n with
  | some x, some h =>
    if !x.flags.testBit 9 || x.reqTime = 0 || completeTo < x.reqTime then none_
    else
      let t := x.reqTime
      let held := match s.keep.cumValid[h] with
        | some a => decide (a ≤ t)
        | none => false
      let zone := s.sv[v].secs[sec].zoneAt n t
      let c := s.sv[v].heads[h].countsAt (s.sense sec n) t
      (t, c.1.toNat, c.2.toNat, zone.getD (Config.zoneNotHeld t).toInt,
        b2n (held && s.sv[v].heads[h].reaches t) + 2 * b2n zone.isSome)
  | _, _ => none_

/-- R211: FLAGS of a telegram. -/
def State.teleFlags (s : State) (v : Fin 2) (sec n : Fin 4) (completeTo attTime : Time) (req noEntry : Bool) : Nat :=
  let m := s.keep.merged[sec]
  let st := m.state
  let hd (f : Fin 8 → Bool) : Nat := match s.legHead sec n with
    | some h => b2n (f h)
    | none => 0
  b2n (noEntry || m.noEntry) + 2 * b2n m.dirValid + 4 * b2n (handsOver (s.legCount sec) st m.dirValid m.dir n) +
    8 * b2n s.keep.degraded + 16 * hd (fun h => s.quiet h) + 32 * hd (fun h => s.healthy h) +
    64 * b2n (st == .clear || st == .occupied || st == .prepared) +
    128 * hd (fun h => s.keep.cumLog[h].at_ completeTo) +
    256 * hd (fun h => s.mayAttest v sec n h (if attTime = 0 then completeTo else attTime)) + 512 * b2n req

/-- R219: ACK_TO. -/
def SvConn.ackTo (c : SvConn) : Time := if c.last.isNone then 0 else max c.delivered (c.tN.getD 0)

/-- R215: records later than the neighbour's ACK_TO and at or before COMPLETE_TO, at most sixteen. -/
def SvConn.recordsTo (c : SvConn) (completeTo : Time) : List PassRec :=
  (sortBy (fun r : PassRec => r.tc) (c.sendRecs.filter fun r => decide (c.ackAt < r.tc ∧ r.tc ≤ completeTo))).take 16

/-- R210: the telegram of a connection as supervisor v assembles it. -/
def State.assemble (s : State) (v : Fin 2) (k : Fin 8) (typ farewell voidHeads : Nat) (sendTime completeTo : Time) : Tele :=
  let (sec, n) := s.connAt k
  let x := s.sv[v]
  let head := s.legHead sec n
  let cums : Word × Word := match head with
    | some h => x.heads[h].countsAt (s.sense sec n) completeTo
    | none => (0, 0)
  let req := s.requestOn v k
  let (at1, ai, ao, az, af) := s.attBlock v k completeTo
  let (fh, fd) := s.farFields v sec n sendTime
  let kin := s.kin[sec]
  { typ := typ
    auth := s.authMode k
    alive := s.hasp.conns[k].alive.toNat
    sender := s.nodeNumber
    sendTime := sendTime
    completeTo := completeTo
    ackTo := x.conns[k].ackTo
    epoch := s.nv.secs[sec].epoch
    overlap := s.overlapLeg sec n
    period := s.haspPeriod
    bhead := match head with
      | some h => h.val
      | none => 0
    secState := s.keep.merged[sec].state.code
    farewell := farewell
    flags := s.teleFlags v sec n completeTo at1 req.isSome (typ == 1)
    speed := if kin.valid then min 0xFFFE (kin.speed.natAbs / 2) else 0xFFFF
    linkBreaks := s.keep.breaks[k] % 65536
    bal := s.keep.merged[sec].bal
    voidHeads := voidHeads
    zoneTime := x.secs[sec].tSet
    zoneCount := x.secs[sec].z[overlapZone n]
    cumIn := cums.1.toNat
    cumOut := cums.2.toNat
    farHorizon := fh
    farDist := min 0xFFFF fd
    reqTime := req.getD 0
    attTime := at1
    attIn := ai
    attOut := ao
    attZone := az
    attFlags := af
    recs := x.conns[k].recordsTo completeTo }

/-- A Hasp frame of Stoska's own. -/
def State.ownHasp (s : State) (x : TxFrame) : Bool := protocolOf x.frame == some protoHasp && x.frame.src == s.part.nodeMac

/-- R352, R456: a Hasp frame finds the port free, or goes before every other frame of its queue, behind Hasp frames that wait. -/
def State.enqueueFirst (s : State) (p : Fin 4) (x : TxFrame) : State :=
  let q := queueOf x.frame
  s.onPort p fun y =>
    if !y.link then y
    else if y.sending.isNone then { y with sending := some x }
    else { y with queues := updV y.queues q fun l => l.takeWhile s.ownHasp ++ x :: l.dropWhile s.ownHasp }

/-- R206, R209: a telegram leaves on both lanes of the connection's side. ALIVE advances. -/
def State.sendTele (s : State) (k : Fin 8) (x : Tele) : State :=
  let key := s.connKey k
  if x.auth = 1 ∧ key = [] then s
  else
    let data := padded (ouiBytes ++ [0x5D, 0x18] ++ x.wire (s.txConnId k) key)
    let tag : Tag := { pcp := BitVec.ofNat 3 s.haspPriority, vid := 0 }
    let side : Fin 2 := ⟨s.connSide k % 2, by omega⟩
    let s1 := State.each s [portOf 0 side, portOf 1 side] fun s p =>
      let f : Frame := { dst := s.neighbourMac k, src := s.part.nodeMac, tag := some tag, ether := 0x88B7, body := data
                         prp := some (trailerFor s.net.seqNr p true data), fcsOk := true }
      s.enqueueFirst p { frame := f, cls := (queueOf f).val }
    { s1 with net := { s1.net with seqNr := s1.net.seqNr + 1 } }.onHaspConn k fun c =>
      { c with alive := c.alive + 1, sent := true }

/-- R214: what both supervisors have assembled is sent where it is identical; else the period passes without a telegram. -/
def State.sendAssembled (s : State) (k : Fin 8) (l : List Tele) : State :=
  match l with
  | [] => s
  | x :: r =>
    if r.all fun y => y == x then s.sendTele k x
    else { s with nv := { s.nv with assembly := s.nv.assembly + 1 } }.record codeAssembly 0 [BitVec.ofNat 8 k.val]

/-- R214: the latest SEND_TIME of a connection at a time base time. -/
def State.slotOf (s : State) (k : Fin 8) (tb : Time) : Option Time :=
  let off := us (s.sendOffset k)
  if tb < off then none else some (off + (tb - off) / ms s.haspPeriod * ms s.haspPeriod)

/-- R254: every serving supervisor makes a request of the group a section leads, which a telegram of connection k is to carry. -/
def State.requestReady (s : State) (k : Fin 8) (sec : Fin 4) : Bool :=
  !s.serving.isEmpty && s.serving.all fun v =>
    let r := s.sv[v].rests[sec]
    r.state == 2 && r.tR == 0 && (members r.group).head? == some sec && (s.groupConns r.group).contains k

/-- R254: the requests that stood at the snapshot, and stand still, take their t_R from the first telegram that carries them. -/
def State.requestsTake (s snap : State) (k : Fin 8) (sendTime : Time) : State :=
  State.each s (sections.filter fun (sec : Fin 4) => snap.requestReady k sec) fun s sec =>
    match s.requestReady k sec, s.serving with
    | true, v :: _ =>
      let g := s.sv[v].rests[sec].group
      State.each s s.serving fun s w => s.chooseTR w g (sendTime - ms s.haspPeriod)
    | _, _ => s

/-- R214: the state as the snapshot of a SEND_TIME holds it; the state as it is where none was taken (the connection or its
schedule is newer than the snapshot time). -/
def State.atSnapshot (s : State) (k : Fin 8) (sendTime : Time) : State :=
  match s.past[k] with
  | some p => if p.sendTime = sendTime then s.asOf p else s
  | none => s

/-- R214, R366: a telegram of an enabled connection may be sent: time state 2 or 3, trailers allowed, no farewell before it. -/
def State.mayHasp (s : State) (k : Fin 8) : Bool :=
  s.phase == .service && s.connEnable k && s.timeGood && s.net.trailers && !s.net.stopped && !s.hasp.conns[k].done

/-- R214: a SEND_TIME not used yet, at most 20 µs ago. -/
def State.slotDue (s : State) (k : Fin 8) : Option Time :=
  match s.slotOf k s.tbNow with
  | some t => if s.tbNow ≤ t + us 20 && s.hasp.conns[k].lastSlot != some t then some t else none
  | none => none

/-- The gates of a side open again (R352). -/
def State.openGates (s : State) (k : Fin 8) : State :=
  let side : Fin 2 := ⟨s.connSide k % 2, by omega⟩
  State.each s [portOf 0 side, portOf 1 side] fun s p => s.onPort p fun y => { y with gate := none }

/-- R183, R214: T_own at the snapshot of a SEND_TIME, 50 µs before it. -/
def State.snapshotOwn (s : State) (sec : Fin 4) (sendTime : Time) : Time := min (s.tOwn sec) (sendTime - us 250)

/-- HASP_SEND (R214, R352): one telegram of a connection at its SEND_TIME, assembled as of its snapshot time. At any other time,
and where none may be sent, only the clock moves. -/
def execHaspSend (t : Time) (k : Fin 8) (s : State) : Host.Outcome State Fault Refusal :=
  let s := s.at t
  done (match s.slotDue k with
    | none => s
    | some st =>
      s.when (s.mayHasp k && s.pwr.state != .hibernate && !s.serving.isEmpty) fun s =>
        let snap := s.atSnapshot k st
        let s0 := snap.requestsTake snap k st
        let s1 := ((s.requestsTake snap k st).openGates k).onHaspConn k fun c => { c with lastSlot := some st }
        let c := s0.snapshotOwn (s0.connAt k).1 st
        ((s1.sendAssembled k (s1.serving.map fun v => s0.assemble v k 0 0 0 st c)).cvuDone).serveQueues)

/-! ### Connections and lanes in and out of service (R220, R229, R232) -/

/-- R229: a connection's NOENTRY as the neighbour's latest telegram shows it, or 1 out of service; a change raises source 5. -/
def State.neighbourNoEntry (s : State) (k : Fin 8) : State :=
  let v : Fin 2 := match s.serving with
    | v :: _ => v
    | [] => 0
  let c := s.sv[v].conns[k]
  let on := !c.inService || (match c.last with
    | some x => x.flags.testBit 0
    | none => true)
  if on = s.hasp.conns[k].noEntry then s
  else ((s.onHaspConn k fun c => { c with noEntry := on }).record codeNbrNoEntry 3
    [BitVec.ofNat 8 k.val, BitVec.ofNat 8 (b2n on)]).pulse 5

/-- R220: a connection leaves service in every supervisor: its break counts, and a sleeping part wakes (R388). -/
def State.connOut (s : State) (k : Fin 8) (farewell : Bool) : State :=
  let was := (List.finRange 2).any fun v => s.sv[v].conns[k].inService
  let s1 := { s with sv := s.sv.map fun x => x.onConn k fun c =>
    { c with inService := false, farewell := farewell, reinit := true, gapSince := none } }
  if !was then s1
  else
    let s2 := { s1 with keep := { s1.keep with breaks := updV s1.keep.breaks k (· + 1) } }
    let s3 := (s2.onNvConn k fun c => { c with loss := c.loss + 1 }).record codeConnection 0 [BitVec.ofNat 8 k.val, 0]
    (s3.neighbourNoEntry k).wakeEvent 3

/-- R220, R238: a lane of a connection leaves service. -/
def State.laneLost (s : State) (k : Fin 8) (lane : Fin 2) : State :=
  ((s.onHaspConn k fun c => { c with laneOut := updV c.laneOut lane fun _ => true }).onNvConn k fun c =>
    { c with laneLoss := updV c.laneLoss lane (· + 1) }).record codeLane 0 [BitVec.ofNat 8 k.val, BitVec.ofNat 8 lane.val, 0]

/-- R220: a copy has passed steps 1 to 4 on a lane. -/
def State.laneHeard (s : State) (k : Fin 8) (lane : Fin 2) : State :=
  let out := s.hasp.conns[k].laneOut[lane]
  let s1 := s.onHaspConn k fun c =>
    { c with laneOut := updV c.laneOut lane fun _ => false, laneGood := updV c.laneGood lane fun _ => some s.clk.now }
  s1.when out fun s => s.record codeLane 0 [BitVec.ofNat 8 k.val, BitVec.ofNat 8 lane.val, 1]

/-! ### What an accepted telegram does in one supervisor (R181, R185, R223, R224, R227, R231, R232, R244, R255, R288, R438) -/

/-- R223: the mirror set from a telegram. -/
def SvConn.mirrorSet (c : SvConn) (x : Tele) : SvConn :=
  { c with
    mirrorIn := BitVec.ofNat 32 x.cumIn
    mirrorOut := BitVec.ofNat 32 x.cumOut
    delivered := x.completeTo
    tN := some x.completeTo
    reinit := false
    gapSince := none }

/-- R185: a neighbour passage is late for supervisor v. -/
def State.lateFor (s : State) (v : Fin 2) (sec : Fin 4) (r : PassRec) : Bool :=
  s.sv[v].props[sec].state != .unconfigured && decide (r.tc ≤ s.sv[v].secs[sec].tSet)

/-- R181, R185: one passage of the neighbour placed in the settle queue of its leg's section, or a late report, which counts once
for both supervisors. -/
def State.deliver (s : State) (v : Fin 2) (sec n : Fin 4) (r : PassRec) : State :=
  if s.sv[v].props[sec].state = .unconfigured then s
  else if r.tc ≤ s.sv[v].secs[sec].tSet then
    (s.when (s.lead v || !(s.serving.any fun w => w != v && s.lateFor w sec r)) fun s =>
      s.onNvSec sec fun e => { e with late := e.late + 1 }).raise v sec 12 (some n)
  else
    let q : QPass := { tc := r.tc, place := .nbr n, into := r.into, pri := qPri (.nbr n) r.into none, speed := r.speed
                       clean := !bitOf r.qual 0 && !bitOf r.qual 1 }
    let s1 := s.onSv v fun x => x.onSec sec fun k => k.enqueue q
    let iso := match s.test.iso with
      | some i => decide (1 ≤ i.stage) && i.secs.getLsbD sec.val && decide (i.grantTb < r.tc)
      | none => false
    let s2 := s1.when iso fun s => s.isoWheel v
    s2.when (s.lead v) fun s => s.kinTake sec (.nbr n) r.into r.tc r.speed (bitOf r.qual 0 || bitOf r.qual 1)
      (s.kinRefUnc sec + 200)

/-- R224 step 2: records continue the numbering. -/
def pnumOk : Nat → List PassRec → Bool
  | _, [] => true
  | n, r :: l => r.pnum == n % 65536 && pnumOk (n + 1) l

/-- R224 steps 1 to 3: new records are delivered, or their break is cause 13. -/
def State.takeRecords (s : State) (v : Fin 2) (k : Fin 8) (x : Tele) : State :=
  let (sec, n) := s.connAt k
  let c := s.sv[v].conns[k]
  let new := x.recs.filter fun r => decide (c.delivered < r.tc)
  if !pnumOk ((c.mirrorIn + c.mirrorOut).toNat + 1) new then
    (s.crossCheck v k 1).onSv v fun y => y.onConn k fun c => { c with reinit := true }
  else
    State.each s new fun s r =>
      (s.deliver v sec n r).onSv v fun y => y.onConn k fun c =>
        { c with
          mirrorIn := if r.into then c.mirrorIn + 1 else c.mirrorIn
          mirrorOut := if r.into then c.mirrorOut else c.mirrorOut + 1
          delivered := r.tc }

/-- R224 step 4: the mirrors against the reported counters. -/
def State.mirrorCheck (s : State) (v : Fin 2) (k : Fin 8) (x : Tele) : State :=
  let c := s.sv[v].conns[k]
  if c.reinit then s
  else
    let di := (c.mirrorIn - BitVec.ofNat 32 x.cumIn).toInt
    let do_ := (c.mirrorOut - BitVec.ofNat 32 x.cumOut).toInt
    if 0 < di ∨ 0 < do_ then (s.crossCheck v k 3).onSv v fun y => y.onConn k fun c => { c with reinit := true }
    else if di = 0 ∧ do_ = 0 then
      s.onSv v fun y => y.onConn k fun c => { c with tN := some (max (c.tN.getD 0) x.completeTo), gapSince := none }
    else s.onSv v fun y => y.onConn k fun c => { c with gapSince := some (c.gapSince.getD s.clk.now) }

/-- R255: what of an answer is not met: 1 the epoch, 3 a flag. -/
def State.answerLacks (s : State) (sec : Fin 4) (x : Tele) : Option Nat :=
  if x.epoch ≠ s.nv.secs[sec].epoch ∨ x.epoch = 0 then some 1
  else if x.attFlags % 4 ≠ 3 ∨ !x.flags.testBit 7 ∨ !x.flags.testBit 8 then some 3
  else none

/-- R252, R255: an accepted telegram is taken as the answer of its connection where every condition holds. -/
def State.takeAnswer (s : State) (v : Fin 2) (k : Fin 8) (x : Tele) : State :=
  let sec := (s.connAt k).1
  State.each s sections fun s lead =>
    let r := s.sv[v].rests[lead]
    if r.state != 2 || r.tR == 0 || (members r.group).head? != some lead || !(s.groupConns r.group).contains k then s
    else
      let c := s.sv[v].conns[k]
      let br := r.breaks[k].getD x.linkBreaks
      let s1 := s.onSv v fun y => y.onRest lead fun r => { r with
        breaks := updV r.breaks k fun b => match b with
          | some b => if b = x.linkBreaks then some b else some 0x10000
          | none => some x.linkBreaks }
      if x.attTime ≠ r.tR ∨ r.answers[k].isSome then s1
      else match s.answerLacks sec x with
        | some code => s1.onSv v fun y => y.onRest lead fun r => { r with latest := updV r.latest k fun _ => some code }
        | none =>
          let cum := (BitVec.ofNat 32 x.attOut - BitVec.ofNat 32 x.attIn).toInt
          let cont := !c.reinit && c.mirrorIn == BitVec.ofNat 32 x.cumIn && c.mirrorOut == BitVec.ofNat 32 x.cumOut
          if br = x.linkBreaks && cont && c.inService then
            (if usableCum cum then
              s1.onSv v fun y => y.onRest lead fun r =>
                { r with answers := updV r.answers k fun _ => some { zov := x.attZone, cum := cum } }
            else s1.refuse v r.group 9)
          else s1

/-- R227: the sender's zone count joins the comparisons to come. -/
def State.takeZone (s : State) (v : Fin 2) (k : Fin 8) (x : Tele) : State :=
  let sec := (s.connAt k).1
  if x.flags.testBit 6 && x.epoch == s.nv.secs[sec].epoch then
    s.onSv v fun y => y.onConn k fun c => { c with pendCmp := c.pendCmp ++ [(x.zoneTime, x.zoneCount)] }
  else s

/-- R215: records the neighbour has acknowledged are sent no more. -/
def SvConn.acked (c : SvConn) (t : Time) : SvConn :=
  { c with ackAt := t, sendRecs := c.sendRecs.filter fun r => decide (t < r.tc) }

/-- R223, R224, R227, R231, R232, R244, R255: what supervisor v does with an accepted telegram. `fresh`: it sets the mirror. -/
def State.process (s : State) (v : Fin 2) (k : Fin 8) (x : Tele) (fresh : Bool) : State :=
  let s2 := if fresh then s.onSv v fun y => y.onConn k fun c => c.mirrorSet x
    else (s.takeRecords v k x).mirrorCheck v k x
  let s3 := ((s2.onSv v fun y => y.onConn k fun c => c.acked x.ackTo).takeZone v k x).takeAnswer v k x
  if x.typ = 1 ∧ bitOf x.voidHeads x.bhead then s3.crossCheck v k 6 else s3

/-- R387: a telegram accepted while hibernating waits for the wake. A later cyclic one, which repeats every record not yet
acknowledged (R215), takes the place of an earlier one that sets no mirror, of the same epoch. -/
def SvConn.waits (c : SvConn) (x : Tele) (fresh : Bool) : SvConn :=
  { c with unread := match c.unread.getLast? with
    | some (false, y) => if !fresh && y.typ == 0 && y.epoch == x.epoch then c.unread.dropLast ++ [(false, x)]
        else c.unread ++ [(fresh, x)]
    | _ => c.unread ++ [(fresh, x)] }

/-- R218 to R220, R223, R224: supervisor v accepts a telegram. While hibernating the Hasp layer takes it for the supervisors,
which process it after the wake (R387). -/
def State.accept (s : State) (v : Fin 2) (k : Fin 8) (x : Tele) (payload : List Byte) : State :=
  let c := s.sv[v].conns[k]
  let changed := match c.last with
    | some l => l.epoch != x.epoch
    | none => false
  let fresh := !c.inService || c.reinit || changed
  let s1 := s.onSv v fun y => y.onConn k fun c =>
    { c with inService := true, farewell := false, last := some x, lastBytes := payload, lastAt := s.clk.now
             since := if c.inService then c.since else s.clk.now }
  if s.pwr.state = .hibernate then s1.onSv v fun y => y.onConn k fun c => { c.waits x fresh with reinit := false }
  else s1.process v k x fresh

/-- R387, R232, R244: after the wake a supervisor processes what the Hasp layer has taken for it, in order. A connection that is out
of service sets its mirror anew at the next acceptance. -/
def State.readWaiting (s : State) (v : Fin 2) (k : Fin 8) : State :=
  let l := s.sv[v].conns[k].unread
  let s1 := State.each s l fun s u =>
    (s.onSv v fun y => y.onConn k fun c => { c with reinit := false }).process v k u.2 u.1
  s1.when (!l.isEmpty) fun s => s.onSv v fun y => y.onConn k fun c =>
    { c with unread := [], reinit := c.reinit || !c.inService }

/-! ### Checks of a received copy (R217, R218, R222) -/

/-- What a supervisor makes of a copy at steps 5 to 9. -/
inductive Copy where
  | accepted | duplicate | stale | rejected (step : Nat)
  deriving DecidableEq, Repr

/-- R217 steps 5 to 9, R222. -/
def State.judge (s : State) (v : Fin 2) (k : Fin 8) (x : Tele) (payload : List Byte) : Copy :=
  let (sec, n) := s.connAt k
  let c := s.sv[v].conns[k]
  let stamp : Int := s.tbNow
  let age : Int := stamp - (x.sendTime : Int)
  let behind : Int := match c.last with
    | some l => ((l.alive : Int) - x.alive) % 65536
    | none => 0
  let ahead : Int := match c.last with
    | some l => ((x.alive : Int) - l.alive) % 65536
    | none => 1
  let lastSend : Time := match c.last with
    | some l => l.sendTime
    | none => 0
  if c.last.isSome && behind == 0 && payload == c.lastBytes then .duplicate
  else if c.last.isSome && decide (1 ≤ behind ∧ behind ≤ 16) && decide (x.sendTime ≤ lastSend) then .stale
  else if c.inService && !decide (1 ≤ ahead ∧ ahead ≤ 4) then .rejected 7
  else if !s.timeGood || (c.last.isSome && decide (x.sendTime ≤ lastSend)) || decide (age < -2000) ||
      decide ((us s.maxAge : Int) < age) then .rejected 8
  else if decide (10 < timeDiff x.overlap (s.overlapLeg sec n)) || x.period != s.haspPeriod then .rejected 9
  else .accepted

/-- R217: a rejection at a step counts and is recorded. -/
def HaspConn.reject (c : HaspConn) (step : Nat) : HaspConn :=
  if step = 1 then { c with rejSource := c.rejSource + 1 }
  else if step = 2 then { c with rejFormat := c.rejFormat + 1 }
  else if step = 3 then { c with rejCrc := c.rejCrc + 1 }
  else if step = 4 then { c with rejAuth := c.rejAuth + 1 }
  else if step = 7 then { c with rejAlive := c.rejAlive + 1 }
  else if step = 8 then { c with rejAge := c.rejAge + 1 }
  else { c with rejConfig := c.rejConfig + 1 }

/-- R217: the counter of a rejection, and its record. -/
def State.rejectCopy (s : State) (k : Fin 8) (step : Nat) : State :=
  (s.onHaspConn k fun c => c.reject step).record codeHaspReject 0 [BitVec.ofNat 8 k.val, BitVec.ofNat 8 step]

/-- The number under which a verdict is recorded: 0 accepted, 5 duplicate, 6 stale, else the step. -/
def Copy.code : Copy → Nat
  | .accepted => 0
  | .duplicate => 5
  | .stale => 6
  | .rejected n => n

/-- R388: the fields of a telegram that wake a hibernating part when they differ. -/
def Tele.quietFields (x : Tele) : Tele :=
  { x with alive := 0, sendTime := 0, completeTo := 0, ackTo := 0, zoneTime := 0, farHorizon := 0 }

/-- R384, R388: a telegram accepted while hibernating wakes the part where it differs from the last one before entry, or where its
bound leaves the budget at the threshold or below. -/
def State.haspWake (s : State) (k : Fin 8) (x : Tele) : State :=
  if s.pwr.state != .hibernate then s
  else
    let same := match s.hasp.conns[k].lastBefore with
      | some l => l.quietFields == x.quietFields
      | none => false
    if !same || x.typ != 0 then s.wakeEvent 3 else s.when (s.timerDue .hibernate) fun s => s.wakeEvent 1

/-- R218 to R220, R229, R232, R238: both supervisors' verdicts on a copy, and what follows. While hibernating the Hasp layer
gives both verdicts (R387). -/
def State.takeCopy (s : State) (k : Fin 8) (x : Tele) (payload : List Byte) : State :=
  let vs := s.serving
  let verdicts := vs.map fun v => s.judge v k x payload
  let s1 := s.cvuDone
  match verdicts with
  | [] => s1
  | a :: r =>
    let s2 := s1.when (r.any fun b => b != a) fun s =>
      s.record codeHaspSplit 3 (BitVec.ofNat 8 k.val :: verdicts.map fun d => BitVec.ofNat 8 d.code)
    let s3 := match a with
      | .accepted => s2
      | .duplicate => s2.onHaspConn k fun c => { c with dups := c.dups + 1 }
      | .stale => s2.onHaspConn k fun c => { c with stale := c.stale + 1 }
      | .rejected n => s2.rejectCopy k n
    let takers := (vs.zip verdicts).filter fun p => p.2 == .accepted
    if takers.isEmpty then s3
    else
      let was := vs.all fun v => s.sv[v].conns[k].inService
      let s4 := s3.onHaspConn k fun c =>
        { c with lastAcc := s.tbNow, lastAge := min 0xFFFF ((s.tbNow - x.sendTime) / 1000) }
      let s5 := State.each s4 takers fun s p => s.accept p.1 k x payload
      let s6 := s5.when (!was) fun s => s.record codeConnection 0 [BitVec.ofNat 8 k.val, 1]
      let s7 := if x.typ = 1 then
          (s6.record codeFarewellIn 0 [BitVec.ofNat 8 k.val, BitVec.ofNat 8 x.farewell]).connOut k true
        else s6
      (s7.neighbourNoEntry k).haspWake k x

/-- R217: a copy that the switch delivers to the Hasp layer on a port, at the time its first byte reached it. -/
def State.haspTake (s : State) (port : Fin 4) (f : Frame) : State :=
  let side := sideOf port
  let payload := f.body.drop 5
  let named := connections.filter fun (k : Fin 8) => s.connEnable k && s.neighbourMac k == f.src
  let here := named.filter fun (k : Fin 8) => s.connSide k == side.val
  match here, named with
  | [], [] => { s with hasp := { s.hasp with unknown := s.hasp.unknown + 1 } }.record codeHaspReject 0 [0xFF, 1]
  | [], k :: _ => s.rejectCopy k 1
  | k0 :: _, _ =>
    let tagOk := match f.tag with
      | some t => t.vid == 0
      | none => true
    if !tagOk || !teleFormat payload then s.rejectCopy k0 2
    else match here.find? fun (k : Fin 8) => crcHolds payload (s.rxConnId k) with
      | none => s.rejectCopy k0 3
      | some k =>
        if s.authMode k == 1 && (s.test.authFail || !cmacHolds payload (s.rxConnId k) (s.connKey k)) then s.rejectCopy k 4
        else (s.laneHeard k (laneOf port)).takeCopy k (parseTele payload) payload

/-- A good Hasp frame on a port with a link, while the part is in service. -/
def State.haspFrame (s : State) (port : Fin 4) (f : Frame) : State :=
  s.when (s.phase == .service && s.net.ports[port].link && f.fcsOk && protocolOf f == some protoHasp) fun s => s.haspTake port f

/-- HASP_RECEIVE (R208, R217, R218). A frame that is no good Hasp frame never reaches the Hasp layer: only the clock moves. -/
def execHaspReceive (t : Time) (port : Fin 4) (f : Frame) (s : State) : Host.Outcome State Fault Refusal :=
  let s := s.at t
  let s1 := { s with net := { s.net with delivered := s.net.delivered.erase (port, f) } }
  done (s1.haspFrame port f)

/-- CONNECTION_TIMEOUT (R220): no telegram accepted for the supervision limit. Before it only the clock moves. -/
def execConnectionTimeout (t : Time) (k : Fin 8) (s : State) : Host.Outcome State Fault Refusal :=
  let s := s.at t
  let late := s.serving.any fun v => s.sv[v].conns[k].inService && decide (s.sv[v].conns[k].lastAt + s.superLimit ≤ s.clk.now)
  done (s.when late fun s => s.connOut k false)

/-- LANE_TIMEOUT (R220): no good copy from a lane for the supervision limit. Before it only the clock moves. -/
def execLaneTimeout (t : Time) (k : Fin 8) (lane : Fin 2) (s : State) : Host.Outcome State Fault Refusal :=
  let s := s.at t
  let c := s.hasp.conns[k]
  let late := match c.laneGood[lane] with
    | some g => decide (g + s.superLimit ≤ s.clk.now)
    | none => false
  done (s.when (!c.laneOut[lane] && late) fun s => s.laneLost k lane)

/-- MIRROR_GAP_TIMEOUT (R224): a mirror has stayed short for the supervision limit. Before it only the clock moves. -/
def execMirrorGapTimeout (t : Time) (k : Fin 8) (s : State) : Host.Outcome State Fault Refusal :=
  let s := s.at t
  done (State.each s s.serving fun s v =>
    match s.sv[v].conns[k].gapSince with
    | some g => s.when (decide (g + s.superLimit ≤ s.clk.now)) fun s =>
        (s.crossCheck v k 2).onSv v fun y => y.onConn k fun c => { c with reinit := true, gapSince := none }
    | none => s)

/-! ### Hasp while hibernating (R386, R387) -/

/-- R386: each supervisor leaves its template of a connection, without records, and the telegram last accepted is kept. -/
def State.leaveTemplates (s : State) : State :=
  State.each s (connections.filter fun (k : Fin 8) => s.connEnable k) fun s k =>
    let st := (s.past[k].map fun p => p.sendTime).getD ((s.slotOf k s.tbNow).getD s.tbNow)
    let s0 := s.atSnapshot k st
    let c := s0.snapshotOwn (s0.connAt k).1 st
    let tpl (v : Fin 2) : Option Tele := if s.sv[v].serves then some { s0.assemble v k 0 0 0 st c with recs := [] } else none
    s.onHaspConn k fun h => { h with
      template := #v[tpl 0, tpl 1]
      lastBefore := match s.serving with
        | v :: _ => s.sv[v].conns[k].last
        | [] => none }

/-- R387: a template filled for a SEND_TIME. -/
def State.filled (s : State) (v : Fin 2) (k : Fin 8) (x : Tele) (st : Time) : Tele :=
  let (sec, n) := s.connAt k
  { x with
    alive := s.hasp.conns[k].alive.toNat
    sendTime := st
    completeTo := st - us 250
    zoneTime := st - us 250
    farHorizon := (s.farFields v sec n st).1 }

/-- HIBERNATE_HASP_SEND (R386, R387): the Hasp layer fills both templates of a connection at its SEND_TIME and sends them where
they are identical. At any other time, and in any other power state, only the clock moves. -/
def execHibernateHaspSend (t : Time) (k : Fin 8) (s : State) : Host.Outcome State Fault Refusal :=
  let s := s.at t
  done (match s.slotDue k with
    | none => s
    | some st =>
      s.when (s.mayHasp k && s.pwr.state == .hibernate) fun s =>
        let s1 := (s.openGates k).onHaspConn k fun c => { c with lastSlot := some st }
        let l := s1.serving.filterMap fun v => s1.hasp.conns[k].template[v].map fun x => s1.filled v k x st
        ((s1.sendAssembled k l).cvuDone).serveQueues)

end Sys2Proof.Machine
end

