-- ==== Sys2Proof/Machine/Removal.lean ====
section
/-! DEFINITION. How service ends: the removal sequence, the farewells and the reset (R175, R216, R276, R389, R452, R453, R456 to
R458), with the commands that begin them. -/

namespace Sys2Proof.Machine

/-! ### The reset (R412, R430, R445, R451, R452) -/

/-- R458: an image load stopped by a reset reads 4 from then on. -/
def Images.stopped (m : Images) : Images := if m.state = 1 then { m with state := 4, image := [] } else m

/-- R430: a record cut short stands at the tail. -/
def State.cutTail (s : State) : Option Nat :=
  match s.intake.writing with
  | some q => some (s.recordBytes q).length
  | none => s.nv.mem.tail

/-- R452: everything that a reset keeps, in the phase that follows. Every other part of the state is at its reset value. -/
def State.afterReset (s : State) (p : Phase) : State :=
  { pending := s.pending
    phase := p
    clk := { s.clk with slew := 0 }
    part := s.part
    pins := s.pins
    nv := { s.nv with images := s.nv.images.stopped, mem := { s.nv.mem with tail := s.cutTail } }
    freeCount := s.freeCount }

/-! ### The Ledger at rest (R175) -/

/-- R175 step 1: one entry counted by every supervisor that has not counted it. -/
def State.countAll (s : State) (slot : Fin 2048) : State :=
  State.each s s.serving fun s v =>
    match s.led.entry v slot with
    | some en => s.when ((en.st == .detected || en.st == .countedOne) && !en.ack) fun s => s.countEntry v slot false
    | none => s

/-- R175 step 1: every entry counted, in the order of allocation; by a supervisor that serves alone, as a survivor counts. -/
def State.countRest (s : State) : State :=
  match s.serving with
  | [] => s
  | [w] => s.restLedger w
  | _ =>
    let l := sortBy (fun p : Nat × Entry => 65536 - s.led.age p.2) s.led.copies[0]
    State.each s l fun s p => if h : p.1 < 2048 then s.countAll ⟨p.1, h⟩ else s

/-- R175 step 4: the heads whose entry becomes VOID. -/
def State.openHeads (s : State) : BitVec 8 :=
  s.led.copies[0].foldl (fun (m : BitVec 8) p => if p.2.st = .opn then m ||| (1 <<< p.2.head.val) else m) 0

/-- R175 step 2: OPEN entries become VOID, and no episode opens one any more. -/
def State.voidOpen (s : State) : State :=
  let s1 := State.each s (s.led.copies[0].filter fun p => p.2.st == .opn) fun s p => s.voidEntry p.1 6
  { s1 with pas := { s1.pas with stopped := true } }

/-! ### The sequence (R456) -/

/-- R276, R456: both supervisors vote drop for every permit; no DEADBOLT. -/
def State.dropAll (s : State) : State :=
  let s1 := State.each s sections fun s n => s.dropPermit n [7] []
  s1.bothSv fun _ x => { x with votes := Vector.replicate 4 (.drop 7) }

/-- R246, R175: the final checkpoint, after the write under way. -/
def State.finalCkpt (s : State) : State :=
  let s1 := s.ckptDone true
  if s1.serving.isEmpty || s1.ckptSlots = 0 || !s1.setsAgree then s1
  else
    let c := s1.checkpoint
    ((s1.storeCkpt c).markCkpt c).cvuDone

/-- R216: the moment at which the next farewell of a side starts, in the time base: behind those already on the side's ports. -/
def State.farewellStart (s : State) (k : Fin 8) : Time :=
  let side : Fin 2 := ⟨s.connSide k % 2, by omega⟩
  let busy (p : Fin 4) : Time :=
    let y := s.net.ports[p]
    (y.sending.toList ++ y.queues[0] ++ y.queues[1] ++ y.queues[2]).foldl (fun d x => d + wireTime x.frame) 0
  s.tbNow + max (busy (portOf 0 side)) (busy (portOf 1 side))

/-- R216, R389: the farewell as one supervisor, or in HIBERNATE its template, gives it. -/
def State.farewellOf (s : State) (v : Fin 2) (k : Fin 8) (cause voidHeads : Nat) (st : Time) : Option Tele :=
  if s.pwr.state = .hibernate then
    s.hasp.conns[k].template[v].map fun x =>
      { s.filled v k x st with typ := 1, farewell := cause, flags := x.flags ||| 1, voidHeads := 0 }
  else some (s.assemble v k 1 cause voidHeads st (s.tOwn (s.connAt k).1))

/-- R216: the farewells of every enabled connection, in ascending number; nothing is sent on a connection after its own. R458: none
before the first Hasp telegram after start-up. -/
def State.farewells (s : State) (cause voidHeads : Nat) : State :=
  let begun := connections.any fun (k : Fin 8) => s.hasp.conns[k].sent
  State.each s (connections.filter fun (k : Fin 8) => begun && s.connEnable k && !s.hasp.conns[k].done) fun s k =>
    let st := s.farewellStart k
    ((s.sendAssembled k (s.serving.filterMap fun v => s.farewellOf v k cause voidHeads st)).cvuDone).onHaspConn k fun c =>
      { c with done := true }

/-- R417: OPSEC saved. -/
def State.saveOpsec (s : State) : State := { s with nv := { s.nv with opsecSaved := s.opsec } }

/-- R40, R276, R352, R456: what the warning does at once. -/
def State.warningTaken (s : State) : State :=
  let s1 := s.dropAll
  { s1 with keep := { s1.keep with farewell := true } }.switchStops

/-- R264: nothing more is requested or applied: requests and results not yet applied are dropped, and no attempt follows. -/
def State.restsWithdrawn (s : State) : State :=
  s.bothSv fun _ x => { x with rests := x.rests.map fun r =>
    if r.state = 0 ∨ r.state = 3 then r else { state := 4, refusal := r.refusal } }

/-- R36, R264: the evaluation step in which the warning is taken. -/
def State.lastStep (s : State) : State :=
  let q := s.evalFronts
  q.1.restsWithdrawn.evalBacks q.2

/-- R175: the Ledger at rest, the final checkpoint, the last words. -/
def State.lastCounts (s : State) : State := s.countRest.voidOpen.finalCkpt.publishAll

/-- R457: the sequence has run: every session closed, every permit low, the part removed. -/
def State.removedBy (s : State) (cause : Nat) : State :=
  { s with
    phase := .removed
    pins := { s.pins with farewellCause := cause }
    sdp := { s.sdp with sessions := (Vector.replicate 5 {}).set 0 { opened := true }, txn := none, waiting := [] }
    keep := { s.keep with permits := s.keep.permits.map fun p => { p with latch := false, qualAt := none } } }

/-- R175, R264, R456, R389: the removal sequence, with the cause of its farewells and of an interrupted journal. A sleeping part
does not wake for it. -/
def State.removal (s : State) (cause journal : Nat) : State :=
  let awake := s.pwr.state != .hibernate
  let s1 := ((s.isoAbort false).when awake State.lastStep).warningTaken
  let s2 := s1.when awake State.lastCounts
  (((s2.farewells cause s1.openHeads.toNat).journalStop journal).saveOpsec).removedBy cause

/-- R458: a sequence runs once, in service or during start-up. -/
def State.mayRemove (s : State) : Bool := s.phase == .booting || s.phase == .service

/-- Power good is gone before release. -/
def State.powerBad (s : State) : State := if s.phase = .good then { s with phase := .held } else s

/-! ### Commands -/

/-- REMOVAL_WARNING (R456 to R458): PRESENT_N has been high for 10 µs. -/
def execRemovalWarning (t : Time) (s : State) : Host.Outcome State Fault Refusal :=
  let s := s.at t
  let s1 := { s with pins := { s.pins with presentHigh := true, highAt := some s.clk.now } }
  done (if s1.mayRemove then s1.removal 1 1 else s1.powerBad)

/-- SUPPLY_LOSS (R456 to R458): AUX_OK has been low for 10 µs. -/
def execSupplyLoss (t : Time) (s : State) : Host.Outcome State Fault Refusal :=
  let s := s.at t
  let s1 := { s with pins := { s.pins with auxLow := true } }
  done (if s1.mayRemove then s1.removal 2 2 else s1.powerBad)

/-- R453: the software reset: the removal sequence, and a start-up that does not wait for power good. -/
def State.softReset (s : State) : State :=
  if s.mayRemove then { s.removal 1 3 with phase := .good } else s

/-- SKRST_REQ (R453, R458): ignored during a removal sequence and while held in reset. -/
def execSkrstReq (t : Time) (s : State) : Host.Outcome State Fault Refusal := done ((s.at t).softReset)

/-- R264, R458: a checkpoint write under way is cut short. -/
def State.cutCkpt (s : State) : State :=
  s.whenSome s.keep.ckBusy fun s c => if s.ckptSlots = 0 then s else s.storeCkpt { c with good := false }

/-- IMMEDIATE_RESET (R453): a reset without checkpoint and farewell. Where power good stands, a start-up follows. -/
def execImmediateReset (t : Time) (s : State) : Host.Outcome State Fault Refusal :=
  let s := s.at t
  done ((s.cutCkpt.journalStop 3).afterReset (match s.phase with
    | .booting => .good
    | .service => .good
    | .good => .good
    | .held => .held
    | .removed => .removed))

/-- RAIL_OUT_OF_RANGE (R458, R465): a reset at once, held until power good; a checkpoint under way is cut short, and the retention
of the AON domain goes with VAON. -/
def execRailOutOfRange (t : Time) (rail : Rail) (s : State) : Host.Outcome State Fault Refusal :=
  let s := s.at t
  let s1 := { s with pins := { s.pins with
    railsBad := if s.pins.railsBad.contains rail then s.pins.railsBad else s.pins.railsBad ++ [rail]
    vcoreLost := s.pins.vcoreLost || rail == Rail.vcore
    vaonLost := s.pins.vaonLost || rail == Rail.vaon } }
  let s3 := s1.cutCkpt.when (rail == Rail.vaon) fun s => { s with nv := { s.nv with mem := { s.nv.mem with latch := [] } } }
  done ((s3.journalStop 2).afterReset .held)

/-- OPSEC_SAVE (R417). -/
def execOpsecSave (t : Time) (s : State) : Host.Outcome State Fault Refusal :=
  let s := s.at t
  done (s.when (s.released && decide ((s.nv.opsecSaved + 60) * 1000000000 ≤ s.nv.opsecNs)) fun s => s.saveOpsec)

/-- CONTACT_BOUNCE (R449, R458): PRESENT_N high for less than 10 µs. -/
def execContactBounce (t : Time) (s : State) : Host.Outcome State Fault Refusal :=
  let s := s.at t
  let s1 := { s with pins := { s.pins with highAt := some s.clk.now } }
  done (s1.when s1.mayRemove fun s => s.record codeContactBounce 0 [])

end Sys2Proof.Machine
end

