-- ==== Sys2Proof/Machine/Reads.lean ====
section
/-! DEFINITION. What a read of each dictionary entry returns (R9, R10, R163, R177, R200 to R202, R204, R238, R268, R269, R287,
R293, R313, R316, R324 to R343, R427). -/

namespace Sys2Proof.Machine

/-- An abort: code and detail (R312). -/
abbrev Abort := Nat × Nat

/-- R312: the codes. -/
def abMalformed : Nat := 0x0001
def abVersion : Nat := 0x0002
def abSession : Nat := 0x0003
def abSessions : Nat := 0x0004
def abReqId : Nat := 0x0005
def abAuth : Nat := 0x0006
def abIndex : Nat := 0x0010
def abSub : Nat := 0x0011
def abReadOnly : Nat := 0x0012
def abWriteOnly : Nat := 0x0013
def abLevel : Nat := 0x0014
def abLength : Nat := 0x0015
def abRange : Nat := 0x0016
def abInconsistent : Nat := 0x0017
def abRwc : Nat := 0x0018
def abCondition : Nat := 0x0019
def abCrc : Nat := 0x001A
def abPending : Nat := 0x001B
def abRwt : Nat := 0x001C
def abSegment : Nat := 0x0020
def abAbandoned : Nat := 0x0021
def abTransfer : Nat := 0x0022
def abSize : Nat := 0x0023
def abWindow : Nat := 0x0024
def abNoTxn : Nat := 0x0030
def abOtherTxn : Nat := 0x0031
def abTxnFull : Nat := 0x0032
def abJournal : Nat := 0x0033
def abTest : Nat := 0x0040
def abBusy : Nat := 0x0041
def abDisagree : Nat := 0x0042
def abChallenge : Nat := 0x0050
def abBarred : Nat := 0x0051
def abUnreachable : Nat := 0x0052

/-- What a read answers. -/
abbrev Value := Except Abort (List Byte)

/-! ### Helpers -/

/-- R201: the supervisor whose set the dictionary shows: SVA, or the survivor in degraded run. -/
def State.reporter (s : State) : Fin 2 :=
  if s.keep.degraded then s.serving.headD 0 else 0

/-- The bytes of an ASCII text. -/
def textBytes (t : String) : List Byte := t.toList.map fun c => BitVec.ofNat 8 c.toNat

/-- R326: the variant and the silicon revision, as a letter and a number. -/
def Part.hardwareText (p : Part) : List Byte :=
  textBytes (match p.variant with
    | .ty440 => "TY7-440 "
    | .ty420 => "TY7-420 ") ++
    [BitVec.ofNat 8 (63 + p.silRev.toNat / 16), BitVec.ofNat 8 (48 + p.silRev.toNat % 16)]

/-- A measured value as an unsigned entry of w bytes, free in the direction of its rounding (log entry 3). -/
def State.readRat (s : State) (w : Nat) (q : Rat) : List Byte × State :=
  let r := s.unstatedRound q
  (leBytes w (min (256 ^ w - 1) r.1.toNat), r.2)

/-- A duration in µs that saturates below the code for infinite (R338, R378). -/
def State.readDuration (s : State) (o : Option Time) : List Byte × State :=
  match o with
  | none => (leBytes 4 0xFFFFFFFF, s)
  | some d =>
    let r := s.unstatedRound ((d : Rat) / 1000)
    (leBytes 4 (min 0xFFFFFFFE r.1.toNat), r.2)

/-- Whether a bit holds, as one byte. -/
def boolByte (b : Bool) : List Byte := [BitVec.ofNat 8 (b2n b)]

/-- Bits of a list of conditions, bit 0 first. -/
def bitsOf (l : List Bool) : Nat := (l.mapIdx fun i b => if b then 2 ^ i else 0).foldl (· + ·) 0

/-! ### The Ledger window (R163, R164, R177) -/

/-- R164: the code of an entry's state. -/
def EntryState.code : EntryState → Nat
  | .free => 0
  | .opn => 1
  | .detected => 2
  | .countedOne => 3
  | .counted => 4
  | .attested => 5
  | .cancelled => 6
  | .void => 7

/-- R163: the four words of an entry. -/
def Entry.bytes (e : Entry) : List Byte :=
  leBytes 4 (e.seq.toNat + 65536 * e.head.val + 524288 * b2n e.dir + 1048576 * e.st.code + 8388608 * (e.cls % 16) +
    134217728 * e.qual.toNat) ++
    leBytes 6 e.stamp ++ leBytes 2 e.speed ++ leBytes 2 e.dxy ++ leBytes 2 e.dwell

/-- The entries of a copy from the oldest on. -/
def Ledger.byAge (l : Ledger) (c : Fin 2) : List Entry :=
  sortBy (fun e : Entry => 65536 - l.age e) (l.copies[c].map fun p => p.2)

/-- R177: the sequence number of the newest and of the oldest entry held; 0 where none is. -/
def Ledger.newestSeq (l : Ledger) : Nat := ((l.byAge 0).getLast?.map fun e => e.seq.toNat).getD 0
def Ledger.oldestSeq (l : Ledger) : Nat := ((l.byAge 0).head?.map fun e => e.seq.toNat).getD 0

/-- R177: the entry a session's cursor names. -/
def Ledger.named (l : Ledger) (x : Session) : Option Entry :=
  (l.byAge (if x.ledCopy = 0 then 0 else 1)).find? fun e => e.seq.toNat == x.ledCursor

/-- R177: up to 64 entries from the cursor. -/
def Ledger.block (l : Ledger) (x : Session) : List Entry :=
  ((l.byAge (if x.ledCopy = 0 then 0 else 1)).dropWhile fun e => e.seq.toNat != x.ledCursor).take 64

/-! ### Lists (R101, R310, R313, R316, R319) -/

/-- R310: the overrides. -/
def State.overrides (s : State) : List Nat :=
  (s.sdp.work.map fun p => p.1).filter fun k => match dictRow k with
    | some r => r.expertSetting
    | none => false

/-- R310: index, subindex and 0. -/
def keyBytes4 (k : Nat) : List Byte := leBytes 2 (k / 256) ++ leBytes 1 (k % 256) ++ [0]

/-- R313: a pending set serialised. -/
def pendingBytes (l : List KeyVal) : List Byte :=
  l.flatMap fun p => leBytes 2 (p.1 / 256) ++ leBytes 1 (p.1 % 256) ++ leBytes 2 p.2.length ++ p.2

/-- R316, R334: a waiting set serialised. A KeySlot never waits. -/
def WaitingSet.bytes (w : WaitingSet) : List Byte :=
  leBytes 4 w.number ++ leBytes 8 w.time ++ leBytes 1 w.level ++ leBytes 1 w.items.length ++ pendingBytes w.items

/-- R319, R339: TxnList. -/
def Journal.bytes (j : Journal) : List Byte :=
  j.items.flatMap fun e => leBytes 2 (e.1 / 256) ++ leBytes 1 (e.1 % 256) ++ leBytes 2 e.2.2.length ++ e.2.1 ++ e.2.2

/-! ### Records (R415, R427) -/

/-- R427: a record as it is returned: itself, or a stub where its CRC fails. -/
def recordOut (b : List Byte) : List Byte :=
  let n := b.length - 4
  if decide (4 ≤ b.length) && b.drop n == leBytes 4 (crc32c (b.take n)).toNat then b
  else
    let stub := leBytes 2 20 ++ leBytes 2 0x0009 ++ List.replicate 8 0 ++ leBytes 2 (leNat (b.take 2)) ++ [0, 0]
    stub ++ leBytes 4 (crc32c stub).toNat

/-! ### Kinematics (R287) -/

/-- R287: the eight words of a block. -/
def Kin.bytes (k : Kin) : List Byte :=
  leBytes 4 (k.seq.toNat + 256 * b2n k.valid + 512 * b2n k.dir + 1024 * b2n k.prov + 2048 * b2n k.reversed +
    4096 * b2n k.held + 65536 * (k.refPoint % 16) + 1048576 * (k.axles % 4096)) ++
    leBytes 4 (wrapOf 32 k.speed) ++ leBytes 6 k.ref ++ [0, 0] ++ leBytes 2 k.unc0 ++ leBytes 2 k.uncSpd ++ leBytes 2 k.acc ++
    leBytes 2 k.maxAge ++ leBytes 6 k.entry ++ leBytes 1 k.seq.toNat ++ leBytes 1 (k.entryLeg % 4)

/-! ### Horizons (R338) -/

/-- The leg with the least bound, the lowest of equals. -/
def leastLeg (l : List (Option Time × Fin 4)) : Option (Fin 4) :=
  (l.foldl (fun (acc : Option (Option Time × Fin 4)) p => match acc with
    | none => some p
    | some q => if minBound p.1 q.1 = q.1 then some q else some p) none).map fun p => p.2

/-- R338: what limits an entry bound: 0 a section not CLEAR or an OPEN leg, 1 a neighbour's horizon, 2 a buffer stop, 3 a link
lost. -/
def State.boundSource (s : State) (v : Fin 2) : Nat → Fin 4 → Fin 4 → Nat
  | 0, _, _ => 1
  | f + 1, sec, n =>
    let b := s.beyond sec n
    if b = byOpen then 0
    else if b = byStop then 2
    else match s.legConn sec n with
      | some k =>
        let c := s.sv[v].conns[k]
        (match c.last with
          | none => 3
          | some t => if !c.inService || !s.timeGood then 3 else if t.secState != 0 || !t.flags.testBit 4 then 0 else 1)
      | none =>
        match s.otherSide sec n with
        | none => 0
        | some (t, m) =>
          if s.sv[v].props[t].state != .clear then 0
          else
            let far := (legs.filter fun (l : Fin 4) => l != m && s.hasLeg t l).map fun (l : Fin 4) =>
              ((match s.legHead t l, s.legHead sec n with
                | some h, some g => s.later s.sv[v].entry[legIndex t l] h g
                | _, _ => none), l)
            match leastLeg far with
            | some l => s.boundSource v f t l
            | none => 1

/-- R338: HorizonSource of a head. That of a head of no section, with no bound, is 2. -/
def State.horizonSource (s : State) (v : Fin 2) (h : Fin 8) : Nat :=
  if !s.headEnable h then 4
  else if (s.sectionsOf h).any fun n => s.sv[v].props[n].state != .clear then 0
  else
    let l := (s.sectionsOf h).flatMap fun (n : Fin 4) => (legs.filter fun (m : Fin 4) => s.hasLeg n m).map fun (m : Fin 4) =>
      ((match s.legHead n m with
        | some g => s.later s.sv[v].entry[legIndex n m] g h
        | none => none), n, m)
    match l.foldl (fun (acc : Option (Option Time × Fin 4 × Fin 4)) p => match acc with
        | none => some p
        | some q => if minBound p.1 q.1 = q.1 then some q else some p) none with
    | some p => s.boundSource v 5 p.2.1 p.2.2
    | none => 2

/-! ### Status by record -/

/-- R95, R115, R151: channel diagnostics. -/
def State.readChan (s : State) (c : Fin 16) (sub : Nat) : List Byte × State :=
  let ch := s.fe.chans[c]
  let sc := s.fe.scans[c]
  let st := s.eng.stats[c]
  let nv := s.nv.chans[c]
  let coeff (k : Int × Int) : List Byte := leBytes 2 (wrapOf 16 k.1) ++ leBytes 2 (wrapOf 16 k.2)
  match sub with
  | 0x01 => (leBytes 1 (match ch.phase with
      | .off => 0
      | .calibrating => 1
      | .inService => 2
      | .faulted => 3
      | .paused => 4
      | .isolated => 5), s)
  | 0x02 => (leBytes 1 ch.faultCause, s)
  | 0x03 => if ch.aCal = 0 then ([0, 0], s) else s.readRat 2 (1000 * ch.loopAmp / ch.aCal)
  | 0x04 => s.readRat 2 (100 * ch.excCur)
  | 0x05 => s.readRat 2 (100 * ch.iCal)
  | 0x06 => (leBytes 1 ch.gain, s)
  | 0x07 => (leBytes 2 ch.blankedShare, s)
  | 0x08 => (leBytes 4 nv.faultCount, s)
  | 0x09 => (leBytes 8 ch.lastFault, s)
  | 0x0A => (leBytes 8 ch.suspectFrom, s)
  | 0x0B => (leBytes 1 (nv.learnedLow.getD (s.carrierLowK c)), s)
  | 0x0C => (leBytes 1 (nv.learnedHigh.getD (s.carrierHighK c)), s)
  | 0x0D => (leBytes 8 sc.lastTime, s)
  | 0x0E => (leBytes 2 (wrapOf 16 sc.distLow), s)
  | 0x0F => (leBytes 2 (wrapOf 16 sc.distHigh), s)
  | 0x10 => (leBytes 4 nv.moveCount, s)
  | 0x11 => (sc.spectrum, s)
  | 0x12 => let r := s.rootRound 1000 st.noiseSq; (leBytes 2 (min 0xFFFF r.1.toNat), r.2)
  | 0x13 => (leBytes 2 (wrapOf 16 st.dMagL), s)
  | 0x14 => (leBytes 2 (wrapOf 16 st.dPhL), s)
  | 0x15 => (leBytes 2 (wrapOf 16 st.dMagH), s)
  | 0x16 => (leBytes 2 (wrapOf 16 st.dPhH), s)
  | 0x17 => (coeff nv.kapL, s)
  | 0x18 => (coeff nv.kapH, s)
  | 0x19 => (leBytes 8 s.eng.proofs[c].lastTime, s)
  | 0x1A => (leBytes 1 s.eng.proofs[c].result, s)
  | 0x1B => (leBytes 4 nv.proofCount, s)
  | 0x1C => (leBytes 1 st.detectCause, s)
  | _ => (leBytes 2 nv.minPeak, s)

/-- R152, R178, R269: head diagnostics. -/
def State.readHead (s : State) (h : Fin 8) (sub : Nat) : List Byte :=
  let x := s.eng.dets[chanX h]
  let y := s.eng.dets[chanY h]
  let nv := s.nv.heads[h]
  match sub with
  | 0x01 => leBytes 1 (match s.eng.assigned[h] with
      | some e => e.val
      | none => 0xFF)
  | 0x02 => leBytes 1 (bitsOf [x.present, x.present && x.confirmed, y.present, y.present && y.confirmed,
      x.hold == .settling || y.hold == .settling, x.hold == .takeover || y.hold == .takeover,
      s.eng.proofs[chanX h].running.isSome || s.eng.proofs[chanY h].running.isSome,
      s.eng.stats[chanX h].residual || s.eng.stats[chanY h].residual])
  | 0x03 => leBytes 1 (s.fe.chans[chanX h].lastClass % 16 + 16 * (s.fe.chans[chanY h].lastClass % 16))
  | 0x04 => leBytes 4 nv.takeovers
  | 0x05 => leBytes 4 nv.withdrawn
  | 0x06 => leBytes 4 nv.rejects
  | 0x07 => leBytes 8 (match x.present, y.present with
      | true, true => min x.onset y.onset
      | true, false => x.onset
      | false, true => y.onset
      | false, false => 0)
  | 0x08 => leBytes 4 nv.cancelled
  | 0x09 => leBytes 4 nv.voids
  | 0x0A => leBytes 4 nv.splits
  | 0x0B => leBytes 2 s.pas.lastSeq[h].toNat
  | 0x0C => leBytes 1 s.pas.voidCause[h]
  | 0x0D => boolByte s.keep.cumValid[h].isSome
  | _ => leBytes 4 (wrapOf 32 nv.lastRebase)

/-- R204: ClearBlock: a condition unmet in either supervisor. An unused or UNCONFIGURED section reads its default. -/
def State.clearBlock (s : State) (n : Fin 4) : Nat :=
  let l := s.serving.filter fun v => s.sv[v].props[n].state != .unconfigured
  if l.isEmpty then 0x7F
  else bitsOf ((List.range 7).map fun i => l.any fun v => !(s.clearConds v n).getD i true)

/-- R204, R269: section diagnostics. -/
def State.readSec (s : State) (n : Fin 4) (sub : Nat) : List Byte :=
  let x := s.sv[s.reporter]
  let nv := s.nv.secs[n]
  match sub with
  | 0x01 => leBytes 2 (s.violation n)
  | 0x02 => leBytes 1 s.keep.merged[n].first
  | 0x03 => leBytes 8 s.keep.merged[n].distSince
  | 0x04 => leBytes 4 nv.disturbed
  | 0x05 => leBytes 1 (s.clearBlock n)
  | 0x06 => leBytes 4 nv.resolved
  | 0x07 => leBytes 4 nv.mismatch
  | 0x08 => leBytes 4 nv.late
  | 0x09 => leBytes 4 nv.unchecked
  | 0x0A => boolByte s.keep.barred[n]
  | 0x0B => leBytes 2 s.trac[n].lastValid
  | 0x0C => leBytes 8 nv.lastClear
  | 0x0D => leBytes 1 x.rests[n].state
  | 0x0E => leBytes 1 x.rests[n].refusal
  | 0x0F => leBytes 8 nv.restoreTime
  | 0x10 => leBytes 1 nv.route
  | 0x11 => leBytes 4 nv.restores
  | 0x12 => leBytes 2 (wrapOf 16 s.keep.ckBal[n])
  | _ => boolByte x.secs[n].sound

/-- R193, R200: the clear timer: the longer of what the supervisors' timers have to run, where all run. -/
def State.clearLeft (s : State) (n : Fin 4) : Option Time :=
  match s.serving with
  | [] => none
  | l => l.foldl (fun (acc : Option Time) v => match acc, s.sv[v].props[n].clearAt with
      | some a, some b => some (max a (b + ms (s.clearConfirmDelay n) - s.clk.now))
      | _, _ => none) (some 0)

/-- R200: Verdict entries. -/
def State.readVerdict (s : State) (n : Fin 4) (sub : Nat) : List Byte × State :=
  let m := s.keep.merged[n]
  match sub with
  | 0x01 => (leBytes 4 (m.word s.keep.degraded).toNat, s)
  | 0x02 => (leBytes 1 m.state.code, s)
  | 0x03 => (leBytes 2 m.bal, s)
  | 0x04 => (leBytes 8 m.since, s)
  | 0x05 => (match s.clearLeft n with
      | some d => s.readRat 2 ((d : Rat) / 1000000)
      | none => ([0xFF, 0xFF], s))
  | 0x06 => (leBytes 4 (s.serving.foldl (fun b v => b ||| s.sv[v].props[n].causeBits) 0), s)
  | _ => if s.keep.degraded then s.readRat 4 ((s.degradedLeft n : Rat) / 1000000000) else (leBytes 4 0xFFFFFFFF, s)

/-- R202: zone entries. An UNCONFIGURED section counts nothing and reads defaults. -/
def State.readZone (s : State) (n : Fin 4) (sub : Nat) : List Byte × State :=
  let x := s.sv[s.reporter]
  let k := x.secs[n]
  match sub with
  | 0x01 => (leBytes 8 k.tSet, s)
  | 0x08 => (leBytes 2 (wrapOf 16 k.bs), s)
  | 0x09 => if x.props[n].state = .unconfigured then ([0, 0, 0, 0], s)
      else s.readRat 4 (((s.tbNow - k.tSet : Nat) : Rat) / 1000)
  | 0x0A => (leBytes 2 k.queue.length, s)
  | m => (leBytes 2 (wrapOf 16 (k.z.toList.getD (m - 2) 0)), s)

/-- R238: connection diagnostics. -/
def State.connState (s : State) (k : Fin 8) : Nat :=
  let x := s.sv[s.reporter].conns[k]
  let c := s.hasp.conns[k]
  if !s.connEnable k then 0
  else if x.inService then
    (if c.laneOut[1] && !c.laneOut[0] then 3 else if c.laneOut[0] && !c.laneOut[1] then 4 else 2)
  else if x.farewell then 6
  else if x.last.isNone then 1
  else 5

def State.readConn (s : State) (k : Fin 8) (sub : Nat) : List Byte :=
  let x := s.sv[s.reporter].conns[k]
  let c := s.hasp.conns[k]
  let nv := s.nv.conns[k]
  match sub with
  | 0x01 => leBytes 1 (s.connState k)
  | 0x02 => leBytes 8 c.lastAcc
  | 0x03 => leBytes 2 c.lastAge
  | 0x04 => leBytes 4 c.rejCrc
  | 0x05 => leBytes 4 c.rejAuth
  | 0x06 => leBytes 4 c.rejSource
  | 0x07 => leBytes 4 c.rejAlive
  | 0x08 => leBytes 4 c.rejAge
  | 0x09 => leBytes 4 c.rejConfig
  | 0x0A => leBytes 4 c.rejFormat
  | 0x0B => boolByte c.noEntry
  | 0x0C => leBytes 1 (match x.last with
      | some t => t.secState
      | none => 5)
  | 0x0D => leBytes 2 (match x.last with
      | some t => t.flags
      | none => 0)
  | 0x0E => leBytes 4 (match x.last with
      | some t => t.epoch
      | none => 0)
  | 0x0F => leBytes 4 x.mirrorIn.toNat
  | 0x10 => leBytes 4 x.mirrorOut.toNat
  | 0x11 => leBytes 4 c.dups
  | 0x12 => leBytes 4 c.stale
  | 0x13 => leBytes 1 x.detail
  | 0x14 => leBytes 4 nv.transitUnchecked
  | 0x15 => leBytes 4 nv.laneLoss[0]
  | 0x16 => leBytes 4 nv.laneLoss[1]
  | _ => leBytes 4 nv.loss

/-- R337: supervisor diagnostics. -/
def State.readSv (s : State) (v : Fin 2) (sub : Nat) : List Byte :=
  let x := s.sv[v]
  match sub with
  | 0x01 => leBytes 1 (match x.st with
      | .booting => 0
      | .inService => 1
      | .survivor => 2
      | .failed => 3)
  | 0x02 => leBytes 1 x.failCause
  | 0x03 => leBytes 8 x.failTime
  | 0x04 => leBytes 4 s.nv.svEcc[v]
  | 0x05 => leBytes 4 s.nv.svLock[v]
  | 0x06 => leBytes 4 x.overruns
  | _ => leBytes 4 x.imageCrc.toNat

/-- R338: power diagnostics. -/
def State.readPower (s : State) (sub : Nat) : List Byte × State :=
  let x := s.sv[s.reporter]
  match sub with
  | 0x01 => (leBytes 1 s.pwr.state.code.val, s)
  | 0x02 => s.readDuration x.budget
  | 0x03 => (leBytes 1 x.limiter, s)
  | 0x04 => (leBytes 1 x.limitHead, s)
  | 0x05 => (leBytes 4 s.nv.wakes, s)
  | 0x06 => (leBytes 4 s.nv.sleepsAborted, s)
  | _ => (s.nv.stateNs.toList.flatMap fun t => leBytes 8 (t / 1000000000), s)

/-- R338, R378: the horizon of a head. -/
def State.readHorizon (s : State) (h : Fin 8) (sub : Nat) : List Byte × State :=
  let v := s.reporter
  if sub = 1 then
    (if s.headEnable h then s.readDuration (s.sv[v].horizon[h].map fun t => t - s.tbNow) else ([0, 0, 0, 0], s))
  else (leBytes 1 (s.horizonSource v h), s)

/-- R328: the path delay of a side: that of its lane A port, or of lane B where lane A is not asCapable. -/
def State.pathDelay (s : State) (side : Fin 2) : Nat :=
  let a := s.net.ports[portOf 0 side]
  let b := s.net.ports[portOf 1 side]
  if a.asCapable || !b.asCapable then a.delay else b.delay

/-- R328: network and time status. -/
def State.readNet (s : State) (sub : Nat) : List Byte :=
  let p := s.net.ports
  match sub with
  | 0x01 => macBytes s.part.nodeMac
  | 0x02 => leBytes 1 (bitsOf (p.toList.map fun x => x.link))
  | 0x03 => leBytes 1 ((p.toList.mapIdx fun i x => if x.link then (if x.level24 then 2 else 1) * 4 ^ i else 0).foldl (· + ·) 0)
  | 0x04 => leBytes 1 s.tb.state
  | 0x05 => leBytes 4 (wrapOf 32 s.tb.offset)
  | 0x06 => (leBytes 8 s.tb.gmId.toNat).reverse
  | 0x07 => leBytes 4 (s.pathDelay 0)
  | 0x08 => leBytes 4 (s.pathDelay 1)
  | 0x09 => leBytes 4 s.net.discards
  | 0x0A => leBytes 4 s.net.wrongA
  | 0x0B => leBytes 4 s.net.wrongB
  | _ => leBytes 1 (if s.syncPpsMode = 0 then 0 else if s.syncPpsMode = 2 then 3 else if s.tb.ppsLock then 1 else 2)

/-- R342: PathsUnderTest: heads lent to the test controller. No rule puts an engine, the recorder or the store under test. -/
def State.pathsUnderTest (s : State) : Nat :=
  match s.test.iso with
  | some i => if 1 ≤ i.stage then 2 ^ i.head.val else 0
  | none => 0

/-- R342: self-test control. -/
def State.readTest (s : State) (sub : Nat) : List Byte :=
  match sub with
  | 0x02 => leBytes 1 (match s.test.iso with
      | some i => if i.stage ≤ 2 then 2 ^ i.head.val else 0
      | none => 0)
  | 0x03 => leBytes 1 s.pathsUnderTest
  | 0x04 => leBytes 1 s.test.result
  | 0x05 => leBytes 4 s.test.patterns
  | 0x06 => leBytes 4 s.test.planned
  | 0x07 => Config.repairMapBytes (s.nv.repair.soft.map (fun r => (r.1, r.2.1)) ++ s.nv.repair.fused)
  | 0x08 => leBytes 4 s.test.softRepairs
  | 0x09 => leBytes 4 s.nv.repair.fuses
  | 0x0A => (s.nv.repair.spares.toList.mapIdx fun i n =>
      if i = 4 then s.nv.repair.engSpares.toList.foldl min 0xFF else n).flatMap fun n => leBytes 1 n
  | 0x0B => leBytes 2 (bitsOf ((List.finRange 9).map fun e =>
      s.nv.repair.retired.getLsbD e.val || s.eng.wse[e].failed))
  | _ => leBytes 2 s.pathsUnderTest

/-- R341: the recorder window, but for RecRecord. -/
def State.readRec (s : State) (i : Fin 5) (sub : Nat) : List Byte :=
  let m := s.nv.mem
  match sub with
  | 0x01 => leBytes 4 s.sdp.sessions[i].recCursor
  | 0x04 => leBytes 4 0
  | 0x05 => leBytes 4 (m.recs.length - 1)
  | 0x06 => leBytes 4 m.used
  | 0x07 => leBytes 4 m.capacity
  | 0x08 => boolByte (m.stop == 1)
  | 0x0A => leBytes 1 m.stop
  | 0x0B => leBytes 4 s.intake.suppressed
  | 0x0C => leBytes 4 s.intake.overflow
  | 0x0D => ((m.latch.flatMap fun (e : BitVec 16 × BitVec 16 × Word) => leBytes 2 e.1.toNat ++ leBytes 2 e.2.1.toNat ++ leBytes 4 e.2.2.toNat) ++
      List.replicate 64 0).take 64
  | _ => [0]

/-- R177: the Ledger window, but for the entries. -/
def State.readLedger (s : State) (i : Fin 5) (sub : Nat) : List Byte :=
  match sub with
  | 0x01 => leBytes 2 s.sdp.sessions[i].ledCursor
  | 0x02 => leBytes 1 s.sdp.sessions[i].ledCopy
  | 0x05 => leBytes 2 s.led.newestSeq
  | 0x06 => leBytes 2 s.led.oldestSeq
  | 0x07 => leBytes 2 s.led.usable
  | 0x08 => leBytes 2 s.led.inUse
  | 0x09 => leBytes 2 s.led.peakUse
  | 0x0A => leBytes 4 s.nv.ledger[0]
  | 0x0B => leBytes 4 s.nv.ledger[1]
  | 0x0C => leBytes 4 s.nv.ledger[2]
  | _ => leBytes 4 s.nv.ledger[3]

/-- R339: the journal. -/
def State.readJournal (s : State) (sub : Nat) : List Byte :=
  let j := s.nv.journal
  match sub with
  | 0x01 => leBytes 1 j.state
  | 0x02 => leBytes 4 j.number
  | 0x03 => leBytes 1 j.items.length
  | 0x04 => leBytes 8 j.map
  | 0x05 => leBytes 1 j.cause
  | 0x06 => leBytes 8 j.time
  | 0x07 => j.bytes
  | _ => leBytes 4 j.next

/-- R327: sessions and keys, but for the settings. -/
def State.readSession (s : State) (i : Fin 5) (sub : Nat) : List Byte :=
  match sub with
  | 0x01 => leBytes 1 s.sdp.sessions[i].level
  | 0x08 => leBytes 1 (((List.finRange 5).filter fun j => decide (0 < j.val) && s.sdp.sessions[j].opened).length)
  | _ => leBytes 4 s.nv.refusedRaises

/-- The version of a bank. -/
def Images.versionOf (m : Images) (bank : Nat) : Word := if bank = 0 then m.version[0] else m.version[1]

/-- R326: identity. -/
def State.readIdentity (s : State) (idx sub : Nat) : List Byte :=
  if idx = 0x1000 then leBytes 4 0x5C
  else if idx = 0x1008 then textBytes "Stoska"
  else if idx = 0x1009 then s.part.hardwareText
  else if idx = 0x100A then (Config.versionText (s.nv.images.versionOf s.nv.images.active).toNat).take 32
  else match sub with
    | 1 => leBytes 4 0x009A4E17
    | 2 => leBytes 4 (match s.part.variant with
        | .ty440 => 1
        | .ty420 => 2)
    | 3 => leBytes 4 s.part.silRev.toNat
    | 4 => leBytes 4 s.part.serial.toNat
    | _ => leBytes 4 (keyCheck factoryKey)

/-- R336: firmware images, but for ImageLoad. -/
def State.readImage (s : State) (sub : Nat) : List Byte :=
  let m := s.nv.images
  match sub with
  | 2 => leBytes 1 m.state
  | 3 => leBytes 1 m.active
  | 4 => leBytes 4 (m.versionOf m.active).toNat
  | 5 => leBytes 4 (m.versionOf (1 - m.active)).toNat
  | 6 => leBytes 1 m.switchTo
  | _ => leBytes 4 90112

/-! ### Settings -/

/-- Values derived from other entries or not numbers (R91 to R93, R150, R203, R237, R309, R332, R333). -/
def State.derived (s : State) (key : Nat) : Option Nat :=
  let idx := key / 256
  let sub := key % 256
  if 0x1410 ≤ idx ∧ idx < 0x1418 ∧ sub = 0x0A then some (s.sendOffset (idx - 0x1410))
  else if 0x2100 ≤ idx ∧ idx < 0x2108 ∧ sub = 5 then some (s.headTch (idx - 0x2100))
  else if 0x3100 ≤ idx ∧ idx < 0x3110 ∧ sub = 1 then some (s.excAmplitude (idx - 0x3100))
  else if 0x3100 ≤ idx ∧ idx < 0x3110 ∧ sub = 6 then
    (if h : idx - 0x3100 < 16 then some (s.blankMask ⟨idx - 0x3100, h⟩) else none)
  else if 0x3200 ≤ idx ∧ idx < 0x3208 ∧ sub = 7 then some (s.baselineSlew (idx - 0x3200))
  else if 0x3300 ≤ idx ∧ idx < 0x3304 ∧ sub = 7 then some (b2n (s.bemfEnable (idx - 0x3300)))
  else if idx = 0x3500 ∧ sub = 1 then some s.horizonSpeed
  else if idx = 0x3700 ∧ 1 ≤ sub ∧ sub ≤ 8 then some (s.tchRole (sub - 1))
  else if idx = 0x3800 ∧ 1 ≤ sub ∧ sub ≤ 4 then some (s.phyAmplitude (sub - 1))
  else none

/-- R309: the value of a setting in force: as written, or derived, or its default. -/
def State.setting (s : State) (key : Nat) (r : DRow) : List Byte :=
  match kvGet key s.sdp.work with
  | some v => v
  | none =>
    match r.size with
    | none => []
    | some n =>
      match s.derived key with
      | some x => leBytes n x
      | none => leBytes n (wrapOf (8 * n) r.dflt)

/-- R322: what a stored entry reads: the value in force, or the one kept where the stored configuration is not used. -/
def State.shown (s : State) (key : Nat) (r : DRow) : List Byte :=
  if s.sdp.posState = 0 then s.setting key r
  else if (kvGet key s.sdp.work).isSome then s.setting key r
  else (kvGet key s.nv.cfg).getD (s.setting key r)

/-! ### The read of one entry -/

/-- R299: a challenge of 16 random bytes for a session. -/
def State.drawChallenge (s : State) (i : Fin 5) : Value × State :=
  let c := (List.range 16).map fun j => Config.randomByte (s.sdp.random + j)
  (.ok c, { s with sdp := { s.sdp with random := s.sdp.random + 16 } }.onSession i fun x =>
    { x with challenge := some (c, s.clk.now) })

/-- R341, R427: the record at a session's cursor. -/
def State.readRecord (s : State) (i : Fin 5) : Value :=
  let x := s.sdp.sessions[i]
  match (if x.recStale then none else s.nv.mem.recs[x.recCursor]?) with
  | some b => .ok (recordOut b)
  | none => .error (abWindow, 0)

/-- R177: the entry, or the block of entries, at a session's cursor. -/
def State.readEntries (s : State) (i : Fin 5) (block : Bool) : Value × State :=
  let x := s.sdp.sessions[i]
  match s.led.named x with
  | none => (.error (abWindow, 0), s)
  | some e =>
    if block then
      let l := s.led.block x
      let next := ((l.getLast?.map fun e => e.seq.toNat + 1).getD x.ledCursor) % 65536
      (.ok (l.flatMap Entry.bytes), s.onSession i fun x => { x with ledCursor := next })
    else (.ok e.bytes, s)

/-- What an entry that exists reads for a session: subindex 0 of a record its highest subindex (R9); commands and two-key
entries without a stored value 0 (R313). -/
def State.readValue (s : State) (i : Fin 5) (key : Nat) (r : DRow) : Value × State :=
  let idx := key / 256
  let sub := key % 256
  let ok (l : List Byte) : Value × State := (.ok l, s)
  let free (p : List Byte × State) : Value × State := (.ok p.1, p.2)
  if isCountEntry key then ok (leBytes 1 (highestSub idx))
  else if idx < 0x1100 then ok (s.readIdentity idx sub)
  else if idx = 0x1100 && sub = 2 then s.drawChallenge i
  else if idx = 0x1100 && (sub = 1 || sub = 8 || sub = 9) then ok (s.readSession i sub)
  else if idx = 0x1200 then ok (s.readNet sub)
  else if idx = 0x3000 && sub = 1 then ok (leBytes 2 s.overrides.length)
  else if idx = 0x3000 && sub = 2 then ok (s.overrides.flatMap keyBytes4)
  else if idx = 0x3600 && sub = 0x0C then ok (leBytes 1 (bitsOf (s.fe.blank.toList.map fun b => b.stuck)))
  else if idx = 0x4010 && sub = 2 then ok (pendingBytes s.sdp.sessions[i].pending)
  else if idx = 0x4010 && sub = 4 then ok (leBytes 1 s.sdp.sessions[i].pending.length)
  else if idx = 0x4010 && sub = 5 then ok (s.nv.waiting.flatMap WaitingSet.bytes)
  else if idx = 0x4020 && sub = 5 then ok (leBytes 1 s.nv.pitchRes)
  else if idx = 0x4020 then
    ok (if s.nv.pitchRes = 2 then (kvGet key s.nv.pitch).getD (leBytes (r.size.getD 0) 0) else leBytes (r.size.getD 0) 0)
  else if idx = 0x4022 then
    ok (if sub ≤ 4 then leBytes 4 ((s.nv.secs.toList.map fun e => e.epoch).getD (sub - 1) 0)
      else if sub ≤ 8 then leBytes 4 ((s.nv.secs.toList.map fun e => e.lastEpoch).getD (sub - 5) 0)
      else leBytes 8 ((s.nv.secs.toList.map fun e => e.epochStart).getD (sub - 9) 0))
  else if idx = 0x4030 && sub = 1 then ok (leBytes 2 s.sdp.position)
  else if idx = 0x4030 && sub = 3 then ok (leBytes 1 s.sdp.posState)
  else if idx = 0x4030 && sub = 4 then ok (leBytes 4 (s.pins.slotA.toNat + 65536 * s.pins.slotB.toNat))
  else if idx = 0x4040 then ok (List.replicate 16 0)
  else if idx = 0x4041 then ok (leBytes 4 (keyCheck (s.nv.keys.getD (sub - 1) [])))
  else if idx = 0x4050 then ok (s.readImage sub)
  else if h : 0x5100 ≤ idx ∧ idx < 0x5110 then free (s.readChan ⟨idx - 0x5100, by omega⟩ sub)
  else if h : 0x5200 ≤ idx ∧ idx < 0x5208 then ok (s.readHead ⟨idx - 0x5200, by omega⟩ sub)
  else if h : 0x5300 ≤ idx ∧ idx < 0x5304 then ok (s.readSec ⟨idx - 0x5300, by omega⟩ sub)
  else if h : 0x5400 ≤ idx ∧ idx < 0x5402 then ok (s.readSv ⟨idx - 0x5400, by omega⟩ sub)
  else if idx = 0x5480 then
    ok (match sub with
      | 1 => leBytes 4 s.nv.ckSeq
      | 2 => leBytes 8 s.nv.ckTime
      | 3 => leBytes 8 s.nv.ckWrites
      | _ => leBytes 4 s.nv.ckErrors)
  else if idx = 0x5500 then free (s.readPower sub)
  else if h : 0x5510 ≤ idx ∧ idx < 0x5518 then free (s.readHorizon ⟨idx - 0x5510, by omega⟩ sub)
  else if idx = 0x5600 && sub = 9 then ok (leBytes 1 (bitsOf (s.fe.tch.toList.map fun x => x.faulted)))
  else if idx = 0x5600 then
    ok (leBytes 2 (match (s.fe.tch.toList.map fun x => x.temp).getD (sub - 1) none with
      | some x => wrapOf 16 x
      | none => 0x8000))
  else if h : 0x5610 ≤ idx ∧ idx < 0x5614 then
    let n : Fin 4 := ⟨idx - 0x5610, by omega⟩
    ok (match sub with
      | 1 => leBytes 4 s.trac[n].rejects
      | 2 => leBytes 4 s.nv.staleCount[n]
      | _ => leBytes 1 s.trac[n].ctrl.toNat)
  else if idx = 0x5700 then ok (leBytes 4 (if sub = 1 then s.hasp.unknown else s.nv.assembly))
  else if h : 0x5710 ≤ idx ∧ idx < 0x5718 then ok (s.readConn ⟨idx - 0x5710, by omega⟩ sub)
  else if idx = 0x5F00 then ok (s.readJournal sub)
  else if h : 0x6000 ≤ idx ∧ idx < 0x6004 then free (s.readVerdict ⟨idx - 0x6000, by omega⟩ sub)
  else if h : 0x6100 ≤ idx ∧ idx < 0x6108 then
    let hd : Fin 8 := ⟨idx - 0x6100, by omega⟩
    ok (match sub with
      | 1 => leBytes 4 (s.sv[s.reporter].heads[hd]).pos.toNat
      | 2 => leBytes 4 (s.sv[s.reporter].heads[hd]).neg.toNat
      | 3 => leBytes 8 s.nv.heads[hd].lastTime
      | _ => leBytes 1 s.nv.heads[hd].lastDir)
  else if h : 0x6200 ≤ idx ∧ idx < 0x6204 then free (s.readZone ⟨idx - 0x6200, by omega⟩ sub)
  else if h : 0x6300 ≤ idx ∧ idx < 0x6304 then
    let k := s.kin[(⟨idx - 0x6300, by omega⟩ : Fin 4)]
    ok (match sub with
      | 1 => k.bytes
      | 2 => boolByte k.valid
      | 3 => leBytes 4 (wrapOf 32 k.speed)
      | 4 => leBytes 8 (k.ref % 2 ^ 48)
      | 5 => leBytes 1 k.refPoint
      | 6 => leBytes 2 k.axles
      | _ => leBytes 8 (k.entry % 2 ^ 48))
  else if idx = 0x7000 && sub = 2 then (s.readRecord i, s)
  else if idx = 0x7000 then ok (s.readRec i sub)
  else if idx = 0x7100 && sub = 3 then s.readEntries i false
  else if idx = 0x7100 && sub = 4 then s.readEntries i true
  else if idx = 0x7100 then ok (s.readLedger i sub)
  else if idx = 0x7200 then ok (s.readTest sub)
  else if r.stored then ok (s.shown key r)
  else ok (leBytes (r.size.getD 0) 0)

end Sys2Proof.Machine
end

