-- ==== Sys2Proof/Machine/Validate.lean ====
section
/-! DEFINITION. What a write is judged by: existence, access, level, length, range, the rules that bind entries to one another,
RWC, apply rules of two-key entries (R9, R10, R93, R94, R150, R237, R302, R303, R306, R307, R309, R312, R315, R325, R332, R353).
-/

namespace Sys2Proof.Machine

/-! ### Existence and access (R302, R312, R325) -/

/-- The row an access names, or why there is none. -/
def findRow (key : Nat) : Except Abort DRow :=
  match dictRow key with
  | some r => .ok r
  | none =>
    if isCountEntry key then .ok ⟨key / 256, 1, 0, 1, .u8, .ro, 0, 0, 0, 255, none, false, 0⟩
    else if indexExists (key / 256) then .error (abSub, highestSub (key / 256))
    else .error (abIndex, 0)

/-! ### Values (R303) -/

/-- UTF-8: the bytes of one character after its first. -/
def utf8Tail (b : Byte) : Nat :=
  let n := b.toNat
  if n < 0x80 then 0 else if n < 0xC2 then 9 else if n < 0xE0 then 1 else if n < 0xF0 then 2 else if n < 0xF5 then 3 else 9

/-- UTF-8 text; `k` continuation bytes are due. -/
def utf8Ok : Nat → List Byte → Bool
  | k, [] => k == 0
  | 0, b :: l => decide (utf8Tail b ≠ 9) && utf8Ok (utf8Tail b) l
  | k + 1, b :: l => b.toNat / 64 == 2 && utf8Ok k l

/-- R303: the length fits the type; else the length expected. -/
def DRow.lengthOk (r : DRow) (v : List Byte) : Option Nat :=
  match r.typ with
  | .vstr => if v.length ≤ 255 then none else some 255
  | .domain => none
  | _ => match r.size with
    | some n => if v.length = n then none else some n
    | none => none

/-- Every one of the four bytes of a word is at most a bound, or 0xFF. -/
def bytesUpTo (w bound : Nat) : Bool := (List.range 4).all fun i => decide (byteAt w i ≤ bound) || byteAt w i == 0xFF

/-- R89: the role codes. -/
def roleOk (n : Nat) : Bool :=
  n == 0 || decide (0x10 ≤ n ∧ n ≤ 0x17) || n == 0x20 || decide (0x30 ≤ n ∧ n ≤ 0x33)

/-- The value lies in the part of the entry's range that names no other entry. -/
def DRow.inRange (r : DRow) (key : Nat) (v : List Byte) : Bool :=
  let n := r.num v
  match r.typ with
  | .vstr => decide (v.length ≤ r.len) && utf8Ok 0 v
  | .octets =>
    if r.index = 0x1410 then !(macOf v).getLsbD 40
    else true
  | .domain => true
  | _ =>
    ((decide (r.lo ≤ n) && decide (n ≤ r.hi)) || r.alt == some n) &&
      (if r.index = 0x2200 && r.sub = 2 then bytesUpTo (leNat v) 7
      else if r.index = 0x2200 && r.sub = 0x0F then bytesUpTo (leNat v) 15
      else if key / 256 = 0x3700 && r.sub = 1 then roleOk (leNat v)
      else true)

/-! ### Rules between entries (R93, R150, R237, R309, R332, R353) -/

/-- A rule between entries: the entry whose own range it is (0 for none), every entry it involves, the statement that holds it. -/
structure RelRule where
  owner : Nat
  keys  : List Nat
  stmt  : Nat
  ok    : Bool
  deriving DecidableEq, Repr

/-- R93: the carriers of a channel. -/
def State.carrierRule (s : State) (c : Nat) : RelRule :=
  ⟨dkey (0x3100 + c) 3, [dkey (0x3100 + c) 2, dkey (0x3100 + c) 3], 93, decide (s.carrierLowK c + 16 ≤ s.carrierHighK c)⟩

/-- R150: the levels of a head. -/
def State.levelRules (s : State) (h : Nat) : List RelRule :=
  let k (n : Nat) : Nat := dkey (0x3200 + h) n
  [⟨k 2, [k 1, k 2], 150, decide (s.releaseLevel h + 20 ≤ s.onsetLevel h)⟩,
   ⟨k 3, [k 2, k 3], 150, decide (s.freezeLevel h ≤ s.releaseLevel h)⟩,
   ⟨k 4, [k 1, k 4], 150, decide (s.confirmLevel h ≤ s.onsetLevel h)⟩,
   ⟨k 9, [k 1, k 2, k 9], 150, decide (2 * s.noiseFault h + s.releaseLevel h ≤ s.onsetLevel h)⟩,
   ⟨k 0x0B, [k 0x0A, k 0x0B], 150, decide (s.driftWarnMag h < s.driftFaultMag h)⟩,
   ⟨k 0x0D, [k 0x0C, k 0x0D], 150, decide (s.driftWarnPhase h < s.driftFaultPhase h)⟩]

/-- R237: a connection's offset and identifiers. -/
def State.connRules (s : State) (c : Nat) : List RelRule :=
  let k (n : Nat) : Nat := dkey (0x1410 + c) n
  [⟨k 0x0A, [k 0x0A, dkey 0x1400 1], 237, decide (s.sendOffset c + 50 ≤ 1000 * s.haspPeriod)⟩,
   ⟨0, [k 1, k 6, k 7], 237, !s.connEnable c || (s.txConnId c != 0 && s.rxConnId c != 0)⟩]

/-- R353: neighbouring offsets, in order, lie 360 µs apart. -/
def apart : List Nat → Bool
  | a :: b :: l => decide (a + 360 ≤ b) && apart (b :: l)
  | _ => true

/-- R353: the connections of a side. -/
def State.sideOk (s : State) (side : Nat) : Bool :=
  let l := sortBy id (((List.range 8).filter fun k => s.connEnable k && s.connSide k == side).map fun k => s.sendOffset k)
  let per := 1000 * s.haspPeriod
  match l with
  | a :: _ :: _ => apart (l ++ [a + per]) && decide (2 * 3432 * l.length ≤ 10 * per)
  | _ => true

/-- R353: the entries it names. -/
def sideKeys : List Nat :=
  dkey 0x1400 1 :: (List.range 8).flatMap fun k => [dkey (0x1410 + k) 1, dkey (0x1410 + k) 4, dkey (0x1410 + k) 0x0A]

/-- Every rule between entries, as a configuration stands. -/
def State.relRules (s : State) : List RelRule :=
  (List.range 16).map s.carrierRule ++ (List.range 8).flatMap s.levelRules ++ (List.range 8).flatMap s.connRules ++
    [⟨dkey 0x3500 1, [dkey 0x3500 1, dkey 0x2000 2], 332, decide (s.speedLimit ≤ s.horizonSpeed)⟩,
     ⟨0, sideKeys, 353, s.sideOk 0⟩, ⟨0, sideKeys, 353, s.sideOk 1⟩]

/-- R309: the abort that the rules give an entry, in the configuration as it will be. A derived default of SendOffset that no longer
fits is another entry's range broken. -/
def State.relAbort (s : State) (key : Nat) : Option Abort :=
  let l := s.relRules.filter fun r => r.keys.contains key && !r.ok
  if l.any fun r => r.owner == key then some (abRange, 0)
  else l.head?.map fun r => (abInconsistent, r.stmt)

/-! ### A change of the working configuration -/

/-- An entry written, or released (R310). -/
abbrev Change := Nat × Option (List Byte)

/-- The working configuration with changes. -/
def workWith (w : List KeyVal) (l : List Change) : List KeyVal :=
  l.foldl (fun w c => match c.2 with
    | some v => kvSet c.1 v w
    | none => kvDel c.1 w) w

/-- The state with another working configuration. -/
def State.withWork (s : State) (w : List KeyVal) : State := { s with sdp := { s.sdp with work := w } }

/-- The configuration as it will be after changes. -/
def State.after (s : State) (l : List Change) : State := s.withWork (workWith s.sdp.work l)

/-! ### RWC (R10, R307) -/

/-- R94: the sections of every head whose body a flipped channel measures. -/
def State.flipSections (s s' : State) : List (Fin 4) :=
  ((List.range 8).filter fun c => bitOf s.tchFourWire c != bitOf s'.tchFourWire c).flatMap fun c =>
    s.bodySections c ++ s'.bodySections c

/-- R31, R94, R237: the sections that entries concern, before or after a change. -/
def State.concerned (s s' : State) (keys : List Nat) : BitVec 4 :=
  secBits (keys.flatMap fun k =>
    if k = dkey 0x3700 9 then s.flipSections s' else s.keySections k ++ s'.keySections k)

/-- R307: the section stands in the way of a write, as a supervisor sees it. -/
def State.inTheWay (s : State) (v : Fin 2) (n : Fin 4) : Bool :=
  let st := s.sv[v].props[n].state
  !(st == .clear || st == .unconfigured || (st == .restoring && s.nv.secs[n].epoch == 0))

/-- R307: the concerned sections that refuse, as bits. -/
def State.rwcBits (s : State) (v : Fin 2) (m : BitVec 4) : Nat :=
  (secBits (sections.filter fun n => m.getLsbD n.val && s.inTheWay v n)).toNat

/-- The entry is RWC, or RWT. -/
def keyRwc (key : Nat) : Bool := match dictRow key with
  | some r => r.acc == .rwc
  | none => false
def keyRwt (key : Nat) : Bool := match dictRow key with
  | some r => r.acc == .rwt
  | none => false

/-! ### Apply rules of two-key entries (R315) -/

/-- R315: the apply rule of an RWT entry. -/
inductive ApplyRule where
  | deferred | immediate | timed
  deriving DecidableEq, Repr

/-- R315. -/
def applyRule (key : Nat) : ApplyRule :=
  let idx := key / 256
  let sub := key % 256
  if idx = 0x4020 then .timed
  else if idx = 0x4021 || idx = 0x4040 || (decide (0x3200 ≤ idx ∧ idx < 0x3208) && sub == 0x12) ||
      (decide (0x3300 ≤ idx ∧ idx < 0x3304) && sub == 0x0A) || (decide (0x2200 ≤ idx ∧ idx < 0x2204) && (sub == 0x0C || sub == 0x0D))
  then .immediate
  else .deferred

/-- R313, R315: an entry may join a pending set: of one rule, or strike with pitch. -/
def mayJoin (l : List KeyVal) (key : Nat) : Bool :=
  let strike := dkey 0x4021 1
  let same := l.all fun p => applyRule p.1 == applyRule key
  let pitchMix := (l.map fun p => p.1).all (fun k => applyRule k == .timed || k == strike) &&
    (applyRule key == .timed || key == strike)
  same || pitchMix

/-! ### A write as one request (R306, R309, R312) -/

/-- The conditions of owning chapters that a write itself must meet: R335 for an emptied key slot. -/
def State.slotInUse (s : State) (slot : Nat) : Bool :=
  ((List.range 3).any fun j => s.levelKeySlot j == slot) || (List.range 8).any fun k => s.connEnable k && s.keySlot k == slot

/-- R322, R323, R334, R335, R336: conditions of owning chapters on a written value. -/
def State.ownCondition (s : State) (key : Nat) (v : List Byte) (binding : Bool) : Option Abort :=
  let idx := key / 256
  let sub := key % 256
  if idx = 0x4023 && !binding then some (abCondition, 323)
  else if idx = 0x4030 && (!binding || leNat v != s.sdp.position || s.sdp.posState == 3) then some (abCondition, 322)
  else if idx = 0x4040 && (v.all fun b => b == 0) && s.slotInUse (sub - 1) then some (abCondition, 335)
  else if idx = 0x4050 && sub = 6 && leNat v != s.nv.images.active && s.nv.images.state != 3 then some (abCondition, 336)
  else none

/-- Level, length and range of a value for an entry (R302, R303, R312). -/
def checkValue (level : Nat) (key : Nat) (r : DRow) (v : List Byte) : Option Abort :=
  if r.acc == .ro || r.acc == .const then some (abReadOnly, 0)
  else if level < r.level then some (abLevel, r.level)
  else if r.typ == .domain then some (abSize, 0)
  else match r.lengthOk v with
    | some n => some (abLength, n)
    | none => if r.inRange key v then none else some (abRange, 0)

/-- R309: a setting written alone or as part of a set: its own conditions, then the rules between entries. -/
def State.settingAbort (s s' : State) (key : Nat) (v : List Byte) (binding : Bool) : Option Abort :=
  match s.ownCondition key v binding with
  | some a => some a
  | none => s'.relAbort key

/-- R307: the RWC check of a set of entries. -/
def State.rwcAbort (s s' : State) (v : Fin 2) (keys : List Nat) : Option Abort :=
  let b := s.rwcBits v (s.concerned s' (keys.filter keyRwc))
  if b = 0 then none else some (abRwc, b)

/-- R306: what both supervisors make of a write: nothing, SVA's abort where all refuse, 0x0042 where they differ. -/
def State.bothJudge (s : State) (f : Fin 2 → Option Abort) : Option Abort :=
  match s.serving.map f with
  | [] => some (abBusy, 0)
  | a :: r =>
    if (a :: r).all fun x => x.isNone then none
    else if (a :: r).all fun x => x.isSome then a
    else some (abDisagree, 0)

end Sys2Proof.Machine
end

