-- ==== Sys2Proof/Machine/Apply.lean ====
section
/-! DEFINITION. What writes do once they are accepted: settings that take effect, strike, pitch, sweep, direct clear, releases,
key slots, waiting sets and the position binding (R98, R114, R138, R197, R239 to R243, R261 to R263, R283, R309, R315, R316, R318 to
R323, R335, R336, R429). -/

namespace Sys2Proof.Machine

/-! ### Strike (R243) -/

/-- R243: the epoch of a section is struck. -/
def State.strikeSec (s : State) (n : Fin 4) : State :=
  let s1 := s.onNvSec n fun e => { e with lastEpoch := if e.epoch = 0 then e.lastEpoch else e.epoch, epoch := 0 }
  let hs := s1.headsOf n
  let s2 := State.each s1 hs fun s h => s.setCumValid h false
  let s3 := s2.bothSv fun _ x => x.onSec n fun k => k.setSound s2.tbNow false
  State.each s3 s3.serving fun s v => if s.sv[v].props[n].state = .unconfigured then s else s.enter v n .restoring

/-- R243: the entries whose change strikes: those of R30 but the operator closure, the interior head's, a connection's binding.
DEDUCED: R41 keeps the operator closure from the state of a section (log entry 59). -/
def strikeKey (key : Nat) : Bool :=
  let idx := key / 256
  let sub := key % 256
  (decide (0x2100 ≤ idx ∧ idx < 0x2108) && decide (1 ≤ sub ∧ sub ≤ 3)) ||
    (decide (0x2200 ≤ idx ∧ idx < 0x2204) && (decide (1 ≤ sub ∧ sub ≤ 0x0A) || sub == 0x0F)) ||
    (decide (0x3300 ≤ idx ∧ idx < 0x3304) && decide (1 ≤ sub ∧ sub ≤ 3)) ||
    (decide (0x1410 ≤ idx ∧ idx < 0x1418) && (sub == 2 || sub == 3))

/-- The value that an entry reads differs between two configurations. -/
def State.settingDiffers (s s' : State) (key : Nat) : Bool :=
  match dictRow key with
  | some r => s.setting key r != s'.setting key r
  | none => false

/-- R243: the sections whose epoch a committed change strikes: it concerns them, changes a value and leaves them valid. -/
def State.struckBy (s s' : State) (keys : List Nat) : BitVec 4 :=
  let m := s.concerned s' (keys.filter fun k => strikeKey k && s.settingDiffers s' k)
  secBits (sections.filter fun n => m.getLsbD n.val && s'.validSec n)

/-! ### Settings that take effect (R62, R66, R67, R72, R89, R92, R98, R109, R114, R205, R346, R360, R361, R365) -/

/-- R79: a channel of a head that is disabled starts afresh; a latched fault stands, with what R95 says of it. -/
def Chan.disabled (ch : Chan) : Chan :=
  { phase := if ch.fault.isSome then .faulted else .off
    kL := ch.kL
    kH := ch.kH
    fault := ch.fault
    faultCause := ch.faultCause
    lastFault := ch.lastFault
    suspectFrom := ch.suspectFrom
    lastClass := ch.lastClass }

/-- A head that is disabled: its channels, detectors and episode start afresh, its engine rests, and it no longer counts every passage
(R247). -/
def State.headOff (s : State) (h : Fin 8) : State :=
  let s1 := State.each s [chanX h, chanY h] fun s c =>
    (((((s.onChan c Chan.disabled).onWarn c fun _ => {}).onScan c fun _ => {}).onDet c fun _ => {}).onStats c fun st =>
      { detectCause := st.detectCause, reRefd := st.reRefd }).onProof c fun _ => {}
  let s2 := (s1.onEp h fun _ => {}).whenSome (s1.eng.assigned[h]) fun s e => s.onWse e fun w => { w with hbAt := none, ckAt := none }
  { s2 with
    pas := { s2.pas with discard := updV s2.pas.discard h fun _ => false } }.setCumValid h false

/-- R82: a head that is enabled again: the channels of a fault that stands are driven. -/
def State.headOn (s : State) (h : Fin 8) : State :=
  State.each s [chanX h, chanY h] fun s c => s.when s.fe.chans[c].fault.isSome fun s => s.onChan c fun ch => { ch with excOn := true }

/-- R64, R72, R97, R98, R113: the channel settings of one channel take effect. DESIGN CHOICE: where a written MoveSpan leaves the steps
in use outside their windows, the carriers go back to the start values (log entry 60). -/
def State.chanHook (s old : State) (keys : List Nat) (c : Fin 16) : State :=
  let written := keys.any fun k => k == dkey (0x3100 + c.val) 2 || k == dkey (0x3100 + c.val) 3
  let s1 := s.when written fun s =>
    s.onNvChan c fun n => { n with learnedLow := some (s.carrierLowK c), learnedHigh := some (s.carrierHighK c) }
  let s2 := s1.when (s1.excAmplitude c != old.excAmplitude c) fun s => s.commandChange c (.amp (s.excAmplitude c))
  let s3 := s2.when (s2.senseGain c != old.senseGain c && s2.senseGain c != 0xFF) fun s => s.commandChange c (.gain (s.senseGain c))
  let s4 := s3.when (s3.burnOut c != old.burnOut c) fun s => s.commandChange c (.burn (s.burnOut c))
  let touched := keys.any fun k => decide (dkey (0x3100 + c.val) 1 ≤ k ∧ k ≤ dkey (0x3100 + c.val) 5)
  let s5 := s4.when touched fun s => s.onChan c fun ch => { ch with plan := none }
  let start (s : State) : State := s.commandChange c (.carriers (s.carrierLowK c) (s.carrierHighK c) false)
  let ch := s5.fe.chans[c]
  s5.when ((written && (s5.carrierLowK c != ch.kL || s5.carrierHighK c != ch.kH)) ||
    ((old.moveSpanLow != s5.moveSpanLow || old.moveSpanHigh != s5.moveSpanHigh) && !s5.stepsOk c ch.kL ch.kH)) start

/-- A connection that is enabled or disabled starts afresh, out of service (R205, R220). R214, R238: ALIVE and what is counted
since reset go on. R229: a change of NeighbourNoEntry raises source 5. -/
def State.connFresh (s : State) (k : Fin 8) : State :=
  let s1 := { s with sv := s.sv.map fun (x : Sv) => x.onConn k fun _ => {} }
  (s1.onHaspConn k fun c => { c with
    lastSlot := none
    laneGood := Vector.replicate 2 none
    laneOut := Vector.replicate 2 true
    template := Vector.replicate 2 none
    lastBefore := none }).neighbourNoEntry k

/-- What a change of settings does at once, beside what reads them at its next use. -/
def State.configHooks (s old : State) (keys : List Nat) : State :=
  let s0 := State.each s (heads.filter fun (h : Fin 8) => old.headEnable h && !s.headEnable h) State.headOff
  let s1 := State.each s0 (heads.filter fun (h : Fin 8) => !old.headEnable h && s.headEnable h) State.headOn
  let s2 := State.eachFin s1 16 fun s c => s.chanHook old keys c
  let s3 := State.each s2 ([4, 5] : List (Fin 6)) fun s b =>
    s.when (s.phase == .service) fun s => s.blankJudge b
  let s4 := State.each s3 ((List.finRange 8).filter fun (c : Fin 8) => s3.tchRole c == 0 && old.tchRole c != 0) fun s c =>
    s.onTch c fun x => { x with temp := none, faulted := false, badRun := 0, goodRun := 0 }
  let sensed (s : State) (h : Fin 8) : Bool × Option (Fin 8) := (s.headEnable h, s.bodyTch h)
  let s4b := State.each s4 (heads.filter fun (h : Fin 8) => sensed old h != sensed s4 h) State.bodyWarning
  let s5 := s4b.when (old.scanEnable && !s4.scanEnable) fun s => { s with fe := { s.fe with scans := s.fe.scans.map fun k =>
    if k.pause.isSome then { k with stop := true } else k } }
  let s6 := State.each s5 (connections.filter fun (k : Fin 8) => old.connEnable k != s5.connEnable k) State.connFresh
  let s7 := State.each s6 (ports.filter fun (p : Fin 4) => old.phyAmplitude p != s6.phyAmplitude p) fun s p => s.linkLost p
  let s8 := if old.syncLogInterval != s7.syncLogInterval || old.pdelayLogInterval != s7.pdelayLogInterval then
      s7.whenSome s7.tb.slave fun s p => s.signalOn p
    else s7
  let s9 := s8.when (old.holdoverLimit != s8.holdoverLimit) fun s => s.judgeHoldover
  (s9.when (old.syncPpsMode != s9.syncPpsMode) fun s => s.ppsRestart).amonRefresh

/-- R36, R243, R309: changes of the working configuration apply in one step: what they strike, what takes effect at once, and
every section judged again. -/
def State.applyConfig (s : State) (l : List Change) : State :=
  let keys := l.map fun c => c.1
  let s1 := s.after l
  let hit := s.struckBy s1 keys
  let s2 := s1.configHooks s keys
  let s3 := State.each s2 (sections.filter fun n => hit.getLsbD n.val) State.strikeSec
  let s4 := State.each s3 s3.serving fun s v => State.each s sections fun s n => s.configStep v n
  s4.publishAll

/-- R12: changes reach the configuration store, whatever PositionState is. -/
def State.storeChanges (s : State) (l : List Change) : State :=
  State.each s (l.filter fun c => cfgKey c.1) fun s c => match c.2 with
    | some v => s.storeEntry c.1 v
    | none => { s with
        nv := { s.nv with cfg := kvDel c.1 s.nv.cfg }
        sdp := { s.sdp with eccBad := s.sdp.eccBad.filter fun k => k != c.1 } }

/-! ### Two-key writes that apply at once (R138, R197, R243, R261 to R263, R335) -/

/-- The section that an entry of an array of sections belongs to. -/
def secOfKey (base key : Nat) : Fin 4 := ⟨(key / 256 - base) % 4, by omega⟩

/-- R261: a section may be swept, in every serving supervisor. -/
def State.maySweep (s : State) (n : Fin 4) : Bool :=
  s.nv.secs[n].epoch != 0 && s.legsReady n && s.serving.all fun v => s.sv[v].props[n].state == .restoring

/-- R263: every section beyond a GUYLINE or INTERNAL leg is CLEAR. -/
def State.beyondClear (s : State) (v : Fin 2) (n : Fin 4) : Bool :=
  legs.all fun m =>
    if !s.overlapped n m then true
    else match s.legConn n m with
      | some k =>
        let c := s.sv[v].conns[k]
        c.inService && (match c.last with
          | some x => x.secState == 0 && x.epoch == s.nv.secs[n].epoch
          | none => false)
      | none => match s.partner n m with
        | some (t, _) => s.sv[v].props[t].state == .clear
        | none => false

/-- R263: a section may be cleared directly. -/
def State.mayDirect (s : State) (n : Fin 4) : Bool :=
  s.maySweep n && decide (s.serving.length = 2) && s.serving.all fun v => s.beyondClear v n

/-- R197: the witness of a section may be released. -/
def State.mayRelease (s : State) (n : Fin 4) : Bool :=
  s.trac[n].fresh && (match s.trac[n].reading with
    | some r => decide (r ≤ s.bemfThreshold n)
    | none => false)

/-- R315: the statement whose condition an immediate entry fails; none where it may apply. A value of 0 asks for nothing. -/
def State.immediateFails (s : State) (e : KeyVal) : Option Nat :=
  let idx := e.1 / 256
  let sub := e.1 % 256
  let n := leNat e.2
  if idx = 0x4040 then (if (e.2.all fun b => b == 0) && s.slotInUse (sub - 1) then some 335 else none)
  else if n = 0 then none
  else if h : 0x3200 ≤ idx ∧ idx < 0x3208 then (if s.rerefAllowed ⟨idx - 0x3200, by omega⟩ n then none else some 138)
  else if 0x3300 ≤ idx ∧ idx < 0x3304 then (if s.mayRelease (secOfKey 0x3300 e.1) then none else some 197)
  else if 0x2200 ≤ idx ∧ idx < 0x2204 then
    (if sub = 0x0C then (if s.maySweep (secOfKey 0x2200 e.1) then none else some 261)
    else if s.mayDirect (secOfKey 0x2200 e.1) then none else some 263)
  else none

/-- R264: a result stands for a section: held, or computed for its group and not yet applied. -/
def Sv.hasResult (x : Sv) (n : Fin 4) : Bool :=
  x.rests[n].state == 3 || x.rests.toList.any fun r => r.result.isSome && r.group.getLsbD n.val

/-- R264: a result that meets a sweep or a direct clear is discarded, recorded. -/
def State.discardResult (s : State) (n : Fin 4) : State :=
  s.when (s.serving.any fun v => s.sv[v].hasResult n) fun s => s.record codeResultDiscarded 3 [BitVec.ofNat 8 n.val]

/-- R261, R263: B, Bs and every zone 0, T_set at T_own. -/
def SecCnt.emptied (k : SecCnt) (t : Time) : SecCnt := { k.zoneReset t with b := 0, tSet := t, queue := [], recent := [] }

/-- R261, R392: a section becomes PREPARED. -/
def State.sweep (s : State) (n : Fin 4) : State :=
  let s1 := s.discardResult n
  (State.each s1 s1.serving fun s v =>
    let t := s.tOwn n
    (s.onSv v fun x => (x.onSec n fun k => k.emptied t).onProp n fun p =>
      { p with dirValid := false, dir := false, provisional := false, provHead := none }).enter v n .prepared 4).pulse 22

/-- R263: what the record says of the neighbours: the state beyond each leg, 0xFF where none is seen. -/
def State.neighbourStates (s : State) (n : Fin 4) : List Byte :=
  legs.map fun (m : Fin 4) => match s.legConn n m, s.serving with
    | some k, v :: _ => (match s.sv[v].conns[k].last with
        | some x => BitVec.ofNat 8 x.secState
        | none => 0xFF)
    | none, _ => (match s.otherSide n m with
        | some (t, _) => BitVec.ofNat 8 s.keep.merged[t].state.code
        | none => 0xFF)
    | _, _ => 0xFF

/-- R263, R392: the supervised direct clear of a section, with its reference and the key slot of the session. -/
def State.directClear (s : State) (n : Fin 4) (ref slot : Nat) : State :=
  let s1 := s.discardResult n
  let s2 := (State.each s1 s1.serving fun s v => s.onSv v fun x => x.onSec n fun k => k.emptied (s.tOwn n)).sweepRebase n
  let s3 := s2.setBarred n false
  let s4 := State.each s3 s3.serving fun s v => s.enter v n .clear 5
  (s4.record codeDirectClear 3 ((BitVec.ofNat 8 n.val :: leBytes 4 ref) ++ (BitVec.ofNat 8 slot :: s.neighbourStates n))).pulse 22

/-- R197: the witness cause of a section is released. -/
def State.releaseWitness (s : State) (n : Fin 4) : State :=
  s.bothSv fun _ x => x.onProp n fun p => { p with witness := false, bemfAt := none }

/-- R335: a key is taken into a slot; all zeros empty it. -/
def State.loadKey (s : State) (slot : Nat) (v : List Byte) : State :=
  { s with nv := { s.nv with keys := s.nv.keys.set slot (if v.all fun b => b == 0 then [] else v) } }

/-- R315: one immediate entry applies. -/
def State.applyImmediate (s : State) (slot : Nat) (e : KeyVal) : State :=
  let idx := e.1 / 256
  let sub := e.1 % 256
  let n := leNat e.2
  if idx = 0x4040 then s.loadKey (sub - 1) e.2
  else if n = 0 then s
  else if idx = 0x4021 then State.each s (sections.filter fun (m : Fin 4) => bitOf n m.val) State.strikeSec
  else if h : 0x3200 ≤ idx ∧ idx < 0x3208 then
    State.each s ((List.finRange 2).filter fun (i : Fin 2) => bitOf n i.val) fun s i => s.rereference (chanOf ⟨idx - 0x3200, by omega⟩ i)
  else if 0x3300 ≤ idx ∧ idx < 0x3304 then s.releaseWitness (secOfKey 0x3300 e.1)
  else if sub = 0x0C then s.sweep (secOfKey 0x2200 e.1)
  else s.directClear (secOfKey 0x2200 e.1) n slot

/-! ### Waiting sets (R315, R316, R336, R429) -/

/-- One entry of a deferred set beside the settings: the bank to run from, the recorder's clear, the latch's. -/
def State.applyOther (s : State) (slot : Nat) (e : KeyVal) : State :=
  let n := leNat e.2
  if e.1 = dkey 0x4050 6 then { s with nv := { s.nv with images := { s.nv.images with switchTo := n } } }
  else if e.1 = dkey 0x7000 0x09 then (if n = 1 then s.recClearWanted slot else s)
  else if e.1 = dkey 0x7000 0x0E then s.when (n == 1) State.latchClear
  else s

/-- The changes a list of written values makes. -/
def changesOf (l : List KeyVal) : List Change := l.map fun e => (e.1, some e.2)

/-- R316: a waiting set applies atomically. A switch to the other bank starts the software reset in the same step (R461). -/
def State.applySet (s : State) (w : WaitingSet) : State :=
  let s1 := { s with nv := { s.nv with waiting := s.nv.waiting.erase w } }
  let l := changesOf (w.items.filter fun e => cfgKey e.1)
  let s2 := (s1.storeChanges l).applyConfig l
  let s3 := State.each s2 w.items fun s e => s.applyOther w.slot e
  s3.when (w.items.any fun e => e.1 == dkey 0x4050 6 && leNat e.2 != s.nv.images.active) fun s =>
    { s with nv := { s.nv with images := { s.nv.images with trial := true } } }.softReset

/-- R315, R316: a waiting set may apply: every concerned section is CLEAR, not concerned or named by the pitch of this step, and no
earlier set that still waits holds one of its entries. -/
def State.setReady (s : State) (pitched : BitVec 4) (w : WaitingSet) : Bool :=
  let s' := s.after (changesOf (w.items.filter fun e => cfgKey e.1))
  let m := s.concerned s' (w.items.map fun e => e.1)
  let earlier := s.nv.waiting.filter fun u => decide (u.number < w.number)
  !s.serving.isEmpty &&
    (sections.all fun n => !m.getLsbD n.val || pitched.getLsbD n.val || s.serving.all fun v => !s.inTheWay v n) &&
    !(earlier.any fun u => u.items.any fun e => w.items.any fun f => e.1 == f.1)

/-- R316: every waiting set that may apply, in commit order. -/
def State.applySets (s : State) (pitched : BitVec 4) : State :=
  State.each s s.nv.waiting fun s w => s.when (s.phase == .service && s.setReady pitched w) fun s => s.applySet w

/-- DEFERRED_SET_APPLY (R315, R316): one evaluation step, and the waiting sets that may apply in it. -/
def execDeferredSetApply (t : Time) (s : State) : Host.Outcome State Fault Refusal :=
  let s := s.at t
  done (s.when (!s.nv.waiting.isEmpty && s.serving.any fun v => s.evaluates v) fun s => s.evalBoth.applySets 0)

/-! ### Pitch (R241, R242, R264) -/

/-- An entry of the committed pitch. -/
def State.pitchVal (s : State) (sub : Nat) : Nat := match kvGet (dkey 0x4020 sub) s.nv.pitch with
  | some v => leNat v
  | none => 0

/-- R242: the sections named. -/
def State.pitchSecs (s : State) : List (Fin 4) := sections.filter fun (n : Fin 4) => bitOf (s.pitchVal 1) n.val

/-- R242: the own heads that a named section concerns. -/
def State.pitchHeads (s : State) : List (Fin 8) := heads.filter fun h => s.pitchSecs.any fun n => s.headConcerns h n

/-- R242: the result of the checks at PitchTime: 2, or the code of the first that fails. -/
def State.pitchCheck (s : State) : Nat :=
  let e := s.pitchVal 2
  let away (n : Fin 4) : Bool := s.serving.any fun v => s.sv[v].props[n].state != .restoring
  let unfit (h : Fin 8) : Bool := !s.quiet h || !s.healthy h
  let unnamed (h : Fin 8) : Bool := (s.sectionsOf h).any fun n => !s.pitchSecs.contains n
  let used (n : Fin 4) : Bool := s.nv.secs[n].lastEpoch == e
  if s.pitchSecs.any away then 3
  else if s.pitchHeads.any unfit then 4
  else if s.pitchHeads.any unnamed then 5
  else if e = 0 || s.pitchSecs.any used then 6
  else if !s.timeGood then 7
  else if s.serving.length != 2 then 8
  else 2

/-- R242: the pitch applied to one section. -/
def State.pitchSec (s : State) (n : Fin 4) (epoch : Nat) (t : Time) : State :=
  let s1 := s.onNvSec n fun e => { e with epoch := epoch, epochStart := t }
  let s2 := { s1.setBarred n false with keep := { (s1.setBarred n false).keep with
    breaks := Vector.ofFn fun k : Fin 8 => if s1.connEnable k && s1.connSection k == n.val then 0 else s1.keep.breaks[k] } }
  State.each s2 s2.serving fun s v =>
    (s.onSv v fun x => (x.onSec n fun k => { k.zoneReset t with b := 0, tSet := t, recent := [] }).onProp n fun p =>
      { p with routeT := t }).enter v n .clear 1

/-- R242, R392: the pitch applied. -/
def State.applyPitch (s : State) : State :=
  let hs := s.pitchHeads
  let zero (k : HeadCnt) : HeadCnt := { k with pos := 0, neg := 0, hist := [], histFull := false }
  let fresh (x : Sv) : Sv := hs.foldl (fun (x : Sv) h => x.onHead h zero) x
  let s1 := s.bothSv fun _ x => fresh x
  let s2 := State.each s1 hs fun s h => s.setCumValid h true
  (State.each s2 s.pitchSecs fun s n => s.pitchSec n (s.pitchVal 2) (s.pitchVal 3)).pulse 22

/-- R241, R242: a pitch, applied, refused or lost, is recorded with its inspector. -/
def State.pitchDone (s : State) (code : Nat) : State :=
  { s with nv := { s.nv with pitchRes := code } }.record codePitch 3
    (BitVec.ofNat 8 code :: (leBytes 4 (s.pitchVal 4) ++ leBytes 4 (s.pitchVal 2) ++ leBytes 1 (s.pitchVal 1)))

/-- PITCH_TIME (R36, R242, R264, R315): the pitch applies or is refused within the step, after the causes and before a result applies;
the waiting sets of its sections go before it. Before PitchTime
only the clock moves; a part that does not evaluate then wakes (R382, R384). -/
def execPitchTime (t : Time) (s : State) : Host.Outcome State Fault Refusal :=
  let s := s.at t
  done (s.when (s.nv.pitchRes == 1 && s.phase == .service && decide (s.pitchVal 3 ≤ s.tbNow)) fun s =>
    if s.serving.any (fun v => s.evaluates v) then
      let q := s.evalFronts
      let s2 := q.1.when (q.1.pitchCheck == 2) fun s => s.applySets (secBits s.pitchSecs)
      let s3 := if s2.phase != .service then s2
        else if s2.pitchCheck = 2 then s2.applyPitch.pitchDone 2
        else s2.pitchDone s2.pitchCheck
      s3.evalBacks q.2
    else s.wakeEvent 1)

/-! ### Position binding and the end of a transaction (R318 to R323) -/

/-- R322: PositionState, by PositionNow and the stored BoundPosition. -/
def State.positionState (s : State) : Nat :=
  let bound := (kvGet keyBound s.nv.cfg).elim 0 leNat
  if s.sdp.position = 0xFFFF then 3 else if bound = 0 then 1 else if bound = s.sdp.position then 0 else 2

/-- R323: what the binding transaction restores. -/
def State.bindingRestores (s : State) (items : List KeyVal) : State :=
  let val (k d : Nat) : Nat := (kvGet k items).elim d leNat
  let s1 := State.each s sections fun s n => s.onNvSec n fun e => { e with epoch := val (dkey 0x4023 (1 + n.val)) 0 }
  let b := val (dkey 0x4023 5) 15
  State.each s1 sections fun s n => s.setBarred n (bitOf b n.val)

/-- R322: the whole configuration that a binding transaction starts from: what earlier transactions of this binding gave. -/
def State.bindingBase (s : State) : List KeyVal := if s.sdp.posState = 0 then [] else s.sdp.work

/-- R318 step 2, R322, R323: the entries of a transaction apply to the working configuration in one step. -/
def State.applyTxn (s : State) (items : List KeyVal) : State :=
  if items.any fun e => e.1 == keyBound then
    let base := s.bindingBase
    let gone : List Change := (s.sdp.work.filter fun e => (kvGet e.1 base).isNone).map fun e => (e.1, none)
    let s1 := { s with nv := { s.nv with cfg := base.filter fun e => cfgKey e.1 } }
    (s1.applyConfig (gone ++ changesOf (items.filter fun e => cfgKey e.1))).bindingRestores items
  else s.applyConfig (changesOf (items.filter fun e => cfgKey e.1))

/-- R318 step 4, R320, R322: the journal is idle; the working configuration holds what its entries now hold, the position is judged
where it was bound, and every section again. -/
def State.journalDone (s : State) : State :=
  let j := s.nv.journal
  let s1 := s.journalFinish
  let vals : List KeyVal := (j.items.filter fun e => cfgKey e.1).map fun e => (e.1, if j.back then e.2.1 else e.2.2)
  let s2 := s1.when j.binding fun s => { s with sdp := { s.sdp with posState := s.positionState } }
  s2.applyConfig (changesOf vals)

end Sys2Proof.Machine
end

