-- ==== Sys2Proof/Machine/Cvu.lean ====
section
/-! DEFINITION. The host check-value units CVU2 and CVU3 (R407 to R414) and their commands. Unit 0 of the state is CVU2. -/

namespace Sys2Proof.Machine

/-- R412: the alive window; 0 acts as 1. -/
def Cvu.reach (u : Cvu) : Nat := if u.window = 0 then 1 else u.window.toNat

/-- R412: the alive value lies outside the window. -/
def Cvu.aliveOut (u : Cvu) : Bool :=
  let d := (u.aliveRx - u.aliveLast).toNat
  u.aliveEn && !u.sync && !(decide (1 ≤ d) && decide (d ≤ u.reach))

/-- R410: START. -/
def Cvu.begun (u : Cvu) : Cvu :=
  let a := if u.mode then u.aliveRx else u.aliveTx
  let v := crcInit u.poly
  { u with val := if u.aliveEn then crcFold u.poly v (leBytes 2 a.toNat) else v }

/-- R410, R412, R414: FINISH. A CLR_REJ of the same cycle clears the count after it. -/
def Cvu.ended (u : Cvu) (now : Time) : Cvu :=
  let r := (u.val ^^^ crcXorout u.poly) &&& crcMask u.poly
  if u.mode then
    let bad := r != u.expect &&& crcMask u.poly
    let out := u.aliveOut
    let ok := !bad && !out
    { u with
      result := r
      crcBad := bad
      aliveBad := out
      pass := ok
      aliveLast := if ok && u.aliveEn then u.aliveRx else u.aliveLast
      sync := if ok && u.aliveEn then false else u.sync
      rej := if ok || u.rej == 0xFFFFFFFF || u.clrAt == some now then u.rej else u.rej + 1 }
  else
    { u with
      result := r
      crcBad := false
      aliveBad := false
      pass := false
      aliveTx := if u.aliveEn then u.aliveTx + 1 else u.aliveTx }

/-- R409: CVU_CTRL written. -/
def Cvu.control (u : Cvu) (w : Word) : Cvu :=
  { u with
    poly := w.setWidth 2
    aliveEn := w.getLsbD 2
    mode := w.getLsbD 3
    window := (w >>> 4).setWidth 4
    sync := w.getLsbD 8 }

/-- R409: the bytes a data register of 1, 2 or 4 bytes folds. -/
def dataBytes (width : Nat) (w : Word) : List Byte := leBytes (min width 4) w.toNat

/-- CVU_CTRL_WRITE (R409, R410): VAL is left untouched. -/
def execCvuCtrlWrite (t : Time) (u : Fin 2) (w : Word) (s : State) : Host.Outcome State Fault Refusal :=
  done ((s.at t).onCvu u fun c => c.control w)

/-- START (R410). -/
def execStart (t : Time) (u : Fin 2) (s : State) : Host.Outcome State Fault Refusal := done ((s.at t).onCvu u Cvu.begun)

/-- FINISH (R410, R412): the done source follows. -/
def execFinish (t : Time) (u : Fin 2) (s : State) : Host.Outcome State Fault Refusal :=
  let s := s.at t
  done ((s.onCvu u fun c => c.ended s.clk.now).pulse (28 + u.val))

/-- R409: CLR_REJ. -/
def Cvu.cleared (u : Cvu) (now : Time) : Cvu := { u with rej := 0, clrAt := some now }

/-- CLR_REJ (R409). -/
def execClrRej (t : Time) (u : Fin 2) (s : State) : Host.Outcome State Fault Refusal :=
  let s := s.at t
  done (s.onCvu u fun c => c.cleared s.clk.now)

/-- CVU_DATA (R409, R410). -/
def execCvuData (t : Time) (u : Fin 2) (width : Nat) (w : Word) (s : State) : Host.Outcome State Fault Refusal :=
  done ((s.at t).onCvu u fun c => { c with val := crcFold c.poly c.val (dataBytes width w) &&& crcMask c.poly })

/-- CVU_VAL_WRITE (R411): bits above the width of the check ignore writes. -/
def execCvuValWrite (t : Time) (u : Fin 2) (w : Word) (s : State) : Host.Outcome State Fault Refusal :=
  done ((s.at t).onCvu u fun c => { c with val := w &&& crcMask c.poly })

end Sys2Proof.Machine
end

