-- ==== Sys2Proof/Machine/Hec.lean ====
section
/-! DEFINITION. The host event controller (R392 to R406) and its commands. -/

namespace Sys2Proof.Machine

/-! ### Sources (R392) -/

/-- R392: the level sources. -/
def isLevel (n : Nat) : Bool :=
  n == 0 || (decide (6 ≤ n) && decide (n ≤ 14)) || n == 21 || n == 24 || n == 25 || (decide (32 ≤ n) && decide (n < 48))

/-- R392: the pulse sources. -/
def isPulse (n : Nat) : Bool := decide (n < 32) && !isLevel n

/-- R392: HEAD_FAULT of a head. -/
def State.headFaultLevel (s : State) (h : Fin 8) : Bool :=
  s.headEnable h && (s.faultLine h || s.eng.assigned[h].isNone)

/-- R392, R220: an enabled connection, or a lane of one, is out of service. -/
def State.haspLinkLevel (s : State) : Bool :=
  (List.finRange 8).any fun (k : Fin 8) => s.connEnable k &&
    ((s.serving.any fun v => !s.sv[v].conns[k].inService) || s.hasp.conns[k].laneOut[0] || s.hasp.conns[k].laneOut[1])

/-- R426: RECORDER. -/
def State.recorderLevel (s : State) : Bool := s.nv.mem.stop != 0 || !s.nv.mem.latch.isEmpty

/-- R392: the condition of a level source. -/
def State.levelOf (s : State) (n : Nat) : Bool :=
  if n = 0 then s.keep.fdrop != 0
  else if n = 14 then s.keep.degraded
  else if n = 21 then s.haspLinkLevel
  else if n = 24 then s.recorderLevel
  else if n = 25 then s.host.mailbox.respReady
  else if h : 6 ≤ n ∧ n < 14 then s.headFaultLevel ⟨n - 6, by omega⟩
  else if h : 32 ≤ n ∧ n < 48 then !s.fe.warns[(⟨n - 32, by omega⟩ : Fin 16)].raised.isEmpty
  else false

/-- R393: a source is pending. -/
def State.hecPending (s : State) (n : Nat) : Bool := if isLevel n then s.levelOf n else isPulse n && s.hec.pend.getLsbD n

/-! ### Delivery (R393 to R397, R405) -/

/-- R402: the target a code names. -/
def targetIs (code : BitVec 3) (t : Fin 4) : Bool := code.toNat == t.val + 1

/-- R393, R394: the lowest-numbered deliverable source of a target. -/
def State.hecBest (s : State) (t : Fin 4) : Option (Fin 64) :=
  if s.hec.slots[t].busy then none
  else (List.finRange 64).find? fun (n : Fin 64) => s.hecPending n && targetIs s.hec.target[n] t

/-- R405: arbitration and delivery are powered: not in HIBERNATE, nor in a wake from it before the restore at 2 ms. -/
def State.hecPowered (s : State) : Bool :=
  match s.pwr.state, s.pwr.waking with
  | .hibernate, some (_, t0) => decide (t0 + ms 2 ≤ s.clk.now)
  | .hibernate, none => false
  | _, _ => true

/-- R404, R405: the level condition that HEC_LEVEL shows: while the HEC is unpowered, the one retained at entry. -/
def State.levelShown (s : State) (n : Nat) : Bool :=
  isLevel n && (if s.hecPowered then s.levelOf n else s.hec.levels.getLsbD n)

/-- R405: at entry to HIBERNATE the level conditions are retained. -/
def State.hecRetain (s : State) : State :=
  { s with hec := { s.hec with
      levels := (List.range 64).foldl (fun (w : BitVec 64) n => if isLevel n && s.levelOf n then w ||| (1 <<< n) else w) 0 } }

/-- R394, R395, R406: the offers, arbitrated again; those of the cycle before are kept for a core that accepts in this one. -/
def State.hecArbitrate (s : State) : State :=
  let prev := if s.hec.arbAt = some s.clk.now then s.hec.prev else s.hec.offer
  let offers : Vector (Option (Fin 64 × Word)) 4 :=
    if s.hecPowered then
      Vector.ofFn fun t : Fin 4 => (s.hecBest t).map fun n => (n, s.hec.vbase[t] + 16 * BitVec.ofNat 32 n.val)
    else Vector.replicate 4 none
  { s with hec := { s.hec with offer := offers, prev := prev, arbAt := some s.clk.now } }

/-- R394, R406: what a core accepts: the offer of the cycle before, where it had one, whatever has become deliverable since. -/
def State.hecOffered (s : State) (t : Fin 4) : Option (Fin 64 × Word) :=
  match (if s.hec.arbAt = some s.clk.now then s.hec.prev[t] else none) with
  | some x => some x
  | none => s.hec.offer[t]

/-- R397, R405: a claimed level source whose condition has ceased before its core's first access. -/
def State.hecSample (s : State) : State :=
  let slots := Vector.ofFn fun t : Fin 4 =>
    let k := s.hec.slots[t]
    if k.busy && !k.accessed && isLevel k.src && !s.levelOf k.src then { k with ceased := true } else k
  if s.hecPowered then { s with hec := { s.hec with slots := slots } } else s

/-- R397: the first access of a core to the window after its claim. -/
def State.hecAccess (s : State) (t : Fin 4) : State :=
  let k := s.hec.slots[t]
  if k.busy && !k.accessed then
    let gone := isLevel k.src && k.ceased
    { s with hec := { s.hec with
        slots := updV s.hec.slots t fun k => { k with accessed := true, gone := gone }
        goneCnt := updV s.hec.goneCnt t fun c => if gone && c != 0xFFFFFFFF then c + 1 else c
        goneAt := if gone then updV s.hec.goneAt t fun _ => some s.clk.now else s.hec.goneAt } }
  else s

/-- R396, R403: an EOI. -/
def State.hecEnd (s : State) (t : Fin 4) (w : Word) : State :=
  let k := s.hec.slots[t]
  let f (k : HecSlot) : HecSlot :=
    if k.busy && k.src.val == w.toNat % 64 then { eoiErr := k.eoiErr, errAt := k.errAt }
    else { k with eoiErr := true, errAt := some s.clk.now }
  { s with hec := { s.hec with slots := updV s.hec.slots t fun _ => f k } }

/-- R398: the lost-clear counter of a source. -/
def Hec.lost (h : Hec) (n : Fin 64) (now : Time) : Hec :=
  { h with
    lostClr := updV h.lostClr n fun c => if c = 0xFFFF then c else c + 1
    lostAt := updV h.lostAt n fun _ => some now }

/-- R404, R406: CLR_COUNTS: a counter that advances in the same cycle reads 1. -/
def Hec.countsCleared (h : Hec) (now : Time) : Hec :=
  { h with
    goneCnt := Vector.ofFn fun t : Fin 4 => if h.goneAt[t] = some now then 1 else 0
    lostClr := Vector.ofFn fun n : Fin 64 => if h.lostAt[n] = some now then 1 else 0 }

/-- R398, R404: a W1C write to a half of HEC_PEND, with the pulse sources that hardware sets in the same cycle. -/
def Hec.clear (h : Hec) (high : Bool) (w sets : Word) (now : Time) : Hec :=
  (List.finRange 32).foldl (fun (h : Hec) (i : Fin 32) =>
    let n : Fin 64 := if high then ⟨i.val + 32, by omega⟩ else ⟨i.val, by omega⟩
    if !isPulse n then h
    else
      let set := sets.getLsbD i.val
      let clr := w.getLsbD i.val
      let h1 : Hec := { h with pend :=
        if set then h.pend ||| ((1 : BitVec 64) <<< n.val)
        else if clr then h.pend &&& ~~~((1 : BitVec 64) <<< n.val) else h.pend }
      if set && clr then h1.lost n now else h1) h

/-- R402: a TARGET register written. -/
def Hec.setTargets (h : Hec) (i : Fin 8) (w : Word) : Hec :=
  (List.finRange 8).foldl (fun (h : Hec) (j : Fin 8) =>
    let n : Fin 64 := ⟨8 * i.val + j.val, by omega⟩
    if n.val < 48 then { h with target := updV h.target n fun _ => (w >>> (4 * j.val)).setWidth 3 } else h) h

/-- R7, R404: the flags of a half of HEC_PEND that hardware has set in this cycle. -/
def Hec.setsNow (h : Hec) (high : Bool) (now : Time) : Word :=
  let m := setNow h.setAt now
  if high then (m >>> 32).setWidth 32 else m.setWidth 32

/-- R403, R7: HEC_ACTIVEt written: EOI_ERR is W1C. -/
def State.hecActive (s : State) (off : BitVec 16) (w : Word) : State :=
  if 0x0240 ≤ off.toNat ∧ off.toNat < 0x0250 ∧ w.getLsbD 8 = true then
    let t : Fin 4 := ⟨(off.toNat - 0x0240) / 4 % 4, by omega⟩
    { s with hec := { s.hec with slots := updV s.hec.slots t fun k => { k with eoiErr := w1c k.eoiErr true k.errAt s.clk.now } } }
  else s

/-- R398, R400, R403, R404: the effect of a host write to the HEC, before arbitration. -/
def State.hecWrite (s : State) (i : Instr) : State :=
  match i with
  | .hecEoi _ t w => (s.hecAccess t).hecEnd t w
  | .hecPendClear _ high w sets => { s with hec := s.hec.clear high w (sets ||| s.hec.setsNow high s.clk.now) s.clk.now }
  | .hecTargetWrite _ i w => { s with hec := s.hec.setTargets i w }
  | .hecVbaseWrite _ t w => { s with hec := { s.hec with vbase := updV s.hec.vbase t fun _ => w &&& 0xFFFFFC00 } }
  | .clrCounts _ => { s with hec := s.hec.countsCleared s.clk.now }
  | .registerWrite _ off _ w => s.hecActive off w
  | _ => s

/-- R405: writes held over HIBERNATE apply after the restore, before any delivery. -/
def State.hecFlush (s : State) : State :=
  if s.hecPowered then
    State.each { s with hec := { s.hec with held := [] } } s.hec.held fun s i => s.hecWrite i
  else s

/-- A host write to the HEC range: in HIBERNATE held, with a wake through the HOST path. -/
def State.hecCommand (s : State) (i : Instr) : State :=
  let s1 := s.hecFlush.hecSample
  if s1.hecPowered then ((s1.hecWrite i).hecSample).hecArbitrate
  else { s1 with hec := { s1.hec with held := s1.hec.held ++ [i] } }.wakeEvent 8

/-! ### Commands -/

/-- HEC_SOURCE_PENDING (R392, R394): a pulse source sets its flag; a level source has risen, so it ceased where it was claimed
before. The offers follow. -/
def execHecSourcePending (t : Time) (src : Fin 64) (s : State) : Host.Outcome State Fault Refusal :=
  let s := s.at t
  let s1 := s.hecFlush.hecSample
  let s2 : State := if isPulse src then
      { s1 with hec := { s1.hec with
          pend := s1.hec.pend ||| (1 <<< src.val)
          setAt := updV s1.hec.setAt src fun _ => some s.clk.now
          inflight := s1.hec.inflight.erase src.val } }
    else if isLevel src && s1.hecPowered then
      let slots := s1.hec.slots.map fun k =>
        if k.busy && !k.accessed && k.src == src then { k with ceased := true } else k
      { s1 with hec := { s1.hec with slots := slots } }
    else s1
  done s2.hecArbitrate

/-- HEC_ACCEPT (R394, R397, R406): the core takes the offer; the source is in service at its target. -/
def execHecAccept (t : Time) (core : Fin 4) (s : State) : Host.Outcome State Fault Refusal :=
  let s := s.at t
  let s1 := s.hecFlush
  let s2 := if s1.hec.offer[core].isSome then s1 else s1.hecArbitrate
  done (match s2.hecOffered core with
    | some (n, _) =>
      let slot : HecSlot := { s2.hec.slots[core] with
        busy := true, src := n, accessed := false, ceased := isLevel n && !s2.levelOf n, gone := false }
      ({ s2 with hec := { s2.hec with
          slots := updV s2.hec.slots core fun _ => slot
          offer := updV s2.hec.offer core fun _ => none
          prev := updV s2.hec.prev core fun _ => none } }).hecArbitrate
    | none => s2)

/-- HEC_FIRST_ACCESS (R397). -/
def execHecFirstAccess (t : Time) (core : Fin 4) (s : State) : Host.Outcome State Fault Refusal :=
  let s := s.at t
  done ((s.hecFlush.hecSample.hecAccess core).hecArbitrate)

/-- HEC_EOI (R396, R403). -/
def execHecEoi (t : Time) (core : Fin 4) (w : Word) (s : State) : Host.Outcome State Fault Refusal :=
  done ((s.at t).hecCommand (.hecEoi t core w))

/-- HEC_PEND_CLEAR (R398). -/
def execHecPendClear (t : Time) (high : Bool) (w sets : Word) (s : State) : Host.Outcome State Fault Refusal :=
  done ((s.at t).hecCommand (.hecPendClear t high w sets))

/-- HEC_TARGET_WRITE (R400, R402). -/
def execHecTargetWrite (t : Time) (i : Fin 8) (w : Word) (s : State) : Host.Outcome State Fault Refusal :=
  done ((s.at t).hecCommand (.hecTargetWrite t i w))

/-- HEC_VBASE_WRITE (R400, R403). -/
def execHecVbaseWrite (t : Time) (core : Fin 4) (w : Word) (s : State) : Host.Outcome State Fault Refusal :=
  done ((s.at t).hecCommand (.hecVbaseWrite t core w))

/-- CLR_COUNTS (R404). -/
def execClrCounts (t : Time) (s : State) : Host.Outcome State Fault Refusal := done ((s.at t).hecCommand (.clrCounts t))

/-- CORE_RESET (R400): the slot frees without EOI; level sources are sampled again. -/
def execCoreReset (t : Time) (core : Fin 4) (s : State) : Host.Outcome State Fault Refusal :=
  let s := (s.at t).hecFlush.hecSample
  done ({ s with hec := { s.hec with slots := updV s.hec.slots core fun k => { eoiErr := k.eoiErr, errAt := k.errAt } } }.hecArbitrate)

end Sys2Proof.Machine
end

