-- ==== Sys2Proof/Machine/HostRegs.lean ====
section
/-! DEFINITION. The host window: traction status, time latch, mailbox and register writes (R270 to R293), and what every offset
of the window reads. -/

namespace Sys2Proof.Machine

/-! ### Traction status (R279 to R283) -/

/-- R280: the committed block's SEQ. -/
def Traction.seq (t : Traction) : BitVec 8 := t.ctrl.setWidth 8

/-- R280: a TS_CTRL is accepted: its parity holds, and its SEQ advances by exactly 1 or is taken whatever it is. -/
def Traction.accepts (t : Traction) (w : Word) : Bool := parOk w && (t.takeAny || w.setWidth 8 == t.seq + 1)

/-- R279, R280: a write to a staging register; the reserved half is ignored (R8). -/
def Traction.staged (t : Traction) (dclink : Bool) (w : Word) : Traction :=
  if dclink then { t with stDc := w &&& 0xFFFF } else { t with stBemf := w &&& 0xFFFF }

/-- R280, R281, R283: the block that an accepted TS_CTRL commits. -/
def Traction.committed (t : Traction) (w : Word) (now : Time) : Traction :=
  let t1 : Traction := { t with
    bemf := t.stBemf
    dclink := t.stDc
    ctrl := w &&& 0x80003FFF
    any := true
    commitAt := now
    fresh := true
    takeAny := false }
  { t1 with
    braked := if t1.scb && !(t.any && t.scb) then t.braked ++ [(t1.bemf, t1.dclink, t1.ctrl)] else t.braked
    lastValid := t1.reading.getD t.lastValid }

/-- R280, R283, R388: a write of TS_CTRL. -/
def State.tractionCommit (s : State) (n : Fin 4) (w : Word) : State :=
  let old := s.trac[n]
  if old.accepts w then
    let s1 := s.onTraction n fun t => t.committed w s.clk.now
    let new := s1.trac[n]
    let s2 := s1.when (new.dcl != old.dcl) fun s => s.record codeDcl 0 [BitVec.ofNat 8 n.val, BitVec.ofNat 8 new.dcl]
    let s3 := s2.when (new.chopOk != old.chopOk) fun s =>
      s.record codeChopper 0 [BitVec.ofNat 8 n.val, BitVec.ofNat 8 (b2n new.chopOk)]
    s3.when (new.scb != old.scb || new.dcl != old.dcl || new.chopOk != old.chopOk) fun s => s.wakeEvent 3
  else s.onTraction n fun t => { t with rejects := t.rejects + 1 }

/-- TRACTION_STAGE (R280): TS_BEMF or TS_DCLINK is held until a TS_CTRL commits it. -/
def execTractionStage (t : Time) (n : Fin 4) (dclink : Bool) (w : Word) (s : State) : Host.Outcome State Fault Refusal :=
  done ((s.at t).onTraction n fun x => x.staged dclink w)

/-- TRACTION_COMMIT (R280, R283). -/
def execTractionCommit (t : Time) (n : Fin 4) (w : Word) (s : State) : Host.Outcome State Fault Refusal :=
  done ((s.at t).tractionCommit n w)

/-- R281: the status of a stage stops being fresh. -/
def State.tractionAged (s : State) (n : Fin 4) : State :=
  let s1 := s.onTraction n fun x => { x with fresh := false, takeAny := true }
  { s1 with nv := { s1.nv with staleCount := updV s1.nv.staleCount n (· + 1) } }.record codeTractionStale 0
    [BitVec.ofNat 8 n.val]

/-- TRACTION_STALE (R281): the committed block is TractionStale old. Before then only the clock moves. -/
def execTractionStale (t : Time) (n : Fin 4) (s : State) : Host.Outcome State Fault Refusal :=
  let s := s.at t
  done (s.when (s.trac[n].fresh && decide (s.trac[n].commitAt + ms (s.tractionStale n) ≤ s.clk.now)) fun s => s.tractionAged n)

/-! ### The time latch (R272) -/

/-- SK_TIME_READ (R272). -/
def execSkTimeRead (t : Time) (s : State) : Host.Outcome State Fault Refusal :=
  let s := s.at t
  done { s with host := { s.host with
    timeLo := BitVec.ofNat 32 s.tbNow
    timeHi := BitVec.ofNat 32 (s.tbNow / 4294967296) } }

/-! ### The mailbox (R290 to R292) -/

/-- The bytes of words, little-endian within each word (R290). -/
def wordBytes (l : List Word) : List Byte := l.flatMap fun w => leBytes 4 w.toNat

/-- Bytes as n words. -/
def bytesWords : Nat → List Byte → List Word
  | 0, _ => []
  | n + 1, l => BitVec.ofNat 32 (leNat (l.take 4)) :: bytesWords n (l.drop 4)

def State.onMailbox (s : State) (f : Mailbox → Mailbox) : State := { s with host := { s.host with mailbox := f s.host.mailbox } }

/-- R291: SEND is taken. -/
def Mailbox.maySend (m : Mailbox) : Bool := !m.busy && !m.respReady && decide (1 ≤ m.reqLen) && decide (m.reqLen ≤ 256)

/-- R291: SEND ignored, or a write while BUSY. -/
def Mailbox.overran (m : Mailbox) (now : Time) : Mailbox := { m with overrun := true, overAt := some now }

/-- R291, R388: SEND. -/
def State.mailboxSend (s : State) : State :=
  if s.host.mailbox.maySend then
    (s.onMailbox fun m => { m with
      busy := true
      current := some ((wordBytes m.req).take m.reqLen)
      ahead := s.sdpQueue.length
      staged := none }).wakeEvent 8
  else s.onMailbox fun m => m.overran s.clk.now

/-- R291, R298: a request that has no response when it is cancelled counts as never received (DESIGN CHOICE, log entry 62). -/
def Session.unreceived (x : Session) : Session :=
  match x.before with
  | some (n, q, p) => if x.lastResp.isEmpty then { x with reqId := n, lastReq := q, lastResp := p, before := none } else x
  | none => x

/-- R291: CANCEL: a request in progress is abandoned, and what would answer it is dropped. -/
def State.mailboxCancel (s : State) : State :=
  if s.host.mailbox.busy then
    let s1 := s.onMailbox fun m => { m with
      busy := false
      cancelled := true
      cancAt := some s.clk.now
      current := none
      staged := none }
    { s1 with sdp := { s1.sdp with
        sessions := updV s1.sdp.sessions 0 Session.unreceived
        waiting := s1.sdp.waiting.filter fun w => w.src != .mailbox
        jrnReply := match s1.sdp.jrnReply with
          | some (_, .mailbox, _) => none
          | r => r } }
  else s

/-- R291: a response is delivered: BUSY clears and RESP_READY sets. -/
def Mailbox.delivered (m : Mailbox) (p : List Byte) (now : Time) : Mailbox :=
  { m with
    busy := false
    respReady := true
    respAt := some now
    respLen := min p.length 256
    resp := bytesWords 64 p
    staged := none }

/-- MAILBOX_SEND (R291). -/
def execMailboxSend (t : Time) (s : State) : Host.Outcome State Fault Refusal := done ((s.at t).mailboxSend)

/-- MAILBOX_CANCEL (R291). -/
def execMailboxCancel (t : Time) (s : State) : Host.Outcome State Fault Refusal := done ((s.at t).mailboxCancel)

/-- MAILBOX_RESPONSE (R291, R292): the response that is ready is delivered; none after a removal warning. With none ready only
the clock moves. -/
def execMailboxResponse (t : Time) (s : State) : Host.Outcome State Fault Refusal :=
  let s := s.at t
  done (match s.host.mailbox.staged with
    | some p => s.when (s.host.mailbox.busy && s.released) fun s => s.onMailbox fun m => m.delivered p s.clk.now
    | none => s)

/-! ### Register writes (R7, R8, R270) -/

/-- An index below 4 of a group of registers `step` apart. -/
def regIndex (off base step : Nat) : Fin 4 := ⟨(off - base) / step % 4, by omega⟩

/-- R404, R401: a write to the HEC range. -/
def State.writeHec (s : State) (t : Time) (off : Nat) (w : Word) : State :=
  if off < 0x0220 then s.hecCommand (.hecTargetWrite t ⟨(off - 0x0200) / 4 % 8, by omega⟩ w)
  else if off < 0x0230 then s.hecCommand (.hecVbaseWrite t (regIndex off 0x0220 4) w)
  else if off < 0x0240 then s.hecCommand (.hecEoi t (regIndex off 0x0230 4) w)
  else if off < 0x0250 then s.hecCommand (.registerWrite t (BitVec.ofNat 16 off) 4 w)
  else if off < 0x0258 then s.hecCommand (.hecPendClear t (off == 0x0254) w 0)
  else if off = 0x0270 && w.getLsbD 0 then s.hecCommand (.clrCounts t)
  else s

/-- R290, R291: a write to the mailbox range. A SEND beside a CANCEL is taken after it. -/
def State.writeMailbox (s : State) (off : Nat) (w : Word) : State :=
  let busy := s.host.mailbox.busy
  if off = 0x0400 then (s.when (w.getLsbD 1) fun s => s.mailboxCancel).when (w.getLsbD 0) fun s => s.mailboxSend
  else if off = 0x0404 then s.onMailbox fun m => { m with
    respReady := w1c m.respReady (w.getLsbD 1) m.respAt s.clk.now
    overrun := w1c m.overrun (w.getLsbD 2) m.overAt s.clk.now
    cancelled := w1c m.cancelled (w.getLsbD 3) m.cancAt s.clk.now }
  else if off = 0x0408 then s.onMailbox fun m => if busy then m.overran s.clk.now else { m with reqLen := w.toNat % 512 }
  else if 0x0500 ≤ off ∧ off < 0x0600 then s.onMailbox fun m =>
    if busy then m.overran s.clk.now else { m with req := m.req.set ((off - 0x0500) / 4) w }
  else s

/-- R279: a write to the traction status of a stage. -/
def State.writeTraction (s : State) (n : Fin 4) (reg : Nat) (w : Word) : State :=
  if reg = 0 then s.onTraction n fun x => x.staged false w
  else if reg = 4 then s.onTraction n fun x => x.staged true w
  else if reg = 0xC then s.tractionCommit n w
  else s

/-- R409: a write to a host check-value unit. START comes before FINISH where one write holds both. -/
def State.writeCvu (s : State) (u : Fin 2) (reg : Nat) (w : Word) : State :=
  let folded (width : Nat) : State :=
    s.onCvu u fun c => { c with val := crcFold c.poly c.val (dataBytes width w) &&& crcMask c.poly }
  if reg = 0x00 then s.onCvu u fun c => c.control w
  else if reg = 0x04 then
    let s1 := s.when (w.getLsbD 0) fun s => s.onCvu u Cvu.begun
    let s2 := s1.when (w.getLsbD 1) fun s => (s.onCvu u fun c => c.ended s.clk.now).pulse (28 + u.val)
    s2.when (w.getLsbD 2) fun s => s.onCvu u fun c => c.cleared s.clk.now
  else if reg = 0x08 then s.onCvu u fun c => { c with val := w &&& crcMask c.poly }
  else if reg = 0x10 then s.onCvu u fun c => { c with aliveTx := w.setWidth 16 }
  else if reg = 0x14 then s.onCvu u fun c => { c with aliveRx := w.setWidth 16 }
  else if reg = 0x18 then s.onCvu u fun c => { c with aliveLast := w.setWidth 16 }
  else if reg = 0x1C then s.onCvu u fun c => { c with expect := w &&& crcMask c.poly }
  else if reg = 0x30 then folded 1
  else if reg = 0x34 then folded 2
  else if reg = 0x38 then folded 4
  else s

/-- R270: an aligned 32-bit write to the window. Read-only and unlisted offsets ignore it. -/
def State.writeWindow (s : State) (t : Time) (off : Nat) (w : Word) : State :=
  if off = 0x0044 then s.deadboltClear w
  else if 0x0200 ≤ off ∧ off < 0x0400 then s.writeHec t off w
  else if 0x0400 ≤ off ∧ off < 0x0700 then s.writeMailbox off w
  else if 0x0800 ≤ off ∧ off < 0x0840 then s.writeTraction (regIndex off 0x0800 16) (off % 16) w
  else if 0x1000 ≤ off ∧ off < 0x1100 then s.writeCvu 0 (off - 0x1000) w
  else if 0x1100 ≤ off ∧ off < 0x1200 then s.writeCvu 1 (off - 0x1100) w
  else s

/-- REGISTER_WRITE (R7, R8, R270): a write of any other width or alignment is ignored. -/
def execRegisterWrite (t : Time) (off : BitVec 16) (size : Nat) (w : Word) (s : State) : Host.Outcome State Fault Refusal :=
  let s := s.at t
  done (if size = 4 ∧ off.toNat % 4 = 0 then s.writeWindow t off.toNat w else s)

/-! ### What the window reads (R270 to R291, R401 to R404, R409) -/

/-- R285: SK_WINDTEMPn. -/
def State.windTemp (s : State) (n : Nat) : Word :=
  match (List.finRange 8).find? fun (c : Fin 8) => s.tchRole c == 0x30 + n with
  | none => 0x8000
  | some c =>
    let x := s.fe.tch[c]
    let age := if s.pwr.state = .lull then secs 20 else ms 250
    match x.temp with
    | some q => if s.clk.now ≤ x.goodAt + age then wfield 0 16 (wrapOf 16 q) ||| wbit 16 true else 0x8000
    | none => 0x8000

/-- R287: a word of a kinematic block. -/
def Kin.word (k : Kin) (reg : Nat) : Word :=
  if reg = 0x00 then wfield 0 8 k.seq.toNat ||| wbit 8 k.valid ||| wbit 9 k.dir ||| wbit 10 k.prov ||| wbit 11 k.reversed |||
    wbit 12 k.held ||| wfield 16 4 k.refPoint ||| wfield 20 12 k.axles
  else if reg = 0x04 then BitVec.ofNat 32 (wrapOf 32 k.speed)
  else if reg = 0x08 then BitVec.ofNat 32 k.ref
  else if reg = 0x0C then wfield 0 16 (k.ref / 4294967296)
  else if reg = 0x10 then wfield 0 16 k.unc0 ||| wfield 16 16 k.uncSpd
  else if reg = 0x14 then wfield 0 16 k.acc ||| wfield 16 16 k.maxAge
  else if reg = 0x18 then BitVec.ofNat 32 k.entry
  else wfield 0 16 (k.entry / 4294967296) ||| wfield 16 8 k.seq.toNat ||| wfield 24 2 k.entryLeg

/-- R403: HEC_ACTIVEt. -/
def HecSlot.word (k : HecSlot) : Word :=
  wfield 0 6 k.src.val ||| wbit 6 (k.busy && isLevel k.src) ||| wbit 7 k.gone ||| wbit 8 k.eoiErr ||| wbit 31 k.busy

/-- Thirty-two flags as a word. -/
def flagWord (f : Nat → Bool) : Word := (List.range 32).foldl (fun (w : Word) i => w ||| wbit i (f i)) 0

/-- R401 to R404: the HEC range. -/
def State.readHec (s : State) (off : Nat) : Word :=
  let h := s.hec
  if off < 0x0220 then
    let i : Fin 8 := ⟨(off - 0x0200) / 4 % 8, by omega⟩
    (List.finRange 8).foldl (fun (w : Word) (j : Fin 8) =>
      w ||| wfield (4 * j.val) 3 (h.target[(⟨8 * i.val + j.val, by omega⟩ : Fin 64)]).toNat) 0
  else if off < 0x0230 then h.vbase[regIndex off 0x0220 4]
  else if off < 0x0240 then 0
  else if off < 0x0250 then (h.slots[regIndex off 0x0240 4]).word
  else if off = 0x0250 then flagWord fun i => isPulse i && h.pend.getLsbD i
  else if off = 0x0254 then flagWord fun i => isPulse (i + 32) && h.pend.getLsbD (i + 32)
  else if off = 0x0258 then flagWord s.levelShown
  else if off = 0x025C then flagWord fun i => s.levelShown (i + 32)
  else if 0x0260 ≤ off ∧ off < 0x0270 then h.goneCnt[regIndex off 0x0260 4]
  else if 0x0280 ≤ off ∧ off < 0x0300 then
    let w : Fin 32 := ⟨(off - 0x0280) / 4 % 32, by omega⟩
    wfield 0 16 (h.lostClr[(⟨2 * w.val, by omega⟩ : Fin 64)]).toNat |||
      wfield 16 16 (h.lostClr[(⟨2 * w.val + 1, by omega⟩ : Fin 64)]).toNat
  else 0

/-- R290: the mailbox range. -/
def State.readMailbox (s : State) (off : Nat) : Word :=
  let m := s.host.mailbox
  if off = 0x0404 then wbit 0 m.busy ||| wbit 1 m.respReady ||| wbit 2 m.overrun ||| wbit 3 m.cancelled |||
    wfield 8 3 s.sdp.sessions[0].level
  else if off = 0x0408 then wfield 0 9 m.reqLen
  else if off = 0x040C then wfield 0 9 m.respLen
  else if 0x0500 ≤ off ∧ off < 0x0600 then m.req.getD ((off - 0x0500) / 4) 0
  else if 0x0600 ≤ off ∧ off < 0x0700 then m.resp.getD ((off - 0x0600) / 4) 0
  else 0

/-- R409, R411: a host check-value unit; bits above the width of the check read 0. -/
def Cvu.word (c : Cvu) (reg : Nat) : Word :=
  if reg = 0x00 then wfield 0 2 c.poly.toNat ||| wbit 2 c.aliveEn ||| wbit 3 c.mode ||| wfield 4 4 c.window.toNat |||
    wbit 8 c.sync
  else if reg = 0x08 then c.val &&& crcMask c.poly
  else if reg = 0x0C then c.result &&& crcMask c.poly
  else if reg = 0x10 then c.aliveTx.setWidth 32
  else if reg = 0x14 then c.aliveRx.setWidth 32
  else if reg = 0x18 then c.aliveLast.setWidth 32
  else if reg = 0x1C then c.expect &&& crcMask c.poly
  else if reg = 0x20 then wbit 0 c.pass ||| wbit 1 c.crcBad ||| wbit 2 c.aliveBad
  else if reg = 0x24 then c.rej
  else 0

/-- R270, R280: what an aligned word of the window reads. -/
def State.readWindow (s : State) (off : Nat) : Word :=
  if off = 0x0000 then s.skId
  else if 0x0010 ≤ off ∧ off < 0x0020 then s.keep.shadow[regIndex off 0x0010 4]
  else if off = 0x0020 then BitVec.ofNat 32 s.tbNow
  else if off = 0x0024 then s.host.timeHi
  else if off = 0x0040 then s.skPermit
  else if off = 0x0044 then s.skDeadbolt
  else if off = 0x0048 then s.keep.neighbour
  else if 0x0050 ≤ off ∧ off < 0x0060 then s.windTemp ((off - 0x0050) / 4)
  else if 0x0100 ≤ off ∧ off < 0x0180 then (s.kin[regIndex off 0x0100 32]).word (off % 32)
  else if 0x0200 ≤ off ∧ off < 0x0400 then s.readHec off
  else if 0x0400 ≤ off ∧ off < 0x0700 then s.readMailbox off
  else if 0x0800 ≤ off ∧ off < 0x0840 then
    let x := s.trac[regIndex off 0x0800 16]
    if off % 16 = 0 then x.bemf else if off % 16 = 4 then x.dclink else if off % 16 = 0xC then x.ctrl else 0
  else if 0x1000 ≤ off ∧ off < 0x1100 then s.cvu[0].word (off - 0x1000)
  else if 0x1100 ≤ off ∧ off < 0x1200 then s.cvu[1].word (off - 0x1100)
  else 0

/-- R270: a read of 1, 2 or 4 bytes returns the addressed bytes of the word. -/
def State.readHost (s : State) (off size : Nat) : List Byte :=
  ((leBytes 4 (s.readWindow (off - off % 4)).toNat).drop (off % 4)).take size

end Sys2Proof.Machine
end

