-- ==== Sys2Proof/Machine/Power.lean ====
section
/-! DEFINITION. Entry to a power state, the wake timer and the end of a wake (R83, R124, R369 to R374, R382 to R386, R390, R391). -/

namespace Sys2Proof.Machine

/-! ### Entry (R83, R124, R369, R373, R386, R390) -/

/-- R369: a channel whose excitation and converter go off. Changes that a mask deferred have taken effect. -/
def Chan.asleep (ch : Chan) : Chan :=
  let c1 := (ch.deferred.map Prod.fst).foldl Chan.changed ch
  { c1 with
    phase := if ch.phase = .inService || ch.phase = .paused then .off else ch.phase
    excOn := false
    deferred := []
    mask := none
    raws := []
    invalidRun := 0
    loopLow := 0
    excBad := 0
    cmBad := 0
    lossAt := none
    excOpenAt := none
    quietSince := none }

/-- R369, R372: a detector that stops keeps its baselines alone. -/
def Det.asleep (d : Det) : Det := { haveB0 := d.haveB0, b0L := d.b0L, b0H := d.b0H, nL := d.nL, nH := d.nH }

/-- R139, R369: the engines stop: neither a heartbeat nor a checkpoint is due of them. -/
def State.enginesRest (s : State) : State :=
  { s with eng := { s.eng with wse := s.eng.wse.map fun w => { w with hbAt := none, ckAt := none } } }

/-- R124, R369: excitation, converters and engines go off; the baselines are stored first. -/
def State.frontSleeps (s : State) : State :=
  (State.eachFin s.storeBaselines 16 fun s c =>
    (((s.abortProof c).onChan c Chan.asleep).onDet c Det.asleep).onScan c fun k =>
      { k with pause := none, stop := false, resumed := false }).enginesRest.amonRefresh

/-- R373, R386: before the supervisors' cores power off: permits drop with cause 8, the templates and a checkpoint are left. -/
def State.coresSleep (s : State) : State :=
  let s1 := State.each s sections fun s n => s.dropPermit n [8] []
  let s2 := s1.bothSv fun _ x => { x with votes := Vector.replicate 4 (.drop 8) }
  s2.leaveTemplates.finalCkpt.requalify

/-- R390: a decision is executed. -/
def State.enterPower (s : State) (x : PState) : State :=
  let s1 := match x with
    | .active => s
    | .watch => s
    | .lull => s.frontSleeps
    | .hibernate => s.coresSleep.frontSleeps.hecRetain
  s1.powerChange x

/-- R390: a decision that a wake event overtook: the part stays in its state, and the event is one of that state. -/
def State.sleepAborted (s : State) (l : List Nat) : State :=
  let s1 := { s with
    nv := { s.nv with sleepsAborted := s.nv.sleepsAborted + 1 }
    pwr := { s.pwr with decision := none, latched := [] } }
  let s2 := (s1.record codeSleepAborted 0 (l.map (BitVec.ofNat 8))).pulse 23
  State.each s2 l fun s n => s.wakeEvent n

/-- SLEEP_EXECUTE (R390, R391): the AON domain executes the decision, or turns it away where a wake event is latched. Without a
decision only the clock moves. -/
def execSleepExecute (t : Time) (s : State) : Host.Outcome State Fault Refusal :=
  let s := s.at t
  done (match s.pwr.decision with
    | none => s
    | some d =>
      if s.pwr.latched.isEmpty then
        State.when { s with pwr := { s.pwr with decision := none } } (s.phase == Phase.service) fun s => s.enterPower d
      else s.sleepAborted s.pwr.latched)

/-! ### The wake timer (R384) -/

/-- WAKE_TIMER (R384). Before the timer falls due only the clock moves. -/
def execWakeTimer (t : Time) (s : State) : Host.Outcome State Fault Refusal :=
  let s := s.at t
  done (s.when (s.phase == Phase.service && s.timerDue (s.pwr.decision.getD s.pwr.state)) fun s => s.wakeEvent 1)

/-! ### The end of a wake (R124, R374) -/

/-- R374: the time a wake takes. -/
def wakeSpan (x : PState) : Time := if x = .hibernate then ms 35 else us 1600

/-- R124, R374: one channel comes into service at the end of the baseline check; a faulted one is driven again. -/
def State.channelWakes (s : State) (c : Fin 16) : State :=
  let ch := s.fe.chans[c]
  if ch.phase = .off && s.eng.dets[c].haveB0 then
    let s1 := s.onChan c fun ch => { ch with phase := .inService, excOn := true }
    let s2 := s1.onProof c fun p => { p with serviceAt := s.clk.now }
    let s3 := s2.onStats c fun st => { st with blockAt := s.clk.now, blockPeakSq := 0, blockN := 0, resSumL := 0, resSumH := 0, resN := 0 }
    s3.baselineCheck c s.nv.chans[c].b0
  else if ch.phase = .faulted then s.onChan c fun ch => { ch with excOn := true }
  else s

/-- R374, R58: a supervisor that fails its resynchronisation (3) or its image check (4). -/
def State.svWakes (s : State) (v : Fin 2) (f : Option Bool) : State :=
  match f with
  | some image => s.svFail v (if image then 4 else 3) 4
  | none => s

/-- R374: the wake ends in ACTIVE. -/
def State.wakeEnds (s : State) (from_ : PState) (r : WakeReport) : State :=
  let s1 := if from_ = .hibernate then (s.hecFlush.svWakes 0 r.svaFail).svWakes 1 r.svbFail else s
  let s2 := { s1 with pwr := { s1.pwr with waking := none, decision := none, latched := [], lastWake := some s1.clk.now } }
  let s3 := State.each (s2.powerChange .active) s2.serving fun s v => State.each s connections fun s k => s.readWaiting v k
  let s4 := { s3 with nv := { s3.nv with wakes := s3.nv.wakes + 1 } }
  (State.eachFin s4 16 fun s c => s.channelWakes c).amonRefresh

/-- WAKE_COMPLETE (R374). Before the wake's time has passed only the clock moves. -/
def execWakeComplete (t : Time) (r : WakeReport) (s : State) : Host.Outcome State Fault Refusal :=
  let s := s.at t
  done (match s.pwr.waking with
    | some (x, t0) => s.when (s.phase == Phase.service && decide (t0 + wakeSpan x ≤ s.clk.now)) fun s => s.wakeEnds x r
    | none => s)

end Sys2Proof.Machine
end

