-- ==== Sys2Proof/Machine/Writes.lean ====
section
/-! DEFINITION. Writes through the dictionary: what each supervisor and the serving engine make of them, commands of the
dictionary, pending sets and their commit, and the end of a transaction (R283, R299, R306, R307, R309, R310, R313 to R320, R334 to
R336, R341, R342, R429). -/

namespace Sys2Proof.Machine

/-- The apply rules' keys. -/
def keyCommit : Nat := dkey 0x4010 1
def keyDiscard : Nat := dkey 0x4010 3
def keyCancel : Nat := dkey 0x4010 6
def keyRelease : Nat := dkey 0x3000 3
def keyScanNow : Nat := dkey 0x3600 0x0B
def keyProofNow : Nat := dkey 0x7200 1
def keyRollback : Nat := dkey 0x5F00 8
def keyRerun : Nat := dkey 0x5F00 9
def keyChallenge : Nat := dkey 0x1100 2
def keyResponse : Nat := dkey 0x1100 3
def keyLevel : Nat := dkey 0x1100 1
def keyAdvance : Nat := dkey 0x7000 3
def keyImage : Nat := dkey 0x4050 1
def isNoEntryRelease (key : Nat) : Bool := decide (0x2200 ≤ key / 256 ∧ key / 256 < 0x2204) && key % 256 == 0x0E

/-- R306: the write passes to both supervisors. -/
def needsSv (key : Nat) : Bool :=
  match dictRow key with
  | some r => r.stored || r.acc == .rwc || r.acc == .rwt || decide (0x2000 ≤ key / 256 ∧ key / 256 < 0x5000) || key / 256 == 0x7200
  | none => false

/-- The level an entry asks for. -/
def keyLevelOf (key : Nat) : Nat := match dictRow key with
  | some r => r.level
  | none => 0

/-- R314, R320: the highest level among entries. -/
def highestLevel (keys : List Nat) : Nat := keys.foldl (fun m k => max m (keyLevelOf k)) 0

/-! ### Pending sets (R313 to R316, R429) -/

/-- R313, R315: an RWT entry joins the session's pending set, or why not. -/
def pendAbort (p : List KeyVal) (key : Nat) : Option Abort :=
  if !mayJoin p key then some (abPending, 3)
  else if (kvGet key p).isNone && decide (16 ≤ p.length) then some (abPending, 2)
  else none

/-- R241: the commit of a pitch. -/
def State.pitchOk (s : State) (p : List KeyVal) : Bool :=
  let val (sub : Nat) : Nat := (kvGet (dkey 0x4020 sub) p).elim 0 leNat
  decide (s.tbNow + secs 10 ≤ val 3 ∧ val 3 ≤ s.tbNow + secs 3600) && val 4 != 0 && val 2 != 0

/-- The set applies by the deferred rule. -/
def deferredSet (p : List KeyVal) : Bool := p.any fun e => applyRule e.1 == .deferred

/-- The set holds a pitch. -/
def pitchSet (p : List KeyVal) : Bool := p.any fun e => applyRule e.1 == .timed

/-- R315, R316, R336, R429: what stands against the commit of a set. -/
def State.commitFails (s : State) (p : List KeyVal) : Option Abort :=
  if deferredSet p then
    if 4 ≤ s.nv.waiting.length then some (abPending, 2)
    else if s.nv.mem.stop = 2 && kvGet (dkey 0x7000 0x09) p == some [1] then some (abCondition, 429)
    else
      let s' := s.after (changesOf (p.filter fun e => cfgKey e.1))
      p.findSome? fun e => s.settingAbort s' e.1 e.2 false
  else
    match p.findSome? s.immediateFails with
    | some n => some (abCondition, n)
    | none => if pitchSet p && !s.pitchOk p then some (abCondition, 241) else none

/-- R314: the commit of a session's pending set. -/
def State.judgeCommit (s : State) (i : Fin 5) (crc : Nat) : Option Abort :=
  let x := s.sdp.sessions[i]
  let need := highestLevel (x.pending.map fun e => e.1)
  if x.pending.isEmpty then some (abPending, 1)
  else if x.level < need then some (abLevel, need)
  else if crc ≠ (crc32c (pendingBytes x.pending)).toNat then some (abCrc, 0)
  else s.commitFails x.pending

/-- R241, R315, R316: a committed set waits, applies or stands pending until PitchTime. -/
def State.commit (s : State) (i : Fin 5) : State :=
  let x := s.sdp.sessions[i]
  let p := x.pending
  let s1 := s.onSession i fun x => { x with pending := [] }
  if deferredSet p then
    { s1 with nv := { s1.nv with
        nextSet := s1.nv.nextSet + 1
        waiting := s1.nv.waiting ++
          [{ number := s1.nv.nextSet, time := s1.tbNow, level := highestLevel (p.map fun e => e.1), items := p, slot := x.raiseSlot }] } }
  else
    let s2 := s1.when (pitchSet p) fun s =>
      { s with nv := { s.nv with pitch := p.filter fun e => applyRule e.1 == .timed, pitchRes := 1 } }
    State.each s2 (p.filter fun e => applyRule e.1 == .immediate) fun s e => s.applyImmediate x.raiseSlot e

/-! ### Release of overrides (R310) -/

/-- The overrides that a write releases; none where it names none. -/
def State.released_ (s : State) (n : Nat) : Option (List Nat) :=
  if n = 0xFFFFFFFF then some s.overrides else if s.overrides.contains n then some [n] else none

/-- R310: level, RWC and consistency of a release. -/
def State.judgeRelease (s : State) (v : Fin 2) (level n : Nat) : Option Abort :=
  match s.released_ n with
  | none => some (abRange, 0)
  | some l =>
    let s' := s.after (l.map fun k => (k, none))
    match l.find? fun k => decide (level < keyLevelOf k) with
    | some k => some (abLevel, keyLevelOf k)
    | none =>
      let b := s.rwcBits v (s.concerned s' (l.filter fun k => keyRwc k || keyRwt k))
      if b ≠ 0 then some (abRwc, b) else l.findSome? s'.relAbort

/-- R310: the overrides go. -/
def State.releaseOverrides (s : State) (n : Nat) : State :=
  match s.released_ n with
  | none => s
  | some l =>
    let ch : List Change := l.map fun k => (k, none)
    (s.storeChanges ch).applyConfig ch

/-! ### The journal's resolution (R320) -/

/-- R318, R319: the store writes of a journal under way, as far as they get. -/
def State.journalRun (s : State) : StoreRun → State
  | .whole => s.journalDone
  | .stops n => s.journalWrite (s.nv.journal.todo.take n)
  | .fails n => ((s.journalWrite (s.nv.journal.todo.take n)).journalStop 4).record codeReplaceModule 0 [1]

/-- R320: an interrupted journal is rolled back or run again. -/
def State.resolve (s : State) (back : Bool) (w : StoreRun) : State :=
  { s with nv := { s.nv with journal := { s.nv.journal with state := 2, back := back } } }.journalRun w

/-! ### Commands of the dictionary -/

/-- R283: the braking-loss latch of a section may be released. -/
def State.mayReleaseNoEntry (s : State) (n : Fin 4) : Bool := s.trac[n].fresh && !s.trac[n].scb && s.trac[n].chopOk

/-- What stands against a write to an entry that is no setting. -/
def State.judgeCommand (s : State) (v : Fin 2) (i : Fin 5) (key : Nat) (val : List Byte) : Option Abort :=
  let n := leNat val
  let level := s.sdp.sessions[i].level
  if isNoEntryRelease key then
    (if n = 1 && !s.mayReleaseNoEntry (secOfKey 0x2200 key) then some (abCondition, 283) else none)
  else if key = keyRelease then s.judgeRelease v level n
  else if key = keyCommit then s.judgeCommit i n
  else if key = keyCancel then
    (match s.nv.waiting.find? fun w => w.number == n with
      | none => some (abRange, 0)
      | some w => if level < w.level then some (abLevel, w.level) else none)
  else if key = keyRollback || key = keyRerun then
    (let need := highestLevel (s.nv.journal.items.map fun e => e.1)
     if s.nv.journal.state ≠ 3 then some (abCondition, 320) else if level < need then some (abLevel, need) else none)
  else if key = keyLevel then (if level < n then some (abRange, 0) else none)
  else none

/-- R304, R460: an image is loaded: its check follows. -/
def State.imageLoaded (s : State) (val : List Byte) : State :=
  { s with nv := { s.nv with images := { s.nv.images with state := 2, image := val } } }

/-- What an accepted write to an entry that is no setting does. -/
def State.runCommand (s : State) (i : Fin 5) (key : Nat) (val : List Byte) (w : StoreRun) : State :=
  let n := leNat val
  if isNoEntryRelease key then
    s.when (n == 1) fun s =>
      { s with keep := { s.keep with braking := updV s.keep.braking (secOfKey 0x2200 key) fun _ => false } }.publishAll
  else if key = keyRelease then s.releaseOverrides n
  else if key = keyScanNow then (if h : n < 16 then s.scanDue ⟨n, h⟩ else s)
  else if key = keyProofNow then
    (if h : n < 16 then s.onProof ⟨n, h⟩ fun p => { p with due := true, dueAt := s.clk.now, doneAt := none } else s)
  else if key = keyCommit then s.commit i
  else if key = keyDiscard then s.when (n == 1) fun s => s.onSession i fun x => { x with pending := [] }
  else if key = keyCancel then { s with nv := { s.nv with waiting := s.nv.waiting.filter fun w => w.number != n } }
  else if key = keyImage then s.imageLoaded val
  else if key = keyRollback then s.when (n == 1) fun s => s.resolve true w
  else if key = keyRerun then s.when (n == 1) fun s => s.resolve false w
  else if key = keyLevel then s.onSession i fun x => { x with level := n }
  else if key = dkey 0x7000 1 then s.onSession i fun x => { x with recCursor := n, recStale := false }
  else if key = keyAdvance then
    s.when (n == 1) fun s => s.onSession i fun x =>
      { x with recCursor := if x.recCursor < s.nv.mem.recs.length then x.recCursor + 1 else x.recCursor, recStale := false }
  else if key = dkey 0x7100 1 then s.onSession i fun x => { x with ledCursor := n }
  else if key = dkey 0x7100 2 then s.onSession i fun x => { x with ledCopy := n }
  else s

/-! ### Raising a session (R299, R300) -/

/-- R300: the session key. -/
def sessionKey (k challenge : List Byte) (sess level : Nat) : List Byte :=
  aesCmac k ([0x53, 0x4B] ++ challenge ++ leBytes 2 sess ++ leBytes 1 level)

/-- R299: a refused raise: counted, recorded with its key slot, and the third in a row bars the session for 60 s. -/
def State.raiseRefused (s : State) (i : Fin 5) (slot : Nat) : State :=
  let s1 := { s with nv := { s.nv with refusedRaises := s.nv.refusedRaises + 1 } }.record codeRaiseRefused 0
    [BitVec.ofNat 8 slot]
  s1.onSession i fun x =>
    if 3 ≤ x.refusals + 1 then { x with refusals := 0, barUntil := some (s.clk.now + secs 60) }
    else { x with refusals := x.refusals + 1 }

/-- R299: the raise of a session by its answer to a challenge. -/
def State.raiseSession (s : State) (i : Fin 5) (val : List Byte) : State × Except Abort (List Byte) :=
  let x := s.sdp.sessions[i]
  let lvl := (val.head?.getD 0).toNat
  let slot := s.levelKeySlot (lvl - 1)
  let k := s.nv.keys.getD slot []
  let s1 := s.onSession i fun x => { x with challenge := none }
  if val.length ≠ 9 then (s, .error (abLength, 9))
  else match x.barUntil with
    | some t =>
      let r := s.unstatedRound (((t - s.clk.now : Nat) : Rat) / 1000000000)
      (r.2, .error (abBarred, r.1.toNat))
    | none =>
      if lvl = 0 || decide (3 < lvl) then (s.raiseRefused i 0xFF, .error (abUnreachable, 0))
      else match x.challenge with
        | none => (s.raiseRefused i slot, .error (abChallenge, 0))
        | some (c, at_) =>
          let ok := decide (s.clk.now ≤ at_ + secs 10) && k != [] && !s.test.authFail &&
            val.drop 1 == (aesCmac k (c ++ leBytes 2 i.val ++ leBytes 1 lvl)).take 8
          if ok then
            ((s1.onSession i fun x => { x with
              level := lvl
              refusals := 0
              raiseSlot := slot
              key := sessionKey k c i.val lvl
              authed := x.authed || i != 0 }).record codeRaise 0 [BitVec.ofNat 8 slot], .ok [])
          else (s1.raiseRefused i slot, .error (abChallenge, 0))

/-! ### One write (R302, R303, R306, R307, R309) -/

/-- The write of a value to an existing entry outside a transaction, as one supervisor or the engine alone judges it. -/
def State.judgeWrite (s : State) (v : Fin 2) (i : Fin 5) (key : Nat) (r : DRow) (val : List Byte) : Option Abort :=
  if r.acc == .rwt then
    match s.ownCondition key val false with
    | some a => some a
    | none => pendAbort s.sdp.sessions[i].pending key
  else if cfgKey key then
    let s' := s.after [(key, some val)]
    match s.settingAbort s' key val false with
    | some a => some a
    | none => s.rwcAbort s' v [key]
  else s.judgeCommand v i key val

/-- An accepted write applies. -/
def State.applyWrite (s : State) (i : Fin 5) (key : Nat) (r : DRow) (val : List Byte) (w : StoreRun) : State :=
  if r.acc == .rwt then
    s.onSession i fun x => { x with pending := kvSet key val x.pending, pendAt := s.clk.now }
  else if cfgKey key then
    let ch : List Change := [(key, some val)]
    (s.storeChanges ch).applyConfig ch
  else s.runCommand i key val w

/-! ### Transactions (R317, R318) -/

/-- R317: a held value, replaced where the entry is held already. -/
def holdItem (key : Nat) (val : List Byte) (l : List KeyVal) : List KeyVal :=
  if (l.any fun e => e.1 == key) then l.map fun e => if e.1 = key then (key, val) else e else l ++ [(key, val)]

/-- The configuration as a transaction leaves it. -/
def State.afterTxn (s : State) (items : List KeyVal) : State :=
  let binding := items.any fun e => e.1 == keyBound
  let base := if binding then s.bindingBase else s.sdp.work
  s.withWork (workWith base (changesOf (items.filter fun e => cfgKey e.1)))

/-- R309, R318: the first entry of a set that one supervisor refuses, with its abort. -/
def State.judgeTxn (s : State) (v : Fin 2) (i : Fin 5) (items : List KeyVal) : Option (Abort × Nat) :=
  let s' := s.afterTxn items
  let binding := items.any fun e => e.1 == keyBound
  let level := s.sdp.sessions[i].level
  items.findSome? fun e =>
    let a := match dictRow e.1 with
      | none => some (abIndex, 0)
      | some r =>
        match (if level < r.level then some (abLevel, r.level) else none) with
        | some a => some a
        | none =>
          if cfgKey e.1 then
            (match s.settingAbort s' e.1 e.2 binding with
              | some a => some a
              | none => s.rwcAbort s' v [e.1])
          else s.judgeCommand v i e.1 e.2
    a.map fun a => (a, e.1)

/-- R318 step 1: the journal record of a set. -/
def State.openJournal (s : State) (number : Nat) (items : List KeyVal) : State :=
  let s' := s.afterTxn items
  let old (e : KeyVal) : List Byte := match dictRow e.1 with
    | some r => if cfgKey e.1 then s.setting e.1 r else List.replicate e.2.length 0
    | none => []
  let bits := (items.mapIdx fun n e => if cfgKey e.1 then 0 else 2 ^ n).foldl (· + ·) 0
  { s with nv := { s.nv with journal := { s.nv.journal with
      state := 2
      number := number
      items := items.map fun e => (e.1, old e, e.2)
      map := bits
      cause := 0
      time := 0
      secs := s.concerned s' (items.map fun e => e.1)
      back := false } } }

/-- R318: a set that both supervisors accept: journal, working configuration, store. -/
def State.runTxn (s : State) (i : Fin 5) (number : Nat) (items : List KeyVal) (w : StoreRun) : State :=
  let s1 := (s.openJournal number items).applyTxn items
  let s2 := State.each s1 (items.filter fun e => !cfgKey e.1) fun s e => s.runCommand i e.1 e.2 .whole
  { s2 with sdp := { s2.sdp with txn := none } }.journalRun w

end Sys2Proof.Machine
end

