-- ==== Sys2Proof/Machine/Sdp.lean ====
section
/-! DEFINITION. The Stoska dictionary protocol: how a request is judged, executed and answered, and the timers of sessions (R294 to
R308, R311, R313, R317, R322, R460), with the commands. -/

namespace Sys2Proof.Machine

/-! ### Sources and responses (R290, R294, R295, R300) -/

/-- R296: the operations. -/
def opOpen : Nat := 0x01
def opClose : Nat := 0x02
def opRead : Nat := 0x10
def opWrite : Nat := 0x11
def opReadInit : Nat := 0x12
def opReadSeg : Nat := 0x13
def opWriteInit : Nat := 0x14
def opWriteSeg : Nat := 0x15
def opXferAbort : Nat := 0x16
def opTxnBegin : Nat := 0x20
def opTxnEnd : Nat := 0x21
def opTxnDiscard : Nat := 0x22

/-- R296: the operations a request may name. -/
def knownOp (op : Nat) : Bool :=
  [opOpen, opClose, opRead, opWrite, opReadInit, opReadSeg, opWriteInit, opWriteSeg, opXferAbort, opTxnBegin, opTxnEnd,
    opTxnDiscard].contains op

/-- R296: the operations whose request carries DATA. -/
def dataOp (op : Nat) : Bool := op == opOpen || op == opWrite || op == opWriteInit || op == opWriteSeg

/-- The source is the field network. -/
def onNet (src : SdpSrc) : Bool := match src with
  | .mailbox => false
  | .net _ _ _ => true

/-- The payload that a source holds. -/
def State.payloadOf (s : State) (src : SdpSrc) : Option (List Byte) := match src with
  | .mailbox => s.host.mailbox.current
  | .net _ _ p => some p

/-- R294: the frame that carries a request. -/
def carries (src : SdpSrc) (f : Frame) : Bool := match src with
  | .mailbox => false
  | .net mac tag p => f.src == mac && f.tag == tag && protocolOf f == some protoSdp && (f.body.drop 5).take p.length == p

/-- R308: the requests not served yet, in the order received: a frame of the field network, or none for the mailbox's. -/
def State.requests (s : State) : List (Option Frame) :=
  let m := s.host.mailbox
  let q := s.sdpQueue.map some
  if m.current.isSome then q.take m.ahead ++ none :: q.drop m.ahead else q

/-- The request that stands at a place. -/
def State.requestAt (s : State) (x : Option Frame) : SdpReq := parseSdp (match x with
  | none => s.host.mailbox.current.getD []
  | some f => f.body.drop 5)

/-- R343: a write to a basic entry, and one to an expert entry that follows it. -/
def State.followed (s : State) (b e : SdpReq) : Bool :=
  b.op == opWrite && e.op == opWrite && !b.flags.testBit 0 && !e.flags.testBit 0 && (kvGet e.key s.sdp.work).isNone &&
    s.derived e.key != (s.after [(b.key, some b.data)]).derived e.key

/-- R308, R343: the request served next: the first received, but before a basic write the waiting write to an expert entry that
follows it: requests that wait together reach the supervisors in one step (DESIGN CHOICE, log entry 62). -/
def State.nextRequest (s : State) : Option (Option Frame) := match s.requests with
  | [] => none
  | a :: l => some ((l.find? fun e => s.followed (s.requestAt a) (s.requestAt e)).getD a)

/-- R308: the request is the one served next. -/
def State.inTurn (s : State) (src : SdpSrc) : Bool := match s.nextRequest with
  | none => true
  | some none => src == .mailbox
  | some (some f) => carries src f

/-- A request is taken from where it waits. -/
def State.takeRequest (s : State) (src : SdpSrc) : State := match src with
  | .mailbox => { s with host := { s.host with mailbox := { s.host.mailbox with current := none } } }
  | .net _ _ _ =>
    { s with
      net := { s.net with delivered := s.net.delivered.eraseP fun x => carries src x.2 }
      host := { s.host with mailbox := { s.host.mailbox with
        ahead := ((s.sdpQueue.take s.host.mailbox.ahead).eraseP fun f => carries src f).length } } }

/-- R290, R294: a response goes back to its source. -/
def State.answer (s : State) (src : SdpSrc) (p : List Byte) : State := match src with
  | .mailbox => { s with host := { s.host with mailbox := { s.host.mailbox with staged := some p } } }
  | .net mac tag _ => s.sendSdp mac tag p

/-- What an operation answers: DATA or an abort, LAST, an entry named in place of the request's, and another session number. -/
structure Answered where
  st    : State
  res   : Except Abort (List Byte)
  last  : Bool := false
  named : Option Nat := none
  sess  : Option Nat := none

/-- R295, R300, R312: the payload of a response, with the CMAC under a session key where one is given. -/
def packed (r : SdpReq) (a : Except Abort (List Byte)) (last : Bool) (key : Nat) (sess : Nat) (sk : Option (List Byte)) :
    List Byte :=
  let flags := (if sk.isSome then 2 else 0) + (if last then 4 else 0)
  let p := match a with
    | .ok d => sdpPayload (r.op % 128 + 128) flags sess r.reqId (key / 256) (key % 256) r.segNo d
    | .error e => sdpPayload 0xFF flags sess r.reqId (key / 256) (key % 256) r.segNo (leBytes 2 e.1 ++ leBytes 2 e.2)
  match sk with
  | some k => p ++ (aesCmac k p).take 8
  | none => p

/-! ### Sessions (R297, R304, R313, R317) -/

/-- R458, R460: the load of an image is abandoned. -/
def State.loadStops (s : State) (i : Fin 5) : State :=
  match s.sdp.sessions[i].xfer with
  | some x => s.when (x.write && x.key == keyImage) fun s => { s with nv := { s.nv with images := s.nv.images.stopped } }
  | none => s

/-- R304: a transfer is complete: every segment has passed. -/
def Xfer.done (x : Xfer) (seg : Nat) : Bool :=
  if x.write then decide (0 < x.next) && x.data.isEmpty else decide (x.data.length ≤ x.next * seg) && decide (0 < x.next)

/-- R304: the size of a segment. -/
def segSize (net : Bool) : Nat := if net then 1024 else 236

/-- R304: a write that is refused at its last segment ends its transfer. -/
def State.xferEnds (s : State) (i : Fin 5) : State := (s.loadStops i).onSession i fun x => { x with xfer := none }

/-- R304: a transfer is abandoned; one whose segments have all gone is only closed. -/
def State.xferGone (s : State) (i : Fin 5) : State :=
  if (s.sdp.sessions[i].xfer.map fun f => f.done (segSize (i != 0))).getD true then
    s.onSession i fun x => { x with xfer := none }
  else (s.loadStops i).onSession i fun x => { x with xfer := none, xferOver := true }

/-- R317: a session's open transaction is discarded. -/
def State.txnGone (s : State) (i : Fin 5) : State :=
  match s.sdp.txn with
  | some t => if t.sess = i then { s with sdp := { s.sdp with txn := none } } else s
  | none => s

/-- R297: a session closes. -/
def State.closeSession (s : State) (i : Fin 5) : State := ((s.loadStops i).txnGone i).onSession i fun _ => {}

/-- R317: a request in the transaction. -/
def State.txnTouched (s : State) : State :=
  { s with sdp := { s.sdp with txn := s.sdp.txn.map fun t => { t with lastAt := s.clk.now } } }

/-! ### Operations (R296 to R304, R317, R318) -/

/-- An abort that leaves everything as it is. -/
def refused (s : State) (a : Abort) : Answered := { st := s, res := .error a }

/-- OPEN (R296, R297, R341). -/
def State.doOpen (s : State) (mac : Mac) (data : List Byte) : Answered :=
  let n := leNat data
  if data.length ≠ 2 then refused s (abLength, 2)
  else if n < 10 || 3600 < n then refused s (abRange, 0)
  else match (List.finRange 5).find? fun (i : Fin 5) => decide (0 < i.val) && !s.sdp.sessions[i].opened with
    | none => refused s (abSessions, 0)
    | some i =>
      { st := s.onSession i fun _ => { opened := true, mac := mac, idle := n, lastAt := s.clk.now, ledCursor := s.led.newestSeq }
        res := .ok []
        sess := some i.val }

/-- READ (R302, R303). -/
def State.doRead (s : State) (i : Fin 5) (r : SdpReq) (net : Bool) : Answered :=
  match findRow r.key with
  | .error a => refused s a
  | .ok row =>
    if row.acc == .wo then refused s (abWriteOnly, 0)
    else if row.typ == .domain then refused s (abSize, 0)
    else
      let q := s.readValue i r.key row
      match q.1 with
      | .error a => refused s a
      | .ok v => if segSize net < v.length then refused s (abSize, 0) else { st := q.2, res := .ok v }

/-- READ_INIT (R304). -/
def State.doReadInit (s : State) (i : Fin 5) (r : SdpReq) (net : Bool) : Answered :=
  if (s.sdp.sessions[i].xfer.map fun x => !x.done (segSize net)).getD false then refused s (abTransfer, 0)
  else match findRow r.key with
    | .error a => refused s a
    | .ok row =>
      if row.acc == .wo then refused s (abWriteOnly, 0)
      else
        let q := s.readValue i r.key row
        match q.1 with
        | .error a => refused s a
        | .ok v =>
          { st := q.2.onSession i fun x => { x with
              xfer := some { key := r.key, write := false, data := v, size := v.length, next := 0, lastAt := s.clk.now }
              xferOver := false }
            res := .ok (leBytes 4 v.length) }

/-- R304: no transfer stands open for a segment. -/
def noTransfer (x : Session) : Abort := if x.xferOver then (abAbandoned, 0) else (abTransfer, 0)

/-- READ_SEG (R304). -/
def State.doReadSeg (s : State) (i : Fin 5) (r : SdpReq) (net : Bool) : Answered :=
  let x := s.sdp.sessions[i]
  let n := segSize net
  match x.xfer with
  | none => refused s (noTransfer x)
  | some f =>
    let fresh := r.segNo == f.next && !f.done n
    if f.write then refused s (abTransfer, 0)
    else if fresh || r.segNo + 1 == f.next then
      { st := s.onSession i fun x => { x with
          xfer := some { f with next := if fresh then f.next + 1 else f.next, lastAt := s.clk.now } }
        res := .ok ((f.data.drop (r.segNo * n)).take n)
        last := decide (f.data.length ≤ (r.segNo + 1) * n) }
    else if f.done n then refused s (abTransfer, 0)
    else refused (s.onSession i fun x => { x with xfer := some { f with lastAt := s.clk.now } }) (abSegment, f.next % 65536)

/-- R302, R304: existence, access and level of an entry that is to be written. -/
def State.mayWrite (s : State) (i : Fin 5) (key : Nat) : Except Abort DRow :=
  match findRow key with
  | .error a => .error a
  | .ok row =>
    if row.acc == .ro || row.acc == .const then .error (abReadOnly, 0)
    else if s.sdp.sessions[i].level < row.level then .error (abLevel, row.level)
    else .ok row

/-- R336: a waiting SwitchBank is withdrawn. -/
def State.switchWithdrawn (s : State) : State :=
  { s with nv := { s.nv with waiting := s.nv.waiting.filter fun w => !(w.items.any fun e => e.1 == dkey 0x4050 6) } }

/-- R317: a write belongs to the session's open transaction; else the abort. -/
def State.txnAbort (s : State) (i : Fin 5) (key : Nat) : Option Abort :=
  match s.sdp.txn with
  | none => some (abNoTxn, 0)
  | some t =>
    if t.sess ≠ i then some (abNoTxn, 0)
    else if keyRwt key then some (abRwt, 0)
    else if !(t.items.any fun e => e.1 == key) && decide (64 ≤ t.items.length) then some (abTxnFull, 64)
    else none

/-- WRITE_INIT (R304, R336, R460). -/
def State.doWriteInit (s : State) (i : Fin 5) (r : SdpReq) (net : Bool) : Answered :=
  let size := leNat r.data
  if r.data.length ≠ 4 then refused s (abLength, 4)
  else if (s.sdp.sessions[i].xfer.map fun x => !x.done (segSize net)).getD false then refused s (abTransfer, 0)
  else match s.mayWrite i r.key with
    | .error a => refused s a
    | .ok _ =>
      match (if r.flags.testBit 0 then s.txnAbort i r.key else none) with
      | some a => refused s a
      | none =>
        if r.key = keyImage ∧ 90112 < size then refused s (abRange, 0)
        else
          let s1 := s.when (r.key == keyImage) fun s =>
            { s with nv := { s.nv with images := { s.nv.images with state := 1, image := [] } } }.switchWithdrawn
          { st := s1.onSession i fun x => { x with
              xfer := some { key := r.key, write := true, data := [], size := size, next := 0, lastAt := s.clk.now
                             txn := r.flags.testBit 0 }
              xferOver := false }
            res := .ok [] }

/-- XFER_ABORT (R304). -/
def State.doXferAbort (s : State) (i : Fin 5) : Answered :=
  let x := s.sdp.sessions[i]
  match x.xfer with
  | none => refused s (noTransfer x)
  | some f => if f.done (segSize (i != 0)) then refused s (abTransfer, 0) else { st := s.xferGone i, res := .ok [] }

/-- TXN_BEGIN (R317, R320). -/
def State.doTxnBegin (s : State) (i : Fin 5) : Answered :=
  let j := s.nv.journal
  if j.state = 3 then refused s (abJournal, j.number % 65536)
  else if s.sdp.txn.isSome || j.state == 2 then refused s (abOtherTxn, 0)
  else
    { st := { s with
        nv := { s.nv with journal := { j with next := j.next + 1 } }
        sdp := { s.sdp with txn := some { sess := i, number := j.next, lastAt := s.clk.now } } }
      res := .ok (leBytes 4 j.next) }

/-- TXN_DISCARD (R317). -/
def State.doTxnDiscard (s : State) (i : Fin 5) : Answered :=
  match s.sdp.txn with
  | some t => if t.sess = i then { st := { s with sdp := { s.sdp with txn := none } }, res := .ok [] } else refused s (abNoTxn, 0)
  | none => refused s (abNoTxn, 0)

/-- R306, R318: what both supervisors make of a set, with the entry named. -/
def State.bothJudgeTxn (s : State) (f : Fin 2 → Option (Abort × Nat)) : Option (Abort × Nat) :=
  match s.serving.map f with
  | [] => some ((abBusy, 0), 0)
  | a :: r =>
    match (a :: r).find? fun x => x.isSome with
    | none => none
    | some b => if (a :: r).all fun x => x.isSome then a else b.map fun x => ((abDisagree, 0), x.2)

/-- TXN_END (R318). -/
def State.doTxnEnd (s : State) (i : Fin 5) (w : StoreRun) : Answered :=
  match s.sdp.txn with
  | none => refused s (abNoTxn, 0)
  | some t =>
    if t.sess ≠ i then refused s (abNoTxn, 0)
    else match s.bothJudgeTxn fun v => s.judgeTxn v i t.items with
      | some a => { st := s.txnTouched, res := .error a.1, named := some a.2 }
      | none => { st := s.runTxn i t.number t.items w, res := .ok [] }

/-- R302, R303, R306, R313, R317: the write of one value: held for the transaction, pending, applied or refused. `whole`: the value
came in one exchange. -/
def State.writeValue (s : State) (i : Fin 5) (key : Nat) (val : List Byte) (txn whole : Bool) (w : StoreRun) : Answered :=
  match s.mayWrite i key with
  | .error a => refused s a
  | .ok row =>
    let shape := if row.typ == .domain && !whole then none else checkValue s.sdp.sessions[i].level key row val
    if key = keyResponse && !txn then
      (let q := s.raiseSession i val
       { st := q.1, res := q.2 })
    else match shape with
      | some a => refused s a
      | none =>
        if txn then
          (match s.txnAbort i key with
            | some a => refused s a
            | none =>
              { st := { s with sdp := { s.sdp with
                  txn := s.sdp.txn.map fun t => { t with items := holdItem key val t.items, lastAt := s.clk.now } } }
                res := .ok [] })
        else
          let a := if needsSv key then s.bothJudge fun v => s.judgeWrite v i key row val else s.judgeWrite 0 i key row val
          match a with
          | some a => refused s a
          | none => { st := s.applyWrite i key row val w, res := .ok [] }

/-- WRITE_SEG (R304). -/
def State.doWriteSeg (s : State) (i : Fin 5) (r : SdpReq) (net : Bool) : Answered :=
  let x := s.sdp.sessions[i]
  let n := segSize net
  let last := r.flags.testBit 2
  match x.xfer with
  | none => refused s (noTransfer x)
  | some f =>
    let touch (g : Xfer) : State := s.onSession i fun x => { x with xfer := some { g with lastAt := s.clk.now } }
    if !f.write then refused s (abTransfer, 0)
    else if r.segNo + 1 = f.next then { st := touch f, res := .ok [] }
    else if f.done n then refused s (abTransfer, 0)
    else if r.segNo ≠ f.next then refused (touch f) (abSegment, f.next % 65536)
    else if !last then
      (if r.data.length ≠ n then refused (touch f) (abSize, 0)
      else { st := touch { f with data := f.data ++ r.data, next := f.next + 1 }, res := .ok [] })
    else
      let data := f.data ++ r.data
      if n < r.data.length || data.length ≠ f.size then refused ((touch f).xferEnds i) (abSize, 0)
      else
        let s1 := touch { f with data := [], next := f.next + 1 }
        let a := s1.writeValue i f.key data f.txn false .whole
        match a.res with
        | .ok _ => a
        | .error _ => { a with st := a.st.xferEnds i }

/-! ### A request (R291, R296 to R301, R305, R306, R388) -/

/-- R305: the head whose test stands in the way of a request to an entry. -/
def State.underTest (s : State) (key : Nat) : Option Isolation :=
  let idx := key / 256
  let h : Option Nat :=
    if 0x2100 ≤ idx ∧ idx < 0x2108 then some (idx - 0x2100)
    else if 0x3100 ≤ idx ∧ idx < 0x3110 then some ((idx - 0x3100) / 2)
    else if 0x3200 ≤ idx ∧ idx < 0x3208 then some (idx - 0x3200)
    else if 0x5100 ≤ idx ∧ idx < 0x5110 then some ((idx - 0x5100) / 2)
    else if 0x5200 ≤ idx ∧ idx < 0x5208 then some (idx - 0x5200)
    else none
  match s.test.iso, h with
  | some i, some h => if 1 ≤ i.stage && i.head.val == h then some i else none
  | _, _ => none

/-- R305: the remaining test time in ms, rounded up, from 1 to 1,000: to the planned end and through the return of 1.6 ms. -/
def State.testLeft (s : State) (i : Isolation) : Nat :=
  max 1 (min 1000 ((s.isoEnd i + us 1600 - s.tbNow + 999999) / 1000000))

/-- The entry a request touches, for R305: segments touch the entry of their transfer. -/
def State.touched (s : State) (i : Fin 5) (r : SdpReq) : Option Nat :=
  if r.op = opRead || r.op = opWrite || r.op = opReadInit || r.op = opWriteInit then some r.key
  else if r.op = opReadSeg || r.op = opWriteSeg then s.sdp.sessions[i].xfer.map fun x => x.key
  else none

/-- R306: the request needs the supervisors. -/
def State.requestNeeds (s : State) (i : Fin 5) (r : SdpReq) : Bool :=
  if r.op = opWrite then needsSv r.key && !r.flags.testBit 0
  else if r.op = opWriteSeg then
    r.flags.testBit 2 && (s.sdp.sessions[i].xfer.map fun x => needsSv x.key && !x.txn).getD false
  else r.op == opTxnEnd

/-- R296: the operation is executed for a session. -/
def State.execute (s : State) (i : Fin 5) (r : SdpReq) (net : Bool) (w : StoreRun) : Answered :=
  if r.op = opClose then { st := s.closeSession i, res := .ok [] }
  else if r.op = opRead then s.doRead i r net
  else if r.op = opWrite then s.writeValue i r.key r.data (r.flags.testBit 0) true w
  else if r.op = opReadInit then s.doReadInit i r net
  else if r.op = opReadSeg then s.doReadSeg i r net
  else if r.op = opWriteInit then s.doWriteInit i r net
  else if r.op = opWriteSeg then s.doWriteSeg i r net
  else if r.op = opXferAbort then s.doXferAbort i
  else if r.op = opTxnBegin then s.doTxnBegin i
  else if r.op = opTxnEnd then s.doTxnEnd i w
  else s.doTxnDiscard i

/-- R36, R264: the request commits a set that strikes, sweeps, clears directly or pitches: it takes its place within the step. -/
def State.commitsNow (s : State) (i : Fin 5) (r : SdpReq) : Bool :=
  r.op == opWrite && r.key == keyCommit && !deferredSet s.sdp.sessions[i].pending

/-- R36, R307: a request executed within the supervisors' steps: a commit of immediate effect between their causes and their outcomes,
any other after the whole of them. -/
def State.executeStepped (s : State) (i : Fin 5) (r : SdpReq) (net : Bool) (w : StoreRun) : Answered :=
  if s.commitsNow i r then
    let q := s.evalFronts
    let a := q.1.execute i r net w
    { a with st := a.st.evalBacks q.2 }
  else s.evalBoth.execute i r net w

/-- R305, R306, R388: a request that has passed the checks of its session; none where it waits for the supervisors. -/
def State.perform (s : State) (i : Fin 5) (r : SdpReq) (net : Bool) (w : StoreRun) : Option Answered :=
  match (s.touched i r).bind s.underTest with
  | some t =>
    some (refused (s.onSession i fun x => { x with xfer := x.xfer.map fun f => { f with lastAt := s.clk.now } })
      (abTest, s.testLeft t))
  | none =>
    if !s.requestNeeds i r then some (s.execute i r net w)
    else if s.pwr.state = .hibernate then some (refused (s.wakeEvent 3) (abBusy, 0))
    else if s.serving.any fun v => s.evaluates v then some (s.executeStepped i r net w)
    else none

/-- R296, R300: what is wrong with a request's form, before its session is looked at. -/
def formAbort (p : List Byte) (r : SdpReq) (net : Bool) : Option Abort :=
  if p.length < 20 then some (abMalformed, 0)
  else if r.ver ≠ 1 then some (abVersion, 1)
  else if !sdpFormat p net || !knownOp r.op then some (abMalformed, 0)
  else if !dataOp r.op && !r.data.isEmpty then some (abMalformed, 0)
  else if r.op ≠ opReadSeg && r.op ≠ opWriteSeg && r.segNo ≠ 0 then some (abMalformed, 0)
  else if !net && (r.op == opOpen || r.op == opClose || r.flags.testBit 1) then some (abMalformed, 0)
  else if r.op = opOpen && r.sess ≠ 0 then some (abMalformed, 0)
  else none

/-- R291, R297: the session a request belongs to. -/
def State.sessionOf (s : State) (src : SdpSrc) (r : SdpReq) : Option (Fin 5) := match src with
  | .mailbox => if r.sess = 0 then some 0 else none
  | .net mac _ _ =>
    if h : r.sess < 5 then
      let x := s.sdp.sessions[(⟨r.sess, h⟩ : Fin 5)]
      if decide (0 < r.sess) && x.opened && x.mac == mac then some ⟨r.sess, h⟩ else none
    else none

/-- R300: AUTH as the session asks for it. -/
def authOk (x : Session) (r : SdpReq) : Bool :=
  if x.authed then r.flags.testBit 1 && r.cmac == (aesCmac x.key (r.whole.take (20 + r.data.length))).take 8
  else !r.flags.testBit 1

/-- R298: a repeat of the previous request, with identical content. -/
def isRepeat (x : Session) (r : SdpReq) : Bool := decide (1 ≤ x.level) && x.reqId == some r.reqId && x.lastReq == r.whole

/-- R298: REQID is due. -/
def reqIdOk (x : Session) (r : SdpReq) : Bool :=
  x.level == 0 || (match x.reqId with
    | some n => r.reqId == (n + 1) % 65536
    | none => true)

/-- R300: the key under which the responses of a session are authenticated, where they are. -/
def Session.respKey (x : Session) : Option (List Byte) := if x.authed then some x.key else none

/-- R298: a response of a session goes out, and is kept for a repeat of its request. -/
def State.answerKept (s : State) (src : SdpSrc) (i : Fin 5) (p : List Byte) : State :=
  (s.onSession i fun x => { x with lastResp := p }).answer src p

/-- R297 to R300: a request of a session is served: its own checks, its effect, its response. A repeat of a request that has no
response yet gets none of its own (R298). -/
def State.serveSession (s : State) (src : SdpSrc) (i : Fin 5) (r : SdpReq) (w : StoreRun) : State :=
  let x := s.sdp.sessions[i]
  if !authOk x r then s.answer src (packed r (.error (abAuth, 0)) false r.key r.sess none)
  else if isRepeat x r then s.when (!x.lastResp.isEmpty) fun s => s.answer src x.lastResp
  else if !reqIdOk x r then
    s.answer src (packed r (.error (abReqId, ((x.reqId.getD 0) + 1) % 65536)) false r.key r.sess x.respKey)
  else
    let s1 := s.onSession i fun x => { x with
      reqId := some r.reqId
      lastReq := r.whole
      lastResp := []
      before := some (x.reqId, x.lastReq, x.lastResp) }
    match s1.perform i r (onNet src) w with
    | none => { s1 with sdp := { s1.sdp with waiting := s1.sdp.waiting ++ [{ src := src, at_ := s1.clk.now }] } }
    | some a =>
      let key := a.named.getD r.key
      let p := packed r a.res a.last key r.sess (if r.op = opClose then x.respKey else a.st.sdp.sessions[i].respKey)
      let sent (s : State) : State := if r.op = opClose then s.answer src p else s.answerKept src i p
      match a.st.nv.journal.state, s1.nv.journal.state with
      | 2, 0 => { a.st with sdp := { a.st.sdp with jrnReply := some (i, src, p) } }
      | 2, 3 => { a.st with sdp := { a.st.sdp with jrnReply := some (i, src, p) } }
      | 3, 0 => a.st
      | _, _ => if a.st.nv.journal.state = 3 ∧ a.st.nv.journal.cause = 4 ∧ s1.nv.journal ≠ a.st.nv.journal then a.st
                else sent a.st

/-- R297: the session of a request, where its form lets it be told, has had a request. -/
def State.heard (s : State) (src : SdpSrc) (p : List Byte) : State :=
  match s.sessionOf src (parseSdp p) with
  | some i => s.when (decide (20 ≤ p.length)) fun s => s.onSession i fun x => { x with lastAt := s.clk.now }
  | none => s

/-- R296, R300: a request of wrong form is answered with its abort: on a raised session its AUTH is looked at first, and the
response carries AUTH too. -/
def State.refuseForm (s : State) (src : SdpSrc) (p : List Byte) (r : SdpReq) (a : Abort) : State :=
  let x := (s.sessionOf src r).map fun i => s.sdp.sessions[i]
  match x.filter fun x => x.authed && decide (20 ≤ p.length) with
  | some x =>
    if authOk x r then s.answer src (packed r (.error a) false r.key r.sess x.respKey)
    else s.answer src (packed r (.error (abAuth, 0)) false r.key r.sess none)
  | none => s.answer src (packed r (.error a) false r.key r.sess none)

/-- R296, R297: one request is served. -/
def State.serve (s : State) (src : SdpSrc) (p : List Byte) (w : StoreRun) : State :=
  let r := parseSdp p
  let s1 := (s.takeRequest src).heard src p
  match formAbort p r (onNet src) with
  | some a => s1.refuseForm src p r a
  | none =>
    match decide (r.op = opOpen), src with
    | true, .net mac _ _ =>
      if r.flags.testBit 1 then s1.answer src (packed r (.error (abAuth, 0)) false r.key r.sess none)
      else
        let a := s1.doOpen mac r.data
        a.st.answer src (packed r a.res false r.key (a.sess.getD 0) none)
    | _, _ =>
      match s1.sessionOf src r with
      | none => s1.answer src (packed r (.error (abSession, 0)) false r.key r.sess none)
      | some i => s1.serveSession src i r w

/-- R45: a dictionary engine serves. -/
def State.deServes (s : State) : Bool := s.released && !(s.sdp.deOut[0] && s.sdp.deOut[1])

/-- A request is served where it is one that the command names; else only the clock moves (log entry 1). -/
def State.serveIf (s : State) (src : SdpSrc) (want : State → Fin 5 → SdpReq → Bool) (w : StoreRun := .whole) : State :=
  match s.payloadOf src with
  | none => s
  | some p =>
    let r := parseSdp p
    let i : Fin 5 := ⟨if onNet src then r.sess % 5 else 0, by split <;> omega⟩
    s.when (s.deServes && s.inTurn src && want s i r) fun s => s.serve src p w

/-! ### Commands: operations -/

/-- The request names an operation. -/
def wantOp (op : Nat) (_ : State) (_ : Fin 5) (r : SdpReq) : Bool := r.op == op

/-- The request writes an entry. -/
def wantWrite (f : Nat → Bool) (_ : State) (_ : Fin 5) (r : SdpReq) : Bool := r.op == opWrite && f r.key

/-- The request commits a pending set that holds an entry. -/
def wantCommit (f : Nat → Bool) (s : State) (i : Fin 5) (r : SdpReq) : Bool :=
  r.op == opWrite && r.key == keyCommit && s.sdp.sessions[i].pending.any fun e => f e.1

/-- OPEN (R297). -/
def execSdpOpen (t : Time) (src : SdpSrc) (s : State) : Host.Outcome State Fault Refusal :=
  done ((s.at t).serveIf src (wantOp opOpen))

/-- CLOSE (R297). -/
def execSdpClose (t : Time) (src : SdpSrc) (s : State) : Host.Outcome State Fault Refusal :=
  done ((s.at t).serveIf src (wantOp opClose))

/-- READ (R303). -/
def execSdpRead (t : Time) (src : SdpSrc) (s : State) : Host.Outcome State Fault Refusal :=
  done ((s.at t).serveIf src (wantOp opRead))

/-- WRITE (R306). -/
def execSdpWrite (t : Time) (src : SdpSrc) (s : State) : Host.Outcome State Fault Refusal :=
  done ((s.at t).serveIf src (wantOp opWrite))

/-- READ_INIT (R304). -/
def execReadInit (t : Time) (src : SdpSrc) (s : State) : Host.Outcome State Fault Refusal :=
  done ((s.at t).serveIf src (wantOp opReadInit))

/-- READ_SEG (R304). -/
def execReadSeg (t : Time) (src : SdpSrc) (s : State) : Host.Outcome State Fault Refusal :=
  done ((s.at t).serveIf src (wantOp opReadSeg))

/-- WRITE_INIT (R304). -/
def execWriteInit (t : Time) (src : SdpSrc) (s : State) : Host.Outcome State Fault Refusal :=
  done ((s.at t).serveIf src (wantOp opWriteInit))

/-- WRITE_SEG (R304). -/
def execWriteSeg (t : Time) (src : SdpSrc) (s : State) : Host.Outcome State Fault Refusal :=
  done ((s.at t).serveIf src (wantOp opWriteSeg))

/-- XFER_ABORT (R304). -/
def execXferAbort (t : Time) (src : SdpSrc) (s : State) : Host.Outcome State Fault Refusal :=
  done ((s.at t).serveIf src (wantOp opXferAbort))

/-- TXN_BEGIN (R317). -/
def execTxnBegin (t : Time) (src : SdpSrc) (s : State) : Host.Outcome State Fault Refusal :=
  done ((s.at t).serveIf src (wantOp opTxnBegin))

/-- TXN_END (R318). -/
def execTxnEnd (t : Time) (src : SdpSrc) (w : StoreRun) (s : State) : Host.Outcome State Fault Refusal :=
  done ((s.at t).serveIf src (wantOp opTxnEnd) w)

/-- TXN_DISCARD (R317). -/
def execTxnDiscard (t : Time) (src : SdpSrc) (s : State) : Host.Outcome State Fault Refusal :=
  done ((s.at t).serveIf src (wantOp opTxnDiscard))

/-- UNKNOWN_OP (R296): EMCY and ABORT are no requests either. -/
def execUnknownOp (t : Time) (src : SdpSrc) (s : State) : Host.Outcome State Fault Refusal :=
  done ((s.at t).serveIf src fun _ _ r => !knownOp r.op)

/-! ### Commands: entries -/

/-- CHALLENGE (R299). -/
def execChallenge (t : Time) (src : SdpSrc) (s : State) : Host.Outcome State Fault Refusal :=
  done ((s.at t).serveIf src fun _ _ r => r.op == opRead && r.key == keyChallenge)

/-- RESPONSE (R299). -/
def execResponse (t : Time) (src : SdpSrc) (s : State) : Host.Outcome State Fault Refusal :=
  done ((s.at t).serveIf src (wantWrite fun k => k == keyResponse))

/-- SESSION_LEVEL (R299). -/
def execSessionLevel (t : Time) (src : SdpSrc) (s : State) : Host.Outcome State Fault Refusal :=
  done ((s.at t).serveIf src (wantWrite fun k => k == keyLevel))

/-- PENDING_COMMIT (R314 to R316). -/
def execPendingCommit (t : Time) (src : SdpSrc) (s : State) : Host.Outcome State Fault Refusal :=
  done ((s.at t).serveIf src (wantWrite fun k => k == keyCommit))

/-- PENDING_DISCARD (R313). -/
def execPendingDiscard (t : Time) (src : SdpSrc) (s : State) : Host.Outcome State Fault Refusal :=
  done ((s.at t).serveIf src (wantWrite fun k => k == keyDiscard))

/-- WAITING_CANCEL (R316). -/
def execWaitingCancel (t : Time) (src : SdpSrc) (s : State) : Host.Outcome State Fault Refusal :=
  done ((s.at t).serveIf src (wantWrite fun k => k == keyCancel))

/-- ROLLBACK (R320). -/
def execRollback (t : Time) (src : SdpSrc) (w : StoreRun) (s : State) : Host.Outcome State Fault Refusal :=
  done ((s.at t).serveIf src (wantWrite fun k => k == keyRollback) w)

/-- RERUN (R320). -/
def execRerun (t : Time) (src : SdpSrc) (w : StoreRun) (s : State) : Host.Outcome State Fault Refusal :=
  done ((s.at t).serveIf src (wantWrite fun k => k == keyRerun) w)

/-- REC_ADVANCE (R341). -/
def execRecAdvance (t : Time) (src : SdpSrc) (s : State) : Host.Outcome State Fault Refusal :=
  done ((s.at t).serveIf src (wantWrite fun k => k == keyAdvance))

/-- NO_ENTRY_RELEASE (R283). -/
def execNoEntryRelease (t : Time) (src : SdpSrc) (s : State) : Host.Outcome State Fault Refusal :=
  done ((s.at t).serveIf src (wantWrite isNoEntryRelease))

/-- SCAN_NOW (R102). -/
def execScanNow (t : Time) (src : SdpSrc) (s : State) : Host.Outcome State Fault Refusal :=
  done ((s.at t).serveIf src (wantWrite fun k => k == keyScanNow))

/-- PROOF_NOW (R342). -/
def execProofNow (t : Time) (src : SdpSrc) (s : State) : Host.Outcome State Fault Refusal :=
  done ((s.at t).serveIf src (wantWrite fun k => k == keyProofNow))

/-- RELEASE_OVERRIDE (R310). -/
def execReleaseOverride (t : Time) (src : SdpSrc) (s : State) : Host.Outcome State Fault Refusal :=
  done ((s.at t).serveIf src (wantWrite fun k => k == keyRelease))

/-! ### Commands: commits of sets that hold an entry -/

/-- PITCH_COMMIT (R241). -/
def execPitchCommit (t : Time) (src : SdpSrc) (s : State) : Host.Outcome State Fault Refusal :=
  done ((s.at t).serveIf src (wantCommit fun k => k / 256 == 0x4020))

/-- STRIKE (R243). -/
def execStrike (t : Time) (src : SdpSrc) (s : State) : Host.Outcome State Fault Refusal :=
  done ((s.at t).serveIf src (wantCommit fun k => k / 256 == 0x4021))

/-- SWEEP_REQUEST (R261). -/
def execSweepRequest (t : Time) (src : SdpSrc) (s : State) : Host.Outcome State Fault Refusal :=
  done ((s.at t).serveIf src (wantCommit fun k => decide (0x2200 ≤ k / 256 ∧ k / 256 < 0x2204) && k % 256 == 0x0C))

/-- DIRECT_CLEAR (R263). -/
def execDirectClear (t : Time) (src : SdpSrc) (s : State) : Host.Outcome State Fault Refusal :=
  done ((s.at t).serveIf src (wantCommit fun k => decide (0x2200 ≤ k / 256 ∧ k / 256 < 0x2204) && k % 256 == 0x0D))

/-- REREFERENCE (R138). -/
def execRereference (t : Time) (src : SdpSrc) (s : State) : Host.Outcome State Fault Refusal :=
  done ((s.at t).serveIf src (wantCommit fun k => decide (0x3200 ≤ k / 256 ∧ k / 256 < 0x3208) && k % 256 == 0x12))

/-- BEMF_RELEASE (R197). -/
def execBemfRelease (t : Time) (src : SdpSrc) (s : State) : Host.Outcome State Fault Refusal :=
  done ((s.at t).serveIf src (wantCommit fun k => decide (0x3300 ≤ k / 256 ∧ k / 256 < 0x3304) && k % 256 == 0x0A))

/-- KEY_SLOT_LOAD (R335). -/
def execKeySlotLoad (t : Time) (src : SdpSrc) (s : State) : Host.Outcome State Fault Refusal :=
  done ((s.at t).serveIf src (wantCommit fun k => k / 256 == 0x4040))

/-! ### Commands: timers -/

/-- VALIDATION_TIMEOUT (R306): a request that has waited 20 ms for the supervisors is answered; nothing of it applies. Before then
only the clock moves. -/
def execValidationTimeout (t : Time) (s : State) : Host.Outcome State Fault Refusal :=
  let s := s.at t
  done (match s.sdp.waiting with
    | [] => s
    | w :: l =>
      s.when (decide (w.at_ + ms 20 ≤ s.clk.now)) fun s =>
        let s1 := { s with sdp := { s.sdp with waiting := l } }
        match w.src with
        | .mailbox =>
          let r := parseSdp s1.sdp.sessions[0].lastReq
          s1.answerKept w.src 0 (packed r (.error (abBusy, 0)) false r.key r.sess none)
        | .net _ _ q =>
          let r := parseSdp q
          match s1.sessionOf w.src r with
          | none => s1
          | some i =>
            s1.answerKept w.src i (packed r (.error (abBusy, 0)) false r.key r.sess s1.sdp.sessions[i].respKey))

/-- SESSION_IDLE_TIMEOUT (R297). The mailbox session has no idle timeout. Before it only the clock moves. -/
def execSessionIdleTimeout (t : Time) (sess : Fin 5) (s : State) : Host.Outcome State Fault Refusal :=
  let s := s.at t
  let x := s.sdp.sessions[sess]
  done (s.when (sess != 0 && x.opened && decide (x.lastAt + secs x.idle ≤ s.clk.now)) fun s => s.closeSession sess)

/-- TRANSFER_TIMEOUT (R304): 5 s without a segment request. Before then only the clock moves. -/
def execTransferTimeout (t : Time) (sess : Fin 5) (s : State) : Host.Outcome State Fault Refusal :=
  let s := s.at t
  done (match s.sdp.sessions[sess].xfer with
    | some f => s.when (decide (f.lastAt + secs 5 ≤ s.clk.now)) fun s => s.xferGone sess
    | none => s)

/-- PENDING_TIMEOUT (R313): 600 s without a write to the set. Before then only the clock moves. -/
def execPendingTimeout (t : Time) (sess : Fin 5) (s : State) : Host.Outcome State Fault Refusal :=
  let s := s.at t
  let x := s.sdp.sessions[sess]
  done (s.when (!x.pending.isEmpty && decide (x.pendAt + secs 600 ≤ s.clk.now)) fun s =>
    s.onSession sess fun x => { x with pending := [] })

/-- TXN_TIMEOUT (R317): 30 s without a request in the transaction. Before then only the clock moves. -/
def execTxnTimeout (t : Time) (s : State) : Host.Outcome State Fault Refusal :=
  let s := s.at t
  done (match s.sdp.txn with
    | some x => s.when (decide (x.lastAt + secs 30 ≤ s.clk.now)) fun s => { s with sdp := { s.sdp with txn := none } }
    | none => s)

/-- RAISE_BAR_EXPIRY (R299): 60 s after the third refusal. Before then only the clock moves. -/
def execRaiseBarExpiry (t : Time) (sess : Fin 5) (s : State) : Host.Outcome State Fault Refusal :=
  let s := s.at t
  done (match s.sdp.sessions[sess].barUntil with
    | some u => s.when (decide (u ≤ s.clk.now)) fun s => s.onSession sess fun x => { x with barUntil := none }
    | none => s)

/-- CONFIG_WANTED (R322, R454): every 10 s without a usable configuration, once frames may be sent. Otherwise only the clock moves. -/
def execConfigWanted (t : Time) (s : State) : Host.Outcome State Fault Refusal :=
  let s := s.at t
  done (s.when (s.released && s.sdp.posState != 0 && s.net.trailers &&
      (s.sdp.wantedAt == 0 || decide (s.sdp.wantedAt + secs 10 ≤ s.clk.now))) fun s =>
    { s with sdp := { s.sdp with wantedAt := s.clk.now } }.record codeConfigWanted 0
      (leBytes 2 s.sdp.position ++ leBytes 1 s.sdp.posState) true)

/-- IMAGE_CHECK_DONE (R460): each supervisor has checked the loaded image. -/
def execImageCheckDone (t : Time) (okA okB : Bool) (version : Word) (s : State) : Host.Outcome State Fault Refusal :=
  let s := s.at t
  done (s.when (s.released && s.nv.images.state == 2) fun s =>
    let m := s.nv.images
    let ok := okA && okB
    { s with nv := { s.nv with images := { m with
        state := if ok then 3 else 4
        version := if !ok then m.version else if m.active = 0 then m.version.set 1 version else m.version.set 0 version } } })

/-- DEGRADED_RUN_ENTRY (R58, R172, R319): only where one supervisor has failed and the other serves. The survivor completes a
journal under way. -/
def execDegradedRunEntry (t : Time) (s : State) : Host.Outcome State Fault Refusal :=
  let s := s.at t
  done (match s.serving with
    | [w] => s.when (!s.keep.degraded && s.phase == .service) fun s =>
        let s1 := s.enterDegraded w
        s1.when (s1.nv.journal.state == 2) fun s =>
          let reply := s.sdp.jrnReply
          let s2 := { s.journalDone with sdp := { s.journalDone.sdp with jrnReply := none } }
          match reply with
          | some (i, src, p) => s2.answerKept src i p
          | none => s2
    | _ => s)

end Sys2Proof.Machine
end

