-- ==== Sys2Proof/Machine/Startup.lean ====
section
/-! DEFINITION. Power good, release from reset, start-up, trial starts and the VAFE feeds (R43, R246, R320 to R322, R417, R433, R434,
R444 to R446, R449 to R452, R461, R467). -/

namespace Sys2Proof.Machine

/-! ### Release (R241, R321, R417, R430, R450, R452) -/

/-- R321: the check bits of a SLOT_ID reading. -/
def slotOnes (w : BitVec 12) : Nat := (List.range 10).foldl (fun n i => n + b2n (w.getLsbD i)) 0

/-- R321: PositionNow. -/
def positionOf (a b : BitVec 12) : Nat :=
  let p := a.toNat % 1024
  if a ≠ b ∨ a.toNat / 1024 ≠ slotOnes a % 4 ∨ p = 0 ∨ p = 1023 then 0xFFFF else p

/-- R461: the bank a trial start runs from. -/
def Images.started (m : Images) : Images := if m.trial then { m with active := m.switchTo } else m

/-- R417, R452, R461: what survives a reset, as the release from it changes it. -/
def NonVolatile.released (nv : NonVolatile) (vcoreLost vaonLost : Bool) : NonVolatile :=
  { nv with
    opsecNs := if vaonLost then (nv.opsecSaved + 60) * 1000000000 else nv.opsecNs
    pcyc := if vcoreLost then min 0xFFFFFF (nv.pcyc + 1) else nv.pcyc
    images := nv.images.started }

/-- R241: a pitch is held in working memory only; one that waited is lost, which is recorded. -/
def State.pitchLost (s : State) : State :=
  let waited := s.nv.pitchRes == 1
  { s with nv := { s.nv with pitch := [], pitchRes := if waited then 9 else s.nv.pitchRes } }.when waited fun u =>
    u.record codePitchLost 0 (leBytes 4 (s.pitchVal 4))

/-- R430: a record cut short is discarded. -/
def State.tailDiscarded (s : State) : State := match s.nv.mem.tail with
  | some n => { s with nv := { s.nv with mem := { s.nv.mem with tail := none } } }.recOwn 0x000A false (leBytes 2 n ++ [0, 0])
  | none => s

/-- R320, R322: the stored configuration is read, used where it belongs to the position; an interrupted journal stands. -/
def State.configRead (s : State) (position : Nat) : State :=
  let s1 := { s with sdp := { s.sdp with position := position, jrnOpen := s.nv.journal.state == 3 } }
  let p := s1.positionState
  { s1 with sdp := { s1.sdp with posState := p, work := if p = 0 then s1.nv.cfg else [] } }

/-- R272, R450, R452: the release from reset. The time base counts from here until it is set. -/
def State.release (s : State) : State :=
  let s1 := s.afterReset .booting
  let s2 := { s1 with
    clk := { s1.clk with tbOff := -(s1.clk.now : Int) }
    pins := { s1.pins with vcoreLost := false, vaonLost := false, releaseAt := s1.clk.now }
    nv := s1.nv.released s1.pins.vcoreLost s1.pins.vaonLost }
  ((s2.configRead (positionOf s2.pins.slotA s2.pins.slotB)).pitchLost).tailDiscarded.amonRefresh

/-! ### Repairs (R434, R445, R446) -/

/-- R445: an event of a repair: memory, row, 1 by spare row or 2 by fuse. -/
def State.repairRecord (s : State) (mem row kind : Nat) : State :=
  s.record codeRepair 0 ([BitVec.ofNat 8 mem, BitVec.ofNat 8 kind] ++ leBytes 2 row)

/-- R434: an engine is retired. -/
def State.retireEngine (s : State) (e : Fin 9) : State :=
  { s with nv := { s.nv with repair := { s.nv.repair with retired := s.nv.repair.retired ||| (1 <<< e.val) } } }.record
    codeRetiredEngine 0 [BitVec.ofNat 8 e.val]

/-- R446: the 16 entries of a Ledger row are fenced. -/
def State.fenceRow (s : State) (row : Nat) : State :=
  let slots := (List.range 16).map fun i => 16 * (row % 128) + i
  let s1 := { s with led := { s.led with fenced := s.led.fenced ++ slots.filter fun i => !s.led.fenced.contains i } }
  s1.when (decide (s1.led.usable < 512) && decide (512 ≤ s.led.usable)) fun s => s.record codeReplaceModule 0 [2]

/-- R446: a free row of the configuration store serves as spare, found failing at `n` start-ups in a row; where none is free, the
write fails. Whether a row is free is not the block's to say: a free value (log entry 4). -/
def State.freeRow (s : State) (row n : Nat) : State :=
  let d := s.drawFree
  if d.1 % 2 = 0 then d.2.record codeReplaceModule 0 [1]
  else
    let r := d.2.nv.repair
    { d.2 with nv := { d.2.nv with repair := { r with soft := r.soft ++ [(1, row, n)], onFree := r.onFree ++ [(1, row)] } } }.repairRecord
      1 row 1

/-- R446: a row fails and its memory has no spare left. Memories in the order of SpareRowsLeft. -/
def State.noSpare (s : State) (mem row n : Nat) : State :=
  if mem = 0 then s.rowFails (BitVec.ofNat 16 row)
  else if mem = 1 then s.freeRow row n
  else if mem = 2 || mem = 3 then s.fenceRow row
  else if mem = 4 then s.retireEngine ⟨row / 64 % 9, by omega⟩
  else if mem = 5 then s.onSv 0 fun x => { x with failCause := 3 }
  else if mem = 6 then s.onSv 1 fun x => { x with failCause := 3 }
  else if mem = 7 then
    let left := s.nv.repair.ckSlots - 1
    { s with nv := { s.nv with repair := { s.nv.repair with ckSlots := left } } }.when (left == 0) fun s =>
      s.record codeReplaceModule 0 [7]
  else s.record codeReplaceModule 0 [BitVec.ofNat 8 mem]

/-- R446: the spares left for a row. -/
def Repair.left (r : Repair) (mem row : Nat) : Nat :=
  if mem = 4 then r.engSpares[(⟨row / 64 % 9, by omega⟩ : Fin 9)] else r.spares.toList.getD mem 0

/-- R446: one spare more or one fewer for a row. -/
def Repair.spare (r : Repair) (mem row : Nat) (f : Nat → Nat) : Repair :=
  if mem = 4 then { r with engSpares := updV r.engSpares (⟨row / 64 % 9, by omega⟩ : Fin 9) f }
  else if h : mem < 8 then { r with spares := updV r.spares ⟨mem, h⟩ f } else r

/-- R445: soft repair of a row, counted as found failing at `n` start-ups in a row. -/
def State.softRepair (s : State) (mem row n : Nat) : State :=
  if 0 < s.nv.repair.left mem row then
    let r := s.nv.repair.spare mem row (· - 1)
    { s with nv := { s.nv with repair := { r with soft := r.soft ++ [(mem, row, n)] } } }.repairRecord mem row 1
  else s.noSpare mem row n

/-- R445: a row found failing at this start-up: known and counted, fused at the third in a row, or newly repaired. -/
def State.rowFound (s : State) (mem row : Nat) : State :=
  let r := s.nv.repair
  if r.fused.contains (mem, row) then s
  else match r.soft.find? fun x => x.1 == mem && x.2.1 == row with
    | some (_, _, n) =>
      let rest := r.soft.filter fun x => !(x.1 == mem && x.2.1 == row)
      if 2 ≤ n then
        { s with nv := { s.nv with repair := { r with soft := rest, fused := r.fused ++ [(mem, row)], fuses := r.fuses + 1 } } }.repairRecord
          mem row 2
      else { s with nv := { s.nv with repair := { r with soft := rest ++ [(mem, row, n + 1)] } } }
    | none => s.softRepair mem row 1

/-- R445: the repair map cannot be read: its rows hold no spare until they are found again. -/
def Repair.lost (r : Repair) : Repair :=
  { ((r.soft.filter fun x => !r.onFree.contains (x.1, x.2.1)).foldl (fun (r : Repair) x => r.spare x.1 x.2.1 (· + 1)) r) with
    soft := []
    onFree := [] }

/-- R445: a row of the map not found failing starts its count again. -/
def Repair.missed (r : Repair) (found : List (Nat × Nat)) : Repair :=
  { r with soft := r.soft.map fun x => if found.contains (x.1, x.2.1) then x else (x.1, x.2.1, 0) }

/-- R445, R446: the repairs of a start-up. -/
def State.repairs (s : State) (r : BootReport) : State :=
  let m := if r.mapLost then s.nv.repair.lost else s.nv.repair
  let s1 := { s with nv := { s.nv with repair := m.missed r.rowsFound } }
  let s2 := State.each s1 r.rowsFound fun s x => s.rowFound x.1 x.2
  { s2 with test := { s2.test with softRepairs := s2.nv.repair.soft.length } }

/-! ### Engines, supervisors and permits (R43, R144, R433, R434, R444) -/

/-- R43, R144, R434: every engine that passes is assigned; WSE8 goes to the lowest enabled head whose own engine is unavailable. -/
def State.bootEngines (s : State) (kat : BitVec 9) : State :=
  let bad (e : Nat) : Bool := !kat.getLsbD e || s.nv.repair.retired.getLsbD e
  let own := Vector.ofFn fun h : Fin 8 => if bad h.val then none else some (h.castLE (by decide) : Fin 9)
  let taker := if bad 8 then none else heads.find? fun (h : Fin 8) => bad h.val && s.headEnable h
  let assigned := match taker with
    | some h => updV own h fun _ => some 8
    | none => own
  { s with eng := { s.eng with
      wse := Vector.ofFn fun e : Fin 9 => { s.eng.wse[e] with failed := bad e.val }
      assigned := assigned
      declared := [] } }

/-- R337, R433: SvFailCause of a supervisor at start-up, none where it passes. -/
def bootCause (x : Sv) (f : Option Bool) : Option Nat := match f with
  | some image => some (if image then 4 else 3)
  | none => if x.failCause = 3 then some 3 else none

/-- R433, R450: a supervisor comes into service or is failed. -/
def State.bootSv (s : State) (v : Fin 2) (cause : Option Nat) (crc : Word) : State :=
  match cause with
  | none => s.onSv v fun x => { x with st := .inService, failCause := 0, imageCrc := crc }
  | some c =>
    (s.onSv v fun x => { x with
      st := .failed, failCause := c, failTime := s.tbNow, imageCrc := crc, votes := Vector.replicate 4 (.drop 4) }).record
        (codeFaultRow 4) (svSource v) [BitVec.ofNat 8 v.val, BitVec.ofNat 8 c]

/-- R433: degraded run from the start where one supervisor failed; the accumulated time ends where both pass. -/
def State.bootDegraded (s : State) : State :=
  let alone (v : Fin 2) (s : State) : State :=
    let s1 := s.onSv v fun x => { x with st := .survivor }
    { s1 with keep := { s1.keep with degraded := true, degradedAt := some s.clk.now } }.record codeDegraded (svSource v)
      [BitVec.ofNat 8 v.val]
  match s.sv[0].st, s.sv[1].st with
  | .inService, .inService => { s with nv := { s.nv with degradedNs := 0 } }
  | .inService, _ => alone 0 s
  | _, .inService => alone 1 s
  | _, _ => s

/-- R444: a permit's drop inputs have been tested behind its gate; where one fails, the gate stays closed. -/
def State.pathTested (s : State) (n : Fin 4) (ok : Bool) : State :=
  let s1 := s.onPermit n fun p => { p with testAt := s.clk.now, latch := false, qualAt := none, gateShut := p.gateShut || !ok }
  if ok then s1 else (s1.dropPermit n [5] []).record codeReplaceModule 0 [8, BitVec.ofNat 8 n.val]

/-! ### The checkpoint (R246) -/

/-- R246: the slot a start-up uses. -/
def State.bootCkpt (s : State) : Option Checkpoint :=
  newestCkpt (s.nv.ckpts.filter fun c => c.good && c.position == s.sdp.position)

/-- R246: SectionEpoch of one section where the checkpoint differs from the stored configuration. -/
def State.epochTaken (s : State) (n : Fin 4) (epoch : Nat) : State :=
  let e := s.nv.secs[n].epoch
  if e = epoch then s
  else
    (s.onNvSec n fun x => { x with epoch := 0, lastEpoch := if e = 0 then epoch else e }).record codeCheckpointDiffers 3
      (BitVec.ofNat 8 n.val :: (leBytes 4 e ++ leBytes 4 epoch))

/-- R269: the slots whose check fails at start-up, counted once each. -/
def State.countBadSlots (s : State) : State :=
  { s with nv := { s.nv with
    ckErrors := s.nv.ckErrors + (s.nv.ckpts.filter fun c => !c.good && !c.counted).length
    ckpts := s.nv.ckpts.map fun c => { c with counted := c.counted || !c.good } } }

/-- R246: what a start-up takes from the checkpoint. -/
def State.useCkpt (s : State) : State :=
  let s := s.countBadSlots
  match s.bootCkpt with
  | none => State.each s sections fun s n => s.setBarred n true
  | some c =>
    let s1 := State.each s sections fun s n => s.epochTaken n c.epochs[n]
    let sb := State.each s1 sections fun s n => s.setBarred n c.barred[n]
    let s2 := { sb with keep := { sb.keep with
      braking := c.braking
      breaks := c.breaks
      ckBal := c.bs } }
    { s2 with sv := s2.sv.map fun x =>
      { x with heads := Vector.ofFn fun h : Fin 8 => { x.heads[h] with pos := c.pos[h], neg := c.neg[h] } } }

/-- R432: stored entries whose read was uncorrectable. -/
def State.badEntry (s : State) (key : Nat) : State :=
  if s.sdp.eccBad.contains key || !cfgKey key then s
  else { s with sdp := { s.sdp with eccBad := s.sdp.eccBad ++ [key] } }.record (codeFaultRow 20) 0 (leBytes 3 key)

/-! ### Into service (R31, R33, R450, R451) -/

/-- R31, R33: every section is judged. -/
def State.judgeSections (s : State) : State :=
  if s.serving.isEmpty then s
  else
    (State.each s s.serving fun s v => State.each s sections fun s sec => s.configStep v sec).publishAll

/-- R58, R433: DEGRADED stands in every Verdict word from the first evaluation step, the words that no judgement changes among
them. -/
def State.degradedWords (s : State) : State :=
  s.when s.keep.degraded fun s => State.each s sections fun s n =>
    s.when s.keep.holding[n].isNone fun s => s.publishWord n (s.keep.merged[n].word true)

/-- R433, R434, R444 to R446, R450: the self-checks are complete. -/
def State.intoService (s : State) (r : BootReport) : State :=
  let s1 := ((s.repairs r).bootEngines r.engKat)
  let a := bootCause s1.sv[0] r.svaFail
  let b := bootCause s1.sv[1] r.svbFail
  let s2 := ((s1.bootSv 0 a r.imageCrcA).bootSv 1 b r.imageCrcB).bootDegraded
  let s3 := State.each s2 sections fun s n => s.pathTested n (r.deadboltOk.getLsbD n.val)
  let s4 := State.each s3.useCkpt r.badEntries fun s k => s.badEntry k
  (State.eachFin { s4 with phase := .service }.judgeSections.degradedWords 6 fun s b => s.blankJudge b).amonRefresh

/-- R461: either check of a trial start fails. -/
def State.bootFails (s : State) (r : BootReport) : Bool :=
  let s1 := s.repairs r
  (bootCause s1.sv[0] r.svaFail).isSome || (bootCause s1.sv[1] r.svbFail).isSome

/-- R461: the previous bank again, and a start-up from it. -/
def State.revert (s : State) : State :=
  let m := s.nv.images
  let back := 1 - m.active
  ({ s with nv := { s.nv with images := { m with active := back, switchTo := back, state := 4, trial := false } } }.release).record
    codeReversion 0 [BitVec.ofNat 8 back]

/-- R461: a trial start has reached service; the previous bank is the inactive one, verified. -/
def Images.trialPassed (m : Images) : Images := if m.trial then { m with trial := false, state := 3 } else m

/-! ### Commands -/

/-- R449: PRESENT_N has been low for 10 ms. -/
def State.contactsSettled (s : State) : Bool := match s.pins.highAt with
  | some a => decide (a + ms 10 ≤ s.clk.now)
  | none => true

/-- POWER_GOOD (R449, R457): the rails, AUX_OK and PRESENT_N are good together. Sooner than 10 ms after PRESENT_N was high only the
clock moves. -/
def execPowerGood (t : Time) (s : State) : Host.Outcome State Fault Refusal :=
  let s := s.at t
  done (s.when ((s.phase == .held || s.phase == .removed) && s.contactsSettled) fun s =>
    { s with phase := .good, pins := { s.pins with presentHigh := false, auxLow := false, railsBad := [] } })

/-- RESET_RELEASE (R450, R452): with the two readings of SLOT_ID. Without power good only the clock moves. -/
def execResetRelease (t : Time) (slotA slotB : BitVec 12) (s : State) : Host.Outcome State Fault Refusal :=
  let s := s.at t
  done (s.when (s.phase == .good) fun s => { s with pins := { s.pins with slotA := slotA, slotB := slotB } }.release)

/-- R461: a trial start has missed its 100 ms. -/
def State.trialLate (s : State) : Bool := decide (s.pins.releaseAt + ms 100 < s.clk.now)

/-- SUPERVISORS_IN_SERVICE (R433, R450, R451, R461). -/
def execSupervisorsInService (t : Time) (r : BootReport) (s : State) : Host.Outcome State Fault Refusal :=
  let s := s.at t
  done (s.when (s.phase == .booting) fun s =>
    if s.nv.images.trial && (s.bootFails r || s.trialLate) then s.revert
    else { s with nv := { s.nv with images := s.nv.images.trialPassed } }.intoService r)

/-- TRIAL_START_FAILURE (R461): a trial start fails its checks or misses its 100 ms. -/
def execTrialStartFailure (t : Time) (s : State) : Host.Outcome State Fault Refusal :=
  let s := s.at t
  done (s.when (s.phase == .booting && s.nv.images.trial) fun s => s.revert)

/-! ### Feeds (R467) -/

/-- R467: an event of a feed: a head warning on every enabled head, recorded. Kinds: 0 disconnection, 1 reconnection, 2 out of
range. -/
def State.feedEvent (s : State) (feed : Fin 2) (kind : Nat) : State :=
  s.when s.released fun s =>
    (State.eachFin s 16 fun s c => s.when (s.headEnable (headOf c)) fun s => s.warn c .feed).record codeFeed 0
      [BitVec.ofNat 8 feed.val, BitVec.ofNat 8 kind]

/-- R467: a feed is connected or not. -/
def State.feedSet (s : State) (feed : Fin 2) (on : Bool) : State :=
  { s with pins := { s.pins with feeds := updV s.pins.feeds feed fun f => { f with connected := on } } }

/-- R432: both feeds are lost, which is recorded; the monitors of R78 then fault the channels. -/
def State.feedsLost (s : State) : State :=
  s.when (s.released && s.pins.feeds.toList.all fun f => !f.connected) fun s => s.record (codeFaultRow 14) 0 []

/-- FEED_DISCONNECT (R432, R467). -/
def execFeedDisconnect (t : Time) (feed : Fin 2) (s : State) : Host.Outcome State Fault Refusal :=
  let s := s.at t
  done (s.when s.pins.feeds[feed].connected fun s => ((s.feedSet feed false).feedEvent feed 0).feedsLost)

/-- FEED_RECONNECT (R467): the feed has been in range for 100 ms. -/
def execFeedReconnect (t : Time) (feed : Fin 2) (s : State) : Host.Outcome State Fault Refusal :=
  let s := s.at t
  done (s.when (!s.pins.feeds[feed].connected) fun s => (s.feedSet feed true).feedEvent feed 1)

/-- FEED_OUT_OF_RANGE_WARNING (R467): a connected feed has been outside 4.75 V to 5.25 V for more than 1 s. -/
def execFeedOutOfRangeWarning (t : Time) (feed : Fin 2) (s : State) : Host.Outcome State Fault Refusal :=
  let s := s.at t
  done (s.when s.pins.feeds[feed].connected fun s => s.feedEvent feed 2)

end Sys2Proof.Machine
end

