-- ==== Sys2Proof/Machine/SelfTest.lean ====
section
/-! DEFINITION. The isolation test, the scheduled self-tests and the internal faults of R432 (R432, R435 to R444, R446, R448). -/

namespace Sys2Proof.Machine

/-! ### The isolation test (R435, R437, R439 to R441) -/

/-- R435: a request may be made: a duration from 100 µs to 1,000 ms and a count from 1 to 0xFFFF_FFFF. -/
def isoValid (durUs patterns : Nat) : Bool := decide (100 ≤ durUs ∧ durUs ≤ 1000000 ∧ 1 ≤ patterns ∧ patterns ≤ 0xFFFFFFFF)

/-- R103, R435: a request is held, ends a scanner's pause on the head and wakes a sleeping part; a second one is refused. -/
def State.isoRequest (s0 : State) (h : Fin 8) (durUs patterns : Nat) : State :=
  let stop (s : State) (c : Fin 16) : State := s.onScan c fun k => { k with stop := k.stop || k.pause.isSome }
  let s := stop (stop s0 (chanX h)) (chanY h)
  match s.test.iso with
  | none =>
    ({ s with test := { s.test with
        iso := some { head := h, durNs := us durUs, patterns := patterns }
        abortSent := false } }.pulse 31).wakeEvent 4
  | some _ => ({ s with test := { s.test with refusal := 4 } }.record codeIsolationRefused 3 [BitVec.ofNat 8 h.val, 4]).pulse 31

/-- ISOLATION_REQUEST (R435). One outside R435's ranges is no request. -/
def execIsolationRequest (t : Time) (h : Fin 8) (durUs patterns : Nat) (s : State) : Host.Outcome State Fault Refusal :=
  let s := s.at t
  done (s.when (s.phase == .service && isoValid durUs patterns) fun s => s.isoRequest h durUs patterns)

/-- R437: a channel passes to the test controller. -/
def State.chanGiven (s : State) (c : Fin 16) : State :=
  s.onChan c fun ch => { ch with phase := if ch.phase = .faulted then .faulted else .isolated, excOn := false, raws := [] }

/-- ISOLATION_READY (R437): the channels of a granted head pass to the test controller. -/
def execIsolationReady (t : Time) (s : State) : Host.Outcome State Fault Refusal :=
  let s := s.at t
  done (match s.test.iso with
    | some i => s.when (i.stage == 1) fun s =>
        let s1 := (s.chanGiven (chanX i.head)).chanGiven (chanY i.head)
        { s1 with test := { s1.test with iso := some { i with stage := 2, startAt := s.clk.now } } }.amonRefresh
    | none => s)

/-- R441: the result of a test that ran. -/
def testResult (i : Isolation) (patterns : Nat) (good : Bool) : Nat :=
  if patterns ≠ i.patterns then 2 else if good then 1 else 3

/-- R442: the result of an abort of this moment is taken back. -/
def State.abortUndone (s : State) : State :=
  { s with
    intake := { s.intake with offered := s.intake.offered.filter fun e => !(e.code == codeTestResult && e.time == s.tbNow) }
    test := { s.test with abortSent := false } }

/-- TEST_DONE (R437, R441, R442): the return starts 0.1 ms later. One of the moment of an abort comes before it. -/
def execTestDone (t : Time) (patterns : Nat) (good : Bool) (s : State) : Host.Outcome State Fault Refusal :=
  let s := s.at t
  done (match s.test.iso with
    | some i => s.when (i.stage == 2 || i.abortAt == some s.clk.now) fun s =>
        let s0 := if i.stage = 2 then s else s.abortUndone
        let s1 := s0.isoResult i (testResult i patterns good) patterns
        { s1 with test := { s1.test with iso := some { i with stage := 3, startAt := s.clk.now + us 100, abortAt := none } } }
    | none => s)

/-- TEST_DONE_TIMEOUT (R439): TEST_DONE has not come by the planned end + 1 ms. Before then only the clock moves. -/
def execTestDoneTimeout (t : Time) (s : State) : Host.Outcome State Fault Refusal :=
  let s := s.at t
  done (match s.test.iso with
    | some i => s.when (i.stage == 2 && decide (s.isoEnd i + ms 1 ≤ s.tbNow)) fun s => s.isoAbort false
    | none => s)

/-- R440: a channel back in service: the baseline check against the checkpoint of R437. -/
def State.chanReturns (s : State) (c : Fin 16) (d : Det) : State :=
  if s.fe.chans[c].phase = .faulted then s.onChan c fun ch => { ch with excOn := true }
  else
    let s1 := s.onChan c fun ch => { ch with phase := .inService, excOn := true, raws := [] }
    let s2 := s1.onProof c fun p => { p with serviceAt := s.clk.now }
    s2.baselineCheck c (if d.haveB0 then some (d.b0L, d.b0H) else none)

/-- R438, R440 step 1: no wheel has been found and every section concerned is still CLEAR. -/
def State.isoClean (s : State) (i : Isolation) : Bool :=
  !i.wheel && !s.eng.dets[chanX i.head].present && !s.eng.dets[chanY i.head].present &&
    (sections.all fun n => !i.secs.getLsbD n.val || s.serving.all fun v => s.sv[v].props[n].state == .clear)

/-- R440 step 1, R262: the head is rebased at every leg it heads whose term is to be had. -/
def State.isoRebase (s : State) (h : Fin 8) : State :=
  match s.serving with
  | [] => s
  | v :: _ =>
    State.each s (s.legsAt h) fun s p =>
      match s.sweepTerm v p.1 p.2 with
      | some c => s.rebaseOuter p.1 p.2 { zov := 0, cum := c } s.tbNow
      | none => s

/-- R438: a presence found by the baseline check of the return is cause 3. -/
def State.isoFound (s : State) (i : Isolation) : State :=
  if s.eng.dets[chanX i.head].present || s.eng.dets[chanY i.head].present then
    State.each s s.serving fun s v =>
      State.each s (sections.filter fun n => i.secs.getLsbD n.val) fun s n => s.raise v n 3 none
  else s

/-- R440: the return ends. -/
def State.isoReturn (s : State) (i : Isolation) : State :=
  let s1 := (s.chanReturns (chanX i.head) i.x).chanReturns (chanY i.head) i.y
  let s2 := { s1 with test := { s1.test with iso := none } }.headReturns i.head
  let s3 := if s2.isoClean i then s2.isoRebase i.head else s2.isoFound i
  ({ s3 with test := { s3.test with drop := 0 } }.pulse 31).requalify.amonRefresh

/-- ISOLATION_RETURN_DONE (R440): 1.6 ms after the return's start. Before then only the clock moves. -/
def execIsolationReturnDone (t : Time) (s : State) : Host.Outcome State Fault Refusal :=
  let s := s.at t
  done (match s.test.iso with
    | some i => s.when (i.stage == 3 && s.phase == .service && decide (i.startAt + us 1600 ≤ s.clk.now)) fun s =>
        s.isoReturn i
    | none => s)

/-! ### Scheduled self-tests (R443, R444, R448) -/

/-- MEMORY_SCRUB (R57, R443): of one supervisor's memories, while its cores run. -/
def execMemoryScrub (t : Time) (v : Fin 2) (r : ScrubResult) (s : State) : Host.Outcome State Fault Refusal :=
  let s := s.at t
  done (s.when (s.evaluates v) fun s => match r with
    | .corrected => { s with nv := { s.nv with svEcc := updV s.nv.svEcc v (· + 1) } }
    | .uncorrectable => s.svFail v 2 1
    | .clean => s
    | .differ => s)

/-- COMPARATOR_TEST (R443): a comparator that does not report the injected mismatch fails its supervisor. -/
def execComparatorTest (t : Time) (v : Fin 2) (ok : Bool) (s : State) : Host.Outcome State Fault Refusal :=
  let s := s.at t
  done (s.when (s.evaluates v && !ok) fun s => s.svFail v 1 1)

/-- R432: the Tumbler's self-test fails: cause 8 for every configured section. -/
def State.tumblerFails (s : State) : State :=
  let s1 := { s with keep := { s.keep with tumbler := { s.keep.tumbler with failing := true } } }
  (State.each s1 (sections.filter fun (n : Fin 4) => decide (1 ≤ s.legCount n)) fun s n => s.notify (.cause n 8 none)).record
    (codeFaultRow 11) 3 []

/-- TUMBLER_TEST (R432, R443). -/
def execTumblerTest (t : Time) (ok : Bool) (s : State) : Host.Outcome State Fault Refusal :=
  let s := s.at t
  done (s.when (s.phase == .service && s.pwr.state != .hibernate) fun s =>
    if ok then { s with keep := { s.keep with tumbler := { s.keep.tumbler with failing := false } } } else s.tumblerFails)

/-- R444: a permit's path test may run in service: 24 h after the last, with the permit low and both supervisors voting drop for
20 ms. -/
def State.mayTestPath (s : State) (n : Fin 4) : Bool :=
  let p := s.keep.permits[n]
  s.phase == .service && !p.gateShut && !p.latch && s.bothDrop n && decide (p.testAt + secs 86400 ≤ s.clk.now) &&
    (match p.lowSince with
      | some a => decide (a + ms 20 ≤ s.clk.now)
      | none => false)

/-- DEADBOLT_PATH_TEST (R444). Where it may not run only the clock moves. -/
def execDeadboltPathTest (t : Time) (n : Fin 4) (ok : Bool) (s : State) : Host.Outcome State Fault Refusal :=
  let s := s.at t
  done (s.when (s.mayTestPath n) fun s => (s.pathTested n ok).requalify)

/-- AUTH_KNOWN_ANSWER (R432, R443): while the test fails, no raise is accepted and no authenticated copy passes. -/
def execAuthKnownAnswer (t : Time) (ok : Bool) (s : State) : Host.Outcome State Fault Refusal :=
  let s := s.at t
  done (s.when s.released fun s =>
    let s1 := { s with test := { s.test with authFail := !ok } }
    s1.when (!ok && !s.test.authFail) fun s => s.record (codeFaultRow 19) 0 [])

/-- R446: a row of a refreshed memory fails. -/
def State.refreshFails (s : State) (mem : RefreshMem) (row : Nat) : State := match mem with
  | .recorder => s.rowFails (BitVec.ofNat 16 row)
  | .configStore => s.softRepair 1 row 0

/-- MRAM_REFRESH (R445, R446, R448): one written row, in ACTIVE and WATCH only. A row that passes holds what it held. -/
def execMramRefresh (t : Time) (mem : RefreshMem) (row : Nat) (ok : Bool) (s : State) : Host.Outcome State Fault Refusal :=
  let s := s.at t
  done (s.when (s.phase == .service && (s.pwr.state == .active || s.pwr.state == .watch) && !ok) fun s => s.refreshFails mem row)

/-! ### Internal faults (R432) -/

/-- R432: the sessions of an engine close, and the mailbox session reopens at level 0. Which sessions an engine serves is not
stated: a free value says (log entry 4). -/
def State.deFails (s : State) (d : Fin 2) : State :=
  let r := s.drawFree
  let s1 := State.each r.2 ((List.finRange 5).filter fun (i : Fin 5) => decide (i.val ≠ 0) && r.1.testBit i.val) fun s i =>
    s.closeSession i
  let s2 := (s1.closeSession 0).onSession 0 fun x => { x with opened := true, ledCursor := s1.led.newestSeq }
  let n := s2.sdp.deFails[d] + 1
  { s2 with sdp := { s2.sdp with
      deFails := updV s2.sdp.deFails d fun _ => n
      deOut := updV s2.sdp.deOut d fun o => o || decide (2 ≤ n) } }.record (codeFaultRow 18) 0 [BitVec.ofNat 8 d.val]

/-- DE_FAILURE (R432): of an engine that still serves. -/
def execDeFailure (t : Time) (d : Fin 2) (s : State) : Host.Outcome State Fault Refusal :=
  let s := s.at t
  done (s.when (s.released && !s.sdp.deOut[d]) fun s => s.deFails d)

/-- CRYSTAL_LOSS (R432): the wake timer's intervals are shortened from then on. -/
def execCrystalLoss (t : Time) (s : State) : Host.Outcome State Fault Refusal :=
  let s := s.at t
  done (s.when (s.released && !s.pwr.crystalLost) fun s =>
    { s with pwr := { s.pwr with crystalLost := true } }.record (codeFaultRow 15) 0 [])

/-- RC_LOSS (R432): DeepestState acts as 1. -/
def execRcLoss (t : Time) (s : State) : Host.Outcome State Fault Refusal :=
  let s := s.at t
  done (s.when (s.released && !s.pwr.rcLost) fun s => { s with pwr := { s.pwr with rcLost := true } }.record (codeFaultRow 16) 0 [])

/-- STORE_ECC_ERROR (R432): the sections concerned are UNCONFIGURED from their next step. -/
def execStoreEccError (t : Time) (key : Nat) (s : State) : Host.Outcome State Fault Refusal :=
  let s := s.at t
  done (s.when s.released fun s => s.badEntry key)

/-- DIE_OVERTEMP (R432): recorded, with its EMCY. -/
def execDieOvertemp (t : Time) (s : State) : Host.Outcome State Fault Refusal :=
  let s := s.at t
  done (s.when s.released fun s => s.record (codeFaultRow 21) 0 [] true)

end Sys2Proof.Machine
end

