-- ==== Sys2Proof/Machine/Switch.lean ====
section
/-! DEFINITION. What the switch does with received frames: delivery, forwarding, cut-through, learning and duplicate discard (R349
to R351, R356, R357). -/

namespace Sys2Proof.Machine

/-- R349: the row of its table that a good frame falls under. -/
inductive FrameRow where
  | timeBase | localDropped | hasp | tagged | own | other | group
  deriving DecidableEq, Repr

/-- R349: the first matching row; every field it looks at stands in the first 24 bytes. -/
def State.frameRow (s : State) (f : Frame) : FrameRow :=
  let vid := match f.tag with
    | some t => t.vid != 0
    | none => false
  if isLinkLocal f.dst then (if f.ether == etherTime then .timeBase else .localDropped)
  else if protocolOf f = some protoHasp then .hasp
  else if vid then .tagged
  else if f.dst = s.part.nodeMac then .own
  else if isGroup f.dst then .group
  else .other

/-- R349: the rows whose frames go on to the other port of the same lane. -/
def FrameRow.forwards : FrameRow → Bool
  | .tagged => true
  | .other => true
  | .group => true
  | _ => false

/-- R349: bad FCS, runt, or longer than 1,528 bytes. -/
def badFrame (f : Frame) : Bool := !f.fcsOk || decide (frameSize f < 64) || decide (1528 < frameSize f)

/-- R349, R357: a group address the node listens to, other than PRP supervision. -/
def State.listens (s : State) (m : Mac) : Bool := m == 0xFFFFFFFFFFFF || (s.emergencyMac != 0 && m == s.emergencyMac)

/-- R351: the side of a source address is learnt. -/
def State.learn (s : State) (m : Mac) (p : Fin 4) : State :=
  { s with net := { s.net with
      learnt := (s.net.learnt.filter fun e => e.1 != m) ++ [(m, sideOf p == 1, s.clk.now)] } }

/-- R356: a source enters the node table, or is renewed; a full table takes no new one. -/
def State.nodeSeen (s : State) (m : Mac) : State :=
  let l := s.net.nodes.filter fun e => decide (s.clk.now < e.2 + secs 60)
  let rest := l.filter fun e => e.1 != m
  { s with net := { s.net with nodes := if rest.length < 256 then rest ++ [(m, s.clk.now)] else l } }

/-- R356: a LanId that does not match its port. -/
def State.lanCheck (s : State) (p : Fin 4) (f : Frame) : State :=
  match f.prp with
  | none => s
  | some r =>
    if r.lanId = (if laneOf p = 0 then 0xA else 0xB) then s
    else if laneOf p = 0 then { s with net := { s.net with wrongA := s.net.wrongA + 1 } }
    else { s with net := { s.net with wrongB := s.net.wrongB + 1 } }

/-- R349: a frame reaches the node. -/
def State.toNode (s : State) (p : Fin 4) (f : Frame) : State :=
  { s with net := { s.net with delivered := s.net.delivered ++ [(p, f)] } }

/-- R356: the first copy of a SeqNr of a source is taken and the second discarded; a frame without trailer is taken. -/
def State.takeOnce (s : State) (f : Frame) (take : State → State) : State :=
  match f.prp with
  | none => take s
  | some r =>
    let s1 := s.nodeSeen f.src
    let known := s1.net.seen.any fun (e : Mac × BitVec 16 × Time) =>
      e.1 == f.src && e.2.1 == r.seqNr && decide (s.clk.now < e.2.2 + ms s.prpEntryForgetTime)
    if known then { s1 with net := { s1.net with discards := s1.net.discards + 1 } }
    else
      let old := s1.net.seen.filter fun (e : Mac × BitVec 16 × Time) => !(e.1 == f.src && e.2.1 == r.seqNr)
      take { s1 with net := { s1.net with seen := old ++ [(f.src, r.seqNr, s.clk.now)] } }

/-- R349, R356: a frame is delivered to the node under duplicate discard. -/
def State.deliverOnce (s : State) (p : Fin 4) (f : Frame) : State := s.takeOnce f fun s => s.toNode p f

/-- R350: the frame under way on a port by cut-through is this one, whatever its FCS proves to be. -/
def Port.cutting (y : Port) (f : Frame) : Bool := match y.sending with
  | some x => x.cut && { x.frame with fcsOk := true } == { f with fcsOk := true }
  | none => false

/-- R350: a forwarded frame, stored whole, joins its queue; one already leaving by cut-through goes on. -/
def State.forward (s : State) (p : Fin 4) (f : Frame) : State :=
  let q := twinPort p
  if s.net.ports[q].cutting f then s else s.enqueue q { frame := f, cls := (queueOf f).val }

/-- R350: a cut-through frame whose FCS proves bad ends with a wrong one. -/
def State.spoilCut (s : State) (p : Fin 4) (f : Frame) : State :=
  let q := twinPort p
  s.when (s.net.ports[q].cutting f) fun s => s.onPort q fun y =>
    { y with sending := y.sending.map fun x => { x with badFcs := true } }

/-- R349: a good frame, by its row. -/
def State.routeFrame (s : State) (p : Fin 4) (f : Frame) : State :=
  match s.frameRow f with
  | .timeBase => s
  | .localDropped => s
  | .hasp => s.toNode p f
  | .tagged => s.forward p f
  | .own => s.deliverOnce p f
  | .other => s.forward p f
  | .group =>
    let s1 :=
      if f.dst = superMac ∧ f.ether = etherPrp then s.takeOnce f fun s => s.nodeSeen f.src
      else if s.listens f.dst then s.deliverOnce p f
      else s
    s1.forward p f

/-- R349: the switch takes frames on a port with link, out of reset and until it stops for a removal. -/
def State.switchOn (s : State) (p : Fin 4) : Bool := s.released && !s.net.stopped && s.net.ports[p].link

/-- FRAME_RECEIVE (R349 to R351, R356): a frame has been received whole on a port. What a message of the time base says, its own
commands carry. -/
def execFrameReceive (t : Time) (port : Fin 4) (f : Frame) (s : State) : Host.Outcome State Fault Refusal :=
  let s := s.at t
  done (s.when (s.switchOn port) fun s =>
    if badFrame f then s.spoilCut port f
    else ((s.learn f.src port).lanCheck port f).routeFrame port f)

/-- CUT_THROUGH_START (R350, R352): the first 24 bytes of a frame to be forwarded have arrived; it starts on the egress port where
that is free and its gate is not about to close. Otherwise only the clock moves, and the frame is stored. -/
def execCutThroughStart (t : Time) (port : Fin 4) (f : Frame) (s : State) : Host.Outcome State Fault Refusal :=
  let s := s.at t
  let y := s.net.ports[twinPort port]
  let free := y.link && y.sending.isNone && y.front.isNone && y.gateOpen s.clk.now none
  done (s.when (s.switchOn port && s.cutThrough && (s.frameRow f).forwards && free) fun s =>
    s.onPort (twinPort port) fun y => { y with sending := some { frame := f, cls := (queueOf f).val, cut := true } })

end Sys2Proof.Machine
end

