-- ==== Sys2Proof/Machine/Dispatch.lean ====
section
/-! DEFINITION. The dispatch of commands: one arm per constructor, each a direct call of that command's meaning. -/

namespace Sys2Proof.Machine

/-- A command's effect on everything but the queue. -/
def exec (i : Instr) (s : State) : Host.Outcome State Fault Refusal :=
  match i with
  | .powerGood t => Sys2Proof.Machine.execPowerGood t s
  | .resetRelease t slotA slotB => Sys2Proof.Machine.execResetRelease t slotA slotB s
  | .supervisorsInService t r => Sys2Proof.Machine.execSupervisorsInService t r s
  | .trialStartFailure t => Sys2Proof.Machine.execTrialStartFailure t s
  | .removalWarning t => Sys2Proof.Machine.execRemovalWarning t s
  | .supplyLoss t => Sys2Proof.Machine.execSupplyLoss t s
  | .skrstReq t => Sys2Proof.Machine.execSkrstReq t s
  | .immediateReset t => Sys2Proof.Machine.execImmediateReset t s
  | .railOutOfRange t rail => Sys2Proof.Machine.execRailOutOfRange t rail s
  | .feedDisconnect t feed => Sys2Proof.Machine.execFeedDisconnect t feed s
  | .feedReconnect t feed => Sys2Proof.Machine.execFeedReconnect t feed s
  | .feedOutOfRangeWarning t feed => Sys2Proof.Machine.execFeedOutOfRangeWarning t feed s
  | .opsecSave t => Sys2Proof.Machine.execOpsecSave t s
  | .evaluationStep t v => Sys2Proof.Machine.execEvaluationStep t v s
  | .deferredSetApply t => Sys2Proof.Machine.execDeferredSetApply t s
  | .verdictShadowLoad t sec => Sys2Proof.Machine.execVerdictShadowLoad t sec s
  | .deadboltDrop t n input => Sys2Proof.Machine.execDeadboltDrop t n input s
  | .permitRise t n => Sys2Proof.Machine.execPermitRise t n s
  | .supervisorFailure t v cause => Sys2Proof.Machine.execSupervisorFailure t v cause s
  | .supervisorClockFault t v => Sys2Proof.Machine.execSupervisorClockFault t v s
  | .stepOverrun t v => Sys2Proof.Machine.execStepOverrun t v s
  | .degradedRunEntry t => Sys2Proof.Machine.execDegradedRunEntry t s
  | .degradedClearExpiry t => Sys2Proof.Machine.execDegradedClearExpiry t s
  | .referenceSwitchover t => Sys2Proof.Machine.execReferenceSwitchover t s
  | .bothReferencesLost t => Sys2Proof.Machine.execBothReferencesLost t s
  | .frameBoundary t => Sys2Proof.Machine.execFrameBoundary t s
  | .settlingMaskEnd t c => Sys2Proof.Machine.execSettlingMaskEnd t c s
  | .fastSample t c raws => Sys2Proof.Machine.execFastSample t c raws s
  | .presenceEvent t ev => Sys2Proof.Machine.execPresenceEvent t ev s
  | .loopMonitorEval t c amp unblanked => Sys2Proof.Machine.execLoopMonitorEval t c amp unblanked s
  | .excCurrentEval t c cur limiter => Sys2Proof.Machine.execExcCurrentEval t c cur limiter s
  | .commonModeEval t c volts vafe => Sys2Proof.Machine.execCommonModeEval t c volts vafe s
  | .burnoutEval t c share => Sys2Proof.Machine.execBurnoutEval t c share s
  | .faultCauseFinal t c => Sys2Proof.Machine.execFaultCauseFinal t c s
  | .reconnectQuietExpiry t c r => Sys2Proof.Machine.execReconnectQuietExpiry t c r s
  | .calibrationStart t c r => Sys2Proof.Machine.execCalibrationStart t c r s
  | .calibrationDone t c => Sys2Proof.Machine.execCalibrationDone t c s
  | .channelWarning t c kind => Sys2Proof.Machine.execChannelWarning t c kind s
  | .warningHoldExpiry t c kind => Sys2Proof.Machine.execWarningHoldExpiry t c kind s
  | .tchReading t c m1 m2 vref => Sys2Proof.Machine.execTchReading t c m1 m2 vref s
  | .blankStuck t src => Sys2Proof.Machine.execBlankStuck t src s
  | .blankSourceRestore t src => Sys2Proof.Machine.execBlankSourceRestore t src s
  | .scanDue t c => Sys2Proof.Machine.execScanDue t c s
  | .scanOverdue t c => Sys2Proof.Machine.execScanOverdue t c s
  | .scanPauseStart t c => Sys2Proof.Machine.execScanPauseStart t c s
  | .scanComplete t c => Sys2Proof.Machine.execScanComplete t c s
  | .noiseBlock t c => Sys2Proof.Machine.execNoiseBlock t c s
  | .baselineStore t => Sys2Proof.Machine.execBaselineStore t s
  | .driftEvaluation t c => Sys2Proof.Machine.execDriftEvaluation t c s
  | .kappaFit t c => Sys2Proof.Machine.execKappaFit t c s
  | .residualPresence t c => Sys2Proof.Machine.execResidualPresence t c s
  | .engineCheckpoint t e w => Sys2Proof.Machine.execEngineCheckpoint t e w s
  | .engineFailure t e check => Sys2Proof.Machine.execEngineFailure t e check s
  | .takeoverFirstDecision t h => Sys2Proof.Machine.execTakeoverFirstDecision t h s
  | .proofTestDue t c => Sys2Proof.Machine.execProofTestDue t c s
  | .proofTestStart t c => Sys2Proof.Machine.execProofTestStart t c s
  | .proofTestEnd t c => Sys2Proof.Machine.execProofTestEnd t c s
  | .proofTestRetry t c => Sys2Proof.Machine.execProofTestRetry t c s
  | .proofTestOverdue t c => Sys2Proof.Machine.execProofTestOverdue t c s
  | .ledgerStall t slot => Sys2Proof.Machine.execLedgerStall t slot s
  | .ledgerScrub t slot copy r => Sys2Proof.Machine.execLedgerScrub t slot copy r s
  | .checkpointDone t ok => Sys2Proof.Machine.execCheckpointDone t ok s
  | .tumblerCompare t => Sys2Proof.Machine.execTumblerCompare t s
  | .tumblerToleranceExpiry t => Sys2Proof.Machine.execTumblerToleranceExpiry t s
  | .tumblerRederiveDone t => Sys2Proof.Machine.execTumblerRederiveDone t s
  | .clearTimerExpiry t v sec => Sys2Proof.Machine.execClearTimerExpiry t v sec s
  | .disturbedHoldExpiry t v sec cause => Sys2Proof.Machine.execDisturbedHoldExpiry t v sec cause s
  | .bemfAlarm t v sec => Sys2Proof.Machine.execBemfAlarm t v sec s
  | .tractionStage t n dclink w => Sys2Proof.Machine.execTractionStage t n dclink w s
  | .tractionCommit t n w => Sys2Proof.Machine.execTractionCommit t n w s
  | .tractionStale t n => Sys2Proof.Machine.execTractionStale t n s
  | .kinExpiry t sec => Sys2Proof.Machine.execKinExpiry t sec s
  | .skTimeRead t => Sys2Proof.Machine.execSkTimeRead t s
  | .deadboltClear t w => Sys2Proof.Machine.execDeadboltClear t w s
  | .mailboxSend t => Sys2Proof.Machine.execMailboxSend t s
  | .mailboxCancel t => Sys2Proof.Machine.execMailboxCancel t s
  | .mailboxResponse t => Sys2Proof.Machine.execMailboxResponse t s
  | .registerWrite t off size w => Sys2Proof.Machine.execRegisterWrite t off size w s
  | .hecSourcePending t src => Sys2Proof.Machine.execHecSourcePending t src s
  | .hecAccept t core => Sys2Proof.Machine.execHecAccept t core s
  | .hecFirstAccess t core => Sys2Proof.Machine.execHecFirstAccess t core s
  | .hecEoi t core w => Sys2Proof.Machine.execHecEoi t core w s
  | .hecPendClear t high w sets => Sys2Proof.Machine.execHecPendClear t high w sets s
  | .hecTargetWrite t k w => Sys2Proof.Machine.execHecTargetWrite t k w s
  | .hecVbaseWrite t core w => Sys2Proof.Machine.execHecVbaseWrite t core w s
  | .clrCounts t => Sys2Proof.Machine.execClrCounts t s
  | .coreReset t core => Sys2Proof.Machine.execCoreReset t core s
  | .cvuCtrlWrite t u w => Sys2Proof.Machine.execCvuCtrlWrite t u w s
  | .start t u => Sys2Proof.Machine.execStart t u s
  | .finish t u => Sys2Proof.Machine.execFinish t u s
  | .clrRej t u => Sys2Proof.Machine.execClrRej t u s
  | .cvuData t u width w => Sys2Proof.Machine.execCvuData t u width w s
  | .cvuValWrite t u w => Sys2Proof.Machine.execCvuValWrite t u w s
  | .haspGateClose t port => Sys2Proof.Machine.execHaspGateClose t port s
  | .haspSend t k => Sys2Proof.Machine.execHaspSend t k s
  | .haspReceive t port f => Sys2Proof.Machine.execHaspReceive t port f s
  | .connectionTimeout t k => Sys2Proof.Machine.execConnectionTimeout t k s
  | .laneTimeout t k lane => Sys2Proof.Machine.execLaneTimeout t k lane s
  | .mirrorGapTimeout t k => Sys2Proof.Machine.execMirrorGapTimeout t k s
  | .attestTimeout t sec => Sys2Proof.Machine.execAttestTimeout t sec s
  | .attestRetry t sec => Sys2Proof.Machine.execAttestRetry t sec s
  | .attestHeldClear t sec => Sys2Proof.Machine.execAttestHeldClear t sec s
  | .selfAttestation t sec => Sys2Proof.Machine.execSelfAttestation t sec s
  | .pitchCommit t src => Sys2Proof.Machine.execPitchCommit t src s
  | .pitchTime t => Sys2Proof.Machine.execPitchTime t s
  | .strike t src => Sys2Proof.Machine.execStrike t src s
  | .sweepRequest t src => Sys2Proof.Machine.execSweepRequest t src s
  | .directClear t src => Sys2Proof.Machine.execDirectClear t src s
  | .rereference t src => Sys2Proof.Machine.execRereference t src s
  | .bemfRelease t src => Sys2Proof.Machine.execBemfRelease t src s
  | .keySlotLoad t src => Sys2Proof.Machine.execKeySlotLoad t src s
  | .noEntryRelease t src => Sys2Proof.Machine.execNoEntryRelease t src s
  | .scanNow t src => Sys2Proof.Machine.execScanNow t src s
  | .proofNow t src => Sys2Proof.Machine.execProofNow t src s
  | .releaseOverride t src => Sys2Proof.Machine.execReleaseOverride t src s
  | .sdpOpen t src => Sys2Proof.Machine.execSdpOpen t src s
  | .sdpClose t src => Sys2Proof.Machine.execSdpClose t src s
  | .sdpRead t src => Sys2Proof.Machine.execSdpRead t src s
  | .sdpWrite t src => Sys2Proof.Machine.execSdpWrite t src s
  | .readInit t src => Sys2Proof.Machine.execReadInit t src s
  | .readSeg t src => Sys2Proof.Machine.execReadSeg t src s
  | .writeInit t src => Sys2Proof.Machine.execWriteInit t src s
  | .writeSeg t src => Sys2Proof.Machine.execWriteSeg t src s
  | .xferAbort t src => Sys2Proof.Machine.execXferAbort t src s
  | .txnBegin t src => Sys2Proof.Machine.execTxnBegin t src s
  | .txnEnd t src w => Sys2Proof.Machine.execTxnEnd t src w s
  | .txnDiscard t src => Sys2Proof.Machine.execTxnDiscard t src s
  | .unknownOp t src => Sys2Proof.Machine.execUnknownOp t src s
  | .challenge t src => Sys2Proof.Machine.execChallenge t src s
  | .response t src => Sys2Proof.Machine.execResponse t src s
  | .sessionLevel t src => Sys2Proof.Machine.execSessionLevel t src s
  | .pendingCommit t src => Sys2Proof.Machine.execPendingCommit t src s
  | .pendingDiscard t src => Sys2Proof.Machine.execPendingDiscard t src s
  | .waitingCancel t src => Sys2Proof.Machine.execWaitingCancel t src s
  | .rollback t src w => Sys2Proof.Machine.execRollback t src w s
  | .rerun t src w => Sys2Proof.Machine.execRerun t src w s
  | .recAdvance t src => Sys2Proof.Machine.execRecAdvance t src s
  | .validationTimeout t => Sys2Proof.Machine.execValidationTimeout t s
  | .sessionIdleTimeout t sess => Sys2Proof.Machine.execSessionIdleTimeout t sess s
  | .transferTimeout t sess => Sys2Proof.Machine.execTransferTimeout t sess s
  | .pendingTimeout t sess => Sys2Proof.Machine.execPendingTimeout t sess s
  | .txnTimeout t => Sys2Proof.Machine.execTxnTimeout t s
  | .raiseBarExpiry t sess => Sys2Proof.Machine.execRaiseBarExpiry t sess s
  | .configWanted t => Sys2Proof.Machine.execConfigWanted t s
  | .imageCheckDone t okA okB version => Sys2Proof.Machine.execImageCheckDone t okA okB version s
  | .recorderEvent t ev => Sys2Proof.Machine.execRecorderEvent t ev s
  | .recordWritten t rowFails row => Sys2Proof.Machine.execRecordWritten t rowFails row s
  | .tokenRefill t cls => Sys2Proof.Machine.execTokenRefill t cls s
  | .suppressionRunEnd t cls => Sys2Proof.Machine.execSuppressionRunEnd t cls s
  | .linkUp t port capable requests => Sys2Proof.Machine.execLinkUp t port capable requests s
  | .linkDown t port => Sys2Proof.Machine.execLinkDown t port s
  | .frameReceive t port f => Sys2Proof.Machine.execFrameReceive t port f s
  | .addressAgeout t => Sys2Proof.Machine.execAddressAgeout t s
  | .nodeTableAgeout t => Sys2Proof.Machine.execNodeTableAgeout t s
  | .prpTrailerEnable t => Sys2Proof.Machine.execPrpTrailerEnable t s
  | .supervisionFrame t => Sys2Proof.Machine.execSupervisionFrame t s
  | .announce t port a => Sys2Proof.Machine.execAnnounce t port a s
  | .pdelayReq t port delay => Sys2Proof.Machine.execPdelayReq t port delay s
  | .sync t port gmTime => Sys2Proof.Machine.execSync t port gmTime s
  | .syncTimeout t => Sys2Proof.Machine.execSyncTimeout t s
  | .holdoverExpiry t => Sys2Proof.Machine.execHoldoverExpiry t s
  | .syncPpsEdge t => Sys2Proof.Machine.execSyncPpsEdge t s
  | .syncPpsTimeout t => Sys2Proof.Machine.execSyncPpsTimeout t s
  | .syncPpsOutput t => Sys2Proof.Machine.execSyncPpsOutput t s
  | .tbClockLoss t => Sys2Proof.Machine.execTbClockLoss t s
  | .sleepExecute t => Sys2Proof.Machine.execSleepExecute t s
  | .wakeTimer t => Sys2Proof.Machine.execWakeTimer t s
  | .wakeComplete t r => Sys2Proof.Machine.execWakeComplete t r s
  | .hibernateHaspSend t k => Sys2Proof.Machine.execHibernateHaspSend t k s
  | .isolationRequest t h durUs patterns => Sys2Proof.Machine.execIsolationRequest t h durUs patterns s
  | .isolationReady t => Sys2Proof.Machine.execIsolationReady t s
  | .testDone t patterns good => Sys2Proof.Machine.execTestDone t patterns good s
  | .testDoneTimeout t => Sys2Proof.Machine.execTestDoneTimeout t s
  | .isolationReturnDone t => Sys2Proof.Machine.execIsolationReturnDone t s
  | .memoryScrub t v r => Sys2Proof.Machine.execMemoryScrub t v r s
  | .comparatorTest t v ok => Sys2Proof.Machine.execComparatorTest t v ok s
  | .tumblerTest t ok => Sys2Proof.Machine.execTumblerTest t ok s
  | .deadboltPathTest t n ok => Sys2Proof.Machine.execDeadboltPathTest t n ok s
  | .authKnownAnswer t ok => Sys2Proof.Machine.execAuthKnownAnswer t ok s
  | .mramRefresh t mem row ok => Sys2Proof.Machine.execMramRefresh t mem row ok s
  | .deFailure t d => Sys2Proof.Machine.execDeFailure t d s
  | .crystalLoss t => Sys2Proof.Machine.execCrystalLoss t s
  | .rcLoss t => Sys2Proof.Machine.execRcLoss t s
  | .storeEccError t key => Sys2Proof.Machine.execStoreEccError t key s
  | .dieOvertemp t => Sys2Proof.Machine.execDieOvertemp t s
  | .blankingWindowEdge t src level => Sys2Proof.Machine.execBlankingWindowEdge t src level s
  | .contactBounce t => Sys2Proof.Machine.execContactBounce t s
  | .cutThroughStart t port f => Sys2Proof.Machine.execCutThroughStart t port f s
  | .egressFrameEnd t port => Sys2Proof.Machine.execEgressFrameEnd t port s
  | .syncPpsPulseEnd t => Sys2Proof.Machine.execSyncPpsPulseEnd t s

end Sys2Proof.Machine
end

