-- ==== Sys2Proof/Safety.lean ====
section
/-! DEFINITION. What counts as a safe run: the stored maps in canonical form, every Verdict word with odd parity, no permit
that rises but by PERMIT_RISE; which areas of the state each command may change; and what it means that a command
completes. -/

namespace Sys2Proof.Machine

/-- R12, R164, R309: the stored and the working configuration and both copies of the Ledger hold one entry a key, keys rising. -/
def State.canonical (s : State) : Prop :=
  kvWf s.nv.cfg = true ∧ kvWf s.sdp.work = true ∧ kvWf s.led.copies[0] = true ∧ kvWf s.led.copies[1] = true

/-- R273: every Verdict word, in the shadow or on its way there, holds an odd number of ones in bits 31:0. -/
def State.wordsOdd (s : State) : Prop :=
  (∀ n : Fin 4, parOk s.keep.shadow[n] = true) ∧ ∀ (n : Fin 4) (w : Word), s.keep.holding[n] = some w → parOk w = true

/-- The invariant of the block. -/
def State.Inv (s : State) : Prop := s.canonical ∧ s.wordsOdd

/-- R53: no permit is high in t that was low in s. -/
def State.noRise (s t : State) : Prop :=
  ∀ n : Fin 4, t.keep.permits[n].latch = true → s.keep.permits[n].latch = true

/-- R452: all that a reset returns to its reset values stands in u as in r. -/
abbrev State.volatileAs (u r : State) : Prop :=
  u.fe = r.fe ∧ u.eng = r.eng ∧ u.pas = r.pas ∧ u.led = r.led ∧ u.sv = r.sv ∧ u.keep = r.keep ∧ u.trac = r.trac ∧ u.kin =
    r.kin ∧ u.host = r.host ∧ u.hec = r.hec ∧ u.cvu = r.cvu ∧ u.hasp = r.hasp ∧ u.sdp = r.sdp ∧ u.net = r.net ∧ u.tb = r.tb ∧
    u.pwr = r.pwr ∧ u.intake = r.intake ∧ u.test = r.test ∧ u.past = r.past

/-- R46: every merged state is the merge of the proposals as they stand. -/
abbrev State.merges (s : State) : Prop := ∀ n : Fin 4, s.keep.merged[n].state = s.mergedState n

/-- R275: the votes of a supervisor are those that its proposals call for. -/
abbrev State.voted (s : State) (v : Fin 2) : Prop := ∀ n : Fin 4, s.sv[v].votes[n] = s.vote v n

/-- R79 to R81, R247: the fault line of channel c stands, with its provisional cause and its suspect time, FaultCause not yet written;
the permits of the sections that its head concerns are low. -/
abbrev State.faultStands (u : State) (c : Fin 16) (cause : Nat) (suspect : Time) : Prop :=
  u.fe.chans[c].phase = .faulted ∧ u.fe.chans[c].fault.any (fun f => f.prov == cause && f.suspect == suspect) = true ∧
    u.fe.chans[c].faultCause = 0 ∧ u.keep.cumValid[headOf c] = none ∧
    ∀ n : Fin 4, u.headConcerns (headOf c) n = true → u.keep.permits[n].latch = false

/-! ### Requests of the dictionary protocol -/

/-- R291, R294 to R300: the request q stands at its source as the next to be served, its form is in order, and it belongs to session i:
with the CMAC that the session asks for, no repeat, its REQID due. -/
abbrev State.stands (s : State) (src : SdpSrc) (i : Fin 5) (q : SdpReq) : Prop :=
  s.deServes = true ∧ s.payloadOf src = some q.whole ∧ s.inTurn src = true ∧ parseSdp q.whole = q ∧
    formAbort q.whole q (onNet src) = none ∧ q.op ≠ opOpen ∧ s.sessionOf src q = some i ∧
    authOk s.sdp.sessions[i] q = true ∧ isRepeat s.sdp.sessions[i] q = false ∧ reqIdOk s.sdp.sessions[i] q = true

/-- R305, R306: no test stands in the way of a request, and where it needs the supervisors one of them evaluates. -/
abbrev State.unhindered (s : State) (i : Fin 5) (q : SdpReq) : Prop :=
  (s.touched i q).bind s.underTest = none ∧
    (s.requestNeeds i q = true → s.pwr.state ≠ .hibernate ∧ (s.evaluates 0 = true ∨ s.evaluates 1 = true))

/-- R298: a request of session i has been taken from its source at a time. -/
abbrev State.taken (s : State) (t : Time) (src : SdpSrc) (i : Fin 5) (q : SdpReq) : State :=
  ((s.at t).takeRequest src).onSession i fun x =>
    { x with
      reqId := some q.reqId
      lastReq := q.whole
      lastResp := []
      before := some (x.reqId, x.lastReq, x.lastResp)
      lastAt := (s.at t).clk.now }

/-- R36, R306: the state in which a request is judged and executed: where it needs the supervisors, after their evaluation step, or,
of a commit of immediate effect, between the causes and the outcomes of that step. -/
abbrev State.staged (s : State) (t : Time) (src : SdpSrc) (i : Fin 5) (q : SdpReq) : State :=
  if s.requestNeeds i q then
    if s.commitsNow i q then (s.taken t src i q).evalFronts.1 else (s.taken t src i q).evalBoth
  else s.taken t src i q

/-- R302 to R309: the request q of session i writes the entry that a row describes, outside a transaction, and nothing stands
against it: its value is allowed to the session, and the supervisors that it needs accept it. -/
abbrev State.granted (s : State) (t : Time) (src : SdpSrc) (i : Fin 5) (q : SdpReq) (r : DRow) : Prop :=
  s.stands src i q ∧ s.unhindered i q ∧ q.op = opWrite ∧ q.flags.testBit 0 = false ∧ q.key ≠ keyResponse ∧
    dictRow q.key = some r ∧ checkValue s.sdp.sessions[i].level q.key r q.data = none ∧
    (if needsSv q.key then (s.staged t src i q).bothJudge fun v => (s.staged t src i q).judgeWrite v i q.key r q.data
      else (s.staged t src i q).judgeWrite 0 i q.key r q.data) = none

/-- R298, R300: the response of session i to the request q stands as its last one, and at the mailbox where it came from there. -/
abbrev State.replied (u : State) (src : SdpSrc) (i : Fin 5) (q : SdpReq) (res : Except Abort (List Byte)) (last : Bool) : Prop :=
  u.sdp.sessions[i].lastResp = packed q res last q.key q.sess u.sdp.sessions[i].respKey ∧
    (src = .mailbox → u.host.mailbox.staged = some u.sdp.sessions[i].lastResp)

/-! ### Frames -/

/-- The areas of the state: what frames speak of (no rule names them; each collects what one rule's family keeps). -/
inductive Area where
  /-- The queue of commands. -/
  | pending
  /-- The phase of the part (R449, R450). -/
  | phase
  /-- Elapsed time and the time base (R50). -/
  | clk
  /-- What is fixed in the part (R326, R328). -/
  | part
  /-- Supply, backplane and slot pins (R449, R465, R467). -/
  | pins
  /-- The stored configuration (R12). -/
  | stored
  /-- What is stored for the channels. -/
  | nvChans
  /-- What is stored for the heads. -/
  | nvHeads
  /-- What is stored for the sections. -/
  | nvSecs
  /-- What is stored for the connections. -/
  | nvConns
  /-- The counters of the Ledger (R178). -/
  | ledgerCounts
  /-- The checkpoint slots (R245). -/
  | ckpts
  /-- The waiting sets (R316). -/
  | waitingSets
  /-- The transaction journal (R318). -/
  | journal
  /-- The firmware banks (R460). -/
  | images
  /-- The key slots (R301). -/
  | keys
  /-- The pitch that waits (R241). -/
  | pitch
  /-- The recorder memory (R415). -/
  | recMem
  /-- Spare rows and repairs (R445). -/
  | repair
  /-- The counts of operating time (R417). -/
  | opsec
  /-- The other stored counters. -/
  | tallies
  /-- The frame counter (R64). -/
  | frames
  /-- The references (R57, R59). -/
  | refs
  /-- The wheel channels (R60). -/
  | chans
  /-- The warnings of the channels (R84). -/
  | warns
  /-- Scanning (R98). -/
  | scans
  /-- The resistive channels (R87). -/
  | tch
  /-- The blanking sources (R74). -/
  | blank
  /-- The AMON outputs (R90). -/
  | amon
  /-- The detectors (R119). -/
  | dets
  /-- The slow statistics of the detectors (R125). -/
  | stats
  /-- The proof tests (R145). -/
  | proofs
  /-- The signal engines and their checkpoints (R139). -/
  | wse
  /-- Which engine serves which head (R141). -/
  | crossbar
  /-- When baselines were stored last (R124). -/
  | engStore
  /-- Presence events on their way (R127). -/
  | engOut
  /-- The passage unit (R154). -/
  | passages
  /-- The Ledger (R163). -/
  | ledger
  /-- Both supervisors (R44). -/
  | supervisors
  /-- The merged Verdicts (R46). -/
  | merged
  /-- The Verdict words and their shadow (R51). -/
  | words
  /-- The permit latches (R53). -/
  | permits
  /-- FDROP and FHEAD (R277). -/
  | drops
  /-- Degraded running (R58, R195). -/
  | degraded
  /-- The Tumbler (R187). -/
  | tumbler
  /-- Since when a head counts without a gap (R247). -/
  | cumValid
  /-- The checkpoint under way (R246). -/
  | ckptRun
  /-- Braking, attestation bars, link breaks, the neighbour view. -/
  | keeperRest
  /-- The traction status (R280). -/
  | traction
  /-- The kinematic blocks (R287). -/
  | kin
  /-- SK_TIME (R272). -/
  | timeLatch
  /-- The mailbox (R290). -/
  | mailbox
  /-- Host event pulses on their way (R392). -/
  | pulses
  /-- The host event controller (R392). -/
  | hec
  /-- The check-value units (R409). -/
  | cvu
  /-- The Hasp layer (R214). -/
  | hasp
  /-- The dictionary sessions (R297). -/
  | sessions
  /-- The open transaction (R317). -/
  | txn
  /-- Requests that wait for the supervisors (R306). -/
  | requests
  /-- The working configuration (R309). -/
  | work
  /-- The dictionary engines and the position (R45, R321). -/
  | dictRest
  /-- The four ports (R344). -/
  | ports
  /-- Switch and redundancy (R349, R355). -/
  | switch
  /-- The state of the time base (R361). -/
  | timeBase
  /-- The power manager (R369). -/
  | power
  /-- Events on their way to the recorder (R416). -/
  | offered
  /-- The recorder intake (R420). -/
  | intake
  /-- The self-test coordinator (R435). -/
  | selfTest
  /-- The count of free values drawn. -/
  | freeCount
  /-- The snapshots telegrams are assembled from (R214). -/
  | past
  deriving DecidableEq, Repr

/-- An area of s holds what it holds in r. -/
def Area.same (a : Area) (r s : State) : Prop := match a with
  | .pending => s.pending = r.pending
  | .phase => s.phase = r.phase
  | .clk => s.clk = r.clk
  | .part => s.part = r.part
  | .pins => s.pins = r.pins
  | .stored => s.nv.cfg = r.nv.cfg
  | .nvChans => s.nv.chans = r.nv.chans
  | .nvHeads => s.nv.heads = r.nv.heads
  | .nvSecs => s.nv.secs = r.nv.secs
  | .nvConns => s.nv.conns = r.nv.conns
  | .ledgerCounts => s.nv.ledger = r.nv.ledger
  | .ckpts =>
    (s.nv.ckpts, s.nv.ckSeq, s.nv.ckTime, s.nv.ckWrites, s.nv.ckErrors) = (r.nv.ckpts, r.nv.ckSeq, r.nv.ckTime,
      r.nv.ckWrites, r.nv.ckErrors)
  | .waitingSets => (s.nv.waiting, s.nv.nextSet) = (r.nv.waiting, r.nv.nextSet)
  | .journal => s.nv.journal = r.nv.journal
  | .images => s.nv.images = r.nv.images
  | .keys => s.nv.keys = r.nv.keys
  | .pitch => (s.nv.pitch, s.nv.pitchRes) = (r.nv.pitch, r.nv.pitchRes)
  | .recMem => s.nv.mem = r.nv.mem
  | .repair => s.nv.repair = r.nv.repair
  | .opsec =>
    (s.nv.opsecNs, s.nv.opsecSaved, s.nv.pcyc, s.nv.degradedNs, s.nv.stateNs) = (r.nv.opsecNs, r.nv.opsecSaved, r.nv.pcyc,
      r.nv.degradedNs, r.nv.stateNs)
  | .tallies =>
    (s.nv.refusedRaises, s.nv.assembly, s.nv.wakes, s.nv.sleepsAborted, s.nv.svEcc, s.nv.svLock, s.nv.staleCount) =
      (r.nv.refusedRaises, r.nv.assembly, r.nv.wakes, r.nv.sleepsAborted, r.nv.svEcc, r.nv.svLock, r.nv.staleCount)
  | .frames => (s.fe.frame, s.fe.frameAt) = (r.fe.frame, r.fe.frameAt)
  | .refs => s.fe.refsLost = r.fe.refsLost
  | .chans => s.fe.chans = r.fe.chans
  | .warns => s.fe.warns = r.fe.warns
  | .scans => s.fe.scans = r.fe.scans
  | .tch => s.fe.tch = r.fe.tch
  | .blank => s.fe.blank = r.fe.blank
  | .amon => s.fe.amon = r.fe.amon
  | .dets => s.eng.dets = r.eng.dets
  | .stats => s.eng.stats = r.eng.stats
  | .proofs => s.eng.proofs = r.eng.proofs
  | .wse => s.eng.wse = r.eng.wse
  | .crossbar =>
    (s.eng.assigned, s.eng.takeover, s.eng.declared, s.eng.agreed) = (r.eng.assigned, r.eng.takeover, r.eng.declared,
      r.eng.agreed)
  | .engStore => s.eng.storeAt = r.eng.storeAt
  | .engOut => s.eng.out = r.eng.out
  | .passages => s.pas = r.pas
  | .ledger => s.led = r.led
  | .supervisors => s.sv = r.sv
  | .merged => s.keep.merged = r.keep.merged
  | .words => (s.keep.holding, s.keep.waiting, s.keep.shadow) = (r.keep.holding, r.keep.waiting, r.keep.shadow)
  | .permits => s.keep.permits = r.keep.permits
  | .drops =>
    (s.keep.fdrop, s.keep.fhead, s.keep.fdropAt, s.keep.fheadAt) = (r.keep.fdrop, r.keep.fhead, r.keep.fdropAt,
      r.keep.fheadAt)
  | .degraded =>
    (s.keep.degraded, s.keep.degradedAt, s.keep.expired, s.keep.failedAt) = (r.keep.degraded, r.keep.degradedAt,
      r.keep.expired, r.keep.failedAt)
  | .tumbler => s.keep.tumbler = r.keep.tumbler
  | .cumValid => (s.keep.cumValid, s.keep.cumLog) = (r.keep.cumValid, r.keep.cumLog)
  | .ckptRun => (s.keep.ckBusy, s.keep.ckBal) = (r.keep.ckBusy, r.keep.ckBal)
  | .keeperRest =>
    (s.keep.braking, s.keep.farewell, s.keep.barred, s.keep.barredLog, s.keep.breaks, s.keep.neighbour) = (r.keep.braking,
      r.keep.farewell, r.keep.barred, r.keep.barredLog, r.keep.breaks, r.keep.neighbour)
  | .traction => s.trac = r.trac
  | .kin => s.kin = r.kin
  | .timeLatch => (s.host.timeLo, s.host.timeHi) = (r.host.timeLo, r.host.timeHi)
  | .mailbox => s.host.mailbox = r.host.mailbox
  | .pulses => s.hec.inflight = r.hec.inflight
  | .hec =>
    (s.hec.target, s.hec.vbase, s.hec.slots, s.hec.pend, s.hec.goneCnt, s.hec.lostClr, s.hec.offer, s.hec.held, s.hec.setAt,
      s.hec.goneAt, s.hec.lostAt, s.hec.prev, s.hec.arbAt, s.hec.levels) = (r.hec.target, r.hec.vbase, r.hec.slots,
      r.hec.pend, r.hec.goneCnt, r.hec.lostClr, r.hec.offer, r.hec.held, r.hec.setAt, r.hec.goneAt, r.hec.lostAt,
      r.hec.prev, r.hec.arbAt, r.hec.levels)
  | .cvu => s.cvu = r.cvu
  | .hasp => s.hasp = r.hasp
  | .sessions => s.sdp.sessions = r.sdp.sessions
  | .txn => s.sdp.txn = r.sdp.txn
  | .requests => s.sdp.waiting = r.sdp.waiting
  | .work => s.sdp.work = r.sdp.work
  | .dictRest =>
    (s.sdp.eccBad, s.sdp.deOut, s.sdp.deFails, s.sdp.position, s.sdp.posState, s.sdp.emcyCount, s.sdp.wantedAt,
      s.sdp.random, s.sdp.jrnOpen, s.sdp.jrnReply) = (r.sdp.eccBad, r.sdp.deOut, r.sdp.deFails, r.sdp.position,
      r.sdp.posState, r.sdp.emcyCount, r.sdp.wantedAt, r.sdp.random, r.sdp.jrnOpen, r.sdp.jrnReply)
  | .ports => s.net.ports = r.net.ports
  | .switch =>
    (s.net.stopped, s.net.learnt, s.net.seqNr, s.net.trailers, s.net.seen, s.net.nodes, s.net.discards, s.net.wrongA,
      s.net.wrongB, s.net.delivered, s.net.sent, s.net.superAt) = (r.net.stopped, r.net.learnt, r.net.seqNr, r.net.trailers,
      r.net.seen, r.net.nodes, r.net.discards, r.net.wrongA, r.net.wrongB, r.net.delivered, r.net.sent, r.net.superAt)
  | .timeBase => s.tb = r.tb
  | .power => s.pwr = r.pwr
  | .offered => s.intake.offered = r.intake.offered
  | .intake =>
    (s.intake.queue, s.intake.writing, s.intake.buckets, s.intake.suppressed, s.intake.overflow, s.intake.lost,
      s.intake.discarded, s.intake.clearBy, s.intake.stopAt) = (r.intake.queue, r.intake.writing, r.intake.buckets,
      r.intake.suppressed, r.intake.overflow, r.intake.lost, r.intake.discarded, r.intake.clearBy, r.intake.stopAt)
  | .selfTest => s.test = r.test
  | .freeCount => s.freeCount = r.freeCount
  | .past => s.past = r.past

/-- What taking and answering a request of the dictionary changes (R291, R294, R298). -/
def answerAreas : List Area :=
  [.mailbox, .sessions, .requests, .dictRest, .ports, .switch, .offered]

/-- What a fault of a channel changes (R79, R143, R173). -/
def faultAreas : List Area :=
  [.nvChans, .nvHeads, .chans, .warns, .scans, .amon, .dets, .stats, .proofs, .passages, .ledger, .supervisors, .permits,
    .drops, .cumValid, .pulses, .offered]

/-- What an evaluation step changes (R48). -/
def evalAreas : List Area :=
  faultAreas.append [.nvSecs, .nvConns, .wse, .crossbar, .engOut, .merged, .words, .ckptRun, .keeperRest, .traction, .kin,
    .power, .selfTest, .freeCount]

/-- What the failure of a supervisor changes (R57). -/
def failAreas : List Area :=
  [.nvHeads, .nvSecs, .journal, .tallies, .ledger, .supervisors, .merged, .words, .permits, .drops, .degraded, .tumbler,
    .cumValid, .ckptRun, .keeperRest, .traction, .kin, .pulses, .dictRest, .power, .offered, .selfTest, .freeCount]

/-- What the removal sequence changes (R456). -/
def removalAreas : List Area :=
  evalAreas.append [.phase, .pins, .ckpts, .journal, .repair, .tallies, .hasp, .sessions, .txn, .requests, .dictRest,
    .ports, .switch]

/-- What a reset changes (R452): all but the pins and what survives. -/
def resetAreas : List Area :=
  answerAreas.append [.phase, .images, .recMem, .frames, .refs, .chans, .warns, .scans, .tch, .blank, .amon, .dets, .stats,
    .proofs, .wse, .crossbar, .engStore, .engOut, .passages, .ledger, .supervisors, .merged, .words, .permits, .drops,
    .degraded, .tumbler, .cumValid, .ckptRun, .keeperRest, .traction, .kin, .timeLatch, .pulses, .hec, .cvu, .hasp, .txn,
    .work, .timeBase, .power, .intake, .selfTest]

/-- What a request that may write any entry changes (R306). -/
def dictAreas : List Area :=
  evalAreas.append [.stored, .waitingSets, .journal, .images, .keys, .pitch, .tallies, .tch, .blank, .mailbox, .hasp,
    .sessions, .txn, .requests, .work, .dictRest, .ports, .switch, .timeBase]

/-- The areas a command may change, beside the clock, the counts of operating time that run with it and the snapshots of R214. -/
def ownAreas (c : Instr) : List Area := match c with
  | .powerGood _ => [.phase, .pins]
  | .resetRelease _ _ _ => resetAreas.append [.pins, .pitch]
  | .supervisorsInService _ _ => resetAreas.append [.pins, .nvHeads, .nvSecs, .ckpts, .pitch, .repair, .freeCount]
  | .trialStartFailure _ => resetAreas.append [.pins, .pitch]
  | .removalWarning _ => removalAreas
  | .supplyLoss _ => removalAreas
  | .skrstReq _ => removalAreas
  | .immediateReset _ => resetAreas.append [.ckpts, .journal]
  | .railOutOfRange _ _ => resetAreas.append [.pins, .ckpts, .journal]
  | .feedDisconnect _ _ => [.pins, .warns, .offered]
  | .feedReconnect _ _ => [.pins, .warns, .offered]
  | .feedOutOfRangeWarning _ _ => [.warns, .offered]
  | .opsecSave _ => []
  | .evaluationStep _ _ => evalAreas
  | .deferredSetApply _ =>
    removalAreas.append [.stored, .waitingSets, .images, .recMem, .tch, .blank, .work, .timeBase, .intake]
  | .verdictShadowLoad _ _ => [.words]
  | .deadboltDrop _ _ _ => [.permits, .drops, .offered]
  | .permitRise _ _ => [.permits]
  | .supervisorFailure _ _ _ => failAreas
  | .supervisorClockFault _ _ => failAreas
  | .stepOverrun _ _ => failAreas
  | .degradedRunEntry _ =>
    evalAreas.append [.stored, .journal, .tch, .blank, .degraded, .tumbler, .mailbox, .hasp, .sessions, .work, .dictRest,
      .ports, .switch, .timeBase]
  | .degradedClearExpiry _ => [.degraded, .offered]
  | .referenceSwitchover _ => [.refs, .chans, .scans, .amon, .dets, .proofs, .pulses, .offered]
  | .bothReferencesLost _ =>
    [.nvChans, .nvHeads, .refs, .chans, .scans, .amon, .stats, .proofs, .passages, .ledger, .supervisors, .permits, .drops,
      .cumValid, .pulses, .offered]
  | .frameBoundary _ => faultAreas.append [.frames]
  | .settlingMaskEnd _ _ => faultAreas
  | .fastSample _ _ _ => faultAreas.append [.wse, .engOut, .freeCount]
  | .presenceEvent _ _ =>
    [.nvHeads, .ledgerCounts, .engOut, .passages, .ledger, .supervisors, .cumValid, .kin, .pulses, .offered]
  | .loopMonitorEval _ _ _ _ => faultAreas
  | .excCurrentEval _ _ _ _ => faultAreas
  | .commonModeEval _ _ _ _ => faultAreas
  | .burnoutEval _ _ _ => faultAreas
  | .faultCauseFinal _ _ => [.chans, .offered]
  | .reconnectQuietExpiry _ _ _ => [.chans, .amon]
  | .calibrationStart _ _ _ => [.chans, .amon]
  | .calibrationDone _ _ => faultAreas.append [.engOut, .freeCount]
  | .channelWarning _ _ _ => [.warns, .offered]
  | .warningHoldExpiry _ _ _ => [.warns]
  | .tchReading _ _ _ _ _ => [.warns, .tch, .offered, .freeCount]
  | .blankStuck _ _ => [.warns, .blank, .offered]
  | .blankSourceRestore _ _ => [.warns, .blank]
  | .scanDue _ _ => [.scans]
  | .scanOverdue _ _ => [.warns, .offered]
  | .scanPauseStart _ _ => [.chans, .scans, .amon, .dets]
  | .scanComplete _ _ => [.warns, .scans, .freeCount]
  | .noiseBlock _ _ =>
    [.nvChans, .nvHeads, .chans, .warns, .scans, .amon, .stats, .proofs, .passages, .ledger, .supervisors, .permits, .drops,
      .cumValid, .pulses, .offered]
  | .baselineStore _ => [.nvChans, .stats, .engStore]
  | .driftEvaluation _ _ =>
    [.nvChans, .nvHeads, .chans, .warns, .scans, .amon, .stats, .proofs, .passages, .ledger, .supervisors, .permits, .drops,
      .cumValid, .pulses, .offered, .freeCount]
  | .kappaFit _ _ => [.nvChans, .warns, .stats, .offered, .freeCount]
  | .residualPresence _ _ => [.warns, .stats, .offered]
  | .engineCheckpoint _ _ _ => [.amon, .dets, .wse, .crossbar, .offered]
  | .engineFailure _ _ _ => [.amon, .dets, .wse, .crossbar, .offered]
  | .takeoverFirstDecision _ _ => faultAreas.append [.crossbar, .engOut, .freeCount]
  | .proofTestDue _ _ => [.proofs]
  | .proofTestStart _ _ => [.proofs]
  | .proofTestEnd _ _ =>
    [.nvChans, .nvHeads, .chans, .warns, .scans, .amon, .stats, .proofs, .passages, .ledger, .supervisors, .permits, .drops,
      .cumValid, .pulses, .offered]
  | .proofTestRetry _ _ => [.proofs]
  | .proofTestOverdue _ _ => [.warns, .offered]
  | .ledgerStall _ _ => [.supervisors]
  | .ledgerScrub _ _ _ _ => failAreas.append [.ledgerCounts, .passages]
  | .checkpointDone _ _ => [.ckpts, .repair, .ledger, .ckptRun, .pulses, .offered]
  | .tumblerCompare _ => [.tumbler]
  | .tumblerToleranceExpiry _ => [.nvSecs, .supervisors, .tumbler, .offered]
  | .tumblerRederiveDone _ => [.nvSecs, .supervisors, .tumbler, .ckptRun, .pulses, .offered]
  | .clearTimerExpiry _ _ _ => evalAreas
  | .disturbedHoldExpiry _ _ _ _ => evalAreas
  | .bemfAlarm _ _ _ => evalAreas
  | .tractionStage _ _ _ _ => [.traction]
  | .tractionCommit _ _ _ => [.traction, .power, .offered]
  | .tractionStale _ _ => [.tallies, .traction, .offered]
  | .kinExpiry _ _ => [.kin, .pulses]
  | .skTimeRead _ => [.timeLatch]
  | .deadboltClear _ _ => [.drops]
  | .mailboxSend _ => [.mailbox, .power]
  | .mailboxCancel _ => [.mailbox, .sessions, .requests, .dictRest]
  | .mailboxResponse _ => [.mailbox]
  | .registerWrite _ _ _ _ =>
    [.drops, .traction, .mailbox, .pulses, .hec, .cvu, .sessions, .requests, .dictRest, .power, .offered]
  | .hecSourcePending _ _ => [.pulses, .hec]
  | .hecAccept _ _ => [.pulses, .hec]
  | .hecFirstAccess _ _ => [.pulses, .hec]
  | .hecEoi _ _ _ => [.pulses, .hec, .power]
  | .hecPendClear _ _ _ _ => [.pulses, .hec, .power]
  | .hecTargetWrite _ _ _ => [.pulses, .hec, .power]
  | .hecVbaseWrite _ _ _ => [.pulses, .hec, .power]
  | .clrCounts _ => [.pulses, .hec, .power]
  | .coreReset _ _ => [.pulses, .hec]
  | .cvuCtrlWrite _ _ _ => [.cvu]
  | .start _ _ => [.cvu]
  | .finish _ _ => [.pulses, .cvu]
  | .clrRej _ _ => [.cvu]
  | .cvuData _ _ _ _ => [.cvu]
  | .cvuValWrite _ _ _ => [.cvu]
  | .haspGateClose _ _ => [.ports]
  | .haspSend _ _ => [.tallies, .supervisors, .pulses, .hasp, .ports, .switch, .offered]
  | .haspReceive _ _ _ =>
    [.nvSecs, .nvConns, .supervisors, .keeperRest, .kin, .pulses, .hasp, .ports, .switch, .power, .offered, .selfTest,
      .freeCount]
  | .connectionTimeout _ _ => [.nvConns, .supervisors, .keeperRest, .pulses, .hasp, .power, .offered]
  | .laneTimeout _ _ _ => [.nvConns, .hasp, .offered]
  | .mirrorGapTimeout _ _ => [.supervisors, .offered]
  | .attestTimeout _ _ => evalAreas
  | .attestRetry _ _ => evalAreas
  | .attestHeldClear _ _ => evalAreas
  | .selfAttestation _ _ => evalAreas
  | .pitchCommit _ _ => dictAreas
  | .pitchTime _ =>
    removalAreas.append [.stored, .waitingSets, .images, .pitch, .recMem, .tch, .blank, .work, .timeBase, .intake]
  | .strike _ _ => dictAreas
  | .sweepRequest _ _ => dictAreas
  | .directClear _ _ => dictAreas
  | .rereference _ _ => dictAreas
  | .bemfRelease _ _ => dictAreas
  | .keySlotLoad _ _ => dictAreas
  | .noEntryRelease _ _ => dictAreas
  | .scanNow _ _ => dictAreas
  | .proofNow _ _ => dictAreas
  | .releaseOverride _ _ => dictAreas
  | .sdpOpen _ _ => answerAreas
  | .sdpClose _ _ => answerAreas.append [.images, .txn]
  | .sdpRead _ _ => answerAreas.append [.freeCount]
  | .sdpWrite _ _ => dictAreas
  | .readInit _ _ => answerAreas.append [.freeCount]
  | .readSeg _ _ => answerAreas
  | .writeInit _ _ => answerAreas.append [.waitingSets, .images]
  | .writeSeg _ _ => dictAreas
  | .xferAbort _ _ => answerAreas.append [.images]
  | .txnBegin _ _ => answerAreas.append [.journal, .txn]
  | .txnEnd _ _ _ => dictAreas
  | .txnDiscard _ _ => answerAreas.append [.txn]
  | .unknownOp _ _ => answerAreas
  | .challenge _ _ => answerAreas.append [.freeCount]
  | .response _ _ => answerAreas.append [.tallies, .txn, .freeCount]
  | .sessionLevel _ _ => answerAreas.append [.txn]
  | .pendingCommit _ _ => dictAreas
  | .pendingDiscard _ _ => dictAreas
  | .waitingCancel _ _ => dictAreas
  | .rollback _ _ _ => dictAreas
  | .rerun _ _ _ => dictAreas
  | .recAdvance _ _ => answerAreas.append [.txn]
  | .validationTimeout _ => [.mailbox, .sessions, .requests, .ports, .switch, .offered]
  | .sessionIdleTimeout _ _ => [.images, .sessions, .txn]
  | .transferTimeout _ _ => [.images, .sessions]
  | .pendingTimeout _ _ => [.sessions]
  | .txnTimeout _ => [.txn]
  | .raiseBarExpiry _ _ => [.sessions]
  | .configWanted _ => [.dictRest, .offered]
  | .imageCheckDone _ _ _ _ => [.images]
  | .recorderEvent _ _ => [.dictRest, .ports, .switch, .offered, .intake]
  | .recordWritten _ _ _ => [.recMem, .repair, .sessions, .dictRest, .ports, .switch, .offered, .intake]
  | .tokenRefill _ _ => [.offered, .intake]
  | .suppressionRunEnd _ _ => [.offered, .intake]
  | .linkUp _ _ _ _ => [.ports, .timeBase, .offered]
  | .linkDown _ _ => [.pulses, .ports, .switch, .timeBase, .power, .offered]
  | .frameReceive _ _ _ => [.ports, .switch, .offered]
  | .addressAgeout _ => [.switch]
  | .nodeTableAgeout _ => [.switch]
  | .prpTrailerEnable _ => [.switch]
  | .supervisionFrame _ => [.ports, .switch, .offered]
  | .announce _ _ _ => [.pulses, .ports, .timeBase, .power, .offered]
  | .pdelayReq _ _ _ => [.pulses, .ports, .timeBase, .power, .offered]
  | .sync _ _ _ =>
    [.dets, .engOut, .passages, .ledger, .supervisors, .merged, .cumValid, .keeperRest, .kin, .pulses, .ports, .timeBase,
      .power, .offered, .freeCount]
  | .syncTimeout _ => [.pulses, .timeBase, .power, .offered]
  | .holdoverExpiry _ => [.pulses, .timeBase, .power, .offered]
  | .syncPpsEdge _ => [.pulses, .timeBase, .offered, .freeCount]
  | .syncPpsTimeout _ => [.pulses, .timeBase, .offered]
  | .syncPpsOutput _ => [.timeBase]
  | .tbClockLoss _ => [.pulses, .timeBase, .power, .offered]
  | .sleepExecute _ =>
    [.nvChans, .ckpts, .repair, .tallies, .chans, .scans, .amon, .dets, .proofs, .wse, .ledger, .supervisors, .permits,
      .drops, .ckptRun, .pulses, .hec, .hasp, .ports, .power, .offered]
  | .wakeTimer _ => [.power]
  | .wakeComplete _ _ => failAreas.append [.nvChans, .chans, .amon, .dets, .stats, .proofs, .engOut, .hec, .ports]
  | .hibernateHaspSend _ _ => [.tallies, .pulses, .hasp, .ports, .switch, .offered]
  | .isolationRequest _ _ _ _ => [.scans, .pulses, .power, .offered, .selfTest]
  | .isolationReady _ => [.chans, .amon, .selfTest]
  | .testDone _ _ _ => [.pulses, .offered, .selfTest]
  | .testDoneTimeout _ => [.pulses, .offered, .selfTest, .freeCount]
  | .isolationReturnDone _ =>
    [.nvChans, .nvHeads, .chans, .amon, .dets, .proofs, .engOut, .passages, .supervisors, .permits, .cumValid, .pulses,
      .offered, .selfTest, .freeCount]
  | .memoryScrub _ _ _ => failAreas
  | .comparatorTest _ _ _ => failAreas
  | .tumblerTest _ _ => [.supervisors, .tumbler, .offered]
  | .deadboltPathTest _ _ _ => [.permits, .drops, .offered]
  | .authKnownAnswer _ _ => [.offered, .selfTest]
  | .mramRefresh _ _ _ _ => [.recMem, .repair, .ledger, .supervisors, .dictRest, .ports, .switch, .offered, .intake, .freeCount]
  | .deFailure _ _ => [.images, .sessions, .txn, .dictRest, .offered, .freeCount]
  | .crystalLoss _ => [.power, .offered]
  | .rcLoss _ => [.power, .offered]
  | .storeEccError _ _ => [.dictRest, .offered]
  | .dieOvertemp _ => [.offered]
  | .blankingWindowEdge _ _ _ => [.blank]
  | .contactBounce _ => [.pins, .offered]
  | .cutThroughStart _ _ _ => [.ports]
  | .egressFrameEnd _ _ => [.ports, .switch]
  | .syncPpsPulseEnd _ => [.timeBase]

/-- Every area a command may change. -/
def writes (c : Instr) : List Area := .clk :: .opsec :: .past :: ownAreas c

/-- The frame of a command from s to u: every other area of u holds what it held in s. -/
def State.framed (c : Instr) (s u : State) : Prop := ∀ a : Area, a ∉ writes c → a.same s u

/-- A command completes in s: exec answers a next state, and P holds of it. -/
def Completes (c : Instr) (s : State) (P : State → Prop) : Prop := ∃ t, exec c s = .next t ∧ P t

end Sys2Proof.Machine
end

