-- ==== Sys2Proof/Certificates/Slice0/Obligations.lean ====
section
/-! DEFINITION. The statements for the provers: the block as a whole (reset, invariant, frames, the permits), eleven numbered
rules as the specification states them, and for every command where it completes and what it then has done. -/

open Sys2Proof Sys2Proof.Machine

/-! ### The machine as a whole -/

/-- For every command c, every rest l of the queue and every state: a step of the state with c in front of l is exec of c on the
state with the queue l. -/
def Obligations.StepTakesTheFrontCommand : Prop :=
  ∀ (c : Instr) (l : List Instr) (s : State),
      step { s with pending := c :: l } = exec c { s with pending := l }

/-- A step of a block with no command waiting answers the same state. That the block idles is the model's choice, named in log
entry 7; time moves only with commands. -/
def Obligations.IdleBlockKeepsItsState : Prop :=
  ∀ (s : State),
      s.pending = [] →
      step s = .next s

/-- After reset every register of the host window reads the value that the spec's tables give (SK_ID, which is per part, apart;
GATES as on a TY7-440): every Verdict word 0x0000_000D, SK_PERMIT GATES and PAR, NBR_NOENTRY 0xFFFF, every winding temperature
0x8000, REF_POINT of every kinematic block 0xF, WINDOW of both check-value units 4, and every other word of the window 0. The
mailbox's session is open at level 0 and every other session closed; the time base is free-running, no traction status is fresh,
every permit is low, and every section UNCONFIGURED. No command waits. -/
def Obligations.ResetLeavesTheSpecifiedValues : Prop :=
  (∀ n : Fin 4, State.reset.keep.shadow[n] = 0x0000000D ∧ State.reset.keep.permits[n].latch = false ∧
        State.reset.trac[n].fresh = false ∧
        State.reset.keep.merged[n].state = .unconfigured) ∧
      (∀ k : Fin 2048, k.val ≠ 0 → State.reset.readWindow (4 * k.val) =
        if 4 ≤ k.val ∧ k.val < 8 then 0x0000000D
        else if k.val = 16 then 0x8F000000
        else if k.val = 18 then 0x0000FFFF
        else if 20 ≤ k.val ∧ k.val < 24 then 0x00008000
        else if k.val = 64 ∨ k.val = 72 ∨ k.val = 80 ∨ k.val = 88 then 0x000F0000
        else if k.val = 1024 ∨ k.val = 1088 then 0x00000040
        else 0) ∧
      (∀ n : Fin 64, State.reset.hec.target[n] = 0 ∧ State.reset.hec.lostClr[n] = 0) ∧
      (∀ k : Fin 2, State.reset.cvu[k] = { window := 4 }) ∧
      (∀ i : Fin 5, State.reset.sdp.sessions[i].opened = (i == 0) ∧ State.reset.sdp.sessions[i].level = 0) ∧
      State.reset.tb.state = 0 ∧ State.reset.pending = []

/-- State.reset has its stored and working configuration and both copies of the Ledger in canonical form, one entry a key with
keys rising, and every Verdict word with odd parity. -/
def Obligations.ResetHoldsTheInvariant : Prop :=
  State.reset.Inv

/-- From every state that holds the invariant, a step that answers a next state leaves it holding: the stored and the working
configuration and both copies of the Ledger are canonical, and every Verdict word, in the shadow or held for it, has an odd
number of ones. -/
def Obligations.EveryStepKeepsTheInvariant : Prop :=
  ∀ (s u : State),
      s.Inv →
      step s = .next u →
      u.Inv

/-- Whatever command runs in whatever state: a permit that is low before it and high after it has risen by PERMIT_RISE of that
permit; its qualification had run for at least 8 µs, no input of the Deadbolt for it was active, and unless the part runs
degraded both supervisors voted for the rise. -/
def Obligations.OnlyPermitRiseRaisesAPermit : Prop :=
  ∀ (c : Instr) (n : Fin 4) (s u : State),
      exec c s = .next u →
      s.keep.permits[n].latch = false →
      u.keep.permits[n].latch = true →
      ∃ t a : Time, c = .permitRise t n ∧ s.keep.permits[n].qualAt = some a ∧ a + us 8 ≤ max s.clk.now t ∧ s.dropActive n = false ∧
        (s.keep.degraded = false → s.sv[0].votes[n] = .rise ∧ s.sv[1].votes[n] = .rise)

/-- For every command and every two states: where the command leads from the first to the second, every area of the state that
the command's own list does not name holds what it held, elapsed time, operating seconds and the snapshots of R214, which run
with time, apart. The lists name, for each of the 190 commands, the areas that its meaning may change. -/
def Obligations.CommandsKeepEveryOtherArea : Prop :=
  ∀ (c : Instr) (s u : State),
      exec c s = .next u →
      s.framed c u

/-- Every command in every state answers a next state, with the queue and the part as they were, elapsed time no earlier, and no
free value drawn twice. -/
def Obligations.EveryCommandAnswersANextState : Prop :=
  ∀ (c : Instr) (s : State),
      ∃ u, exec c s = .next u ∧ u.pending = s.pending ∧ u.part = s.part ∧ s.clk.now ≤ u.clk.now ∧ s.freeCount ≤ u.freeCount

/-- The commands of a traction stage leave the status of the other stages; those of a check-value unit the other unit;
KIN_EXPIRY the other sections' blocks; a write of a vector base the other bases; the end of a frame, the closing of a gate and a
link coming up the other ports; a lane's timeout the other connections of the Hasp layer; the timers of a session the other
sessions; a token refill the other classes; a load of a Verdict and the rise of a permit the other sections' words and permits.
-/
def Obligations.CommandsLeaveOtherElementsAlone : Prop :=
  (∀ (t : Time) (n : Fin 4) (d : Bool) (w : Word) (s : State),
      Completes (.tractionStage t n d w) s fun u =>
        ∀ m : Fin 4, m ≠ n → u.trac[m] = s.trac[m]) ∧
  (∀ (t : Time) (n : Fin 4) (w : Word) (s : State),
      Completes (.tractionCommit t n w) s fun u =>
        ∀ m : Fin 4, m ≠ n → u.trac[m] = s.trac[m]) ∧
  (∀ (t : Time) (n : Fin 4) (s : State),
      Completes (.tractionStale t n) s fun u =>
        ∀ m : Fin 4, m ≠ n → u.trac[m] = s.trac[m] ∧ u.nv.staleCount[m] = s.nv.staleCount[m]) ∧
  (∀ (t : Time) (k : Fin 2) (w : Word) (s : State),
      Completes (.cvuCtrlWrite t k w) s fun u =>
        ∀ j : Fin 2, j ≠ k → u.cvu[j] = s.cvu[j]) ∧
  (∀ (t : Time) (k : Fin 2) (s : State),
      Completes (.start t k) s fun u =>
        ∀ j : Fin 2, j ≠ k → u.cvu[j] = s.cvu[j]) ∧
  (∀ (t : Time) (k : Fin 2) (s : State),
      Completes (.finish t k) s fun u =>
        ∀ j : Fin 2, j ≠ k → u.cvu[j] = s.cvu[j]) ∧
  (∀ (t : Time) (k : Fin 2) (s : State),
      Completes (.clrRej t k) s fun u =>
        ∀ j : Fin 2, j ≠ k → u.cvu[j] = s.cvu[j]) ∧
  (∀ (t : Time) (k : Fin 2) (n : Nat) (w : Word) (s : State),
      Completes (.cvuData t k n w) s fun u =>
        ∀ j : Fin 2, j ≠ k → u.cvu[j] = s.cvu[j]) ∧
  (∀ (t : Time) (k : Fin 2) (w : Word) (s : State),
      Completes (.cvuValWrite t k w) s fun u =>
        ∀ j : Fin 2, j ≠ k → u.cvu[j] = s.cvu[j]) ∧
  (∀ (t : Time) (n : Fin 4) (s : State),
      Completes (.kinExpiry t n) s fun u =>
        ∀ m : Fin 4, m ≠ n → u.kin[m] = s.kin[m]) ∧
  (∀ (t : Time) (port : Fin 4) (s : State),
      Completes (.egressFrameEnd t port) s fun u =>
        ∀ p : Fin 4, p ≠ port → u.net.ports[p] = s.net.ports[p]) ∧
  (∀ (t : Time) (port : Fin 4) (s : State),
      Completes (.haspGateClose t port) s fun u =>
        ∀ p : Fin 4, p ≠ port → u.net.ports[p] = s.net.ports[p]) ∧
  (∀ (t : Time) (port : Fin 4) (c r : Bool) (s : State),
      Completes (.linkUp t port c r) s fun u =>
        ∀ p : Fin 4, p ≠ port → u.net.ports[p] = s.net.ports[p]) ∧
  (∀ (t : Time) (k : Fin 8) (l : Fin 2) (s : State),
      Completes (.laneTimeout t k l) s fun u =>
        ∀ j : Fin 8, j ≠ k → u.hasp.conns[j] = s.hasp.conns[j]) ∧
  (∀ (t : Time) (i : Fin 5) (s : State),
      Completes (.sessionIdleTimeout t i) s fun u =>
        ∀ j : Fin 5, j ≠ i → u.sdp.sessions[j] = s.sdp.sessions[j]) ∧
  (∀ (t : Time) (i : Fin 5) (s : State),
      Completes (.transferTimeout t i) s fun u =>
        ∀ j : Fin 5, j ≠ i → u.sdp.sessions[j] = s.sdp.sessions[j]) ∧
  (∀ (t : Time) (i : Fin 5) (s : State),
      Completes (.pendingTimeout t i) s fun u =>
        ∀ j : Fin 5, j ≠ i → u.sdp.sessions[j] = s.sdp.sessions[j]) ∧
  (∀ (t : Time) (i : Fin 5) (s : State),
      Completes (.raiseBarExpiry t i) s fun u =>
        ∀ j : Fin 5, j ≠ i → u.sdp.sessions[j] = s.sdp.sessions[j]) ∧
  (∀ (t : Time) (c : BitVec 8) (s : State),
      Completes (.tokenRefill t c) s fun u =>
        ∀ d : BitVec 8, d ≠ c → u.intake.bucket d = s.intake.bucket d) ∧
  (∀ (t : Time) (n : Fin 4) (s : State),
      Completes (.verdictShadowLoad t n) s fun u =>
        ∀ m : Fin 4, m ≠ n → u.keep.shadow[m] = s.keep.shadow[m] ∧ u.keep.holding[m] = s.keep.holding[m]) ∧
  (∀ (t : Time) (n : Fin 4) (s : State),
      Completes (.permitRise t n) s fun u =>
        ∀ m : Fin 4, m ≠ n → u.keep.permits[m] = s.keep.permits[m])

/-! ### Rules of the specification, as they are stated -/

/-- When a supervisor counts an entry, the balance of a configured section of which the entry's head is a leg rises by 1 for a
passage into the section and falls by 1 for one out of it, staying at 4,095 and at 0 where it would leave that range; the
balance of a section of which the head is no leg stays. -/
def Obligations.PassagesChangeTheBalance : Prop :=
  (∀ (v : Fin 2) (sec n : Fin 4) (slot : Fin 2048) (alone : Bool) (en : Entry) (s : State),
      s.led.entry 0 slot = some en →
      s.sv[v].props[sec].state ≠ .unconfigured →
      s.legOf sec en.head = some n →
      s.sense sec n = !en.dir →
      (s.countEntry v slot alone).sv[v].secs[sec].b = min 4095 (s.sv[v].secs[sec].b + 1) ∨ 4095 < s.sv[v].secs[sec].b) ∧
  (∀ (v : Fin 2) (sec n : Fin 4) (slot : Fin 2048) (alone : Bool) (en : Entry) (s : State),
      s.led.entry 0 slot = some en →
      s.sv[v].props[sec].state ≠ .unconfigured →
      s.legOf sec en.head = some n →
      s.sense sec n = en.dir →
      (s.countEntry v slot alone).sv[v].secs[sec].b = s.sv[v].secs[sec].b - 1) ∧
  (∀ (v : Fin 2) (sec : Fin 4) (slot : Fin 2048) (alone : Bool) (en : Entry) (s : State),
      s.led.entry 0 slot = some en →
      s.legOf sec en.head = none →
      (s.countEntry v slot alone).sv[v].secs[sec].b = s.sv[v].secs[sec].b)

/-- With both supervisors serving and no degraded run: a proposal of OCCUPIED, DISTURBED or RESTORING of either makes the merged
state at least as restrictive at once, at the supervisor's evaluation step, and a drop vote of either is an active input of the
Deadbolt that leaves the permit low; a section shows CLEAR only when both propose CLEAR, and a permit rises only when both vote
for rise. -/
def Obligations.OccupancyOneOfTwoClearanceTwoOfTwo : Prop :=
  (∀ (n : Fin 4) (v : Fin 2) (s : State),
      s.serving = [0, 1] →
      (s.sv[v].props[n].state = .occupied ∨ s.sv[v].props[n].state = .disturbed ∨ s.sv[v].props[n].state = .restoring) →
      (s.sv[v].props[n].state).rank ≤ (s.mergedState n).rank ∧ s.mergedState n ≠ .clear) ∧
  (∀ (n : Fin 4) (s : State),
      s.serving = [0, 1] →
      (s.mergedState n = .clear ↔ s.sv[0].props[n].state = .clear ∧ s.sv[1].props[n].state = .clear)) ∧
  (∀ (t : Time) (v : Fin 2) (s : State),
      s.evaluates v = true →
      Completes (.evaluationStep t v) s fun u =>
        u.merges) ∧
  (∀ (n : Fin 4) (v : Fin 2) (s : State),
      s.keep.degraded = false →
      s.sv[v].votes[n] ≠ .rise →
      s.dropActive n = true) ∧
  (∀ (t : Time) (n : Fin 4) (i : DropInput) (s : State),
      (i = .voteA ∨ i = .voteB) →
      Completes (.deadboltDrop t n i) s fun u =>
        u.keep.permits[n].latch = false) ∧
  (∀ (t : Time) (n : Fin 4) (s u : State),
      s.keep.degraded = false →
      exec (.permitRise t n) s = .next u →
      s.keep.permits[n].latch = false →
      u.keep.permits[n].latch = true →
      s.sv[0].votes[n] = .rise ∧ s.sv[1].votes[n] = .rise)

/-- The word of every merged Verdict has STATE, NOENTRY, DIR_VALID, DIR, BAL, CHG, LEG_BUSY, DEGRADED and BEMF_ALARM in their
bits, bit 30 zero and an odd number of ones; each Verdict reads its shadow register, writes to it change nothing, its reset word
is 0x0000_000D, and a word of all zeros or all ones fails parity. -/
def Obligations.VerdictWordsHaveTheirLayout : Prop :=
  (∀ (m : Merged) (d : Bool),
      parOk (m.word d) = true ∧ (m.word d).getLsbD 30 = false ∧ (m.word d).toNat % 8 = m.state.code ∧
        (m.word d).getLsbD 3 = m.noEntry ∧ (m.word d).getLsbD 4 = m.dirValid ∧ (m.word d).getLsbD 5 = m.dir ∧
        (m.word d).toNat / 2 ^ 6 % 4096 = m.bal % 4096 ∧ (m.word d).toNat / 2 ^ 18 % 64 = m.chg.toNat ∧
        (m.word d).toNat / 2 ^ 24 % 16 = m.legBusy.toNat ∧ (m.word d).getLsbD 28 = d ∧ (m.word d).getLsbD 29 = m.bemf) ∧
  (∀ (n : Fin 4) (s : State),
      s.readWindow (0x0010 + 4 * n.val) = s.keep.shadow[n] ∧ State.reset.keep.shadow[n] = 0x0000000D) ∧
  (∀ (t : Time) (off : BitVec 16) (w : Word) (s : State),
      0x0010 ≤ off.toNat →
      off.toNat < 0x0020 →
      Completes (.registerWrite t off 4 w) s fun u =>
        u = s.at t) ∧
  (parOk 0x00000000 = false ∧ parOk 0xFFFFFFFF = false)

/-- What the controller would offer to a target is a source that is pending and whose TARGET code names that target, and nothing
while one is in service there; a source is offered wherever some source is deliverable. The codes 0 and 5 to 7 name no target.
Whatever its target, a pulse source sets its pending flag and a level source shows its level, the retained one while the
controller is without power. -/
def Obligations.DeliverableSourcesAreOffered : Prop :=
  (∀ (t : Fin 4) (n : Fin 64) (s : State),
      s.hecBest t = some n →
      s.hecPending n.val = true ∧ (s.hec.target[n]).toNat = t.val + 1 ∧ s.hec.slots[t].busy = false) ∧
  (∀ (t : Fin 4) (n : Fin 64) (s : State),
      s.hecPending n.val = true →
      (s.hec.target[n]).toNat = t.val + 1 →
      s.hec.slots[t].busy = false →
      (s.hecBest t).any (fun m => decide (m ≤ n)) = true) ∧
  (∀ (t : Time) (src : Fin 64) (s : State),
      isPulse src.val = true →
      Completes (.hecSourcePending t src) s fun u =>
        u.hec.pend.getLsbD src.val = true) ∧
  (∀ (n : Fin 32) (s : State),
      isLevel n.val = true →
      (s.readWindow 0x0258).getLsbD n.val = if s.hecPowered then s.levelOf n.val else s.hec.levels.getLsbD n.val) ∧
  (∀ (n : Fin 32) (s : State),
      isLevel (n.val + 32) = true →
      (s.readWindow 0x025C).getLsbD n.val =
      if s.hecPowered then s.levelOf (n.val + 32) else s.hec.levels.getLsbD (n.val + 32))

/-- With the controller powered, once the writes held over HIBERNATE have been applied: a one written to the bit of a pulse
source in HEC_PEND clears its flag; where the hardware sets the same source in the same cycle the flag is 1 and the lost-clear
counter of the source increases by 1, up to its highest value. An occurrence that finds its flag 1 leaves flag and counter as
they are. -/
def Obligations.PulseFlagsClearByOnes : Prop :=
  (∀ (t : Time) (n : Fin 64) (w sets : Word) (r s : State),
      r = (s.at t).hecFlush.hecSample →
      r.hecPowered = true →
      isPulse n.val = true →
      w.getLsbD n.val = true →
      (sets ||| r.hec.setsNow false r.clk.now).getLsbD n.val = false →
      Completes (.hecPendClear t false w sets) s fun u =>
        u.hec.pend.getLsbD n.val = false ∧ u.hec.lostClr[n] = r.hec.lostClr[n]) ∧
  (∀ (t : Time) (n : Fin 64) (w sets : Word) (r s : State),
      r = (s.at t).hecFlush.hecSample →
      r.hecPowered = true →
      isPulse n.val = true →
      w.getLsbD n.val = true →
      (sets ||| r.hec.setsNow false r.clk.now).getLsbD n.val = true →
      Completes (.hecPendClear t false w sets) s fun u =>
        u.hec.pend.getLsbD n.val = true ∧ u.hec.lostClr[n] =
          (if r.hec.lostClr[n] = 0xFFFF then 0xFFFF else r.hec.lostClr[n] + 1)) ∧
  (∀ (t : Time) (src : Fin 64) (r s : State),
      r = (s.at t).hecFlush.hecSample →
      isPulse src.val = true →
      r.hec.pend.getLsbD src.val = true →
      Completes (.hecSourcePending t src) s fun u =>
        u.hec.pend = r.hec.pend ∧ u.hec.lostClr = r.hec.lostClr)

/-- A write of HEC_TARGETi gives source 8i + j bits 4j + 2 to 4j, for every source below 48, and changes no other source; the
register reads those codes back with bit 4j + 3 zero. After reset every code is 0. Code 1 to 4 names core 0 to 3; 0 and 5 to 7
name none. The fields of the sources from 48 up hold 0 after reset, no write changes them, and while they hold 0 they read 0. -/
def Obligations.TargetFieldsHaveTheirLayout : Prop :=
  (∀ (t : Time) (i : Fin 8) (w : Word) (r s : State),
      r = (s.at t).hecFlush.hecSample →
      r.hecPowered = true →
      Completes (.hecTargetWrite t i w) s fun u =>
        ∀ n : Fin 64, u.hec.target[n] =
          if n.val / 8 = i.val ∧ n.val < 48 then (w >>> (4 * (n.val % 8))).setWidth 3 else r.hec.target[n]) ∧
  (∀ (n : Fin 64) (s : State),
      (s.readWindow (0x0200 + 4 * (n.val / 8))).toNat / 2 ^ (4 * (n.val % 8)) % 16 = (s.hec.target[n]).toNat ∧
        State.reset.hec.target[n] = 0) ∧
  (∀ (code : BitVec 3) (t : Fin 4),
      targetIs code t = (decide (1 ≤ code.toNat ∧ code.toNat ≤ 4) && code.toNat - 1 == t.val))

/-- For each POLY the initial value, the xorout and the check value of the nine digits are those of the table; a reflected CRC
takes the bits of a byte from the least significant, shifting right with the reversed polynomial, a non-reflected one from the
most significant, shifting left with the polynomial within its width. -/
def Obligations.TheFourChecksAreR407s : Prop :=
  (crcInit 0 = 0xFFFFFFFF ∧ crcInit 1 = 0xFFFFFFFF ∧ crcInit 2 = 0xFFFF ∧ crcInit 3 = 0xFF ∧
      crcXorout 0 = 0xFFFFFFFF ∧ crcXorout 1 = 0xFFFFFFFF ∧ crcXorout 2 = 0 ∧ crcXorout 3 = 0xFF) ∧
  (crcOf 0 [0x31, 0x32, 0x33, 0x34, 0x35, 0x36, 0x37, 0x38, 0x39] = 0xCBF43926 ∧ crcOf 1 [0x31, 0x32, 0x33, 0x34, 0x35, 0x36, 0x37, 0x38, 0x39] = 0xE3069283 ∧
      crcOf 2 [0x31, 0x32, 0x33, 0x34, 0x35, 0x36, 0x37, 0x38, 0x39] = 0x29B1 ∧ crcOf 3 [0x31, 0x32, 0x33, 0x34, 0x35, 0x36, 0x37, 0x38, 0x39] = 0xDF) ∧
  (∀ (p : BitVec 2) (v : Word) (b : Byte),
      (p = 0 ∨ p = 1) →
      crcFold p v [b] = ([0, 1, 2, 3, 4, 5, 6, 7] : List Nat).foldl (fun (v : Word) i =>
        if v.getLsbD 0 != b.getLsbD i then (v >>> 1) ^^^ (BitVec.reverse (if p = 0 then (0x04C11DB7 : Word) else 0x1EDC6F41)) else v >>> 1) v) ∧
  (∀ (v : Word) (b : Byte),
      crcFold 2 v [b] = ([7, 6, 5, 4, 3, 2, 1, 0] : List Nat).foldl (fun (v : Word) i =>
        (if v.getLsbD 15 != b.getLsbD i then (v <<< 1) ^^^ 0x1021 else v <<< 1) &&& 0xFFFF) v) ∧
  (∀ (v : Word) (b : Byte),
      crcFold 3 v [b] = ([7, 6, 5, 4, 3, 2, 1, 0] : List Nat).foldl (fun (v : Word) i =>
        (if v.getLsbD 7 != b.getLsbD i then (v <<< 1) ^^^ 0x2F else v <<< 1) &&& 0xFF) v)

/-- Bits above the width of the check read 0 in VAL, RESULT and EXPECT, whatever was written; a write of VAL or EXPECT, a write
of data and FINISH leave none. Reading VAL and writing it back later, whatever was folded between, leaves VAL as it was read:
the same data then give the same VAL. -/
def Obligations.CheckRegistersKeepTheirWidth : Prop :=
  (∀ (k : Fin 2) (s : State),
      (let base := 0x1000 + 0x100 * k.val
      (s.readWindow (base + 0x08) &&& crcMask s.cvu[k].poly = s.readWindow (base + 0x08)) ∧
      (s.readWindow (base + 0x0C) &&& crcMask s.cvu[k].poly = s.readWindow (base + 0x0C)) ∧
      (s.readWindow (base + 0x1C) &&& crcMask s.cvu[k].poly = s.readWindow (base + 0x1C)))) ∧
  (∀ (t : Time) (k : Fin 2) (w : Word) (s : State),
      Completes (.cvuValWrite t k w) s fun u =>
        u.cvu[k].val = w &&& crcMask s.cvu[k].poly) ∧
  (∀ (t : Time) (k : Fin 2) (w : Word) (s : State),
      Completes (.registerWrite t (BitVec.ofNat 16 (0x101C + 0x100 * k.val)) 4 w) s fun u =>
        u.cvu[k].expect = w &&& crcMask s.cvu[k].poly) ∧
  (∀ (t : Time) (k : Fin 2) (s : State),
      Completes (.finish t k) s fun u =>
        u.cvu[k].result &&& crcMask s.cvu[k].poly = u.cvu[k].result ∧ u.cvu[k].val = s.cvu[k].val) ∧
  (∀ (t : Time) (k : Fin 2) (n : Nat) (d : Word) (s : State),
      Completes (.cvuData t k n d) s fun u =>
        u.cvu[k].val &&& crcMask s.cvu[k].poly = u.cvu[k].val) ∧
  (∀ (t : Time) (k : Fin 2) (w : Word) (s r : State),
      s.cvu[k].poly = r.cvu[k].poly →
      w = r.readWindow (0x1008 + 0x100 * k.val) →
      Completes (.cvuValWrite t k w) s fun u =>
        u.readWindow (0x1008 + 0x100 * k.val) = w)

/-- In check mode FINISH sets CRC_BAD where RESULT differs from EXPECT, ALIVE_BAD where alive is enabled, SYNC is 0 and the step
of the alive value lies outside 1 to WINDOW, a WINDOW of 0 acting as 1, and PASS where neither holds. On a pass with alive
enabled ALIVE_LAST takes ALIVE_RX and SYNC clears. On a failure CVU_REJ increases by 1, up to its highest value, but for a
CLR_REJ of the same cycle, and ALIVE_LAST and SYNC stay. -/
def Obligations.CheckModeJudgesTheBlock : Prop :=
  ∀ (t : Time) (k : Fin 2) (s : State),
      s.cvu[k].mode = true →
      Completes (.finish t k) s fun u =>
        u.cvu[k].crcBad = (u.cvu[k].result != s.readWindow (0x101C + 0x100 * k.val)) ∧
        u.cvu[k].aliveBad = (s.cvu[k].aliveEn && !s.cvu[k].sync &&
          !decide (1 ≤ (s.cvu[k].aliveRx - s.cvu[k].aliveLast).toNat ∧
            (s.cvu[k].aliveRx - s.cvu[k].aliveLast).toNat ≤ max 1 s.cvu[k].window.toNat)) ∧
        u.cvu[k].pass = (!u.cvu[k].crcBad && !u.cvu[k].aliveBad) ∧
        u.cvu[k].aliveLast = (if u.cvu[k].pass && s.cvu[k].aliveEn then s.cvu[k].aliveRx else s.cvu[k].aliveLast) ∧
        u.cvu[k].sync = (s.cvu[k].sync && !(u.cvu[k].pass && s.cvu[k].aliveEn)) ∧
        u.cvu[k].rej = (if u.cvu[k].pass || s.cvu[k].rej == 0xFFFFFFFF || s.cvu[k].clrAt == some u.clk.now then s.cvu[k].rej else s.cvu[k].rej + 1)

/-- When one row fails during the write of a record, no spare row is left and fewer than 64 rows are mapped out: one more is,
the capacity falls by 256, the record is written and 0x0005 goes to the recorder. With 64 rows mapped out no further row is: the
recorder stops. -/
def Obligations.RowsWithoutASpareAreMappedOut : Prop :=
  (∀ (t : Time) (row : BitVec 16) (q : Queued) (s : State),
      s.intake.writing = some q →
      s.intake.clearBy = none →
      s.nv.mem.stop = 0 →
      s.intake.queue = [] →
      s.intake.lost = none →
      (s.intake.buckets.all (fun b => !b.held) = true) →
      s.nv.repair.spares[0] = 0 →
      s.nv.mem.used + ((s.at t).recordBytes q).length + 28 ≤ s.nv.mem.capacity →
      s.nv.mem.mapped < 64 →
      Completes (.recordWritten t 1 row) s fun u =>
        u.nv.mem.mapped = s.nv.mem.mapped + 1 ∧ u.nv.mem.capacity = s.nv.mem.capacity - 256 ∧
        u.nv.mem.recs = s.nv.mem.recs ++ [(s.at t).recordBytes q] ∧ u.intake.writing.any (fun x => x.ev.code == 0x0005) = true) ∧
  (∀ (t : Time) (row : BitVec 16) (q : Queued) (s : State),
      s.intake.writing = some q →
      s.intake.clearBy = none →
      s.nv.mem.stop = 0 →
      s.intake.queue = [] →
      s.intake.lost = none →
      (s.intake.buckets.all (fun b => !b.held) = true) →
      s.nv.repair.spares[0] = 0 →
      s.nv.mem.used + ((s.at t).recordBytes q).length + 28 ≤ s.nv.mem.capacity →
      64 ≤ s.nv.mem.mapped →
      Completes (.recordWritten t 1 row) s fun u =>
        u.nv.mem.mapped = s.nv.mem.mapped ∧ u.nv.mem.stop = 2 ∧ u.nv.mem.capacity = s.nv.mem.capacity)

/-- In every state, RECORDER (source 24) is pending if and only if RecStopCause is not 0 or the Recorder Fault Latch holds at
least one entry; it is so after the end of every write. -/
def Obligations.TheRecorderSourceIsPending : Prop :=
  ∀ (s : State),
      (s.hecPending 24 = true ↔ s.nv.mem.stop ≠ 0 ∨ 1 ≤ s.nv.mem.latch.length)

/-! ### Where every command completes, and with what result -/

/-- POWER_GOOD takes a part that is held in reset, or whose removal sequence has run, to power good with its supply pins good,
unless PRESENT_N was high within the last 10 ms: then it changes nothing. RESET_RELEASE then starts it up: the time base reads
0, every permit is low, every Verdict word reads 0x0000000D, the slot readings give the position, and the stored configuration
stays. SUPERVISORS_IN_SERVICE brings a part that starts up into service with the trial over, where it makes no trial start or
its trial start fails none of its checks and takes at most 100 ms. TRIAL_START_FAILURE returns a trial start to the other bank,
with ImageState 4, and starts up again. -/
def Obligations.SupplyStartsAndReleasesThePart : Prop :=
  (∀ (t : Time) (s : State),
      (s.pins.highAt.any (fun a => decide (max s.clk.now t < a + ms 10)) = true) →
      Completes (.powerGood t) s fun u =>
        u = s.at t) ∧
  (∀ (t : Time) (s : State),
      (s.phase = .held ∨ s.phase = .removed) →
      (s.pins.highAt.all (fun a => decide (a + ms 10 ≤ max s.clk.now t)) = true) →
      Completes (.powerGood t) s fun u =>
        u.phase = .good ∧ u.pins.presentHigh = false ∧ u.pins.auxLow = false ∧ u.pins.railsBad = []) ∧
  (∀ (t : Time) (a b : BitVec 12) (s : State),
      s.phase = .good →
      Completes (.resetRelease t a b) s fun u =>
        u.phase = .booting ∧ u.tbNow = 0 ∧ (∀ n : Fin 4, u.keep.permits[n].latch = false ∧ u.keep.shadow[n] = 0x0000000D) ∧
        u.pins.slotA = a ∧ u.pins.slotB = b ∧ u.sdp.position = positionOf a b ∧ u.nv.cfg = s.nv.cfg) ∧
  (∀ (t : Time) (r : BootReport) (s : State),
      s.phase = .booting →
      (s.nv.images.trial = false ∨ ((s.at t).bootFails r = false ∧ max s.clk.now t ≤ s.pins.releaseAt + ms 100)) →
      Completes (.supervisorsInService t r) s fun u =>
        u.phase = .service ∧ u.nv.images.trial = false) ∧
  (∀ (t : Time) (s : State),
      s.phase = .booting →
      s.nv.images.trial = true →
      Completes (.trialStartFailure t) s fun u =>
        u.phase = .booting ∧ u.nv.images.active = 1 - s.nv.images.active ∧ u.nv.images.trial = false ∧ u.nv.images.state = 4)

/-- A removal warning, a loss of supply and a software reset each run the removal sequence of a part that is out of reset: every
permit falls, every session, the open transaction and the requests that wait go, OPSEC is saved and the cause of the farewells
is kept (1 for the warning and the software reset, 2 for the loss of supply). After the software reset the part is at power
good. An immediate reset of a part in service leaves it at power good, and a rail out of range holds it in reset; both leave all
that is volatile at its reset values and the stored configuration as it was. -/
def Obligations.SupplyWarningsEndService : Prop :=
  (∀ (t : Time) (s : State),
      (s.phase = .booting ∨ s.phase = .service) →
      Completes (.removalWarning t) s fun u =>
        u.phase = .removed ∧ u.pins.farewellCause = 1 ∧ (∀ n : Fin 4, u.keep.permits[n].latch = false) ∧
        u.sdp.sessions = State.reset.sdp.sessions ∧ u.sdp.txn = none ∧ u.sdp.waiting = [] ∧ u.nv.opsecSaved = u.nv.opsecNs / 1000000000) ∧
  (∀ (t : Time) (s : State),
      (s.phase = .booting ∨ s.phase = .service) →
      Completes (.supplyLoss t) s fun u =>
        u.phase = .removed ∧ u.pins.farewellCause = 2 ∧ (∀ n : Fin 4, u.keep.permits[n].latch = false) ∧
        u.sdp.sessions = State.reset.sdp.sessions ∧ u.sdp.txn = none ∧ u.sdp.waiting = [] ∧ u.nv.opsecSaved = u.nv.opsecNs / 1000000000) ∧
  (∀ (t : Time) (s : State),
      (s.phase = .booting ∨ s.phase = .service) →
      Completes (.skrstReq t) s fun u =>
        u.phase = .good ∧ u.pins.farewellCause = 1 ∧ (∀ n : Fin 4, u.keep.permits[n].latch = false) ∧
        u.sdp.sessions = State.reset.sdp.sessions ∧ u.sdp.txn = none ∧ u.sdp.waiting = [] ∧ u.nv.opsecSaved = u.nv.opsecNs / 1000000000) ∧
  (∀ (t : Time) (s : State),
      s.phase = .service →
      Completes (.immediateReset t) s fun u =>
        u.phase = .good ∧ u.volatileAs State.reset ∧ u.nv.cfg = s.nv.cfg) ∧
  (∀ (t : Time) (rail : Rail) (s : State),
      Completes (.railOutOfRange t rail) s fun u =>
        u.phase = .held ∧ rail ∈ u.pins.railsBad ∧ u.volatileAs State.reset ∧ u.nv.cfg = s.nv.cfg)

/-- A feed that is disconnected or comes back is shown so, and of a part out of reset each event of a feed, an out-of-range
warning of a connected one too, goes to the recorder. OPSEC is saved once 60 s have run since the last save. A contact bounce of
a part out of reset goes to the recorder. -/
def Obligations.SupplyEventsAreKept : Prop :=
  (∀ (t : Time) (f : Fin 2) (s : State),
      s.pins.feeds[f].connected = true →
      s.released = true →
      Completes (.feedDisconnect t f) s fun u =>
        u.pins.feeds[f].connected = false ∧
        (∃ e ∈ u.intake.offered, e.code = codeFeed ∧ e.payload = [BitVec.ofNat 8 f.val, 0])) ∧
  (∀ (t : Time) (f : Fin 2) (s : State),
      s.pins.feeds[f].connected = false →
      s.released = true →
      Completes (.feedReconnect t f) s fun u =>
        u.pins.feeds[f].connected = true ∧
        (∃ e ∈ u.intake.offered, e.code = codeFeed ∧ e.payload = [BitVec.ofNat 8 f.val, 1])) ∧
  (∀ (t : Time) (f : Fin 2) (s : State),
      s.pins.feeds[f].connected = true →
      s.released = true →
      Completes (.feedOutOfRangeWarning t f) s fun u =>
        
        ∃ e ∈ u.intake.offered, e.code = codeFeed ∧ e.payload = [BitVec.ofNat 8 f.val, 2]) ∧
  (∀ (t : Time) (s : State),
      s.released = true →
      (s.nv.opsecSaved + 60) * 1000000000 ≤ s.nv.opsecNs →
      Completes (.opsecSave t) s fun u =>
        u.nv.opsecSaved = u.nv.opsecNs / 1000000000) ∧
  (∀ (t : Time) (s : State),
      s.released = true →
      Completes (.contactBounce t) s fun u =>
        u.intake.offered = s.intake.offered ++
        [{ code := codeContactBounce, time := u.tbNow }])

/-- An evaluation step of a supervisor that evaluates, and the steps at which its clear timer, an event cause or the run of the
back-EMF witness has come to its end, leave every merged section state equal to the merge of the proposals, and that
supervisor's vote for every permit equal to the vote its proposals call for. -/
def Obligations.EvaluationStepsMergeAndVote : Prop :=
  (∀ (t : Time) (v : Fin 2) (s : State),
      s.evaluates v = true →
      Completes (.evaluationStep t v) s fun u =>
        u.merges ∧ u.voted v) ∧
  (∀ (t a : Time) (v : Fin 2) (sec : Fin 4) (s : State),
      s.evaluates v = true →
      s.sv[v].props[sec].clearAt = some a →
      a + ms (s.clearConfirmDelay sec) ≤ t →
      Completes (.clearTimerExpiry t v sec) s fun u =>
        u.merges ∧ u.voted v) ∧
  (∀ (t a : Time) (v : Fin 2) (sec : Fin 4) (cause : Nat) (s : State),
      s.evaluates v = true →
      kvGet cause s.sv[v].props[sec].causes = some a →
      a + ms (s.disturbedHold sec) ≤ t →
      Completes (.disturbedHoldExpiry t v sec cause) s fun u =>
        u.merges ∧ u.voted v) ∧
  (∀ (t a : Time) (v : Fin 2) (sec : Fin 4) (s : State),
      s.evaluates v = true →
      s.sv[v].props[sec].bemfAt = some a →
      a + ms (s.bemfTime sec) ≤ t →
      Completes (.bemfAlarm t v sec) s fun u =>
        u.merges ∧ u.voted v)

/-- The evaluation steps at which AttestTimeout of a request, AttestRetry of a refused section, the hold of a computed result or
ClearConfirmDelay of self-attestation has run out in a serving supervisor leave every merged section state equal to the merge of
the proposals. -/
def Obligations.RestorationTimersMerge : Prop :=
  (∀ (t : Time) (v : Fin 2) (sec : Fin 4) (s : State),
      (s.evaluates 0 = true ∨ s.evaluates 1 = true) →
      v ∈ s.serving →
      s.sv[v].rests[sec].state = 2 →
      s.sv[v].rests[sec].tR ≠ 0 →
      s.sv[v].rests[sec].reqAt + ms s.attestTimeout ≤ t →
      Completes (.attestTimeout t sec) s fun u =>
        u.merges) ∧
  (∀ (t : Time) (v : Fin 2) (sec : Fin 4) (s : State),
      (s.evaluates 0 = true ∨ s.evaluates 1 = true) →
      v ∈ s.serving →
      (s.at t).retryDue v sec = true →
      Completes (.attestRetry t sec) s fun u =>
        u.merges) ∧
  (∀ (t : Time) (v : Fin 2) (sec : Fin 4) (s : State),
      (s.evaluates 0 = true ∨ s.evaluates 1 = true) →
      v ∈ s.serving →
      s.sv[v].rests[sec].state = 3 →
      (s.at t).heldLong v sec = true →
      Completes (.attestHeldClear t sec) s fun u =>
        u.merges) ∧
  (∀ (t a : Time) (v : Fin 2) (sec : Fin 4) (s : State),
      (s.evaluates 0 = true ∨ s.evaluates 1 = true) →
      v ∈ s.serving →
      s.sv[v].props[sec].selfAt = some a →
      a + ms (s.clearConfirmDelay sec) ≤ t →
      Completes (.selfAttestation t sec) s fun u =>
        u.merges)

/-- Within an evaluation step: outside degraded run the clear timer, all clearance conditions standing and it having run
ClearConfirmDelay, makes the section CLEAR; event causes older than DisturbedHold are gone, but code 8 while the Tumbler's self-
test fails; a run of valid back-EMF readings above the threshold for BemfTime in a CLEAR section raises the witness and bars
attestation; a held result of balance 0 with every leg head quiet and its timing met makes the section CLEAR by route 2 outside
degraded run, any other balance OCCUPIED; self-attestation makes the section CLEAR by route 3 in every serving supervisor. -/
def Obligations.ProposalsFollowTheirTimers : Prop :=
  (∀ (v : Fin 2) (sec : Fin 4) (a : Time) (s : State),
      s.sv[v].props[sec].clearAt = some a →
      (s.clearConds v sec).all id = true →
      a + ms (s.clearConfirmDelay sec) ≤ s.clk.now →
      s.keep.degraded = false →
      (s.clearance v sec).sv[v].props[sec].state = .clear) ∧
  (∀ (v : Fin 2) (sec : Fin 4) (s : State),
      ∀ c ∈ ((s.expireCauses v sec).sv[v].props[sec]).causes,
        s.clk.now < c.2 + ms (s.disturbedHold sec) ∨ (c.1 = 8 ∧ s.keep.tumbler.failing = true)) ∧
  (∀ (v : Fin 2) (sec : Fin 4) (a : Time) (s : State),
      s.sv[v].props[sec].state = .clear →
      s.sv[v].props[sec].witness = false →
      s.witnessOn sec = true →
      s.bemfHigh sec = true →
      s.sv[v].props[sec].bemfAt = some a →
      a + ms (s.bemfTime sec) ≤ s.clk.now →
      (s.evalWitness v sec).sv[v].props[sec].witness = true ∧ (s.evalWitness v sec).keep.barred[sec] = true) ∧
  (∀ (v : Fin 2) (sec : Fin 4) (s : State),
      s.sv[v].props[sec].state = .restoring →
      s.sv[v].rests[sec].state = 3 →
      s.sv[v].secs[sec].b = 0 →
      ((s.legHeadsOf sec).all (fun h => s.quiet h) = true) →
      s.heldLong v sec = true →
      s.keep.degraded = false →
      (s.outcome v sec).sv[v].props[sec].state = .clear ∧ (s.outcome v sec).sv[v].props[sec].route = 2) ∧
  (∀ (v : Fin 2) (sec : Fin 4) (s : State),
      s.sv[v].props[sec].state = .restoring →
      s.sv[v].rests[sec].state = 3 →
      s.sv[v].secs[sec].b ≠ 0 →
      (s.outcome v sec).sv[v].props[sec].state = .occupied) ∧
  (∀ (v : Fin 2) (sec : Fin 4) (s : State),
      v ∈ s.serving →
      (s.selfApply sec).sv[v].props[sec].state = .clear ∧ (s.selfApply sec).sv[v].props[sec].route = 3)

/-- A shadow load takes the word of the section's holding register whole, and the holding register holds the next word where a
decision waited. An input of a permit that becomes active (either vote, the self-test, the fault line of a head that concerns
the section) clears its latch, and its qualification starts again from now or stands still while an input is active. A permit
whose qualification has run 8 µs and of which no input is active rises. A write of ones to SK_DEADBOLT clears those FDROP and
FHEAD bits and no others, but a bit that hardware has set at the same instant stays. -/
def Obligations.VerdictPortAndDeadboltAct : Prop :=
  (∀ (t : Time) (n : Fin 4) (w : Word) (s : State),
      s.keep.holding[n] = some w →
      Completes (.verdictShadowLoad t n) s fun u =>
        u.keep.shadow[n] = w ∧
        u.keep.holding[n] = (if s.keep.waiting[n] then some (s.keep.merged[n].word s.keep.degraded) else none) ∧
        ∀ m : Fin 4, m ≠ n → u.keep.shadow[m] = s.keep.shadow[m] ∧ u.keep.holding[m] = s.keep.holding[m]) ∧
  (∀ (t : Time) (n : Fin 4) (i : DropInput) (s : State),
      (∀ h, i = .faultLine h → s.headConcerns h n = true) →
      Completes (.deadboltDrop t n i) s fun u =>
        u.keep.permits[n].latch = false ∧
        u.keep.permits[n].qualAt = if u.dropActive n then none else some u.clk.now) ∧
  (∀ (t a : Time) (n : Fin 4) (s : State),
      s.keep.permits[n].qualAt = some a →
      a + us 8 ≤ t →
      s.dropActive n = false →
      Completes (.permitRise t n) s fun u =>
        u.keep.permits[n].latch = true ∧ u.keep.permits[n].qualAt = none ∧
        ∀ m : Fin 4, m ≠ n → u.keep.permits[m] = s.keep.permits[m]) ∧
  (∀ (t : Time) (w : Word) (s : State),
      Completes (.deadboltClear t w) s fun u =>
        (∀ i : Fin 4, u.keep.fdrop.getLsbD i.val =
          (s.keep.fdrop.getLsbD i.val && (!w.getLsbD i.val || s.keep.fdropAt[i] == some u.clk.now))) ∧
        ∀ i : Fin 8, u.keep.fhead.getLsbD i.val =
          (s.keep.fhead.getLsbD i.val && (!w.getLsbD (8 + i.val) || s.keep.fheadAt[i] == some u.clk.now)))

/-- A lockstep mismatch or an uncorrectable word, a clock fault and four consecutive step overruns of a supervisor that serves
leave it failed, with its cause and time, and every permit low; the overruns are counted. With one supervisor failed and the
other serving, degraded run begins, and the serving supervisor is the survivor. Where DegradedClearTime of sections has run out
in degraded run, that is kept for each of them and for no other, and each that had not run out before goes to the recorder. -/
def Obligations.SupervisorFaultsFailTheSupervisor : Prop :=
  (∀ (t : Time) (v : Fin 2) (c : SvFault) (s : State),
      s.sv[v].serves = true →
      Completes (.supervisorFailure t v c) s fun u =>
        u.sv[v].st = .failed ∧ u.sv[v].failCause = (match c with | .lockstep => 1 | .ecc => 2) ∧ u.sv[v].failTime = (s.at t).tbNow ∧
        ∀ n : Fin 4, u.keep.permits[n].latch = false) ∧
  (∀ (t : Time) (v : Fin 2) (s : State),
      s.sv[v].serves = true →
      Completes (.supervisorClockFault t v) s fun u =>
        u.sv[v].st = .failed ∧ u.sv[v].failCause = 1 ∧ u.sv[v].failTime = (s.at t).tbNow ∧
        ∀ n : Fin 4, u.keep.permits[n].latch = false) ∧
  (∀ (t : Time) (v : Fin 2) (s : State),
      s.sv[v].serves = true →
      Completes (.stepOverrun t v) s fun u =>
        u.sv[v].overruns = s.sv[v].overruns + 4 ∧
        u.sv[v].st = .failed ∧ u.sv[v].failCause = 1 ∧ u.sv[v].failTime = (s.at t).tbNow ∧
        ∀ n : Fin 4, u.keep.permits[n].latch = false) ∧
  (∀ (t : Time) (w : Fin 2) (s : State),
      s.serving = [w] →
      s.keep.degraded = false →
      s.phase = .service →
      Completes (.degradedRunEntry t) s fun u =>
        u.keep.degraded = true ∧ u.keep.degradedAt = some u.clk.now ∧ u.sv[w].st = .survivor) ∧
  (∀ (t : Time) (n : Fin 4) (s : State),
      s.keep.degraded = true →
      s.keep.expired.getLsbD n.val = false →
      (s.at t).degradedLeft n = 0 →
      Completes (.degradedClearExpiry t) s fun u =>
        (∀ m : Fin 4, u.keep.expired.getLsbD m.val =
          (s.keep.expired.getLsbD m.val || (s.at t).degradedLeft m == 0)) ∧
        ∃ e ∈ u.intake.offered, e.code = codeDegradedExpiry ∧ e.payload = [BitVec.ofNat 8 n.val] ∧ e.time = u.tbNow)

/-- Of a channel that a monitor judges once the stages of its calibration that are due have passed: a loop evaluation with 8 or
more unblanked samples keeps its amplitude and counts evaluations below the floor, and the second in a row faults the channel
with provisional cause 2, 16 µs back. An excitation-current evaluation counts those outside the limits, and the fourth in a row
faults the channel with cause 5 above (or with the limiter) and 4 below, 50 µs back. A common-mode evaluation counts likewise,
cause 3, 16 µs back. A burn-out evaluation above half the range faults the channel outside a pause with cause 1, 64 µs back. A
fault that stands stays as it is, its suspect time with it. -/
def Obligations.MonitorsCountAndFault : Prop :=
  (∀ (t : Time) (c : Fin 16) (amp : Rat) (n : Nat) (r s : State),
      r = (s.at t).calRun c →
      r.monitored c = true →
      8 ≤ n →
      Completes (.loopMonitorEval t c amp n) s fun u =>
        u.fe.chans[c].loopAmp = amp ∧
        u.fe.chans[c].loopLow = if amp < (r.loopFloor c : Rat) / 100 * r.fe.chans[c].aCal then r.fe.chans[c].loopLow + 1 else 0) ∧
  (∀ (t : Time) (c : Fin 16) (amp : Rat) (n : Nat) (r s : State),
      r = (s.at t).calRun c →
      r.monitored c = true →
      8 ≤ n →
      amp < (r.loopFloor c : Rat) / 100 * r.fe.chans[c].aCal →
      1 ≤ r.fe.chans[c].loopLow →
      r.fe.chans[c].fault = none →
      Completes (.loopMonitorEval t c amp n) s fun u =>
        u.faultStands c 2 ((s.at t).tbNow - us 16)) ∧
  (∀ (t : Time) (c : Fin 16) (cur : Rat) (lim : Bool) (r s : State),
      r = (s.at t).calRun c →
      r.monitored c = true →
      Completes (.excCurrentEval t c cur lim) s fun u =>
        u.fe.chans[c].excCur = cur ∧
        u.fe.chans[c].excBad = if lim = true ∨ cur < (r.excCurrentMin c : Rat) / 100 * r.fe.chans[c].iCal ∨
          (r.excCurrentMax c : Rat) / 100 * r.fe.chans[c].iCal < cur then r.fe.chans[c].excBad + 1 else 0) ∧
  (∀ (t : Time) (c : Fin 16) (cur : Rat) (lim : Bool) (r s : State),
      r = (s.at t).calRun c →
      r.monitored c = true →
      (lim = true ∨ (r.excCurrentMax c : Rat) / 100 * r.fe.chans[c].iCal < cur) →
      3 ≤ r.fe.chans[c].excBad →
      r.fe.chans[c].fault = none →
      Completes (.excCurrentEval t c cur lim) s fun u =>
        u.faultStands c 5 ((s.at t).tbNow - us 50)) ∧
  (∀ (t : Time) (c : Fin 16) (cur : Rat) (r s : State),
      r = (s.at t).calRun c →
      r.monitored c = true →
      cur < (r.excCurrentMin c : Rat) / 100 * r.fe.chans[c].iCal →
      ¬ (r.excCurrentMax c : Rat) / 100 * r.fe.chans[c].iCal < cur →
      3 ≤ r.fe.chans[c].excBad →
      r.fe.chans[c].fault = none →
      Completes (.excCurrentEval t c cur false) s fun u =>
        u.faultStands c 4 ((s.at t).tbNow - us 50)) ∧
  (∀ (t : Time) (c : Fin 16) (volts vafe : Rat) (r s : State),
      r = (s.at t).calRun c →
      r.monitoredDc c = true →
      Completes (.commonModeEval t c volts vafe) s fun u =>
        u.fe.chans[c].cmBad = if volts < 1 / 2 ∨ vafe - 1 / 2 < volts then r.fe.chans[c].cmBad + 1 else 0) ∧
  (∀ (t : Time) (c : Fin 16) (volts vafe : Rat) (r s : State),
      r = (s.at t).calRun c →
      r.monitoredDc c = true →
      (volts < 1 / 2 ∨ vafe - 1 / 2 < volts) →
      3 ≤ r.fe.chans[c].cmBad →
      r.fe.chans[c].fault = none →
      Completes (.commonModeEval t c volts vafe) s fun u =>
        u.faultStands c 3 ((s.at t).tbNow - us 16)) ∧
  (∀ (t : Time) (c : Fin 16) (share : Rat) (r s : State),
      r = (s.at t).calRun c →
      r.monitoredDc c = true →
      Completes (.burnoutEval t c share) s fun u =>
        u.fe.chans[c].boRail = decide (1 / 2 < share)) ∧
  (∀ (t : Time) (c : Fin 16) (share : Rat) (r s : State),
      r = (s.at t).calRun c →
      r.monitoredDc c = true →
      1 / 2 < share →
      r.fe.scans[c].pause = none →
      r.fe.chans[c].fault = none →
      Completes (.burnoutEval t c share) s fun u =>
        u.faultStands c 1 ((s.at t).tbNow - us 64)) ∧
  (∀ (c : Fin 16) (p d : Nat) (b : Time) (s : State),
      s.fe.chans[c].fault.isSome = true →
      s.chanFault c p b d = s)

/-- Two milliseconds after a channel fault its final cause replaces the provisional one and goes to the recorder. A settling
mask that has run is gone. The loss of one reference masks every channel that is not off for at least 150 µs and goes to the
recorder; the loss of both leaves every channel faulted. -/
def Obligations.FrontEndFaultsRunTheirCourse : Prop :=
  (∀ (t : Time) (c : Fin 16) (f : ChanFault) (s : State),
      s.fe.chans[c].fault = some f →
      f.final = false →
      f.at_ + ms 2 ≤ t →
      Completes (.faultCauseFinal t c) s fun u =>
        u.fe.chans[c].fault = some { f with final := true } ∧
        u.fe.chans[c].faultCause = finalCause f s.fe.chans[c] s.fe.chans[partnerChan c] ∧
        (∃ e ∈ u.intake.offered, e.code = codeChanFault)) ∧
  (∀ (t : Time) (c : Fin 16) (m : Mask) (s : State),
      s.fe.chans[c].mask = some m →
      m.until_ ≤ t →
      Completes (.settlingMaskEnd t c) s fun u =>
        u.fe.chans[c].mask = none) ∧
  (∀ (t : Time) (s : State),
      s.phase = .service →
      s.fe.refsLost = 0 →
      Completes (.referenceSwitchover t) s fun u =>
        u.fe.refsLost = 1 ∧
        (∀ c : Fin 16, s.fe.chans[c].phase ≠ .off →
          u.fe.chans[c].mask.any (fun m => decide (u.clk.now + us 150 ≤ m.until_)) = true) ∧
        ∃ e ∈ u.intake.offered, e.code = codeFaultRow 6 ∧ e.time = u.tbNow) ∧
  (∀ (t : Time) (s : State),
      s.phase = .service →
      s.fe.refsLost < 2 →
      Completes (.bothReferencesLost t) s fun u =>
        u.fe.refsLost = 2 ∧
        ∀ c : Fin 16, u.fe.chans[c].fault.isSome = true)

/-- Calibration of an enabled head's channel that is off starts with the drive off and its carriers as the learned steps or
settings say, and so does that of a faulted channel whose monitors have been quiet long enough, system X before system Y, its
fault still latched. The stages follow: a self-check that passes at 4 ms, the ramp that drives the channel at the amplitude
found, the gain search with the gain found or written, the averages of 23.2 ms. A self-check that fails faults a channel without
a fault with cause 10. 150 ms after its start a calibration that has passed every stage, its head's system X not behind it,
brings the channel into service with what the stages have found, no fault, a baseline, and its proof test and its scan due. -/
def Obligations.ChannelsCalibrate : Prop :=
  (∀ (t : Time) (c : Fin 16) (r : CalReport) (s : State),
      s.feOn = true →
      s.headEnable (headOf c) = true →
      s.fe.chans[c].phase = .off →
      s.fe.refsLost < 2 →
      Completes (.calibrationStart t c r) s fun u =>
        u.fe.chans[c].phase = .calibrating ∧ u.fe.chans[c].calAt = u.clk.now ∧ u.fe.chans[c].cal = some r ∧
        u.fe.chans[c].calStage = 1 ∧ u.fe.chans[c].excOn = false ∧
        (u.fe.chans[c].kL, u.fe.chans[c].kH) = s.startSteps c ∧ u.fe.chans[c].fault = s.fe.chans[c].fault) ∧
  (∀ (t : Time) (c : Fin 16) (r : CalReport) (s : State),
      (s.at t).mayReturn c = true →
      (c.val % 2 = 0 ∨ (s.at t).mayReturn (chanX (headOf c)) = false) →
      Completes (.reconnectQuietExpiry t c r) s fun u =>
        u.fe.chans[c].phase = .calibrating ∧ u.fe.chans[c].calAt = u.clk.now ∧ u.fe.chans[c].cal = some r ∧
        u.fe.chans[c].calStage = 1 ∧ u.fe.chans[c].excOn = false ∧ u.fe.chans[c].recal = true ∧
        (u.fe.chans[c].kL, u.fe.chans[c].kH) = s.startSteps c ∧ u.fe.chans[c].fault = s.fe.chans[c].fault) ∧
  (∀ (c : Fin 16) (r : CalReport) (s : State),
      s.fe.chans[c].phase = .calibrating →
      s.fe.chans[c].cal = some r →
      s.fe.chans[c].calStage = 1 →
      s.fe.chans[c].calAt + ms 4 ≤ s.clk.now →
      r.selfCheck = true →
      (s.calStep c).fe.chans[c].calStage = 2) ∧
  (∀ (c : Fin 16) (r : CalReport) (a : Nat) (red : Bool) (s : State),
      s.fe.chans[c].phase = .calibrating →
      s.fe.chans[c].cal = some r →
      s.fe.chans[c].calStage = 2 →
      (s.fe.chans[c].calAt + us (if c.val % 2 = 0 then 4000 else 4600) ≤ s.clk.now) →
      ampChoice r (s.excAmplitude c) (s.excOverridden c) = some (a, red) →
      (s.calStep c).fe.chans[c].excOn = true ∧ (s.calStep c).fe.chans[c].amp = a ∧ (s.calStep c).fe.chans[c].calStage = 3) ∧
  (∀ (c : Fin 16) (r : CalReport) (g : Nat) (s : State),
      s.fe.chans[c].phase = .calibrating →
      s.fe.chans[c].cal = some r →
      s.fe.chans[c].calStage = 3 →
      s.fe.chans[c].calAt + us 21200 ≤ s.clk.now →
      s.fe.chans[c].fault = none →
      (g = (if s.senseGain c = 255 then gainSearch r else s.senseGain c)) →
      gainFails r g = false →
      (s.calStep c).fe.chans[c].gain = g ∧ (s.calStep c).fe.chans[c].calStage = 4) ∧
  (∀ (c : Fin 16) (r : CalReport) (s : State),
      s.fe.chans[c].phase = .calibrating →
      s.fe.chans[c].cal = some r →
      s.fe.chans[c].calStage = 4 →
      s.fe.chans[c].calAt + us 23200 ≤ s.clk.now →
      (s.calStep c).fe.chans[c].aCal = r.aCal ∧ (s.calStep c).fe.chans[c].iCal = r.iCal ∧ (s.calStep c).fe.chans[c].calStage = 5) ∧
  (∀ (t : Time) (c : Fin 16) (r : CalReport) (s : State),
      s.fe.chans[c].phase = .calibrating →
      s.fe.chans[c].cal = some r →
      s.fe.chans[c].calStage = 1 →
      s.fe.chans[c].calAt + ms 4 ≤ t →
      s.fe.chans[c].fault = none →
      r.selfCheck = false →
      Completes (.calibrationDone t c) s fun u =>
        u.faultStands c 10 (s.at t).tbNow) ∧
  (∀ (t : Time) (c : Fin 16) (r s : State),
      r = (s.at t).calRun c →
      s.feOn = true →
      r.fe.chans[c].phase = .calibrating →
      r.fe.chans[c].calStage = 5 →
      r.fe.chans[c].calAt + ms 150 ≤ t →
      r.afterX c = false →
      Completes (.calibrationDone t c) s fun u =>
        u.fe.chans[c].phase = .inService ∧ u.fe.chans[c].amp = r.fe.chans[c].amp ∧ u.fe.chans[c].gain = r.fe.chans[c].gain ∧
        u.fe.chans[c].aCal = r.fe.chans[c].aCal ∧ u.fe.chans[c].iCal = r.fe.chans[c].iCal ∧ u.fe.chans[c].fault = none ∧
        u.eng.proofs[c].due = true ∧ u.fe.scans[c].due = true ∧ u.eng.dets[c].haveB0 = true)

/-- A warning whose condition has stood for 1 s (the blanked share at once) is raised at this moment; one whose condition has
gone ends 60 s after its latest cause. A reading of a resistive channel is the resistance that its two phases give by two wires
or four; one within 700 to 2,100 ohms gives the temperature of a channel that is not faulted, and the second bad one in a row
faults the channel. A blanking source keeps its level, and in service its window opens and closes with it. A source in its
window for more than 50 µs is stuck, and after 1,000 short windows no longer. -/
def Obligations.WarningsAndSensorsAct : Prop :=
  (∀ (t q : Time) (c : Fin 16) (k : WarnKind) (s : State),
      warnAt k s.fe.warns[c].since = some q →
      (q + secs 1 ≤ t ∨ k = .blankedShare) →
      Completes (.channelWarning t c k) s fun u =>
        warnAt k u.fe.warns[c].raised = some u.clk.now) ∧
  (∀ (t q : Time) (c : Fin 16) (k : WarnKind) (s : State),
      warnAt k s.fe.warns[c].raised = some q →
      warnAt k s.fe.warns[c].since = none →
      q + secs 60 ≤ t →
      Completes (.warningHoldExpiry t c k) s fun u =>
        warnAt k u.fe.warns[c].raised = none) ∧
  (∀ (t : Time) (c : Fin 8) (m1 m2 vref ohms : Rat) (s : State),
      ohms = tchOhms (bitOf s.tchFourWire c.val) m1 m2 vref →
      s.phase = .service →
      s.pwr.state ≠ .hibernate →
      s.tchRole c ≠ 0 →
      (s.fe.tch[c].lastAt + (if s.feOn then ms 100 else secs 10) ≤ t) →
      s.fe.tch[c].faulted = false →
      700 ≤ ohms ∧ ohms ≤ 2100 →
      Completes (.tchReading t c m1 m2 vref) s fun u =>
        u.fe.tch[c].temp = some ((s.at t).ptTemp ohms).1 ∧ u.fe.tch[c].lastAt = u.clk.now ∧
        u.fe.tch[c].badRun = 0) ∧
  (∀ (t : Time) (c : Fin 8) (m1 m2 vref ohms : Rat) (s : State),
      ohms = tchOhms (bitOf s.tchFourWire c.val) m1 m2 vref →
      s.phase = .service →
      s.pwr.state ≠ .hibernate →
      s.tchRole c ≠ 0 →
      (s.fe.tch[c].lastAt + (if s.feOn then ms 100 else secs 10) ≤ t) →
      s.fe.tch[c].badRun = 1 →
      (ohms < 700 ∨ 2100 < ohms) →
      Completes (.tchReading t c m1 m2 vref) s fun u =>
        u.fe.tch[c].temp = none ∧ u.fe.tch[c].faulted = true ∧ u.fe.tch[c].lastAt = u.clk.now) ∧
  (∀ (t : Time) (b : Fin 6) (l : Bool) (s : State),
      Completes (.blankingWindowEdge t b l) s fun u =>
        u.fe.blank[b].level = l ∧ (s.phase = .service → u.fe.blank[b].active = s.blankActive b l)) ∧
  (∀ (t : Time) (b : Fin 6) (s : State),
      s.phase = .service →
      s.fe.blank[b].active = true →
      s.fe.blank[b].stuck = false →
      s.fe.blank[b].since + us 50 < t →
      Completes (.blankStuck t b) s fun u =>
        u.fe.blank[b].stuck = true ∧
        (∃ e ∈ u.intake.offered, e.code = codeBlankStuck ∧ e.payload = [BitVec.ofNat 8 b.val])) ∧
  (∀ (t : Time) (b : Fin 6) (s : State),
      s.fe.blank[b].stuck = true →
      1000 ≤ s.fe.blank[b].shortRun →
      Completes (.blankSourceRestore t b) s fun u =>
        u.fe.blank[b].stuck = false)

/-- A frame boundary, 1.024 ms after the last, counts the frame. A channel in service or paused whose ScanInterval has passed,
or with three reports in a row, is due for a scan; one due for ScanOverdue raises the warning. The first due channel that may
pause pauses at a frame boundary with its drive off. The window of a pause that ran to its end gives the table that is kept with
its instant, and the channel is no longer due; a window that lost samples gives none, and the channel stays due (the model's
choice, log entry 60). -/
def Obligations.ScannerRunsItsCourse : Prop :=
  (∀ (t : Time) (s : State),
      s.phase = .service →
      s.fe.frameAt + us 1024 ≤ t →
      Completes (.frameBoundary t) s fun u =>
        u.fe.frame = s.fe.frame + 1 ∧ u.fe.frameAt = u.clk.now) ∧
  (∀ (t : Time) (c : Fin 16) (s : State),
      s.phase = .service →
      (s.fe.chans[c].phase = .inService ∨ s.fe.chans[c].phase = .paused) →
      (s.fe.scans[c].lastDone + secs s.scanInterval ≤ (s.at t).awakeNs ∨ 3 ≤ s.fe.scans[c].reports) →
      Completes (.scanDue t c) s fun u =>
        u.fe.scans[c].due = true) ∧
  (∀ (t : Time) (c : Fin 16) (s : State),
      s.phase = .service →
      s.fe.scans[c].due = true →
      s.scanEnable = true →
      s.fe.scans[c].dueAt + secs s.scanOverdue ≤ t →
      Completes (.scanOverdue t c) s fun u =>
        warnAt .scanOverdue u.fe.warns[c].raised = some u.clk.now) ∧
  (∀ (t : Time) (c : Fin 16) (s : State),
      (s.at t).firstDue c = true →
      (s.at t).clk.now = s.fe.frameAt →
      Completes (.scanPauseStart t c) s fun u =>
        u.fe.chans[c].phase = .paused ∧ u.fe.chans[c].excOn = false ∧ u.fe.scans[c].pause = some u.clk.now) ∧
  (∀ (t : Time) (c : Fin 16) (s : State),
      s.phase = .service →
      s.fe.scans[c].resumed = true →
      s.fe.scans[c].win.length = 4096 →
      Completes (.scanComplete t c) s fun u =>
        u.fe.scans[c].due = false ∧ u.fe.scans[c].resumed = false ∧ u.fe.scans[c].open_ = true ∧
        u.fe.scans[c].table = (disturbance s.fe.scans[c].win s.fe.scans[c].winGain).map (fun x =>
          x / min s.fe.chans[c].aRefSqL s.fe.chans[c].aRefSqH) ∧
        u.fe.scans[c].tableAt = u.clk.now ∧ u.fe.scans[c].lastDone = (s.at t).awakeNs) ∧
  (∀ (t : Time) (c : Fin 16) (s : State),
      s.phase = .service →
      s.fe.scans[c].resumed = true →
      s.fe.scans[c].win.length ≠ 4096 →
      Completes (.scanComplete t c) s fun u =>
        u.fe.scans[c].due = s.fe.scans[c].due ∧ u.fe.scans[c].resumed = false ∧
        u.fe.scans[c].table = s.fe.scans[c].table)

/-- A fast sample of a channel whose drive runs, or whose calibration is at its samples, takes in the raw samples, of which the
last 64 are kept; the nineteenth invalid sample in a row of a channel in service faults it with cause 7 for over-range, 8 for
blanking, and for discarded samples the cause that Config leaves open (log entry 4), 152 µs back. The decision on one valid
sample: no presence below OnsetLevel; an onset at its stamp from it on; the seventh sample in a row below ReleaseLevel ends a
presence at the first of them, as END where it was confirmed and WITHDRAW otherwise. -/
def Obligations.FastSamplesFeedTheDetector : Prop :=
  (∀ (t : Time) (c : Fin 16) (l : List RawIn) (r s : State),
      r = (s.at t).calRun c →
      (r.samplesOnly c = true ∨ (r.feOn = true ∧ r.fe.chans[c].phase ≠ .off ∧ r.fe.chans[c].phase ≠ .isolated)) →
      Completes (.fastSample t c l) s fun u =>
        u.fe.chans[c].rawAt = u.clk.now ∧
        u.fe.chans[c].raws.length = (r.fe.chans[c].raws.length + l.length) - (r.fe.chans[c].raws.length + l.length - 64)) ∧
  (∀ (t : Time) (c : Fin 16) (l : List RawIn) (b : Nat) (r s : State),
      r = (s.at t).calRun c →
      r.feOn = true →
      r.fe.chans[c].phase = .inService →
      r.fe.chans[c].fault = none →
      r.samplesOnly c = false →
      18 ≤ r.fe.chans[c].invalidRun →
      64 ≤ (r.takeRaws c l).fe.chans[c].raws.length →
      spanBad (r.takeRaws c l).fe.chans[c].raws = some b →
      Completes (.fastSample t c l) s fun u =>
        u.faultStands c (invalidCause (some b)) ((s.at t).tbNow - us 152)) ∧
  (∀ (b : Nat),
      (b = 7 ∨ b = 8) →
      invalidCause (some b) = b) ∧
  (∀ (d : Det) (x : Seen) (k : Levels),
      d.present = false →
      reaches x.ecSq k.onset = false →
      d.judge x k = (d, [])) ∧
  (∀ (d : Det) (x : Seen) (k : Levels),
      d.present = false →
      reaches x.ecSq k.onset = true →
      (d.judge x k).1.present = true ∧ (d.judge x k).1.confirmed = false ∧ (d.judge x k).1.onset = x.stamp ∧
      (d.judge x k).2 = [(.onset, x.stamp, x.blanked)]) ∧
  (∀ (d : Det) (x : Seen) (k : Levels),
      d.present = true →
      reaches x.ecSq k.release = false →
      d.run = 6 →
      x.confirms k.confirm = false →
      (d.judge x k).1.present = false ∧ ∃ b, (d.judge x k).2 = [(if d.confirmed then .endd else .withdraw, d.runStart, b)])

/-- A noise block of a channel in service, 1 s after the last, keeps the last eight block peaks and begins a new block; the
eighth block in a row above NoiseFault faults the channel with cause 9. Every hour the baselines of channels that have one,
their head quiet, are stored, and the drift of a quiet channel in service against its reference is judged, counting judgements
beyond the fault limits. Once a day the temperature fit runs. A presence below WheelFloor that has lasted ResidualTime, its
samples over that time within the quiet noise band and its partner without presence, is residual and raises its warning. -/
def Obligations.SlowStatisticsAct : Prop :=
  (∀ (t : Time) (c : Fin 16) (peaks : List Rat) (s : State),
      s.feOn = true →
      s.fe.chans[c].phase = .inService →
      s.eng.stats[c].blockAt + secs 1 ≤ t →
      (peaks = if s.eng.stats[c].blockN = 0 then s.eng.stats[c].peaksSq
        else (s.eng.stats[c].peaksSq ++ [s.eng.stats[c].blockPeakSq]).drop (s.eng.stats[c].peaksSq.length - 7)) →
      Completes (.noiseBlock t c) s fun u =>
        u.eng.stats[c].blockAt = u.clk.now ∧ u.eng.stats[c].blockN = 0 ∧ u.eng.stats[c].peaksSq = peaks) ∧
  (∀ (t : Time) (c : Fin 16) (peaks : List Rat) (s : State),
      s.feOn = true →
      s.fe.chans[c].phase = .inService →
      s.eng.stats[c].blockAt + secs 1 ≤ t →
      s.eng.stats[c].blockN ≠ 0 →
      (peaks = if s.eng.stats[c].blockN = 0 then s.eng.stats[c].peaksSq
        else (s.eng.stats[c].peaksSq ++ [s.eng.stats[c].blockPeakSq]).drop (s.eng.stats[c].peaksSq.length - 7)) →
      (s.noiseFault (headOf c) : Rat) * s.noiseFault (headOf c) / 1000000 < peaks.foldl max 0 →
      7 ≤ s.eng.stats[c].noiseRun →
      s.fe.chans[c].fault = none →
      Completes (.noiseBlock t c) s fun u =>
        u.faultStands c 9 (s.at t).tbNow) ∧
  (∀ (t : Time) (s : State),
      s.feOn = true →
      s.eng.storeAt + secs 3600 ≤ t →
      Completes (.baselineStore t) s fun u =>
        u.eng.storeAt = u.clk.now ∧
        ∀ c : Fin 16, s.eng.dets[c].haveB0 = true → s.quiet (headOf c) = true →
          u.nv.chans[c].b0 = some (s.eng.dets[c].b0L, s.eng.dets[c].b0H)) ∧
  (∀ (t : Time) (c : Fin 16) (r : Cx × Cx) (s : State),
      s.nv.chans[c].ref = some r →
      s.feOn = true →
      s.fe.chans[c].phase = .inService →
      s.quiet (headOf c) = true →
      s.eng.stats[c].driftAt + secs 3600 ≤ t →
      Completes (.driftEvaluation t c) s fun u =>
        u.eng.stats[c].driftAt = u.clk.now ∧ u.eng.stats[c].driftRun = if (magBeyond (s.eng.dets[c].b0L.normSq / r.1.normSq) (s.driftFaultMag (headOf c)) ||
          magBeyond (s.eng.dets[c].b0H.normSq / r.2.normSq) (s.driftFaultMag (headOf c)) ||
          phaseBeyond (argDeg (cdiv s.eng.dets[c].b0L r.1)) (s.driftFaultPhase (headOf c)) ||
          phaseBeyond (argDeg (cdiv s.eng.dets[c].b0H r.2)) (s.driftFaultPhase (headOf c))) then s.eng.stats[c].driftRun + 1 else 0) ∧
  (∀ (t : Time) (c : Fin 16) (s : State),
      s.feOn = true →
      s.eng.stats[c].kappaAt + secs 86400 ≤ t →
      Completes (.kappaFit t c) s fun u =>
        u.eng.stats[c].kappaAt = u.clk.now ∧ (s.eng.stats[c].meansT = [] → u.nv.chans[c] = s.nv.chans[c])) ∧
  (∀ (t : Time) (c : Fin 16) (s : State),
      s.feOn = true →
      s.eng.dets[c].present = true →
      s.eng.dets[partnerChan c].present = false →
      reaches s.eng.dets[c].peakSq (s.wheelFloor (headOf c)) = false →
      secs (s.residualTime (headOf c)) < (s.at t).tbNow - s.eng.dets[c].onset →
      (s.eng.dets[c].lately (s.at t).clk.now (secs (s.residualTime (headOf c)))).isEmpty = false →
      s.quietSet c (s.eng.dets[c].lately (s.at t).clk.now (secs (s.residualTime (headOf c)))) = true →
      Completes (.residualPresence t c) s fun u =>
        u.eng.stats[c].residual = true ∧ warnAt .residual u.fe.warns[c].raised = some u.clk.now)

/-- An engine that serves a head writes its checkpoint 100 µs after the last: in sequence, its CRC and its known-answer test
right and not overdue by 8 µs, the write holds both channels, the index of the last sample and its stamp under the next sequence
number, in the other of two slots, and the engine runs on. Any other write, a wrong answer of WSE8 on standby, and any other
check that fails leave an engine failed and declared, and the decisions of the head it serves held. After a takeover the head's
first decision, once WSE8 has a sample of each channel that decides, frees the head from the takeover. -/
def Obligations.EnginesCheckpointAndFail : Prop :=
  (∀ (t : Time) (e : Fin 9) (w : CkptWrite) (h : Fin 8) (s : State),
      s.feOn = true →
      s.eng.wse[e].failed = false →
      s.headServed e = some h →
      (s.eng.wse[e].ckAt.all (fun a => decide (a + us 100 ≤ (s.at t).clk.now)) = true) →
      w.seq = s.eng.wse[e].seq + 1 →
      w.crcOk = true →
      w.kat = true →
      (s.at t).ckptOverdue e = false →
      Completes (.engineCheckpoint t e w) s fun u =>
        u.eng.wse[e].seq = s.eng.wse[e].seq + 1 ∧ u.eng.wse[e].failed = false ∧ u.eng.wse[e].ckAt = some u.clk.now ∧
        u.eng.wse[e].ckpts[(s.eng.wse[e].seq + 1) % 2]'(Nat.mod_lt _ (by decide)) = some
          { seq := s.eng.wse[e].seq + 1, crcOk := true, kat := true, index := s.eng.wse[e].samples,
            stamp := max s.eng.dets[chanX h].lastAt s.eng.dets[chanY h].lastAt,
            x := s.chanCkpt (chanX h), y := s.chanCkpt (chanY h) }) ∧
  (∀ (t : Time) (e : Fin 9) (w : CkptWrite) (h : Fin 8) (s : State),
      s.feOn = true →
      s.eng.wse[e].failed = false →
      s.headServed e = some h →
      (s.eng.wse[e].ckAt.all (fun a => decide (a + us 100 ≤ (s.at t).clk.now)) = true) →
      (w.seq ≠ s.eng.wse[e].seq + 1 ∨ w.crcOk = false ∨ w.kat = false ∨ (s.at t).ckptOverdue e = true) →
      Completes (.engineCheckpoint t e w) s fun u =>
        u.eng.wse[e].failed = true ∧ e ∈ u.eng.declared ∧
        u.eng.dets[chanX h].hold = .takeover ∧ u.eng.dets[chanY h].hold = .takeover) ∧
  (∀ (t : Time) (e : Fin 9) (w : CkptWrite) (s : State),
      s.feOn = true →
      s.eng.wse[e].failed = false →
      s.headServed e = none →
      (s.eng.wse[e].ckAt.all (fun a => decide (a + us 100 ≤ (s.at t).clk.now)) = true) →
      w.kat = false →
      Completes (.engineCheckpoint t e w) s fun u =>
        u.eng.wse[e].failed = true ∧ e ∈ u.eng.declared) ∧
  (∀ (t : Time) (e : Fin 9) (k : EngineCheck) (s : State),
      s.feOn = true →
      s.eng.wse[e].failed = false →
      (s.at t).checkFails e k = true →
      Completes (.engineFailure t e k) s fun u =>
        u.eng.wse[e].failed = true ∧ e ∈ u.eng.declared ∧
        ∀ h, s.headServed e = some h → u.eng.dets[chanX h].hold = .takeover ∧ u.eng.dets[chanY h].hold = .takeover) ∧
  (∀ (t : Time) (h : Fin 8) (s : State),
      s.feOn = true →
      s.eng.takeover[h].isSome = true →
      ((s.at t).decides (chanX h) = false ∨ (s.at t).sampleReady (chanX h) = true) →
      ((s.at t).decides (chanY h) = false ∨ (s.at t).sampleReady (chanY h) = true) →
      Completes (.takeoverFirstDecision t h) s fun u =>
        u.eng.takeover[h] = none ∧ u.eng.dets[chanX h].hold ≠ .takeover ∧ u.eng.dets[chanY h].hold ≠ .takeover)

/-- A test of a channel in service or paused whose time has come is due. A due test whose conditions hold starts at a frame
boundary, its phantom scaled from the baselines of then. Once its 1.024 ms have run and the shadow decision has ended, or 1.1 ms
have passed, it is judged: a pass ends it and sets the next a ProofInterval later; a first failure repeats it after 1 s, a
second in a row faults the channel with cause 9. After that second the failed test is due again. A due test not started within
twice ProofInterval raises the warning. -/
def Obligations.ProofTestsRunTheirCourse : Prop :=
  (∀ (t : Time) (c : Fin 16) (s : State),
      s.phase = .service →
      (s.at t).proofComes c 0 = true →
      Completes (.proofTestDue t c) s fun u =>
        u.eng.proofs[c].due = true) ∧
  (∀ (t : Time) (c : Fin 16) (s : State),
      (s.at t).mayProve c = true →
      (s.at t).clk.now = s.fe.frameAt →
      Completes (.proofTestStart t c) s fun u =>
        u.eng.proofs[c].running = some u.clk.now ∧ u.eng.proofs[c].injAt = some u.clk.now ∧
        (u.eng.proofs[c].bL, u.eng.proofs[c].bH) = s.baseline c) ∧
  (∀ (t b : Time) (c : Fin 16) (s : State),
      s.eng.proofs[c].running = some b →
      b + us 1024 ≤ t →
      (s.eng.proofs[c].endAt.isSome = true ∨ b + us 1100 ≤ t) →
      s.eng.proofs[c].passed = true →
      Completes (.proofTestEnd t c) s fun u =>
        u.eng.proofs[c].running = none ∧ u.eng.proofs[c].due = false ∧
        u.eng.proofs[c].result = 1 ∧ u.eng.proofs[c].doneAt = some u.clk.now ∧
        u.proofDueAt c = u.clk.now + secs (s.proofInterval (headOf c)) ∧
        u.nv.chans[c].proofCount = s.nv.chans[c].proofCount + 1) ∧
  (∀ (t b : Time) (c : Fin 16) (s : State),
      s.eng.proofs[c].running = some b →
      b + us 1024 ≤ t →
      (s.eng.proofs[c].endAt.isSome = true ∨ b + us 1100 ≤ t) →
      s.eng.proofs[c].passed = false →
      s.eng.proofs[c].failed = false →
      Completes (.proofTestEnd t c) s fun u =>
        u.eng.proofs[c].running = none ∧ u.eng.proofs[c].failed = true ∧
        u.eng.proofs[c].result = 3 ∧ u.eng.proofs[c].notBefore = u.clk.now + secs 1) ∧
  (∀ (t b : Time) (c : Fin 16) (s : State),
      s.eng.proofs[c].running = some b →
      b + us 1024 ≤ t →
      (s.eng.proofs[c].endAt.isSome = true ∨ b + us 1100 ≤ t) →
      s.eng.proofs[c].passed = false →
      s.eng.proofs[c].failed = true →
      s.fe.chans[c].fault = none →
      Completes (.proofTestEnd t c) s fun u =>
        u.faultStands c 9 (s.at t).tbNow) ∧
  (∀ (t : Time) (c : Fin 16) (s : State),
      s.eng.proofs[c].failed = true →
      s.eng.proofs[c].running = none →
      s.eng.proofs[c].notBefore ≤ t →
      Completes (.proofTestRetry t c) s fun u =>
        u.eng.proofs[c].due = true) ∧
  (∀ (t : Time) (c : Fin 16) (s : State),
      s.phase = .service →
      s.eng.proofs[c].due = true →
      s.eng.proofs[c].running = none →
      s.proofDueAt c + 2 * secs (s.proofInterval (headOf c)) ≤ t →
      Completes (.proofTestOverdue t c) s fun u =>
        warnAt .proofOverdue u.fe.warns[c].raised = some u.clk.now)

/-- A presence event, no earlier one of its head before it, leaves the engines' output; one that has been processed before its
turn leaves no other trace. An ONSET at a head without presence opens an episode and an entry in both copies of the Ledger, in
the lowest free slot. At its end an episode whose systems were confirmed and left in the same order, both in a class that
counts, is DETECTED in the direction of that order; one whose systems were confirmed at the same time is VOID, cause 1; one
without a confirmed system is CANCELLED. An entry that stands DETECTED or COUNTED_ONE for more than 24 µs with both supervisors
in service is cause 10 for its head's sections. The Ledger scrub counts a corrected word, voids an entry whose copies differ,
and an uncorrectable word of a copy fails its supervisor, but voids the entry where the other has failed and degraded run has
not begun. -/
def Obligations.EpisodesAndLedgerEntries : Prop :=
  (∀ (t : Time) (ev : PresenceEvent) (s : State),
      s.phase = .service →
      s.pas.gone.contains ev = true →
      Completes (.presenceEvent t ev) s fun u =>
        u = { s.at t with pas := { s.pas with gone := s.pas.gone.erase ev } }) ∧
  (∀ (t : Time) (ev : PresenceEvent) (s : State),
      s.phase = .service →
      s.pas.gone.contains ev = false →
      (∀ e ∈ s.eng.out, headOf e.ch = headOf ev.ch → eventRank ev ≤ eventRank e) →
      Completes (.presenceEvent t ev) s fun u =>
        u.eng.out = s.eng.out.erase ev) ∧
  (∀ (t : Time) (ev : PresenceEvent) (i : Nat) (s : State),
      s.phase = .service →
      s.pas.gone.contains ev = false →
      (∀ e ∈ s.eng.out, headOf e.ch = headOf ev.ch → eventRank ev ≤ eventRank e) →
      ev.edge = .onset →
      s.pas.discard[headOf ev.ch] = false →
      s.pas.eps[headOf ev.ch].present = false →
      s.pas.stopped = false →
      s.led.lowestFree = some i →
      Completes (.presenceEvent t ev) s fun u =>
        u.pas.eps[headOf ev.ch].active = true ∧
        u.pas.eps[headOf ev.ch].onset[sysOf ev.ch] = some ev.stamp ∧ u.pas.eps[headOf ev.ch].slot.map (fun j => j.val) = some i ∧
        ∀ k : Fin 2, (u.led.entry k i).any (fun en => en.st == .opn && en.head == headOf ev.ch && en.seq == s.led.nextSeq) = true) ∧
  (∀ (e : Episode) (r : Bool) (cx cy : Time) (ex ey : EndRec),
      e.conf[0] = some cx →
      e.conf[1] = some cy →
      e.ends[0] = some ex →
      e.ends[1] = some ey →
      cx < cy →
      ex.stamp < ey.stamp →
      countingClass ex.cls = true →
      (e.result r).st = .detected ∧ (e.result r).dir = false) ∧
  (∀ (e : Episode) (r : Bool) (cx cy : Time) (ex ey : EndRec),
      e.conf[0] = some cx →
      e.conf[1] = some cy →
      e.ends[0] = some ex →
      e.ends[1] = some ey →
      cy < cx →
      ey.stamp < ex.stamp →
      countingClass ex.cls = true →
      (e.result r).st = .detected ∧ (e.result r).dir = true) ∧
  (∀ (e : Episode) (r : Bool) (c : Time),
      e.conf[0] = some c →
      e.conf[1] = some c →
      (e.result r).st = .void ∧ (e.result r).cause = 1) ∧
  (∀ (e : Episode) (r : Bool),
      e.conf[0] = none →
      e.conf[1] = none →
      (e.result r).st = .cancelled) ∧
  (∀ (t : Time) (slot : Fin 2048) (en : Entry) (s : State),
      s.led.entry 0 slot = some en →
      (en.st = .detected ∨ en.st = .countedOne) →
      en.since + us 24 < t →
      s.sv[0].st = .inService →
      s.sv[1].st = .inService →
      Completes (.ledgerStall t slot) s fun u =>
        u.led = s.led ∧ ∀ n ∈ s.sectionsOf en.head, ∀ v : Fin 2, ∃ leg, Notice.cause n 10 leg ∈ u.sv[v].inbox) ∧
  (∀ (t : Time) (slot : Fin 2048) (k : Fin 2) (s : State),
      Completes (.ledgerScrub t slot k .corrected) s fun u =>
        u.nv.ledger[1] = s.nv.ledger[1] + 1 ∧ u.led = s.led) ∧
  (∀ (t : Time) (slot : Fin 2048) (k : Fin 2) (en : Entry) (s : State),
      s.led.entry 0 slot = some en →
      Completes (.ledgerScrub t slot k .differ) s fun u =>
        u.nv.ledger[2] = s.nv.ledger[2] + 1 ∧ (u.led.entry 0 slot).any (fun e => e.st == .void) = true) ∧
  (∀ (t : Time) (slot : Fin 2048) (k : Fin 2) (s : State),
      (s.alone k = false ∨ s.keep.degraded = true) →
      s.sv[k].serves = true →
      Completes (.ledgerScrub t slot k .uncorrectable) s fun u =>
        u.sv[k].st = .failed ∧ u.sv[k].failCause = 2) ∧
  (∀ (t : Time) (slot : Fin 2048) (k : Fin 2) (en : Entry) (s : State),
      s.alone k = true →
      s.keep.degraded = false →
      s.led.entry 0 slot = some en →
      Completes (.ledgerScrub t slot k .uncorrectable) s fun u =>
        u.sv[k].st = s.sv[k].st ∧ (u.led.entry 0 slot).any (fun e => e.st == .void) = true)

/-- A checkpoint write that ends well is the newest slot, counted with its number and time; one that ends badly leaves a bad
slot and counts an error. A comparison of the Tumbler keeps, for every section's counters and proposals and every head's
counters, since when they differ. A difference of counters older than 24 µs starts their re-derivation; a difference of
proposals older than 100 µs counts as a mismatch. The end of the re-derivation ends it and every tolerance. A kinematic block
whose reference is older than KinMaxAge is no longer valid. -/
def Obligations.CheckpointsAndTumblerAct : Prop :=
  (∀ (t : Time) (k : Checkpoint) (s : State),
      s.keep.ckBusy = some k →
      s.ckptSlots ≠ 0 →
      Completes (.checkpointDone t true) s fun u =>
        u.nv.ckpts.getLast? = some k ∧ u.nv.ckSeq = k.seq ∧ u.nv.ckTime = k.time ∧
        u.nv.ckWrites = s.nv.ckWrites + 1 ∧ u.nv.ckErrors = s.nv.ckErrors) ∧
  (∀ (t : Time) (k : Checkpoint) (s : State),
      s.keep.ckBusy = some k →
      s.ckptSlots ≠ 0 →
      Completes (.checkpointDone t false) s fun u =>
        u.nv.ckpts.getLast? = some { k with good := false, counted := true } ∧ u.nv.ckErrors = s.nv.ckErrors + 1) ∧
  (∀ (t : Time) (s : State),
      s.tumbling = true →
      Completes (.tumblerCompare t) s fun u =>
        (∀ n : Fin 4,
          u.keep.tumbler.secAt[n] = (if s.secDiffers n then some (s.keep.tumbler.secAt[n].getD u.clk.now) else none) ∧
          u.keep.tumbler.propAt[n] = (if s.propDiffers n then some (s.keep.tumbler.propAt[n].getD u.clk.now) else none)) ∧
        ∀ h : Fin 8, u.keep.tumbler.headAt[h] = if s.headDiffers h then some (s.keep.tumbler.headAt[h].getD u.clk.now) else none) ∧
  (∀ (t a : Time) (n : Fin 4) (s : State),
      s.tumbling = true →
      s.secDiffers n = true →
      s.keep.tumbler.secAt[n] = some a →
      a + us 24 < t →
      Completes (.tumblerToleranceExpiry t) s fun u =>
        u.keep.tumbler.rederiving = true) ∧
  (∀ (t a : Time) (n : Fin 4) (s : State),
      s.tumbling = true →
      s.propDiffers n = true →
      s.keep.tumbler.propAt[n] = some a →
      a + us 100 < t →
      Completes (.tumblerToleranceExpiry t) s fun u =>
        u.nv.secs[n].mismatch = s.nv.secs[n].mismatch + 1 ∧ u.keep.tumbler.propAt[n] = none ∧
        ∀ v : Fin 2, Notice.cause n 8 none ∈ u.sv[v].inbox) ∧
  (∀ (t : Time) (s : State),
      s.tumbling = true →
      s.keep.tumbler.rederiving = true →
      Completes (.tumblerRederiveDone t) s fun u =>
        u.keep.tumbler.rederiving = false ∧ u.keep.tumbler.secAt = Vector.replicate 4 none ∧
        u.keep.tumbler.headAt = Vector.replicate 8 none) ∧
  (∀ (t : Time) (n : Fin 4) (s : State),
      s.kin[n].ref + ms (s.kinMaxAge n) < (s.at t).tbNow →
      Completes (.kinExpiry t n) s fun u =>
        u.kin[n].valid = false ∧
        u.kin[n].seq = (if s.kin[n].valid then s.kin[n].seq + 1 else s.kin[n].seq))

/-- A write of TS_BEMF or TS_DCLINK is staged without its reserved half, and the committed block stays. A TS_CTRL with odd
parity whose SEQ advances by exactly one, or which is taken whatever its SEQ, commits the staged block: it is fresh from now,
and its reserved bits read zero. Any other TS_CTRL is discarded and counted, and the committed block and its age stay. A
committed block that is TractionStale old is fresh no longer: the next block is taken whatever its SEQ, and the event is
counted. -/
def Obligations.TractionStatusIsCommittedAsABlock : Prop :=
  (∀ (t : Time) (n : Fin 4) (dclink : Bool) (w : Word) (s : State),
      Completes (.tractionStage t n dclink w) s fun u =>
        (if dclink then u.trac[n].stDc = w &&& 0xFFFF ∧ u.trac[n].stBemf = s.trac[n].stBemf
          else u.trac[n].stBemf = w &&& 0xFFFF ∧ u.trac[n].stDc = s.trac[n].stDc) ∧
        u.trac[n].bemf = s.trac[n].bemf ∧ u.trac[n].dclink = s.trac[n].dclink ∧ u.trac[n].ctrl = s.trac[n].ctrl) ∧
  (∀ (t : Time) (n : Fin 4) (w : Word) (s : State),
      parOk w = true →
      (s.trac[n].takeAny = true ∨ w.setWidth 8 = s.trac[n].seq + 1) →
      Completes (.tractionCommit t n w) s fun u =>
        u.trac[n].bemf = s.trac[n].stBemf ∧ u.trac[n].dclink = s.trac[n].stDc ∧ u.trac[n].ctrl = w &&& 0x80003FFF ∧
        u.trac[n].fresh = true ∧ u.trac[n].commitAt = u.clk.now ∧ u.trac[n].takeAny = false ∧
        u.trac[n].rejects = s.trac[n].rejects) ∧
  (∀ (t : Time) (n : Fin 4) (w : Word) (s : State),
      (parOk w = false ∨ (s.trac[n].takeAny = false ∧ w.setWidth 8 ≠ s.trac[n].seq + 1)) →
      Completes (.tractionCommit t n w) s fun u =>
        u.trac[n].rejects = s.trac[n].rejects + 1 ∧ u.trac[n].ctrl = s.trac[n].ctrl ∧ u.trac[n].bemf = s.trac[n].bemf ∧
        u.trac[n].dclink = s.trac[n].dclink ∧ u.trac[n].commitAt = s.trac[n].commitAt ∧ u.trac[n].fresh = s.trac[n].fresh) ∧
  (∀ (t : Time) (n : Fin 4) (s : State),
      s.trac[n].fresh = true →
      s.trac[n].commitAt + ms (s.tractionStale n) ≤ t →
      Completes (.tractionStale t n) s fun u =>
        u.trac[n].fresh = false ∧ u.trac[n].takeAny = true ∧ u.nv.staleCount[n] = s.nv.staleCount[n] + 1 ∧
        u.trac[n].ctrl = s.trac[n].ctrl)

/-- A read of SK_TIME_LO latches the upper half of the time base. SEND with BUSY and RESP_READY clear and a length of 1 to 256
takes the request words and sets BUSY; any other SEND sets OVERRUN and takes nothing. CANCEL while BUSY clears BUSY, sets
CANCELLED and drops the answer, and a request not yet answered counts as never received (DESIGN CHOICE, log entry 62). A
response that is ready clears BUSY, sets RESP_READY and gives its length and words. Writes of other widths or alignments, and
writes of read-only offsets, change nothing; writes of the request words and of the length are taken while BUSY is clear and set
OVERRUN while it is set; the flags of MB_STATUS clear by ones, but one that is set in the same cycle stays set. -/
def Obligations.TheHostWindowTakesItsCommands : Prop :=
  (∀ (t : Time) (s : State),
      Completes (.skTimeRead t) s fun u =>
        u.host.timeLo = BitVec.ofNat 32 u.tbNow ∧ u.host.timeHi = BitVec.ofNat 32 (u.tbNow / 4294967296)) ∧
  (∀ (t : Time) (s : State),
      s.host.mailbox.busy = false →
      s.host.mailbox.respReady = false →
      1 ≤ s.host.mailbox.reqLen →
      s.host.mailbox.reqLen ≤ 256 →
      Completes (.mailboxSend t) s fun u =>
        u.host.mailbox.busy = true ∧ u.host.mailbox.current = some ((wordBytes s.host.mailbox.req).take s.host.mailbox.reqLen)) ∧
  (∀ (t : Time) (s : State),
      (s.host.mailbox.busy = true ∨ s.host.mailbox.respReady = true ∨ s.host.mailbox.reqLen = 0 ∨ 256 < s.host.mailbox.reqLen) →
      Completes (.mailboxSend t) s fun u =>
        u.host.mailbox = { s.host.mailbox with overrun := true, overAt := some u.clk.now }) ∧
  (∀ (t : Time) (s : State),
      s.host.mailbox.busy = true →
      Completes (.mailboxCancel t) s fun u =>
        u.host.mailbox.busy = false ∧ u.host.mailbox.cancelled = true ∧ u.host.mailbox.staged = none ∧
        u.host.mailbox.current = none ∧ u.sdp.sessions[0] = s.sdp.sessions[0].unreceived) ∧
  (∀ (t : Time) (p : List Byte) (s : State),
      s.host.mailbox.busy = true →
      s.released = true →
      s.host.mailbox.staged = some p →
      Completes (.mailboxResponse t) s fun u =>
        u.host.mailbox.busy = false ∧ u.host.mailbox.respReady = true ∧ u.host.mailbox.respLen = min p.length 256 ∧
        u.host.mailbox.resp = bytesWords 64 p) ∧
  (∀ (t : Time) (off : BitVec 16) (size : Nat) (w : Word) (s : State),
      (size ≠ 4 ∨ off.toNat % 4 ≠ 0 ∨ off.toNat < 0x0044 ∨ (0x0048 ≤ off.toNat ∧ off.toNat < 0x0200) ∨ 0x1200 ≤ off.toNat) →
      Completes (.registerWrite t off size w) s fun u =>
        u = s.at t) ∧
  (∀ (t : Time) (off : BitVec 16) (w : Word) (s : State),
      0x0500 ≤ off.toNat →
      off.toNat < 0x0600 →
      off.toNat % 4 = 0 →
      Completes (.registerWrite t off 4 w) s fun u =>
        if s.host.mailbox.busy then u.host.mailbox = { s.host.mailbox with overrun := true, overAt := some u.clk.now }
        else u.host.mailbox = { s.host.mailbox with req := s.host.mailbox.req.set ((off.toNat - 0x0500) / 4) w }) ∧
  (∀ (t : Time) (w : Word) (s : State),
      Completes (.registerWrite t 0x0408 4 w) s fun u =>
        if s.host.mailbox.busy then u.host.mailbox = { s.host.mailbox with overrun := true, overAt := some u.clk.now }
        else u.host.mailbox = { s.host.mailbox with reqLen := w.toNat % 512 }) ∧
  (∀ (t : Time) (w : Word) (s : State),
      Completes (.registerWrite t 0x0404 4 w) s fun u =>
        u.host.mailbox.respReady = (s.host.mailbox.respReady && (!w.getLsbD 1 || s.host.mailbox.respAt == some u.clk.now)) ∧
        u.host.mailbox.overrun = (s.host.mailbox.overrun && (!w.getLsbD 2 || s.host.mailbox.overAt == some u.clk.now)) ∧
        u.host.mailbox.cancelled = (s.host.mailbox.cancelled && (!w.getLsbD 3 || s.host.mailbox.cancAt == some u.clk.now)) ∧
        u.host.mailbox.busy = s.host.mailbox.busy)

/-- Once the writes held over HIBERNATE have been applied and the claimed sources sampled: a pulse source sets its pending flag
and no other. A core takes the offer of its target: the source is in service there and its target offers nothing more. The first
access after a claim shows whether a level source's condition has ceased, and counts it where it has. EOI of the source in
service frees the slot; of another sets EOI_ERR and leaves the slot. A W1C of HEC_PEND clears the pulse flags it names, but a
flag that hardware sets at once stays set, and the lost clear is counted. The target codes of eight sources are written
together, those of sources 48 up never. A vector base keeps bits 31:10. CLR_COUNTS zeroes every count but one that advances in
the same cycle, which reads 1, and a core reset frees the slot. In HIBERNATE a write is held; with the controller powered again
the next command finds it applied. -/
def Obligations.TheHostEventControllerDelivers : Prop :=
  (∀ (t : Time) (src : Fin 64) (r s : State),
      isPulse src.val = true →
      r = (s.at t).hecFlush.hecSample →
      Completes (.hecSourcePending t src) s fun u =>
        ∀ n : Fin 64, u.hec.pend.getLsbD n.val = (r.hec.pend.getLsbD n.val || n == src)) ∧
  (∀ (t : Time) (core : Fin 4) (n : Fin 64) (a : Word) (r s : State),
      r = (s.at t).hecFlush →
      r.hec.offer[core].isSome = true →
      r.hecOffered core = some (n, a) →
      Completes (.hecAccept t core) s fun u =>
        u.hec.slots[core].busy = true ∧ u.hec.slots[core].src = n ∧ u.hec.slots[core].accessed = false ∧ u.hec.offer[core] = none ∧
        ∀ c : Fin 4, c ≠ core → u.hec.slots[c] = r.hec.slots[c]) ∧
  (∀ (t : Time) (core : Fin 4) (r s : State),
      r = (s.at t).hecFlush.hecSample →
      r.hec.slots[core].busy = true →
      r.hec.slots[core].accessed = false →
      Completes (.hecFirstAccess t core) s fun u =>
        u.hec.slots[core].accessed = true ∧ u.hec.slots[core].busy = true ∧
        u.hec.slots[core].gone = (isLevel r.hec.slots[core].src.val && r.hec.slots[core].ceased) ∧
        u.hec.goneCnt[core] = (if u.hec.slots[core].gone && r.hec.goneCnt[core] != 0xFFFFFFFF then r.hec.goneCnt[core] + 1
          else r.hec.goneCnt[core])) ∧
  (∀ (t : Time) (core : Fin 4) (w : Word) (r s : State),
      r = (s.at t).hecFlush.hecSample →
      r.hecPowered = true →
      r.hec.slots[core].busy = true →
      r.hec.slots[core].src.val = w.toNat % 64 →
      Completes (.hecEoi t core w) s fun u =>
        u.hec.slots[core].busy = false ∧ u.hec.slots[core].eoiErr = r.hec.slots[core].eoiErr) ∧
  (∀ (t : Time) (core : Fin 4) (w : Word) (r s : State),
      r = (s.at t).hecFlush.hecSample →
      r.hecPowered = true →
      (r.hec.slots[core].busy = false ∨ r.hec.slots[core].src.val ≠ w.toNat % 64) →
      Completes (.hecEoi t core w) s fun u =>
        u.hec.slots[core].busy = r.hec.slots[core].busy ∧ u.hec.slots[core].src = r.hec.slots[core].src ∧
        u.hec.slots[core].eoiErr = true) ∧
  (∀ (t : Time) (high : Bool) (w sets m : Word) (r s : State),
      r = (s.at t).hecFlush.hecSample →
      r.hecPowered = true →
      m = sets ||| r.hec.setsNow high r.clk.now →
      Completes (.hecPendClear t high w sets) s fun u =>
        ∀ n : Fin 64,
          u.hec.pend.getLsbD n.val =
            (if isPulse n.val && !high then m.getLsbD n.val || (r.hec.pend.getLsbD n.val && !w.getLsbD n.val)
            else r.hec.pend.getLsbD n.val) ∧
          u.hec.lostClr[n] = (if isPulse n.val && !high && m.getLsbD n.val && w.getLsbD n.val && r.hec.lostClr[n] != 0xFFFF then
            r.hec.lostClr[n] + 1 else r.hec.lostClr[n])) ∧
  (∀ (t : Time) (i : Fin 8) (w : Word) (r s : State),
      r = (s.at t).hecFlush.hecSample →
      r.hecPowered = true →
      Completes (.hecTargetWrite t i w) s fun u =>
        ∀ n : Fin 64, u.hec.target[n] =
          if n.val / 8 = i.val ∧ n.val < 48 then (w >>> (4 * (n.val % 8))).setWidth 3 else r.hec.target[n]) ∧
  (∀ (t : Time) (core : Fin 4) (w : Word) (r s : State),
      r = (s.at t).hecFlush.hecSample →
      r.hecPowered = true →
      Completes (.hecVbaseWrite t core w) s fun u =>
        u.hec.vbase[core] = w &&& 0xFFFFFC00 ∧ ∀ c : Fin 4, c ≠ core → u.hec.vbase[c] = r.hec.vbase[c]) ∧
  (∀ (t : Time) (r s : State),
      r = (s.at t).hecFlush.hecSample →
      r.hecPowered = true →
      Completes (.clrCounts t) s fun u =>
        (∀ c : Fin 4, u.hec.goneCnt[c] = if r.hec.goneAt[c] = some u.clk.now then 1 else 0) ∧
        ∀ n : Fin 64, u.hec.lostClr[n] = if r.hec.lostAt[n] = some u.clk.now then 1 else 0) ∧
  (∀ (t : Time) (core : Fin 4) (r s : State),
      r = (s.at t).hecFlush.hecSample →
      Completes (.coreReset t core) s fun u =>
        u.hec.slots[core].busy = false ∧ u.hec.slots[core].eoiErr = r.hec.slots[core].eoiErr ∧ u.hec.pend = r.hec.pend ∧
        ∀ c : Fin 4, c ≠ core → u.hec.slots[c] = r.hec.slots[c]) ∧
  (∀ (t : Time) (core : Fin 4) (w : Word) (s : State),
      s.pwr.state = .hibernate →
      s.pwr.waking = none →
      Completes (.hecEoi t core w) s fun u =>
        u.hec.held = s.hec.held ++ [.hecEoi t core w] ∧ u.hec.slots = s.hec.slots) ∧
  (∀ (t : Time) (high : Bool) (w sets : Word) (s : State),
      s.pwr.state = .hibernate →
      s.pwr.waking = none →
      Completes (.hecPendClear t high w sets) s fun u =>
        u.hec.held = s.hec.held ++ [.hecPendClear t high w sets] ∧ u.hec.pend = s.hec.pend) ∧
  (∀ (t : Time) (i : Fin 8) (w : Word) (s : State),
      s.pwr.state = .hibernate →
      s.pwr.waking = none →
      Completes (.hecTargetWrite t i w) s fun u =>
        u.hec.held = s.hec.held ++ [.hecTargetWrite t i w] ∧ u.hec.target = s.hec.target) ∧
  (∀ (t : Time) (core : Fin 4) (w : Word) (s : State),
      s.pwr.state = .hibernate →
      s.pwr.waking = none →
      Completes (.hecVbaseWrite t core w) s fun u =>
        u.hec.held = s.hec.held ++ [.hecVbaseWrite t core w] ∧ u.hec.vbase = s.hec.vbase) ∧
  (∀ (t : Time) (s : State),
      s.pwr.state = .hibernate →
      s.pwr.waking = none →
      Completes (.clrCounts t) s fun u =>
        u.hec.held = s.hec.held ++ [.clrCounts t] ∧ u.hec.goneCnt = s.hec.goneCnt ∧ u.hec.lostClr = s.hec.lostClr) ∧
  (∀ (t b : Time) (core c : Fin 4) (w : Word) (s : State),
      (s.at t).hecPowered = true →
      s.hec.held = [.hecVbaseWrite b c w] →
      Completes (.hecFirstAccess t core) s fun u =>
        u.hec.held = [] ∧ u.hec.vbase[c] = w &&& 0xFFFFFC00)

/-- CVU_CTRL is taken field by field and VAL stays. START sets VAL to the initial value of the polynomial, with the two bytes of
the alive value folded in first where alive is enabled. A write of data folds its bytes and VAL keeps the width of the check.
FINISH sets RESULT; in mode 0 it counts ALIVE_TX up where alive is enabled; in mode 1 the check passes where the result equals
EXPECT and the alive value is not outside its window, and any other check is counted in REJ, which saturates and which CLR_REJ
of the same cycle leaves zero. VAL is written within the width of the check, and CLR_REJ zeroes REJ. -/
def Obligations.TheCheckValueUnitsCompute : Prop :=
  (∀ (t : Time) (k : Fin 2) (w : Word) (s : State),
      Completes (.cvuCtrlWrite t k w) s fun u =>
        u.cvu[k].poly = w.setWidth 2 ∧ u.cvu[k].aliveEn = w.getLsbD 2 ∧ u.cvu[k].mode = w.getLsbD 3 ∧
        u.cvu[k].window = (w >>> 4).setWidth 4 ∧ u.cvu[k].sync = w.getLsbD 8 ∧ u.cvu[k].val = s.cvu[k].val) ∧
  (∀ (t : Time) (k : Fin 2) (s : State),
      s.cvu[k].aliveEn = true →
      Completes (.start t k) s fun u =>
        u.cvu[k].val = crcFold s.cvu[k].poly (crcInit s.cvu[k].poly)
          (leBytes 2 (if s.cvu[k].mode then s.cvu[k].aliveRx else s.cvu[k].aliveTx).toNat)) ∧
  (∀ (t : Time) (k : Fin 2) (s : State),
      s.cvu[k].aliveEn = false →
      Completes (.start t k) s fun u =>
        u.cvu[k].val = crcInit s.cvu[k].poly) ∧
  (∀ (t : Time) (k : Fin 2) (width : Nat) (w : Word) (s : State),
      Completes (.cvuData t k width w) s fun u =>
        u.cvu[k].val = crcFold s.cvu[k].poly s.cvu[k].val (leBytes (min width 4) w.toNat) &&& crcMask s.cvu[k].poly) ∧
  (∀ (t : Time) (k : Fin 2) (s : State),
      s.cvu[k].mode = false →
      Completes (.finish t k) s fun u =>
        u.cvu[k].result = (s.cvu[k].val ^^^ crcXorout s.cvu[k].poly) &&& crcMask s.cvu[k].poly ∧
        u.cvu[k].aliveTx = (if s.cvu[k].aliveEn then s.cvu[k].aliveTx + 1 else s.cvu[k].aliveTx) ∧ u.cvu[k].rej = s.cvu[k].rej) ∧
  (∀ (t : Time) (k : Fin 2) (s : State),
      s.cvu[k].mode = true →
      Completes (.finish t k) s fun u =>
        u.cvu[k].result = (s.cvu[k].val ^^^ crcXorout s.cvu[k].poly) &&& crcMask s.cvu[k].poly ∧
        u.cvu[k].pass = (u.cvu[k].result == s.cvu[k].expect &&& crcMask s.cvu[k].poly && !s.cvu[k].aliveOut) ∧
        u.cvu[k].rej = (if u.cvu[k].pass || s.cvu[k].rej == 0xFFFFFFFF || s.cvu[k].clrAt == some u.clk.now then s.cvu[k].rej else s.cvu[k].rej + 1)) ∧
  (∀ (t : Time) (k : Fin 2) (w : Word) (s : State),
      Completes (.cvuValWrite t k w) s fun u =>
        u.cvu[k].val = w &&& crcMask s.cvu[k].poly) ∧
  (∀ (t : Time) (k : Fin 2) (s : State),
      Completes (.clrRej t k) s fun u =>
        u.cvu[k].rej = 0 ∧ u.cvu[k].val = s.cvu[k].val)

/-- An OPEN from the network with an idle time of 10 to 3600 s opens the lowest free session for its sender at level 0; CLOSE of
an open session empties it; a request whose operation is none of R296's, after VERSION and form, is answered 0x0001 and changes
nothing of the sessions but when they were last heard. READ answers the entry's value, or why there is none. The challenge is 16
bytes, kept with its time, and answered; an answer to it within 10 s under the key of its level raises the session to that
level, and any other answer of the right length, to a challenge or to none, leaves the level and counts a refusal, the third of
which bars the session for 60 s; while the bar stands an answer counts nothing. SessionLevel written lowers the level. -/
def Obligations.SessionsOpenReadAndClose : Prop :=
  (∀ (t : Time) (src : SdpSrc) (mac : Mac) (tag : Option Tag) (p : List Byte) (i : Fin 5) (s : State),
      src = .net mac tag p →
      s.deServes = true →
      s.inTurn src = true →
      (parseSdp p).op = opOpen →
      formAbort p (parseSdp p) true = none →
      (parseSdp p).flags.testBit 1 = false →
      (parseSdp p).data.length = 2 →
      10 ≤ leNat (parseSdp p).data →
      leNat (parseSdp p).data ≤ 3600 →
      (((List.finRange 5).find? fun (j : Fin 5) => decide (0 < j.val) && !s.sdp.sessions[j].opened) = some i) →
      Completes (.sdpOpen t src) s fun u =>
        u.sdp.sessions[i].opened = true ∧ u.sdp.sessions[i].mac = mac ∧ u.sdp.sessions[i].idle = leNat (parseSdp p).data ∧
        u.sdp.sessions[i].level = 0 ∧ u.sdp.sessions[i].pending = [] ∧ u.sdp.sessions[i].xfer = none) ∧
  (∀ (t : Time) (src : SdpSrc) (i : Fin 5) (q : SdpReq) (s : State),
      s.stands src i q →
      q.op = opClose →
      Completes (.sdpClose t src) s fun u =>
        u.sdp.sessions[i] = {}) ∧
  (∀ (t : Time) (src : SdpSrc) (q : SdpReq) (s : State),
      s.deServes = true →
      s.payloadOf src = some q.whole →
      s.inTurn src = true →
      parseSdp q.whole = q →
      20 ≤ q.whole.length →
      q.ver = 1 →
      knownOp q.op = false →
      Completes (.unknownOp t src) s fun u =>
        u.sdp.work = s.sdp.work ∧ u.sdp.txn = s.sdp.txn ∧ u.nv.cfg = s.nv.cfg ∧ u.nv.journal = s.nv.journal ∧
        (∀ j : Fin 5, u.sdp.sessions[j] = { s.sdp.sessions[j] with lastAt := u.sdp.sessions[j].lastAt }) ∧
        (src = .mailbox → s.sdp.sessions[0].authed = false →
          u.host.mailbox.staged = some (packed q (.error (abMalformed, 0)) false q.key q.sess none))) ∧
  (∀ (t : Time) (src : SdpSrc) (i : Fin 5) (q : SdpReq) (r : DRow) (v : List Byte) (s : State),
      s.stands src i q →
      s.unhindered i q →
      q.op = opRead →
      findRow q.key = .ok r →
      r.acc ≠ .wo →
      r.typ ≠ .domain →
      ((s.taken t src i q).readValue i q.key r).1 = .ok v →
      v.length ≤ segSize (onNet src) →
      Completes (.sdpRead t src) s fun u =>
        u.replied src i q (.ok v) false) ∧
  (∀ (t : Time) (src : SdpSrc) (i : Fin 5) (q : SdpReq) (a : Abort) (s : State),
      s.stands src i q →
      s.unhindered i q →
      q.op = opRead →
      findRow q.key = .error a →
      Completes (.sdpRead t src) s fun u =>
        u.replied src i q (.error a) false ∧ u.sdp.work = s.sdp.work) ∧
  (∀ (t : Time) (src : SdpSrc) (i : Fin 5) (q : SdpReq) (s : State),
      s.stands src i q →
      s.unhindered i q →
      q.op = opRead →
      q.key = keyChallenge →
      Completes (.challenge t src) s fun u =>
        (u.sdp.sessions[i].challenge.any fun c => c.1.length == 16 && c.2 == u.clk.now) = true ∧
        u.replied src i q (.ok ((u.sdp.sessions[i].challenge.map fun c => c.1).getD [])) false) ∧
  (∀ (t : Time) (src : SdpSrc) (i : Fin 5) (q : SdpReq) (lvl : Nat) (c : List Byte) (a : Time) (s : State),
      s.stands src i q →
      s.unhindered i q →
      q.op = opWrite →
      q.key = keyResponse →
      q.flags.testBit 0 = false →
      q.data.length = 9 →
      lvl = (q.data.head?.getD 0).toNat →
      1 ≤ lvl →
      lvl ≤ 3 →
      s.sdp.sessions[i].barUntil = none →
      s.sdp.sessions[i].challenge = some (c, a) →
      (s.at t).clk.now ≤ a + secs 10 →
      s.nv.keys.getD (s.levelKeySlot (lvl - 1)) [] ≠ [] →
      s.test.authFail = false →
      q.data.drop 1 = (aesCmac (s.nv.keys.getD (s.levelKeySlot (lvl - 1)) []) (c ++ leBytes 2 i.val ++ leBytes 1 lvl)).take 8 →
      Completes (.response t src) s fun u =>
        u.sdp.sessions[i].level = lvl ∧ u.sdp.sessions[i].refusals = 0 ∧ u.sdp.sessions[i].challenge = none ∧
        u.replied src i q (.ok []) false) ∧
  (∀ (t : Time) (src : SdpSrc) (i : Fin 5) (q : SdpReq) (lvl : Nat) (c : List Byte) (a : Time) (s : State),
      s.stands src i q →
      s.unhindered i q →
      q.op = opWrite →
      q.key = keyResponse →
      q.flags.testBit 0 = false →
      q.data.length = 9 →
      s.sdp.sessions[i].barUntil = none →
      lvl = (q.data.head?.getD 0).toNat →
      1 ≤ lvl →
      lvl ≤ 3 →
      s.sdp.sessions[i].challenge = some (c, a) →
      ¬ ((s.at t).clk.now ≤ a + secs 10 ∧ s.nv.keys.getD (s.levelKeySlot (lvl - 1)) [] ≠ [] ∧ s.test.authFail = false ∧
        q.data.drop 1 = (aesCmac (s.nv.keys.getD (s.levelKeySlot (lvl - 1)) []) (c ++ leBytes 2 i.val ++ leBytes 1 lvl)).take 8) →
      Completes (.response t src) s fun u =>
        u.sdp.sessions[i].level = s.sdp.sessions[i].level ∧ u.nv.refusedRaises = s.nv.refusedRaises + 1 ∧
        u.sdp.sessions[i].refusals = (if 2 ≤ s.sdp.sessions[i].refusals then 0 else s.sdp.sessions[i].refusals + 1) ∧
        u.sdp.sessions[i].barUntil = (if 2 ≤ s.sdp.sessions[i].refusals then some (u.clk.now + secs 60) else none) ∧
        u.sdp.sessions[i].challenge = none ∧ u.replied src i q (.error (abChallenge, 0)) false) ∧
  (∀ (t : Time) (src : SdpSrc) (i : Fin 5) (q : SdpReq) (s : State),
      s.stands src i q →
      s.unhindered i q →
      q.op = opWrite →
      q.key = keyResponse →
      q.flags.testBit 0 = false →
      q.data.length = 9 →
      s.sdp.sessions[i].barUntil = none →
      1 ≤ (q.data.head?.getD 0).toNat →
      (q.data.head?.getD 0).toNat ≤ 3 →
      s.sdp.sessions[i].challenge = none →
      Completes (.response t src) s fun u =>
        u.sdp.sessions[i].level = s.sdp.sessions[i].level ∧ u.nv.refusedRaises = s.nv.refusedRaises + 1 ∧
        u.sdp.sessions[i].refusals = (if 2 ≤ s.sdp.sessions[i].refusals then 0 else s.sdp.sessions[i].refusals + 1) ∧
        u.sdp.sessions[i].barUntil = (if 2 ≤ s.sdp.sessions[i].refusals then some (u.clk.now + secs 60) else none) ∧
        u.replied src i q (.error (abChallenge, 0)) false) ∧
  (∀ (t : Time) (src : SdpSrc) (i : Fin 5) (q : SdpReq) (s : State),
      s.stands src i q →
      s.unhindered i q →
      q.op = opWrite →
      q.key = keyResponse →
      q.flags.testBit 0 = false →
      q.data.length = 9 →
      s.sdp.sessions[i].barUntil = none →
      ((q.data.head?.getD 0).toNat = 0 ∨ 3 < (q.data.head?.getD 0).toNat) →
      Completes (.response t src) s fun u =>
        u.sdp.sessions[i].level = s.sdp.sessions[i].level ∧ u.nv.refusedRaises = s.nv.refusedRaises + 1 ∧
        u.sdp.sessions[i].refusals = (if 2 ≤ s.sdp.sessions[i].refusals then 0 else s.sdp.sessions[i].refusals + 1) ∧
        u.sdp.sessions[i].barUntil = (if 2 ≤ s.sdp.sessions[i].refusals then some (u.clk.now + secs 60) else none) ∧
        u.replied src i q (.error (abUnreachable, 0)) false) ∧
  (∀ (t : Time) (src : SdpSrc) (i : Fin 5) (q : SdpReq) (b : Time) (s : State),
      s.stands src i q →
      s.unhindered i q →
      q.op = opWrite →
      q.key = keyResponse →
      q.flags.testBit 0 = false →
      q.data.length = 9 →
      s.sdp.sessions[i].barUntil = some b →
      Completes (.response t src) s fun u =>
        u.sdp.sessions[i].level = s.sdp.sessions[i].level ∧ u.sdp.sessions[i].barUntil = some b ∧ u.nv.refusedRaises = s.nv.refusedRaises ∧
        u.replied src i q (.error (abBarred,
          ((s.at t).unstatedRound (((b - (s.at t).clk.now : Nat) : Rat) / 1000000000)).1.toNat)) false) ∧
  (∀ (t : Time) (src : SdpSrc) (i : Fin 5) (q : SdpReq) (r : DRow) (s : State),
      s.granted t src i q r →
      q.key = keyLevel →
      Completes (.sessionLevel t src) s fun u =>
        u.sdp.sessions[i].level = leNat q.data ∧ u.replied src i q (.ok []) false)

/-- READ_INIT opens a transfer of the entry's value and answers its length; READ_SEG of the segment that is due answers its
bytes, LAST with the last of them; WRITE_INIT opens a transfer of its size; a WRITE_SEG of a full segment that is due and not
the last is kept; XFER_ABORT ends a transfer that has segments still to come. TXN_BEGIN without an open transaction or a journal
opens one under the next number; a write with TXN is held in it and takes effect nowhere; TXN_END of settings that the
supervisors accept, its store writes whole, leaves no transaction and an idle journal of that number; TXN_DISCARD drops it.
ROLLBACK and RERUN of an interrupted journal, its store writes whole, leave it idle. -/
def Obligations.TransfersAndTransactionsRun : Prop :=
  (∀ (t : Time) (src : SdpSrc) (i : Fin 5) (q : SdpReq) (r : DRow) (v : List Byte) (s : State),
      s.stands src i q →
      s.unhindered i q →
      q.op = opReadInit →
      s.sdp.sessions[i].xfer = none →
      findRow q.key = .ok r →
      r.acc ≠ .wo →
      ((s.taken t src i q).readValue i q.key r).1 = .ok v →
      Completes (.readInit t src) s fun u =>
        u.sdp.sessions[i].xfer = some { key := q.key, write := false, data := v, size := v.length, next := 0, lastAt := u.clk.now } ∧
        u.replied src i q (.ok (leBytes 4 v.length)) false) ∧
  (∀ (t : Time) (src : SdpSrc) (i : Fin 5) (q : SdpReq) (f : Xfer) (s : State),
      s.stands src i q →
      s.unhindered i q →
      q.op = opReadSeg →
      s.sdp.sessions[i].xfer = some f →
      f.write = false →
      q.segNo = f.next →
      f.done (segSize (onNet src)) = false →
      Completes (.readSeg t src) s fun u =>
        u.sdp.sessions[i].xfer = some { f with next := f.next + 1, lastAt := u.clk.now } ∧
        u.replied src i q (.ok ((f.data.drop (q.segNo * segSize (onNet src))).take (segSize (onNet src))))
          (decide (f.data.length ≤ (q.segNo + 1) * segSize (onNet src)))) ∧
  (∀ (t : Time) (src : SdpSrc) (i : Fin 5) (q : SdpReq) (r : DRow) (s : State),
      s.stands src i q →
      s.unhindered i q →
      q.op = opWriteInit →
      s.sdp.sessions[i].xfer = none →
      q.flags.testBit 0 = false →
      q.data.length = 4 →
      dictRow q.key = some r →
      r.acc ≠ .ro →
      r.acc ≠ .const →
      r.level ≤ s.sdp.sessions[i].level →
      q.key ≠ keyImage →
      Completes (.writeInit t src) s fun u =>
        u.sdp.sessions[i].xfer = some { key := q.key, write := true, data := [], size := leNat q.data, next := 0, lastAt := u.clk.now } ∧
        u.replied src i q (.ok []) false) ∧
  (∀ (t : Time) (src : SdpSrc) (i : Fin 5) (q : SdpReq) (f : Xfer) (s : State),
      s.stands src i q →
      s.unhindered i q →
      q.op = opWriteSeg →
      s.sdp.sessions[i].xfer = some f →
      f.write = true →
      q.segNo = f.next →
      f.done (segSize (onNet src)) = false →
      q.flags.testBit 2 = false →
      q.data.length = segSize (onNet src) →
      Completes (.writeSeg t src) s fun u =>
        u.sdp.sessions[i].xfer = some { f with data := f.data ++ q.data, next := f.next + 1, lastAt := u.clk.now } ∧
        u.replied src i q (.ok []) false) ∧
  (∀ (t : Time) (src : SdpSrc) (i : Fin 5) (q : SdpReq) (f : Xfer) (s : State),
      s.stands src i q →
      s.unhindered i q →
      q.op = opXferAbort →
      s.sdp.sessions[i].xfer = some f →
      f.done (segSize (onNet src)) = false →
      Completes (.xferAbort t src) s fun u =>
        u.sdp.sessions[i].xfer = none ∧ u.sdp.sessions[i].xferOver = true ∧
        u.replied src i q (.ok []) false) ∧
  (∀ (t : Time) (src : SdpSrc) (i : Fin 5) (q : SdpReq) (s : State),
      s.stands src i q →
      s.unhindered i q →
      q.op = opTxnBegin →
      s.sdp.txn = none →
      s.nv.journal.state ≠ 2 →
      s.nv.journal.state ≠ 3 →
      Completes (.txnBegin t src) s fun u =>
        u.sdp.txn = some { sess := i, number := s.nv.journal.next, lastAt := u.clk.now } ∧
        u.nv.journal.next = s.nv.journal.next + 1 ∧ u.replied src i q (.ok (leBytes 4 s.nv.journal.next)) false) ∧
  (∀ (t : Time) (src : SdpSrc) (i : Fin 5) (q : SdpReq) (r : DRow) (x : Txn) (s : State),
      s.stands src i q →
      s.unhindered i q →
      q.op = opWrite →
      q.flags.testBit 0 = true →
      dictRow q.key = some r →
      checkValue s.sdp.sessions[i].level q.key r q.data = none →
      keyRwt q.key = false →
      s.sdp.txn = some x →
      x.sess = i →
      x.items.length < 64 →
      Completes (.sdpWrite t src) s fun u =>
        u.sdp.txn = some { x with items := holdItem q.key q.data x.items, lastAt := u.clk.now } ∧ u.sdp.work = s.sdp.work ∧
        u.nv.cfg = s.nv.cfg ∧ u.replied src i q (.ok []) false) ∧
  (∀ (t : Time) (src : SdpSrc) (i : Fin 5) (q : SdpReq) (x : Txn) (s : State),
      s.stands src i q →
      s.unhindered i q →
      q.op = opTxnEnd →
      s.sdp.txn = some x →
      x.sess = i →
      s.nv.journal.state = 0 →
      (x.items.all (fun e => cfgKey e.1) = true) →
      ((s.staged t src i q).bothJudgeTxn (fun v => (s.staged t src i q).judgeTxn v i x.items) = none) →
      Completes (.txnEnd t src .whole) s fun u =>
        u.sdp.txn = none ∧ u.nv.journal.state = 0 ∧ u.nv.journal.number = x.number ∧
        u.nv.journal.items.map (fun e => (e.1, e.2.2)) = x.items ∧ u.replied src i q (.ok []) false) ∧
  (∀ (t : Time) (src : SdpSrc) (i : Fin 5) (q : SdpReq) (x : Txn) (s : State),
      s.stands src i q →
      s.unhindered i q →
      q.op = opTxnDiscard →
      s.sdp.txn = some x →
      x.sess = i →
      Completes (.txnDiscard t src) s fun u =>
        u.sdp.txn = none ∧ u.sdp.work = s.sdp.work ∧ u.replied src i q (.ok []) false) ∧
  (∀ (t : Time) (src : SdpSrc) (i : Fin 5) (q : SdpReq) (r : DRow) (s : State),
      s.granted t src i q r →
      q.key = keyRollback →
      q.data = [1] →
      s.nv.journal.state = 3 →
      Completes (.rollback t src .whole) s fun u =>
        u.nv.journal.state = 0 ∧ u.nv.journal.back = true ∧ u.replied src i q (.ok []) false) ∧
  (∀ (t : Time) (src : SdpSrc) (i : Fin 5) (q : SdpReq) (r : DRow) (s : State),
      s.granted t src i q r →
      q.key = keyRerun →
      q.data = [1] →
      s.nv.journal.state = 3 →
      Completes (.rerun t src .whole) s fun u =>
        u.nv.journal.state = 0 ∧ u.nv.journal.back = false ∧ u.replied src i q (.ok []) false)

/-- A write that the supervisors accept: a setting is the working value at once and the stored one; a two-key setting joins the
session's pending set, held from now. PendingDiscard empties the set; WaitingCancel takes the waiting set of that number away
and no other; RecAdvance moves the cursor to the next record; NoEntryRelease with 1 ends the braking-loss latch; ScanNow makes a
scan of the channel due, ProofNow a proof test of it, from now; ReleaseOverride takes the override from the working
configuration; a PendingCommit of a deferred set gives it the next number and it waits. -/
def Obligations.WritesTakeEffect : Prop :=
  (∀ (t : Time) (src : SdpSrc) (i : Fin 5) (q : SdpReq) (r : DRow) (s : State),
      s.granted t src i q r →
      cfgKey q.key = true →
      r.acc ≠ .rwt →
      Completes (.sdpWrite t src) s fun u =>
        kvGet q.key u.sdp.work = some q.data ∧ kvGet q.key u.nv.cfg = some q.data ∧
        u.replied src i q (.ok []) false) ∧
  (∀ (t : Time) (src : SdpSrc) (i : Fin 5) (q : SdpReq) (r : DRow) (s : State),
      s.granted t src i q r →
      r.acc = .rwt →
      Completes (.sdpWrite t src) s fun u =>
        kvGet q.key u.sdp.sessions[i].pending = some q.data ∧ u.sdp.sessions[i].pendAt = u.clk.now ∧
        kvGet q.key u.sdp.work = kvGet q.key s.sdp.work ∧ u.replied src i q (.ok []) false) ∧
  (∀ (t : Time) (src : SdpSrc) (i : Fin 5) (q : SdpReq) (r : DRow) (s : State),
      s.granted t src i q r →
      q.key = keyDiscard →
      q.data = [1] →
      Completes (.pendingDiscard t src) s fun u =>
        u.sdp.sessions[i].pending = [] ∧ u.replied src i q (.ok []) false) ∧
  (∀ (t : Time) (src : SdpSrc) (i : Fin 5) (q : SdpReq) (r : DRow) (s : State),
      s.granted t src i q r →
      q.key = keyCancel →
      Completes (.waitingCancel t src) s fun u =>
        u.nv.waiting = s.nv.waiting.filter (fun w => w.number != leNat q.data) ∧ u.replied src i q (.ok []) false) ∧
  (∀ (t : Time) (src : SdpSrc) (i : Fin 5) (q : SdpReq) (r : DRow) (s : State),
      s.granted t src i q r →
      q.key = keyAdvance →
      q.data = [1] →
      s.sdp.sessions[i].recCursor < s.nv.mem.recs.length →
      Completes (.recAdvance t src) s fun u =>
        u.sdp.sessions[i].recCursor = s.sdp.sessions[i].recCursor + 1 ∧ u.replied src i q (.ok []) false) ∧
  (∀ (t : Time) (src : SdpSrc) (i : Fin 5) (q : SdpReq) (r : DRow) (sec : Fin 4) (s : State),
      s.granted t src i q r →
      isNoEntryRelease q.key = true →
      q.data = [1] →
      sec = secOfKey 0x2200 q.key →
      Completes (.noEntryRelease t src) s fun u =>
        u.keep.braking[sec] = false ∧ u.replied src i q (.ok []) false) ∧
  (∀ (t : Time) (src : SdpSrc) (i : Fin 5) (q : SdpReq) (r : DRow) (c : Fin 16) (s : State),
      s.granted t src i q r →
      q.key = keyScanNow →
      leNat q.data = c.val →
      s.fe.scans[c].due = false →
      Completes (.scanNow t src) s fun u =>
        u.fe.scans[c].due = true ∧ u.fe.scans[c].dueAt = u.clk.now ∧ u.replied src i q (.ok []) false) ∧
  (∀ (t : Time) (src : SdpSrc) (i : Fin 5) (q : SdpReq) (r : DRow) (c : Fin 16) (s : State),
      s.granted t src i q r →
      q.key = keyProofNow →
      leNat q.data = c.val →
      Completes (.proofNow t src) s fun u =>
        u.eng.proofs[c].due = true ∧ u.eng.proofs[c].dueAt = u.clk.now ∧ u.eng.proofs[c].doneAt = none ∧ u.replied src i q (.ok []) false) ∧
  (∀ (t : Time) (src : SdpSrc) (i : Fin 5) (q : SdpReq) (r : DRow) (s : State),
      s.granted t src i q r →
      q.key = keyRelease →
      leNat q.data ≠ 0xFFFFFFFF →
      kvWf s.sdp.work = true →
      Completes (.releaseOverride t src) s fun u =>
        kvGet (leNat q.data) u.sdp.work = none ∧ u.replied src i q (.ok []) false) ∧
  (∀ (t : Time) (src : SdpSrc) (i : Fin 5) (q : SdpReq) (r : DRow) (s : State),
      s.granted t src i q r →
      q.key = keyCommit →
      deferredSet s.sdp.sessions[i].pending = true →
      Completes (.pendingCommit t src) s fun u =>
        u.sdp.sessions[i].pending = [] ∧ u.nv.nextSet = s.nv.nextSet + 1 ∧
        u.nv.waiting = s.nv.waiting ++ [⟨s.nv.nextSet, u.tbNow,
          highestLevel (s.sdp.sessions[i].pending.map fun e => e.1), s.sdp.sessions[i].pending, s.sdp.sessions[i].raiseSlot⟩] ∧
        u.replied src i q (.ok []) false)

/-- A commit that the supervisors accept of a set of one entry applies between the causes and the outcomes of their step, and
the rest of the step follows. It does this: EpochStrike makes the epoch of every section it names 0 and leaves it RESTORING in
every serving supervisor that has it configured, UNCONFIGURED in one that has not; a sweep request makes the section PREPARED
with balance 0 in every serving supervisor; a direct clear makes it CLEAR by route 5 with balance 0 and lifts its bar;
ReReference forgets the temperature coefficients of the channels it names; BemfRelease ends the witness in every serving
supervisor; a key is taken into its slot, all zeros empty it; the entries of a pitch are kept, its result pending. Each leaves
the pending set empty. -/
def Obligations.TwoKeyCommitsTakeEffect : Prop :=
  (∀ (t : Time) (src : SdpSrc) (i : Fin 5) (q : SdpReq) (r : DRow) (k : Nat) (val : List Byte) (m : State) (n : Fin 4) (s : State),
      s.granted t src i q r →
      q.key = keyCommit →
      s.sdp.sessions[i].pending = [(k, val)] →
      m = ((s.staged t src i q).execute i q (onNet src) .whole).st →
      k = dkey 0x4021 1 →
      bitOf (leNat val) n.val = true →
      Completes (.strike t src) s fun u =>
        u.nv.secs[n].epoch = 0 ∧ (∀ v ∈ s.serving, m.sv[v].props[n].state = .restoring ∨ m.sv[v].props[n].state = .unconfigured) ∧
        u.sv = (m.evalBacks (s.taken t src i q).evalFronts.2).sv ∧ u.sdp.sessions[i].pending = [] ∧ u.replied src i q (.ok []) false) ∧
  (∀ (t : Time) (src : SdpSrc) (i : Fin 5) (q : SdpReq) (r : DRow) (k : Nat) (val : List Byte) (m : State) (v : Fin 2) (n : Fin 4) (s : State),
      s.granted t src i q r →
      q.key = keyCommit →
      s.sdp.sessions[i].pending = [(k, val)] →
      m = ((s.staged t src i q).execute i q (onNet src) .whole).st →
      0x2200 ≤ k / 256 →
      k / 256 < 0x2204 →
      k % 256 = 0x0C →
      leNat val ≠ 0 →
      v ∈ s.serving →
      n = secOfKey 0x2200 k →
      Completes (.sweepRequest t src) s fun u =>
        m.sv[v].props[n].state = .prepared ∧ m.sv[v].secs[n].b = 0 ∧
        u.sv = (m.evalBacks (s.taken t src i q).evalFronts.2).sv ∧ u.sdp.sessions[i].pending = [] ∧ u.replied src i q (.ok []) false) ∧
  (∀ (t : Time) (src : SdpSrc) (i : Fin 5) (q : SdpReq) (r : DRow) (k : Nat) (val : List Byte) (m : State) (v : Fin 2) (n : Fin 4) (s : State),
      s.granted t src i q r →
      q.key = keyCommit →
      s.sdp.sessions[i].pending = [(k, val)] →
      m = ((s.staged t src i q).execute i q (onNet src) .whole).st →
      0x2200 ≤ k / 256 →
      k / 256 < 0x2204 →
      k % 256 = 0x0D →
      leNat val ≠ 0 →
      v ∈ s.serving →
      n = secOfKey 0x2200 k →
      Completes (.directClear t src) s fun u =>
        m.sv[v].props[n].state = .clear ∧ m.sv[v].props[n].route = 5 ∧ m.sv[v].secs[n].b = 0 ∧ m.keep.barred[n] = false ∧
        u.sv = (m.evalBacks (s.taken t src i q).evalFronts.2).sv ∧ u.sdp.sessions[i].pending = [] ∧ u.replied src i q (.ok []) false) ∧
  (∀ (t : Time) (src : SdpSrc) (i : Fin 5) (q : SdpReq) (r : DRow) (k : Nat) (val : List Byte) (m : State) (h : Fin 8) (j : Fin 2) (s : State),
      s.granted t src i q r →
      q.key = keyCommit →
      s.sdp.sessions[i].pending = [(k, val)] →
      m = ((s.staged t src i q).execute i q (onNet src) .whole).st →
      k / 256 = 0x3200 + h.val →
      k % 256 = 0x12 →
      bitOf (leNat val) j.val = true →
      leNat val < 4 →
      Completes (.rereference t src) s fun u =>
        u.nv.chans[chanOf h j].kapLKnown = false ∧ u.nv.chans[chanOf h j].kapHKnown = false ∧ u.eng.stats[chanOf h j].reRefd = true ∧
        u.sv = (m.evalBacks (s.taken t src i q).evalFronts.2).sv ∧ u.sdp.sessions[i].pending = [] ∧ u.replied src i q (.ok []) false) ∧
  (∀ (t : Time) (src : SdpSrc) (i : Fin 5) (q : SdpReq) (r : DRow) (k : Nat) (val : List Byte) (m : State) (v : Fin 2) (n : Fin 4) (s : State),
      s.granted t src i q r →
      q.key = keyCommit →
      s.sdp.sessions[i].pending = [(k, val)] →
      m = ((s.staged t src i q).execute i q (onNet src) .whole).st →
      0x3300 ≤ k / 256 →
      k / 256 < 0x3304 →
      k % 256 = 0x0A →
      leNat val ≠ 0 →
      v ∈ s.serving →
      n = secOfKey 0x3300 k →
      Completes (.bemfRelease t src) s fun u =>
        u.sv[v].props[n].witness = false ∧
        u.sv = (m.evalBacks (s.taken t src i q).evalFronts.2).sv ∧ u.sdp.sessions[i].pending = [] ∧ u.replied src i q (.ok []) false) ∧
  (∀ (t : Time) (src : SdpSrc) (i : Fin 5) (q : SdpReq) (r : DRow) (k : Nat) (val : List Byte) (m : State) (s : State),
      s.granted t src i q r →
      q.key = keyCommit →
      s.sdp.sessions[i].pending = [(k, val)] →
      m = ((s.staged t src i q).execute i q (onNet src) .whole).st →
      k / 256 = 0x4040 →
      Completes (.keySlotLoad t src) s fun u =>
        u.nv.keys = s.nv.keys.set (k % 256 - 1) (if val.all (fun b => b == 0) then [] else val) ∧
        u.sv = (m.evalBacks (s.taken t src i q).evalFronts.2).sv ∧ u.sdp.sessions[i].pending = [] ∧ u.replied src i q (.ok []) false) ∧
  (∀ (t : Time) (src : SdpSrc) (i : Fin 5) (q : SdpReq) (r : DRow) (k : Nat) (val : List Byte) (m : State) (s : State),
      s.granted t src i q r →
      q.key = keyCommit →
      s.sdp.sessions[i].pending = [(k, val)] →
      m = ((s.staged t src i q).execute i q (onNet src) .whole).st →
      k / 256 = 0x4040 →
      Completes (.keySlotLoad t src) s fun u =>
        u.nv.keys = s.nv.keys.set (k % 256 - 1) (if val.all (fun b => b == 0) then [] else val) ∧
        u.sv = (m.evalBacks (s.taken t src i q).evalFronts.2).sv ∧ u.sdp.sessions[i].pending = [] ∧ u.replied src i q (.ok []) false) ∧
  (∀ (t : Time) (src : SdpSrc) (i : Fin 5) (q : SdpReq) (r : DRow) (s : State),
      s.granted t src i q r →
      q.key = keyCommit →
      (s.sdp.sessions[i].pending.all (fun e => e.1 / 256 == 0x4020) = true) →
      s.sdp.sessions[i].pending ≠ [] →
      Completes (.pitchCommit t src) s fun u =>
        u.nv.pitch = s.sdp.sessions[i].pending ∧ u.nv.pitchRes = 1 ∧ u.sdp.sessions[i].pending = [] ∧ u.replied src i q (.ok []) false)

/-- A request that has waited 20 ms for the supervisors waits no longer, and at the mailbox the answer is 0x0040; a network
session without a request for its idle time closes; a transfer with segments still to come and none for 5 s is abandoned; a
pending set untouched for 600 s empties; a transaction without a request for 30 s is discarded; the bar on raises ends 60 s
after the third refusal; without a usable configuration the time of the request for one is kept, 10 s apart; an image whose
check has ended is state 3 where both supervisors hold it good and 4 where one does not. -/
def Obligations.SessionTimersRunOut : Prop :=
  (∀ (t : Time) (w : WaitingReq) (l : List WaitingReq) (s : State),
      s.sdp.waiting = w :: l →
      w.at_ + ms 20 ≤ t →
      Completes (.validationTimeout t) s fun u =>
        u.sdp.waiting = l ∧ (w.src = .mailbox → u.host.mailbox.staged = some (packed (parseSdp s.sdp.sessions[0].lastReq)
          (.error (abBusy, 0)) false (parseSdp s.sdp.sessions[0].lastReq).key (parseSdp s.sdp.sessions[0].lastReq).sess none))) ∧
  (∀ (t : Time) (i : Fin 5) (s : State),
      i ≠ 0 →
      s.sdp.sessions[i].opened = true →
      s.sdp.sessions[i].lastAt + secs s.sdp.sessions[i].idle ≤ t →
      Completes (.sessionIdleTimeout t i) s fun u =>
        u.sdp.sessions[i] = {}) ∧
  (∀ (t : Time) (i : Fin 5) (f : Xfer) (s : State),
      s.sdp.sessions[i].xfer = some f →
      f.done (segSize (i != 0)) = false →
      f.lastAt + secs 5 ≤ t →
      Completes (.transferTimeout t i) s fun u =>
        u.sdp.sessions[i].xfer = none ∧ u.sdp.sessions[i].xferOver = true) ∧
  (∀ (t : Time) (i : Fin 5) (s : State),
      s.sdp.sessions[i].pending ≠ [] →
      s.sdp.sessions[i].pendAt + secs 600 ≤ t →
      Completes (.pendingTimeout t i) s fun u =>
        u.sdp.sessions[i].pending = []) ∧
  (∀ (t : Time) (x : Txn) (s : State),
      s.sdp.txn = some x →
      x.lastAt + secs 30 ≤ t →
      Completes (.txnTimeout t) s fun u =>
        u.sdp.txn = none) ∧
  (∀ (t a : Time) (i : Fin 5) (s : State),
      s.sdp.sessions[i].barUntil = some a →
      a ≤ t →
      Completes (.raiseBarExpiry t i) s fun u =>
        u.sdp.sessions[i].barUntil = none) ∧
  (∀ (t : Time) (s : State),
      s.released = true →
      s.sdp.posState ≠ 0 →
      s.net.trailers = true →
      (s.sdp.wantedAt = 0 ∨ s.sdp.wantedAt + secs 10 ≤ t) →
      Completes (.configWanted t) s fun u =>
        u.sdp.wantedAt = u.clk.now) ∧
  (∀ (t : Time) (okA okB : Bool) (version : Word) (s : State),
      s.released = true →
      s.nv.images.state = 2 →
      Completes (.imageCheckDone t okA okB version) s fun u =>
        u.nv.images.state = (if okA && okB then 3 else 4) ∧
        u.nv.images.version[(if s.nv.images.active = 0 then 1 else 0 : Fin 2)] =
          (if okA && okB then version else s.nv.images.version[(if s.nv.images.active = 0 then 1 else 0 : Fin 2)]))

/-- Where Hasp frames are sent, the gate of a port closes for the next SEND_TIME on its side. At a SEND_TIME of an enabled
connection that has not been used, the telegram of the period leaves or the supervisors' telegrams differ and the period is
counted; the SEND_TIME is used up. With one supervisor serving, and in HIBERNATE with its template alone, it leaves: ALIVE
advances by one. -/
def Obligations.TelegramsAreSentAtTheirTimes : Prop :=
  (∀ (t : Time) (port : Fin 4) (s : State),
      s.net.stopped = false →
      s.timeGood = true →
      s.phase = .service →
      Completes (.haspGateClose t port) s fun u =>
        u.net.ports[port].gate = (s.at t).sideSend (sideOf port)) ∧
  (∀ (t st : Time) (k : Fin 8) (s : State),
      (s.at t).slotDue k = some st →
      s.mayHasp k = true →
      s.pwr.state ≠ .hibernate →
      s.serving ≠ [] →
      s.authMode k ≠ 1 →
      Completes (.haspSend t k) s fun u =>
        u.hasp.conns[k].lastSlot = some st ∧
        ((u.hasp.conns[k].alive = s.hasp.conns[k].alive + 1 ∧ u.hasp.conns[k].sent = true ∧ u.nv.assembly = s.nv.assembly) ∨
          (u.hasp.conns[k].alive = s.hasp.conns[k].alive ∧ u.nv.assembly = s.nv.assembly + 1))) ∧
  (∀ (t st : Time) (k : Fin 8) (v : Fin 2) (s : State),
      (s.at t).slotDue k = some st →
      s.mayHasp k = true →
      s.pwr.state ≠ .hibernate →
      s.serving = [v] →
      s.authMode k ≠ 1 →
      Completes (.haspSend t k) s fun u =>
        u.hasp.conns[k].lastSlot = some st ∧ u.hasp.conns[k].alive = s.hasp.conns[k].alive + 1 ∧ u.hasp.conns[k].sent = true) ∧
  (∀ (t st : Time) (k : Fin 8) (v : Fin 2) (x : Tele) (s : State),
      (s.at t).slotDue k = some st →
      s.mayHasp k = true →
      s.pwr.state = .hibernate →
      s.serving = [v] →
      s.hasp.conns[k].template[v] = some x →
      x.auth ≠ 1 →
      Completes (.hibernateHaspSend t k) s fun u =>
        u.hasp.conns[k].lastSlot = some st ∧ u.hasp.conns[k].alive = s.hasp.conns[k].alive + 1 ∧ u.hasp.conns[k].sent = true)

/-- A good Hasp frame from an address that no enabled connection has as its neighbour counts in the unknown sources, and changes
no connection. One whose form is wrong counts as a format rejection of its connection; one whose CRC fits no connection, as a
CRC rejection. One that every serving supervisor accepts, in a connection without authentication, becomes the latest telegram of
its connection in every serving supervisor, which is in service, and the lane it came from is in service. -/
def Obligations.ReceivedTelegramsAreTakenOrCounted : Prop :=
  (∀ (t : Time) (port : Fin 4) (f : Frame) (s : State),
      s.phase = .service →
      s.net.ports[port].link = true →
      f.fcsOk = true →
      protocolOf f = some protoHasp →
      (connections.filter (fun (k : Fin 8) => s.connEnable k && s.neighbourMac k == f.src) = []) →
      Completes (.haspReceive t port f) s fun u =>
        u.hasp.unknown = s.hasp.unknown + 1 ∧ u.hasp.conns = s.hasp.conns ∧ ∀ v : Fin 2, ∀ k : Fin 8, u.sv[v].conns[k] = s.sv[v].conns[k]) ∧
  (∀ (t : Time) (port : Fin 4) (f : Frame) (k : Fin 8) (l : List (Fin 8)) (s : State),
      s.phase = .service →
      s.net.ports[port].link = true →
      f.fcsOk = true →
      protocolOf f = some protoHasp →
      (((connections.filter fun (k : Fin 8) => s.connEnable k && s.neighbourMac k == f.src).filter fun (k : Fin 8) => s.connSide k == (sideOf port).val) = k :: l) →
      teleFormat (f.body.drop 5) = false →
      Completes (.haspReceive t port f) s fun u =>
        u.hasp.conns[k] = { s.hasp.conns[k] with rejFormat := s.hasp.conns[k].rejFormat + 1 } ∧ u.sv = s.sv) ∧
  (∀ (t : Time) (port : Fin 4) (f : Frame) (k : Fin 8) (l : List (Fin 8)) (s : State),
      s.phase = .service →
      s.net.ports[port].link = true →
      f.fcsOk = true →
      protocolOf f = some protoHasp →
      f.tag = none →
      (((connections.filter fun (k : Fin 8) => s.connEnable k && s.neighbourMac k == f.src).filter fun (k : Fin 8) => s.connSide k == (sideOf port).val) = k :: l) →
      teleFormat (f.body.drop 5) = true →
      ((k :: l).all (fun (j : Fin 8) => !crcHolds (f.body.drop 5) (s.rxConnId j)) = true) →
      Completes (.haspReceive t port f) s fun u =>
        u.hasp.conns[k] = { s.hasp.conns[k] with rejCrc := s.hasp.conns[k].rejCrc + 1 } ∧ u.sv = s.sv) ∧
  (∀ (t : Time) (port : Fin 4) (f : Frame) (k : Fin 8) (x : Tele) (s : State),
      s.phase = .service →
      s.net.ports[port].link = true →
      f.fcsOk = true →
      protocolOf f = some protoHasp →
      f.tag = none →
      (((connections.filter fun (k : Fin 8) => s.connEnable k && s.neighbourMac k == f.src).filter fun (k : Fin 8) => s.connSide k == (sideOf port).val) = [k]) →
      teleFormat (f.body.drop 5) = true →
      crcHolds (f.body.drop 5) (s.rxConnId k) = true →
      s.authMode k ≠ 1 →
      x = parseTele (f.body.drop 5) →
      x.typ = 0 →
      (s.serving.all (fun v => (s.at t).judge v k x (f.body.drop 5) == .accepted) = true) →
      s.serving ≠ [] →
      Completes (.haspReceive t port f) s fun u =>
        (∀ v : Fin 2, s.sv[v].serves = true → u.sv[v].conns[k].inService = true ∧ u.sv[v].conns[k].last = some x ∧
          u.sv[v].conns[k].lastAt = u.clk.now) ∧ u.hasp.conns[k].laneOut[laneOf port] = false)

/-- A connection for which a serving supervisor has accepted nothing for the supervision limit, 4 × HaspPeriod + 500 µs, is out
of service in both supervisors, to be initialised afresh, and the break is counted. A lane in service without a good copy for
that limit is out of service, counted. A mirror that has stayed short for it is to be initialised afresh. -/
def Obligations.ConnectionsLeaveService : Prop :=
  (∀ (t : Time) (k : Fin 8) (v : Fin 2) (s : State),
      v ∈ s.serving →
      s.sv[v].conns[k].inService = true →
      s.sv[v].conns[k].lastAt + s.superLimit ≤ t →
      Completes (.connectionTimeout t k) s fun u =>
        (∀ w : Fin 2, u.sv[w].conns[k].inService = false ∧ u.sv[w].conns[k].reinit = true ∧ u.sv[w].conns[k].farewell = false) ∧
        u.keep.breaks[k] = s.keep.breaks[k] + 1 ∧ u.nv.conns[k].loss = s.nv.conns[k].loss + 1) ∧
  (∀ (t g : Time) (k : Fin 8) (lane : Fin 2) (s : State),
      s.hasp.conns[k].laneOut[lane] = false →
      s.hasp.conns[k].laneGood[lane] = some g →
      g + s.superLimit ≤ t →
      Completes (.laneTimeout t k lane) s fun u =>
        u.hasp.conns[k].laneOut[lane] = true ∧ u.nv.conns[k].laneLoss[lane] = s.nv.conns[k].laneLoss[lane] + 1) ∧
  (∀ (t g : Time) (k : Fin 8) (v : Fin 2) (s : State),
      v ∈ s.serving →
      s.sv[v].conns[k].gapSince = some g →
      g + s.superLimit ≤ t →
      Completes (.mirrorGapTimeout t k) s fun u =>
        u.sv[v].conns[k].reinit = true ∧ u.sv[v].conns[k].gapSince = none ∧ u.sv[v].conns[k].detail = 2)

/-- At PitchTime, with a pitch pending and a supervisor that evaluates, the checks are made between the causes and the outcomes
of the evaluation step: where one fails, the result is its code and no epoch changes; where all pass and no set waits, the
result is 2, every section named has the pitch's epoch from PitchTime, is CLEAR by route 1 with balance 0 in every serving
supervisor, and is not barred, and the rest of the step follows. A set that waits alone, of one setting, and may apply after the
evaluation step is the working value and the stored one then. -/
def Obligations.PitchesAndWaitingSetsApply : Prop :=
  (∀ (t : Time) (s : State),
      s.nv.pitchRes = 1 →
      s.phase = .service →
      (s.evaluates 0 = true ∨ s.evaluates 1 = true) →
      s.pitchVal 3 ≤ (s.at t).tbNow →
      (s.at t).evalFronts.1.pitchCheck ≠ 2 →
      Completes (.pitchTime t) s fun u =>
        u.nv.pitchRes = (s.at t).evalFronts.1.pitchCheck ∧ ∀ n : Fin 4, u.nv.secs[n].epoch = s.nv.secs[n].epoch) ∧
  (∀ (t : Time) (m s : State),
      s.nv.pitchRes = 1 →
      s.phase = .service →
      (s.evaluates 0 = true ∨ s.evaluates 1 = true) →
      s.pitchVal 3 ≤ (s.at t).tbNow →
      (s.at t).evalFronts.1.pitchCheck = 2 →
      s.nv.waiting = [] →
      m = (s.at t).evalFronts.1.applyPitch.pitchDone 2 →
      Completes (.pitchTime t) s fun u =>
        u = m.evalBacks (s.at t).evalFronts.2 ∧ u.nv.pitchRes = 2 ∧
        ∀ n ∈ s.pitchSecs, u.nv.secs[n].epoch = s.pitchVal 2 ∧ u.nv.secs[n].epochStart = s.pitchVal 3 ∧
          m.keep.barred[n] = false ∧ ∀ v : Fin 2, s.sv[v].serves = true →
            m.sv[v].props[n].state = .clear ∧ m.sv[v].props[n].route = 1 ∧ m.sv[v].secs[n].b = 0) ∧
  (∀ (t : Time) (w : WaitingSet) (k : Nat) (val : List Byte) (s : State),
      (s.evaluates 0 = true ∨ s.evaluates 1 = true) →
      s.nv.waiting = [w] →
      w.items = [(k, val)] →
      cfgKey k = true →
      (s.at t).evalBoth.setReady 0 w = true →
      Completes (.deferredSetApply t) s fun u =>
        u.nv.waiting = [] ∧ kvGet k u.sdp.work = some val ∧ kvGet k u.nv.cfg = some val)

/-- The event offered next reaches the intake. With the recorder not stopped and idle, one of a class that is never suppressed
is taken for writing at once. With the recorder stopped it is discarded, counted. With the queue full it is lost to overflow,
counted. An event of another class without a token, its run not over, is suppressed and counted, and enters nowhere. The tokens
of a class return as due, and a run that is over ends. A record that fits, written without a row failure, is appended; two row
failures during a write stop the recorder with 2. -/
def Obligations.TheRecorderTakesAndWritesEvents : Prop :=
  (∀ (t : Time) (ev : RecEvent) (s : State),
      s.intake.next = some ev →
      exemptClass (eventClass ev.code) = true →
      s.nv.mem.stop = 0 →
      s.intake.writing = none →
      s.intake.queue = [] →
      s.intake.lost = none →
      (s.intake.buckets.all (fun b => !b.held) = true) →
      Completes (.recorderEvent t ev) s fun u =>
        u.intake.writing = some { ev := ev, degraded := s.keep.degraded } ∧ u.intake.queue = [] ∧ u.intake.overflow = s.intake.overflow ∧
        u.intake.suppressed = s.intake.suppressed ∧ u.intake.discarded = s.intake.discarded) ∧
  (∀ (t : Time) (ev : RecEvent) (s : State),
      s.intake.next = some ev →
      exemptClass (eventClass ev.code) = true →
      s.nv.mem.stop ≠ 0 →
      Completes (.recorderEvent t ev) s fun u =>
        u.intake.discarded = s.intake.discarded + 1 ∧ u.intake.queue = s.intake.queue ∧ u.intake.writing = s.intake.writing) ∧
  (∀ (t : Time) (ev : RecEvent) (s : State),
      s.intake.next = some ev →
      exemptClass (eventClass ev.code) = true →
      s.nv.mem.stop = 0 →
      32 ≤ s.intake.queue.length →
      Completes (.recorderEvent t ev) s fun u =>
        u.intake.overflow = s.intake.overflow + 1 ∧ u.intake.queue = s.intake.queue) ∧
  (∀ (t : Time) (ev : RecEvent) (s : State),
      s.intake.next = some ev →
      exemptClass (eventClass ev.code) = false →
      (s.intake.bucket (eventClass ev.code)).runOver (s.at t).clk.now = false →
      ((s.intake.bucket (eventClass ev.code)).refilled (s.at t).clk.now).tokens = 0 →
      Completes (.recorderEvent t ev) s fun u =>
        u.intake.suppressed = s.intake.suppressed + 1 ∧ u.intake.queue = s.intake.queue ∧ u.intake.writing = s.intake.writing ∧
        u.intake.overflow = s.intake.overflow) ∧
  (∀ (t : Time) (cls : BitVec 8) (s : State),
      Completes (.tokenRefill t cls) s fun u =>
        u.intake.bucket cls = (s.intake.bucket cls).refilled u.clk.now) ∧
  (∀ (t : Time) (cls : BitVec 8) (s : State),
      (s.intake.bucket cls).runOver (s.at t).clk.now = true →
      s.intake.hasSlot true = true →
      Completes (.suppressionRunEnd t cls) s fun u =>
        (u.intake.bucket cls).runFrom = none) ∧
  (∀ (t : Time) (n : Nat) (row : BitVec 16) (q : Queued) (s : State),
      s.intake.writing = some q →
      s.intake.clearBy = none →
      n = 0 →
      s.nv.mem.used + ((s.at t).recordBytes q).length + 28 ≤ s.nv.mem.capacity →
      Completes (.recordWritten t n row) s fun u =>
        u.nv.mem.recs = s.nv.mem.recs ++ [(s.at t).recordBytes q] ∧ u.nv.mem.used = s.nv.mem.used + ((s.at t).recordBytes q).length ∧
        u.nv.mem.stop = s.nv.mem.stop) ∧
  (∀ (t : Time) (n : Nat) (row : BitVec 16) (q : Queued) (s : State),
      s.intake.writing = some q →
      s.intake.clearBy = none →
      2 ≤ n →
      s.nv.mem.used + ((s.at t).recordBytes q).length + 28 ≤ s.nv.mem.capacity →
      Completes (.recordWritten t n row) s fun u =>
        u.nv.mem.stop = 2 ∧ u.nv.mem.recs = s.nv.mem.recs ∧ u.intake.writing = none)

/-- A link comes up where the amplitudes fit, at the level they give; where they do not, none does. A port that loses its link
is without it, and the addresses of its side are forgotten. A bad frame reaches the node nowhere and teaches nothing. A Hasp
frame, a frame to the node without trailer, and the first copy of one with a trailer reach the node; the second copy is
discarded and counted. A cut-through frame starts on a free twin port. A frame that ends is kept as sent. Addresses older than
300 s, nodes older than 60 s and old sequence numbers go; PrpEntryForgetTime after release the trailers are enabled; a
supervision frame advances the sequence number. -/
def Obligations.TheSwitchMovesFrames : Prop :=
  (∀ (t : Time) (port : Fin 4) (cap req l : Bool) (s : State),
      s.released = true →
      s.net.ports[port].link = false →
      linkLevel (s.phyAmplitude port.val) cap req = some l →
      Completes (.linkUp t port cap req) s fun u =>
        u.net.ports[port].link = true ∧ u.net.ports[port].level24 = l ∧ u.net.ports[port].asCapable = false ∧
        u.net.ports[port].exchanges = 0 ∧ u.net.ports[port].pdelayAt = u.clk.now) ∧
  (∀ (t : Time) (port : Fin 4) (cap req : Bool) (s : State),
      s.released = true →
      s.net.ports[port].link = false →
      linkLevel (s.phyAmplitude port.val) cap req = none →
      Completes (.linkUp t port cap req) s fun u =>
        u.net.ports = s.net.ports) ∧
  (∀ (t : Time) (port : Fin 4) (s : State),
      s.net.ports[port].link = true →
      Completes (.linkDown t port) s fun u =>
        u.net.ports[port].link = false ∧ ∀ e ∈ u.net.learnt, e.2.1 ≠ (sideOf port == 1)) ∧
  (∀ (t : Time) (port : Fin 4) (f : Frame) (s : State),
      s.switchOn port = true →
      badFrame f = true →
      Completes (.frameReceive t port f) s fun u =>
        u.net.delivered = s.net.delivered ∧ u.net.learnt = s.net.learnt ∧ u.net.nodes = s.net.nodes) ∧
  (∀ (t : Time) (port : Fin 4) (f : Frame) (s : State),
      s.switchOn port = true →
      badFrame f = false →
      (s.frameRow f = .hasp ∨ (s.frameRow f = .own ∧ f.prp = none)) →
      Completes (.frameReceive t port f) s fun u =>
        u.net.delivered = s.net.delivered ++ [(port, f)] ∧ (f.src, sideOf port == 1, u.clk.now) ∈ u.net.learnt) ∧
  (∀ (t : Time) (port : Fin 4) (f : Frame) (r : PrpTrailer) (s : State),
      s.switchOn port = true →
      badFrame f = false →
      s.frameRow f = .own →
      f.prp = some r →
      ((s.net.seen.any fun e => e.1 == f.src && e.2.1 == r.seqNr) = false) →
      Completes (.frameReceive t port f) s fun u =>
        u.net.delivered = s.net.delivered ++ [(port, f)] ∧ (f.src, r.seqNr, u.clk.now) ∈ u.net.seen) ∧
  (∀ (t a : Time) (port : Fin 4) (f : Frame) (r : PrpTrailer) (s : State),
      s.switchOn port = true →
      badFrame f = false →
      s.frameRow f = .own →
      f.prp = some r →
      (f.src, r.seqNr, a) ∈ s.net.seen →
      (s.at t).clk.now < a + ms s.prpEntryForgetTime →
      Completes (.frameReceive t port f) s fun u =>
        u.net.delivered = s.net.delivered ∧ u.net.discards = s.net.discards + 1) ∧
  (∀ (t : Time) (port : Fin 4) (f : Frame) (s : State),
      s.switchOn port = true →
      s.cutThrough = true →
      (s.frameRow f).forwards = true →
      s.net.ports[twinPort port].link = true →
      s.net.ports[twinPort port].sending = none →
      s.net.ports[twinPort port].front = none →
      s.net.ports[twinPort port].gate = none →
      Completes (.cutThroughStart t port f) s fun u =>
        u.net.ports[twinPort port].sending = some { frame := f, cls := (queueOf f).val, cut := true }) ∧
  (∀ (t : Time) (port : Fin 4) (x : TxFrame) (s : State),
      s.net.ports[port].sending = some x →
      Completes (.egressFrameEnd t port) s fun u =>
        u.net.sent = s.net.sent ++ [(port, x)] ∧ (s.net.ports[port].front = none → u.net.ports[port].sending = none)) ∧
  (∀ (t : Time) (s : State),
      Completes (.addressAgeout t) s fun u =>
        u.net.learnt = s.net.learnt.filter fun e => decide (u.clk.now < e.2.2 + secs 300)) ∧
  (∀ (t : Time) (s : State),
      Completes (.nodeTableAgeout t) s fun u =>
        u.net.nodes = s.net.nodes.filter (fun e => decide (u.clk.now < e.2 + secs 60)) ∧
        u.net.seen = s.net.seen.filter fun e => decide (u.clk.now < e.2.2 + ms s.prpEntryForgetTime)) ∧
  (∀ (t : Time) (s : State),
      s.released = true →
      s.pins.releaseAt + ms s.prpEntryForgetTime ≤ t →
      Completes (.prpTrailerEnable t) s fun u =>
        u.net.trailers = true) ∧
  (∀ (t : Time) (s : State),
      s.net.trailers = true →
      s.net.stopped = false →
      (s.net.superAt.all (fun a => decide (a + ms s.prpLifeCheckInterval ≤ t)) = true) →
      Completes (.supervisionFrame t) s fun u =>
        u.net.superAt = some u.clk.now ∧ u.net.seqNr = s.net.seqNr + 1)

/-- An Announce that is not worse is kept at its asCapable port. A path-delay exchange that is due is counted, and the port is
asCapable where its delay is within the threshold. The offset of a Sync on the slave port is taken from its stamp of 8 ns: it
steps the time base by it once while it acquires, and then each within 250 ns counts, the fourth in a row making it
synchronised; synchronised, one within 1 µs is slewed away. Three Sync intervals without one begin holdover, whose end is time
state 0, as is the loss of the time base's clock. The input of SYNC_PPS is locked after four edges in a row within 500 ns and
unlocked 1.5 s after the last; its output pulse begins within 50 ns of a whole second and ends 100 ms later. -/
def Obligations.TheTimeBaseFollowsItsMaster : Prop :=
  (∀ (t : Time) (port : Fin 4) (a : AnnounceInfo) (s : State),
      s.net.ports[port].link = true →
      s.net.ports[port].asCapable = true →
      (s.net.ports[port].best.all (fun b => a.source == b.source || lexLess (annVector a) (annVector b)) = true) →
      Completes (.announce t port a) s fun u =>
        u.net.ports[port].best = some a) ∧
  (∀ (t : Time) (port : Fin 4) (d : Option Nat) (s : State),
      s.net.ports[port].link = true →
      s.net.ports[port].pdelayAt ≤ t →
      Completes (.pdelayReq t port d) s fun u =>
        u.net.ports[port].exchanges = s.net.ports[port].exchanges + 1 ∧
        u.net.ports[port].asCapable = d.any (fun x => decide (x ≤ s.propDelayThreshold)) ∧
        u.net.ports[port].delay = d.getD s.net.ports[port].delay ∧
        u.net.ports[port].pdelayAt = u.clk.now + s.pdelayInterval (s.net.ports[port].exchanges + 1)) ∧
  (∀ (t gm : Time) (port : Fin 4) (s : State),
      s.tb.slave = some port →
      s.net.ports[port].link = true →
      s.tb.state = 1 →
      s.tb.stepped = false →
      Completes (.sync t port gm) s fun u =>
        u.tb.state = 1 ∧ u.tb.stepped = true ∧ u.tb.offset = 0 ∧ u.clk.slew = 0 ∧
        u.clk.tbOff = (s.at t).clk.tbOff - (((s.at t).eventStamp.1 : Int) - (gm : Int))) ∧
  (∀ (t gm : Time) (port : Fin 4) (s : State),
      s.tb.slave = some port →
      s.net.ports[port].link = true →
      s.tb.state = 1 →
      s.tb.stepped = true →
      (((s.at t).eventStamp.1 : Int) - (gm : Int)).natAbs ≤ 250 →
      Completes (.sync t port gm) s fun u =>
        u.tb.state = (if 4 ≤ s.tb.good + 1 then 2 else 1) ∧ u.tb.offset = ((s.at t).eventStamp.1 : Int) - (gm : Int)) ∧
  (∀ (t gm : Time) (port : Fin 4) (s : State),
      s.tb.slave = some port →
      s.net.ports[port].link = true →
      s.tb.state = 2 →
      (((s.at t).eventStamp.1 : Int) - (gm : Int)).natAbs ≤ 1000 →
      Completes (.sync t port gm) s fun u =>
        u.tb.state = 2 ∧ u.clk.slew = -(((s.at t).eventStamp.1 : Int) - (gm : Int)) ∧ u.tb.bad = 0) ∧
  (∀ (t : Time) (s : State),
      s.tb.state = 2 →
      s.tb.lastSync + s.syncLimit ≤ t →
      s.tb.ppsLock = false →
      s.tb.offset.natAbs ≤ 1000 →
      1 ≤ s.holdoverLimit →
      Completes (.syncTimeout t) s fun u =>
        u.tb.state = 3 ∧ u.tb.holdAt = u.clk.now) ∧
  (∀ (t : Time) (s : State),
      (s.at t).holdOver = true →
      Completes (.holdoverExpiry t) s fun u =>
        u.tb.state = 0) ∧
  (∀ (t : Time) (s : State),
      s.syncPpsMode = 1 →
      Completes (.syncPpsEdge t) s fun u =>
        u.tb.ppsAt = some u.clk.now ∧ u.tb.ppsLock = (u.tb.ppsRun == 4) ∧
        u.tb.ppsRun = (if u.tb.ppsPhase ≤ 500 then min 4 (s.tb.ppsRun + 1) else 0)) ∧
  (∀ (t a : Time) (s : State),
      s.syncPpsMode = 1 →
      s.tb.ppsAt = some a →
      a + ms 1500 ≤ t →
      Completes (.syncPpsTimeout t) s fun u =>
        u.tb.ppsLock = false ∧ u.tb.ppsRun = 0) ∧
  (∀ (t : Time) (s : State),
      s.syncPpsMode = 2 →
      s.timeGood = true →
      phaseOf (s.at t).tbNow ≤ 50 →
      Completes (.syncPpsOutput t) s fun u =>
        u.tb.ppsOut = true ∧ u.tb.ppsOutAt = u.clk.now) ∧
  (∀ (t : Time) (s : State),
      s.tb.ppsOut = true →
      s.tb.ppsOutAt + ms 100 ≤ t →
      Completes (.syncPpsPulseEnd t) s fun u =>
        u.tb.ppsOut = false) ∧
  (∀ (t : Time) (s : State),
      s.released = true →
      Completes (.tbClockLoss t) s fun u =>
        u.tb.state = 0)

/-- In service, a decision against which no wake event is latched is executed: the part is in the state decided; in LULL and
HIBERNATE no channel is excited, and in HIBERNATE every permit is low and both supervisors vote drop. One that a wake event
overtook is aborted, counted, and the part stays in its state. The wake timer, when it falls due with no decision or wake under
way in LULL or HIBERNATE, begins the wake. A wake whose time has passed ends in ACTIVE, counted, its time kept. -/
def Obligations.SleepAndWakeAreExecuted : Prop :=
  (∀ (t : Time) (d : PState) (s : State),
      s.pwr.decision = some d →
      s.pwr.latched = [] →
      s.phase = .service →
      Completes (.sleepExecute t) s fun u =>
        u.pwr.state = d ∧ u.pwr.decision = none ∧
        (d = .lull ∨ d = .hibernate → ∀ c : Fin 16, u.fe.chans[c].excOn = false ∧ u.fe.chans[c].phase ≠ .inService) ∧
        (d = .hibernate → (∀ n : Fin 4, u.keep.permits[n].latch = false) ∧ ∀ v : Fin 2, ∀ n : Fin 4, u.sv[v].votes[n] ≠ .rise)) ∧
  (∀ (t : Time) (d : PState) (s : State),
      s.pwr.decision = some d →
      s.pwr.latched ≠ [] →
      Completes (.sleepExecute t) s fun u =>
        u.pwr.state = s.pwr.state ∧ u.pwr.decision = none ∧ u.nv.sleepsAborted = s.nv.sleepsAborted + 1) ∧
  (∀ (t : Time) (s : State),
      s.phase = .service →
      s.pwr.decision = none →
      s.pwr.waking = none →
      (s.pwr.state = .lull ∨ s.pwr.state = .hibernate) →
      (s.at t).timerDue s.pwr.state = true →
      Completes (.wakeTimer t) s fun u =>
        u.pwr.waking = some (s.pwr.state, u.clk.now) ∧ u.pwr.state = s.pwr.state) ∧
  (∀ (t a : Time) (r : WakeReport) (x : PState) (s : State),
      s.phase = .service →
      s.pwr.waking = some (x, a) →
      a + wakeSpan x ≤ t →
      Completes (.wakeComplete t r) s fun u =>
        u.pwr.state = .active ∧ u.pwr.waking = none ∧ u.pwr.decision = none ∧ u.pwr.lastWake = some u.clk.now ∧
        u.nv.wakes = s.nv.wakes + 1)

/-- A request within R435's ranges in service is held where none is, and turned away with code 4 where one is. A granted head's
channels pass to the test controller. TEST_DONE gives the result: 2 where the pattern count is not the planned one, else 1 or 3
as the test was good or not, and the return starts 0.1 ms later; so does one of the moment of an abort. Without TEST_DONE by the
planned end and 1 ms the result is 2 and the return starts at once. The return ends 1.6 ms after its start: no head is isolated
and no permit is held for it. -/
def Obligations.TheIsolationTestRuns : Prop :=
  (∀ (t : Time) (h : Fin 8) (d n : Nat) (s : State),
      s.phase = .service →
      isoValid d n = true →
      s.test.iso = none →
      Completes (.isolationRequest t h d n) s fun u =>
        u.test.iso = some { head := h, durNs := us d, patterns := n }) ∧
  (∀ (t : Time) (h : Fin 8) (d n : Nat) (i : Isolation) (s : State),
      s.phase = .service →
      isoValid d n = true →
      s.test.iso = some i →
      Completes (.isolationRequest t h d n) s fun u =>
        u.test.iso = some i ∧ u.test.refusal = 4) ∧
  (∀ (t : Time) (i : Isolation) (s : State),
      s.test.iso = some i →
      i.stage = 1 →
      Completes (.isolationReady t) s fun u =>
        u.test.iso = some { i with stage := 2, startAt := u.clk.now } ∧
        ∀ j : Fin 2, u.fe.chans[chanOf i.head j].excOn = false ∧ (s.fe.chans[chanOf i.head j].phase ≠ .faulted →
          u.fe.chans[chanOf i.head j].phase = .isolated)) ∧
  (∀ (t : Time) (n : Nat) (g : Bool) (i : Isolation) (s : State),
      s.test.iso = some i →
      (i.stage = 2 ∨ i.abortAt = some (s.at t).clk.now) →
      Completes (.testDone t n g) s fun u =>
        u.test.result = (if n ≠ i.patterns then 2 else if g then 1 else 3) ∧ u.test.patterns = n ∧ u.test.planned = i.patterns ∧
        u.test.iso = some { i with stage := 3, startAt := u.clk.now + us 100, abortAt := none }) ∧
  (∀ (t : Time) (i : Isolation) (s : State),
      s.test.iso = some i →
      i.stage = 2 →
      (s.at t).isoEnd i + ms 1 ≤ (s.at t).tbNow →
      Completes (.testDoneTimeout t) s fun u =>
        u.test.result = 2 ∧ u.test.iso = some { i with stage := 3, startAt := u.clk.now, abortAt := some u.clk.now }) ∧
  (∀ (t : Time) (i : Isolation) (s : State),
      s.phase = .service →
      s.test.iso = some i →
      i.stage = 3 →
      i.startAt + us 1600 ≤ t →
      Completes (.isolationReturnDone t) s fun u =>
        u.test.iso = none ∧ u.test.drop = 0 ∧ ∀ j : Fin 2, u.fe.chans[chanOf i.head j].excOn = true)

/-- A correctable word of a supervisor's memories is counted; an uncorrectable one, and a comparator that reports no injected
mismatch, leave the supervisor failed and every permit low. The Tumbler's self-test says whether it fails. A path test of a
permit that may run is kept with its time and leaves the permit low; one that fails shuts its gate for good. While the known-
answer test fails no copy authenticates. A failing row of the recorder memory takes a spare, and a failing row of the
configuration store a spare of its own. -/
def Obligations.SelfTestsFindTheirFaults : Prop :=
  (∀ (t : Time) (v : Fin 2) (s : State),
      s.evaluates v = true →
      Completes (.memoryScrub t v .corrected) s fun u =>
        u.nv.svEcc[v] = s.nv.svEcc[v] + 1 ∧ u.sv[v].st = s.sv[v].st) ∧
  (∀ (t : Time) (v : Fin 2) (s : State),
      s.evaluates v = true →
      Completes (.memoryScrub t v .uncorrectable) s fun u =>
        u.sv[v].st = .failed ∧ u.sv[v].failCause = 2 ∧ ∀ n : Fin 4, u.keep.permits[n].latch = false) ∧
  (∀ (t : Time) (v : Fin 2) (s : State),
      s.evaluates v = true →
      Completes (.comparatorTest t v false) s fun u =>
        u.sv[v].st = .failed ∧ u.sv[v].failCause = 1 ∧ ∀ n : Fin 4, u.keep.permits[n].latch = false) ∧
  (∀ (t : Time) (v : Fin 2) (s : State),
      s.evaluates v = true →
      Completes (.comparatorTest t v true) s fun u =>
        u = s.at t) ∧
  (∀ (t : Time) (ok : Bool) (s : State),
      s.phase = .service →
      s.pwr.state ≠ .hibernate →
      Completes (.tumblerTest t ok) s fun u =>
        u.keep.tumbler.failing = !ok) ∧
  (∀ (t : Time) (n : Fin 4) (ok : Bool) (s : State),
      (s.at t).mayTestPath n = true →
      Completes (.deadboltPathTest t n ok) s fun u =>
        u.keep.permits[n].testAt = u.clk.now ∧ u.keep.permits[n].latch = false ∧
        u.keep.permits[n].gateShut = !ok) ∧
  (∀ (t : Time) (ok : Bool) (s : State),
      s.released = true →
      Completes (.authKnownAnswer t ok) s fun u =>
        u.test.authFail = !ok) ∧
  (∀ (t : Time) (row : Nat) (s : State),
      s.phase = .service →
      (s.pwr.state = .active ∨ s.pwr.state = .watch) →
      1 ≤ s.nv.repair.spares[0] →
      Completes (.mramRefresh t .recorder row false) s fun u =>
        u.nv.repair.spares[0] = s.nv.repair.spares[0] - 1 ∧ u.nv.mem.capacity = s.nv.mem.capacity) ∧
  (∀ (t : Time) (row : Nat) (s : State),
      s.phase = .service →
      (s.pwr.state = .active ∨ s.pwr.state = .watch) →
      1 ≤ s.nv.repair.left 1 row →
      Completes (.mramRefresh t .configStore row false) s fun u =>
        u.nv.repair.left 1 row = s.nv.repair.left 1 row - 1 ∧ (1, row, 0) ∈ u.nv.repair.soft)

/-- A failure of a dictionary engine that serves is counted, closes the mailbox session, which reopens at level 0, and the
second one takes the engine out. The loss of the crystal and of the RC oscillator is kept. An uncorrectable entry of the
configuration store is kept with those lost. The die's overtemperature goes to the recorder as an emergency. -/
def Obligations.InternalFaultsAreTaken : Prop :=
  (∀ (t : Time) (d : Fin 2) (s : State),
      s.released = true →
      s.sdp.deOut[d] = false →
      Completes (.deFailure t d) s fun u =>
        u.sdp.deFails[d] = s.sdp.deFails[d] + 1 ∧ u.sdp.deOut[d] = decide (2 ≤ s.sdp.deFails[d] + 1) ∧
        u.sdp.sessions[0] = { opened := true, ledCursor := s.led.newestSeq }) ∧
  (∀ (t : Time) (s : State),
      s.released = true →
      Completes (.crystalLoss t) s fun u =>
        u.pwr.crystalLost = true ∧ u.pwr.state = s.pwr.state) ∧
  (∀ (t : Time) (s : State),
      s.released = true →
      Completes (.rcLoss t) s fun u =>
        u.pwr.rcLost = true ∧ u.pwr.state = s.pwr.state) ∧
  (∀ (t : Time) (key : Nat) (s : State),
      s.released = true →
      cfgKey key = true →
      s.sdp.eccBad.contains key = false →
      Completes (.storeEccError t key) s fun u =>
        u.sdp.eccBad = s.sdp.eccBad ++ [key]) ∧
  (∀ (t : Time) (s : State),
      s.released = true →
      Completes (.dieOvertemp t) s fun u =>
        u.intake.offered = s.intake.offered ++ [{ code := codeFaultRow 21, emergency := true, time := u.tbNow }])

/-- Each of these commands has its own effect, under conditions on the state and the operands alone. FAST_SAMPLE takes its raw
samples; an engine in time writes the next checkpoint, a check that fails leaves it failed, and the first decision after a
takeover ends the takeover. A core accepts the source offered to it, its first access is taken, its EOI frees the slot, its
vector base is written, CLR_COUNTS clears the counts, a core reset frees the slot. OPEN opens a session, CLOSE empties it, an
unknown operation at the mailbox is answered 0x0001, READ answers the value, a challenge is drawn, the right answer to it raises
the session, and SessionLevel sets its level. The operations of a transfer open, advance and end it; those of a transaction open
and end it; ROLLBACK and RERUN end an interrupted journal. The commits of a strike, a sweep, a direct clear, a re-reference, a
release of the witness, a key and a pitch do what they name. -/
def Obligations.SamplesChecksDeliveriesAndRequestsComplete : Prop :=
  (∀ (t : Time) (c : Fin 16) (l : List RawIn) (r s : State),
      r = (s.at t).calRun c →
      (r.samplesOnly c = true ∨ (r.feOn = true ∧ r.fe.chans[c].phase ≠ .off ∧ r.fe.chans[c].phase ≠ .isolated)) →
      Completes (.fastSample t c l) s fun u =>
        u.fe.chans[c].rawAt = u.clk.now) ∧
  (∀ (t : Time) (e : Fin 9) (w : CkptWrite) (h : Fin 8) (s : State),
      s.feOn = true →
      s.eng.wse[e].failed = false →
      s.headServed e = some h →
      (s.eng.wse[e].ckAt.all (fun a => decide (a + us 100 ≤ (s.at t).clk.now)) = true) →
      w.seq = s.eng.wse[e].seq + 1 →
      w.crcOk = true →
      w.kat = true →
      (s.at t).ckptOverdue e = false →
      Completes (.engineCheckpoint t e w) s fun u =>
        u.eng.wse[e].seq = s.eng.wse[e].seq + 1 ∧ u.eng.wse[e].failed = false) ∧
  (∀ (t : Time) (e : Fin 9) (k : EngineCheck) (s : State),
      s.feOn = true →
      s.eng.wse[e].failed = false →
      (s.at t).checkFails e k = true →
      Completes (.engineFailure t e k) s fun u =>
        u.eng.wse[e].failed = true ∧ e ∈ u.eng.declared) ∧
  (∀ (t : Time) (h : Fin 8) (s : State),
      s.feOn = true →
      s.eng.takeover[h].isSome = true →
      ((s.at t).decides (chanX h) = false ∨ (s.at t).sampleReady (chanX h) = true) →
      ((s.at t).decides (chanY h) = false ∨ (s.at t).sampleReady (chanY h) = true) →
      Completes (.takeoverFirstDecision t h) s fun u =>
        u.eng.takeover[h] = none) ∧
  (∀ (t : Time) (core : Fin 4) (n : Fin 64) (a : Word) (r s : State),
      r = (s.at t).hecFlush →
      r.hec.offer[core].isSome = true →
      r.hecOffered core = some (n, a) →
      Completes (.hecAccept t core) s fun u =>
        u.hec.slots[core].busy = true ∧ u.hec.slots[core].src = n) ∧
  (∀ (t : Time) (core : Fin 4) (r s : State),
      r = (s.at t).hecFlush.hecSample →
      r.hec.slots[core].busy = true →
      r.hec.slots[core].accessed = false →
      Completes (.hecFirstAccess t core) s fun u =>
        u.hec.slots[core].accessed = true) ∧
  (∀ (t : Time) (core : Fin 4) (w : Word) (r s : State),
      r = (s.at t).hecFlush.hecSample →
      r.hecPowered = true →
      r.hec.slots[core].busy = true →
      r.hec.slots[core].src.val = w.toNat % 64 →
      Completes (.hecEoi t core w) s fun u =>
        u.hec.slots[core].busy = false) ∧
  (∀ (t : Time) (core : Fin 4) (w : Word) (r s : State),
      r = (s.at t).hecFlush.hecSample →
      r.hecPowered = true →
      Completes (.hecVbaseWrite t core w) s fun u =>
        u.hec.vbase[core] = w &&& 0xFFFFFC00) ∧
  (∀ (t : Time) (r s : State),
      r = (s.at t).hecFlush.hecSample →
      r.hecPowered = true →
      Completes (.clrCounts t) s fun u =>
        ∀ c : Fin 4, u.hec.goneCnt[c] = if r.hec.goneAt[c] = some u.clk.now then 1 else 0) ∧
  (∀ (t : Time) (core : Fin 4) (r s : State),
      r = (s.at t).hecFlush.hecSample →
      Completes (.coreReset t core) s fun u =>
        u.hec.slots[core].busy = false) ∧
  (∀ (t : Time) (src : SdpSrc) (mac : Mac) (tag : Option Tag) (p : List Byte) (i : Fin 5) (s : State),
      src = .net mac tag p →
      s.deServes = true →
      s.inTurn src = true →
      (parseSdp p).op = opOpen →
      formAbort p (parseSdp p) true = none →
      (parseSdp p).flags.testBit 1 = false →
      (parseSdp p).data.length = 2 →
      10 ≤ leNat (parseSdp p).data →
      leNat (parseSdp p).data ≤ 3600 →
      (((List.finRange 5).find? fun (j : Fin 5) => decide (0 < j.val) && !s.sdp.sessions[j].opened) = some i) →
      Completes (.sdpOpen t src) s fun u =>
        u.sdp.sessions[i].opened = true ∧ u.sdp.sessions[i].mac = mac) ∧
  (∀ (t : Time) (src : SdpSrc) (i : Fin 5) (q : SdpReq) (s : State),
      s.stands src i q →
      q.op = opClose →
      Completes (.sdpClose t src) s fun u =>
        u.sdp.sessions[i] = {}) ∧
  (∀ (t : Time) (src : SdpSrc) (q : SdpReq) (s : State),
      s.deServes = true →
      s.payloadOf src = some q.whole →
      s.inTurn src = true →
      parseSdp q.whole = q →
      20 ≤ q.whole.length →
      q.ver = 1 →
      knownOp q.op = false →
      Completes (.unknownOp t src) s fun u =>
        src = .mailbox → s.sdp.sessions[0].authed = false →
          u.host.mailbox.staged = some (packed q (.error (abMalformed, 0)) false q.key q.sess none)) ∧
  (∀ (t : Time) (src : SdpSrc) (i : Fin 5) (q : SdpReq) (r : DRow) (v : List Byte) (s : State),
      s.stands src i q →
      s.unhindered i q →
      q.op = opRead →
      findRow q.key = .ok r →
      r.acc ≠ .wo →
      r.typ ≠ .domain →
      ((s.taken t src i q).readValue i q.key r).1 = .ok v →
      v.length ≤ segSize (onNet src) →
      Completes (.sdpRead t src) s fun u =>
        u.replied src i q (.ok v) false) ∧
  (∀ (t : Time) (src : SdpSrc) (i : Fin 5) (q : SdpReq) (s : State),
      s.stands src i q →
      s.unhindered i q →
      q.op = opRead →
      q.key = keyChallenge →
      Completes (.challenge t src) s fun u =>
        (u.sdp.sessions[i].challenge.any fun c => c.1.length == 16 && c.2 == u.clk.now) = true) ∧
  (∀ (t : Time) (src : SdpSrc) (i : Fin 5) (q : SdpReq) (lvl : Nat) (c : List Byte) (a : Time) (s : State),
      s.stands src i q →
      s.unhindered i q →
      q.op = opWrite →
      q.key = keyResponse →
      q.flags.testBit 0 = false →
      q.data.length = 9 →
      lvl = (q.data.head?.getD 0).toNat →
      1 ≤ lvl →
      lvl ≤ 3 →
      s.sdp.sessions[i].barUntil = none →
      s.sdp.sessions[i].challenge = some (c, a) →
      (s.at t).clk.now ≤ a + secs 10 →
      s.nv.keys.getD (s.levelKeySlot (lvl - 1)) [] ≠ [] →
      s.test.authFail = false →
      q.data.drop 1 = (aesCmac (s.nv.keys.getD (s.levelKeySlot (lvl - 1)) []) (c ++ leBytes 2 i.val ++ leBytes 1 lvl)).take 8 →
      Completes (.response t src) s fun u =>
        u.sdp.sessions[i].level = lvl) ∧
  (∀ (t : Time) (src : SdpSrc) (i : Fin 5) (q : SdpReq) (r : DRow) (s : State),
      s.granted t src i q r →
      q.key = keyLevel →
      Completes (.sessionLevel t src) s fun u =>
        u.sdp.sessions[i].level = leNat q.data) ∧
  (∀ (t : Time) (src : SdpSrc) (i : Fin 5) (q : SdpReq) (r : DRow) (v : List Byte) (s : State),
      s.stands src i q →
      s.unhindered i q →
      q.op = opReadInit →
      s.sdp.sessions[i].xfer = none →
      findRow q.key = .ok r →
      r.acc ≠ .wo →
      ((s.taken t src i q).readValue i q.key r).1 = .ok v →
      Completes (.readInit t src) s fun u =>
        u.sdp.sessions[i].xfer = some { key := q.key, write := false, data := v, size := v.length, next := 0, lastAt := u.clk.now }) ∧
  (∀ (t : Time) (src : SdpSrc) (i : Fin 5) (q : SdpReq) (f : Xfer) (s : State),
      s.stands src i q →
      s.unhindered i q →
      q.op = opReadSeg →
      s.sdp.sessions[i].xfer = some f →
      f.write = false →
      q.segNo = f.next →
      f.done (segSize (onNet src)) = false →
      Completes (.readSeg t src) s fun u =>
        u.sdp.sessions[i].xfer = some { f with next := f.next + 1, lastAt := u.clk.now }) ∧
  (∀ (t : Time) (src : SdpSrc) (i : Fin 5) (q : SdpReq) (r : DRow) (s : State),
      s.stands src i q →
      s.unhindered i q →
      q.op = opWriteInit →
      s.sdp.sessions[i].xfer = none →
      q.flags.testBit 0 = false →
      q.data.length = 4 →
      dictRow q.key = some r →
      r.acc ≠ .ro →
      r.acc ≠ .const →
      r.level ≤ s.sdp.sessions[i].level →
      q.key ≠ keyImage →
      Completes (.writeInit t src) s fun u =>
        u.sdp.sessions[i].xfer = some { key := q.key, write := true, data := [], size := leNat q.data, next := 0, lastAt := u.clk.now }) ∧
  (∀ (t : Time) (src : SdpSrc) (i : Fin 5) (q : SdpReq) (f : Xfer) (s : State),
      s.stands src i q →
      s.unhindered i q →
      q.op = opWriteSeg →
      s.sdp.sessions[i].xfer = some f →
      f.write = true →
      q.segNo = f.next →
      f.done (segSize (onNet src)) = false →
      q.flags.testBit 2 = false →
      q.data.length = segSize (onNet src) →
      Completes (.writeSeg t src) s fun u =>
        u.sdp.sessions[i].xfer = some { f with data := f.data ++ q.data, next := f.next + 1, lastAt := u.clk.now }) ∧
  (∀ (t : Time) (src : SdpSrc) (i : Fin 5) (q : SdpReq) (f : Xfer) (s : State),
      s.stands src i q →
      s.unhindered i q →
      q.op = opXferAbort →
      s.sdp.sessions[i].xfer = some f →
      f.done (segSize (onNet src)) = false →
      Completes (.xferAbort t src) s fun u =>
        u.sdp.sessions[i].xfer = none) ∧
  (∀ (t : Time) (src : SdpSrc) (i : Fin 5) (q : SdpReq) (s : State),
      s.stands src i q →
      s.unhindered i q →
      q.op = opTxnBegin →
      s.sdp.txn = none →
      s.nv.journal.state ≠ 2 →
      s.nv.journal.state ≠ 3 →
      Completes (.txnBegin t src) s fun u =>
        u.sdp.txn = some { sess := i, number := s.nv.journal.next, lastAt := u.clk.now }) ∧
  (∀ (t : Time) (src : SdpSrc) (i : Fin 5) (q : SdpReq) (x : Txn) (s : State),
      s.stands src i q →
      s.unhindered i q →
      q.op = opTxnEnd →
      s.sdp.txn = some x →
      x.sess = i →
      s.nv.journal.state = 0 →
      (x.items.all (fun e => cfgKey e.1) = true) →
      ((s.staged t src i q).bothJudgeTxn (fun v => (s.staged t src i q).judgeTxn v i x.items) = none) →
      Completes (.txnEnd t src .whole) s fun u =>
        u.sdp.txn = none) ∧
  (∀ (t : Time) (src : SdpSrc) (i : Fin 5) (q : SdpReq) (x : Txn) (s : State),
      s.stands src i q →
      s.unhindered i q →
      q.op = opTxnDiscard →
      s.sdp.txn = some x →
      x.sess = i →
      Completes (.txnDiscard t src) s fun u =>
        u.sdp.txn = none) ∧
  (∀ (t : Time) (src : SdpSrc) (i : Fin 5) (q : SdpReq) (r : DRow) (s : State),
      s.granted t src i q r →
      q.key = keyRollback →
      q.data = [1] →
      s.nv.journal.state = 3 →
      Completes (.rollback t src .whole) s fun u =>
        u.nv.journal.state = 0) ∧
  (∀ (t : Time) (src : SdpSrc) (i : Fin 5) (q : SdpReq) (r : DRow) (s : State),
      s.granted t src i q r →
      q.key = keyRerun →
      q.data = [1] →
      s.nv.journal.state = 3 →
      Completes (.rerun t src .whole) s fun u =>
        u.nv.journal.state = 0) ∧
  (∀ (t : Time) (src : SdpSrc) (i : Fin 5) (q : SdpReq) (r : DRow) (k : Nat) (val : List Byte) (m : State) (n : Fin 4) (s : State),
      s.granted t src i q r →
      q.key = keyCommit →
      s.sdp.sessions[i].pending = [(k, val)] →
      m = ((s.staged t src i q).execute i q (onNet src) .whole).st →
      k = dkey 0x4021 1 →
      bitOf (leNat val) n.val = true →
      Completes (.strike t src) s fun u =>
        u.nv.secs[n].epoch = 0) ∧
  (∀ (t : Time) (src : SdpSrc) (i : Fin 5) (q : SdpReq) (r : DRow) (k : Nat) (val : List Byte) (m : State) (v : Fin 2) (n : Fin 4) (s : State),
      s.granted t src i q r →
      q.key = keyCommit →
      s.sdp.sessions[i].pending = [(k, val)] →
      m = ((s.staged t src i q).execute i q (onNet src) .whole).st →
      0x2200 ≤ k / 256 →
      k / 256 < 0x2204 →
      k % 256 = 0x0C →
      leNat val ≠ 0 →
      v ∈ s.serving →
      n = secOfKey 0x2200 k →
      Completes (.sweepRequest t src) s fun u =>
        m.sv[v].props[n].state = .prepared ∧ u.sv = (m.evalBacks (s.taken t src i q).evalFronts.2).sv) ∧
  (∀ (t : Time) (src : SdpSrc) (i : Fin 5) (q : SdpReq) (r : DRow) (k : Nat) (val : List Byte) (m : State) (v : Fin 2) (n : Fin 4) (s : State),
      s.granted t src i q r →
      q.key = keyCommit →
      s.sdp.sessions[i].pending = [(k, val)] →
      m = ((s.staged t src i q).execute i q (onNet src) .whole).st →
      0x2200 ≤ k / 256 →
      k / 256 < 0x2204 →
      k % 256 = 0x0D →
      leNat val ≠ 0 →
      v ∈ s.serving →
      n = secOfKey 0x2200 k →
      Completes (.directClear t src) s fun u =>
        m.sv[v].props[n].state = .clear ∧ u.sv = (m.evalBacks (s.taken t src i q).evalFronts.2).sv) ∧
  (∀ (t : Time) (src : SdpSrc) (i : Fin 5) (q : SdpReq) (r : DRow) (k : Nat) (val : List Byte) (m : State) (h : Fin 8) (j : Fin 2) (s : State),
      s.granted t src i q r →
      q.key = keyCommit →
      s.sdp.sessions[i].pending = [(k, val)] →
      m = ((s.staged t src i q).execute i q (onNet src) .whole).st →
      k / 256 = 0x3200 + h.val →
      k % 256 = 0x12 →
      bitOf (leNat val) j.val = true →
      leNat val < 4 →
      Completes (.rereference t src) s fun u =>
        u.nv.chans[chanOf h j].kapLKnown = false ∧ u.nv.chans[chanOf h j].kapHKnown = false) ∧
  (∀ (t : Time) (src : SdpSrc) (i : Fin 5) (q : SdpReq) (r : DRow) (k : Nat) (val : List Byte) (m : State) (v : Fin 2) (n : Fin 4) (s : State),
      s.granted t src i q r →
      q.key = keyCommit →
      s.sdp.sessions[i].pending = [(k, val)] →
      m = ((s.staged t src i q).execute i q (onNet src) .whole).st →
      0x3300 ≤ k / 256 →
      k / 256 < 0x3304 →
      k % 256 = 0x0A →
      leNat val ≠ 0 →
      v ∈ s.serving →
      n = secOfKey 0x3300 k →
      Completes (.bemfRelease t src) s fun u =>
        u.sv[v].props[n].witness = false) ∧
  (∀ (t : Time) (src : SdpSrc) (i : Fin 5) (q : SdpReq) (r : DRow) (k : Nat) (val : List Byte) (m : State) (s : State),
      s.granted t src i q r →
      q.key = keyCommit →
      s.sdp.sessions[i].pending = [(k, val)] →
      m = ((s.staged t src i q).execute i q (onNet src) .whole).st →
      k / 256 = 0x4040 →
      Completes (.keySlotLoad t src) s fun u =>
        u.nv.keys = s.nv.keys.set (k % 256 - 1) (if val.all (fun b => b == 0) then [] else val)) ∧
  (∀ (t : Time) (src : SdpSrc) (i : Fin 5) (q : SdpReq) (r : DRow) (s : State),
      s.granted t src i q r →
      q.key = keyCommit →
      (s.sdp.sessions[i].pending.all (fun e => e.1 / 256 == 0x4020) = true) →
      s.sdp.sessions[i].pending ≠ [] →
      Completes (.pitchCommit t src) s fun u =>
        u.nv.pitch = s.sdp.sessions[i].pending)
end

