-- ==== Sys2Proof/Laws/Maps.lean ====
section
/-! SUPPORT. Canonical maps: setting, deleting and filtering keep the form; a read after a write. -/

namespace Sys2Proof.Machine

set_option Elab.async false
set_option linter.unusedTactic false
set_option linter.unreachableTactic false
set_option linter.unusedSimpArgs false

variable {α : Type}

/-- A canonical map is one whose keys rise strictly. -/
theorem kvWf_iff (m : List (Nat × α)) : kvWf m = true ↔ m.Pairwise fun x y => x.1 < y.1 := by
  induction m with
  | nil => simp [kvWf]
  | cons a m ih =>
    cases m with
    | nil => simp [kvWf]
    | cons b m =>
      rw [List.pairwise_cons, ← ih]
      simp only [kvWf, Bool.and_eq_true, decide_eq_true_eq]
      refine ⟨fun ⟨h, w⟩ => ⟨?_, w⟩, fun ⟨h, w⟩ => ⟨h b (by simp), w⟩⟩
      intro x hx
      rcases List.mem_cons.1 hx with rfl | hx
      · exact h
      · have := (List.pairwise_cons.1 (ih.1 w)).1 x hx
        omega

theorem kvWf_nil : kvWf ([] : List (Nat × α)) = true := rfl

theorem kvWf_filter {m : List (Nat × α)} (p : Nat × α → Bool) (h : kvWf m = true) : kvWf (m.filter p) = true :=
  (kvWf_iff _).2 (((kvWf_iff m).1 h).filter p)

/-- Values may change under their keys. -/
theorem kvWf_map {β : Type} {m : List (Nat × α)} (g : Nat × α → β) (h : kvWf m = true) :
    kvWf (m.map fun p => (p.1, g p)) = true :=
  (kvWf_iff _).2 (List.Pairwise.map _ (fun _ _ h => h) ((kvWf_iff m).1 h))

theorem kvSet_mem {k : Nat} {a : α} {m : List (Nat × α)} {x : Nat × α} (h : x ∈ kvSet k a m) : x = (k, a) ∨ x ∈ m := by
  induction m with
  | nil => simpa [kvSet] using h
  | cons b m ih =>
    simp only [kvSet] at h
    split at h
    · rcases List.mem_cons.1 h with h | h
      · exact .inl h
      · exact .inr h
    · split at h
      · rcases List.mem_cons.1 h with h | h
        · exact .inl h
        · exact .inr (List.mem_cons_of_mem _ h)
      · rcases List.mem_cons.1 h with h | h
        · exact .inr (h ▸ List.mem_cons_self)
        · rcases ih h with h | h
          · exact .inl h
          · exact .inr (List.mem_cons_of_mem _ h)

theorem kvSet_wf {k : Nat} {a : α} {m : List (Nat × α)} (h : kvWf m = true) : kvWf (kvSet k a m) = true := by
  rw [kvWf_iff] at h ⊢
  induction m with
  | nil => simp [kvSet]
  | cons b m ih =>
    have hb := List.pairwise_cons.1 h
    simp only [kvSet]
    split
    · rename_i hk
      refine List.pairwise_cons.2 ⟨fun x hx => ?_, h⟩
      rcases List.mem_cons.1 hx with rfl | hx
      · exact hk
      · have := hb.1 x hx
        simp only at hk ⊢
        omega
    · split
      · rename_i hk
        refine List.pairwise_cons.2 ⟨fun x hx => ?_, hb.2⟩
        have := hb.1 x hx
        simp only at hk this ⊢
        omega
      · rename_i h1 h2
        refine List.pairwise_cons.2 ⟨fun x hx => ?_, ih hb.2⟩
        rcases kvSet_mem hx with rfl | hx
        · simp only at h1 h2 ⊢
          omega
        · exact hb.1 x hx

theorem kvDel_sub (k : Nat) (m : List (Nat × α)) : (kvDel k m).Sublist m := by
  induction m with
  | nil => exact List.Sublist.refl _
  | cons b m ih =>
    simp only [kvDel]
    split
    · exact List.sublist_cons_self _ _
    · exact ih.cons_cons _

theorem kvDel_wf {k : Nat} {m : List (Nat × α)} (h : kvWf m = true) : kvWf (kvDel k m) = true :=
  (kvWf_iff _).2 (((kvWf_iff m).1 h).sublist (kvDel_sub k m))

/-- Read after write, same key. -/
theorem kvGet_kvSet_self {k : Nat} {a : α} (m : List (Nat × α)) : kvGet k (kvSet k a m) = some a := by
  induction m with
  | nil => simp [kvSet, kvGet]
  | cons b m ih =>
    simp only [kvSet]
    split
    · simp [kvGet]
    · split
      · simp [kvGet]
      · rename_i h
        simp only [kvGet]
        rw [if_neg h]
        exact ih

/-- Read after write, another key: it stands as before. -/
theorem kvGet_kvSet_ne {k j : Nat} {a : α} (m : List (Nat × α)) (h : j ≠ k) : kvGet j (kvSet k a m) = kvGet j m := by
  induction m with
  | nil => simp [kvSet, kvGet, Ne.symm h]
  | cons b m ih =>
    simp only [kvSet]
    split
    · simp only [kvGet]
      rw [if_neg (Ne.symm h)]
    · split
      · rename_i hb
        simp only [kvGet]
        rw [if_neg (Ne.symm h), if_neg (by omega)]
      · simp only [kvGet]
        rw [ih]

end Sys2Proof.Machine
end

