-- ==== Sys2Proof/Laws/Parity.lean ====
section
/-! SUPPORT. Odd parity of the words of the host window (R273, R277, R279). -/

namespace Sys2Proof.Machine

set_option Elab.async false
set_option linter.unusedTactic false
set_option linter.unreachableTactic false
set_option linter.unusedSimpArgs false

/-- Bit 31 apart, the ones of a word are those of its low bits. -/
theorem ones_split (w : Word) :
    ones w = (List.range 31).foldl (fun n i => n + b2n (w.getLsbD i)) 0 + b2n (w.getLsbD 31) := by
  unfold ones
  rw [List.range_succ, List.foldl_append]
  rfl

theorem ones_setTop (w : Word) (h : w.getLsbD 31 = false) : ones (w ||| 0x80000000) = ones w + 1 := by
  have hc : ∀ i < 31, (0x80000000 : Word).getLsbD i = false := by decide
  have ht : (0x80000000 : Word).getLsbD 31 = true := by decide
  rw [ones_split, ones_split, BitVec.getLsbD_or, h, ht]
  have : (List.range 31).foldl (fun n i => n + b2n ((w ||| 0x80000000).getLsbD i)) 0 =
      (List.range 31).foldl (fun n i => n + b2n (w.getLsbD i)) 0 := by
    refine List.foldl_ext _ _ _ fun n i hi => ?_
    rw [BitVec.getLsbD_or, hc i (List.mem_range.1 hi), Bool.or_false]
  rw [this]
  rfl

/-- R273: a word with its parity bit set by the rule holds an odd number of ones. -/
theorem parOk_oddPar (w : Word) : parOk (oddPar w) = true := by
  have h : (w &&& 0x7FFFFFFF).getLsbD 31 = false := by
    rw [BitVec.getLsbD_and, show (0x7FFFFFFF : Word).getLsbD 31 = false by decide, Bool.and_false]
  unfold parOk oddPar
  dsimp only
  split
  · rw [ones_setTop _ h, beq_iff_eq]; omega
  · rw [beq_iff_eq]; omega

theorem Merged.word_parOk (m : Merged) (d : Bool) : parOk (m.word d) = true := parOk_oddPar _

theorem State.skPermit_parOk (s : State) : parOk s.skPermit = true := parOk_oddPar _

end Sys2Proof.Machine
end

