-- ==== Sys2Proof/Laws/Keeps.lean ====
section
/-! SUPPORT. What every operation of the block but PERMIT_RISE keeps, as one relation between two states, and the ways to
show it of an operation built from others. -/

namespace Sys2Proof.Machine

set_option Elab.async false
set_option linter.unusedTactic false
set_option linter.unreachableTactic false
set_option linter.unusedSimpArgs false

/-- From r, the block has come to s: the same part and queue, no time and no free value going back, no permit risen, the
invariant kept. -/
def Keeps (r s : State) : Prop :=
  s.part = r.part ∧ s.pending = r.pending ∧ r.clk.now ≤ s.clk.now ∧ r.freeCount ≤ s.freeCount ∧ r.noRise s ∧ (r.Inv → s.Inv)

theorem Keeps.refl (s : State) : Keeps s s := ⟨rfl, rfl, Nat.le_refl _, Nat.le_refl _, fun _ h => h, id⟩

theorem Keeps.trans {a b c : State} (h : Keeps a b) (k : Keeps b c) : Keeps a c :=
  ⟨k.1.trans h.1, k.2.1.trans h.2.1, Nat.le_trans h.2.2.1 k.2.2.1, Nat.le_trans h.2.2.2.1 k.2.2.2.1,
    fun n x => h.2.2.2.2.1 n (k.2.2.2.2.1 n x), fun i => k.2.2.2.2.2 (h.2.2.2.2.2 i)⟩

variable {r s : State}

/-- A state that differs from s in none of the fields Keeps speaks of. -/
theorem Keeps.mk_eq {ph cl pins nv fe eng pas led sv keep trac kin host hec cvu hasp sdp net tb pwr intake test past}
    (hcl : cl.now = s.clk.now) (hnv : nv.cfg = s.nv.cfg) (hled : led.copies = s.led.copies)
    (hp : keep.permits = s.keep.permits) (hs : keep.shadow = s.keep.shadow) (hh : keep.holding = s.keep.holding)
    (hw : sdp.work = s.sdp.work) :
    Keeps r (State.mk s.pending ph cl s.part pins nv fe eng pas led sv keep trac kin host hec cvu hasp sdp net tb pwr intake
      test past s.freeCount) = Keeps r s := by
  simp only [Keeps, State.noRise, State.Inv, State.canonical, State.wordsOdd, hcl, hnv, hled, hp, hs, hh, hw]

/-- The same, said of any two states. -/
theorem Keeps.of {t : State} (h : Keeps r t) (h1 : s.part = t.part) (h2 : s.pending = t.pending) (h3 : s.clk.now = t.clk.now)
    (h4 : s.freeCount = t.freeCount) (hnv : s.nv.cfg = t.nv.cfg) (hled : s.led.copies = t.led.copies)
    (hp : s.keep.permits = t.keep.permits) (hs : s.keep.shadow = t.keep.shadow) (hh : s.keep.holding = t.keep.holding)
    (hw : s.sdp.work = t.sdp.work) : Keeps r s := by
  simpa only [Keeps, State.noRise, State.Inv, State.canonical, State.wordsOdd, h1, h2, h3, h4, hnv, hled, hp, hs, hh, hw] using h

/-- A free value drawn. -/
theorem Keeps.drawn {n : Nat} (h : Keeps r s) (hn : s.freeCount ≤ n) : Keeps r { s with freeCount := n } :=
  ⟨h.1, h.2.1, h.2.2.1, Nat.le_trans h.2.2.2.1 hn, h.2.2.2.2.1, h.2.2.2.2.2⟩

/-- Permits that fall or stay. -/
theorem Keeps.permits {p : Vector Permit 4} (h : Keeps r s)
    (hp : ∀ n : Fin 4, p[n].latch = true → s.keep.permits[n].latch = true) :
    Keeps r { s with keep := { s.keep with permits := p } } :=
  ⟨h.1, h.2.1, h.2.2.1, h.2.2.2.1, fun n x => h.2.2.2.2.1 n (hp n x), h.2.2.2.2.2⟩

/-- Words that keep their parity on the way to the host. -/
theorem Keeps.words {sh : Vector Word 4} {ho : Vector (Option Word) 4} {wa : Vector Bool 4} (h : Keeps r s)
    (hs : s.wordsOdd → (∀ n : Fin 4, parOk sh[n] = true) ∧ ∀ (n : Fin 4) (w : Word), ho[n] = some w → parOk w = true) :
    Keeps r { s with keep := { s.keep with shadow := sh, holding := ho, waiting := wa } } :=
  ⟨h.1, h.2.1, h.2.2.1, h.2.2.2.1, h.2.2.2.2.1, fun i => ⟨(h.2.2.2.2.2 i).1, hs (h.2.2.2.2.2 i).2⟩⟩

/-- A Ledger whose copies keep their form. -/
theorem Keeps.ledger {l : Ledger} (h : Keeps r s)
    (hl : kvWf s.led.copies[0] = true → kvWf s.led.copies[1] = true → kvWf l.copies[0] = true ∧ kvWf l.copies[1] = true) :
    Keeps r { s with led := l } :=
  ⟨h.1, h.2.1, h.2.2.1, h.2.2.2.1, h.2.2.2.2.1, fun i => by
    have c := h.2.2.2.2.2 i
    have := hl c.1.2.2.1 c.1.2.2.2
    exact ⟨⟨c.1.1, c.1.2.1, this.1, this.2⟩, c.2⟩⟩

/-- Entries that change under their slots. -/
theorem Keeps.mapped (g : Nat × Entry → Entry) (h : Keeps r s) :
    Keeps r { s with led := { s.led with copies :=
      #v[s.led.copies[0].map fun p => (p.1, g p), s.led.copies[1].map fun p => (p.1, g p)] } } :=
  h.ledger fun h0 h1 => ⟨kvWf_map g h0, kvWf_map g h1⟩

/-- A stored configuration that keeps its form. -/
theorem Keeps.stored {nv : NonVolatile} (h : Keeps r s) (hc : kvWf s.nv.cfg = true → kvWf nv.cfg = true) :
    Keeps r { s with nv := nv } :=
  ⟨h.1, h.2.1, h.2.2.1, h.2.2.2.1, h.2.2.2.2.1, fun i => by
    have c := h.2.2.2.2.2 i
    exact ⟨⟨hc c.1.1, c.1.2⟩, c.2⟩⟩

/-- A working configuration that keeps its form. -/
theorem Keeps.working {d : Sdp} (h : Keeps r s) (hc : kvWf s.nv.cfg = true → kvWf s.sdp.work = true → kvWf d.work = true) :
    Keeps r { s with sdp := d } :=
  ⟨h.1, h.2.1, h.2.2.1, h.2.2.2.1, h.2.2.2.2.1, fun i => by
    have c := h.2.2.2.2.2 i
    exact ⟨⟨c.1.1, hc c.1.1 c.1.2.1, c.1.2.2⟩, c.2⟩⟩

/-! ### Ways to build -/

/-- The state beside a value in an operation's answer. -/
theorem Keeps.snd {α : Type} {p : α × State} {a : α} {t : State} (h : p = (a, t)) (k : Keeps r p.2) : Keeps r t := by
  subst h; exact k

theorem Keeps.fst {α : Type} {p : State × α} {a : α} {t : State} (h : p = (t, a)) (k : Keeps r p.1) : Keeps r t := by
  subst h; exact k

theorem State.when_keeps {b : Bool} {f : State → State} (h : Keeps r s) (hf : ∀ u, Keeps r u → Keeps r (f u)) :
    Keeps r (s.when b f) := by
  unfold State.when
  split
  · exact hf s h
  · exact h

theorem State.whenSome_keeps {α : Type} {o : Option α} {f : State → α → State} (h : Keeps r s)
    (hf : ∀ u a, Keeps r u → Keeps r (f u a)) : Keeps r (s.whenSome o f) := by
  cases o with
  | some a => exact hf s a h
  | none => exact h

theorem Keeps.ite {c : Prop} [Decidable c] {p q : State} (hp : Keeps r p) (hq : Keeps r q) :
    Keeps r (if c then p else q) := by
  split
  · exact hp
  · exact hq

theorem Keeps.dite {c : Prop} [Decidable c] {p : c → State} {q : ¬c → State} (hp : ∀ h, Keeps r (p h))
    (hq : ∀ h, Keeps r (q h)) : Keeps r (if h : c then p h else q h) := by
  split
  · exact hp _
  · exact hq _

theorem Keeps.ite2 {α : Type} {c : Prop} [Decidable c] {p q : α × State} (hp : Keeps r p.2) (hq : Keeps r q.2) :
    Keeps r (if c then p else q).2 := by
  split
  · exact hp
  · exact hq

theorem Keeps.dite2 {α : Type} {c : Prop} [Decidable c] {p : c → α × State} {q : ¬c → α × State} (hp : ∀ h, Keeps r (p h).2)
    (hq : ∀ h, Keeps r (q h).2) : Keeps r (if h : c then p h else q h).2 := by
  split
  · exact hp _
  · exact hq _

theorem foldl_keeps {α : Type} {f : State → α → State} (hf : ∀ u a, Keeps r u → Keeps r (f u a)) (l : List α) :
    ∀ {s : State}, Keeps r s → Keeps r (l.foldl f s) := by
  induction l with
  | nil => intro s h; exact h
  | cons a l ih => intro s h; exact ih (hf s a h)

theorem foldl_keeps_snd {α β : Type} {f : β × State → α → β × State} (hf : ∀ u a, Keeps r u.2 → Keeps r (f u a).2)
    (l : List α) : ∀ {p : β × State}, Keeps r p.2 → Keeps r (l.foldl f p).2 := by
  induction l with
  | nil => intro p h; exact h
  | cons a l ih => intro p h; exact ih (hf p a h)

theorem foldl_keeps_fst {α β : Type} {f : State × β → α → State × β} (hf : ∀ u a, Keeps r u.1 → Keeps r (f u a).1)
    (l : List α) : ∀ {p : State × β}, Keeps r p.1 → Keeps r (l.foldl f p).1 := by
  induction l with
  | nil => intro p h; exact h
  | cons a l ih => intro p h; exact ih (hf p a h)

theorem State.each_keeps {α : Type} {l : List α} {f : State → α → State} (h : Keeps r s)
    (hf : ∀ u a, Keeps r u → Keeps r (f u a)) : Keeps r (State.each s l f) := foldl_keeps hf l h

theorem State.eachFin_keeps {n : Nat} {f : State → Fin n → State} (h : Keeps r s)
    (hf : ∀ u a, Keeps r u → Keeps r (f u a)) : Keeps r (State.eachFin s n f) := foldl_keeps hf _ h

theorem Clock.moved_now (k : Clock) (t : Time) : (k.moved t).now = max k.now t := rfl

theorem NonVolatile.elapsed_cfg (nv : NonVolatile) (p : PState) (d : Bool) (dt : Time) : (nv.elapsed p d dt).cfg = nv.cfg := rfl

theorem State.at_keeps (t : Time) (h : Keeps r s) : Keeps r (s.at t) := by
  obtain ⟨h1, h2, h3, h4, h5, h6⟩ := h
  refine ⟨h1, h2, ?_, h4, h5, fun i => ?_⟩
  · exact Nat.le_trans h3 (Nat.le_max_left _ _)
  · have := h6 i
    refine ⟨⟨?_, this.1.2⟩, this.2⟩
    show kvWf (State.at s t).nv.cfg = true
    unfold State.at State.elapse
    simp only
    split
    · exact this.1.1
    · exact this.1.1

end Sys2Proof.Machine
end

