-- ==== Sys2Proof/Laws/KeepsOps.lean ====
section
/-! SUPPORT. What the shared operations, the journal, the Deadbolt, the kinematic estimator and the passage unit keep. -/

namespace Sys2Proof.Machine

set_option Elab.async false
set_option linter.unusedTactic false
set_option linter.unreachableTactic false
set_option linter.unusedSimpArgs false

variable {r s : State}

theorem State.drawFree_keeps (hk : Keeps r s) : Keeps r (State.drawFree s).2 := hk.drawn (Nat.le_succ _)

theorem State.unstatedRound_keeps (q : Rat) (hk : Keeps r s) : Keeps r (State.unstatedRound s q).2 := by
  unfold State.unstatedRound
  split
  · exact hk
  · exact hk.drawn (Nat.le_succ _)

theorem State.setCumValid_keeps (h : Fin 8) (b : Bool) (hk : Keeps r s) : Keeps r (State.setCumValid s h b) := by
  unfold State.setCumValid
  repeat' (first
    | (first | with_reducible assumption | dsimp only | with_reducible apply Keeps.ite | (intro; intros))
    | (first | simp only [Keeps.mk_eq] | split))

theorem State.setBarred_keeps (n : Fin 4) (b : Bool) (hk : Keeps r s) : Keeps r (State.setBarred s n b) := by
  unfold State.setBarred
  repeat' (first
    | (first | with_reducible assumption | dsimp only | with_reducible apply Keeps.ite | (intro; intros))
    | (first | simp only [Keeps.mk_eq] | split))

theorem State.onChan_keeps (c : Fin 16) (f : Chan → Chan) (hk : Keeps r s) : Keeps r (State.onChan s c f) := by
  simpa only [State.onChan, Keeps.mk_eq] using hk

theorem State.onWarn_keeps (c : Fin 16) (f : Warn → Warn) (hk : Keeps r s) : Keeps r (State.onWarn s c f) := by
  simpa only [State.onWarn, Keeps.mk_eq] using hk

theorem State.onScan_keeps (c : Fin 16) (f : Scan → Scan) (hk : Keeps r s) : Keeps r (State.onScan s c f) := by
  simpa only [State.onScan, Keeps.mk_eq] using hk

theorem State.onTch_keeps (c : Fin 8) (f : Tch → Tch) (hk : Keeps r s) : Keeps r (State.onTch s c f) := by
  simpa only [State.onTch, Keeps.mk_eq] using hk

theorem State.onBlank_keeps (b : Fin 6) (f : Blank → Blank) (hk : Keeps r s) : Keeps r (State.onBlank s b f) := by
  simpa only [State.onBlank, Keeps.mk_eq] using hk

theorem State.onDet_keeps (c : Fin 16) (f : Det → Det) (hk : Keeps r s) : Keeps r (State.onDet s c f) := by
  simpa only [State.onDet, Keeps.mk_eq] using hk

theorem State.onStats_keeps (c : Fin 16) (f : Stats → Stats) (hk : Keeps r s) : Keeps r (State.onStats s c f) := by
  simpa only [State.onStats, Keeps.mk_eq] using hk

theorem State.onProof_keeps (c : Fin 16) (f : Proof → Proof) (hk : Keeps r s) : Keeps r (State.onProof s c f) := by
  simpa only [State.onProof, Keeps.mk_eq] using hk

theorem State.onWse_keeps (e : Fin 9) (f : Engine → Engine) (hk : Keeps r s) : Keeps r (State.onWse s e f) := by
  simpa only [State.onWse, Keeps.mk_eq] using hk

theorem State.onSv_keeps (v : Fin 2) (f : Sv → Sv) (hk : Keeps r s) : Keeps r (State.onSv s v f) := by
  simpa only [State.onSv, Keeps.mk_eq] using hk

theorem State.onPermit_keeps (n : Fin 4) (f : Permit → Permit) (hk : Keeps r s)
    (hf : (f s.keep.permits[n]).latch = true → s.keep.permits[n].latch = true) : Keeps r (State.onPermit s n f) := by
  refine hk.permits fun m => ?_
  by_cases h : m = n
  · subst h; simpa [updV] using hf
  · have : n.val ≠ m.val := fun e => h (Fin.ext e.symm)
    simp [updV, this]

theorem State.onMerged_keeps (n : Fin 4) (f : Merged → Merged) (hk : Keeps r s) : Keeps r (State.onMerged s n f) := by
  simpa only [State.onMerged, Keeps.mk_eq] using hk

theorem State.onNvChan_keeps (c : Fin 16) (f : NvChan → NvChan) (hk : Keeps r s) : Keeps r (State.onNvChan s c f) := by
  simpa only [State.onNvChan, Keeps.mk_eq] using hk

theorem State.onNvHead_keeps (h : Fin 8) (f : NvHead → NvHead) (hk : Keeps r s) : Keeps r (State.onNvHead s h f) := by
  simpa only [State.onNvHead, Keeps.mk_eq] using hk

theorem State.onNvSec_keeps (n : Fin 4) (f : NvSec → NvSec) (hk : Keeps r s) : Keeps r (State.onNvSec s n f) := by
  simpa only [State.onNvSec, Keeps.mk_eq] using hk

theorem State.onNvConn_keeps (k : Fin 8) (f : NvConn → NvConn) (hk : Keeps r s) : Keeps r (State.onNvConn s k f) := by
  simpa only [State.onNvConn, Keeps.mk_eq] using hk

theorem State.onHaspConn_keeps (k : Fin 8) (f : HaspConn → HaspConn) (hk : Keeps r s) : Keeps r (State.onHaspConn s k f) := by
  simpa only [State.onHaspConn, Keeps.mk_eq] using hk

theorem State.onSession_keeps (i : Fin 5) (f : Session → Session) (hk : Keeps r s) : Keeps r (State.onSession s i f) := by
  simpa only [State.onSession, Keeps.mk_eq] using hk

theorem State.onPort_keeps (p : Fin 4) (f : Port → Port) (hk : Keeps r s) : Keeps r (State.onPort s p f) := by
  simpa only [State.onPort, Keeps.mk_eq] using hk

theorem State.onTraction_keeps (n : Fin 4) (f : Traction → Traction) (hk : Keeps r s) : Keeps r (State.onTraction s n f) := by
  simpa only [State.onTraction, Keeps.mk_eq] using hk

theorem State.onCvu_keeps (u : Fin 2) (f : Cvu → Cvu) (hk : Keeps r s) : Keeps r (State.onCvu s u f) := by
  simpa only [State.onCvu, Keeps.mk_eq] using hk

theorem State.record_keeps (code : BitVec 16) (src : BitVec 2) (payload : List Byte) (emergency : Bool) (hk : Keeps r s) : Keeps r (State.record s code src payload emergency) := by
  simpa only [State.record, Keeps.mk_eq] using hk

theorem State.pulse_keeps (n : Nat) (hk : Keeps r s) : Keeps r (State.pulse s n) := by
  simpa only [State.pulse, Keeps.mk_eq] using hk

theorem State.storeEntry_keeps (key : Nat) (v : List Byte) (hk : Keeps r s) : Keeps r (State.storeEntry s key v) :=
  (hk.stored (nv := { s.nv with cfg := kvSet key v s.nv.cfg }) kvSet_wf).working fun _ h => h

theorem State.workEntry_keeps (key : Nat) (v : List Byte) (hk : Keeps r s) : Keeps r (State.workEntry s key v) :=
  hk.working fun _ h => kvSet_wf h

theorem State.journalWrite_keeps (l : List (Nat × Nat × List Byte)) (hk : Keeps r s) : Keeps r (State.journalWrite s l) := by
  unfold State.journalWrite
  repeat' (first
    | (first | with_reducible assumption | dsimp only | with_reducible apply State.storeEntry_keeps)
    | (first | with_reducible apply State.when_keeps | with_reducible apply State.each_keeps | (intro; intros))
    | (first | simp only [Keeps.mk_eq] | split))

theorem State.journalStop_keeps (cause : Nat) (hk : Keeps r s) : Keeps r (State.journalStop s cause) := by
  unfold State.journalStop
  repeat' (first
    | (first | with_reducible assumption | dsimp only | with_reducible apply Keeps.ite | (intro; intros))
    | (first | simp only [Keeps.mk_eq] | split))

theorem State.journalFinish_keeps (hk : Keeps r s) : Keeps r (State.journalFinish s) := by
  unfold State.journalFinish
  repeat' (first
    | (first | with_reducible assumption | dsimp only | with_reducible apply State.journalWrite_keeps)
    | (first | (intro; intros) | simp only [Keeps.mk_eq] | split))

theorem State.dropPermit_keeps (n : Fin 4) (causes : List Nat) (hs : List (Fin 8)) (hk : Keeps r s) :
    Keeps r (State.dropPermit s n causes hs) := by
  unfold State.dropPermit
  dsimp only
  split
  · refine State.record_keeps _ _ _ _ ?_
    simp only [Keeps.mk_eq]
    exact State.onPermit_keeps _ _ hk (by dsimp only; split <;> simp)
  · exact State.onPermit_keeps _ _ hk (by dsimp only; split <;> simp)

theorem Permit.requalified_latch (p : Permit) (a b : Bool) (t : Time) (h : (p.requalified a b t).latch = true) :
    p.latch = true := by
  unfold Permit.requalified at h
  dsimp only at h
  generalize (if b = true then some (p.lowSince.getD t) else none) = since at h
  split at h
  · simp at h
  · split at h <;> exact h

theorem State.requalify_keeps (hk : Keeps r s) : Keeps r (State.requalify s) :=
  hk.permits fun n h => Permit.requalified_latch _ _ _ _ (by simpa using h)

theorem State.dropForHead_keeps (h : Fin 8) (hk : Keeps r s) : Keeps r (State.dropForHead s h) := by
  unfold State.dropForHead
  repeat' (first
    | (first | with_reducible assumption | dsimp only | with_reducible apply State.dropPermit_keeps)
    | (first | with_reducible apply State.each_keeps | (intro; intros) | simp only [Keeps.mk_eq] | split))

theorem State.kinWrite_keeps (sec : Fin 4) (f : Kin → Kin) (hk : Keeps r s) : Keeps r (State.kinWrite s sec f) := by
  unfold State.kinWrite
  repeat' (first
    | (first | with_reducible assumption | dsimp only | with_reducible apply Keeps.ite)
    | (first | with_reducible apply State.pulse_keeps | (intro; intros) | simp only [Keeps.mk_eq] | split))

theorem State.kinUncSpeed_keeps (sec : Fin 4) (speed : Int) (prov : Bool) (hk : Keeps r s) : Keeps r (State.kinUncSpeed s sec speed prov).2 := by
  unfold State.kinUncSpeed
  repeat' (first
    | (first | with_reducible assumption | dsimp only | with_reducible apply Keeps.ite2)
    | (first | with_reducible apply State.unstatedRound_keeps | (intro; intros) | simp only [Keeps.mk_eq])
    | (first | refine Keeps.snd (by assumption) ?_ | split))

theorem State.kinRefreshed_keeps (sec : Fin 4) (k : Kin) (point : Nat) (ref : Time) (speed : Nat) (dir : Bool) (unc0 : Nat) (prov : Bool) (hk : Keeps r s) : Keeps r (State.kinRefreshed s sec k point ref speed dir unc0 prov).2 := by
  unfold State.kinRefreshed
  repeat' (first
    | (first | with_reducible assumption | dsimp only | with_reducible apply Keeps.ite2)
    | (first | with_reducible apply State.kinUncSpeed_keeps | (intro; intros) | simp only [Keeps.mk_eq])
    | (first | refine Keeps.snd (by assumption) ?_ | split))

theorem State.kinTaken_keeps (sec : Fin 4) (place : QPlace) (into : Bool) (ref : Time) (speed : Nat) (held : Bool) (unc0 : Nat) (hk : Keeps r s) : Keeps r (State.kinTaken s sec place into ref speed held unc0).2 := by
  unfold State.kinTaken
  repeat' (first
    | (first | with_reducible assumption | dsimp only | with_reducible apply Keeps.ite2)
    | (first | with_reducible apply State.kinRefreshed_keeps | (intro; intros) | simp only [Keeps.mk_eq])
    | (first | refine Keeps.snd (by assumption) ?_ | split))

theorem State.kinTake_keeps (sec : Fin 4) (place : QPlace) (into : Bool) (ref : Time) (speed : Nat) (held : Bool) (unc0 : Nat) (hk : Keeps r s) : Keeps r (State.kinTake s sec place into ref speed held unc0) := by
  unfold State.kinTake
  repeat' (first
    | (first | with_reducible assumption | dsimp only | with_reducible apply State.kinTaken_keeps)
    | (first | with_reducible apply State.kinWrite_keeps | (intro; intros) | simp only [Keeps.mk_eq])
    | (first | refine Keeps.snd (by assumption) ?_ | split))

theorem State.kinPassage_keeps (en : Entry) (hk : Keeps r s) : Keeps r (State.kinPassage s en) := by
  unfold State.kinPassage
  repeat' (first
    | (first | with_reducible assumption | dsimp only | with_reducible apply State.kinTaken_keeps)
    | (first | with_reducible apply State.kinWrite_keeps | with_reducible apply State.each_keeps | (intro; intros))
    | (first | simp only [Keeps.mk_eq] | refine Keeps.snd (by assumption) ?_ | split))

theorem State.kinOnset_keeps (sec : Fin 4) (leg : Fin 4) (onset : Time) (speed : Nat) (hk : Keeps r s) : Keeps r (State.kinOnset s sec leg onset speed) := by
  unfold State.kinOnset
  repeat' (first
    | (first | with_reducible assumption | dsimp only | with_reducible apply State.kinRefreshed_keeps)
    | (first | with_reducible apply State.kinWrite_keeps | (intro; intros) | simp only [Keeps.mk_eq])
    | (first | refine Keeps.snd (by assumption) ?_ | split))

theorem State.kinRetreat_keeps (h : Fin 8) (hk : Keeps r s) : Keeps r (State.kinRetreat s h) := by
  unfold State.kinRetreat
  repeat' (first
    | (first | with_reducible assumption | dsimp only | with_reducible apply State.kinWrite_keeps)
    | (first | with_reducible apply State.each_keeps | (intro; intros) | simp only [Keeps.mk_eq] | split))

theorem State.kinMerged_keeps (sec : Fin 4) (emptied : Bool) (hk : Keeps r s) : Keeps r (State.kinMerged s sec emptied) := by
  unfold State.kinMerged
  repeat' (first
    | (first | with_reducible assumption | dsimp only | with_reducible apply Keeps.ite)
    | (first | with_reducible apply State.kinWrite_keeps | (intro; intros) | simp only [Keeps.mk_eq] | split))

theorem State.notify_keeps (n : Notice) (hk : Keeps r s) : Keeps r (State.notify s n) := by
  unfold State.notify
  repeat' (first
    | (first | with_reducible assumption | dsimp only | with_reducible apply Keeps.ite | (intro; intros))
    | (first | simp only [Keeps.mk_eq] | split))

theorem State.causeAtHead_keeps (h : Fin 8) (code : Nat) (hk : Keeps r s) : Keeps r (State.causeAtHead s h code) := by
  unfold State.causeAtHead
  repeat' (first
    | (first | with_reducible assumption | dsimp only | with_reducible apply State.notify_keeps)
    | (first | with_reducible apply State.each_keeps | (intro; intros) | simp only [Keeps.mk_eq] | split))

theorem Ledger.upd_wf (l : Ledger) (slot : Nat) (f : Entry → Entry) (h0 : kvWf l.copies[0] = true)
    (h1 : kvWf l.copies[1] = true) : kvWf (l.upd slot f).copies[0] = true ∧ kvWf (l.upd slot f).copies[1] = true := by
  simp only [Ledger.upd]
  refine ⟨?_, ?_⟩
  · show kvWf (match kvGet slot l.copies[0] with | some en => kvSet slot (f en) l.copies[0] | none => l.copies[0]) = true
    split
    · exact kvSet_wf h0
    · exact h0
  · show kvWf (match kvGet slot l.copies[1] with | some en => kvSet slot (f en) l.copies[1] | none => l.copies[1]) = true
    split
    · exact kvSet_wf h1
    · exact h1

theorem State.onEntry_keeps (slot : Nat) (f : Entry → Entry) (hk : Keeps r s) : Keeps r (State.onEntry s slot f) :=
  hk.ledger (Ledger.upd_wf s.led slot f)

theorem State.voided_keeps (h : Fin 8) (cause : Nat) (code : Nat) (hk : Keeps r s) : Keeps r (State.voided s h cause code) := by
  unfold State.voided
  repeat' (first
    | (first | with_reducible assumption | dsimp only | with_reducible apply Keeps.ite)
    | (first | with_reducible apply State.onNvHead_keeps | with_reducible apply State.setCumValid_keeps)
    | (first | with_reducible apply State.record_keeps | with_reducible apply State.causeAtHead_keeps)
    | (first | (intro; intros) | simp only [Keeps.mk_eq] | split))

theorem State.voidEntry_keeps (slot : Nat) (cause : Nat) (code : Nat) (hk : Keeps r s) : Keeps r (State.voidEntry s slot cause code) := by
  unfold State.voidEntry
  repeat' (first
    | (first | with_reducible assumption | dsimp only | with_reducible apply Keeps.ite)
    | (first | with_reducible apply State.causeAtHead_keeps | with_reducible apply State.onEntry_keeps)
    | (first | with_reducible apply State.voided_keeps | (intro; intros) | simp only [Keeps.mk_eq] | split))

theorem Keeps.newEntry {l : Ledger} {p : PassageUnit} {i : Nat} {en : Entry} (h : Keeps r s)
    (hc : l.copies = #v[kvSet i en s.led.copies[0], kvSet i en s.led.copies[1]]) :
    Keeps r { s with led := l, pas := p } := by
  have k := h.ledger (l := l) fun h0 h1 => by rw [hc]; exact ⟨kvSet_wf h0, kvSet_wf h1⟩
  exact (Keeps.mk_eq (s := { s with led := l }) rfl rfl rfl rfl rfl rfl rfl).mpr k

theorem State.allocate_keeps (h : Fin 8) (dir : Bool) (stamp : Time) (hk : Keeps r s) :
    Keeps r (State.allocate s h dir stamp).1 := by
  unfold State.allocate
  dsimp only
  split
  · exact Keeps.newEntry hk rfl
  · split
    · split
      · refine Keeps.newEntry (State.record_keeps _ _ _ _ ?_) rfl
        simpa only [Keeps.mk_eq] using hk
      · exact Keeps.newEntry hk rfl
    · simpa only [Keeps.mk_eq] using hk

theorem State.onEp_keeps (h : Fin 8) (f : Episode → Episode) (hk : Keeps r s) : Keeps r (State.onEp s h f) := by
  simpa only [State.onEp, Keeps.mk_eq] using hk

theorem State.closeEpisode_keeps (h : Fin 8) (hk : Keeps r s) : Keeps r (State.closeEpisode s h) := by
  unfold State.closeEpisode
  repeat' (first
    | (first | with_reducible assumption | dsimp only | with_reducible apply Keeps.ite)
    | (first | with_reducible apply State.onEp_keeps | with_reducible apply State.voided_keeps)
    | (first | with_reducible apply State.onEntry_keeps | with_reducible apply State.onNvHead_keeps)
    | (first | with_reducible apply State.voidEntry_keeps | with_reducible apply State.kinRetreat_keeps)
    | (first | with_reducible apply State.record_keeps | (intro; intros) | simp only [Keeps.mk_eq] | split))

theorem State.passageEvent_keeps (ev : PresenceEvent) (hk : Keeps r s) : Keeps r (State.passageEvent s ev) := by
  have ha : ∀ b d t (o : Option (Fin 2048)),
      Keeps r (if b = true then (match s.allocate (headOf ev.ch) d t with | (u, i) => (u, i)) else (s, o)).1 := by
    intro b d t o
    split
    · split
      · rename_i he
        exact Keeps.fst he (State.allocate_keeps _ _ _ hk)
    · exact hk
  unfold State.passageEvent
  dsimp only
  split
  · exact hk
  · refine State.notify_keeps _ ?_
    split
    · with_reducible exact State.closeEpisode_keeps _ (State.onEp_keeps _ _ (ha _ _ _ _))
    · with_reducible exact State.onEp_keeps _ _ (ha _ _ _ _)

theorem State.dropEvents_keeps (h : Fin 8) (hk : Keeps r s) : Keeps r (State.dropEvents s h) := by
  simpa only [State.dropEvents, Keeps.mk_eq] using hk

theorem State.passageHeadFault_keeps (h : Fin 8) (t : Option Time) (hk : Keeps r s) : Keeps r (State.passageHeadFault s h t) := by
  unfold State.passageHeadFault
  repeat' (first
    | (first | with_reducible assumption | dsimp only | with_reducible apply State.voidEntry_keeps)
    | (first | with_reducible apply State.onEp_keeps | with_reducible apply State.each_keeps | (intro; intros))
    | (first | simp only [Keeps.mk_eq] | split))

theorem State.takePresence_keeps (ev : PresenceEvent) (hk : Keeps r s) : Keeps r (State.takePresence s ev) := by
  unfold State.takePresence
  repeat' (first
    | (first | with_reducible assumption | dsimp only | with_reducible apply State.onNvHead_keeps)
    | (first | with_reducible apply State.passageEvent_keeps | with_reducible apply State.when_keeps)
    | (first | (intro; intros) | simp only [Keeps.mk_eq] | split))

end Sys2Proof.Machine
end

