-- ==== Sys2Proof/Laws/KeepsCount.lean ====
section
/-! SUPPORT. What counting, restoration, the power manager and isolation keep. -/

namespace Sys2Proof.Machine

set_option Elab.async false
set_option linter.unusedTactic false
set_option linter.unreachableTactic false
set_option linter.unusedSimpArgs false

variable {r s : State}

theorem State.raise_keeps (v : Fin 2) (sec : Fin 4) (code : Nat) (leg : Option (Fin 4)) (hk : Keeps r s) : Keeps r (State.raise s v sec code leg) := by
  unfold State.raise
  repeat' (first
    | (first | with_reducible assumption | dsimp only | with_reducible apply Keeps.ite)
    | (first | with_reducible apply State.onSv_keeps | with_reducible apply State.record_keeps | (intro; intros))
    | (first | simp only [Keeps.mk_eq] | split))

theorem State.raiseAtHead_keeps (v : Fin 2) (h : Fin 8) (code : Nat) (hk : Keeps r s) : Keeps r (State.raiseAtHead s v h code) := by
  unfold State.raiseAtHead
  repeat' (first
    | (first | with_reducible assumption | dsimp only | with_reducible apply State.raise_keeps)
    | (first | with_reducible apply State.each_keeps | (intro; intros) | simp only [Keeps.mk_eq] | split))

theorem State.crossCheck_keeps (v : Fin 2) (k : Fin 8) (detail : Nat) (hk : Keeps r s) : Keeps r (State.crossCheck s v k detail) := by
  unfold State.crossCheck
  repeat' (first
    | (first | with_reducible assumption | dsimp only | with_reducible apply State.onSv_keeps)
    | (first | with_reducible apply State.raise_keeps | with_reducible apply State.each_keeps | (intro; intros))
    | (first | simp only [Keeps.mk_eq] | split))

theorem State.transitCheck_keeps (v : Fin 2) (sec : Fin 4) (q : QPass) (hk : Keeps r s) : Keeps r (State.transitCheck s v sec q) := by
  unfold State.transitCheck
  repeat' (first
    | (first | with_reducible assumption | dsimp only | with_reducible apply Keeps.ite)
    | (first | with_reducible apply State.onSv_keeps | with_reducible apply State.onNvConn_keeps)
    | (first | with_reducible apply State.crossCheck_keeps | (intro; intros) | simp only [Keeps.mk_eq] | split))

theorem State.settleOne_keeps (v : Fin 2) (sec : Fin 4) (q : QPass) (hk : Keeps r s) : Keeps r (State.settleOne s v sec q) := by
  unfold State.settleOne
  repeat' (first
    | (first | with_reducible assumption | dsimp only | with_reducible apply Keeps.ite)
    | (first | with_reducible apply State.onSv_keeps | with_reducible apply State.transitCheck_keeps)
    | (first | (intro; intros) | simp only [Keeps.mk_eq] | split))

theorem State.checkSettled_keeps (v : Fin 2) (sec : Fin 4) (hk : Keeps r s) : Keeps r (State.checkSettled s v sec) := by
  unfold State.checkSettled
  repeat' (first
    | (first | with_reducible assumption | dsimp only | with_reducible apply State.raise_keeps)
    | (first | with_reducible apply State.each_keeps | (intro; intros) | simp only [Keeps.mk_eq] | split))

theorem State.settleUpTo_keeps (v : Fin 2) (sec : Fin 4) (t : Time) (hk : Keeps r s) :
    Keeps r (State.settleUpTo s v sec t) := by
  have h := State.onSv_keeps v
    (fun x => x.onSec sec fun k => { k with queue := k.queue.filter fun q => !decide (q.tc ≤ t), tSet := max k.tSet t }) hk
  unfold State.settleUpTo
  dsimp only
  split
  · exact State.each_keeps h fun u q hu => State.settleOne_keeps _ _ _ hu
  · exact State.checkSettled_keeps _ _ (State.each_keeps h fun u q hu => State.settleOne_keeps _ _ _ hu)

theorem State.settle_keeps (v : Fin 2) (sec : Fin 4) (hk : Keeps r s) : Keeps r (State.settle s v sec) := by
  unfold State.settle
  repeat' (first
    | (first | with_reducible assumption | dsimp only | with_reducible apply Keeps.ite)
    | (first | with_reducible apply State.settleUpTo_keeps | (intro; intros) | simp only [Keeps.mk_eq] | split))

theorem State.overlapUnchecked_keeps (v : Fin 2) (sec : Fin 4) (hk : Keeps r s) : Keeps r (State.overlapUnchecked s v sec) := by
  unfold State.overlapUnchecked
  repeat' (first
    | (first | with_reducible assumption | dsimp only | with_reducible apply State.onNvSec_keeps)
    | (first | with_reducible apply State.when_keeps | (intro; intros) | simp only [Keeps.mk_eq] | split))

theorem State.compareZone_keeps (v : Fin 2) (sec : Fin 4) (n : Fin 4) (k : Fin 8) (hk : Keeps r s) : Keeps r (State.compareZone s v sec n k) := by
  unfold State.compareZone
  repeat' (first
    | (first | with_reducible assumption | dsimp only | with_reducible apply Keeps.ite)
    | (first | with_reducible apply State.onSv_keeps | with_reducible apply State.overlapUnchecked_keeps)
    | (first | with_reducible apply State.raise_keeps | with_reducible apply State.each_keeps | (intro; intros))
    | (first | simp only [Keeps.mk_eq] | split))

theorem State.compareInternal_keeps (v : Fin 2) (sec : Fin 4) (n : Fin 4) (hk : Keeps r s) : Keeps r (State.compareInternal s v sec n) := by
  unfold State.compareInternal
  repeat' (first
    | (first | with_reducible assumption | dsimp only | with_reducible apply Keeps.ite)
    | (first | with_reducible apply State.raise_keeps | with_reducible apply State.overlapUnchecked_keeps)
    | (first | (intro; intros) | simp only [Keeps.mk_eq] | split))

theorem State.compareOverlaps_keeps (v : Fin 2) (sec : Fin 4) (settled : Bool) (hk : Keeps r s) : Keeps r (State.compareOverlaps s v sec settled) := by
  unfold State.compareOverlaps
  repeat' (first
    | (first | with_reducible assumption | dsimp only | with_reducible apply Keeps.ite)
    | (first | with_reducible apply State.compareZone_keeps | with_reducible apply State.compareInternal_keeps)
    | (first | with_reducible apply State.each_keeps | (intro; intros) | simp only [Keeps.mk_eq] | split))

theorem State.countSection_keeps (v : Fin 2) (sec : Fin 4) (en : Entry) (hk : Keeps r s) : Keeps r (State.countSection s v sec en) := by
  unfold State.countSection
  repeat' (first
    | (first | with_reducible assumption | dsimp only | with_reducible apply Keeps.ite)
    | (first | with_reducible apply State.onSv_keeps | with_reducible apply State.enqueue_keeps)
    | (first | with_reducible apply State.raise_keeps | with_reducible apply State.when_keeps)
    | (first | with_reducible apply State.whenSome_keeps | (intro; intros) | simp only [Keeps.mk_eq] | split))

theorem Keeps.onCopy {f : LedgerCopy → LedgerCopy} (v : Fin 2) (h : Keeps r s) (hf : ∀ m, kvWf m = true → kvWf (f m) = true) :
    Keeps r { s with led := { s.led with copies := updV s.led.copies v f } } := by
  refine h.ledger fun h0 h1 => ?_
  have hv : v = 0 ∨ v = 1 := by omega
  rcases hv with rfl | rfl
  · exact ⟨by simpa [updV] using hf _ h0, by simpa [updV] using h1⟩
  · exact ⟨by simpa [updV] using h0, by simpa [updV] using hf _ h1⟩

theorem State.acknowledge_keeps (v : Fin 2) (slot : Nat) (alone : Bool) (hk : Keeps r s) :
    Keeps r (State.acknowledge s v slot alone) := by
  unfold State.acknowledge
  dsimp only
  refine Keeps.onCopy v (State.onEntry_keeps _ _ hk) fun m hm => ?_
  split
  · exact kvSet_wf hm
  · exact hm

theorem State.peaksCounted_keeps (en : Entry) (hk : Keeps r s) : Keeps r (State.peaksCounted s en) := by
  unfold State.peaksCounted
  repeat' (first
    | (first | with_reducible assumption | dsimp only | with_reducible apply State.onNvChan_keeps)
    | (first | (intro; intros) | simp only [Keeps.mk_eq] | split))

theorem State.unacknowledge_keeps (v : Fin 2) (hk : Keeps r s) : Keeps r (State.unacknowledge s v) := by
  unfold State.unacknowledge
  dsimp only
  generalize (s.led.copies[v].filter _) = hit
  refine Keeps.onCopy v (State.each_keeps hk fun u p hu => State.onEntry_keeps _ _ hu) ?_
  induction hit with
  | nil => intro m hm; exact hm
  | cons p l ih =>
    intro m hm
    rw [List.foldl_cons]
    refine ih _ ?_
    split
    · exact kvSet_wf hm
    · exact hm

theorem State.becameCounted_keeps (en : Entry) (hk : Keeps r s) : Keeps r (State.becameCounted s en) := by
  unfold State.becameCounted
  repeat' (first
    | (first | with_reducible assumption | dsimp only | with_reducible apply Keeps.ite)
    | (first | with_reducible apply State.pulse_keeps | with_reducible apply State.kinPassage_keeps)
    | (first | with_reducible apply State.onNvHead_keeps | with_reducible apply State.peaksCounted_keeps)
    | (first | with_reducible apply State.record_keeps | with_reducible apply State.when_keeps)
    | (first | with_reducible apply State.each_keeps | (intro; intros) | simp only [Keeps.mk_eq] | split))

theorem State.keepForNeighbour_keeps (v : Fin 2) (en : Entry) (alone : Bool) (hk : Keeps r s) : Keeps r (State.keepForNeighbour s v en alone) := by
  unfold State.keepForNeighbour
  repeat' (first
    | (first | with_reducible assumption | dsimp only | with_reducible apply Keeps.ite)
    | (first | with_reducible apply State.onSv_keeps | with_reducible apply State.each_keeps | (intro; intros))
    | (first | simp only [Keeps.mk_eq] | split))

theorem State.countEntry_keeps (v : Fin 2) (slot : Fin 2048) (alone : Bool) (hk : Keeps r s) : Keeps r (State.countEntry s v slot alone) := by
  unfold State.countEntry
  repeat' (first
    | (first | with_reducible assumption | dsimp only | with_reducible apply Keeps.ite)
    | (first | with_reducible apply State.onSv_keeps | with_reducible apply State.keepForNeighbour_keeps)
    | (first | with_reducible apply State.countSection_keeps | with_reducible apply State.acknowledge_keeps)
    | (first | with_reducible apply State.becameCounted_keeps | with_reducible apply State.each_keeps)
    | (first | (intro; intros) | simp only [Keeps.mk_eq] | split))

theorem State.knownVehicles_keeps (v : Fin 2) (hk : Keeps r s) : Keeps r (State.knownVehicles s v) := by
  unfold State.knownVehicles
  repeat' (first
    | (first | with_reducible assumption | dsimp only | with_reducible apply State.onSv_keeps)
    | (first | with_reducible apply State.each_keeps | (intro; intros) | simp only [Keeps.mk_eq] | split))

theorem State.concluded_keeps (v : Fin 2) (h : Fin 8) (e : Episode) (slot : Fin 2048) (alone : Bool) (hk : Keeps r s) : Keeps r (State.concluded s v h e slot alone) := by
  unfold State.concluded
  repeat' (first
    | (first | with_reducible assumption | dsimp only | with_reducible apply Keeps.ite)
    | (first | with_reducible apply State.countEntry_keeps | with_reducible apply State.onEntry_keeps)
    | (first | with_reducible apply State.voided_keeps | with_reducible apply State.raiseAtHead_keeps)
    | (first | with_reducible apply State.record_keeps | (intro; intros) | simp only [Keeps.mk_eq] | split))

theorem State.provisionalDir_keeps (v : Fin 2) (sec : Fin 4) (n : Fin 4) (h : Fin 8) (hk : Keeps r s) : Keeps r (State.provisionalDir s v sec n h) := by
  unfold State.provisionalDir
  repeat' (first
    | (first | with_reducible assumption | dsimp only | with_reducible apply Keeps.ite)
    | (first | with_reducible apply State.onSv_keeps | (intro; intros) | simp only [Keeps.mk_eq] | split))

theorem State.endProvisional_keeps (v : Fin 2) (h : Fin 8) (counted : Bool) (hk : Keeps r s) : Keeps r (State.endProvisional s v h counted) := by
  unfold State.endProvisional
  repeat' (first
    | (first | with_reducible assumption | dsimp only | with_reducible apply Keeps.ite)
    | (first | with_reducible apply State.onSv_keeps | (intro; intros) | simp only [Keeps.mk_eq] | split))

theorem State.takeEvent_keeps (v : Fin 2) (ev : PresenceEvent) (slot : Option (Fin 2048)) (ended alone : Bool) (trig : BitVec 4) (hk : Keeps r s) : Keeps r (State.takeEvent s v ev slot ended alone trig).1 := by
  unfold State.takeEvent
  repeat' (first
    | (first | with_reducible assumption | dsimp only | with_reducible apply State.onSv_keeps)
    | (first | with_reducible apply State.provisionalDir_keeps | with_reducible apply State.concluded_keeps)
    | (first | with_reducible apply State.endProvisional_keeps | with_reducible apply State.when_keeps)
    | (first | with_reducible apply State.each_keeps | with_reducible apply foldl_keeps | (intro; intros))
    | (first | simp only [Keeps.mk_eq] | split))

theorem State.takeInbox_keeps (v : Fin 2) (alone : Bool) (hk : Keeps r s) : Keeps r (State.takeInbox s v alone).1 := by
  refine foldl_keeps_fst (fun u n hu => ?_) _ (State.onSv_keeps v (fun x => { x with inbox := [] }) hk)
  cases n with
  | presence ev slot ended => exact State.takeEvent_keeps _ _ _ _ _ _ hu
  | headFault a => exact State.onSv_keeps _ _ hu
  | cause sec code leg => exact State.raise_keeps _ _ _ _ hu

theorem State.bothSv_keeps (f : Fin 2 → Sv → Sv) (hk : Keeps r s) : Keeps r (State.bothSv s f) := by
  unfold State.bothSv
  repeat' (first
    | (first | with_reducible assumption | dsimp only | with_reducible apply State.onSv_keeps)
    | (first | with_reducible apply State.each_keeps | (intro; intros) | simp only [Keeps.mk_eq] | split))

theorem State.cvuDone_keeps (hk : Keeps r s) : Keeps r (State.cvuDone s) := by
  unfold State.cvuDone
  repeat' (first
    | (first | with_reducible assumption | dsimp only | with_reducible apply State.pulse_keeps)
    | (first | with_reducible apply State.each_keeps | (intro; intros) | simp only [Keeps.mk_eq] | split))

theorem State.applyZoneReset_keeps (v : Fin 2) (sec : Fin 4) (t : Time) (hk : Keeps r s) : Keeps r (State.applyZoneReset s v sec t) := by
  unfold State.applyZoneReset
  repeat' (first
    | (first | with_reducible assumption | dsimp only | with_reducible apply Keeps.ite)
    | (first | with_reducible apply State.onSv_keeps | with_reducible apply State.record_keeps)
    | (first | with_reducible apply State.checkSettled_keeps | (intro; intros) | simp only [Keeps.mk_eq] | split))

theorem State.zoneResetDue_keeps (v : Fin 2) (sec : Fin 4) (hk : Keeps r s) : Keeps r (State.zoneResetDue s v sec) := by
  unfold State.zoneResetDue
  repeat' (first
    | (first | with_reducible assumption | dsimp only | with_reducible apply Keeps.ite)
    | (first | with_reducible apply State.applyZoneReset_keeps | (intro; intros) | simp only [Keeps.mk_eq] | split))

theorem State.enter_keeps (v : Fin 2) (sec : Fin 4) (st : SecState) (route : Nat) (hk : Keeps r s) : Keeps r (State.enter s v sec st route) := by
  unfold State.enter
  repeat' (first
    | (first | with_reducible assumption | dsimp only | with_reducible apply Keeps.ite)
    | (first | with_reducible apply State.onSv_keeps | (intro; intros) | simp only [Keeps.mk_eq] | split))

theorem State.refuse_keeps (v : Fin 2) (g : BitVec 4) (code : Nat) (once : Bool) (hk : Keeps r s) : Keeps r (State.refuse s v g code once) := by
  unfold State.refuse
  repeat' (first
    | (first | with_reducible assumption | dsimp only | with_reducible apply Keeps.ite)
    | (first | with_reducible apply State.onSv_keeps | with_reducible apply State.record_keeps)
    | (first | with_reducible apply State.pulse_keeps | with_reducible apply State.each_keeps | (intro; intros))
    | (first | simp only [Keeps.mk_eq] | split))

theorem State.chooseTR_keeps (v : Fin 2) (g : BitVec 4) (tR : Time) (hk : Keeps r s) : Keeps r (State.chooseTR s v g tR) := by
  unfold State.chooseTR
  repeat' (first
    | (first | with_reducible assumption | dsimp only | with_reducible apply State.onSv_keeps)
    | (first | with_reducible apply State.each_keeps | (intro; intros) | simp only [Keeps.mk_eq] | split))

theorem State.chooseInternal_keeps (g : BitVec 4) (hk : Keeps r s) : Keeps r (State.chooseInternal s g) := by
  unfold State.chooseInternal
  repeat' (first
    | (first | with_reducible assumption | dsimp only | with_reducible apply Keeps.ite)
    | (first | with_reducible apply State.chooseTR_keeps | with_reducible apply State.each_keeps)
    | (first | with_reducible apply foldl_keeps | (intro; intros) | simp only [Keeps.mk_eq] | split))

theorem State.request_keeps (v : Fin 2) (sec : Fin 4) (hk : Keeps r s) : Keeps r (State.request s v sec) := by
  unfold State.request
  repeat' (first
    | (first | with_reducible assumption | dsimp only | with_reducible apply Keeps.ite)
    | (first | with_reducible apply State.refuse_keeps | with_reducible apply State.onSv_keeps)
    | (first | with_reducible apply State.chooseInternal_keeps | with_reducible apply State.each_keeps)
    | (first | (intro; intros) | simp only [Keeps.mk_eq] | split))

theorem State.compute_keeps (v : Fin 2) (sec : Fin 4) (hk : Keeps r s) : Keeps r (State.compute s v sec) := by
  unfold State.compute
  repeat' (first
    | (first | with_reducible assumption | dsimp only | with_reducible apply Keeps.ite)
    | (first | with_reducible apply State.refuse_keeps | with_reducible apply State.onSv_keeps | (intro; intros))
    | (first | simp only [Keeps.mk_eq] | split))

theorem State.rebaseHead_keeps (h : Fin 8) (intoPos : Bool) (required : Int) (tR : Time) (hk : Keeps r s) :
    Keeps r (State.rebaseHead s h intoPos required tR) := by
  unfold State.rebaseHead
  exact State.record_keeps _ _ _ _ (State.onNvHead_keeps _ _ (State.setCumValid_keeps _ _ (State.bothSv_keeps _ hk)))

theorem State.rebaseOuter_keeps (sec : Fin 4) (n : Fin 4) (a : Answer) (tR : Time) (hk : Keeps r s) : Keeps r (State.rebaseOuter s sec n a tR) := by
  unfold State.rebaseOuter
  repeat' (first
    | (first | with_reducible assumption | dsimp only | with_reducible apply State.rebaseHead_keeps)
    | (first | (intro; intros) | simp only [Keeps.mk_eq] | split))

theorem State.rebaseGroup_keeps (g : BitVec 4) (terms : List ((Fin 4 × Fin 4) × Answer)) (tR : Time) (hk : Keeps r s) : Keeps r (State.rebaseGroup s g terms tR) := by
  unfold State.rebaseGroup
  repeat' (first
    | (first | with_reducible assumption | dsimp only | with_reducible apply Keeps.ite)
    | (first | with_reducible apply State.rebaseOuter_keeps | with_reducible apply State.rebaseHead_keeps)
    | (first | with_reducible apply State.each_keeps | with_reducible apply foldl_keeps | (intro; intros))
    | (first | simp only [Keeps.mk_eq] | split))

theorem State.resultFailed_keeps (v : Fin 2) (sec : Fin 4) (hk : Keeps r s) : Keeps r (State.resultFailed s v sec) := by
  unfold State.resultFailed
  repeat' (first
    | (first | with_reducible assumption | dsimp only | with_reducible apply Keeps.ite)
    | (first | with_reducible apply State.onSv_keeps | with_reducible apply State.record_keeps)
    | (first | with_reducible apply State.pulse_keeps | (intro; intros) | simp only [Keeps.mk_eq] | split))

theorem State.applySection_keeps (v : Fin 2) (sec : Fin 4) (core total : Int) (zones : List ((Fin 4 × Fin 4) × Int)) (single : Bool) (tR : Time) (hk : Keeps r s) : Keeps r (State.applySection s v sec core total zones single tR) := by
  unfold State.applySection
  repeat' (first
    | (first | with_reducible assumption | dsimp only | with_reducible apply Keeps.ite)
    | (first | with_reducible apply State.onSv_keeps | with_reducible apply State.settleUpTo_keeps)
    | (first | with_reducible apply State.checkSettled_keeps | with_reducible apply State.resultFailed_keeps)
    | (first | with_reducible apply State.when_keeps | (intro; intros) | simp only [Keeps.mk_eq] | split))

theorem State.applyResults_keeps (sec : Fin 4) (hk : Keeps r s) : Keeps r (State.applyResults s sec) := by
  unfold State.applyResults
  repeat' (first
    | (first | with_reducible assumption | dsimp only | with_reducible apply Keeps.ite)
    | (first | with_reducible apply State.refuse_keeps | with_reducible apply State.applySection_keeps)
    | (first | with_reducible apply State.rebaseGroup_keeps | with_reducible apply State.pulse_keeps)
    | (first | with_reducible apply State.each_keeps | (intro; intros) | simp only [Keeps.mk_eq] | split))

theorem State.horizons_keeps (v : Fin 2) (hk : Keeps r s) : Keeps r (State.horizons s v) := by
  unfold State.horizons
  repeat' (first
    | (first | with_reducible assumption | dsimp only | with_reducible apply Keeps.ite)
    | (first | with_reducible apply State.onSv_keeps | (intro; intros) | simp only [Keeps.mk_eq] | split))

theorem State.powerChange_keeps (x : PState) (hk : Keeps r s) : Keeps r (State.powerChange s x) := by
  unfold State.powerChange
  repeat' (first
    | (first | with_reducible assumption | dsimp only | with_reducible apply Keeps.ite)
    | (first | with_reducible apply State.record_keeps | with_reducible apply State.pulse_keeps | (intro; intros))
    | (first | simp only [Keeps.mk_eq] | split))

theorem State.wakeEvent_keeps (source : Nat) (hk : Keeps r s) : Keeps r (State.wakeEvent s source) := by
  unfold State.wakeEvent
  repeat' (first
    | (first | with_reducible assumption | dsimp only | with_reducible apply Keeps.ite)
    | (first | with_reducible apply State.when_keeps | (intro; intros) | simp only [Keeps.mk_eq] | split))

theorem State.managePower_keeps (hk : Keeps r s) : Keeps r (State.managePower s) := by
  unfold State.managePower
  repeat' (first
    | (first | with_reducible assumption | dsimp only | with_reducible apply Keeps.ite)
    | (first | with_reducible apply State.powerChange_keeps | with_reducible apply State.wakeEvent_keeps)
    | (first | (intro; intros) | simp only [Keeps.mk_eq] | split))

theorem State.isoRefuse_keeps (i : Isolation) (code : Nat) (hk : Keeps r s) : Keeps r (State.isoRefuse s i code) := by
  unfold State.isoRefuse
  repeat' (first
    | (first | with_reducible assumption | dsimp only | with_reducible apply State.record_keeps)
    | (first | with_reducible apply State.pulse_keeps | (intro; intros) | simp only [Keeps.mk_eq] | split))

theorem State.isoResult_keeps (i : Isolation) (result patterns : Nat) (hk : Keeps r s) : Keeps r (State.isoResult s i result patterns) := by
  unfold State.isoResult
  repeat' (first
    | (first | with_reducible assumption | dsimp only | with_reducible apply State.record_keeps)
    | (first | with_reducible apply State.pulse_keeps | (intro; intros) | simp only [Keeps.mk_eq] | split))

theorem State.isoAbort_keeps (horizon : Bool) (hk : Keeps r s) : Keeps r (State.isoAbort s horizon) := by
  unfold State.isoAbort
  repeat' (first
    | (first | with_reducible assumption | dsimp only | with_reducible apply Keeps.ite)
    | (first | with_reducible apply State.drawFree_keeps | with_reducible apply State.isoResult_keeps)
    | (first | (intro; intros) | simp only [Keeps.mk_eq] | refine Keeps.snd (by assumption) ?_ | split))

theorem State.isoWheel_keeps (v : Fin 2) (hk : Keeps r s) : Keeps r (State.isoWheel s v) := by
  unfold State.isoWheel
  repeat' (first
    | (first | with_reducible assumption | dsimp only | with_reducible apply Keeps.ite)
    | (first | with_reducible apply State.raise_keeps | with_reducible apply State.isoAbort_keeps)
    | (first | with_reducible apply State.each_keeps | (intro; intros) | simp only [Keeps.mk_eq] | split))

theorem State.isoWatch_keeps (v : Fin 2) (hk : Keeps r s) : Keeps r (State.isoWatch s v) := by
  unfold State.isoWatch
  repeat' (first
    | (first | with_reducible assumption | dsimp only | with_reducible apply Keeps.ite)
    | (first | with_reducible apply State.isoAbort_keeps | (intro; intros) | simp only [Keeps.mk_eq] | split))

end Sys2Proof.Machine
end

