-- ==== Sys2Proof/Laws/KeepsFront.lean ====
section
/-! SUPPORT. What the front end, the scanner and the signal engines keep. -/

namespace Sys2Proof.Machine

set_option Elab.async false
set_option linter.unusedTactic false
set_option linter.unreachableTactic false
set_option linter.unusedSimpArgs false

variable {r s : State}

theorem State.rootRound_keeps (k : Nat) (q : Rat) (hk : Keeps r s) : Keeps r (State.rootRound s k q).2 := by
  unfold State.rootRound
  repeat' (first
    | (first | with_reducible assumption | dsimp only | with_reducible apply Keeps.ite2)
    | (first | with_reducible apply State.unstatedRound_keeps | (intro; intros) | simp only [Keeps.mk_eq])
    | (first | refine Keeps.snd (by assumption) ?_ | split))

theorem State.dataOf_keeps (v : Rat) (gain : Nat) (hk : Keeps r s) : Keeps r (State.dataOf s v gain).2 := by
  unfold State.dataOf
  repeat' (first
    | (first | with_reducible assumption | dsimp only | with_reducible apply Keeps.ite2)
    | (first | with_reducible apply State.unstatedRound_keeps | (intro; intros) | simp only [Keeps.mk_eq])
    | (first | refine Keeps.snd (by assumption) ?_ | split))

theorem State.decibels_keeps (n : Nat) (sq : Rat) (hk : Keeps r s) : Keeps r (State.decibels s n sq).2 := by
  unfold State.decibels
  repeat' (first
    | (first | with_reducible assumption | dsimp only | with_reducible apply Keeps.ite2)
    | (first | with_reducible apply State.drawFree_keeps | with_reducible apply State.unstatedRound_keeps)
    | (first | (intro; intros) | simp only [Keeps.mk_eq] | refine Keeps.snd (by assumption) ?_ | split))

theorem State.bandNow_keeps (c : Fin 16) (hk : Keeps r s) : Keeps r (State.bandNow s c).2 := by
  unfold State.bandNow
  split
  · exact hk
  · exact hk.drawn (Nat.le_add_right _ _)

theorem State.warn_keeps (c : Fin 16) (k : WarnKind) (hk : Keeps r s) : Keeps r (State.warn s c k) := by
  unfold State.warn
  repeat' (first
    | (first | with_reducible assumption | dsimp only | with_reducible apply State.onWarn_keeps)
    | (first | with_reducible apply State.record_keeps | with_reducible apply State.when_keeps | (intro; intros))
    | (first | simp only [Keeps.mk_eq] | split))

theorem State.warnCond_keeps (c : Fin 16) (k : WarnKind) (on : Bool) (hk : Keeps r s) : Keeps r (State.warnCond s c k on) := by
  unfold State.warnCond
  repeat' (first
    | (first | with_reducible assumption | dsimp only | with_reducible apply Keeps.ite)
    | (first | with_reducible apply State.onWarn_keeps | (intro; intros) | simp only [Keeps.mk_eq] | split))

theorem State.warnWhile_keeps (c : Fin 16) (k : WarnKind) (on : Bool) (hk : Keeps r s) : Keeps r (State.warnWhile s c k on) := by
  unfold State.warnWhile
  repeat' (first
    | (first | with_reducible assumption | dsimp only | with_reducible apply State.warnCond_keeps)
    | (first | with_reducible apply State.warn_keeps | with_reducible apply State.when_keeps | (intro; intros))
    | (first | simp only [Keeps.mk_eq] | split))

theorem State.amonRefresh_keeps (hk : Keeps r s) : Keeps r (State.amonRefresh s) := by
  unfold State.amonRefresh
  repeat' (first | with_reducible assumption | dsimp only | (intro; intros) | simp only [Keeps.mk_eq] | split)

theorem State.amonShow_keeps (c : Fin 16) (zL zH : Cx) (hk : Keeps r s) : Keeps r (State.amonShow s c zL zH) := by
  unfold State.amonShow
  repeat' (first
    | (first | with_reducible assumption | dsimp only | with_reducible apply Keeps.ite | (intro; intros))
    | (first | simp only [Keeps.mk_eq] | split))

theorem State.abortProof_keeps (c : Fin 16) (hk : Keeps r s) : Keeps r (State.abortProof s c) := by
  unfold State.abortProof
  repeat' (first
    | (first | with_reducible assumption | dsimp only | with_reducible apply Keeps.ite)
    | (first | with_reducible apply State.onProof_keeps | with_reducible apply State.record_keeps)
    | (first | with_reducible apply State.pulse_keeps | (intro; intros) | simp only [Keeps.mk_eq] | split))

theorem State.chanFault_keeps (c : Fin 16) (prov : Nat) (back : Time) (detect : Nat) (hk : Keeps r s) : Keeps r (State.chanFault s c prov back detect) := by
  unfold State.chanFault
  repeat' (first
    | (first | with_reducible assumption | dsimp only | with_reducible apply Keeps.ite)
    | (first | with_reducible apply State.abortProof_keeps | with_reducible apply State.onChan_keeps)
    | (first | with_reducible apply State.onNvChan_keeps | with_reducible apply State.onStats_keeps)
    | (first | with_reducible apply State.onScan_keeps | with_reducible apply State.setCumValid_keeps)
    | (first | with_reducible apply State.notify_keeps | with_reducible apply State.passageHeadFault_keeps)
    | (first | with_reducible apply State.dropForHead_keeps | with_reducible apply State.requalify_keeps)
    | (first | with_reducible apply State.amonRefresh_keeps | with_reducible apply foldl_keeps | (intro; intros))
    | (first | simp only [Keeps.mk_eq] | split))

theorem State.recordFault_keeps (c : Fin 16) (cause : Nat) (hk : Keeps r s) : Keeps r (State.recordFault s c cause) := by
  unfold State.recordFault
  repeat' (first
    | (first | with_reducible assumption | dsimp only | with_reducible apply State.record_keeps)
    | (first | (intro; intros) | simp only [Keeps.mk_eq] | split))

theorem State.monitorSeen_keeps (c : Fin 16) (hk : Keeps r s) : Keeps r (State.monitorSeen s c) := by
  unfold State.monitorSeen
  repeat' (first
    | (first | with_reducible assumption | dsimp only | with_reducible apply Keeps.ite)
    | (first | with_reducible apply State.onChan_keeps | (intro; intros) | simp only [Keeps.mk_eq] | split))

theorem State.maskFrom_keeps (c : Fin 16) (move : Bool) (hk : Keeps r s) : Keeps r (State.maskFrom s c move) := by
  unfold State.maskFrom
  repeat' (first
    | (first | with_reducible assumption | dsimp only | with_reducible apply Keeps.ite)
    | (first | with_reducible apply State.abortProof_keeps | with_reducible apply State.onChan_keeps)
    | (first | with_reducible apply State.onDet_keeps | with_reducible apply State.amonRefresh_keeps)
    | (first | (intro; intros) | simp only [Keeps.mk_eq] | split))

theorem State.applyChanges_keeps (c : Fin 16) (l : List ChanChange) (hk : Keeps r s) : Keeps r (State.applyChanges s c l) := by
  unfold State.applyChanges
  repeat' (first
    | (first | with_reducible assumption | dsimp only | with_reducible apply State.onChan_keeps)
    | (first | with_reducible apply State.onNvChan_keeps | with_reducible apply State.maskFrom_keeps)
    | (first | with_reducible apply State.when_keeps | with_reducible apply foldl_keeps | (intro; intros))
    | (first | simp only [Keeps.mk_eq] | split))

theorem State.commandChange_keeps (c : Fin 16) (x : ChanChange) (hk : Keeps r s) : Keeps r (State.commandChange s c x) := by
  unfold State.commandChange
  repeat' (first
    | (first | with_reducible assumption | dsimp only | with_reducible apply Keeps.ite)
    | (first | with_reducible apply State.onChan_keeps | with_reducible apply State.applyChanges_keeps)
    | (first | (intro; intros) | simp only [Keeps.mk_eq] | split))

theorem State.startCal_keeps (c : Fin 16) (rep : CalReport) (hk : Keeps r s) : Keeps r (State.startCal s c rep) := by
  unfold State.startCal
  repeat' (first
    | (first | with_reducible assumption | dsimp only | with_reducible apply State.onChan_keeps)
    | (first | with_reducible apply State.amonRefresh_keeps | (intro; intros) | simp only [Keeps.mk_eq] | split))

theorem State.carryPresence_keeps (c : Fin 16) (hk : Keeps r s) : Keeps r (State.carryPresence s c) := by
  unfold State.carryPresence
  repeat' (first
    | (first | with_reducible assumption | dsimp only | with_reducible apply State.onDet_keeps)
    | (first | (intro; intros) | simp only [Keeps.mk_eq] | split))

theorem State.baselineCheck_keeps (c : Fin 16) (stored : Option (Cx × Cx)) (hk : Keeps r s) : Keeps r (State.baselineCheck s c stored) := by
  unfold State.baselineCheck
  repeat' (first
    | (first | with_reducible assumption | dsimp only | with_reducible apply Keeps.ite)
    | (first | with_reducible apply State.bandNow_keeps | with_reducible apply State.onDet_keeps)
    | (first | with_reducible apply State.onNvChan_keeps | with_reducible apply State.carryPresence_keeps)
    | (first | (intro; intros) | simp only [Keeps.mk_eq] | refine Keeps.snd (by assumption) ?_ | split))

theorem State.enterService_keeps (c : Fin 16) (hk : Keeps r s) : Keeps r (State.enterService s c) := by
  unfold State.enterService
  repeat' (first
    | (first | with_reducible assumption | dsimp only | with_reducible apply Keeps.ite)
    | (first | with_reducible apply State.onProof_keeps | with_reducible apply State.onStats_keeps)
    | (first | with_reducible apply State.onScan_keeps | (intro; intros) | simp only [Keeps.mk_eq] | split))

theorem State.headReturns_keeps (h : Fin 8) (hk : Keeps r s) : Keeps r (State.headReturns s h) := by
  unfold State.headReturns
  repeat' (first
    | (first | with_reducible assumption | dsimp only | with_reducible apply Keeps.ite | (intro; intros))
    | (first | simp only [Keeps.mk_eq] | split))

theorem State.calFails_keeps (c : Fin 16) (cause : Nat) (hk : Keeps r s) : Keeps r (State.calFails s c cause) := by
  unfold State.calFails
  repeat' (first
    | (first | with_reducible assumption | dsimp only | with_reducible apply Keeps.ite)
    | (first | with_reducible apply State.onChan_keeps | with_reducible apply State.chanFault_keeps)
    | (first | (intro; intros) | simp only [Keeps.mk_eq] | split))

theorem State.calRamp_keeps (c : Fin 16) (rep : CalReport) (hk : Keeps r s) : Keeps r (State.calRamp s c rep) := by
  unfold State.calRamp
  repeat' (first
    | (first | with_reducible assumption | dsimp only | with_reducible apply State.calFails_keeps)
    | (first | with_reducible apply State.onChan_keeps | with_reducible apply State.warnWhile_keeps)
    | (first | (intro; intros) | simp only [Keeps.mk_eq] | split))

theorem State.calGain_keeps (c : Fin 16) (rep : CalReport) (hk : Keeps r s) : Keeps r (State.calGain s c rep) := by
  unfold State.calGain
  repeat' (first
    | (first | with_reducible assumption | dsimp only | with_reducible apply Keeps.ite)
    | (first | with_reducible apply State.calFails_keeps | with_reducible apply State.onChan_keeps)
    | (first | (intro; intros) | simp only [Keeps.mk_eq] | split))

theorem State.calAverages_keeps (c : Fin 16) (rep : CalReport) (hk : Keeps r s) : Keeps r (State.calAverages s c rep) := by
  unfold State.calAverages
  repeat' (first
    | (first | with_reducible assumption | dsimp only | with_reducible apply State.onChan_keeps)
    | (first | with_reducible apply State.onDet_keeps | (intro; intros) | simp only [Keeps.mk_eq] | split))

theorem State.calStep_keeps (c : Fin 16) (hk : Keeps r s) : Keeps r (State.calStep s c) := by
  unfold State.calStep
  repeat' (first
    | (first | with_reducible assumption | dsimp only | with_reducible apply Keeps.ite)
    | (first | with_reducible apply State.onChan_keeps | with_reducible apply State.calFails_keeps)
    | (first | with_reducible apply State.calRamp_keeps | with_reducible apply State.calGain_keeps)
    | (first | with_reducible apply State.calAverages_keeps | (intro; intros) | simp only [Keeps.mk_eq] | split))

theorem State.calRun_keeps (c : Fin 16) (hk : Keeps r s) : Keeps r (State.calRun s c) := by
  unfold State.calRun
  repeat' (first
    | (first | with_reducible assumption | dsimp only | with_reducible apply State.calStep_keeps)
    | (first | (intro; intros) | simp only [Keeps.mk_eq] | split))

theorem State.calEnds_keeps (c : Fin 16) (hk : Keeps r s) : Keeps r (State.calEnds s c) := by
  unfold State.calEnds
  repeat' (first
    | (first | with_reducible assumption | dsimp only | with_reducible apply Keeps.ite)
    | (first | with_reducible apply State.onNvChan_keeps | with_reducible apply State.onChan_keeps)
    | (first | with_reducible apply State.enterService_keeps | with_reducible apply State.baselineCheck_keeps)
    | (first | with_reducible apply State.headReturns_keeps | with_reducible apply State.requalify_keeps)
    | (first | with_reducible apply State.amonRefresh_keeps | (intro; intros) | simp only [Keeps.mk_eq] | split))

theorem State.ptTemp_keeps (ohms : Rat) (hk : Keeps r s) : Keeps r (State.ptTemp s ohms).2 := by
  unfold State.ptTemp
  repeat' (first
    | (first | with_reducible assumption | dsimp only | with_reducible apply Keeps.ite2)
    | (first | with_reducible apply State.unstatedRound_keeps | (intro; intros) | simp only [Keeps.mk_eq])
    | (first | refine Keeps.snd (by assumption) ?_ | split))

theorem State.bodyWarning_keeps (h : Fin 8) (hk : Keeps r s) : Keeps r (State.bodyWarning s h) := by
  unfold State.bodyWarning
  repeat' (first
    | (first | with_reducible assumption | dsimp only | with_reducible apply State.warnWhile_keeps)
    | (first | (intro; intros) | simp only [Keeps.mk_eq] | split))

theorem State.bodyWarnings_keeps (n : Fin 8) (hk : Keeps r s) : Keeps r (State.bodyWarnings s n) := by
  unfold State.bodyWarnings
  repeat' (first
    | (first | with_reducible assumption | dsimp only | with_reducible apply State.bodyWarning_keeps)
    | (first | with_reducible apply State.each_keeps | (intro; intros) | simp only [Keeps.mk_eq] | split))

theorem State.cabinetReading_keeps (c : Fin 8) (before : Option Int) (hk : Keeps r s) : Keeps r (State.cabinetReading s c before) := by
  unfold State.cabinetReading
  repeat' (first
    | (first | with_reducible assumption | dsimp only | with_reducible apply State.record_keeps)
    | (first | with_reducible apply State.when_keeps | (intro; intros) | simp only [Keeps.mk_eq] | split))

theorem State.blankWindow_keeps (src : Fin 6) (active : Bool) (hk : Keeps r s) : Keeps r (State.blankWindow s src active) := by
  unfold State.blankWindow
  repeat' (first
    | (first | with_reducible assumption | dsimp only | with_reducible apply Keeps.ite)
    | (first | with_reducible apply State.onBlank_keeps | (intro; intros) | simp only [Keeps.mk_eq] | split))

theorem State.blankJudge_keeps (src : Fin 6) (hk : Keeps r s) : Keeps r (State.blankJudge s src) := by
  unfold State.blankJudge
  repeat' (first
    | (first | with_reducible assumption | dsimp only | with_reducible apply State.blankWindow_keeps)
    | (first | (intro; intros) | simp only [Keeps.mk_eq] | split))

theorem State.moveEnds_keeps (c : Fin 16) (m : Mask) (hk : Keeps r s) : Keeps r (State.moveEnds s c m) := by
  unfold State.moveEnds
  repeat' (first
    | (first | with_reducible assumption | dsimp only | with_reducible apply State.chanFault_keeps)
    | (first | with_reducible apply State.onDet_keeps | with_reducible apply State.onChan_keeps)
    | (first | with_reducible apply State.onNvChan_keeps | with_reducible apply State.record_keeps)
    | (first | (intro; intros) | simp only [Keeps.mk_eq] | split))

theorem State.releaseDeferred_keeps (c : Fin 16) (hk : Keeps r s) : Keeps r (State.releaseDeferred s c) := by
  unfold State.releaseDeferred
  repeat' (first
    | (first | with_reducible assumption | dsimp only | with_reducible apply Keeps.ite)
    | (first | with_reducible apply State.onChan_keeps | with_reducible apply State.applyChanges_keeps)
    | (first | (intro; intros) | simp only [Keeps.mk_eq] | split))

theorem State.scanDue_keeps (c : Fin 16) (hk : Keeps r s) : Keeps r (State.scanDue s c) := by
  unfold State.scanDue
  repeat' (first
    | (first | with_reducible assumption | dsimp only | with_reducible apply Keeps.ite)
    | (first | with_reducible apply State.onScan_keeps | (intro; intros) | simp only [Keeps.mk_eq] | split))

theorem State.horizonStops_keeps (hk : Keeps r s) : Keeps r (State.horizonStops s) := by
  unfold State.horizonStops
  repeat' (first
    | (first | with_reducible assumption | dsimp only | with_reducible apply State.onScan_keeps)
    | (first | with_reducible apply State.when_keeps | with_reducible apply State.each_keeps)
    | (first | with_reducible apply State.eachFin_keeps | (intro; intros) | simp only [Keeps.mk_eq] | split))

theorem State.pauseEnds_keeps (c : Fin 16) (hk : Keeps r s) : Keeps r (State.pauseEnds s c) := by
  unfold State.pauseEnds
  split
  · exact hk
  · dsimp only
    repeat' (first
      | with_reducible assumption
      | with_reducible exact State.maskFrom_keeps _ _ (State.onChan_keeps _ _ (State.onScan_keeps _ _ hk))
      | split)

theorem State.boundaryChanges_keeps (c : Fin 16) (hk : Keeps r s) : Keeps r (State.boundaryChanges s c) := by
  unfold State.boundaryChanges
  repeat' (first
    | (first | with_reducible assumption | dsimp only | with_reducible apply Keeps.ite)
    | (first | with_reducible apply State.onChan_keeps | with_reducible apply State.applyChanges_keeps)
    | (first | with_reducible apply State.scanDue_keeps | with_reducible apply State.when_keeps | (intro; intros))
    | (first | simp only [Keeps.mk_eq] | split))

theorem State.spectrumOf_keeps (d : List Rat) (hk : Keeps r s) : Keeps r (State.spectrumOf s d).2 := by
  unfold State.spectrumOf
  refine foldl_keeps_snd (fun u x hu => ?_) d ?_
  · split
    · exact hu
    · exact State.decibels_keeps _ _ hu
  · exact hk

theorem State.noCleanCarrier_keeps (c : Fin 16) (hk : Keeps r s) : Keeps r (State.noCleanCarrier s c) := by
  unfold State.noCleanCarrier
  repeat' (first
    | (first | with_reducible assumption | dsimp only | with_reducible apply Keeps.ite)
    | (first | with_reducible apply State.warn_keeps | with_reducible apply State.record_keeps | (intro; intros))
    | (first | simp only [Keeps.mk_eq] | split))

theorem State.plansDiscarded_keeps (c : Fin 16) (hk : Keeps r s) : Keeps r (State.plansDiscarded s c) := by
  unfold State.plansDiscarded
  repeat' (first
    | (first | with_reducible assumption | dsimp only | with_reducible apply State.onScan_keeps)
    | (first | with_reducible apply State.record_keeps | (intro; intros) | simp only [Keeps.mk_eq] | split))

theorem State.plansAgree_keeps (c : Fin 16) (p : Nat × Nat) (hk : Keeps r s) : Keeps r (State.plansAgree s c p) := by
  unfold State.plansAgree
  repeat' (first
    | (first | with_reducible assumption | dsimp only | with_reducible apply Keeps.ite)
    | (first | with_reducible apply State.onScan_keeps | with_reducible apply State.warn_keeps)
    | (first | with_reducible apply State.onChan_keeps | (intro; intros) | simp only [Keeps.mk_eq] | split))

theorem State.planStep_keeps (v : Fin 2) (c : Fin 16) (hk : Keeps r s) : Keeps r (State.planStep s v c) := by
  unfold State.planStep
  repeat' (first
    | (first | with_reducible assumption | dsimp only | with_reducible apply Keeps.ite)
    | (first | with_reducible apply State.plansDiscarded_keeps | with_reducible apply State.onScan_keeps)
    | (first | with_reducible apply State.noCleanCarrier_keeps | with_reducible apply State.plansAgree_keeps)
    | (first | with_reducible apply State.when_keeps | (intro; intros) | simp only [Keeps.mk_eq] | split))

theorem State.rawWord_keeps (c : Fin 16) (x : Time) (rep : RawIn) (hk : Keeps r s) : Keeps r (State.rawWord s c x rep).2 := by
  unfold State.rawWord
  repeat' (first
    | (first | with_reducible assumption | dsimp only | with_reducible apply Keeps.ite2)
    | (first | with_reducible apply State.dataOf_keeps | (intro; intros) | simp only [Keeps.mk_eq])
    | (first | refine Keeps.snd (by assumption) ?_ | split))

theorem State.rawWords_keeps (c : Fin 16) (l : List RawIn) (hk : Keeps r s) : Keeps r (State.rawWords s c l).2 := by
  unfold State.rawWords
  have h : ∀ (l : List RawIn) (a : Time × List (Time × RawWord) × State), Keeps r a.2.2 →
      Keeps r (l.foldl (fun (a : Time × List (Time × RawWord) × State) q =>
        let x := a.2.2.rawWord c a.1 q
        (a.1 + 500, a.2.1 ++ [(a.1, x.1)], x.2)) a).2.2 := by
    intro l
    induction l with
    | nil => intro a ha; exact ha
    | cons q l ih => intro a ha; exact ih _ (State.rawWord_keeps _ _ _ ha)
  exact h l _ hk

theorem State.windowTakes_keeps (c : Fin 16) (l : List (Time × RawWord)) (hk : Keeps r s) : Keeps r (State.windowTakes s c l) := by
  unfold State.windowTakes
  repeat' (first
    | (first | with_reducible assumption | dsimp only | with_reducible apply State.onScan_keeps)
    | (first | with_reducible apply State.when_keeps | (intro; intros) | simp only [Keeps.mk_eq] | split))

theorem State.takeRaws_keeps (c : Fin 16) (l : List RawIn) (hk : Keeps r s) : Keeps r (State.takeRaws s c l) := by
  unfold State.takeRaws
  repeat' (first
    | (first | with_reducible assumption | dsimp only | with_reducible apply Keeps.ite)
    | (first | with_reducible apply State.rawWords_keeps | with_reducible apply State.windowTakes_keeps)
    | (first | with_reducible apply State.onChan_keeps | with_reducible apply State.unstatedRound_keeps)
    | (first | with_reducible apply State.warnCond_keeps | (intro; intros) | simp only [Keeps.mk_eq])
    | (first | refine Keeps.snd (by assumption) ?_ | split))

theorem State.partnerOnset_keeps (c : Fin 16) (hk : Keeps r s) : Keeps r (State.partnerOnset s c) := by
  unfold State.partnerOnset
  repeat' (first
    | (first | with_reducible assumption | dsimp only | with_reducible apply State.onScan_keeps)
    | (first | with_reducible apply State.abortProof_keeps | with_reducible apply State.chanFault_keeps)
    | (first | with_reducible apply State.when_keeps | (intro; intros) | simp only [Keeps.mk_eq] | split))

theorem State.emit_keeps (c : Fin 16) (edge : Edge) (stamp : Time) (settling takeover blanked : Bool) (hk : Keeps r s) : Keeps r (State.emit s c edge stamp settling takeover blanked) := by
  unfold State.emit
  repeat' (first
    | (first | with_reducible assumption | dsimp only | with_reducible apply Keeps.ite)
    | (first | with_reducible apply State.rootRound_keeps | with_reducible apply State.drawFree_keeps)
    | (first | with_reducible apply State.unstatedRound_keeps | with_reducible apply State.onDet_keeps)
    | (first | with_reducible apply State.onChan_keeps | with_reducible apply State.onStats_keeps)
    | (first | with_reducible apply State.warnCond_keeps | with_reducible apply State.warn_keeps)
    | (first | with_reducible apply State.partnerOnset_keeps | with_reducible apply State.when_keeps)
    | (first | (intro; intros) | simp only [Keeps.mk_eq] | refine Keeps.snd (by assumption) ?_ | split))

theorem State.emitAll_keeps (c : Fin 16) (l : List (Edge × Time × Bool)) (hk : Keeps r s) : Keeps r (State.emitAll s c l) := by
  unfold State.emitAll
  repeat' (first
    | (first | with_reducible assumption | dsimp only | with_reducible apply State.emit_keeps)
    | (first | with_reducible apply State.each_keeps | (intro; intros) | simp only [Keeps.mk_eq] | split))

theorem State.track_keeps (c : Fin 16) (x : Seen) (hk : Keeps r s) : Keeps r (State.track s c x) := by
  unfold State.track
  repeat' (first
    | (first | with_reducible assumption | dsimp only | with_reducible apply Keeps.ite)
    | (first | with_reducible apply State.onDet_keeps | (intro; intros) | simp only [Keeps.mk_eq] | split))

theorem State.gatherStats_keeps (c : Fin 16) (x : Seen) (hk : Keeps r s) : Keeps r (State.gatherStats s c x) := by
  unfold State.gatherStats
  repeat' (first
    | (first | with_reducible assumption | dsimp only | with_reducible apply Keeps.ite)
    | (first | with_reducible apply State.onStats_keeps | (intro; intros) | simp only [Keeps.mk_eq] | split))

theorem State.watchProof_keeps (c : Fin 16) (zL zH : Cx) (hk : Keeps r s) : Keeps r (State.watchProof s c zL zH) := by
  unfold State.watchProof
  repeat' (first
    | (first | with_reducible assumption | dsimp only | with_reducible apply State.abortProof_keeps)
    | (first | with_reducible apply State.when_keeps | (intro; intros) | simp only [Keeps.mk_eq] | split))

theorem State.decideOn_keeps (c : Fin 16) (f : FastS) (x : Seen) (hk : Keeps r s) : Keeps r (State.decideOn s c f x) := by
  unfold State.decideOn
  repeat' (first
    | (first | with_reducible assumption | dsimp only | with_reducible apply Keeps.ite)
    | (first | with_reducible apply State.onDet_keeps | with_reducible apply State.emit_keeps)
    | (first | with_reducible apply State.emitAll_keeps | (intro; intros) | simp only [Keeps.mk_eq] | split))

theorem State.shadowSample_keeps (c : Fin 16) (inj : Option (Cx × Cx)) (stamp : Time) (hk : Keeps r s) : Keeps r (State.shadowSample s c inj stamp) := by
  unfold State.shadowSample
  repeat' (first
    | (first | with_reducible assumption | dsimp only | with_reducible apply Keeps.ite)
    | (first | with_reducible apply State.onProof_keeps | (intro; intros) | simp only [Keeps.mk_eq] | split))

theorem State.engineSample_keeps (c : Fin 16) (valid : Bool) (hk : Keeps r s) : Keeps r (State.engineSample s c valid) := by
  unfold State.engineSample
  repeat' (first
    | (first | with_reducible assumption | dsimp only | with_reducible apply Keeps.ite)
    | (first | with_reducible apply State.onDet_keeps | with_reducible apply State.shadowSample_keeps)
    | (first | with_reducible apply State.onChan_keeps | with_reducible apply State.decideOn_keeps)
    | (first | with_reducible apply State.track_keeps | with_reducible apply State.gatherStats_keeps)
    | (first | with_reducible apply State.watchProof_keeps | with_reducible apply State.amonRefresh_keeps)
    | (first | with_reducible apply State.amonShow_keeps | (intro; intros) | simp only [Keeps.mk_eq] | split))

theorem State.heartbeat_keeps (c : Fin 16) (hk : Keeps r s) : Keeps r (State.heartbeat s c) := by
  unfold State.heartbeat
  repeat' (first
    | (first | with_reducible assumption | dsimp only | with_reducible apply State.onWse_keeps)
    | (first | with_reducible apply State.when_keeps | with_reducible apply State.whenSome_keeps | (intro; intros))
    | (first | simp only [Keeps.mk_eq] | split))

theorem State.storeBaseline_keeps (c : Fin 16) (hk : Keeps r s) : Keeps r (State.storeBaseline s c) := by
  unfold State.storeBaseline
  repeat' (first
    | (first | with_reducible assumption | dsimp only | with_reducible apply State.onNvChan_keeps)
    | (first | with_reducible apply State.when_keeps | (intro; intros) | simp only [Keeps.mk_eq] | split))

theorem State.closeHour_keeps (c : Fin 16) (hk : Keeps r s) : Keeps r (State.closeHour s c) := by
  unfold State.closeHour
  repeat' (first
    | (first | with_reducible assumption | dsimp only | with_reducible apply Keeps.ite)
    | (first | with_reducible apply State.onStats_keeps | (intro; intros) | simp only [Keeps.mk_eq] | split))

theorem State.storeBaselines_keeps (hk : Keeps r s) : Keeps r (State.storeBaselines s) := by
  unfold State.storeBaselines
  repeat' (first
    | (first | with_reducible assumption | dsimp only | with_reducible apply State.storeBaseline_keeps)
    | (first | with_reducible apply State.each_keeps | with_reducible apply State.eachFin_keeps | (intro; intros))
    | (first | simp only [Keeps.mk_eq] | split))

theorem State.drift_keeps (c : Fin 16) (rL rH : Cx) (hk : Keeps r s) : Keeps r (State.drift s c rL rH) := by
  unfold State.drift
  repeat' (first
    | (first | with_reducible assumption | dsimp only | with_reducible apply Keeps.ite)
    | (first | with_reducible apply State.rootRound_keeps | with_reducible apply State.unstatedRound_keeps)
    | (first | with_reducible apply State.onStats_keeps | with_reducible apply State.warnWhile_keeps)
    | (first | with_reducible apply State.chanFault_keeps | with_reducible apply State.when_keeps)
    | (first | (intro; intros) | simp only [Keeps.mk_eq] | refine Keeps.snd (by assumption) ?_ | split))

theorem State.kappaUnits_keeps (k : Cx) (hk : Keeps r s) : Keeps r (State.kappaUnits s k).2 := by
  unfold State.kappaUnits
  repeat' (first
    | (first | with_reducible assumption | dsimp only | with_reducible apply Keeps.ite2)
    | (first | with_reducible apply State.unstatedRound_keeps | (intro; intros) | simp only [Keeps.mk_eq])
    | (first | refine Keeps.snd (by assumption) ?_ | split))

theorem State.takeKappa_keeps (c : Fin 16) (high : Bool) (k : Cx) (hk : Keeps r s) : Keeps r (State.takeKappa s c high k) := by
  unfold State.takeKappa
  repeat' (first
    | (first | with_reducible assumption | dsimp only | with_reducible apply Keeps.ite)
    | (first | with_reducible apply State.kappaUnits_keeps | with_reducible apply State.onNvChan_keeps)
    | (first | with_reducible apply State.warn_keeps | (intro; intros) | simp only [Keeps.mk_eq])
    | (first | refine Keeps.snd (by assumption) ?_ | split))

theorem State.fitChannel_keeps (c : Fin 16) (hk : Keeps r s) : Keeps r (State.fitChannel s c) := by
  unfold State.fitChannel
  repeat' (first
    | (first | with_reducible assumption | dsimp only | with_reducible apply Keeps.ite)
    | (first | with_reducible apply State.takeKappa_keeps | with_reducible apply foldl_keeps | (intro; intros))
    | (first | simp only [Keeps.mk_eq] | split))

theorem State.rereference_keeps (c : Fin 16) (hk : Keeps r s) : Keeps r (State.rereference s c) := by
  unfold State.rereference
  repeat' (first
    | (first | with_reducible assumption | dsimp only | with_reducible apply State.bandNow_keeps)
    | (first | with_reducible apply State.onNvChan_keeps | with_reducible apply State.onDet_keeps)
    | (first | with_reducible apply State.emit_keeps | with_reducible apply State.onStats_keeps)
    | (first | with_reducible apply State.record_keeps | with_reducible apply State.when_keeps | (intro; intros))
    | (first | simp only [Keeps.mk_eq] | refine Keeps.snd (by assumption) ?_ | split))

theorem State.engineFails_keeps (e : Fin 9) (row : Nat) (hk : Keeps r s) : Keeps r (State.engineFails s e row) := by
  unfold State.engineFails
  repeat' (first
    | (first | with_reducible assumption | dsimp only | with_reducible apply Keeps.ite)
    | (first | with_reducible apply State.onWse_keeps | with_reducible apply State.onDet_keeps)
    | (first | with_reducible apply State.amonRefresh_keeps | with_reducible apply State.record_keeps)
    | (first | with_reducible apply State.when_keeps | with_reducible apply State.whenSome_keeps | (intro; intros))
    | (first | simp only [Keeps.mk_eq] | split))

theorem State.ckptWritten_keeps (e : Fin 9) (h : Fin 8) (w : CkptWrite) (hk : Keeps r s) : Keeps r (State.ckptWritten s e h w) := by
  unfold State.ckptWritten
  repeat' (first
    | (first | with_reducible assumption | dsimp only | with_reducible apply State.onWse_keeps)
    | (first | with_reducible apply State.engineFails_keeps | with_reducible apply State.when_keeps)
    | (first | (intro; intros) | simp only [Keeps.mk_eq] | split))

theorem State.chanResumes_keeps (c : Fin 16) (k : ChanCkpt) (e : Episode) (i : Fin 2) (hk : Keeps r s) : Keeps r (State.chanResumes s c k e i) := by
  unfold State.chanResumes
  repeat' (first
    | (first | with_reducible assumption | dsimp only | with_reducible apply State.onDet_keeps)
    | (first | with_reducible apply State.onStats_keeps | (intro; intros) | simp only [Keeps.mk_eq] | split))

theorem State.takeOver_keeps (h : Fin 8) (e : Fin 9) (hk : Keeps r s) : Keeps r (State.takeOver s h e) := by
  unfold State.takeOver
  repeat' (first
    | (first | with_reducible assumption | dsimp only | with_reducible apply State.pulse_keeps)
    | (first | with_reducible apply State.onNvHead_keeps | with_reducible apply State.record_keeps)
    | (first | with_reducible apply State.dropEvents_keeps | with_reducible apply State.abortProof_keeps)
    | (first | with_reducible apply State.chanResumes_keeps | with_reducible apply State.amonRefresh_keeps)
    | (first | with_reducible apply State.chanFault_keeps | (intro; intros) | simp only [Keeps.mk_eq] | split))

theorem State.loseEngine_keeps (h : Fin 8) (e : Fin 9) (hk : Keeps r s) : Keeps r (State.loseEngine s h e) := by
  unfold State.loseEngine
  repeat' (first
    | (first | with_reducible assumption | dsimp only | with_reducible apply State.setCumValid_keeps)
    | (first | with_reducible apply State.abortProof_keeps | with_reducible apply State.notify_keeps)
    | (first | with_reducible apply State.passageHeadFault_keeps | with_reducible apply State.amonRefresh_keeps)
    | (first | (intro; intros) | simp only [Keeps.mk_eq] | split))

theorem State.remapOne_keeps (e : Fin 9) (hk : Keeps r s) : Keeps r (State.remapOne s e) := by
  unfold State.remapOne
  repeat' (first
    | (first | with_reducible assumption | dsimp only | with_reducible apply Keeps.ite)
    | (first | with_reducible apply State.takeOver_keeps | with_reducible apply State.loseEngine_keeps)
    | (first | (intro; intros) | simp only [Keeps.mk_eq] | split))

theorem State.remapStep_keeps (v : Fin 2) (hk : Keeps r s) : Keeps r (State.remapStep s v) := by
  unfold State.remapStep
  repeat' (first
    | (first | with_reducible assumption | dsimp only | with_reducible apply Keeps.ite)
    | (first | with_reducible apply State.remapOne_keeps | with_reducible apply State.each_keeps | (intro; intros))
    | (first | simp only [Keeps.mk_eq] | split))

theorem State.takeoverDecision_keeps (c : Fin 16) (hk : Keeps r s) : Keeps r (State.takeoverDecision s c) := by
  unfold State.takeoverDecision
  repeat' (first
    | (first | with_reducible assumption | dsimp only | with_reducible apply Keeps.ite)
    | (first | with_reducible apply State.engineSample_keeps | with_reducible apply State.onDet_keeps)
    | (first | with_reducible apply State.emit_keeps | (intro; intros) | simp only [Keeps.mk_eq] | split))

theorem State.proofStarts_keeps (c : Fin 16) (hk : Keeps r s) : Keeps r (State.proofStarts s c) := by
  unfold State.proofStarts
  repeat' (first
    | (first | with_reducible assumption | dsimp only | with_reducible apply State.onProof_keeps)
    | (first | (intro; intros) | simp only [Keeps.mk_eq] | split))

theorem State.proofPassed_keeps (c : Fin 16) (hk : Keeps r s) : Keeps r (State.proofPassed s c) := by
  unfold State.proofPassed
  repeat' (first
    | (first | with_reducible assumption | dsimp only | with_reducible apply State.onNvChan_keeps)
    | (first | with_reducible apply State.onProof_keeps | (intro; intros) | simp only [Keeps.mk_eq] | split))

theorem State.proofFailed_keeps (c : Fin 16) (hk : Keeps r s) : Keeps r (State.proofFailed s c) := by
  unfold State.proofFailed
  repeat' (first
    | (first | with_reducible assumption | dsimp only | with_reducible apply State.onProof_keeps)
    | (first | with_reducible apply State.record_keeps | with_reducible apply State.pulse_keeps)
    | (first | with_reducible apply State.chanFault_keeps | with_reducible apply State.when_keeps)
    | (first | (intro; intros) | simp only [Keeps.mk_eq] | split))

end Sys2Proof.Machine
end

