-- ==== Sys2Proof/Laws/KeepsEval.lean ====
section
/-! SUPPORT. What an evaluation step, the host event controller and the count keeper keep. -/

namespace Sys2Proof.Machine

set_option Elab.async false
set_option linter.unusedTactic false
set_option linter.unreachableTactic false
set_option linter.unusedSimpArgs false

variable {r s : State}

theorem State.bemfAlarm_keeps (v : Fin 2) (sec : Fin 4) (hk : Keeps r s) : Keeps r (State.bemfAlarm s v sec) := by
  unfold State.bemfAlarm
  repeat' (first
    | (first | with_reducible assumption | dsimp only | with_reducible apply State.onSv_keeps)
    | (first | with_reducible apply State.setBarred_keeps | with_reducible apply State.record_keeps)
    | (first | (intro; intros) | simp only [Keeps.mk_eq] | split))

theorem State.evalWitness_keeps (v : Fin 2) (sec : Fin 4) (hk : Keeps r s) : Keeps r (State.evalWitness s v sec) := by
  unfold State.evalWitness
  repeat' (first
    | (first | with_reducible assumption | dsimp only | with_reducible apply Keeps.ite)
    | (first | with_reducible apply State.bemfAlarm_keeps | with_reducible apply State.onSv_keeps)
    | (first | (intro; intros) | simp only [Keeps.mk_eq] | split))

theorem State.conditions_keeps (v : Fin 2) (sec : Fin 4) (hk : Keeps r s) : Keeps r (State.conditions s v sec) := by
  unfold State.conditions
  repeat' (first
    | (first | with_reducible assumption | dsimp only | with_reducible apply Keeps.ite)
    | (first | with_reducible apply State.onSv_keeps | with_reducible apply State.record_keeps)
    | (first | with_reducible apply State.each_keeps | with_reducible apply foldl_keeps | (intro; intros))
    | (first | simp only [Keeps.mk_eq] | split))

theorem State.expireCauses_keeps (v : Fin 2) (sec : Fin 4) (hk : Keeps r s) : Keeps r (State.expireCauses s v sec) := by
  unfold State.expireCauses
  repeat' (first
    | (first | with_reducible assumption | dsimp only | with_reducible apply State.onSv_keeps)
    | (first | (intro; intros) | simp only [Keeps.mk_eq] | split))

theorem State.configStep_keeps (v : Fin 2) (sec : Fin 4) (hk : Keeps r s) : Keeps r (State.configStep s v sec) := by
  unfold State.configStep
  repeat' (first
    | (first | with_reducible assumption | dsimp only | with_reducible apply Keeps.ite)
    | (first | with_reducible apply State.enter_keeps | (intro; intros) | simp only [Keeps.mk_eq] | split))

theorem State.disturbStep_keeps (v : Fin 2) (sec : Fin 4) (hk : Keeps r s) : Keeps r (State.disturbStep s v sec) := by
  unfold State.disturbStep
  repeat' (first
    | (first | with_reducible assumption | dsimp only | with_reducible apply Keeps.ite)
    | (first | with_reducible apply State.enter_keeps | with_reducible apply State.onSv_keeps | (intro; intros))
    | (first | simp only [Keeps.mk_eq] | split))

theorem State.clearance_keeps (v : Fin 2) (sec : Fin 4) (hk : Keeps r s) : Keeps r (State.clearance s v sec) := by
  unfold State.clearance
  repeat' (first
    | (first | with_reducible assumption | dsimp only | with_reducible apply Keeps.ite)
    | (first | with_reducible apply State.onSv_keeps | with_reducible apply State.enter_keeps | (intro; intros))
    | (first | simp only [Keeps.mk_eq] | split))

theorem State.restoreStep_keeps (v : Fin 2) (sec : Fin 4) (hk : Keeps r s) : Keeps r (State.restoreStep s v sec) := by
  unfold State.restoreStep
  repeat' (first
    | (first | with_reducible assumption | dsimp only | with_reducible apply State.onSv_keeps)
    | (first | with_reducible apply State.request_keeps | with_reducible apply State.refuse_keeps)
    | (first | with_reducible apply State.compute_keeps | with_reducible apply State.when_keeps | (intro; intros))
    | (first | simp only [Keeps.mk_eq] | split))

theorem State.barResult_keeps (v : Fin 2) (sec : Fin 4) (hk : Keeps r s) : Keeps r (State.barResult s v sec) := by
  unfold State.barResult
  repeat' (first
    | (first | with_reducible assumption | dsimp only | with_reducible apply State.refuse_keeps)
    | (first | with_reducible apply State.when_keeps | (intro; intros) | simp only [Keeps.mk_eq] | split))

theorem State.outcome_keeps (v : Fin 2) (sec : Fin 4) (hk : Keeps r s) : Keeps r (State.outcome s v sec) := by
  unfold State.outcome
  repeat' (first
    | (first | with_reducible assumption | dsimp only | with_reducible apply Keeps.ite)
    | (first | with_reducible apply State.enter_keeps | with_reducible apply State.refuse_keeps | (intro; intros))
    | (first | simp only [Keeps.mk_eq] | split))

theorem State.selfTimer_keeps (v : Fin 2) (sec : Fin 4) (hk : Keeps r s) : Keeps r (State.selfTimer s v sec) := by
  unfold State.selfTimer
  repeat' (first
    | (first | with_reducible assumption | dsimp only | with_reducible apply Keeps.ite)
    | (first | with_reducible apply State.onSv_keeps | (intro; intros) | simp only [Keeps.mk_eq] | split))

theorem State.selfApply_keeps (sec : Fin 4) (hk : Keeps r s) : Keeps r (State.selfApply s sec) := by
  unfold State.selfApply
  repeat' (first
    | (first | with_reducible assumption | dsimp only | with_reducible apply Keeps.ite)
    | (first | with_reducible apply State.applyZoneReset_keeps | with_reducible apply State.rebaseOuter_keeps)
    | (first | with_reducible apply State.rebaseHead_keeps | with_reducible apply State.onSv_keeps)
    | (first | with_reducible apply State.enter_keeps | with_reducible apply State.pulse_keeps)
    | (first | with_reducible apply State.each_keeps | (intro; intros) | simp only [Keeps.mk_eq] | split))

theorem State.selfAttest_keeps (sec : Fin 4) (hk : Keeps r s) : Keeps r (State.selfAttest s sec) := by
  unfold State.selfAttest
  repeat' (first
    | (first | with_reducible assumption | dsimp only | with_reducible apply Keeps.ite)
    | (first | with_reducible apply State.refuse_keeps | with_reducible apply State.selfApply_keeps)
    | (first | with_reducible apply State.each_keeps | (intro; intros) | simp only [Keeps.mk_eq] | split))

theorem State.castVote_keeps (v : Fin 2) (sec : Fin 4) (new : Vote) (hk : Keeps r s) : Keeps r (State.castVote s v sec new) := by
  unfold State.castVote
  repeat' (first
    | (first | with_reducible assumption | dsimp only | with_reducible apply Keeps.ite)
    | (first | with_reducible apply State.onSv_keeps | with_reducible apply State.dropPermit_keeps)
    | (first | (intro; intros) | simp only [Keeps.mk_eq] | split))

theorem State.proposeBits_keeps (v : Fin 2) (hk : Keeps r s) : Keeps r (State.proposeBits s v) := by
  unfold State.proposeBits
  repeat' (first
    | (first | with_reducible assumption | dsimp only | with_reducible apply State.onSv_keeps)
    | (first | (intro; intros) | simp only [Keeps.mk_eq] | split))

theorem State.publishWord_keeps (sec : Fin 4) (w : Word) (hk : Keeps r s) (hw : parOk w = true) :
    Keeps r (State.publishWord s sec w) := by
  unfold State.publishWord
  split
  · refine hk.words fun i => ⟨i.1, fun n x hx => ?_⟩
    by_cases h : n = sec
    · subst h
      have : w = x := by simpa [updV] using hx
      exact this ▸ hw
    · have : sec.val ≠ n.val := fun e => h (Fin.ext e.symm)
      exact i.2 n x (by simpa [updV, this] using hx)
  · simpa only [Keeps.mk_eq] using hk

theorem State.sweepRebase_keeps (sec : Fin 4) (hk : Keeps r s) : Keeps r (State.sweepRebase s sec) := by
  unfold State.sweepRebase
  repeat' (first
    | (first | with_reducible assumption | dsimp only | with_reducible apply State.rebaseOuter_keeps)
    | (first | with_reducible apply State.each_keeps | (intro; intros) | simp only [Keeps.mk_eq] | split))

theorem State.mergedEntry_keeps (sec : Fin 4) (st old : SecState) (hk : Keeps r s) : Keeps r (State.mergedEntry s sec st old) := by
  unfold State.mergedEntry
  repeat' (first
    | (first | with_reducible assumption | dsimp only | with_reducible apply Keeps.ite)
    | (first | with_reducible apply State.record_keeps | with_reducible apply State.pulse_keeps)
    | (first | with_reducible apply State.onNvSec_keeps | with_reducible apply State.setBarred_keeps)
    | (first | with_reducible apply State.onMerged_keeps | with_reducible apply State.sweepRebase_keeps)
    | (first | with_reducible apply State.when_keeps | (intro; intros) | simp only [Keeps.mk_eq] | split))

theorem State.kinProvisional_keeps (sec : Fin 4) (hk : Keeps r s) : Keeps r (State.kinProvisional s sec) := by
  unfold State.kinProvisional
  repeat' (first
    | (first | with_reducible assumption | dsimp only | with_reducible apply Keeps.ite)
    | (first | with_reducible apply State.kinOnset_keeps | (intro; intros) | simp only [Keeps.mk_eq] | split))

theorem State.mergeSec_keeps (sec : Fin 4) (hk : Keeps r s) : Keeps r (State.mergeSec s sec) := by
  unfold State.mergeSec
  repeat' (first
    | (first | with_reducible assumption | dsimp only | with_reducible apply Keeps.ite)
    | (first | with_reducible apply State.onMerged_keeps | with_reducible apply State.mergedEntry_keeps)
    | (first | with_reducible apply State.record_keeps | with_reducible apply State.pulse_keeps)
    | (first | with_reducible apply State.publishWord_keeps | with_reducible apply State.kinProvisional_keeps)
    | (first | with_reducible apply State.kinMerged_keeps | with_reducible apply State.when_keeps)
    | (first | (intro; intros) | exact Merged.word_parOk _ _ | simp only [Keeps.mk_eq] | split))

theorem State.brakeStep_keeps (sec : Fin 4) (hk : Keeps r s) : Keeps r (State.brakeStep s sec) := by
  unfold State.brakeStep
  repeat' (first
    | (first | with_reducible assumption | dsimp only | with_reducible apply Keeps.ite)
    | (first | with_reducible apply State.onTraction_keeps | with_reducible apply State.record_keeps)
    | (first | with_reducible apply State.pulse_keeps | with_reducible apply State.each_keeps | (intro; intros))
    | (first | simp only [Keeps.mk_eq] | split))

theorem State.attestEntries_keeps (hk : Keeps r s) : Keeps r (State.attestEntries s) := hk.mapped _

theorem State.checkpointDue_keeps (hk : Keeps r s) : Keeps r (State.checkpointDue s) := by
  unfold State.checkpointDue
  repeat' (first
    | (first | with_reducible assumption | dsimp only | with_reducible apply Keeps.ite)
    | (first | with_reducible apply State.cvuDone_keeps | (intro; intros) | simp only [Keeps.mk_eq] | split))

theorem State.occupancy_keeps (v : Fin 2) (sec : Fin 4) (triggered : Bool) (hk : Keeps r s) : Keeps r (State.occupancy s v sec triggered) := by
  unfold State.occupancy
  repeat' (first
    | (first | with_reducible assumption | dsimp only | with_reducible apply Keeps.ite)
    | (first | with_reducible apply State.enter_keeps | (intro; intros) | simp only [Keeps.mk_eq] | split))

theorem State.settleStep_keeps (v : Fin 2) (sec : Fin 4) (hk : Keeps r s) : Keeps r (State.settleStep s v sec) := by
  unfold State.settleStep
  repeat' (first
    | (first | with_reducible assumption | dsimp only | with_reducible apply State.settle_keeps)
    | (first | with_reducible apply State.compareOverlaps_keeps | with_reducible apply State.zoneResetDue_keeps)
    | (first | (intro; intros) | simp only [Keeps.mk_eq] | split))

theorem State.publish_keeps (hk : Keeps r s) : Keeps r (State.publish s) := by
  unfold State.publish
  repeat' (first
    | (first | with_reducible assumption | dsimp only | with_reducible apply State.brakeStep_keeps)
    | (first | with_reducible apply State.mergeSec_keeps | with_reducible apply State.attestEntries_keeps)
    | (first | with_reducible apply State.checkpointDue_keeps | with_reducible apply State.requalify_keeps)
    | (first | with_reducible apply State.each_keeps | (intro; intros) | simp only [Keeps.mk_eq] | split))

theorem State.publishAll_keeps (hk : Keeps r s) : Keeps r (State.publishAll s) := by
  unfold State.publishAll
  repeat' (first
    | (first | with_reducible assumption | dsimp only | with_reducible apply State.proposeBits_keeps)
    | (first | with_reducible apply State.publish_keeps | with_reducible apply State.each_keeps | (intro; intros))
    | (first | simp only [Keeps.mk_eq] | split))

theorem State.ckptNow_keeps (h : Fin 8) (hk : Keeps r s) : Keeps r (State.ckptNow s h) := by
  unfold State.ckptNow
  repeat' (first
    | (first | with_reducible assumption | dsimp only | with_reducible apply State.ckptWritten_keeps)
    | (first | with_reducible apply State.when_keeps | with_reducible apply State.whenSome_keeps | (intro; intros))
    | (first | simp only [Keeps.mk_eq] | split))

theorem State.isoGrant_keeps (i : Isolation) (hk : Keeps r s) : Keeps r (State.isoGrant s i) := by
  unfold State.isoGrant
  repeat' (first
    | (first | with_reducible assumption | dsimp only | with_reducible apply State.dropPermit_keeps)
    | (first | with_reducible apply State.setCumValid_keeps | with_reducible apply State.ckptNow_keeps)
    | (first | with_reducible apply State.pulse_keeps | with_reducible apply State.requalify_keeps)
    | (first | with_reducible apply State.each_keeps | (intro; intros) | simp only [Keeps.mk_eq] | split))

theorem State.isoJudge_keeps (hk : Keeps r s) : Keeps r (State.isoJudge s) := by
  unfold State.isoJudge
  repeat' (first
    | (first | with_reducible assumption | dsimp only | with_reducible apply Keeps.ite)
    | (first | with_reducible apply State.isoRefuse_keeps | with_reducible apply State.isoGrant_keeps)
    | (first | (intro; intros) | simp only [Keeps.mk_eq] | split))

theorem State.evalFront_keeps (v : Fin 2) (hk : Keeps r s) : Keeps r (State.evalFront s v).1 := by
  unfold State.evalFront
  repeat' (first
    | (first | with_reducible assumption | dsimp only | with_reducible apply State.remapStep_keeps)
    | (first | with_reducible apply State.onSv_keeps | with_reducible apply State.configStep_keeps)
    | (first | with_reducible apply State.takeInbox_keeps | with_reducible apply State.knownVehicles_keeps)
    | (first | with_reducible apply State.isoWheel_keeps | with_reducible apply State.settleStep_keeps)
    | (first | with_reducible apply State.conditions_keeps | with_reducible apply State.evalWitness_keeps)
    | (first | with_reducible apply State.expireCauses_keeps | with_reducible apply State.disturbStep_keeps)
    | (first | with_reducible apply State.when_keeps | with_reducible apply State.each_keeps | (intro; intros))
    | (first | simp only [Keeps.mk_eq] | refine Keeps.fst (by assumption) ?_ | split))

theorem State.evalBack_keeps (v : Fin 2) (trig : BitVec 4) (hk : Keeps r s) : Keeps r (State.evalBack s v trig) := by
  unfold State.evalBack
  repeat' (first
    | (first | with_reducible assumption | dsimp only | with_reducible apply Keeps.ite)
    | (first | with_reducible apply State.barResult_keeps | with_reducible apply State.applyResults_keeps)
    | (first | with_reducible apply State.restoreStep_keeps | with_reducible apply State.outcome_keeps)
    | (first | with_reducible apply State.selfTimer_keeps | with_reducible apply State.selfAttest_keeps)
    | (first | with_reducible apply State.occupancy_keeps | with_reducible apply State.clearance_keeps)
    | (first | with_reducible apply State.castVote_keeps | with_reducible apply State.horizons_keeps)
    | (first | with_reducible apply State.horizonStops_keeps | with_reducible apply State.isoWatch_keeps)
    | (first | with_reducible apply State.isoJudge_keeps | with_reducible apply State.planStep_keeps)
    | (first | with_reducible apply State.proposeBits_keeps | with_reducible apply State.publish_keeps)
    | (first | with_reducible apply State.managePower_keeps | with_reducible apply State.each_keeps)
    | (first | with_reducible apply State.eachFin_keeps | (intro; intros) | simp only [Keeps.mk_eq] | split))

theorem State.evalStep_keeps (v : Fin 2) (hk : Keeps r s) : Keeps r (State.evalStep s v) := by
  unfold State.evalStep
  repeat' (first
    | (first | with_reducible assumption | dsimp only | with_reducible apply State.evalFront_keeps)
    | (first | with_reducible apply State.evalBack_keeps | (intro; intros) | simp only [Keeps.mk_eq])
    | (first | refine Keeps.fst (by assumption) ?_ | split))

theorem State.evalBoth_keeps (hk : Keeps r s) : Keeps r (State.evalBoth s) := by
  unfold State.evalBoth
  repeat' (first
    | (first | with_reducible assumption | dsimp only | with_reducible apply State.evalStep_keeps)
    | (first | (intro; intros) | simp only [Keeps.mk_eq] | split))

theorem State.evalFronts_keeps (hk : Keeps r s) : Keeps r (State.evalFronts s).1 := by
  unfold State.evalFronts
  repeat' (first
    | (first | with_reducible assumption | dsimp only | with_reducible apply State.evalFront_keeps)
    | (first | (intro; intros) | simp only [Keeps.mk_eq] | refine Keeps.fst (by assumption) ?_ | split))

theorem State.evalBacks_keeps (trig : BitVec 4 × BitVec 4) (hk : Keeps r s) : Keeps r (State.evalBacks s trig) := by
  unfold State.evalBacks
  repeat' (first
    | (first | with_reducible assumption | dsimp only | with_reducible apply State.evalBack_keeps)
    | (first | (intro; intros) | simp only [Keeps.mk_eq] | split))

theorem State.hecRetain_keeps (hk : Keeps r s) : Keeps r (State.hecRetain s) := by
  unfold State.hecRetain
  repeat' (first
    | (first | with_reducible assumption | dsimp only | with_reducible apply Keeps.ite)
    | (first | with_reducible apply foldl_keeps | (intro; intros) | simp only [Keeps.mk_eq] | split))

theorem State.hecArbitrate_keeps (hk : Keeps r s) : Keeps r (State.hecArbitrate s) := by
  unfold State.hecArbitrate
  repeat' (first
    | (first | with_reducible assumption | dsimp only | with_reducible apply Keeps.ite | (intro; intros))
    | (first | simp only [Keeps.mk_eq] | split))

theorem State.hecSample_keeps (hk : Keeps r s) : Keeps r (State.hecSample s) := by
  unfold State.hecSample
  repeat' (first
    | (first | with_reducible assumption | dsimp only | with_reducible apply Keeps.ite | (intro; intros))
    | (first | simp only [Keeps.mk_eq] | split))

theorem State.hecAccess_keeps (t : Fin 4) (hk : Keeps r s) : Keeps r (State.hecAccess s t) := by
  unfold State.hecAccess
  repeat' (first
    | (first | with_reducible assumption | dsimp only | with_reducible apply Keeps.ite | (intro; intros))
    | (first | simp only [Keeps.mk_eq] | split))

theorem State.hecEnd_keeps (t : Fin 4) (w : Word) (hk : Keeps r s) : Keeps r (State.hecEnd s t w) := by
  unfold State.hecEnd
  repeat' (first
    | (first | with_reducible assumption | dsimp only | with_reducible apply Keeps.ite | (intro; intros))
    | (first | simp only [Keeps.mk_eq] | split))

theorem State.hecActive_keeps (off : BitVec 16) (w : Word) (hk : Keeps r s) : Keeps r (State.hecActive s off w) := by
  unfold State.hecActive
  repeat' (first
    | (first | with_reducible assumption | dsimp only | with_reducible apply Keeps.ite | (intro; intros))
    | (first | simp only [Keeps.mk_eq] | split))

theorem State.hecWrite_keeps (i : Instr) (hk : Keeps r s) : Keeps r (State.hecWrite s i) := by
  unfold State.hecWrite
  repeat' (first
    | (first | with_reducible assumption | dsimp only | with_reducible apply State.hecAccess_keeps)
    | (first | with_reducible apply State.hecEnd_keeps | with_reducible apply State.hecActive_keeps)
    | (first | (intro; intros) | simp only [Keeps.mk_eq] | split))

theorem State.hecFlush_keeps (hk : Keeps r s) : Keeps r (State.hecFlush s) := by
  unfold State.hecFlush
  repeat' (first
    | (first | with_reducible assumption | dsimp only | with_reducible apply Keeps.ite)
    | (first | with_reducible apply State.hecWrite_keeps | with_reducible apply State.each_keeps | (intro; intros))
    | (first | simp only [Keeps.mk_eq] | split))

theorem State.hecCommand_keeps (i : Instr) (hk : Keeps r s) : Keeps r (State.hecCommand s i) := by
  unfold State.hecCommand
  repeat' (first
    | (first | with_reducible assumption | dsimp only | with_reducible apply Keeps.ite)
    | (first | with_reducible apply State.hecFlush_keeps | with_reducible apply State.hecSample_keeps)
    | (first | with_reducible apply State.hecWrite_keeps | with_reducible apply State.hecArbitrate_keeps)
    | (first | with_reducible apply State.wakeEvent_keeps | (intro; intros) | simp only [Keeps.mk_eq] | split))

theorem State.svFail_keeps (v : Fin 2) (cause row : Nat) (hk : Keeps r s) : Keeps r (State.svFail s v cause row) := by
  unfold State.svFail
  repeat' (first
    | (first | with_reducible assumption | dsimp only | with_reducible apply Keeps.ite)
    | (first | with_reducible apply State.isoAbort_keeps | with_reducible apply State.unacknowledge_keeps)
    | (first | with_reducible apply State.onSv_keeps | with_reducible apply State.dropPermit_keeps)
    | (first | with_reducible apply State.journalStop_keeps | with_reducible apply State.record_keeps)
    | (first | with_reducible apply State.wakeEvent_keeps | with_reducible apply State.publish_keeps)
    | (first | with_reducible apply State.managePower_keeps | with_reducible apply State.when_keeps)
    | (first | with_reducible apply State.each_keeps | (intro; intros) | simp only [Keeps.mk_eq] | split))

theorem State.restEntry_keeps (w : Fin 2) (slot : Fin 2048) (hk : Keeps r s) : Keeps r (State.restEntry s w slot) := by
  unfold State.restEntry
  repeat' (first
    | (first | with_reducible assumption | dsimp only | with_reducible apply Keeps.ite)
    | (first | with_reducible apply State.countEntry_keeps | with_reducible apply State.acknowledge_keeps)
    | (first | with_reducible apply State.becameCounted_keeps | (intro; intros) | simp only [Keeps.mk_eq] | split))

theorem State.restLedger_keeps (w : Fin 2) (hk : Keeps r s) : Keeps r (State.restLedger s w) := by
  unfold State.restLedger
  repeat' (first
    | (first | with_reducible assumption | dsimp only | with_reducible apply Keeps.dite)
    | (first | with_reducible apply State.restEntry_keeps | with_reducible apply State.each_keeps)
    | (first | (intro; intros) | simp only [Keeps.mk_eq] | split))

theorem State.enterDegraded_keeps (w : Fin 2) (hk : Keeps r s) : Keeps r (State.enterDegraded s w) := by
  unfold State.enterDegraded
  repeat' (first
    | (first | with_reducible assumption | dsimp only | with_reducible apply State.evalStep_keeps)
    | (first | with_reducible apply State.restLedger_keeps | with_reducible apply State.onSv_keeps)
    | (first | with_reducible apply State.record_keeps | with_reducible apply State.publishWord_keeps)
    | (first | with_reducible apply State.each_keeps | (intro; intros) | exact Merged.word_parOk _ _)
    | (first | simp only [Keeps.mk_eq] | split))

theorem State.storeCkpt_keeps (c : Checkpoint) (hk : Keeps r s) : Keeps r (State.storeCkpt s c) := by
  unfold State.storeCkpt
  repeat' (first
    | (first | with_reducible assumption | dsimp only | with_reducible apply Keeps.ite | (intro; intros))
    | (first | simp only [Keeps.mk_eq] | split))

theorem State.markCkpt_keeps (c : Checkpoint) (hk : Keeps r s) : Keeps r (State.markCkpt s c) := hk.mapped _

theorem State.ckptFailed_keeps (hk : Keeps r s) : Keeps r (State.ckptFailed s) := by
  unfold State.ckptFailed
  repeat' (first
    | (first | with_reducible assumption | dsimp only | with_reducible apply Keeps.ite)
    | (first | with_reducible apply State.record_keeps | (intro; intros) | simp only [Keeps.mk_eq] | split))

theorem State.ckptDone_keeps (ok : Bool) (hk : Keeps r s) : Keeps r (State.ckptDone s ok) := by
  unfold State.ckptDone
  repeat' (first
    | (first | with_reducible assumption | dsimp only | with_reducible apply Keeps.ite)
    | (first | with_reducible apply State.storeCkpt_keeps | with_reducible apply State.markCkpt_keeps)
    | (first | with_reducible apply State.ckptFailed_keeps | (intro; intros) | simp only [Keeps.mk_eq] | split))

theorem State.mismatch_keeps (n : Fin 4) (hk : Keeps r s) : Keeps r (State.mismatch s n) := by
  unfold State.mismatch
  repeat' (first
    | (first | with_reducible assumption | dsimp only | with_reducible apply State.onNvSec_keeps)
    | (first | with_reducible apply State.record_keeps | with_reducible apply State.notify_keeps | (intro; intros))
    | (first | simp only [Keeps.mk_eq] | split))

theorem State.rederive_keeps (hk : Keeps r s) : Keeps r (State.rederive s) := by
  unfold State.rederive
  repeat' (first
    | (first | with_reducible assumption | dsimp only | with_reducible apply State.onSv_keeps)
    | (first | with_reducible apply State.each_keeps | (intro; intros) | simp only [Keeps.mk_eq] | split))

theorem State.deadboltClear_keeps (w : Word) (hk : Keeps r s) : Keeps r (State.deadboltClear s w) := by
  simpa only [State.deadboltClear, Keeps.mk_eq] using hk

end Sys2Proof.Machine
end

