-- ==== Sys2Proof/Laws/KeepsNet.lean ====
section
/-! SUPPORT. What the field network, the time base, the recorder and the Hasp layer keep. -/

namespace Sys2Proof.Machine

set_option Elab.async false
set_option linter.unusedTactic false
set_option linter.unreachableTactic false
set_option linter.unusedSimpArgs false

variable {r s : State}

theorem State.serveQueues_keeps (hk : Keeps r s) : Keeps r (State.serveQueues s) := by
  unfold State.serveQueues
  repeat' (first
    | (first | with_reducible assumption | dsimp only | with_reducible apply State.onPort_keeps)
    | (first | with_reducible apply State.each_keeps | (intro; intros) | simp only [Keeps.mk_eq] | split))

theorem State.enqueue_keeps (p : Fin 4) (x : TxFrame) (hk : Keeps r s) : Keeps r (State.enqueue s p x) := by
  unfold State.enqueue
  repeat' (first
    | (first | with_reducible assumption | dsimp only | with_reducible apply Keeps.ite)
    | (first | with_reducible apply State.onPort_keeps | with_reducible apply State.record_keeps | (intro; intros))
    | (first | simp only [Keeps.mk_eq] | split))

theorem State.frameEnds_keeps (p : Fin 4) (hk : Keeps r s) : Keeps r (State.frameEnds s p) := by
  unfold State.frameEnds
  repeat' (first
    | (first | with_reducible assumption | dsimp only | with_reducible apply State.onPort_keeps)
    | (first | (intro; intros) | simp only [Keeps.mk_eq] | split))

theorem State.switchStops_keeps (hk : Keeps r s) : Keeps r (State.switchStops s) := by
  unfold State.switchStops
  repeat' (first
    | (first | with_reducible assumption | dsimp only | with_reducible apply State.onPort_keeps)
    | (first | with_reducible apply State.frameEnds_keeps | with_reducible apply State.each_keeps)
    | (first | (intro; intros) | simp only [Keeps.mk_eq] | split))

theorem State.sendFrame_keeps (dest : List (Fin 4)) (dst : Mac) (tag : Option Tag) (ether : BitVec 16) (data : List Byte) (hk : Keeps r s) : Keeps r (State.sendFrame s dest dst tag ether data) := by
  unfold State.sendFrame
  repeat' (first
    | (first | with_reducible assumption | dsimp only | with_reducible apply Keeps.ite)
    | (first | with_reducible apply State.enqueue_keeps | with_reducible apply State.each_keeps | (intro; intros))
    | (first | simp only [Keeps.mk_eq] | split))

theorem State.originate_keeps (dst : Mac) (tag : Option Tag) (ether : BitVec 16) (data : List Byte) (hk : Keeps r s) : Keeps r (State.originate s dst tag ether data) := by
  unfold State.originate
  repeat' (first
    | (first | with_reducible assumption | dsimp only | with_reducible apply Keeps.ite)
    | (first | with_reducible apply State.sendFrame_keeps | (intro; intros) | simp only [Keeps.mk_eq] | split))

theorem State.sendSdp_keeps (dst : Mac) (tag : Option Tag) (payload : List Byte) (hk : Keeps r s) : Keeps r (State.sendSdp s dst tag payload) := by
  unfold State.sendSdp
  repeat' (first
    | (first | with_reducible assumption | dsimp only | with_reducible apply State.originate_keeps)
    | (first | (intro; intros) | simp only [Keeps.mk_eq] | split))

theorem State.sendTime_keeps (p : Fin 4) (dst : Mac) (body : List Byte) (hk : Keeps r s) : Keeps r (State.sendTime s p dst body) := by
  unfold State.sendTime
  repeat' (first
    | (first | with_reducible assumption | dsimp only | with_reducible apply Keeps.ite)
    | (first | with_reducible apply State.enqueue_keeps | (intro; intros) | simp only [Keeps.mk_eq] | split))

theorem State.prpForget_keeps (hk : Keeps r s) : Keeps r (State.prpForget s) := by
  simpa only [State.prpForget, Keeps.mk_eq] using hk

theorem State.stepTime_keeps (d : Int) (hk : Keeps r s) : Keeps r (State.stepTime s d) := by
  have h := hk.ledger (l := { s.led with copies := s.led.copies.map fun c => c.map fun p => (p.1, p.2.movedBy d) })
    fun h0 h1 => ⟨by simpa using kvWf_map _ h0, by simpa using kvWf_map _ h1⟩
  unfold State.stepTime
  exact Keeps.of h rfl rfl rfl rfl rfl rfl rfl rfl rfl rfl

theorem State.timeState_keeps (n : Nat) (hk : Keeps r s) : Keeps r (State.timeState s n) := by
  unfold State.timeState
  repeat' (first
    | (first | with_reducible assumption | dsimp only | with_reducible apply Keeps.ite)
    | (first | with_reducible apply State.record_keeps | with_reducible apply State.pulse_keeps)
    | (first | with_reducible apply State.wakeEvent_keeps | with_reducible apply State.when_keeps)
    | (first | (intro; intros) | simp only [Keeps.mk_eq] | split))

theorem State.judgeHoldover_keeps (hk : Keeps r s) : Keeps r (State.judgeHoldover s) := by
  unfold State.judgeHoldover
  repeat' (first
    | (first | with_reducible assumption | dsimp only | with_reducible apply State.timeState_keeps)
    | (first | with_reducible apply State.when_keeps | (intro; intros) | simp only [Keeps.mk_eq] | split))

theorem State.enterHoldover_keeps (hk : Keeps r s) : Keeps r (State.enterHoldover s) := by
  unfold State.enterHoldover
  repeat' (first
    | (first | with_reducible assumption | dsimp only | with_reducible apply State.timeState_keeps)
    | (first | with_reducible apply State.judgeHoldover_keeps | (intro; intros) | simp only [Keeps.mk_eq] | split))

theorem State.slaveLost_keeps (hk : Keeps r s) : Keeps r (State.slaveLost s) := by
  unfold State.slaveLost
  repeat' (first
    | (first | with_reducible assumption | dsimp only | with_reducible apply Keeps.ite)
    | (first | with_reducible apply State.enterHoldover_keeps | with_reducible apply State.timeState_keeps)
    | (first | (intro; intros) | simp only [Keeps.mk_eq] | split))

theorem State.signalOn_keeps (p : Fin 4) (hk : Keeps r s) : Keeps r (State.signalOn s p) := by
  unfold State.signalOn
  repeat' (first
    | (first | with_reducible assumption | dsimp only | with_reducible apply Keeps.ite)
    | (first | with_reducible apply State.sendTime_keeps | (intro; intros) | simp only [Keeps.mk_eq] | split))

theorem State.bestMaster_keeps (hk : Keeps r s) : Keeps r (State.bestMaster s) := by
  unfold State.bestMaster
  repeat' (first
    | (first | with_reducible assumption | dsimp only | with_reducible apply State.slaveLost_keeps)
    | (first | with_reducible apply State.timeState_keeps | with_reducible apply State.when_keeps)
    | (first | (intro; intros) | simp only [Keeps.mk_eq] | split))

theorem State.linkLost_keeps (p : Fin 4) (hk : Keeps r s) : Keeps r (State.linkLost s p) := by
  unfold State.linkLost
  repeat' (first
    | (first | with_reducible assumption | dsimp only | with_reducible apply Keeps.ite)
    | (first | with_reducible apply State.onPort_keeps | with_reducible apply State.record_keeps)
    | (first | with_reducible apply State.bestMaster_keeps | (intro; intros) | simp only [Keeps.mk_eq] | split))

theorem State.slewTo_keeps (offset : Int) (hk : Keeps r s) : Keeps r (State.slewTo s offset) := by
  simpa only [State.slewTo, Keeps.mk_eq] using hk

theorem State.eventStamp_keeps (hk : Keeps r s) : Keeps r (State.eventStamp s).2 := by
  unfold State.eventStamp
  repeat' (first
    | (first | with_reducible assumption | dsimp only | with_reducible apply Keeps.ite2)
    | (first | with_reducible apply State.unstatedRound_keeps | (intro; intros) | simp only [Keeps.mk_eq])
    | (first | refine Keeps.snd (by assumption) ?_ | split))

theorem State.takeSync_keeps (gm : Time) (hk : Keeps r s) : Keeps r (State.takeSync s gm) := by
  unfold State.takeSync
  repeat' (first
    | (first | with_reducible assumption | dsimp only | with_reducible apply Keeps.ite)
    | (first | with_reducible apply State.eventStamp_keeps | with_reducible apply State.stepTime_keeps)
    | (first | with_reducible apply State.record_keeps | with_reducible apply State.timeState_keeps)
    | (first | with_reducible apply State.slewTo_keeps | (intro; intros) | simp only [Keeps.mk_eq])
    | (first | refine Keeps.snd (by assumption) ?_ | split))

theorem State.relaySync_keeps (hk : Keeps r s) : Keeps r (State.relaySync s) := by
  unfold State.relaySync
  repeat' (first
    | (first | with_reducible assumption | dsimp only | with_reducible apply State.sendTime_keeps)
    | (first | with_reducible apply State.each_keeps | (intro; intros) | simp only [Keeps.mk_eq] | split))

theorem State.ppsLocked_keeps (on : Bool) (hk : Keeps r s) : Keeps r (State.ppsLocked s on) := by
  unfold State.ppsLocked
  repeat' (first
    | (first | with_reducible assumption | dsimp only | with_reducible apply Keeps.ite)
    | (first | with_reducible apply State.record_keeps | with_reducible apply State.pulse_keeps | (intro; intros))
    | (first | simp only [Keeps.mk_eq] | split))

theorem State.ppsRestart_keeps (hk : Keeps r s) : Keeps r (State.ppsRestart s) := by
  unfold State.ppsRestart
  repeat' (first
    | (first | with_reducible assumption | dsimp only | with_reducible apply State.ppsLocked_keeps)
    | (first | (intro; intros) | simp only [Keeps.mk_eq] | split))

theorem State.emcy_keeps (ev : RecEvent) (hk : Keeps r s) : Keeps r (State.emcy s ev) := by
  unfold State.emcy
  repeat' (first
    | (first | with_reducible assumption | dsimp only | with_reducible apply Keeps.ite)
    | (first | with_reducible apply State.sendSdp_keeps | with_reducible apply State.each_keeps | (intro; intros))
    | (first | simp only [Keeps.mk_eq] | split))

theorem State.recNext_keeps (hk : Keeps r s) : Keeps r (State.recNext s) := by
  unfold State.recNext
  repeat' (first
    | (first | with_reducible assumption | dsimp only | with_reducible apply Keeps.ite)
    | (first | with_reducible apply foldl_keeps | (intro; intros) | simp only [Keeps.mk_eq] | split))

theorem State.recEnter_keeps (ev : RecEvent) (hk : Keeps r s) : Keeps r (State.recEnter s ev) := by
  unfold State.recEnter
  repeat' (first
    | (first | with_reducible assumption | dsimp only | with_reducible apply Keeps.ite)
    | (first | with_reducible apply State.recNext_keeps | (intro; intros) | simp only [Keeps.mk_eq] | split))

theorem State.recOwn_keeps (code : BitVec 16) (emergency : Bool) (payload : List Byte) (hk : Keeps r s) : Keeps r (State.recOwn s code emergency payload) := by
  unfold State.recOwn
  repeat' (first
    | (first | with_reducible assumption | dsimp only | with_reducible apply State.recEnter_keeps)
    | (first | with_reducible apply State.emcy_keeps | with_reducible apply State.when_keeps | (intro; intros))
    | (first | simp only [Keeps.mk_eq] | split))

theorem State.recTake_keeps (ev : RecEvent) (hk : Keeps r s) : Keeps r (State.recTake s ev) := by
  unfold State.recTake
  repeat' (first
    | (first | with_reducible assumption | dsimp only | with_reducible apply Keeps.ite)
    | (first | with_reducible apply State.recEnter_keeps | with_reducible apply State.emcy_keeps)
    | (first | with_reducible apply State.when_keeps | (intro; intros) | simp only [Keeps.mk_eq] | split))

theorem State.latchFault_keeps (code row : BitVec 16) (force : Bool) (hk : Keeps r s) : Keeps r (State.latchFault s code row force) := by
  unfold State.latchFault
  repeat' (first
    | (first | with_reducible assumption | dsimp only | with_reducible apply Keeps.ite | (intro; intros))
    | (first | simp only [Keeps.mk_eq] | split))

theorem State.latchClear_keeps (hk : Keeps r s) : Keeps r (State.latchClear s) := by
  unfold State.latchClear
  repeat' (first
    | (first | with_reducible assumption | dsimp only | with_reducible apply Keeps.ite | (intro; intros))
    | (first | simp only [Keeps.mk_eq] | split))

theorem State.recFails_keeps (row : BitVec 16) (hk : Keeps r s) : Keeps r (State.recFails s row) := by
  unfold State.recFails
  repeat' (first
    | (first | with_reducible assumption | dsimp only | with_reducible apply State.latchFault_keeps)
    | (first | with_reducible apply State.emcy_keeps | (intro; intros) | simp only [Keeps.mk_eq] | split))

theorem State.rowFails_keeps (row : BitVec 16) (hk : Keeps r s) : Keeps r (State.rowFails s row) := by
  unfold State.rowFails
  repeat' (first
    | (first | with_reducible assumption | dsimp only | with_reducible apply Keeps.ite)
    | (first | with_reducible apply State.recOwn_keeps | with_reducible apply State.latchFault_keeps)
    | (first | (intro; intros) | simp only [Keeps.mk_eq] | split))

theorem State.appendOwn_keeps (code : BitVec 16) (emergency : Bool) (payload : List Byte) (hk : Keeps r s) : Keeps r (State.appendOwn s code emergency payload) := by
  unfold State.appendOwn
  repeat' (first
    | (first | with_reducible assumption | dsimp only | with_reducible apply State.emcy_keeps)
    | (first | with_reducible apply State.when_keeps | (intro; intros) | simp only [Keeps.mk_eq] | split))

theorem State.recFull_keeps (fails : Nat) (row : BitVec 16) (hk : Keeps r s) : Keeps r (State.recFull s fails row) := by
  unfold State.recFull
  repeat' (first
    | (first | with_reducible assumption | dsimp only | with_reducible apply Keeps.ite)
    | (first | with_reducible apply State.appendOwn_keeps | with_reducible apply State.emcy_keeps)
    | (first | with_reducible apply State.recFails_keeps | with_reducible apply State.rowFails_keeps)
    | (first | with_reducible apply State.when_keeps | (intro; intros) | simp only [Keeps.mk_eq] | split))

theorem State.recClear_keeps (slot : Nat) (hk : Keeps r s) : Keeps r (State.recClear s slot) := by
  unfold State.recClear
  repeat' (first
    | (first | with_reducible assumption | dsimp only | with_reducible apply State.appendOwn_keeps)
    | (first | with_reducible apply State.recNext_keeps | (intro; intros) | simp only [Keeps.mk_eq] | split))

theorem State.recClearWanted_keeps (slot : Nat) (hk : Keeps r s) : Keeps r (State.recClearWanted s slot) := by
  unfold State.recClearWanted
  repeat' (first
    | (first | with_reducible assumption | dsimp only | with_reducible apply Keeps.ite)
    | (first | with_reducible apply State.recClear_keeps | with_reducible apply State.when_keeps | (intro; intros))
    | (first | simp only [Keeps.mk_eq] | split))

theorem State.recWrite_keeps (q : Queued) (fails : Nat) (row : BitVec 16) (hk : Keeps r s) : Keeps r (State.recWrite s q fails row) := by
  unfold State.recWrite
  repeat' (first
    | (first | with_reducible assumption | dsimp only | with_reducible apply Keeps.ite)
    | (first | with_reducible apply State.recFull_keeps | with_reducible apply State.recFails_keeps)
    | (first | with_reducible apply State.rowFails_keeps | with_reducible apply State.recOwn_keeps)
    | (first | with_reducible apply State.when_keeps | (intro; intros) | simp only [Keeps.mk_eq] | split))

theorem State.enqueueFirst_keeps (p : Fin 4) (x : TxFrame) (hk : Keeps r s) : Keeps r (State.enqueueFirst s p x) := by
  unfold State.enqueueFirst
  repeat' (first
    | (first | with_reducible assumption | dsimp only | with_reducible apply Keeps.ite)
    | (first | with_reducible apply State.onPort_keeps | (intro; intros) | simp only [Keeps.mk_eq] | split))

theorem State.sendTele_keeps (k : Fin 8) (x : Tele) (hk : Keeps r s) : Keeps r (State.sendTele s k x) := by
  unfold State.sendTele
  repeat' (first
    | (first | with_reducible assumption | dsimp only | with_reducible apply Keeps.ite)
    | (first | with_reducible apply State.enqueueFirst_keeps | with_reducible apply State.onHaspConn_keeps)
    | (first | with_reducible apply State.each_keeps | (intro; intros) | simp only [Keeps.mk_eq] | split))

theorem State.sendAssembled_keeps (k : Fin 8) (l : List Tele) (hk : Keeps r s) : Keeps r (State.sendAssembled s k l) := by
  unfold State.sendAssembled
  repeat' (first
    | (first | with_reducible assumption | dsimp only | with_reducible apply Keeps.ite)
    | (first | with_reducible apply State.sendTele_keeps | with_reducible apply State.record_keeps)
    | (first | (intro; intros) | simp only [Keeps.mk_eq] | split))

theorem State.requestsTake_keeps (snap : State) (k : Fin 8) (sendTime : Time) (hk : Keeps r s) : Keeps r (State.requestsTake s snap k sendTime) := by
  unfold State.requestsTake
  repeat' (first
    | (first | with_reducible assumption | dsimp only | with_reducible apply State.chooseTR_keeps)
    | (first | with_reducible apply State.each_keeps | (intro; intros) | simp only [Keeps.mk_eq] | split))

theorem State.openGates_keeps (k : Fin 8) (hk : Keeps r s) : Keeps r (State.openGates s k) := by
  unfold State.openGates
  repeat' (first
    | (first | with_reducible assumption | dsimp only | with_reducible apply State.onPort_keeps)
    | (first | with_reducible apply State.each_keeps | (intro; intros) | simp only [Keeps.mk_eq] | split))

theorem State.neighbourNoEntry_keeps (k : Fin 8) (hk : Keeps r s) : Keeps r (State.neighbourNoEntry s k) := by
  unfold State.neighbourNoEntry
  repeat' (first
    | (first | with_reducible assumption | dsimp only | with_reducible apply Keeps.ite)
    | (first | with_reducible apply State.onHaspConn_keeps | with_reducible apply State.record_keeps)
    | (first | with_reducible apply State.pulse_keeps | (intro; intros) | simp only [Keeps.mk_eq] | split))

theorem State.connOut_keeps (k : Fin 8) (farewell : Bool) (hk : Keeps r s) : Keeps r (State.connOut s k farewell) := by
  unfold State.connOut
  repeat' (first
    | (first | with_reducible assumption | dsimp only | with_reducible apply Keeps.ite)
    | (first | with_reducible apply State.onNvConn_keeps | with_reducible apply State.record_keeps)
    | (first | with_reducible apply State.neighbourNoEntry_keeps | with_reducible apply State.wakeEvent_keeps)
    | (first | (intro; intros) | simp only [Keeps.mk_eq] | split))

theorem State.laneLost_keeps (k : Fin 8) (lane : Fin 2) (hk : Keeps r s) : Keeps r (State.laneLost s k lane) := by
  unfold State.laneLost
  repeat' (first
    | (first | with_reducible assumption | dsimp only | with_reducible apply State.onHaspConn_keeps)
    | (first | with_reducible apply State.onNvConn_keeps | with_reducible apply State.record_keeps)
    | (first | (intro; intros) | simp only [Keeps.mk_eq] | split))

theorem State.laneHeard_keeps (k : Fin 8) (lane : Fin 2) (hk : Keeps r s) : Keeps r (State.laneHeard s k lane) := by
  unfold State.laneHeard
  repeat' (first
    | (first | with_reducible assumption | dsimp only | with_reducible apply State.onHaspConn_keeps)
    | (first | with_reducible apply State.record_keeps | with_reducible apply State.when_keeps | (intro; intros))
    | (first | simp only [Keeps.mk_eq] | split))

theorem State.deliver_keeps (v : Fin 2) (sec n : Fin 4) (rep : PassRec) (hk : Keeps r s) : Keeps r (State.deliver s v sec n rep) := by
  unfold State.deliver
  repeat' (first
    | (first | with_reducible assumption | dsimp only | with_reducible apply Keeps.ite)
    | (first | with_reducible apply State.onNvSec_keeps | with_reducible apply State.raise_keeps)
    | (first | with_reducible apply State.onSv_keeps | with_reducible apply State.enqueue_keeps)
    | (first | with_reducible apply State.isoWheel_keeps | with_reducible apply State.kinTake_keeps)
    | (first | with_reducible apply State.when_keeps | (intro; intros) | simp only [Keeps.mk_eq] | split))

theorem State.takeRecords_keeps (v : Fin 2) (k : Fin 8) (x : Tele) (hk : Keeps r s) : Keeps r (State.takeRecords s v k x) := by
  unfold State.takeRecords
  repeat' (first
    | (first | with_reducible assumption | dsimp only | with_reducible apply Keeps.ite)
    | (first | with_reducible apply State.crossCheck_keeps | with_reducible apply State.onSv_keeps)
    | (first | with_reducible apply State.deliver_keeps | with_reducible apply State.each_keeps | (intro; intros))
    | (first | simp only [Keeps.mk_eq] | split))

theorem State.mirrorCheck_keeps (v : Fin 2) (k : Fin 8) (x : Tele) (hk : Keeps r s) : Keeps r (State.mirrorCheck s v k x) := by
  unfold State.mirrorCheck
  repeat' (first
    | (first | with_reducible assumption | dsimp only | with_reducible apply Keeps.ite)
    | (first | with_reducible apply State.crossCheck_keeps | with_reducible apply State.onSv_keeps)
    | (first | (intro; intros) | simp only [Keeps.mk_eq] | split))

theorem State.takeAnswer_keeps (v : Fin 2) (k : Fin 8) (x : Tele) (hk : Keeps r s) : Keeps r (State.takeAnswer s v k x) := by
  unfold State.takeAnswer
  repeat' (first
    | (first | with_reducible assumption | dsimp only | with_reducible apply Keeps.ite)
    | (first | with_reducible apply State.onSv_keeps | with_reducible apply State.refuse_keeps)
    | (first | with_reducible apply State.each_keeps | (intro; intros) | simp only [Keeps.mk_eq] | split))

theorem State.takeZone_keeps (v : Fin 2) (k : Fin 8) (x : Tele) (hk : Keeps r s) : Keeps r (State.takeZone s v k x) := by
  unfold State.takeZone
  repeat' (first
    | (first | with_reducible assumption | dsimp only | with_reducible apply Keeps.ite)
    | (first | with_reducible apply State.onSv_keeps | (intro; intros) | simp only [Keeps.mk_eq] | split))

theorem State.process_keeps (v : Fin 2) (k : Fin 8) (x : Tele) (fresh : Bool) (hk : Keeps r s) : Keeps r (State.process s v k x fresh) := by
  unfold State.process
  repeat' (first
    | (first | with_reducible assumption | dsimp only | with_reducible apply Keeps.ite)
    | (first | with_reducible apply State.onSv_keeps | with_reducible apply State.takeRecords_keeps)
    | (first | with_reducible apply State.mirrorCheck_keeps | with_reducible apply State.takeZone_keeps)
    | (first | with_reducible apply State.takeAnswer_keeps | with_reducible apply State.crossCheck_keeps)
    | (first | (intro; intros) | simp only [Keeps.mk_eq] | split))

theorem State.accept_keeps (v : Fin 2) (k : Fin 8) (x : Tele) (payload : List Byte) (hk : Keeps r s) : Keeps r (State.accept s v k x payload) := by
  unfold State.accept
  repeat' (first
    | (first | with_reducible assumption | dsimp only | with_reducible apply Keeps.ite)
    | (first | with_reducible apply State.onSv_keeps | with_reducible apply State.process_keeps | (intro; intros))
    | (first | simp only [Keeps.mk_eq] | split))

theorem State.readWaiting_keeps (v : Fin 2) (k : Fin 8) (hk : Keeps r s) : Keeps r (State.readWaiting s v k) := by
  unfold State.readWaiting
  repeat' (first
    | (first | with_reducible assumption | dsimp only | with_reducible apply State.onSv_keeps)
    | (first | with_reducible apply State.process_keeps | with_reducible apply State.when_keeps)
    | (first | with_reducible apply State.each_keeps | (intro; intros) | simp only [Keeps.mk_eq] | split))

theorem State.rejectCopy_keeps (k : Fin 8) (step : Nat) (hk : Keeps r s) : Keeps r (State.rejectCopy s k step) := by
  unfold State.rejectCopy
  repeat' (first
    | (first | with_reducible assumption | dsimp only | with_reducible apply State.onHaspConn_keeps)
    | (first | with_reducible apply State.record_keeps | (intro; intros) | simp only [Keeps.mk_eq] | split))

theorem State.haspWake_keeps (k : Fin 8) (x : Tele) (hk : Keeps r s) : Keeps r (State.haspWake s k x) := by
  unfold State.haspWake
  repeat' (first
    | (first | with_reducible assumption | dsimp only | with_reducible apply Keeps.ite)
    | (first | with_reducible apply State.wakeEvent_keeps | with_reducible apply State.when_keeps)
    | (first | (intro; intros) | simp only [Keeps.mk_eq] | split))

theorem State.takeCopy_keeps (k : Fin 8) (x : Tele) (payload : List Byte) (hk : Keeps r s) : Keeps r (State.takeCopy s k x payload) := by
  unfold State.takeCopy
  repeat' (first
    | (first | with_reducible assumption | dsimp only | with_reducible apply Keeps.ite)
    | (first | with_reducible apply State.cvuDone_keeps | with_reducible apply State.record_keeps)
    | (first | with_reducible apply State.onHaspConn_keeps | with_reducible apply State.rejectCopy_keeps)
    | (first | with_reducible apply State.sendTime_keeps | with_reducible apply State.accept_keeps)
    | (first | with_reducible apply State.connOut_keeps | with_reducible apply State.neighbourNoEntry_keeps)
    | (first | with_reducible apply State.haspWake_keeps | with_reducible apply State.when_keeps)
    | (first | with_reducible apply State.each_keeps | (intro; intros) | simp only [Keeps.mk_eq] | split))

theorem State.haspTake_keeps (port : Fin 4) (f : Frame) (hk : Keeps r s) : Keeps r (State.haspTake s port f) := by
  unfold State.haspTake
  repeat' (first
    | (first | with_reducible assumption | dsimp only | with_reducible apply Keeps.ite)
    | (first | with_reducible apply State.record_keeps | with_reducible apply State.rejectCopy_keeps)
    | (first | with_reducible apply State.laneHeard_keeps | with_reducible apply State.takeCopy_keeps)
    | (first | (intro; intros) | simp only [Keeps.mk_eq] | split))

theorem State.haspFrame_keeps (port : Fin 4) (f : Frame) (hk : Keeps r s) : Keeps r (State.haspFrame s port f) := by
  unfold State.haspFrame
  repeat' (first
    | (first | with_reducible assumption | dsimp only | with_reducible apply State.haspTake_keeps)
    | (first | with_reducible apply State.when_keeps | (intro; intros) | simp only [Keeps.mk_eq] | split))

theorem State.leaveTemplates_keeps (hk : Keeps r s) : Keeps r (State.leaveTemplates s) := by
  unfold State.leaveTemplates
  repeat' (first
    | (first | with_reducible assumption | dsimp only | with_reducible apply Keeps.ite)
    | (first | with_reducible apply State.sendTime_keeps | with_reducible apply State.onHaspConn_keeps)
    | (first | with_reducible apply State.each_keeps | (intro; intros) | simp only [Keeps.mk_eq] | split))

end Sys2Proof.Machine
end

