-- ==== Sys2Proof/Laws/KeepsSdp.lean ====
section
/-! SUPPORT. What the dictionary and the removal sequence keep. -/

namespace Sys2Proof.Machine

set_option Elab.async false
set_option linter.unusedTactic false
set_option linter.unreachableTactic false
set_option linter.unusedSimpArgs false

variable {r s : State}

theorem State.readRat_keeps (w : Nat) (q : Rat) (hk : Keeps r s) : Keeps r (State.readRat s w q).2 := by
  unfold State.readRat
  repeat' (first
    | (first | with_reducible assumption | dsimp only | with_reducible apply Keeps.ite2)
    | (first | with_reducible apply State.unstatedRound_keeps | (intro; intros) | simp only [Keeps.mk_eq])
    | (first | refine Keeps.snd (by assumption) ?_ | split))

theorem State.readDuration_keeps (o : Option Time) (hk : Keeps r s) : Keeps r (State.readDuration s o).2 := by
  unfold State.readDuration
  repeat' (first
    | (first | with_reducible assumption | dsimp only | with_reducible apply Keeps.ite2)
    | (first | with_reducible apply State.unstatedRound_keeps | (intro; intros) | simp only [Keeps.mk_eq])
    | (first | refine Keeps.snd (by assumption) ?_ | split))

theorem State.readChan_keeps (c : Fin 16) (sub : Nat) (hk : Keeps r s) : Keeps r (State.readChan s c sub).2 := by
  unfold State.readChan
  repeat' (first
    | (first | with_reducible assumption | dsimp only | with_reducible apply Keeps.ite2)
    | (first | with_reducible apply State.readRat_keeps | with_reducible apply State.rootRound_keeps)
    | (first | (intro; intros) | simp only [Keeps.mk_eq] | refine Keeps.snd (by assumption) ?_ | split))

theorem State.readVerdict_keeps (n : Fin 4) (sub : Nat) (hk : Keeps r s) : Keeps r (State.readVerdict s n sub).2 := by
  unfold State.readVerdict
  repeat' (first
    | (first | with_reducible assumption | dsimp only | with_reducible apply Keeps.ite2)
    | (first | with_reducible apply State.readRat_keeps | with_reducible apply foldl_keeps_snd | (intro; intros))
    | (first | simp only [Keeps.mk_eq] | refine Keeps.snd (by assumption) ?_ | split))

theorem State.readZone_keeps (n : Fin 4) (sub : Nat) (hk : Keeps r s) : Keeps r (State.readZone s n sub).2 := by
  unfold State.readZone
  repeat' (first
    | (first | with_reducible assumption | dsimp only | with_reducible apply Keeps.ite2)
    | (first | with_reducible apply State.readRat_keeps | (intro; intros) | simp only [Keeps.mk_eq])
    | (first | refine Keeps.snd (by assumption) ?_ | split))

theorem State.readPower_keeps (sub : Nat) (hk : Keeps r s) : Keeps r (State.readPower s sub).2 := by
  unfold State.readPower
  repeat' (first
    | (first | with_reducible assumption | dsimp only | with_reducible apply Keeps.ite2)
    | (first | with_reducible apply State.readDuration_keeps | (intro; intros) | simp only [Keeps.mk_eq])
    | (first | refine Keeps.snd (by assumption) ?_ | split))

theorem State.readHorizon_keeps (h : Fin 8) (sub : Nat) (hk : Keeps r s) : Keeps r (State.readHorizon s h sub).2 := by
  unfold State.readHorizon
  repeat' (first
    | (first | with_reducible assumption | dsimp only | with_reducible apply Keeps.ite2)
    | (first | with_reducible apply State.readDuration_keeps | (intro; intros) | simp only [Keeps.mk_eq])
    | (first | refine Keeps.snd (by assumption) ?_ | split))

theorem State.drawChallenge_keeps (i : Fin 5) (hk : Keeps r s) : Keeps r (State.drawChallenge s i).2 := by
  unfold State.drawChallenge
  repeat' (first
    | (first | with_reducible assumption | dsimp only | with_reducible apply Keeps.ite2)
    | (first | with_reducible apply State.onSession_keeps | (intro; intros) | simp only [Keeps.mk_eq] | split))

theorem State.readEntries_keeps (i : Fin 5) (block : Bool) (hk : Keeps r s) : Keeps r (State.readEntries s i block).2 := by
  unfold State.readEntries
  repeat' (first
    | (first | with_reducible assumption | dsimp only | with_reducible apply Keeps.ite2)
    | (first | with_reducible apply State.onSession_keeps | (intro; intros) | simp only [Keeps.mk_eq] | split))

theorem State.readValue_keeps (i : Fin 5) (key : Nat) (rep : DRow) (hk : Keeps r s) :
    Keeps r (State.readValue s i key rep).2 := by
  unfold State.readValue
  dsimp only
  repeat' (first
    | with_reducible assumption
    | with_reducible apply Keeps.ite2
    | with_reducible apply Keeps.dite2
    | (first | with_reducible apply State.drawChallenge_keeps | with_reducible apply State.readChan_keeps)
    | (first | with_reducible apply State.readPower_keeps | with_reducible apply State.readHorizon_keeps)
    | (first | with_reducible apply State.readVerdict_keeps | with_reducible apply State.readZone_keeps)
    | (first | with_reducible apply State.readEntries_keeps | intro _ | dsimp only | split))

theorem workWith_wf (l : List Change) : ∀ {w : List KeyVal}, kvWf w = true → kvWf (workWith w l) = true := by
  unfold workWith
  induction l with
  | nil => intro w h; exact h
  | cons c l ih =>
    intro w h
    refine ih ?_
    dsimp only
    split
    · exact kvSet_wf h
    · exact kvDel_wf h

theorem State.withWork_keeps (w : List KeyVal) (hk : Keeps r s) (hw : kvWf s.sdp.work = true → kvWf w = true) :
    Keeps r (State.withWork s w) := hk.working fun _ h => hw h

theorem State.after_keeps (l : List Change) (hk : Keeps r s) : Keeps r (State.after s l) :=
  State.withWork_keeps _ hk (workWith_wf l)

theorem State.afterReset_keeps (p : Phase) (hk : Keeps r s) : Keeps r (State.afterReset s p) := by
  refine ⟨hk.1, hk.2.1, hk.2.2.1, hk.2.2.2.1, fun n h => ?_, fun i => ⟨⟨(hk.2.2.2.2.2 i).1.1, rfl, rfl, rfl⟩, ?_, ?_⟩⟩
  · simp [State.afterReset] at h
  · have : parOk 0x0000000D = true := by decide
    simpa [State.afterReset] using this
  · intro n w h
    simp [State.afterReset] at h

theorem State.countAll_keeps (slot : Fin 2048) (hk : Keeps r s) : Keeps r (State.countAll s slot) := by
  unfold State.countAll
  repeat' (first
    | (first | with_reducible assumption | dsimp only | with_reducible apply State.countEntry_keeps)
    | (first | with_reducible apply State.when_keeps | with_reducible apply State.each_keeps | (intro; intros))
    | (first | simp only [Keeps.mk_eq] | split))

theorem State.countRest_keeps (hk : Keeps r s) : Keeps r (State.countRest s) := by
  unfold State.countRest
  repeat' (first
    | (first | with_reducible assumption | dsimp only | with_reducible apply Keeps.dite)
    | (first | with_reducible apply State.restLedger_keeps | with_reducible apply State.countAll_keeps)
    | (first | with_reducible apply State.each_keeps | (intro; intros) | simp only [Keeps.mk_eq] | split))

theorem State.voidOpen_keeps (hk : Keeps r s) : Keeps r (State.voidOpen s) := by
  unfold State.voidOpen
  repeat' (first
    | (first | with_reducible assumption | dsimp only | with_reducible apply State.voidEntry_keeps)
    | (first | with_reducible apply State.each_keeps | (intro; intros) | simp only [Keeps.mk_eq] | split))

theorem State.dropAll_keeps (hk : Keeps r s) : Keeps r (State.dropAll s) := by
  unfold State.dropAll
  repeat' (first
    | (first | with_reducible assumption | dsimp only | with_reducible apply State.dropPermit_keeps)
    | (first | with_reducible apply State.bothSv_keeps | with_reducible apply State.each_keeps | (intro; intros))
    | (first | simp only [Keeps.mk_eq] | split))

theorem State.finalCkpt_keeps (hk : Keeps r s) : Keeps r (State.finalCkpt s) := by
  unfold State.finalCkpt
  repeat' (first
    | (first | with_reducible assumption | dsimp only | with_reducible apply Keeps.ite)
    | (first | with_reducible apply State.ckptDone_keeps | with_reducible apply State.storeCkpt_keeps)
    | (first | with_reducible apply State.markCkpt_keeps | with_reducible apply State.cvuDone_keeps)
    | (first | (intro; intros) | simp only [Keeps.mk_eq] | split))

theorem State.farewells_keeps (cause voidHeads : Nat) (hk : Keeps r s) : Keeps r (State.farewells s cause voidHeads) := by
  unfold State.farewells
  repeat' (first
    | (first | with_reducible assumption | dsimp only | with_reducible apply State.sendAssembled_keeps)
    | (first | with_reducible apply State.cvuDone_keeps | with_reducible apply State.onHaspConn_keeps)
    | (first | with_reducible apply State.each_keeps | (intro; intros) | simp only [Keeps.mk_eq] | split))

theorem State.saveOpsec_keeps (hk : Keeps r s) : Keeps r (State.saveOpsec s) := by
  simpa only [State.saveOpsec, Keeps.mk_eq] using hk

theorem State.warningTaken_keeps (hk : Keeps r s) : Keeps r (State.warningTaken s) := by
  unfold State.warningTaken
  repeat' (first
    | (first | with_reducible assumption | dsimp only | with_reducible apply State.dropAll_keeps)
    | (first | with_reducible apply State.switchStops_keeps | (intro; intros) | simp only [Keeps.mk_eq] | split))

theorem State.restsWithdrawn_keeps (hk : Keeps r s) : Keeps r (State.restsWithdrawn s) := by
  unfold State.restsWithdrawn
  repeat' (first
    | (first | with_reducible assumption | dsimp only | with_reducible apply Keeps.ite)
    | (first | with_reducible apply State.bothSv_keeps | (intro; intros) | simp only [Keeps.mk_eq] | split))

theorem State.lastStep_keeps (hk : Keeps r s) : Keeps r (State.lastStep s) := by
  unfold State.lastStep
  repeat' (first
    | (first | with_reducible assumption | dsimp only | with_reducible apply State.evalFronts_keeps)
    | (first | with_reducible apply State.restsWithdrawn_keeps | with_reducible apply State.evalBacks_keeps)
    | (first | (intro; intros) | simp only [Keeps.mk_eq] | refine Keeps.fst (by assumption) ?_ | split))

theorem State.lastCounts_keeps (hk : Keeps r s) : Keeps r (State.lastCounts s) := by
  unfold State.lastCounts
  repeat' (first
    | (first | with_reducible assumption | dsimp only | with_reducible apply State.countRest_keeps)
    | (first | with_reducible apply State.voidOpen_keeps | with_reducible apply State.finalCkpt_keeps)
    | (first | with_reducible apply State.publishAll_keeps | (intro; intros) | simp only [Keeps.mk_eq] | split))

theorem State.removedBy_keeps (cause : Nat) (hk : Keeps r s) : Keeps r (State.removedBy s cause) :=
  Keeps.of (hk.permits (p := s.keep.permits.map fun p => { p with latch := false, qualAt := none }) fun n x => by simp at x)
    rfl rfl rfl rfl rfl rfl rfl rfl rfl rfl

theorem State.removal_keeps (cause journal : Nat) (hk : Keeps r s) : Keeps r (State.removal s cause journal) := by
  unfold State.removal
  have h1 := State.warningTaken_keeps (State.when_keeps (b := s.pwr.state != .hibernate) (State.isoAbort_keeps false hk)
    fun _ hu => State.lastStep_keeps hu)
  exact State.removedBy_keeps _ (State.saveOpsec_keeps (State.journalStop_keeps _ (State.farewells_keeps _ _
    (State.when_keeps h1 fun _ hu => State.lastCounts_keeps hu))))

theorem State.powerBad_keeps (hk : Keeps r s) : Keeps r (State.powerBad s) := by
  unfold State.powerBad
  repeat' (first
    | (first | with_reducible assumption | dsimp only | with_reducible apply Keeps.ite | (intro; intros))
    | (first | simp only [Keeps.mk_eq] | split))

theorem State.softReset_keeps (hk : Keeps r s) : Keeps r (State.softReset s) := by
  unfold State.softReset
  repeat' (first
    | (first | with_reducible assumption | dsimp only | with_reducible apply Keeps.ite)
    | (first | with_reducible apply State.removal_keeps | (intro; intros) | simp only [Keeps.mk_eq] | split))

theorem State.cutCkpt_keeps (hk : Keeps r s) : Keeps r (State.cutCkpt s) := by
  unfold State.cutCkpt
  repeat' (first
    | (first | with_reducible assumption | dsimp only | with_reducible apply Keeps.ite)
    | (first | with_reducible apply State.storeCkpt_keeps | with_reducible apply State.when_keeps)
    | (first | with_reducible apply State.whenSome_keeps | (intro; intros) | simp only [Keeps.mk_eq] | split))

theorem State.strikeSec_keeps (n : Fin 4) (hk : Keeps r s) : Keeps r (State.strikeSec s n) := by
  unfold State.strikeSec
  repeat' (first
    | (first | with_reducible assumption | dsimp only | with_reducible apply Keeps.ite)
    | (first | with_reducible apply State.onNvSec_keeps | with_reducible apply State.setCumValid_keeps)
    | (first | with_reducible apply State.bothSv_keeps | with_reducible apply State.enter_keeps)
    | (first | with_reducible apply State.each_keeps | (intro; intros) | simp only [Keeps.mk_eq] | split))

theorem State.headOff_keeps (h : Fin 8) (hk : Keeps r s) : Keeps r (State.headOff s h) := by
  unfold State.headOff
  repeat' (first
    | (first | with_reducible assumption | dsimp only | with_reducible apply State.onChan_keeps)
    | (first | with_reducible apply State.onWarn_keeps | with_reducible apply State.onScan_keeps)
    | (first | with_reducible apply State.onDet_keeps | with_reducible apply State.onStats_keeps)
    | (first | with_reducible apply State.onProof_keeps | with_reducible apply State.onEp_keeps)
    | (first | with_reducible apply State.onWse_keeps | with_reducible apply State.setCumValid_keeps)
    | (first | with_reducible apply State.when_keeps | with_reducible apply State.each_keeps)
    | (first | with_reducible apply State.whenSome_keeps | (intro; intros) | simp only [Keeps.mk_eq] | split))

theorem State.headOn_keeps (h : Fin 8) (hk : Keeps r s) : Keeps r (State.headOn s h) := by
  unfold State.headOn
  repeat' (first
    | (first | with_reducible assumption | dsimp only | with_reducible apply State.onChan_keeps)
    | (first | with_reducible apply State.when_keeps | with_reducible apply State.each_keeps | (intro; intros))
    | (first | simp only [Keeps.mk_eq] | split))

theorem State.chanHook_keeps (old : State) (keys : List Nat) (c : Fin 16) (hk : Keeps r s) : Keeps r (State.chanHook s old keys c) := by
  unfold State.chanHook
  repeat' (first
    | (first | with_reducible assumption | dsimp only | with_reducible apply State.onNvChan_keeps)
    | (first | with_reducible apply State.commandChange_keeps | with_reducible apply State.onChan_keeps)
    | (first | with_reducible apply State.when_keeps | (intro; intros) | simp only [Keeps.mk_eq] | split))

theorem State.connFresh_keeps (k : Fin 8) (hk : Keeps r s) : Keeps r (State.connFresh s k) := by
  unfold State.connFresh
  repeat' (first
    | (first | with_reducible assumption | dsimp only | with_reducible apply State.onHaspConn_keeps)
    | (first | with_reducible apply State.neighbourNoEntry_keeps | (intro; intros) | simp only [Keeps.mk_eq])
    | split)

theorem State.configHooks_keeps (old : State) (keys : List Nat) (hk : Keeps r s) : Keeps r (State.configHooks s old keys) := by
  unfold State.configHooks
  repeat' (first
    | (first | with_reducible assumption | dsimp only | with_reducible apply Keeps.ite)
    | (first | with_reducible apply State.headOff_keeps | with_reducible apply State.headOn_keeps)
    | (first | with_reducible apply State.chanHook_keeps | with_reducible apply State.blankJudge_keeps)
    | (first | with_reducible apply State.onTch_keeps | with_reducible apply State.bodyWarning_keeps)
    | (first | with_reducible apply State.connFresh_keeps | with_reducible apply State.linkLost_keeps)
    | (first | with_reducible apply State.signalOn_keeps | with_reducible apply State.judgeHoldover_keeps)
    | (first | with_reducible apply State.ppsRestart_keeps | with_reducible apply State.amonRefresh_keeps)
    | (first | with_reducible apply State.when_keeps | with_reducible apply State.each_keeps)
    | (first | with_reducible apply State.eachFin_keeps | with_reducible apply State.whenSome_keeps)
    | (first | (intro; intros) | simp only [Keeps.mk_eq] | split))

theorem State.applyConfig_keeps (l : List Change) (hk : Keeps r s) : Keeps r (State.applyConfig s l) := by
  unfold State.applyConfig
  repeat' (first
    | (first | with_reducible assumption | dsimp only | with_reducible apply State.after_keeps)
    | (first | with_reducible apply State.configHooks_keeps | with_reducible apply State.strikeSec_keeps)
    | (first | with_reducible apply State.configStep_keeps | with_reducible apply State.publishAll_keeps)
    | (first | with_reducible apply State.each_keeps | (intro; intros) | simp only [Keeps.mk_eq] | split))

theorem State.storeChanges_keeps (l : List Change) (hk : Keeps r s) : Keeps r (State.storeChanges s l) := by
  unfold State.storeChanges
  · refine State.each_keeps hk fun u c hu => ?_
    dsimp only
    split
    · exact State.storeEntry_keeps _ _ hu
    · exact (hu.stored (nv := { u.nv with cfg := kvDel c.1 u.nv.cfg }) kvDel_wf).working fun _ h => h

theorem State.discardResult_keeps (n : Fin 4) (hk : Keeps r s) : Keeps r (State.discardResult s n) := by
  unfold State.discardResult
  repeat' (first
    | (first | with_reducible assumption | dsimp only | with_reducible apply State.record_keeps)
    | (first | with_reducible apply State.when_keeps | (intro; intros) | simp only [Keeps.mk_eq] | split))

theorem State.sweep_keeps (n : Fin 4) (hk : Keeps r s) : Keeps r (State.sweep s n) := by
  unfold State.sweep
  repeat' (first
    | (first | with_reducible assumption | dsimp only | with_reducible apply State.discardResult_keeps)
    | (first | with_reducible apply State.onSv_keeps | with_reducible apply State.enter_keeps)
    | (first | with_reducible apply State.pulse_keeps | with_reducible apply State.each_keeps | (intro; intros))
    | (first | simp only [Keeps.mk_eq] | split))

theorem State.directClear_keeps (n : Fin 4) (ref slot : Nat) (hk : Keeps r s) : Keeps r (State.directClear s n ref slot) := by
  unfold State.directClear
  repeat' (first
    | (first | with_reducible assumption | dsimp only | with_reducible apply State.discardResult_keeps)
    | (first | with_reducible apply State.onSv_keeps | with_reducible apply State.sweepRebase_keeps)
    | (first | with_reducible apply State.setBarred_keeps | with_reducible apply State.enter_keeps)
    | (first | with_reducible apply State.record_keeps | with_reducible apply State.pulse_keeps)
    | (first | with_reducible apply State.each_keeps | (intro; intros) | simp only [Keeps.mk_eq] | split))

theorem State.releaseWitness_keeps (n : Fin 4) (hk : Keeps r s) : Keeps r (State.releaseWitness s n) := by
  unfold State.releaseWitness
  repeat' (first
    | (first | with_reducible assumption | dsimp only | with_reducible apply State.bothSv_keeps)
    | (first | (intro; intros) | simp only [Keeps.mk_eq] | split))

theorem State.loadKey_keeps (slot : Nat) (v : List Byte) (hk : Keeps r s) : Keeps r (State.loadKey s slot v) := by
  unfold State.loadKey
  repeat' (first
    | (first | with_reducible assumption | dsimp only | with_reducible apply Keeps.ite | (intro; intros))
    | (first | simp only [Keeps.mk_eq] | split))

theorem State.applyImmediate_keeps (slot : Nat) (e : KeyVal) (hk : Keeps r s) : Keeps r (State.applyImmediate s slot e) := by
  unfold State.applyImmediate
  repeat' (first
    | (first | with_reducible assumption | dsimp only | with_reducible apply Keeps.ite)
    | (first | with_reducible apply Keeps.dite | with_reducible apply State.loadKey_keeps)
    | (first | with_reducible apply State.strikeSec_keeps | with_reducible apply State.rereference_keeps)
    | (first | with_reducible apply State.releaseWitness_keeps | with_reducible apply State.sweep_keeps)
    | (first | with_reducible apply State.directClear_keeps | with_reducible apply State.each_keeps)
    | (first | (intro; intros) | simp only [Keeps.mk_eq] | split))

theorem State.applyOther_keeps (slot : Nat) (e : KeyVal) (hk : Keeps r s) : Keeps r (State.applyOther s slot e) := by
  unfold State.applyOther
  repeat' (first
    | (first | with_reducible assumption | dsimp only | with_reducible apply Keeps.ite)
    | (first | with_reducible apply State.recClearWanted_keeps | with_reducible apply State.latchClear_keeps)
    | (first | with_reducible apply State.when_keeps | (intro; intros) | simp only [Keeps.mk_eq] | split))

theorem State.applySet_keeps (w : WaitingSet) (hk : Keeps r s) : Keeps r (State.applySet s w) := by
  unfold State.applySet
  repeat' (first
    | (first | with_reducible assumption | dsimp only | with_reducible apply State.storeChanges_keeps)
    | (first | with_reducible apply State.applyConfig_keeps | with_reducible apply State.applyOther_keeps)
    | (first | with_reducible apply State.softReset_keeps | with_reducible apply State.when_keeps)
    | (first | with_reducible apply State.each_keeps | (intro; intros) | simp only [Keeps.mk_eq] | split))

theorem State.applySets_keeps (pitched : BitVec 4) (hk : Keeps r s) : Keeps r (State.applySets s pitched) := by
  unfold State.applySets
  repeat' (first
    | (first | with_reducible assumption | dsimp only | with_reducible apply State.applySet_keeps)
    | (first | with_reducible apply State.when_keeps | with_reducible apply State.each_keeps | (intro; intros))
    | (first | simp only [Keeps.mk_eq] | split))

theorem State.pitchSec_keeps (n : Fin 4) (epoch : Nat) (t : Time) (hk : Keeps r s) : Keeps r (State.pitchSec s n epoch t) := by
  unfold State.pitchSec
  repeat' (first
    | (first | with_reducible assumption | dsimp only | with_reducible apply Keeps.ite)
    | (first | with_reducible apply State.onNvSec_keeps | with_reducible apply State.setBarred_keeps)
    | (first | with_reducible apply State.onSv_keeps | with_reducible apply State.enter_keeps)
    | (first | with_reducible apply State.each_keeps | (intro; intros) | simp only [Keeps.mk_eq] | split))

theorem State.applyPitch_keeps (hk : Keeps r s) : Keeps r (State.applyPitch s) := by
  unfold State.applyPitch
  repeat' (first
    | (first | with_reducible assumption | dsimp only | with_reducible apply State.bothSv_keeps)
    | (first | with_reducible apply State.setCumValid_keeps | with_reducible apply State.pitchSec_keeps)
    | (first | with_reducible apply State.pulse_keeps | with_reducible apply State.each_keeps)
    | (first | with_reducible apply foldl_keeps | (intro; intros) | simp only [Keeps.mk_eq] | split))

theorem State.pitchDone_keeps (code : Nat) (hk : Keeps r s) : Keeps r (State.pitchDone s code) := by
  unfold State.pitchDone
  repeat' (first
    | (first | with_reducible assumption | dsimp only | with_reducible apply State.record_keeps)
    | (first | (intro; intros) | simp only [Keeps.mk_eq] | split))

theorem State.bindingRestores_keeps (items : List KeyVal) (hk : Keeps r s) : Keeps r (State.bindingRestores s items) := by
  unfold State.bindingRestores
  repeat' (first
    | (first | with_reducible assumption | dsimp only | with_reducible apply State.onNvSec_keeps)
    | (first | with_reducible apply State.setBarred_keeps | with_reducible apply State.each_keeps)
    | (first | (intro; intros) | simp only [Keeps.mk_eq] | split))

theorem State.applyTxn_keeps (items : List KeyVal) (hk : Keeps r s) : Keeps r (State.applyTxn s items) := by
  unfold State.applyTxn
  dsimp only
  split
  · refine State.bindingRestores_keeps _ (State.applyConfig_keeps _ ?_)
    obtain ⟨h1, h2, h3, h4, h5, h6⟩ := hk
    refine ⟨h1, h2, h3, h4, h5, fun i => ⟨⟨kvWf_filter _ ?_, (h6 i).1.2⟩, (h6 i).2⟩⟩
    unfold State.bindingBase
    split
    · rfl
    · exact (h6 i).1.2.1
  · exact State.applyConfig_keeps _ hk

theorem State.journalDone_keeps (hk : Keeps r s) : Keeps r (State.journalDone s) := by
  unfold State.journalDone
  repeat' (first
    | (first | with_reducible assumption | dsimp only | with_reducible apply Keeps.ite)
    | (first | with_reducible apply State.journalFinish_keeps | with_reducible apply State.applyConfig_keeps)
    | (first | with_reducible apply State.when_keeps | (intro; intros) | simp only [Keeps.mk_eq] | split))

theorem State.commit_keeps (i : Fin 5) (hk : Keeps r s) : Keeps r (State.commit s i) := by
  unfold State.commit
  repeat' (first
    | (first | with_reducible assumption | dsimp only | with_reducible apply Keeps.ite)
    | (first | with_reducible apply State.onSession_keeps | with_reducible apply State.applyImmediate_keeps)
    | (first | with_reducible apply State.when_keeps | with_reducible apply State.each_keeps | (intro; intros))
    | (first | simp only [Keeps.mk_eq] | split))

theorem State.releaseOverrides_keeps (n : Nat) (hk : Keeps r s) : Keeps r (State.releaseOverrides s n) := by
  unfold State.releaseOverrides
  repeat' (first
    | (first | with_reducible assumption | dsimp only | with_reducible apply State.storeChanges_keeps)
    | (first | with_reducible apply State.applyConfig_keeps | (intro; intros) | simp only [Keeps.mk_eq] | split))

theorem State.journalRun_keeps (w : StoreRun) (hk : Keeps r s) : Keeps r (State.journalRun s w) := by
  cases w with
  | whole => exact State.journalDone_keeps hk
  | stops n => exact State.journalWrite_keeps _ hk
  | fails n => exact State.record_keeps _ _ _ _ (State.journalStop_keeps _ (State.journalWrite_keeps _ hk))

theorem State.resolve_keeps (back : Bool) (w : StoreRun) (hk : Keeps r s) : Keeps r (State.resolve s back w) := by
  unfold State.resolve
  repeat' (first
    | (first | with_reducible assumption | dsimp only | with_reducible apply State.journalRun_keeps)
    | (first | (intro; intros) | simp only [Keeps.mk_eq] | split))

theorem State.imageLoaded_keeps (val : List Byte) (hk : Keeps r s) : Keeps r (State.imageLoaded s val) := by
  simpa only [State.imageLoaded, Keeps.mk_eq] using hk

theorem State.runCommand_keeps (i : Fin 5) (key : Nat) (val : List Byte) (w : StoreRun) (hk : Keeps r s) : Keeps r (State.runCommand s i key val w) := by
  unfold State.runCommand
  repeat' (first
    | (first | with_reducible assumption | dsimp only | with_reducible apply Keeps.ite)
    | (first | with_reducible apply Keeps.dite | with_reducible apply State.publishAll_keeps)
    | (first | with_reducible apply State.releaseOverrides_keeps | with_reducible apply State.scanDue_keeps)
    | (first | with_reducible apply State.onProof_keeps | with_reducible apply State.commit_keeps)
    | (first | with_reducible apply State.onSession_keeps | with_reducible apply State.imageLoaded_keeps)
    | (first | with_reducible apply State.resolve_keeps | with_reducible apply State.when_keeps | (intro; intros))
    | (first | simp only [Keeps.mk_eq] | split))

theorem State.raiseRefused_keeps (i : Fin 5) (slot : Nat) (hk : Keeps r s) : Keeps r (State.raiseRefused s i slot) := by
  unfold State.raiseRefused
  repeat' (first
    | (first | with_reducible assumption | dsimp only | with_reducible apply Keeps.ite)
    | (first | with_reducible apply State.record_keeps | with_reducible apply State.onSession_keeps)
    | (first | (intro; intros) | simp only [Keeps.mk_eq] | split))

theorem State.raiseSession_keeps (i : Fin 5) (val : List Byte) (hk : Keeps r s) : Keeps r (State.raiseSession s i val).1 := by
  unfold State.raiseSession
  repeat' (first
    | (first | with_reducible assumption | dsimp only | with_reducible apply State.onSession_keeps)
    | (first | with_reducible apply State.unstatedRound_keeps | with_reducible apply State.raiseRefused_keeps)
    | (first | with_reducible apply State.record_keeps | (intro; intros) | simp only [Keeps.mk_eq])
    | (first | refine Keeps.snd (by assumption) ?_ | split))

theorem State.applyWrite_keeps (i : Fin 5) (key : Nat) (rep : DRow) (val : List Byte) (w : StoreRun) (hk : Keeps r s) : Keeps r (State.applyWrite s i key rep val w) := by
  unfold State.applyWrite
  repeat' (first
    | (first | with_reducible assumption | dsimp only | with_reducible apply Keeps.ite)
    | (first | with_reducible apply State.onSession_keeps | with_reducible apply State.storeChanges_keeps)
    | (first | with_reducible apply State.applyConfig_keeps | with_reducible apply State.runCommand_keeps)
    | (first | (intro; intros) | simp only [Keeps.mk_eq] | split))

theorem State.bindingBase_wf (h : kvWf s.sdp.work = true) : kvWf s.bindingBase = true := by
  unfold State.bindingBase
  split
  · rfl
  · exact h

theorem State.afterTxn_keeps (items : List KeyVal) (hk : Keeps r s) : Keeps r (State.afterTxn s items) := by
  unfold State.afterTxn
  dsimp only
  refine State.withWork_keeps _ hk fun h => workWith_wf _ ?_
  split
  · exact State.bindingBase_wf h
  · exact h

theorem State.openJournal_keeps (number : Nat) (items : List KeyVal) (hk : Keeps r s) : Keeps r (State.openJournal s number items) := by
  unfold State.openJournal
  repeat' (first
    | (first | with_reducible assumption | dsimp only | with_reducible apply Keeps.ite)
    | (first | with_reducible apply State.afterTxn_keeps | with_reducible apply foldl_keeps | (intro; intros))
    | (first | simp only [Keeps.mk_eq] | split))

theorem State.runTxn_keeps (i : Fin 5) (number : Nat) (items : List KeyVal) (w : StoreRun) (hk : Keeps r s) : Keeps r (State.runTxn s i number items w) := by
  unfold State.runTxn
  repeat' (first
    | (first | with_reducible assumption | dsimp only | with_reducible apply State.openJournal_keeps)
    | (first | with_reducible apply State.applyTxn_keeps | with_reducible apply State.runCommand_keeps)
    | (first | with_reducible apply State.journalRun_keeps | with_reducible apply State.each_keeps)
    | (first | (intro; intros) | simp only [Keeps.mk_eq] | split))

theorem Keeps.iteA {c : Prop} [Decidable c] {p q : Answered} (hp : Keeps r p.st) (hq : Keeps r q.st) :
    Keeps r (if c then p else q).st := by
  split
  · exact hp
  · exact hq

theorem State.takeRequest_keeps (src : SdpSrc) (hk : Keeps r s) : Keeps r (State.takeRequest s src) := by
  unfold State.takeRequest
  split
  · simpa only [Keeps.mk_eq] using hk
  · simpa only [Keeps.mk_eq] using hk

theorem State.answer_keeps (src : SdpSrc) (p : List Byte) (hk : Keeps r s) : Keeps r (State.answer s src p) := by
  unfold State.answer
  repeat' (first
    | (first | with_reducible assumption | dsimp only | with_reducible apply State.sendSdp_keeps)
    | (first | (intro; intros) | simp only [Keeps.mk_eq] | split))

theorem State.loadStops_keeps (i : Fin 5) (hk : Keeps r s) : Keeps r (State.loadStops s i) := by
  unfold State.loadStops
  repeat' (first
    | (first | with_reducible assumption | dsimp only | with_reducible apply State.when_keeps)
    | (first | (intro; intros) | simp only [Keeps.mk_eq] | split))

theorem State.xferEnds_keeps (i : Fin 5) (hk : Keeps r s) : Keeps r (State.xferEnds s i) := by
  unfold State.xferEnds
  repeat' (first
    | (first | with_reducible assumption | dsimp only | with_reducible apply State.loadStops_keeps)
    | (first | with_reducible apply State.onSession_keeps | (intro; intros) | simp only [Keeps.mk_eq] | split))

theorem State.xferGone_keeps (i : Fin 5) (hk : Keeps r s) : Keeps r (State.xferGone s i) := by
  unfold State.xferGone
  repeat' (first
    | (first | with_reducible assumption | dsimp only | with_reducible apply Keeps.ite)
    | (first | with_reducible apply State.onSession_keeps | with_reducible apply State.loadStops_keeps)
    | (first | (intro; intros) | simp only [Keeps.mk_eq] | split))

theorem State.txnGone_keeps (i : Fin 5) (hk : Keeps r s) : Keeps r (State.txnGone s i) := by
  unfold State.txnGone
  repeat' (first
    | (first | with_reducible assumption | dsimp only | with_reducible apply Keeps.ite | (intro; intros))
    | (first | simp only [Keeps.mk_eq] | split))

theorem State.closeSession_keeps (i : Fin 5) (hk : Keeps r s) : Keeps r (State.closeSession s i) := by
  unfold State.closeSession
  repeat' (first
    | (first | with_reducible assumption | dsimp only | with_reducible apply State.loadStops_keeps)
    | (first | with_reducible apply State.txnGone_keeps | with_reducible apply State.onSession_keeps)
    | (first | (intro; intros) | simp only [Keeps.mk_eq] | split))

theorem State.txnTouched_keeps (hk : Keeps r s) : Keeps r (State.txnTouched s) := by
  simpa only [State.txnTouched, Keeps.mk_eq] using hk

theorem refused_keeps (a : Abort) (hk : Keeps r s) : Keeps r (refused s a).st := by
  unfold refused
  repeat' (first
    | (first | with_reducible assumption | dsimp only [refused] | with_reducible apply Keeps.iteA)
    | (first | (intro; intros) | simp only [Keeps.mk_eq] | split))

theorem State.doOpen_keeps (mac : Mac) (data : List Byte) (hk : Keeps r s) : Keeps r (State.doOpen s mac data).st := by
  unfold State.doOpen
  repeat' (first
    | (first | with_reducible assumption | dsimp only [refused] | with_reducible apply Keeps.iteA)
    | (first | with_reducible apply State.onSession_keeps | (intro; intros) | simp only [Keeps.mk_eq] | split))

theorem State.doRead_keeps (i : Fin 5) (rep : SdpReq) (net : Bool) (hk : Keeps r s) : Keeps r (State.doRead s i rep net).st := by
  unfold State.doRead
  repeat' (first
    | (first | with_reducible assumption | dsimp only [refused] | with_reducible apply Keeps.iteA)
    | (first | with_reducible apply State.readValue_keeps | (intro; intros) | simp only [Keeps.mk_eq])
    | (first | refine Keeps.snd (by assumption) ?_ | split))

theorem State.doReadInit_keeps (i : Fin 5) (rep : SdpReq) (net : Bool) (hk : Keeps r s) : Keeps r (State.doReadInit s i rep net).st := by
  unfold State.doReadInit
  repeat' (first
    | (first | with_reducible assumption | dsimp only [refused] | with_reducible apply Keeps.iteA)
    | (first | with_reducible apply State.readValue_keeps | with_reducible apply State.onSession_keeps)
    | (first | (intro; intros) | simp only [Keeps.mk_eq] | refine Keeps.snd (by assumption) ?_ | split))

theorem State.doReadSeg_keeps (i : Fin 5) (rep : SdpReq) (net : Bool) (hk : Keeps r s) : Keeps r (State.doReadSeg s i rep net).st := by
  unfold State.doReadSeg
  repeat' (first
    | (first | with_reducible assumption | dsimp only [refused] | with_reducible apply Keeps.iteA)
    | (first | with_reducible apply State.onSession_keeps | (intro; intros) | simp only [Keeps.mk_eq] | split))

theorem State.switchWithdrawn_keeps (hk : Keeps r s) : Keeps r (State.switchWithdrawn s) := by
  simpa only [State.switchWithdrawn, Keeps.mk_eq] using hk

theorem State.doWriteInit_keeps (i : Fin 5) (rep : SdpReq) (net : Bool) (hk : Keeps r s) : Keeps r (State.doWriteInit s i rep net).st := by
  unfold State.doWriteInit
  repeat' (first
    | (first | with_reducible assumption | dsimp only [refused] | with_reducible apply Keeps.iteA)
    | (first | with_reducible apply State.switchWithdrawn_keeps | with_reducible apply State.onSession_keeps)
    | (first | with_reducible apply State.when_keeps | (intro; intros) | simp only [Keeps.mk_eq] | split))

theorem State.doXferAbort_keeps (i : Fin 5) (hk : Keeps r s) : Keeps r (State.doXferAbort s i).st := by
  unfold State.doXferAbort
  repeat' (first
    | (first | with_reducible assumption | dsimp only [refused] | with_reducible apply Keeps.iteA)
    | (first | with_reducible apply State.xferGone_keeps | (intro; intros) | simp only [Keeps.mk_eq] | split))

theorem State.doTxnBegin_keeps (i : Fin 5) (hk : Keeps r s) : Keeps r (State.doTxnBegin s i).st := by
  unfold State.doTxnBegin
  repeat' (first
    | (first | with_reducible assumption | dsimp only [refused] | with_reducible apply Keeps.iteA)
    | (first | (intro; intros) | simp only [Keeps.mk_eq] | split))

theorem State.doTxnDiscard_keeps (i : Fin 5) (hk : Keeps r s) : Keeps r (State.doTxnDiscard s i).st := by
  unfold State.doTxnDiscard
  repeat' (first
    | (first | with_reducible assumption | dsimp only [refused] | with_reducible apply Keeps.iteA)
    | (first | (intro; intros) | simp only [Keeps.mk_eq] | split))

theorem State.doTxnEnd_keeps (i : Fin 5) (w : StoreRun) (hk : Keeps r s) : Keeps r (State.doTxnEnd s i w).st := by
  unfold State.doTxnEnd
  repeat' (first
    | (first | with_reducible assumption | dsimp only [refused] | with_reducible apply Keeps.iteA)
    | (first | with_reducible apply State.txnTouched_keeps | with_reducible apply State.runTxn_keeps)
    | (first | (intro; intros) | simp only [Keeps.mk_eq] | split))

theorem State.writeValue_keeps (i : Fin 5) (key : Nat) (val : List Byte) (txn whole : Bool) (w : StoreRun) (hk : Keeps r s) : Keeps r (State.writeValue s i key val txn whole w).st := by
  unfold State.writeValue
  repeat' (first
    | (first | with_reducible assumption | dsimp only [refused] | with_reducible apply Keeps.iteA)
    | (first | with_reducible apply State.raiseSession_keeps | with_reducible apply State.applyWrite_keeps)
    | (first | (intro; intros) | simp only [Keeps.mk_eq] | refine Keeps.fst (by assumption) ?_ | split))

theorem State.doWriteSeg_keeps (i : Fin 5) (rep : SdpReq) (net : Bool) (hk : Keeps r s) : Keeps r (State.doWriteSeg s i rep net).st := by
  unfold State.doWriteSeg
  repeat' (first
    | (first | with_reducible assumption | dsimp only [refused] | with_reducible apply Keeps.iteA)
    | (first | with_reducible apply State.onSession_keeps | with_reducible apply State.xferEnds_keeps)
    | (first | with_reducible apply State.writeValue_keeps | (intro; intros) | simp only [Keeps.mk_eq] | split))

theorem State.execute_keeps (i : Fin 5) (rep : SdpReq) (net : Bool) (w : StoreRun) (hk : Keeps r s) : Keeps r (State.execute s i rep net w).st := by
  unfold State.execute
  repeat' (first
    | (first | with_reducible assumption | dsimp only [refused] | with_reducible apply Keeps.iteA)
    | (first | with_reducible apply State.closeSession_keeps | with_reducible apply State.doRead_keeps)
    | (first | with_reducible apply State.writeValue_keeps | with_reducible apply State.doReadInit_keeps)
    | (first | with_reducible apply State.doReadSeg_keeps | with_reducible apply State.doWriteInit_keeps)
    | (first | with_reducible apply State.doWriteSeg_keeps | with_reducible apply State.doXferAbort_keeps)
    | (first | with_reducible apply State.doTxnBegin_keeps | with_reducible apply State.doTxnEnd_keeps)
    | (first | with_reducible apply State.doTxnDiscard_keeps | (intro; intros) | simp only [Keeps.mk_eq] | split))

theorem State.executeStepped_keeps (i : Fin 5) (rep : SdpReq) (net : Bool) (w : StoreRun) (hk : Keeps r s) : Keeps r (State.executeStepped s i rep net w).st := by
  unfold State.executeStepped
  repeat' (first
    | (first | with_reducible assumption | dsimp only [refused] | with_reducible apply Keeps.iteA)
    | (first | with_reducible apply State.evalFronts_keeps | with_reducible apply State.execute_keeps)
    | (first | with_reducible apply State.evalBacks_keeps | with_reducible apply State.evalBoth_keeps)
    | (first | (intro; intros) | simp only [Keeps.mk_eq] | refine Keeps.fst (by assumption) ?_ | split))

theorem State.perform_keeps (i : Fin 5) (q : SdpReq) (net : Bool) (w : StoreRun) (hk : Keeps r s) {a : Answered}
    (h : State.perform s i q net w = some a) : Keeps r a.st := by
  unfold State.perform at h
  repeat' split at h
  all_goals first | (cases h; done) | (cases h; try dsimp only [refused])
  · exact State.onSession_keeps _ _ hk
  · exact State.execute_keeps _ _ _ _ hk
  · exact State.wakeEvent_keeps _ hk
  · exact State.executeStepped_keeps _ _ _ _ hk

theorem State.answerKept_keeps (src : SdpSrc) (i : Fin 5) (p : List Byte) (hk : Keeps r s) : Keeps r (State.answerKept s src i p) := by
  unfold State.answerKept
  repeat' (first
    | (first | with_reducible assumption | dsimp only | with_reducible apply State.onSession_keeps)
    | (first | with_reducible apply State.answer_keeps | (intro; intros) | simp only [Keeps.mk_eq] | split))

theorem State.serveSession_keeps (src : SdpSrc) (i : Fin 5) (q : SdpReq) (w : StoreRun) (hk : Keeps r s) :
    Keeps r (State.serveSession s src i q w) := by
  unfold State.serveSession
  dsimp only
  split
  · exact State.answer_keeps _ _ hk
  · split
    · exact State.when_keeps hk fun _ hu => State.answer_keeps _ _ hu
    · split
      · exact State.answer_keeps _ _ hk
      · split
        · simpa only [Keeps.mk_eq] using State.onSession_keeps _ _ hk
        · rename_i a ha
          have h2 := State.perform_keeps _ _ _ _ (State.onSession_keeps _ _ hk) ha
          repeat' (first
            | with_reducible assumption
            | with_reducible apply State.answerKept_keeps
            | with_reducible apply State.answer_keeps
            | simp only [Keeps.mk_eq]
            | split)

theorem State.heard_keeps (src : SdpSrc) (p : List Byte) (hk : Keeps r s) : Keeps r (State.heard s src p) := by
  unfold State.heard
  repeat' (first
    | (first | with_reducible assumption | dsimp only | with_reducible apply State.onSession_keeps)
    | (first | with_reducible apply State.when_keeps | (intro; intros) | simp only [Keeps.mk_eq] | split))

theorem State.refuseForm_keeps (src : SdpSrc) (p : List Byte) (rep : SdpReq) (a : Abort) (hk : Keeps r s) : Keeps r (State.refuseForm s src p rep a) := by
  unfold State.refuseForm
  repeat' (first
    | (first | with_reducible assumption | dsimp only | with_reducible apply Keeps.ite)
    | (first | with_reducible apply State.answer_keeps | (intro; intros) | simp only [Keeps.mk_eq] | split))

theorem State.serve_keeps (src : SdpSrc) (p : List Byte) (w : StoreRun) (hk : Keeps r s) : Keeps r (State.serve s src p w) := by
  have h1 := State.heard_keeps src p (State.takeRequest_keeps src hk)
  unfold State.serve
  dsimp only
  split
  · exact State.refuseForm_keeps _ _ _ _ h1
  · split
    · split
      · exact State.answer_keeps _ _ h1
      · exact State.answer_keeps _ _ (State.doOpen_keeps _ _ h1)
    · split
      · exact State.answer_keeps _ _ h1
      · exact State.serveSession_keeps _ _ _ _ h1

theorem State.serveIf_keeps (src : SdpSrc) (want : State → Fin 5 → SdpReq → Bool) (w : StoreRun) (hk : Keeps r s) : Keeps r (State.serveIf s src want w) := by
  unfold State.serveIf
  repeat' (first
    | (first | with_reducible assumption | dsimp only | with_reducible apply Keeps.ite)
    | (first | with_reducible apply State.serve_keeps | with_reducible apply State.when_keeps | (intro; intros))
    | (first | simp only [Keeps.mk_eq] | split))

end Sys2Proof.Machine
end

