-- ==== Sys2Proof/Laws/KeepsHost.lean ====
section
/-! SUPPORT. What the host window, the switch, the power manager, start-up and self-test keep. -/

namespace Sys2Proof.Machine

set_option Elab.async false
set_option linter.unusedTactic false
set_option linter.unreachableTactic false
set_option linter.unusedSimpArgs false

variable {r s : State}

theorem State.tractionCommit_keeps (n : Fin 4) (w : Word) (hk : Keeps r s) : Keeps r (State.tractionCommit s n w) := by
  unfold State.tractionCommit
  repeat' (first
    | (first | with_reducible assumption | dsimp only | with_reducible apply Keeps.ite)
    | (first | with_reducible apply State.onTraction_keeps | with_reducible apply State.record_keeps)
    | (first | with_reducible apply State.wakeEvent_keeps | with_reducible apply State.when_keeps)
    | (first | (intro; intros) | simp only [Keeps.mk_eq] | split))

theorem State.tractionAged_keeps (n : Fin 4) (hk : Keeps r s) : Keeps r (State.tractionAged s n) := by
  unfold State.tractionAged
  repeat' (first
    | (first | with_reducible assumption | dsimp only | with_reducible apply State.onTraction_keeps)
    | (first | with_reducible apply State.record_keeps | (intro; intros) | simp only [Keeps.mk_eq] | split))

theorem State.onMailbox_keeps (f : Mailbox → Mailbox) (hk : Keeps r s) : Keeps r (State.onMailbox s f) := by
  simpa only [State.onMailbox, Keeps.mk_eq] using hk

theorem State.mailboxSend_keeps (hk : Keeps r s) : Keeps r (State.mailboxSend s) := by
  unfold State.mailboxSend
  repeat' (first
    | (first | with_reducible assumption | dsimp only | with_reducible apply Keeps.ite)
    | (first | with_reducible apply State.onMailbox_keeps | with_reducible apply State.wakeEvent_keeps)
    | (first | (intro; intros) | simp only [Keeps.mk_eq] | split))

theorem State.mailboxCancel_keeps (hk : Keeps r s) : Keeps r (State.mailboxCancel s) := by
  unfold State.mailboxCancel
  repeat' (first
    | (first | with_reducible assumption | dsimp only | with_reducible apply Keeps.ite)
    | (first | with_reducible apply State.onMailbox_keeps | (intro; intros) | simp only [Keeps.mk_eq] | split))

theorem State.writeHec_keeps (t : Time) (off : Nat) (w : Word) (hk : Keeps r s) : Keeps r (State.writeHec s t off w) := by
  unfold State.writeHec
  repeat' (first
    | (first | with_reducible assumption | dsimp only | with_reducible apply Keeps.ite)
    | (first | with_reducible apply State.hecCommand_keeps | (intro; intros) | simp only [Keeps.mk_eq] | split))

theorem State.writeMailbox_keeps (off : Nat) (w : Word) (hk : Keeps r s) : Keeps r (State.writeMailbox s off w) := by
  unfold State.writeMailbox
  repeat' (first
    | (first | with_reducible assumption | dsimp only | with_reducible apply Keeps.ite)
    | (first | with_reducible apply State.mailboxCancel_keeps | with_reducible apply State.mailboxSend_keeps)
    | (first | with_reducible apply State.onMailbox_keeps | with_reducible apply State.when_keeps)
    | (first | (intro; intros) | simp only [Keeps.mk_eq] | split))

theorem State.writeTraction_keeps (n : Fin 4) (reg : Nat) (w : Word) (hk : Keeps r s) : Keeps r (State.writeTraction s n reg w) := by
  unfold State.writeTraction
  repeat' (first
    | (first | with_reducible assumption | dsimp only | with_reducible apply Keeps.ite)
    | (first | with_reducible apply State.onTraction_keeps | with_reducible apply State.tractionCommit_keeps)
    | (first | (intro; intros) | simp only [Keeps.mk_eq] | split))

theorem State.writeCvu_keeps (u : Fin 2) (reg : Nat) (w : Word) (hk : Keeps r s) : Keeps r (State.writeCvu s u reg w) := by
  unfold State.writeCvu
  repeat' (first
    | (first | with_reducible assumption | dsimp only | with_reducible apply Keeps.ite)
    | (first | with_reducible apply State.onCvu_keeps | with_reducible apply State.pulse_keeps)
    | (first | with_reducible apply State.when_keeps | (intro; intros) | simp only [Keeps.mk_eq] | split))

theorem State.writeWindow_keeps (t : Time) (off : Nat) (w : Word) (hk : Keeps r s) : Keeps r (State.writeWindow s t off w) := by
  unfold State.writeWindow
  repeat' (first
    | (first | with_reducible assumption | dsimp only | with_reducible apply Keeps.ite)
    | (first | with_reducible apply State.deadboltClear_keeps | with_reducible apply State.writeHec_keeps)
    | (first | with_reducible apply State.writeMailbox_keeps | with_reducible apply State.writeTraction_keeps)
    | (first | with_reducible apply State.writeCvu_keeps | (intro; intros) | simp only [Keeps.mk_eq] | split))

theorem State.learn_keeps (m : Mac) (p : Fin 4) (hk : Keeps r s) : Keeps r (State.learn s m p) := by
  simpa only [State.learn, Keeps.mk_eq] using hk

theorem State.nodeSeen_keeps (m : Mac) (hk : Keeps r s) : Keeps r (State.nodeSeen s m) := by
  unfold State.nodeSeen
  repeat' (first
    | (first | with_reducible assumption | dsimp only | with_reducible apply Keeps.ite | (intro; intros))
    | (first | simp only [Keeps.mk_eq] | split))

theorem State.lanCheck_keeps (p : Fin 4) (f : Frame) (hk : Keeps r s) : Keeps r (State.lanCheck s p f) := by
  unfold State.lanCheck
  repeat' (first
    | (first | with_reducible assumption | dsimp only | with_reducible apply Keeps.ite | (intro; intros))
    | (first | simp only [Keeps.mk_eq] | split))

theorem State.toNode_keeps (p : Fin 4) (f : Frame) (hk : Keeps r s) : Keeps r (State.toNode s p f) := by
  simpa only [State.toNode, Keeps.mk_eq] using hk

theorem State.takeOnce_keeps (f : Frame) (take : State → State) (hk : Keeps r s)
    (ht : ∀ u, Keeps r u → Keeps r (take u)) : Keeps r (State.takeOnce s f take) := by
  unfold State.takeOnce
  dsimp only
  split
  · exact ht _ hk
  · have h1 := State.nodeSeen_keeps f.src hk
    split
    · simpa only [Keeps.mk_eq] using h1
    · exact ht _ (by simpa only [Keeps.mk_eq] using h1)

theorem State.deliverOnce_keeps (p : Fin 4) (f : Frame) (hk : Keeps r s) : Keeps r (State.deliverOnce s p f) := by
  unfold State.deliverOnce
  repeat' (first
    | (first | with_reducible assumption | dsimp only | with_reducible apply State.takeOnce_keeps)
    | (first | with_reducible apply State.toNode_keeps | (intro; intros) | simp only [Keeps.mk_eq] | split))

theorem State.forward_keeps (p : Fin 4) (f : Frame) (hk : Keeps r s) : Keeps r (State.forward s p f) := by
  unfold State.forward
  repeat' (first
    | (first | with_reducible assumption | dsimp only | with_reducible apply Keeps.ite)
    | (first | with_reducible apply State.enqueue_keeps | (intro; intros) | simp only [Keeps.mk_eq] | split))

theorem State.spoilCut_keeps (p : Fin 4) (f : Frame) (hk : Keeps r s) : Keeps r (State.spoilCut s p f) := by
  unfold State.spoilCut
  repeat' (first
    | (first | with_reducible assumption | dsimp only | with_reducible apply State.onPort_keeps)
    | (first | with_reducible apply State.when_keeps | (intro; intros) | simp only [Keeps.mk_eq] | split))

theorem State.routeFrame_keeps (p : Fin 4) (f : Frame) (hk : Keeps r s) : Keeps r (State.routeFrame s p f) := by
  unfold State.routeFrame
  repeat' (first
    | (first | with_reducible assumption | dsimp only | with_reducible apply Keeps.ite)
    | (first | with_reducible apply State.toNode_keeps | with_reducible apply State.forward_keeps)
    | (first | with_reducible apply State.deliverOnce_keeps | with_reducible apply State.takeOnce_keeps)
    | (first | with_reducible apply State.nodeSeen_keeps | (intro; intros) | simp only [Keeps.mk_eq] | split))

theorem State.enginesRest_keeps (hk : Keeps r s) : Keeps r (State.enginesRest s) := by
  simpa only [State.enginesRest, Keeps.mk_eq] using hk

theorem State.frontSleeps_keeps (hk : Keeps r s) : Keeps r (State.frontSleeps s) := by
  unfold State.frontSleeps
  repeat' (first
    | (first | with_reducible assumption | dsimp only | with_reducible apply State.storeBaselines_keeps)
    | (first | with_reducible apply State.abortProof_keeps | with_reducible apply State.onChan_keeps)
    | (first | with_reducible apply State.onDet_keeps | with_reducible apply State.onScan_keeps)
    | (first | with_reducible apply State.enginesRest_keeps | with_reducible apply State.amonRefresh_keeps)
    | (first | with_reducible apply State.each_keeps | with_reducible apply State.eachFin_keeps | (intro; intros))
    | (first | simp only [Keeps.mk_eq] | split))

theorem State.coresSleep_keeps (hk : Keeps r s) : Keeps r (State.coresSleep s) := by
  unfold State.coresSleep
  repeat' (first
    | (first | with_reducible assumption | dsimp only | with_reducible apply State.dropPermit_keeps)
    | (first | with_reducible apply State.bothSv_keeps | with_reducible apply State.leaveTemplates_keeps)
    | (first | with_reducible apply State.finalCkpt_keeps | with_reducible apply State.requalify_keeps)
    | (first | with_reducible apply State.each_keeps | (intro; intros) | simp only [Keeps.mk_eq] | split))

theorem State.enterPower_keeps (x : PState) (hk : Keeps r s) : Keeps r (State.enterPower s x) := by
  unfold State.enterPower
  repeat' (first
    | (first | with_reducible assumption | dsimp only | with_reducible apply State.frontSleeps_keeps)
    | (first | with_reducible apply State.coresSleep_keeps | with_reducible apply State.hecRetain_keeps)
    | (first | with_reducible apply State.powerChange_keeps | (intro; intros) | simp only [Keeps.mk_eq] | split))

theorem State.sleepAborted_keeps (l : List Nat) (hk : Keeps r s) : Keeps r (State.sleepAborted s l) := by
  unfold State.sleepAborted
  repeat' (first
    | (first | with_reducible assumption | dsimp only | with_reducible apply State.record_keeps)
    | (first | with_reducible apply State.pulse_keeps | with_reducible apply State.wakeEvent_keeps)
    | (first | with_reducible apply State.each_keeps | (intro; intros) | simp only [Keeps.mk_eq] | split))

theorem State.channelWakes_keeps (c : Fin 16) (hk : Keeps r s) : Keeps r (State.channelWakes s c) := by
  unfold State.channelWakes
  repeat' (first
    | (first | with_reducible assumption | dsimp only | with_reducible apply Keeps.ite)
    | (first | with_reducible apply State.onChan_keeps | with_reducible apply State.onProof_keeps)
    | (first | with_reducible apply State.onStats_keeps | with_reducible apply State.baselineCheck_keeps)
    | (first | (intro; intros) | simp only [Keeps.mk_eq] | split))

theorem State.svWakes_keeps (v : Fin 2) (f : Option Bool) (hk : Keeps r s) : Keeps r (State.svWakes s v f) := by
  unfold State.svWakes
  repeat' (first
    | (first | with_reducible assumption | dsimp only | with_reducible apply Keeps.ite)
    | (first | with_reducible apply State.svFail_keeps | (intro; intros) | simp only [Keeps.mk_eq] | split))

theorem State.wakeEnds_keeps (from_ : PState) (rep : WakeReport) (hk : Keeps r s) : Keeps r (State.wakeEnds s from_ rep) := by
  unfold State.wakeEnds
  repeat' (first
    | (first | with_reducible assumption | dsimp only | with_reducible apply Keeps.ite)
    | (first | with_reducible apply State.hecFlush_keeps | with_reducible apply State.svWakes_keeps)
    | (first | with_reducible apply State.powerChange_keeps | with_reducible apply State.readWaiting_keeps)
    | (first | with_reducible apply State.channelWakes_keeps | with_reducible apply State.amonRefresh_keeps)
    | (first | with_reducible apply State.each_keeps | with_reducible apply State.eachFin_keeps | (intro; intros))
    | (first | simp only [Keeps.mk_eq] | split))

theorem State.pitchLost_keeps (hk : Keeps r s) : Keeps r (State.pitchLost s) := by
  unfold State.pitchLost
  repeat' (first
    | (first | with_reducible assumption | dsimp only | with_reducible apply Keeps.ite)
    | (first | with_reducible apply State.record_keeps | with_reducible apply State.when_keeps | (intro; intros))
    | (first | simp only [Keeps.mk_eq] | split))

theorem State.tailDiscarded_keeps (hk : Keeps r s) : Keeps r (State.tailDiscarded s) := by
  unfold State.tailDiscarded
  repeat' (first
    | (first | with_reducible assumption | dsimp only | with_reducible apply State.recOwn_keeps)
    | (first | (intro; intros) | simp only [Keeps.mk_eq] | split))

theorem State.configRead_keeps (position : Nat) (hk : Keeps r s) : Keeps r (State.configRead s position) := by
  refine hk.working fun h _ => ?_
  dsimp only
  split
  · exact h
  · rfl

theorem State.release_keeps (hk : Keeps r s) : Keeps r (State.release s) := by
  have h := State.afterReset_keeps .booting hk
  unfold State.release
  dsimp only
  refine State.tailDiscarded_keeps (State.pitchLost_keeps (State.configRead_keeps _ ?_))
  exact Keeps.of h rfl rfl rfl rfl rfl rfl rfl rfl rfl rfl

theorem State.repairRecord_keeps (mem row kind : Nat) (hk : Keeps r s) : Keeps r (State.repairRecord s mem row kind) := by
  unfold State.repairRecord
  repeat' (first
    | (first | with_reducible assumption | dsimp only | with_reducible apply State.record_keeps)
    | (first | (intro; intros) | simp only [Keeps.mk_eq] | split))

theorem State.retireEngine_keeps (e : Fin 9) (hk : Keeps r s) : Keeps r (State.retireEngine s e) := by
  unfold State.retireEngine
  repeat' (first
    | (first | with_reducible assumption | dsimp only | with_reducible apply State.record_keeps)
    | (first | (intro; intros) | simp only [Keeps.mk_eq] | split))

theorem State.fenceRow_keeps (row : Nat) (hk : Keeps r s) : Keeps r (State.fenceRow s row) := by
  unfold State.fenceRow
  repeat' (first
    | (first | with_reducible assumption | dsimp only | with_reducible apply State.record_keeps)
    | (first | with_reducible apply State.when_keeps | (intro; intros) | simp only [Keeps.mk_eq] | split))

theorem State.freeRow_keeps (row n : Nat) (hk : Keeps r s) : Keeps r (State.freeRow s row n) := by
  unfold State.freeRow
  repeat' (first
    | (first | with_reducible assumption | dsimp only | with_reducible apply Keeps.ite)
    | (first | with_reducible apply State.drawFree_keeps | with_reducible apply State.record_keeps)
    | (first | with_reducible apply State.repairRecord_keeps | (intro; intros) | simp only [Keeps.mk_eq])
    | (first | refine Keeps.snd (by assumption) ?_ | split))

theorem State.noSpare_keeps (mem row n : Nat) (hk : Keeps r s) : Keeps r (State.noSpare s mem row n) := by
  unfold State.noSpare
  repeat' (first
    | (first | with_reducible assumption | dsimp only | with_reducible apply Keeps.ite)
    | (first | with_reducible apply State.rowFails_keeps | with_reducible apply State.freeRow_keeps)
    | (first | with_reducible apply State.fenceRow_keeps | with_reducible apply State.retireEngine_keeps)
    | (first | with_reducible apply State.onSv_keeps | with_reducible apply State.record_keeps)
    | (first | with_reducible apply State.when_keeps | (intro; intros) | simp only [Keeps.mk_eq] | split))

theorem State.softRepair_keeps (mem row n : Nat) (hk : Keeps r s) : Keeps r (State.softRepair s mem row n) := by
  unfold State.softRepair
  repeat' (first
    | (first | with_reducible assumption | dsimp only | with_reducible apply Keeps.ite)
    | (first | with_reducible apply State.repairRecord_keeps | with_reducible apply State.noSpare_keeps)
    | (first | (intro; intros) | simp only [Keeps.mk_eq] | split))

theorem State.rowFound_keeps (mem row : Nat) (hk : Keeps r s) : Keeps r (State.rowFound s mem row) := by
  unfold State.rowFound
  repeat' (first
    | (first | with_reducible assumption | dsimp only | with_reducible apply Keeps.ite)
    | (first | with_reducible apply State.repairRecord_keeps | with_reducible apply State.softRepair_keeps)
    | (first | (intro; intros) | simp only [Keeps.mk_eq] | split))

theorem State.repairs_keeps (rep : BootReport) (hk : Keeps r s) : Keeps r (State.repairs s rep) := by
  unfold State.repairs
  repeat' (first
    | (first | with_reducible assumption | dsimp only | with_reducible apply Keeps.ite)
    | (first | with_reducible apply State.rowFound_keeps | with_reducible apply State.each_keeps | (intro; intros))
    | (first | simp only [Keeps.mk_eq] | split))

theorem State.bootEngines_keeps (kat : BitVec 9) (hk : Keeps r s) : Keeps r (State.bootEngines s kat) := by
  unfold State.bootEngines
  repeat' (first
    | (first | with_reducible assumption | dsimp only | with_reducible apply Keeps.ite | (intro; intros))
    | (first | simp only [Keeps.mk_eq] | split))

theorem State.bootSv_keeps (v : Fin 2) (cause : Option Nat) (crc : Word) (hk : Keeps r s) : Keeps r (State.bootSv s v cause crc) := by
  unfold State.bootSv
  repeat' (first
    | (first | with_reducible assumption | dsimp only | with_reducible apply State.onSv_keeps)
    | (first | with_reducible apply State.record_keeps | (intro; intros) | simp only [Keeps.mk_eq] | split))

theorem State.bootDegraded_keeps (hk : Keeps r s) : Keeps r (State.bootDegraded s) := by
  unfold State.bootDegraded
  repeat' (first
    | (first | with_reducible assumption | dsimp only | with_reducible apply State.onSv_keeps)
    | (first | with_reducible apply State.record_keeps | (intro; intros) | simp only [Keeps.mk_eq] | split))

theorem State.pathTested_keeps (n : Fin 4) (ok : Bool) (hk : Keeps r s) : Keeps r (State.pathTested s n ok) := by
  have h : Keeps r (s.onPermit n fun p =>
      { p with testAt := s.clk.now, latch := false, qualAt := none, gateShut := p.gateShut || !ok }) :=
    State.onPermit_keeps _ _ hk (by simp)
  unfold State.pathTested
  dsimp only
  split
  · exact h
  · exact State.record_keeps _ _ _ _ (State.dropPermit_keeps _ _ _ h)

theorem State.epochTaken_keeps (n : Fin 4) (epoch : Nat) (hk : Keeps r s) : Keeps r (State.epochTaken s n epoch) := by
  unfold State.epochTaken
  repeat' (first
    | (first | with_reducible assumption | dsimp only | with_reducible apply Keeps.ite)
    | (first | with_reducible apply State.onNvSec_keeps | with_reducible apply State.record_keeps)
    | (first | (intro; intros) | simp only [Keeps.mk_eq] | split))

theorem State.countBadSlots_keeps (hk : Keeps r s) : Keeps r (State.countBadSlots s) := by
  simpa only [State.countBadSlots, Keeps.mk_eq] using hk

theorem State.useCkpt_keeps (hk : Keeps r s) : Keeps r (State.useCkpt s) := by
  unfold State.useCkpt
  repeat' (first
    | (first | with_reducible assumption | dsimp only | with_reducible apply State.countBadSlots_keeps)
    | (first | with_reducible apply State.setBarred_keeps | with_reducible apply State.epochTaken_keeps)
    | (first | with_reducible apply State.each_keeps | (intro; intros) | simp only [Keeps.mk_eq] | split))

theorem State.badEntry_keeps (key : Nat) (hk : Keeps r s) : Keeps r (State.badEntry s key) := by
  unfold State.badEntry
  repeat' (first
    | (first | with_reducible assumption | dsimp only | with_reducible apply Keeps.ite)
    | (first | with_reducible apply State.record_keeps | (intro; intros) | simp only [Keeps.mk_eq] | split))

theorem State.judgeSections_keeps (hk : Keeps r s) : Keeps r (State.judgeSections s) := by
  unfold State.judgeSections
  repeat' (first
    | (first | with_reducible assumption | dsimp only | with_reducible apply Keeps.ite)
    | (first | with_reducible apply State.configStep_keeps | with_reducible apply State.publishAll_keeps)
    | (first | with_reducible apply State.each_keeps | (intro; intros) | simp only [Keeps.mk_eq] | split))

theorem State.degradedWords_keeps (hk : Keeps r s) : Keeps r (State.degradedWords s) := by
  unfold State.degradedWords
  repeat' (first
    | (first | with_reducible assumption | dsimp only | with_reducible apply State.publishWord_keeps)
    | (first | with_reducible apply State.when_keeps | with_reducible apply State.each_keeps | (intro; intros))
    | (first | exact Merged.word_parOk _ _ | simp only [Keeps.mk_eq] | split))

theorem State.intoService_keeps (rep : BootReport) (hk : Keeps r s) : Keeps r (State.intoService s rep) := by
  unfold State.intoService
  repeat' (first
    | (first | with_reducible assumption | dsimp only | with_reducible apply State.repairs_keeps)
    | (first | with_reducible apply State.bootEngines_keeps | with_reducible apply State.bootSv_keeps)
    | (first | with_reducible apply State.bootDegraded_keeps | with_reducible apply State.pathTested_keeps)
    | (first | with_reducible apply State.useCkpt_keeps | with_reducible apply State.badEntry_keeps)
    | (first | with_reducible apply State.judgeSections_keeps | with_reducible apply State.degradedWords_keeps)
    | (first | with_reducible apply State.blankJudge_keeps | with_reducible apply State.amonRefresh_keeps)
    | (first | with_reducible apply State.each_keeps | with_reducible apply State.eachFin_keeps | (intro; intros))
    | (first | simp only [Keeps.mk_eq] | split))

theorem State.revert_keeps (hk : Keeps r s) : Keeps r (State.revert s) := by
  unfold State.revert
  repeat' (first
    | (first | with_reducible assumption | dsimp only | with_reducible apply State.release_keeps)
    | (first | with_reducible apply State.record_keeps | (intro; intros) | simp only [Keeps.mk_eq] | split))

theorem State.feedEvent_keeps (feed : Fin 2) (kind : Nat) (hk : Keeps r s) : Keeps r (State.feedEvent s feed kind) := by
  unfold State.feedEvent
  repeat' (first
    | (first | with_reducible assumption | dsimp only | with_reducible apply State.warn_keeps)
    | (first | with_reducible apply State.record_keeps | with_reducible apply State.when_keeps)
    | (first | with_reducible apply State.each_keeps | with_reducible apply State.eachFin_keeps | (intro; intros))
    | (first | simp only [Keeps.mk_eq] | split))

theorem State.feedSet_keeps (feed : Fin 2) (on : Bool) (hk : Keeps r s) : Keeps r (State.feedSet s feed on) := by
  simpa only [State.feedSet, Keeps.mk_eq] using hk

theorem State.feedsLost_keeps (hk : Keeps r s) : Keeps r (State.feedsLost s) := by
  unfold State.feedsLost
  repeat' (first
    | (first | with_reducible assumption | dsimp only | with_reducible apply State.record_keeps)
    | (first | with_reducible apply State.when_keeps | (intro; intros) | simp only [Keeps.mk_eq] | split))

theorem State.isoRequest_keeps (h : Fin 8) (durUs patterns : Nat) (hk : Keeps r s) : Keeps r (State.isoRequest s h durUs patterns) := by
  unfold State.isoRequest
  repeat' (first
    | (first | with_reducible assumption | dsimp only | with_reducible apply State.onScan_keeps)
    | (first | with_reducible apply State.pulse_keeps | with_reducible apply State.wakeEvent_keeps)
    | (first | with_reducible apply State.record_keeps | (intro; intros) | simp only [Keeps.mk_eq] | split))

theorem State.chanGiven_keeps (c : Fin 16) (hk : Keeps r s) : Keeps r (State.chanGiven s c) := by
  unfold State.chanGiven
  repeat' (first
    | (first | with_reducible assumption | dsimp only | with_reducible apply Keeps.ite)
    | (first | with_reducible apply State.onChan_keeps | (intro; intros) | simp only [Keeps.mk_eq] | split))

theorem State.abortUndone_keeps (hk : Keeps r s) : Keeps r (State.abortUndone s) := by
  simpa only [State.abortUndone, Keeps.mk_eq] using hk

theorem State.chanReturns_keeps (c : Fin 16) (d : Det) (hk : Keeps r s) : Keeps r (State.chanReturns s c d) := by
  unfold State.chanReturns
  repeat' (first
    | (first | with_reducible assumption | dsimp only | with_reducible apply Keeps.ite)
    | (first | with_reducible apply State.onChan_keeps | with_reducible apply State.onProof_keeps)
    | (first | with_reducible apply State.baselineCheck_keeps | (intro; intros) | simp only [Keeps.mk_eq] | split))

theorem State.isoRebase_keeps (h : Fin 8) (hk : Keeps r s) : Keeps r (State.isoRebase s h) := by
  unfold State.isoRebase
  repeat' (first
    | (first | with_reducible assumption | dsimp only | with_reducible apply State.rebaseOuter_keeps)
    | (first | with_reducible apply State.each_keeps | (intro; intros) | simp only [Keeps.mk_eq] | split))

theorem State.isoFound_keeps (i : Isolation) (hk : Keeps r s) : Keeps r (State.isoFound s i) := by
  unfold State.isoFound
  repeat' (first
    | (first | with_reducible assumption | dsimp only | with_reducible apply Keeps.ite)
    | (first | with_reducible apply State.raise_keeps | with_reducible apply State.each_keeps | (intro; intros))
    | (first | simp only [Keeps.mk_eq] | split))

theorem State.isoReturn_keeps (i : Isolation) (hk : Keeps r s) : Keeps r (State.isoReturn s i) := by
  unfold State.isoReturn
  repeat' (first
    | (first | with_reducible assumption | dsimp only | with_reducible apply Keeps.ite)
    | (first | with_reducible apply State.chanReturns_keeps | with_reducible apply State.headReturns_keeps)
    | (first | with_reducible apply State.isoRebase_keeps | with_reducible apply State.isoFound_keeps)
    | (first | with_reducible apply State.pulse_keeps | with_reducible apply State.requalify_keeps)
    | (first | with_reducible apply State.amonRefresh_keeps | (intro; intros) | simp only [Keeps.mk_eq] | split))

theorem State.tumblerFails_keeps (hk : Keeps r s) : Keeps r (State.tumblerFails s) := by
  unfold State.tumblerFails
  repeat' (first
    | (first | with_reducible assumption | dsimp only | with_reducible apply State.notify_keeps)
    | (first | with_reducible apply State.record_keeps | with_reducible apply State.each_keeps | (intro; intros))
    | (first | simp only [Keeps.mk_eq] | split))

theorem State.refreshFails_keeps (mem : RefreshMem) (row : Nat) (hk : Keeps r s) : Keeps r (State.refreshFails s mem row) := by
  unfold State.refreshFails
  repeat' (first
    | (first | with_reducible assumption | dsimp only | with_reducible apply State.rowFails_keeps)
    | (first | with_reducible apply State.softRepair_keeps | (intro; intros) | simp only [Keeps.mk_eq] | split))

theorem State.deFails_keeps (d : Fin 2) (hk : Keeps r s) : Keeps r (State.deFails s d) := by
  unfold State.deFails
  repeat' (first
    | (first | with_reducible assumption | dsimp only | with_reducible apply State.drawFree_keeps)
    | (first | with_reducible apply State.closeSession_keeps | with_reducible apply State.onSession_keeps)
    | (first | with_reducible apply State.record_keeps | with_reducible apply State.each_keeps | (intro; intros))
    | (first | simp only [Keeps.mk_eq] | refine Keeps.snd (by assumption) ?_ | split))

end Sys2Proof.Machine
end

