-- ==== Sys2Proof/Laws/KeepsExec.lean ====
section
/-! SUPPORT. Every command but PERMIT_RISE answers a next state and keeps what Keeps says: one lemma a meaning. -/

namespace Sys2Proof.Machine

set_option Elab.async false
set_option linter.unusedTactic false
set_option linter.unreachableTactic false
set_option linter.unusedSimpArgs false

theorem execKinExpiry_keeps (t : Time) (sec : Fin 4) (s : State) : ∃ s', execKinExpiry t sec s = .next s' ∧ Keeps s s' := by
  refine ⟨_, rfl, ?_⟩
  repeat' (first
    | (first | with_reducible assumption | dsimp only | with_reducible apply Keeps.ite)
    | (first | with_reducible apply State.at_keeps | with_reducible apply State.kinWrite_keeps)
    | (first | with_reducible apply State.when_keeps | (intro; intros) | simp only [Keeps.mk_eq])
    | (first | exact Keeps.refl _ | split))

theorem execPresenceEvent_keeps (t : Time) (ev : PresenceEvent) (s : State) : ∃ s', execPresenceEvent t ev s = .next s' ∧ Keeps s s' := by
  refine ⟨_, rfl, ?_⟩
  repeat' (first
    | (first | with_reducible assumption | dsimp only | with_reducible apply Keeps.ite)
    | (first | with_reducible apply State.at_keeps | with_reducible apply State.takePresence_keeps)
    | (first | with_reducible apply State.when_keeps | with_reducible apply State.each_keeps | (intro; intros))
    | (first | simp only [Keeps.mk_eq] | exact Keeps.refl _ | split))

theorem execLedgerStall_keeps (t : Time) (slot : Fin 2048) (s : State) : ∃ s', execLedgerStall t slot s = .next s' ∧ Keeps s s' := by
  refine ⟨_, rfl, ?_⟩
  repeat' (first
    | (first | with_reducible assumption | dsimp only | with_reducible apply Keeps.ite)
    | (first | with_reducible apply State.at_keeps | with_reducible apply State.causeAtHead_keeps)
    | (first | with_reducible apply State.when_keeps | (intro; intros) | simp only [Keeps.mk_eq])
    | (first | exact Keeps.refl _ | split))

theorem execLoopMonitorEval_keeps (t : Time) (c : Fin 16) (amp : Rat) (unblanked : Nat) (s : State) : ∃ s', execLoopMonitorEval t c amp unblanked s = .next s' ∧ Keeps s s' := by
  unfold execLoopMonitorEval
  dsimp only
  repeat' split
  all_goals refine ⟨_, rfl, ?_⟩
  all_goals
    repeat' (first
      | (first | with_reducible assumption | dsimp only | with_reducible apply Keeps.ite)
      | (first | with_reducible apply State.at_keeps | with_reducible apply State.calRun_keeps)
      | (first | with_reducible apply State.onChan_keeps | with_reducible apply State.chanFault_keeps)
      | (first | with_reducible apply State.monitorSeen_keeps | with_reducible apply State.warnCond_keeps)
      | (first | with_reducible apply State.when_keeps | (intro; intros) | simp only [Keeps.mk_eq])
      | (first | exact Keeps.refl _ | split))

theorem execExcCurrentEval_keeps (t : Time) (c : Fin 16) (cur : Rat) (limiter : Bool) (s : State) : ∃ s', execExcCurrentEval t c cur limiter s = .next s' ∧ Keeps s s' := by
  unfold execExcCurrentEval
  dsimp only
  repeat' split
  all_goals refine ⟨_, rfl, ?_⟩
  all_goals
    repeat' (first
      | (first | with_reducible assumption | dsimp only | with_reducible apply Keeps.ite)
      | (first | with_reducible apply State.at_keeps | with_reducible apply State.calRun_keeps)
      | (first | with_reducible apply State.onChan_keeps | with_reducible apply State.chanFault_keeps)
      | (first | with_reducible apply State.monitorSeen_keeps | with_reducible apply State.warnCond_keeps)
      | (first | with_reducible apply State.when_keeps | (intro; intros) | simp only [Keeps.mk_eq])
      | (first | exact Keeps.refl _ | split))

theorem execCommonModeEval_keeps (t : Time) (c : Fin 16) (volts vafe : Rat) (s : State) : ∃ s', execCommonModeEval t c volts vafe s = .next s' ∧ Keeps s s' := by
  unfold execCommonModeEval
  dsimp only
  repeat' split
  all_goals refine ⟨_, rfl, ?_⟩
  all_goals
    repeat' (first
      | (first | with_reducible assumption | dsimp only | with_reducible apply Keeps.ite)
      | (first | with_reducible apply State.at_keeps | with_reducible apply State.calRun_keeps)
      | (first | with_reducible apply State.onChan_keeps | with_reducible apply State.chanFault_keeps)
      | (first | with_reducible apply State.monitorSeen_keeps | with_reducible apply State.when_keeps)
      | (first | (intro; intros) | simp only [Keeps.mk_eq] | exact Keeps.refl _ | split))

theorem execBurnoutEval_keeps (t : Time) (c : Fin 16) (share : Rat) (s : State) : ∃ s', execBurnoutEval t c share s = .next s' ∧ Keeps s s' := by
  unfold execBurnoutEval
  dsimp only
  repeat' split
  all_goals refine ⟨_, rfl, ?_⟩
  all_goals
    repeat' (first
      | (first | with_reducible assumption | dsimp only | with_reducible apply Keeps.ite)
      | (first | with_reducible apply State.at_keeps | with_reducible apply State.calRun_keeps)
      | (first | with_reducible apply State.onChan_keeps | with_reducible apply State.chanFault_keeps)
      | (first | with_reducible apply State.recordFault_keeps | with_reducible apply State.monitorSeen_keeps)
      | (first | with_reducible apply State.when_keeps | (intro; intros) | simp only [Keeps.mk_eq])
      | (first | exact Keeps.refl _ | split))

theorem execFaultCauseFinal_keeps (t : Time) (c : Fin 16) (s : State) : ∃ s', execFaultCauseFinal t c s = .next s' ∧ Keeps s s' := by
  refine ⟨_, rfl, ?_⟩
  repeat' (first
    | (first | with_reducible assumption | dsimp only | with_reducible apply Keeps.ite)
    | (first | with_reducible apply State.at_keeps | with_reducible apply State.onChan_keeps)
    | (first | with_reducible apply State.recordFault_keeps | (intro; intros) | simp only [Keeps.mk_eq])
    | (first | exact Keeps.refl _ | split))

theorem execReconnectQuietExpiry_keeps (t : Time) (c : Fin 16) (rep : CalReport) (s : State) : ∃ s', execReconnectQuietExpiry t c rep s = .next s' ∧ Keeps s s' := by
  refine ⟨_, rfl, ?_⟩
  repeat' (first
    | (first | with_reducible assumption | dsimp only | with_reducible apply Keeps.ite)
    | (first | with_reducible apply State.at_keeps | with_reducible apply State.startCal_keeps)
    | (first | with_reducible apply State.when_keeps | (intro; intros) | simp only [Keeps.mk_eq])
    | (first | exact Keeps.refl _ | split))

theorem execCalibrationStart_keeps (t : Time) (c : Fin 16) (rep : CalReport) (s : State) : ∃ s', execCalibrationStart t c rep s = .next s' ∧ Keeps s s' := by
  refine ⟨_, rfl, ?_⟩
  repeat' (first
    | (first | with_reducible assumption | dsimp only | with_reducible apply Keeps.ite)
    | (first | with_reducible apply State.at_keeps | with_reducible apply State.startCal_keeps)
    | (first | with_reducible apply State.when_keeps | (intro; intros) | simp only [Keeps.mk_eq])
    | (first | exact Keeps.refl _ | split))

theorem execCalibrationDone_keeps (t : Time) (c : Fin 16) (s : State) : ∃ s', execCalibrationDone t c s = .next s' ∧ Keeps s s' := by
  refine ⟨_, rfl, ?_⟩
  repeat' (first
    | (first | with_reducible assumption | dsimp only | with_reducible apply Keeps.ite)
    | (first | with_reducible apply State.at_keeps | with_reducible apply State.calRun_keeps)
    | (first | with_reducible apply State.calEnds_keeps | with_reducible apply State.when_keeps | (intro; intros))
    | (first | simp only [Keeps.mk_eq] | exact Keeps.refl _ | split))

theorem execChannelWarning_keeps (t : Time) (c : Fin 16) (kind : WarnKind) (s : State) : ∃ s', execChannelWarning t c kind s = .next s' ∧ Keeps s s' := by
  refine ⟨_, rfl, ?_⟩
  repeat' (first
    | (first | with_reducible assumption | dsimp only | with_reducible apply Keeps.ite)
    | (first | with_reducible apply State.at_keeps | with_reducible apply State.warn_keeps)
    | (first | with_reducible apply State.when_keeps | (intro; intros) | simp only [Keeps.mk_eq])
    | (first | exact Keeps.refl _ | split))

theorem execWarningHoldExpiry_keeps (t : Time) (c : Fin 16) (kind : WarnKind) (s : State) : ∃ s', execWarningHoldExpiry t c kind s = .next s' ∧ Keeps s s' := by
  refine ⟨_, rfl, ?_⟩
  repeat' (first
    | (first | with_reducible assumption | dsimp only | with_reducible apply Keeps.ite)
    | (first | with_reducible apply State.at_keeps | with_reducible apply State.onWarn_keeps)
    | (first | with_reducible apply State.when_keeps | (intro; intros) | simp only [Keeps.mk_eq])
    | (first | exact Keeps.refl _ | split))

theorem execTchReading_keeps (t : Time) (c : Fin 8) (m1 m2 vref : Rat) (s : State) : ∃ s', execTchReading t c m1 m2 vref s = .next s' ∧ Keeps s s' := by
  unfold execTchReading
  dsimp only
  repeat' split
  all_goals refine ⟨_, rfl, ?_⟩
  all_goals
    repeat' (first
      | (first | with_reducible assumption | dsimp only | with_reducible apply Keeps.ite)
      | (first | with_reducible apply State.at_keeps | with_reducible apply State.onTch_keeps)
      | (first | with_reducible apply State.ptTemp_keeps | with_reducible apply State.bodyWarnings_keeps)
      | (first | with_reducible apply State.cabinetReading_keeps | with_reducible apply State.when_keeps)
      | (first | (intro; intros) | simp only [Keeps.mk_eq] | exact Keeps.refl _ | split))

theorem execBlankingWindowEdge_keeps (t : Time) (src : Fin 6) (level : Bool) (s : State) : ∃ s', execBlankingWindowEdge t src level s = .next s' ∧ Keeps s s' := by
  refine ⟨_, rfl, ?_⟩
  repeat' (first
    | (first | with_reducible assumption | dsimp only | with_reducible apply Keeps.ite)
    | (first | with_reducible apply State.at_keeps | with_reducible apply State.onBlank_keeps)
    | (first | with_reducible apply State.blankJudge_keeps | with_reducible apply State.when_keeps)
    | (first | (intro; intros) | simp only [Keeps.mk_eq] | exact Keeps.refl _ | split))

theorem execBlankStuck_keeps (t : Time) (src : Fin 6) (s : State) : ∃ s', execBlankStuck t src s = .next s' ∧ Keeps s s' := by
  refine ⟨_, rfl, ?_⟩
  repeat' (first
    | (first | with_reducible assumption | dsimp only | with_reducible apply Keeps.ite)
    | (first | with_reducible apply State.at_keeps | with_reducible apply State.onBlank_keeps)
    | (first | with_reducible apply State.warnWhile_keeps | with_reducible apply State.record_keeps)
    | (first | with_reducible apply State.when_keeps | with_reducible apply State.each_keeps | (intro; intros))
    | (first | simp only [Keeps.mk_eq] | exact Keeps.refl _ | split))

theorem execBlankSourceRestore_keeps (t : Time) (src : Fin 6) (s : State) : ∃ s', execBlankSourceRestore t src s = .next s' ∧ Keeps s s' := by
  refine ⟨_, rfl, ?_⟩
  repeat' (first
    | (first | with_reducible assumption | dsimp only | with_reducible apply Keeps.ite)
    | (first | with_reducible apply State.at_keeps | with_reducible apply State.onBlank_keeps)
    | (first | with_reducible apply State.warnCond_keeps | with_reducible apply State.when_keeps)
    | (first | with_reducible apply State.each_keeps | (intro; intros) | simp only [Keeps.mk_eq])
    | (first | exact Keeps.refl _ | split))

theorem execSettlingMaskEnd_keeps (t : Time) (c : Fin 16) (s : State) : ∃ s', execSettlingMaskEnd t c s = .next s' ∧ Keeps s s' := by
  refine ⟨_, rfl, ?_⟩
  repeat' (first
    | (first | with_reducible assumption | dsimp only | with_reducible apply Keeps.ite)
    | (first | with_reducible apply State.at_keeps | with_reducible apply State.calRun_keeps)
    | (first | with_reducible apply State.onChan_keeps | with_reducible apply State.moveEnds_keeps)
    | (first | with_reducible apply State.releaseDeferred_keeps | with_reducible apply State.amonRefresh_keeps)
    | (first | with_reducible apply State.when_keeps | (intro; intros) | simp only [Keeps.mk_eq])
    | (first | exact Keeps.refl _ | split))

theorem execReferenceSwitchover_keeps (t : Time) (s : State) : ∃ s', execReferenceSwitchover t s = .next s' ∧ Keeps s s' := by
  refine ⟨_, rfl, ?_⟩
  repeat' (first
    | (first | with_reducible assumption | dsimp only | with_reducible apply Keeps.ite)
    | (first | with_reducible apply State.at_keeps | with_reducible apply State.maskFrom_keeps)
    | (first | with_reducible apply State.onScan_keeps | with_reducible apply State.record_keeps)
    | (first | with_reducible apply State.when_keeps | with_reducible apply State.each_keeps)
    | (first | with_reducible apply State.eachFin_keeps | (intro; intros) | simp only [Keeps.mk_eq])
    | (first | exact Keeps.refl _ | split))

theorem execBothReferencesLost_keeps (t : Time) (s : State) : ∃ s', execBothReferencesLost t s = .next s' ∧ Keeps s s' := by
  refine ⟨_, rfl, ?_⟩
  repeat' (first
    | (first | with_reducible assumption | dsimp only | with_reducible apply Keeps.ite)
    | (first | with_reducible apply State.at_keeps | with_reducible apply State.chanFault_keeps)
    | (first | with_reducible apply State.record_keeps | with_reducible apply State.when_keeps)
    | (first | with_reducible apply State.each_keeps | with_reducible apply State.eachFin_keeps | (intro; intros))
    | (first | simp only [Keeps.mk_eq] | exact Keeps.refl _ | split))

theorem execFrameBoundary_keeps (t : Time) (s : State) : ∃ s', execFrameBoundary t s = .next s' ∧ Keeps s s' := by
  refine ⟨_, rfl, ?_⟩
  repeat' (first
    | (first | with_reducible assumption | dsimp only | with_reducible apply Keeps.ite)
    | (first | with_reducible apply State.at_keeps | with_reducible apply State.onDet_keeps)
    | (first | with_reducible apply State.calRun_keeps | with_reducible apply State.pauseEnds_keeps)
    | (first | with_reducible apply State.boundaryChanges_keeps | with_reducible apply State.when_keeps)
    | (first | with_reducible apply State.each_keeps | with_reducible apply State.eachFin_keeps | (intro; intros))
    | (first | simp only [Keeps.mk_eq] | exact Keeps.refl _ | split))

theorem execScanDue_keeps (t : Time) (c : Fin 16) (s : State) : ∃ s', execScanDue t c s = .next s' ∧ Keeps s s' := by
  refine ⟨_, rfl, ?_⟩
  repeat' (first
    | (first | with_reducible assumption | dsimp only | with_reducible apply Keeps.ite)
    | (first | with_reducible apply State.at_keeps | with_reducible apply State.scanDue_keeps)
    | (first | with_reducible apply State.when_keeps | (intro; intros) | simp only [Keeps.mk_eq])
    | (first | exact Keeps.refl _ | split))

theorem execScanOverdue_keeps (t : Time) (c : Fin 16) (s : State) : ∃ s', execScanOverdue t c s = .next s' ∧ Keeps s s' := by
  refine ⟨_, rfl, ?_⟩
  repeat' (first
    | (first | with_reducible assumption | dsimp only | with_reducible apply Keeps.ite)
    | (first | with_reducible apply State.at_keeps | with_reducible apply State.warnWhile_keeps)
    | (first | with_reducible apply State.when_keeps | (intro; intros) | simp only [Keeps.mk_eq])
    | (first | exact Keeps.refl _ | split))

theorem execScanPauseStart_keeps (t : Time) (c : Fin 16) (s : State) : ∃ s', execScanPauseStart t c s = .next s' ∧ Keeps s s' := by
  refine ⟨_, rfl, ?_⟩
  repeat' (first
    | (first | with_reducible assumption | dsimp only | with_reducible apply Keeps.ite)
    | (first | with_reducible apply State.at_keeps | with_reducible apply State.onChan_keeps)
    | (first | with_reducible apply State.onScan_keeps | with_reducible apply State.onDet_keeps)
    | (first | with_reducible apply State.amonRefresh_keeps | with_reducible apply State.when_keeps)
    | (first | (intro; intros) | simp only [Keeps.mk_eq] | exact Keeps.refl _ | split))

theorem execScanComplete_keeps (t : Time) (c : Fin 16) (s : State) : ∃ s', execScanComplete t c s = .next s' ∧ Keeps s s' := by
  refine ⟨_, rfl, ?_⟩
  repeat' (first
    | (first | with_reducible assumption | dsimp only | with_reducible apply Keeps.ite)
    | (first | with_reducible apply State.at_keeps | with_reducible apply State.onScan_keeps)
    | (first | with_reducible apply State.decibels_keeps | with_reducible apply State.spectrumOf_keeps)
    | (first | with_reducible apply State.warnCond_keeps | with_reducible apply State.when_keeps | (intro; intros))
    | (first | simp only [Keeps.mk_eq] | exact Keeps.refl _ | split))

theorem execFastSample_keeps (t : Time) (c : Fin 16) (l : List RawIn) (s : State) : ∃ s', execFastSample t c l s = .next s' ∧ Keeps s s' := by
  unfold execFastSample
  dsimp only
  repeat' split
  all_goals refine ⟨_, rfl, ?_⟩
  all_goals
    repeat' (first
      | (first | with_reducible assumption | dsimp only | with_reducible apply Keeps.ite)
      | (first | with_reducible apply State.at_keeps | with_reducible apply State.calRun_keeps)
      | (first | with_reducible apply State.takeRaws_keeps | with_reducible apply State.onChan_keeps)
      | (first | with_reducible apply State.heartbeat_keeps | with_reducible apply State.chanFault_keeps)
      | (first | with_reducible apply State.engineSample_keeps | with_reducible apply State.when_keeps)
      | (first | (intro; intros) | simp only [Keeps.mk_eq] | exact Keeps.refl _ | split))

theorem execNoiseBlock_keeps (t : Time) (c : Fin 16) (s : State) : ∃ s', execNoiseBlock t c s = .next s' ∧ Keeps s s' := by
  refine ⟨_, rfl, ?_⟩
  repeat' (first
    | (first | with_reducible assumption | dsimp only | with_reducible apply Keeps.ite)
    | (first | with_reducible apply State.at_keeps | with_reducible apply State.onStats_keeps)
    | (first | with_reducible apply State.onScan_keeps | with_reducible apply State.warnWhile_keeps)
    | (first | with_reducible apply State.chanFault_keeps | with_reducible apply State.when_keeps)
    | (first | (intro; intros) | simp only [Keeps.mk_eq] | exact Keeps.refl _ | split))

theorem execBaselineStore_keeps (t : Time) (s : State) : ∃ s', execBaselineStore t s = .next s' ∧ Keeps s s' := by
  refine ⟨_, rfl, ?_⟩
  repeat' (first
    | (first | with_reducible assumption | dsimp only | with_reducible apply Keeps.ite)
    | (first | with_reducible apply State.at_keeps | with_reducible apply State.storeBaseline_keeps)
    | (first | with_reducible apply State.closeHour_keeps | with_reducible apply State.when_keeps)
    | (first | with_reducible apply State.each_keeps | with_reducible apply State.eachFin_keeps | (intro; intros))
    | (first | simp only [Keeps.mk_eq] | exact Keeps.refl _ | split))

theorem execDriftEvaluation_keeps (t : Time) (c : Fin 16) (s : State) : ∃ s', execDriftEvaluation t c s = .next s' ∧ Keeps s s' := by
  refine ⟨_, rfl, ?_⟩
  repeat' (first
    | (first | with_reducible assumption | dsimp only | with_reducible apply Keeps.ite)
    | (first | with_reducible apply State.at_keeps | with_reducible apply State.drift_keeps)
    | (first | with_reducible apply State.when_keeps | (intro; intros) | simp only [Keeps.mk_eq])
    | (first | exact Keeps.refl _ | split))

theorem execKappaFit_keeps (t : Time) (c : Fin 16) (s : State) : ∃ s', execKappaFit t c s = .next s' ∧ Keeps s s' := by
  refine ⟨_, rfl, ?_⟩
  repeat' (first
    | (first | with_reducible assumption | dsimp only | with_reducible apply Keeps.ite)
    | (first | with_reducible apply State.at_keeps | with_reducible apply State.onStats_keeps)
    | (first | with_reducible apply State.fitChannel_keeps | with_reducible apply State.when_keeps)
    | (first | (intro; intros) | simp only [Keeps.mk_eq] | exact Keeps.refl _ | split))

theorem execResidualPresence_keeps (t : Time) (c : Fin 16) (s : State) : ∃ s', execResidualPresence t c s = .next s' ∧ Keeps s s' := by
  refine ⟨_, rfl, ?_⟩
  repeat' (first
    | (first | with_reducible assumption | dsimp only | with_reducible apply Keeps.ite)
    | (first | with_reducible apply State.at_keeps | with_reducible apply State.onStats_keeps)
    | (first | with_reducible apply State.warnWhile_keeps | with_reducible apply State.when_keeps)
    | (first | (intro; intros) | simp only [Keeps.mk_eq] | exact Keeps.refl _ | split))

theorem execEngineCheckpoint_keeps (t : Time) (e : Fin 9) (w : CkptWrite) (s : State) : ∃ s', execEngineCheckpoint t e w s = .next s' ∧ Keeps s s' := by
  refine ⟨_, rfl, ?_⟩
  repeat' (first
    | (first | with_reducible assumption | dsimp only | with_reducible apply Keeps.ite)
    | (first | with_reducible apply State.at_keeps | with_reducible apply State.ckptWritten_keeps)
    | (first | with_reducible apply State.engineFails_keeps | with_reducible apply State.when_keeps)
    | (first | (intro; intros) | simp only [Keeps.mk_eq] | exact Keeps.refl _ | split))

theorem execEngineFailure_keeps (t : Time) (e : Fin 9) (check : EngineCheck) (s : State) : ∃ s', execEngineFailure t e check s = .next s' ∧ Keeps s s' := by
  refine ⟨_, rfl, ?_⟩
  repeat' (first
    | (first | with_reducible assumption | dsimp only | with_reducible apply Keeps.ite)
    | (first | with_reducible apply State.at_keeps | with_reducible apply State.engineFails_keeps)
    | (first | with_reducible apply State.when_keeps | (intro; intros) | simp only [Keeps.mk_eq])
    | (first | exact Keeps.refl _ | split))

theorem execTakeoverFirstDecision_keeps (t : Time) (h : Fin 8) (s : State) : ∃ s', execTakeoverFirstDecision t h s = .next s' ∧ Keeps s s' := by
  refine ⟨_, rfl, ?_⟩
  repeat' (first
    | (first | with_reducible assumption | dsimp only | with_reducible apply Keeps.ite)
    | (first | with_reducible apply State.at_keeps | with_reducible apply State.takeoverDecision_keeps)
    | (first | with_reducible apply State.onDet_keeps | with_reducible apply State.amonRefresh_keeps)
    | (first | with_reducible apply State.when_keeps | (intro; intros) | simp only [Keeps.mk_eq])
    | (first | exact Keeps.refl _ | split))

theorem execProofTestDue_keeps (t : Time) (c : Fin 16) (s : State) : ∃ s', execProofTestDue t c s = .next s' ∧ Keeps s s' := by
  refine ⟨_, rfl, ?_⟩
  repeat' (first
    | (first | with_reducible assumption | dsimp only | with_reducible apply Keeps.ite)
    | (first | with_reducible apply State.at_keeps | with_reducible apply State.onProof_keeps)
    | (first | with_reducible apply State.when_keeps | with_reducible apply State.each_keeps)
    | (first | with_reducible apply State.eachFin_keeps | (intro; intros) | simp only [Keeps.mk_eq])
    | (first | exact Keeps.refl _ | split))

theorem execProofTestStart_keeps (t : Time) (c : Fin 16) (s : State) : ∃ s', execProofTestStart t c s = .next s' ∧ Keeps s s' := by
  refine ⟨_, rfl, ?_⟩
  repeat' (first
    | (first | with_reducible assumption | dsimp only | with_reducible apply Keeps.ite)
    | (first | with_reducible apply State.at_keeps | with_reducible apply State.proofStarts_keeps)
    | (first | with_reducible apply State.when_keeps | (intro; intros) | simp only [Keeps.mk_eq])
    | (first | exact Keeps.refl _ | split))

theorem execProofTestEnd_keeps (t : Time) (c : Fin 16) (s : State) : ∃ s', execProofTestEnd t c s = .next s' ∧ Keeps s s' := by
  refine ⟨_, rfl, ?_⟩
  repeat' (first
    | (first | with_reducible assumption | dsimp only | with_reducible apply Keeps.ite)
    | (first | with_reducible apply State.at_keeps | with_reducible apply State.proofPassed_keeps)
    | (first | with_reducible apply State.proofFailed_keeps | with_reducible apply State.warnCond_keeps)
    | (first | (intro; intros) | simp only [Keeps.mk_eq] | exact Keeps.refl _ | split))

theorem execProofTestRetry_keeps (t : Time) (c : Fin 16) (s : State) : ∃ s', execProofTestRetry t c s = .next s' ∧ Keeps s s' := by
  refine ⟨_, rfl, ?_⟩
  repeat' (first
    | (first | with_reducible assumption | dsimp only | with_reducible apply Keeps.ite)
    | (first | with_reducible apply State.at_keeps | with_reducible apply State.onProof_keeps)
    | (first | with_reducible apply State.when_keeps | (intro; intros) | simp only [Keeps.mk_eq])
    | (first | exact Keeps.refl _ | split))

theorem execProofTestOverdue_keeps (t : Time) (c : Fin 16) (s : State) : ∃ s', execProofTestOverdue t c s = .next s' ∧ Keeps s s' := by
  refine ⟨_, rfl, ?_⟩
  repeat' (first
    | (first | with_reducible assumption | dsimp only | with_reducible apply Keeps.ite)
    | (first | with_reducible apply State.at_keeps | with_reducible apply State.warnWhile_keeps)
    | (first | with_reducible apply State.when_keeps | (intro; intros) | simp only [Keeps.mk_eq])
    | (first | exact Keeps.refl _ | split))

theorem execEvaluationStep_keeps (t : Time) (v : Fin 2) (s : State) : ∃ s', execEvaluationStep t v s = .next s' ∧ Keeps s s' := by
  refine ⟨_, rfl, ?_⟩
  repeat' (first
    | (first | with_reducible assumption | dsimp only | with_reducible apply Keeps.ite)
    | (first | with_reducible apply State.at_keeps | with_reducible apply State.evalStep_keeps | (intro; intros))
    | (first | simp only [Keeps.mk_eq] | exact Keeps.refl _ | split))

theorem execClearTimerExpiry_keeps (t : Time) (v : Fin 2) (sec : Fin 4) (s : State) : ∃ s', execClearTimerExpiry t v sec s = .next s' ∧ Keeps s s' := by
  refine ⟨_, rfl, ?_⟩
  repeat' (first
    | (first | with_reducible assumption | dsimp only | with_reducible apply Keeps.ite)
    | (first | with_reducible apply State.at_keeps | with_reducible apply State.evalStep_keeps)
    | (first | with_reducible apply State.when_keeps | (intro; intros) | simp only [Keeps.mk_eq])
    | (first | exact Keeps.refl _ | split))

theorem execDisturbedHoldExpiry_keeps (t : Time) (v : Fin 2) (sec : Fin 4) (cause : Nat) (s : State) : ∃ s', execDisturbedHoldExpiry t v sec cause s = .next s' ∧ Keeps s s' := by
  refine ⟨_, rfl, ?_⟩
  repeat' (first
    | (first | with_reducible assumption | dsimp only | with_reducible apply Keeps.ite)
    | (first | with_reducible apply State.at_keeps | with_reducible apply State.evalStep_keeps)
    | (first | with_reducible apply State.when_keeps | (intro; intros) | simp only [Keeps.mk_eq])
    | (first | exact Keeps.refl _ | split))

theorem execBemfAlarm_keeps (t : Time) (v : Fin 2) (sec : Fin 4) (s : State) : ∃ s', execBemfAlarm t v sec s = .next s' ∧ Keeps s s' := by
  refine ⟨_, rfl, ?_⟩
  repeat' (first
    | (first | with_reducible assumption | dsimp only | with_reducible apply Keeps.ite)
    | (first | with_reducible apply State.at_keeps | with_reducible apply State.evalStep_keeps)
    | (first | with_reducible apply State.when_keeps | (intro; intros) | simp only [Keeps.mk_eq])
    | (first | exact Keeps.refl _ | split))

theorem execAttestTimeout_keeps (t : Time) (sec : Fin 4) (s : State) : ∃ s', execAttestTimeout t sec s = .next s' ∧ Keeps s s' := by
  refine ⟨_, rfl, ?_⟩
  repeat' (first
    | (first | with_reducible assumption | dsimp only | with_reducible apply Keeps.ite)
    | (first | with_reducible apply State.at_keeps | with_reducible apply State.evalBoth_keeps)
    | (first | with_reducible apply State.when_keeps | (intro; intros) | simp only [Keeps.mk_eq])
    | (first | exact Keeps.refl _ | split))

theorem execAttestRetry_keeps (t : Time) (sec : Fin 4) (s : State) : ∃ s', execAttestRetry t sec s = .next s' ∧ Keeps s s' := by
  refine ⟨_, rfl, ?_⟩
  repeat' (first
    | (first | with_reducible assumption | dsimp only | with_reducible apply Keeps.ite)
    | (first | with_reducible apply State.at_keeps | with_reducible apply State.evalBoth_keeps)
    | (first | with_reducible apply State.when_keeps | (intro; intros) | simp only [Keeps.mk_eq])
    | (first | exact Keeps.refl _ | split))

theorem execAttestHeldClear_keeps (t : Time) (sec : Fin 4) (s : State) : ∃ s', execAttestHeldClear t sec s = .next s' ∧ Keeps s s' := by
  refine ⟨_, rfl, ?_⟩
  repeat' (first
    | (first | with_reducible assumption | dsimp only | with_reducible apply Keeps.ite)
    | (first | with_reducible apply State.at_keeps | with_reducible apply State.evalBoth_keeps)
    | (first | with_reducible apply State.when_keeps | (intro; intros) | simp only [Keeps.mk_eq])
    | (first | exact Keeps.refl _ | split))

theorem execSelfAttestation_keeps (t : Time) (sec : Fin 4) (s : State) : ∃ s', execSelfAttestation t sec s = .next s' ∧ Keeps s s' := by
  refine ⟨_, rfl, ?_⟩
  repeat' (first
    | (first | with_reducible assumption | dsimp only | with_reducible apply Keeps.ite)
    | (first | with_reducible apply State.at_keeps | with_reducible apply State.evalBoth_keeps)
    | (first | with_reducible apply State.when_keeps | (intro; intros) | simp only [Keeps.mk_eq])
    | (first | exact Keeps.refl _ | split))

theorem execHecSourcePending_keeps (t : Time) (src : Fin 64) (s : State) : ∃ s', execHecSourcePending t src s = .next s' ∧ Keeps s s' := by
  refine ⟨_, rfl, ?_⟩
  repeat' (first
    | (first | with_reducible assumption | dsimp only | with_reducible apply Keeps.ite)
    | (first | with_reducible apply State.at_keeps | with_reducible apply State.hecFlush_keeps)
    | (first | with_reducible apply State.hecSample_keeps | with_reducible apply State.hecArbitrate_keeps)
    | (first | (intro; intros) | simp only [Keeps.mk_eq] | exact Keeps.refl _ | split))

theorem execHecAccept_keeps (t : Time) (core : Fin 4) (s : State) : ∃ s', execHecAccept t core s = .next s' ∧ Keeps s s' := by
  refine ⟨_, rfl, ?_⟩
  repeat' (first
    | (first | with_reducible assumption | dsimp only | with_reducible apply Keeps.ite)
    | (first | with_reducible apply State.at_keeps | with_reducible apply State.hecFlush_keeps)
    | (first | with_reducible apply State.hecArbitrate_keeps | (intro; intros) | simp only [Keeps.mk_eq])
    | (first | exact Keeps.refl _ | split))

theorem execHecFirstAccess_keeps (t : Time) (core : Fin 4) (s : State) : ∃ s', execHecFirstAccess t core s = .next s' ∧ Keeps s s' := by
  refine ⟨_, rfl, ?_⟩
  repeat' (first
    | (first | with_reducible assumption | dsimp only | with_reducible apply Keeps.ite)
    | (first | with_reducible apply State.at_keeps | with_reducible apply State.hecFlush_keeps)
    | (first | with_reducible apply State.hecSample_keeps | with_reducible apply State.hecAccess_keeps)
    | (first | with_reducible apply State.hecArbitrate_keeps | (intro; intros) | simp only [Keeps.mk_eq])
    | (first | exact Keeps.refl _ | split))

theorem execHecEoi_keeps (t : Time) (core : Fin 4) (w : Word) (s : State) : ∃ s', execHecEoi t core w s = .next s' ∧ Keeps s s' := by
  refine ⟨_, rfl, ?_⟩
  repeat' (first
    | (first | with_reducible assumption | dsimp only | with_reducible apply Keeps.ite)
    | (first | with_reducible apply State.at_keeps | with_reducible apply State.hecCommand_keeps | (intro; intros))
    | (first | simp only [Keeps.mk_eq] | exact Keeps.refl _ | split))

theorem execHecPendClear_keeps (t : Time) (high : Bool) (w sets : Word) (s : State) : ∃ s', execHecPendClear t high w sets s = .next s' ∧ Keeps s s' := by
  refine ⟨_, rfl, ?_⟩
  repeat' (first
    | (first | with_reducible assumption | dsimp only | with_reducible apply Keeps.ite)
    | (first | with_reducible apply State.at_keeps | with_reducible apply State.hecCommand_keeps | (intro; intros))
    | (first | simp only [Keeps.mk_eq] | exact Keeps.refl _ | split))

theorem execHecTargetWrite_keeps (t : Time) (i : Fin 8) (w : Word) (s : State) : ∃ s', execHecTargetWrite t i w s = .next s' ∧ Keeps s s' := by
  refine ⟨_, rfl, ?_⟩
  repeat' (first
    | (first | with_reducible assumption | dsimp only | with_reducible apply Keeps.ite)
    | (first | with_reducible apply State.at_keeps | with_reducible apply State.hecCommand_keeps | (intro; intros))
    | (first | simp only [Keeps.mk_eq] | exact Keeps.refl _ | split))

theorem execHecVbaseWrite_keeps (t : Time) (core : Fin 4) (w : Word) (s : State) : ∃ s', execHecVbaseWrite t core w s = .next s' ∧ Keeps s s' := by
  refine ⟨_, rfl, ?_⟩
  repeat' (first
    | (first | with_reducible assumption | dsimp only | with_reducible apply Keeps.ite)
    | (first | with_reducible apply State.at_keeps | with_reducible apply State.hecCommand_keeps | (intro; intros))
    | (first | simp only [Keeps.mk_eq] | exact Keeps.refl _ | split))

theorem execClrCounts_keeps (t : Time) (s : State) : ∃ s', execClrCounts t s = .next s' ∧ Keeps s s' := by
  refine ⟨_, rfl, ?_⟩
  repeat' (first
    | (first | with_reducible assumption | dsimp only | with_reducible apply Keeps.ite)
    | (first | with_reducible apply State.at_keeps | with_reducible apply State.hecCommand_keeps | (intro; intros))
    | (first | simp only [Keeps.mk_eq] | exact Keeps.refl _ | split))

theorem execCoreReset_keeps (t : Time) (core : Fin 4) (s : State) : ∃ s', execCoreReset t core s = .next s' ∧ Keeps s s' := by
  refine ⟨_, rfl, ?_⟩
  repeat' (first
    | (first | with_reducible assumption | dsimp only | with_reducible apply Keeps.ite)
    | (first | with_reducible apply State.at_keeps | with_reducible apply State.hecFlush_keeps)
    | (first | with_reducible apply State.hecSample_keeps | with_reducible apply State.hecArbitrate_keeps)
    | (first | (intro; intros) | simp only [Keeps.mk_eq] | exact Keeps.refl _ | split))

theorem execCvuCtrlWrite_keeps (t : Time) (u : Fin 2) (w : Word) (s : State) : ∃ s', execCvuCtrlWrite t u w s = .next s' ∧ Keeps s s' := by
  refine ⟨_, rfl, ?_⟩
  repeat' (first
    | (first | with_reducible assumption | dsimp only | with_reducible apply Keeps.ite)
    | (first | with_reducible apply State.at_keeps | with_reducible apply State.onCvu_keeps | (intro; intros))
    | (first | simp only [Keeps.mk_eq] | exact Keeps.refl _ | split))

theorem execStart_keeps (t : Time) (u : Fin 2) (s : State) : ∃ s', execStart t u s = .next s' ∧ Keeps s s' := by
  refine ⟨_, rfl, ?_⟩
  repeat' (first
    | (first | with_reducible assumption | dsimp only | with_reducible apply Keeps.ite)
    | (first | with_reducible apply State.at_keeps | with_reducible apply State.onCvu_keeps | (intro; intros))
    | (first | simp only [Keeps.mk_eq] | exact Keeps.refl _ | split))

theorem execFinish_keeps (t : Time) (u : Fin 2) (s : State) : ∃ s', execFinish t u s = .next s' ∧ Keeps s s' := by
  refine ⟨_, rfl, ?_⟩
  repeat' (first
    | (first | with_reducible assumption | dsimp only | with_reducible apply Keeps.ite)
    | (first | with_reducible apply State.at_keeps | with_reducible apply State.onCvu_keeps)
    | (first | with_reducible apply State.pulse_keeps | (intro; intros) | simp only [Keeps.mk_eq])
    | (first | exact Keeps.refl _ | split))

theorem execClrRej_keeps (t : Time) (u : Fin 2) (s : State) : ∃ s', execClrRej t u s = .next s' ∧ Keeps s s' := by
  refine ⟨_, rfl, ?_⟩
  repeat' (first
    | (first | with_reducible assumption | dsimp only | with_reducible apply Keeps.ite)
    | (first | with_reducible apply State.at_keeps | with_reducible apply State.onCvu_keeps | (intro; intros))
    | (first | simp only [Keeps.mk_eq] | exact Keeps.refl _ | split))

theorem execCvuData_keeps (t : Time) (u : Fin 2) (width : Nat) (w : Word) (s : State) : ∃ s', execCvuData t u width w s = .next s' ∧ Keeps s s' := by
  refine ⟨_, rfl, ?_⟩
  repeat' (first
    | (first | with_reducible assumption | dsimp only | with_reducible apply Keeps.ite)
    | (first | with_reducible apply State.at_keeps | with_reducible apply State.onCvu_keeps | (intro; intros))
    | (first | simp only [Keeps.mk_eq] | exact Keeps.refl _ | split))

theorem execCvuValWrite_keeps (t : Time) (u : Fin 2) (w : Word) (s : State) : ∃ s', execCvuValWrite t u w s = .next s' ∧ Keeps s s' := by
  refine ⟨_, rfl, ?_⟩
  repeat' (first
    | (first | with_reducible assumption | dsimp only | with_reducible apply Keeps.ite)
    | (first | with_reducible apply State.at_keeps | with_reducible apply State.onCvu_keeps | (intro; intros))
    | (first | simp only [Keeps.mk_eq] | exact Keeps.refl _ | split))

theorem execSupervisorFailure_keeps (t : Time) (v : Fin 2) (cause : SvFault) (s : State) : ∃ s', execSupervisorFailure t v cause s = .next s' ∧ Keeps s s' := by
  refine ⟨_, rfl, ?_⟩
  repeat' (first
    | (first | with_reducible assumption | dsimp only | with_reducible apply Keeps.ite)
    | (first | with_reducible apply State.at_keeps | with_reducible apply State.svFail_keeps | (intro; intros))
    | (first | simp only [Keeps.mk_eq] | exact Keeps.refl _ | split))

theorem execSupervisorClockFault_keeps (t : Time) (v : Fin 2) (s : State) : ∃ s', execSupervisorClockFault t v s = .next s' ∧ Keeps s s' := by
  refine ⟨_, rfl, ?_⟩
  repeat' (first
    | (first | with_reducible assumption | dsimp only | with_reducible apply Keeps.ite)
    | (first | with_reducible apply State.at_keeps | with_reducible apply State.svFail_keeps | (intro; intros))
    | (first | simp only [Keeps.mk_eq] | exact Keeps.refl _ | split))

theorem execStepOverrun_keeps (t : Time) (v : Fin 2) (s : State) : ∃ s', execStepOverrun t v s = .next s' ∧ Keeps s s' := by
  refine ⟨_, rfl, ?_⟩
  repeat' (first
    | (first | with_reducible assumption | dsimp only | with_reducible apply Keeps.ite)
    | (first | with_reducible apply State.at_keeps | with_reducible apply State.onSv_keeps)
    | (first | with_reducible apply State.svFail_keeps | with_reducible apply State.when_keeps | (intro; intros))
    | (first | simp only [Keeps.mk_eq] | exact Keeps.refl _ | split))

theorem execDegradedClearExpiry_keeps (t : Time) (s : State) : ∃ s', execDegradedClearExpiry t s = .next s' ∧ Keeps s s' := by
  refine ⟨_, rfl, ?_⟩
  repeat' (first
    | (first | with_reducible assumption | dsimp only | with_reducible apply Keeps.ite)
    | (first | with_reducible apply State.at_keeps | with_reducible apply State.record_keeps)
    | (first | with_reducible apply State.when_keeps | with_reducible apply State.each_keeps | (intro; intros))
    | (first | simp only [Keeps.mk_eq] | exact Keeps.refl _ | split))

theorem execLedgerScrub_keeps (t : Time) (slot : Fin 2048) (copy : Fin 2) (rep : ScrubResult) (s : State) : ∃ s', execLedgerScrub t slot copy rep s = .next s' ∧ Keeps s s' := by
  refine ⟨_, rfl, ?_⟩
  repeat' (first
    | (first | with_reducible assumption | dsimp only | with_reducible apply Keeps.ite)
    | (first | with_reducible apply State.at_keeps | with_reducible apply State.voidEntry_keeps)
    | (first | with_reducible apply State.svFail_keeps | (intro; intros) | simp only [Keeps.mk_eq])
    | (first | exact Keeps.refl _ | split))

theorem execCheckpointDone_keeps (t : Time) (ok : Bool) (s : State) : ∃ s', execCheckpointDone t ok s = .next s' ∧ Keeps s s' := by
  refine ⟨_, rfl, ?_⟩
  repeat' (first
    | (first | with_reducible assumption | dsimp only | with_reducible apply Keeps.ite)
    | (first | with_reducible apply State.at_keeps | with_reducible apply State.ckptDone_keeps)
    | (first | with_reducible apply State.attestEntries_keeps | with_reducible apply State.checkpointDue_keeps)
    | (first | with_reducible apply State.when_keeps | (intro; intros) | simp only [Keeps.mk_eq])
    | (first | exact Keeps.refl _ | split))

theorem execTumblerCompare_keeps (t : Time) (s : State) : ∃ s', execTumblerCompare t s = .next s' ∧ Keeps s s' := by
  refine ⟨_, rfl, ?_⟩
  repeat' (first
    | (first | with_reducible assumption | dsimp only | with_reducible apply Keeps.ite)
    | (first | with_reducible apply State.at_keeps | with_reducible apply State.when_keeps | (intro; intros))
    | (first | simp only [Keeps.mk_eq] | exact Keeps.refl _ | split))

theorem execTumblerToleranceExpiry_keeps (t : Time) (s : State) : ∃ s', execTumblerToleranceExpiry t s = .next s' ∧ Keeps s s' := by
  refine ⟨_, rfl, ?_⟩
  repeat' (first
    | (first | with_reducible assumption | dsimp only | with_reducible apply Keeps.ite)
    | (first | with_reducible apply State.at_keeps | with_reducible apply State.mismatch_keeps)
    | (first | with_reducible apply State.when_keeps | with_reducible apply State.each_keeps | (intro; intros))
    | (first | simp only [Keeps.mk_eq] | exact Keeps.refl _ | split))

theorem execTumblerRederiveDone_keeps (t : Time) (s : State) : ∃ s', execTumblerRederiveDone t s = .next s' ∧ Keeps s s' := by
  refine ⟨_, rfl, ?_⟩
  repeat' (first
    | (first | with_reducible assumption | dsimp only | with_reducible apply Keeps.ite)
    | (first | with_reducible apply State.at_keeps | with_reducible apply State.rederive_keeps)
    | (first | with_reducible apply State.mismatch_keeps | with_reducible apply State.onNvSec_keeps)
    | (first | with_reducible apply State.record_keeps | with_reducible apply State.checkpointDue_keeps)
    | (first | with_reducible apply State.when_keeps | with_reducible apply State.each_keeps | (intro; intros))
    | (first | simp only [Keeps.mk_eq] | exact Keeps.refl _ | split))

theorem execVerdictShadowLoad_keeps (t : Time) (sec : Fin 4) (s : State) :
    ∃ s', execVerdictShadowLoad t sec s = .next s' ∧ Keeps s s' := by
  refine ⟨_, rfl, ?_⟩
  have h := State.at_keeps t (Keeps.refl s)
  generalize s.at t = u at h
  dsimp only
  split
  · exact h
  · rename_i w hw
    refine h.words fun o => ⟨fun n => ?_, fun n v hv => ?_⟩
    · by_cases e : n = sec
      · subst e; simpa [updV] using o.2 n w hw
      · simpa [updV, Vector.getElem_set, Fin.val_inj, Ne.symm e, e] using o.1 n
    · by_cases e : n = sec
      · subst e
        simp [updV] at hv
        obtain ⟨-, rfl⟩ := hv
        exact Merged.word_parOk _ _
      · simp [updV, Fin.val_inj, Ne.symm e] at hv
        exact o.2 n v hv

theorem execDeadboltDrop_keeps (t : Time) (n : Fin 4) (input : DropInput) (s : State) : ∃ s', execDeadboltDrop t n input s = .next s' ∧ Keeps s s' := by
  refine ⟨_, rfl, ?_⟩
  repeat' (first
    | (first | with_reducible assumption | dsimp only | with_reducible apply Keeps.ite)
    | (first | with_reducible apply State.at_keeps | with_reducible apply State.dropPermit_keeps)
    | (first | with_reducible apply State.requalify_keeps | (intro; intros) | simp only [Keeps.mk_eq])
    | (first | exact Keeps.refl _ | split))

theorem execDeadboltClear_keeps (t : Time) (w : Word) (s : State) : ∃ s', execDeadboltClear t w s = .next s' ∧ Keeps s s' := by
  refine ⟨_, rfl, ?_⟩
  repeat' (first
    | (first | with_reducible assumption | dsimp only | with_reducible apply Keeps.ite)
    | (first | with_reducible apply State.at_keeps | with_reducible apply State.deadboltClear_keeps)
    | (first | (intro; intros) | simp only [Keeps.mk_eq] | exact Keeps.refl _ | split))

theorem execHaspGateClose_keeps (t : Time) (port : Fin 4) (s : State) : ∃ s', execHaspGateClose t port s = .next s' ∧ Keeps s s' := by
  refine ⟨_, rfl, ?_⟩
  repeat' (first
    | (first | with_reducible assumption | dsimp only | with_reducible apply Keeps.ite)
    | (first | with_reducible apply State.at_keeps | with_reducible apply State.onPort_keeps)
    | (first | with_reducible apply State.when_keeps | (intro; intros) | simp only [Keeps.mk_eq])
    | (first | exact Keeps.refl _ | split))

theorem execEgressFrameEnd_keeps (t : Time) (port : Fin 4) (s : State) : ∃ s', execEgressFrameEnd t port s = .next s' ∧ Keeps s s' := by
  refine ⟨_, rfl, ?_⟩
  repeat' (first
    | (first | with_reducible assumption | dsimp only | with_reducible apply Keeps.ite)
    | (first | with_reducible apply State.at_keeps | with_reducible apply State.frameEnds_keeps | (intro; intros))
    | (first | simp only [Keeps.mk_eq] | exact Keeps.refl _ | split))

theorem execAddressAgeout_keeps (t : Time) (s : State) : ∃ s', execAddressAgeout t s = .next s' ∧ Keeps s s' := by
  refine ⟨_, rfl, ?_⟩
  repeat' (first
    | (first | with_reducible assumption | dsimp only | with_reducible apply Keeps.ite)
    | (first | with_reducible apply State.at_keeps | (intro; intros) | simp only [Keeps.mk_eq])
    | (first | exact Keeps.refl _ | split))

theorem execNodeTableAgeout_keeps (t : Time) (s : State) : ∃ s', execNodeTableAgeout t s = .next s' ∧ Keeps s s' := by
  refine ⟨_, rfl, ?_⟩
  repeat' (first
    | (first | with_reducible assumption | dsimp only | with_reducible apply Keeps.ite)
    | (first | with_reducible apply State.at_keeps | with_reducible apply State.prpForget_keeps | (intro; intros))
    | (first | simp only [Keeps.mk_eq] | exact Keeps.refl _ | split))

theorem execPrpTrailerEnable_keeps (t : Time) (s : State) : ∃ s', execPrpTrailerEnable t s = .next s' ∧ Keeps s s' := by
  refine ⟨_, rfl, ?_⟩
  repeat' (first
    | (first | with_reducible assumption | dsimp only | with_reducible apply Keeps.ite)
    | (first | with_reducible apply State.at_keeps | with_reducible apply State.when_keeps | (intro; intros))
    | (first | simp only [Keeps.mk_eq] | exact Keeps.refl _ | split))

theorem execSupervisionFrame_keeps (t : Time) (s : State) : ∃ s', execSupervisionFrame t s = .next s' ∧ Keeps s s' := by
  refine ⟨_, rfl, ?_⟩
  repeat' (first
    | (first | with_reducible assumption | dsimp only | with_reducible apply Keeps.ite)
    | (first | with_reducible apply State.at_keeps | with_reducible apply State.sendFrame_keeps)
    | (first | with_reducible apply State.when_keeps | (intro; intros) | simp only [Keeps.mk_eq])
    | (first | exact Keeps.refl _ | split))

theorem execLinkUp_keeps (t : Time) (port : Fin 4) (capable requests : Bool) (s : State) : ∃ s', execLinkUp t port capable requests s = .next s' ∧ Keeps s s' := by
  refine ⟨_, rfl, ?_⟩
  repeat' (first
    | (first | with_reducible assumption | dsimp only | with_reducible apply Keeps.ite)
    | (first | with_reducible apply State.at_keeps | with_reducible apply State.record_keeps)
    | (first | with_reducible apply State.onPort_keeps | with_reducible apply State.signalOn_keeps)
    | (first | with_reducible apply State.when_keeps | (intro; intros) | simp only [Keeps.mk_eq])
    | (first | exact Keeps.refl _ | split))

theorem execLinkDown_keeps (t : Time) (port : Fin 4) (s : State) : ∃ s', execLinkDown t port s = .next s' ∧ Keeps s s' := by
  refine ⟨_, rfl, ?_⟩
  repeat' (first
    | (first | with_reducible assumption | dsimp only | with_reducible apply Keeps.ite)
    | (first | with_reducible apply State.at_keeps | with_reducible apply State.linkLost_keeps | (intro; intros))
    | (first | simp only [Keeps.mk_eq] | exact Keeps.refl _ | split))

theorem execAnnounce_keeps (t : Time) (port : Fin 4) (a : AnnounceInfo) (s : State) : ∃ s', execAnnounce t port a s = .next s' ∧ Keeps s s' := by
  refine ⟨_, rfl, ?_⟩
  repeat' (first
    | (first | with_reducible assumption | dsimp only | with_reducible apply Keeps.ite)
    | (first | with_reducible apply State.at_keeps | with_reducible apply State.onPort_keeps)
    | (first | with_reducible apply State.bestMaster_keeps | with_reducible apply State.when_keeps)
    | (first | (intro; intros) | simp only [Keeps.mk_eq] | exact Keeps.refl _ | split))

theorem execPdelayReq_keeps (t : Time) (port : Fin 4) (delay : Option Nat) (s : State) : ∃ s', execPdelayReq t port delay s = .next s' ∧ Keeps s s' := by
  refine ⟨_, rfl, ?_⟩
  repeat' (first
    | (first | with_reducible assumption | dsimp only | with_reducible apply Keeps.ite)
    | (first | with_reducible apply State.at_keeps | with_reducible apply State.sendTime_keeps)
    | (first | with_reducible apply State.onPort_keeps | with_reducible apply State.bestMaster_keeps)
    | (first | with_reducible apply State.when_keeps | (intro; intros) | simp only [Keeps.mk_eq])
    | (first | exact Keeps.refl _ | split))

theorem execSync_keeps (t : Time) (port : Fin 4) (gmTime : Time) (s : State) : ∃ s', execSync t port gmTime s = .next s' ∧ Keeps s s' := by
  refine ⟨_, rfl, ?_⟩
  repeat' (first
    | (first | with_reducible assumption | dsimp only | with_reducible apply Keeps.ite)
    | (first | with_reducible apply State.at_keeps | with_reducible apply State.takeSync_keeps)
    | (first | with_reducible apply State.relaySync_keeps | with_reducible apply State.when_keeps)
    | (first | (intro; intros) | simp only [Keeps.mk_eq] | exact Keeps.refl _ | split))

theorem execSyncTimeout_keeps (t : Time) (s : State) : ∃ s', execSyncTimeout t s = .next s' ∧ Keeps s s' := by
  refine ⟨_, rfl, ?_⟩
  repeat' (first
    | (first | with_reducible assumption | dsimp only | with_reducible apply Keeps.ite)
    | (first | with_reducible apply State.at_keeps | with_reducible apply State.enterHoldover_keeps)
    | (first | with_reducible apply State.when_keeps | (intro; intros) | simp only [Keeps.mk_eq])
    | (first | exact Keeps.refl _ | split))

theorem execHoldoverExpiry_keeps (t : Time) (s : State) : ∃ s', execHoldoverExpiry t s = .next s' ∧ Keeps s s' := by
  refine ⟨_, rfl, ?_⟩
  repeat' (first
    | (first | with_reducible assumption | dsimp only | with_reducible apply Keeps.ite)
    | (first | with_reducible apply State.at_keeps | with_reducible apply State.judgeHoldover_keeps)
    | (first | (intro; intros) | simp only [Keeps.mk_eq] | exact Keeps.refl _ | split))

theorem execSyncPpsEdge_keeps (t : Time) (s : State) : ∃ s', execSyncPpsEdge t s = .next s' ∧ Keeps s s' := by
  refine ⟨_, rfl, ?_⟩
  repeat' (first
    | (first | with_reducible assumption | dsimp only | with_reducible apply Keeps.ite)
    | (first | with_reducible apply State.at_keeps | with_reducible apply State.eventStamp_keeps)
    | (first | with_reducible apply State.ppsLocked_keeps | with_reducible apply State.when_keeps)
    | (first | (intro; intros) | simp only [Keeps.mk_eq] | exact Keeps.refl _ | split))

theorem execSyncPpsTimeout_keeps (t : Time) (s : State) : ∃ s', execSyncPpsTimeout t s = .next s' ∧ Keeps s s' := by
  refine ⟨_, rfl, ?_⟩
  repeat' (first
    | (first | with_reducible assumption | dsimp only | with_reducible apply Keeps.ite)
    | (first | with_reducible apply State.at_keeps | with_reducible apply State.ppsLocked_keeps)
    | (first | with_reducible apply State.when_keeps | (intro; intros) | simp only [Keeps.mk_eq])
    | (first | exact Keeps.refl _ | split))

theorem execSyncPpsOutput_keeps (t : Time) (s : State) : ∃ s', execSyncPpsOutput t s = .next s' ∧ Keeps s s' := by
  refine ⟨_, rfl, ?_⟩
  repeat' (first
    | (first | with_reducible assumption | dsimp only | with_reducible apply Keeps.ite)
    | (first | with_reducible apply State.at_keeps | with_reducible apply State.when_keeps | (intro; intros))
    | (first | simp only [Keeps.mk_eq] | exact Keeps.refl _ | split))

theorem execSyncPpsPulseEnd_keeps (t : Time) (s : State) : ∃ s', execSyncPpsPulseEnd t s = .next s' ∧ Keeps s s' := by
  refine ⟨_, rfl, ?_⟩
  repeat' (first
    | (first | with_reducible assumption | dsimp only | with_reducible apply Keeps.ite)
    | (first | with_reducible apply State.at_keeps | with_reducible apply State.when_keeps | (intro; intros))
    | (first | simp only [Keeps.mk_eq] | exact Keeps.refl _ | split))

theorem execTbClockLoss_keeps (t : Time) (s : State) : ∃ s', execTbClockLoss t s = .next s' ∧ Keeps s s' := by
  refine ⟨_, rfl, ?_⟩
  repeat' (first
    | (first | with_reducible assumption | dsimp only | with_reducible apply Keeps.ite)
    | (first | with_reducible apply State.at_keeps | with_reducible apply State.timeState_keeps)
    | (first | with_reducible apply State.record_keeps | with_reducible apply State.when_keeps | (intro; intros))
    | (first | simp only [Keeps.mk_eq] | exact Keeps.refl _ | split))

theorem execRecorderEvent_keeps (t : Time) (ev : RecEvent) (s : State) : ∃ s', execRecorderEvent t ev s = .next s' ∧ Keeps s s' := by
  refine ⟨_, rfl, ?_⟩
  repeat' (first
    | (first | with_reducible assumption | dsimp only | with_reducible apply Keeps.ite)
    | (first | with_reducible apply State.at_keeps | with_reducible apply State.recTake_keeps)
    | (first | with_reducible apply State.when_keeps | (intro; intros) | simp only [Keeps.mk_eq])
    | (first | exact Keeps.refl _ | split))

theorem execTokenRefill_keeps (t : Time) (cls : BitVec 8) (s : State) : ∃ s', execTokenRefill t cls s = .next s' ∧ Keeps s s' := by
  refine ⟨_, rfl, ?_⟩
  repeat' (first
    | (first | with_reducible assumption | dsimp only | with_reducible apply Keeps.ite)
    | (first | with_reducible apply State.at_keeps | (intro; intros) | simp only [Keeps.mk_eq])
    | (first | exact Keeps.refl _ | split))

theorem execSuppressionRunEnd_keeps (t : Time) (cls : BitVec 8) (s : State) : ∃ s', execSuppressionRunEnd t cls s = .next s' ∧ Keeps s s' := by
  refine ⟨_, rfl, ?_⟩
  repeat' (first
    | (first | with_reducible assumption | dsimp only | with_reducible apply Keeps.ite)
    | (first | with_reducible apply State.at_keeps | with_reducible apply State.recNext_keeps)
    | (first | with_reducible apply State.when_keeps | (intro; intros) | simp only [Keeps.mk_eq])
    | (first | exact Keeps.refl _ | split))

theorem execRecordWritten_keeps (t : Time) (rowFails : Nat) (row : BitVec 16) (s : State) : ∃ s', execRecordWritten t rowFails row s = .next s' ∧ Keeps s s' := by
  refine ⟨_, rfl, ?_⟩
  repeat' (first
    | (first | with_reducible assumption | dsimp only | with_reducible apply Keeps.ite)
    | (first | with_reducible apply State.at_keeps | with_reducible apply State.recWrite_keeps)
    | (first | with_reducible apply State.recClear_keeps | with_reducible apply State.recNext_keeps)
    | (first | (intro; intros) | simp only [Keeps.mk_eq] | exact Keeps.refl _ | split))

theorem execHaspSend_keeps (t : Time) (k : Fin 8) (s : State) : ∃ s', execHaspSend t k s = .next s' ∧ Keeps s s' := by
  refine ⟨_, rfl, ?_⟩
  repeat' (first
    | (first | with_reducible assumption | dsimp only | with_reducible apply Keeps.ite)
    | (first | with_reducible apply State.at_keeps | with_reducible apply State.requestsTake_keeps)
    | (first | with_reducible apply State.openGates_keeps | with_reducible apply State.onHaspConn_keeps)
    | (first | with_reducible apply State.sendAssembled_keeps | with_reducible apply State.cvuDone_keeps)
    | (first | with_reducible apply State.serveQueues_keeps | with_reducible apply State.when_keeps)
    | (first | (intro; intros) | simp only [Keeps.mk_eq] | exact Keeps.refl _ | split))

theorem execHaspReceive_keeps (t : Time) (port : Fin 4) (f : Frame) (s : State) : ∃ s', execHaspReceive t port f s = .next s' ∧ Keeps s s' := by
  refine ⟨_, rfl, ?_⟩
  repeat' (first
    | (first | with_reducible assumption | dsimp only | with_reducible apply Keeps.ite)
    | (first | with_reducible apply State.at_keeps | with_reducible apply State.haspFrame_keeps | (intro; intros))
    | (first | simp only [Keeps.mk_eq] | exact Keeps.refl _ | split))

theorem execConnectionTimeout_keeps (t : Time) (k : Fin 8) (s : State) : ∃ s', execConnectionTimeout t k s = .next s' ∧ Keeps s s' := by
  refine ⟨_, rfl, ?_⟩
  repeat' (first
    | (first | with_reducible assumption | dsimp only | with_reducible apply Keeps.ite)
    | (first | with_reducible apply State.at_keeps | with_reducible apply State.connOut_keeps)
    | (first | with_reducible apply State.when_keeps | (intro; intros) | simp only [Keeps.mk_eq])
    | (first | exact Keeps.refl _ | split))

theorem execLaneTimeout_keeps (t : Time) (k : Fin 8) (lane : Fin 2) (s : State) : ∃ s', execLaneTimeout t k lane s = .next s' ∧ Keeps s s' := by
  refine ⟨_, rfl, ?_⟩
  repeat' (first
    | (first | with_reducible assumption | dsimp only | with_reducible apply Keeps.ite)
    | (first | with_reducible apply State.at_keeps | with_reducible apply State.laneLost_keeps)
    | (first | with_reducible apply State.when_keeps | (intro; intros) | simp only [Keeps.mk_eq])
    | (first | exact Keeps.refl _ | split))

theorem execMirrorGapTimeout_keeps (t : Time) (k : Fin 8) (s : State) : ∃ s', execMirrorGapTimeout t k s = .next s' ∧ Keeps s s' := by
  refine ⟨_, rfl, ?_⟩
  repeat' (first
    | (first | with_reducible assumption | dsimp only | with_reducible apply Keeps.ite)
    | (first | with_reducible apply State.at_keeps | with_reducible apply State.crossCheck_keeps)
    | (first | with_reducible apply State.onSv_keeps | with_reducible apply State.when_keeps)
    | (first | with_reducible apply State.each_keeps | (intro; intros) | simp only [Keeps.mk_eq])
    | (first | exact Keeps.refl _ | split))

theorem execHibernateHaspSend_keeps (t : Time) (k : Fin 8) (s : State) : ∃ s', execHibernateHaspSend t k s = .next s' ∧ Keeps s s' := by
  refine ⟨_, rfl, ?_⟩
  repeat' (first
    | (first | with_reducible assumption | dsimp only | with_reducible apply Keeps.ite)
    | (first | with_reducible apply State.at_keeps | with_reducible apply State.openGates_keeps)
    | (first | with_reducible apply State.onHaspConn_keeps | with_reducible apply State.sendAssembled_keeps)
    | (first | with_reducible apply State.cvuDone_keeps | with_reducible apply State.serveQueues_keeps)
    | (first | with_reducible apply State.when_keeps | (intro; intros) | simp only [Keeps.mk_eq])
    | (first | exact Keeps.refl _ | split))

theorem execRemovalWarning_keeps (t : Time) (s : State) : ∃ s', execRemovalWarning t s = .next s' ∧ Keeps s s' := by
  refine ⟨_, rfl, ?_⟩
  repeat' (first
    | (first | with_reducible assumption | dsimp only | with_reducible apply Keeps.ite)
    | (first | with_reducible apply State.at_keeps | with_reducible apply State.removal_keeps)
    | (first | with_reducible apply State.powerBad_keeps | (intro; intros) | simp only [Keeps.mk_eq])
    | (first | exact Keeps.refl _ | split))

theorem execSupplyLoss_keeps (t : Time) (s : State) : ∃ s', execSupplyLoss t s = .next s' ∧ Keeps s s' := by
  refine ⟨_, rfl, ?_⟩
  repeat' (first
    | (first | with_reducible assumption | dsimp only | with_reducible apply Keeps.ite)
    | (first | with_reducible apply State.at_keeps | with_reducible apply State.removal_keeps)
    | (first | with_reducible apply State.powerBad_keeps | (intro; intros) | simp only [Keeps.mk_eq])
    | (first | exact Keeps.refl _ | split))

theorem execSkrstReq_keeps (t : Time) (s : State) : ∃ s', execSkrstReq t s = .next s' ∧ Keeps s s' := by
  refine ⟨_, rfl, ?_⟩
  repeat' (first
    | (first | with_reducible assumption | dsimp only | with_reducible apply Keeps.ite)
    | (first | with_reducible apply State.at_keeps | with_reducible apply State.softReset_keeps | (intro; intros))
    | (first | simp only [Keeps.mk_eq] | exact Keeps.refl _ | split))

theorem execImmediateReset_keeps (t : Time) (s : State) : ∃ s', execImmediateReset t s = .next s' ∧ Keeps s s' := by
  refine ⟨_, rfl, ?_⟩
  repeat' (first
    | (first | with_reducible assumption | dsimp only | with_reducible apply Keeps.ite)
    | (first | with_reducible apply State.at_keeps | with_reducible apply State.cutCkpt_keeps)
    | (first | with_reducible apply State.journalStop_keeps | with_reducible apply State.afterReset_keeps)
    | (first | (intro; intros) | simp only [Keeps.mk_eq] | exact Keeps.refl _ | split))

theorem execRailOutOfRange_keeps (t : Time) (rail : Rail) (s : State) : ∃ s', execRailOutOfRange t rail s = .next s' ∧ Keeps s s' := by
  refine ⟨_, rfl, ?_⟩
  repeat' (first
    | (first | with_reducible assumption | dsimp only | with_reducible apply Keeps.ite)
    | (first | with_reducible apply State.at_keeps | with_reducible apply State.cutCkpt_keeps)
    | (first | with_reducible apply State.journalStop_keeps | with_reducible apply State.afterReset_keeps)
    | (first | with_reducible apply State.when_keeps | (intro; intros) | simp only [Keeps.mk_eq])
    | (first | exact Keeps.refl _ | split))

theorem execOpsecSave_keeps (t : Time) (s : State) : ∃ s', execOpsecSave t s = .next s' ∧ Keeps s s' := by
  refine ⟨_, rfl, ?_⟩
  repeat' (first
    | (first | with_reducible assumption | dsimp only | with_reducible apply Keeps.ite)
    | (first | with_reducible apply State.at_keeps | with_reducible apply State.saveOpsec_keeps)
    | (first | with_reducible apply State.when_keeps | (intro; intros) | simp only [Keeps.mk_eq])
    | (first | exact Keeps.refl _ | split))

theorem execContactBounce_keeps (t : Time) (s : State) : ∃ s', execContactBounce t s = .next s' ∧ Keeps s s' := by
  refine ⟨_, rfl, ?_⟩
  repeat' (first
    | (first | with_reducible assumption | dsimp only | with_reducible apply Keeps.ite)
    | (first | with_reducible apply State.at_keeps | with_reducible apply State.record_keeps)
    | (first | with_reducible apply State.when_keeps | (intro; intros) | simp only [Keeps.mk_eq])
    | (first | exact Keeps.refl _ | split))

theorem execDeferredSetApply_keeps (t : Time) (s : State) : ∃ s', execDeferredSetApply t s = .next s' ∧ Keeps s s' := by
  refine ⟨_, rfl, ?_⟩
  repeat' (first
    | (first | with_reducible assumption | dsimp only | with_reducible apply Keeps.ite)
    | (first | with_reducible apply State.at_keeps | with_reducible apply State.evalBoth_keeps)
    | (first | with_reducible apply State.applySets_keeps | with_reducible apply State.when_keeps)
    | (first | (intro; intros) | simp only [Keeps.mk_eq] | exact Keeps.refl _ | split))

theorem execPitchTime_keeps (t : Time) (s : State) : ∃ s', execPitchTime t s = .next s' ∧ Keeps s s' := by
  refine ⟨_, rfl, ?_⟩
  repeat' (first
    | (first | with_reducible assumption | dsimp only | with_reducible apply Keeps.ite)
    | (first | with_reducible apply State.at_keeps | with_reducible apply State.evalFronts_keeps)
    | (first | with_reducible apply State.applySets_keeps | with_reducible apply State.applyPitch_keeps)
    | (first | with_reducible apply State.pitchDone_keeps | with_reducible apply State.evalBacks_keeps)
    | (first | with_reducible apply State.wakeEvent_keeps | with_reducible apply State.when_keeps)
    | (first | (intro; intros) | simp only [Keeps.mk_eq] | exact Keeps.refl _ | split))

theorem execSdpOpen_keeps (t : Time) (src : SdpSrc) (s : State) : ∃ s', execSdpOpen t src s = .next s' ∧ Keeps s s' := by
  refine ⟨_, rfl, ?_⟩
  repeat' (first
    | (first | with_reducible assumption | dsimp only | with_reducible apply Keeps.ite)
    | (first | with_reducible apply State.at_keeps | with_reducible apply State.serveIf_keeps | (intro; intros))
    | (first | simp only [Keeps.mk_eq] | exact Keeps.refl _ | split))

theorem execSdpClose_keeps (t : Time) (src : SdpSrc) (s : State) : ∃ s', execSdpClose t src s = .next s' ∧ Keeps s s' := by
  refine ⟨_, rfl, ?_⟩
  repeat' (first
    | (first | with_reducible assumption | dsimp only | with_reducible apply Keeps.ite)
    | (first | with_reducible apply State.at_keeps | with_reducible apply State.serveIf_keeps | (intro; intros))
    | (first | simp only [Keeps.mk_eq] | exact Keeps.refl _ | split))

theorem execSdpRead_keeps (t : Time) (src : SdpSrc) (s : State) : ∃ s', execSdpRead t src s = .next s' ∧ Keeps s s' := by
  refine ⟨_, rfl, ?_⟩
  repeat' (first
    | (first | with_reducible assumption | dsimp only | with_reducible apply Keeps.ite)
    | (first | with_reducible apply State.at_keeps | with_reducible apply State.serveIf_keeps | (intro; intros))
    | (first | simp only [Keeps.mk_eq] | exact Keeps.refl _ | split))

theorem execSdpWrite_keeps (t : Time) (src : SdpSrc) (s : State) : ∃ s', execSdpWrite t src s = .next s' ∧ Keeps s s' := by
  refine ⟨_, rfl, ?_⟩
  repeat' (first
    | (first | with_reducible assumption | dsimp only | with_reducible apply Keeps.ite)
    | (first | with_reducible apply State.at_keeps | with_reducible apply State.serveIf_keeps | (intro; intros))
    | (first | simp only [Keeps.mk_eq] | exact Keeps.refl _ | split))

theorem execReadInit_keeps (t : Time) (src : SdpSrc) (s : State) : ∃ s', execReadInit t src s = .next s' ∧ Keeps s s' := by
  refine ⟨_, rfl, ?_⟩
  repeat' (first
    | (first | with_reducible assumption | dsimp only | with_reducible apply Keeps.ite)
    | (first | with_reducible apply State.at_keeps | with_reducible apply State.serveIf_keeps | (intro; intros))
    | (first | simp only [Keeps.mk_eq] | exact Keeps.refl _ | split))

theorem execReadSeg_keeps (t : Time) (src : SdpSrc) (s : State) : ∃ s', execReadSeg t src s = .next s' ∧ Keeps s s' := by
  refine ⟨_, rfl, ?_⟩
  repeat' (first
    | (first | with_reducible assumption | dsimp only | with_reducible apply Keeps.ite)
    | (first | with_reducible apply State.at_keeps | with_reducible apply State.serveIf_keeps | (intro; intros))
    | (first | simp only [Keeps.mk_eq] | exact Keeps.refl _ | split))

theorem execWriteInit_keeps (t : Time) (src : SdpSrc) (s : State) : ∃ s', execWriteInit t src s = .next s' ∧ Keeps s s' := by
  refine ⟨_, rfl, ?_⟩
  repeat' (first
    | (first | with_reducible assumption | dsimp only | with_reducible apply Keeps.ite)
    | (first | with_reducible apply State.at_keeps | with_reducible apply State.serveIf_keeps | (intro; intros))
    | (first | simp only [Keeps.mk_eq] | exact Keeps.refl _ | split))

theorem execWriteSeg_keeps (t : Time) (src : SdpSrc) (s : State) : ∃ s', execWriteSeg t src s = .next s' ∧ Keeps s s' := by
  refine ⟨_, rfl, ?_⟩
  repeat' (first
    | (first | with_reducible assumption | dsimp only | with_reducible apply Keeps.ite)
    | (first | with_reducible apply State.at_keeps | with_reducible apply State.serveIf_keeps | (intro; intros))
    | (first | simp only [Keeps.mk_eq] | exact Keeps.refl _ | split))

theorem execXferAbort_keeps (t : Time) (src : SdpSrc) (s : State) : ∃ s', execXferAbort t src s = .next s' ∧ Keeps s s' := by
  refine ⟨_, rfl, ?_⟩
  repeat' (first
    | (first | with_reducible assumption | dsimp only | with_reducible apply Keeps.ite)
    | (first | with_reducible apply State.at_keeps | with_reducible apply State.serveIf_keeps | (intro; intros))
    | (first | simp only [Keeps.mk_eq] | exact Keeps.refl _ | split))

theorem execTxnBegin_keeps (t : Time) (src : SdpSrc) (s : State) : ∃ s', execTxnBegin t src s = .next s' ∧ Keeps s s' := by
  refine ⟨_, rfl, ?_⟩
  repeat' (first
    | (first | with_reducible assumption | dsimp only | with_reducible apply Keeps.ite)
    | (first | with_reducible apply State.at_keeps | with_reducible apply State.serveIf_keeps | (intro; intros))
    | (first | simp only [Keeps.mk_eq] | exact Keeps.refl _ | split))

theorem execTxnEnd_keeps (t : Time) (src : SdpSrc) (w : StoreRun) (s : State) : ∃ s', execTxnEnd t src w s = .next s' ∧ Keeps s s' := by
  refine ⟨_, rfl, ?_⟩
  repeat' (first
    | (first | with_reducible assumption | dsimp only | with_reducible apply Keeps.ite)
    | (first | with_reducible apply State.at_keeps | with_reducible apply State.serveIf_keeps | (intro; intros))
    | (first | simp only [Keeps.mk_eq] | exact Keeps.refl _ | split))

theorem execTxnDiscard_keeps (t : Time) (src : SdpSrc) (s : State) : ∃ s', execTxnDiscard t src s = .next s' ∧ Keeps s s' := by
  refine ⟨_, rfl, ?_⟩
  repeat' (first
    | (first | with_reducible assumption | dsimp only | with_reducible apply Keeps.ite)
    | (first | with_reducible apply State.at_keeps | with_reducible apply State.serveIf_keeps | (intro; intros))
    | (first | simp only [Keeps.mk_eq] | exact Keeps.refl _ | split))

theorem execUnknownOp_keeps (t : Time) (src : SdpSrc) (s : State) : ∃ s', execUnknownOp t src s = .next s' ∧ Keeps s s' := by
  refine ⟨_, rfl, ?_⟩
  repeat' (first
    | (first | with_reducible assumption | dsimp only | with_reducible apply Keeps.ite)
    | (first | with_reducible apply State.at_keeps | with_reducible apply State.serveIf_keeps | (intro; intros))
    | (first | simp only [Keeps.mk_eq] | exact Keeps.refl _ | split))

theorem execChallenge_keeps (t : Time) (src : SdpSrc) (s : State) : ∃ s', execChallenge t src s = .next s' ∧ Keeps s s' := by
  refine ⟨_, rfl, ?_⟩
  repeat' (first
    | (first | with_reducible assumption | dsimp only | with_reducible apply Keeps.ite)
    | (first | with_reducible apply State.at_keeps | with_reducible apply State.serveIf_keeps | (intro; intros))
    | (first | simp only [Keeps.mk_eq] | exact Keeps.refl _ | split))

theorem execResponse_keeps (t : Time) (src : SdpSrc) (s : State) : ∃ s', execResponse t src s = .next s' ∧ Keeps s s' := by
  refine ⟨_, rfl, ?_⟩
  repeat' (first
    | (first | with_reducible assumption | dsimp only | with_reducible apply Keeps.ite)
    | (first | with_reducible apply State.at_keeps | with_reducible apply State.serveIf_keeps | (intro; intros))
    | (first | simp only [Keeps.mk_eq] | exact Keeps.refl _ | split))

theorem execSessionLevel_keeps (t : Time) (src : SdpSrc) (s : State) : ∃ s', execSessionLevel t src s = .next s' ∧ Keeps s s' := by
  refine ⟨_, rfl, ?_⟩
  repeat' (first
    | (first | with_reducible assumption | dsimp only | with_reducible apply Keeps.ite)
    | (first | with_reducible apply State.at_keeps | with_reducible apply State.serveIf_keeps | (intro; intros))
    | (first | simp only [Keeps.mk_eq] | exact Keeps.refl _ | split))

theorem execPendingCommit_keeps (t : Time) (src : SdpSrc) (s : State) : ∃ s', execPendingCommit t src s = .next s' ∧ Keeps s s' := by
  refine ⟨_, rfl, ?_⟩
  repeat' (first
    | (first | with_reducible assumption | dsimp only | with_reducible apply Keeps.ite)
    | (first | with_reducible apply State.at_keeps | with_reducible apply State.serveIf_keeps | (intro; intros))
    | (first | simp only [Keeps.mk_eq] | exact Keeps.refl _ | split))

theorem execPendingDiscard_keeps (t : Time) (src : SdpSrc) (s : State) : ∃ s', execPendingDiscard t src s = .next s' ∧ Keeps s s' := by
  refine ⟨_, rfl, ?_⟩
  repeat' (first
    | (first | with_reducible assumption | dsimp only | with_reducible apply Keeps.ite)
    | (first | with_reducible apply State.at_keeps | with_reducible apply State.serveIf_keeps | (intro; intros))
    | (first | simp only [Keeps.mk_eq] | exact Keeps.refl _ | split))

theorem execWaitingCancel_keeps (t : Time) (src : SdpSrc) (s : State) : ∃ s', execWaitingCancel t src s = .next s' ∧ Keeps s s' := by
  refine ⟨_, rfl, ?_⟩
  repeat' (first
    | (first | with_reducible assumption | dsimp only | with_reducible apply Keeps.ite)
    | (first | with_reducible apply State.at_keeps | with_reducible apply State.serveIf_keeps | (intro; intros))
    | (first | simp only [Keeps.mk_eq] | exact Keeps.refl _ | split))

theorem execRollback_keeps (t : Time) (src : SdpSrc) (w : StoreRun) (s : State) : ∃ s', execRollback t src w s = .next s' ∧ Keeps s s' := by
  refine ⟨_, rfl, ?_⟩
  repeat' (first
    | (first | with_reducible assumption | dsimp only | with_reducible apply Keeps.ite)
    | (first | with_reducible apply State.at_keeps | with_reducible apply State.serveIf_keeps | (intro; intros))
    | (first | simp only [Keeps.mk_eq] | exact Keeps.refl _ | split))

theorem execRerun_keeps (t : Time) (src : SdpSrc) (w : StoreRun) (s : State) : ∃ s', execRerun t src w s = .next s' ∧ Keeps s s' := by
  refine ⟨_, rfl, ?_⟩
  repeat' (first
    | (first | with_reducible assumption | dsimp only | with_reducible apply Keeps.ite)
    | (first | with_reducible apply State.at_keeps | with_reducible apply State.serveIf_keeps | (intro; intros))
    | (first | simp only [Keeps.mk_eq] | exact Keeps.refl _ | split))

theorem execRecAdvance_keeps (t : Time) (src : SdpSrc) (s : State) : ∃ s', execRecAdvance t src s = .next s' ∧ Keeps s s' := by
  refine ⟨_, rfl, ?_⟩
  repeat' (first
    | (first | with_reducible assumption | dsimp only | with_reducible apply Keeps.ite)
    | (first | with_reducible apply State.at_keeps | with_reducible apply State.serveIf_keeps | (intro; intros))
    | (first | simp only [Keeps.mk_eq] | exact Keeps.refl _ | split))

theorem execNoEntryRelease_keeps (t : Time) (src : SdpSrc) (s : State) : ∃ s', execNoEntryRelease t src s = .next s' ∧ Keeps s s' := by
  refine ⟨_, rfl, ?_⟩
  repeat' (first
    | (first | with_reducible assumption | dsimp only | with_reducible apply Keeps.ite)
    | (first | with_reducible apply State.at_keeps | with_reducible apply State.serveIf_keeps | (intro; intros))
    | (first | simp only [Keeps.mk_eq] | exact Keeps.refl _ | split))

theorem execScanNow_keeps (t : Time) (src : SdpSrc) (s : State) : ∃ s', execScanNow t src s = .next s' ∧ Keeps s s' := by
  refine ⟨_, rfl, ?_⟩
  repeat' (first
    | (first | with_reducible assumption | dsimp only | with_reducible apply Keeps.ite)
    | (first | with_reducible apply State.at_keeps | with_reducible apply State.serveIf_keeps | (intro; intros))
    | (first | simp only [Keeps.mk_eq] | exact Keeps.refl _ | split))

theorem execProofNow_keeps (t : Time) (src : SdpSrc) (s : State) : ∃ s', execProofNow t src s = .next s' ∧ Keeps s s' := by
  refine ⟨_, rfl, ?_⟩
  repeat' (first
    | (first | with_reducible assumption | dsimp only | with_reducible apply Keeps.ite)
    | (first | with_reducible apply State.at_keeps | with_reducible apply State.serveIf_keeps | (intro; intros))
    | (first | simp only [Keeps.mk_eq] | exact Keeps.refl _ | split))

theorem execReleaseOverride_keeps (t : Time) (src : SdpSrc) (s : State) : ∃ s', execReleaseOverride t src s = .next s' ∧ Keeps s s' := by
  refine ⟨_, rfl, ?_⟩
  repeat' (first
    | (first | with_reducible assumption | dsimp only | with_reducible apply Keeps.ite)
    | (first | with_reducible apply State.at_keeps | with_reducible apply State.serveIf_keeps | (intro; intros))
    | (first | simp only [Keeps.mk_eq] | exact Keeps.refl _ | split))

theorem execPitchCommit_keeps (t : Time) (src : SdpSrc) (s : State) : ∃ s', execPitchCommit t src s = .next s' ∧ Keeps s s' := by
  refine ⟨_, rfl, ?_⟩
  repeat' (first
    | (first | with_reducible assumption | dsimp only | with_reducible apply Keeps.ite)
    | (first | with_reducible apply State.at_keeps | with_reducible apply State.serveIf_keeps | (intro; intros))
    | (first | simp only [Keeps.mk_eq] | exact Keeps.refl _ | split))

theorem execStrike_keeps (t : Time) (src : SdpSrc) (s : State) : ∃ s', execStrike t src s = .next s' ∧ Keeps s s' := by
  refine ⟨_, rfl, ?_⟩
  repeat' (first
    | (first | with_reducible assumption | dsimp only | with_reducible apply Keeps.ite)
    | (first | with_reducible apply State.at_keeps | with_reducible apply State.serveIf_keeps | (intro; intros))
    | (first | simp only [Keeps.mk_eq] | exact Keeps.refl _ | split))

theorem execSweepRequest_keeps (t : Time) (src : SdpSrc) (s : State) : ∃ s', execSweepRequest t src s = .next s' ∧ Keeps s s' := by
  refine ⟨_, rfl, ?_⟩
  repeat' (first
    | (first | with_reducible assumption | dsimp only | with_reducible apply Keeps.ite)
    | (first | with_reducible apply State.at_keeps | with_reducible apply State.serveIf_keeps | (intro; intros))
    | (first | simp only [Keeps.mk_eq] | exact Keeps.refl _ | split))

theorem execDirectClear_keeps (t : Time) (src : SdpSrc) (s : State) : ∃ s', execDirectClear t src s = .next s' ∧ Keeps s s' := by
  refine ⟨_, rfl, ?_⟩
  repeat' (first
    | (first | with_reducible assumption | dsimp only | with_reducible apply Keeps.ite)
    | (first | with_reducible apply State.at_keeps | with_reducible apply State.serveIf_keeps | (intro; intros))
    | (first | simp only [Keeps.mk_eq] | exact Keeps.refl _ | split))

theorem execRereference_keeps (t : Time) (src : SdpSrc) (s : State) : ∃ s', execRereference t src s = .next s' ∧ Keeps s s' := by
  refine ⟨_, rfl, ?_⟩
  repeat' (first
    | (first | with_reducible assumption | dsimp only | with_reducible apply Keeps.ite)
    | (first | with_reducible apply State.at_keeps | with_reducible apply State.serveIf_keeps | (intro; intros))
    | (first | simp only [Keeps.mk_eq] | exact Keeps.refl _ | split))

theorem execBemfRelease_keeps (t : Time) (src : SdpSrc) (s : State) : ∃ s', execBemfRelease t src s = .next s' ∧ Keeps s s' := by
  refine ⟨_, rfl, ?_⟩
  repeat' (first
    | (first | with_reducible assumption | dsimp only | with_reducible apply Keeps.ite)
    | (first | with_reducible apply State.at_keeps | with_reducible apply State.serveIf_keeps | (intro; intros))
    | (first | simp only [Keeps.mk_eq] | exact Keeps.refl _ | split))

theorem execKeySlotLoad_keeps (t : Time) (src : SdpSrc) (s : State) : ∃ s', execKeySlotLoad t src s = .next s' ∧ Keeps s s' := by
  refine ⟨_, rfl, ?_⟩
  repeat' (first
    | (first | with_reducible assumption | dsimp only | with_reducible apply Keeps.ite)
    | (first | with_reducible apply State.at_keeps | with_reducible apply State.serveIf_keeps | (intro; intros))
    | (first | simp only [Keeps.mk_eq] | exact Keeps.refl _ | split))

theorem execValidationTimeout_keeps (t : Time) (s : State) : ∃ s', execValidationTimeout t s = .next s' ∧ Keeps s s' := by
  refine ⟨_, rfl, ?_⟩
  repeat' (first
    | (first | with_reducible assumption | dsimp only | with_reducible apply Keeps.ite)
    | (first | with_reducible apply State.at_keeps | with_reducible apply State.answerKept_keeps)
    | (first | with_reducible apply State.when_keeps | (intro; intros) | simp only [Keeps.mk_eq])
    | (first | exact Keeps.refl _ | split))

theorem execSessionIdleTimeout_keeps (t : Time) (sess : Fin 5) (s : State) : ∃ s', execSessionIdleTimeout t sess s = .next s' ∧ Keeps s s' := by
  refine ⟨_, rfl, ?_⟩
  repeat' (first
    | (first | with_reducible assumption | dsimp only | with_reducible apply Keeps.ite)
    | (first | with_reducible apply State.at_keeps | with_reducible apply State.closeSession_keeps)
    | (first | with_reducible apply State.when_keeps | (intro; intros) | simp only [Keeps.mk_eq])
    | (first | exact Keeps.refl _ | split))

theorem execTransferTimeout_keeps (t : Time) (sess : Fin 5) (s : State) : ∃ s', execTransferTimeout t sess s = .next s' ∧ Keeps s s' := by
  refine ⟨_, rfl, ?_⟩
  repeat' (first
    | (first | with_reducible assumption | dsimp only | with_reducible apply Keeps.ite)
    | (first | with_reducible apply State.at_keeps | with_reducible apply State.xferGone_keeps)
    | (first | with_reducible apply State.when_keeps | (intro; intros) | simp only [Keeps.mk_eq])
    | (first | exact Keeps.refl _ | split))

theorem execPendingTimeout_keeps (t : Time) (sess : Fin 5) (s : State) : ∃ s', execPendingTimeout t sess s = .next s' ∧ Keeps s s' := by
  refine ⟨_, rfl, ?_⟩
  repeat' (first
    | (first | with_reducible assumption | dsimp only | with_reducible apply Keeps.ite)
    | (first | with_reducible apply State.at_keeps | with_reducible apply State.onSession_keeps)
    | (first | with_reducible apply State.when_keeps | (intro; intros) | simp only [Keeps.mk_eq])
    | (first | exact Keeps.refl _ | split))

theorem execTxnTimeout_keeps (t : Time) (s : State) : ∃ s', execTxnTimeout t s = .next s' ∧ Keeps s s' := by
  refine ⟨_, rfl, ?_⟩
  repeat' (first
    | (first | with_reducible assumption | dsimp only | with_reducible apply Keeps.ite)
    | (first | with_reducible apply State.at_keeps | with_reducible apply State.when_keeps | (intro; intros))
    | (first | simp only [Keeps.mk_eq] | exact Keeps.refl _ | split))

theorem execRaiseBarExpiry_keeps (t : Time) (sess : Fin 5) (s : State) : ∃ s', execRaiseBarExpiry t sess s = .next s' ∧ Keeps s s' := by
  refine ⟨_, rfl, ?_⟩
  repeat' (first
    | (first | with_reducible assumption | dsimp only | with_reducible apply Keeps.ite)
    | (first | with_reducible apply State.at_keeps | with_reducible apply State.onSession_keeps)
    | (first | with_reducible apply State.when_keeps | (intro; intros) | simp only [Keeps.mk_eq])
    | (first | exact Keeps.refl _ | split))

theorem execConfigWanted_keeps (t : Time) (s : State) : ∃ s', execConfigWanted t s = .next s' ∧ Keeps s s' := by
  refine ⟨_, rfl, ?_⟩
  repeat' (first
    | (first | with_reducible assumption | dsimp only | with_reducible apply Keeps.ite)
    | (first | with_reducible apply State.at_keeps | with_reducible apply State.record_keeps)
    | (first | with_reducible apply State.when_keeps | (intro; intros) | simp only [Keeps.mk_eq])
    | (first | exact Keeps.refl _ | split))

theorem execImageCheckDone_keeps (t : Time) (okA okB : Bool) (version : Word) (s : State) : ∃ s', execImageCheckDone t okA okB version s = .next s' ∧ Keeps s s' := by
  refine ⟨_, rfl, ?_⟩
  repeat' (first
    | (first | with_reducible assumption | dsimp only | with_reducible apply Keeps.ite)
    | (first | with_reducible apply State.at_keeps | with_reducible apply State.when_keeps | (intro; intros))
    | (first | simp only [Keeps.mk_eq] | exact Keeps.refl _ | split))

theorem execDegradedRunEntry_keeps (t : Time) (s : State) : ∃ s', execDegradedRunEntry t s = .next s' ∧ Keeps s s' := by
  refine ⟨_, rfl, ?_⟩
  repeat' (first
    | (first | with_reducible assumption | dsimp only | with_reducible apply Keeps.ite)
    | (first | with_reducible apply State.at_keeps | with_reducible apply State.enterDegraded_keeps)
    | (first | with_reducible apply State.journalDone_keeps | with_reducible apply State.answerKept_keeps)
    | (first | with_reducible apply State.when_keeps | (intro; intros) | simp only [Keeps.mk_eq])
    | (first | exact Keeps.refl _ | split))

theorem execTractionStage_keeps (t : Time) (n : Fin 4) (dclink : Bool) (w : Word) (s : State) : ∃ s', execTractionStage t n dclink w s = .next s' ∧ Keeps s s' := by
  refine ⟨_, rfl, ?_⟩
  repeat' (first
    | (first | with_reducible assumption | dsimp only | with_reducible apply Keeps.ite)
    | (first | with_reducible apply State.at_keeps | with_reducible apply State.onTraction_keeps | (intro; intros))
    | (first | simp only [Keeps.mk_eq] | exact Keeps.refl _ | split))

theorem execTractionCommit_keeps (t : Time) (n : Fin 4) (w : Word) (s : State) : ∃ s', execTractionCommit t n w s = .next s' ∧ Keeps s s' := by
  refine ⟨_, rfl, ?_⟩
  repeat' (first
    | (first | with_reducible assumption | dsimp only | with_reducible apply Keeps.ite)
    | (first | with_reducible apply State.at_keeps | with_reducible apply State.tractionCommit_keeps)
    | (first | (intro; intros) | simp only [Keeps.mk_eq] | exact Keeps.refl _ | split))

theorem execTractionStale_keeps (t : Time) (n : Fin 4) (s : State) : ∃ s', execTractionStale t n s = .next s' ∧ Keeps s s' := by
  refine ⟨_, rfl, ?_⟩
  repeat' (first
    | (first | with_reducible assumption | dsimp only | with_reducible apply Keeps.ite)
    | (first | with_reducible apply State.at_keeps | with_reducible apply State.tractionAged_keeps)
    | (first | with_reducible apply State.when_keeps | (intro; intros) | simp only [Keeps.mk_eq])
    | (first | exact Keeps.refl _ | split))

theorem execSkTimeRead_keeps (t : Time) (s : State) : ∃ s', execSkTimeRead t s = .next s' ∧ Keeps s s' := by
  refine ⟨_, rfl, ?_⟩
  repeat' (first
    | (first | with_reducible assumption | dsimp only | with_reducible apply Keeps.ite)
    | (first | with_reducible apply State.at_keeps | (intro; intros) | simp only [Keeps.mk_eq])
    | (first | exact Keeps.refl _ | split))

theorem execMailboxSend_keeps (t : Time) (s : State) : ∃ s', execMailboxSend t s = .next s' ∧ Keeps s s' := by
  refine ⟨_, rfl, ?_⟩
  repeat' (first
    | (first | with_reducible assumption | dsimp only | with_reducible apply Keeps.ite)
    | (first | with_reducible apply State.at_keeps | with_reducible apply State.mailboxSend_keeps)
    | (first | (intro; intros) | simp only [Keeps.mk_eq] | exact Keeps.refl _ | split))

theorem execMailboxCancel_keeps (t : Time) (s : State) : ∃ s', execMailboxCancel t s = .next s' ∧ Keeps s s' := by
  refine ⟨_, rfl, ?_⟩
  repeat' (first
    | (first | with_reducible assumption | dsimp only | with_reducible apply Keeps.ite)
    | (first | with_reducible apply State.at_keeps | with_reducible apply State.mailboxCancel_keeps)
    | (first | (intro; intros) | simp only [Keeps.mk_eq] | exact Keeps.refl _ | split))

theorem execMailboxResponse_keeps (t : Time) (s : State) : ∃ s', execMailboxResponse t s = .next s' ∧ Keeps s s' := by
  refine ⟨_, rfl, ?_⟩
  repeat' (first
    | (first | with_reducible assumption | dsimp only | with_reducible apply Keeps.ite)
    | (first | with_reducible apply State.at_keeps | with_reducible apply State.onMailbox_keeps)
    | (first | with_reducible apply State.when_keeps | (intro; intros) | simp only [Keeps.mk_eq])
    | (first | exact Keeps.refl _ | split))

theorem execRegisterWrite_keeps (t : Time) (off : BitVec 16) (size : Nat) (w : Word) (s : State) : ∃ s', execRegisterWrite t off size w s = .next s' ∧ Keeps s s' := by
  refine ⟨_, rfl, ?_⟩
  repeat' (first
    | (first | with_reducible assumption | dsimp only | with_reducible apply Keeps.ite)
    | (first | with_reducible apply State.at_keeps | with_reducible apply State.writeWindow_keeps)
    | (first | (intro; intros) | simp only [Keeps.mk_eq] | exact Keeps.refl _ | split))

theorem execFrameReceive_keeps (t : Time) (port : Fin 4) (f : Frame) (s : State) : ∃ s', execFrameReceive t port f s = .next s' ∧ Keeps s s' := by
  refine ⟨_, rfl, ?_⟩
  repeat' (first
    | (first | with_reducible assumption | dsimp only | with_reducible apply Keeps.ite)
    | (first | with_reducible apply State.at_keeps | with_reducible apply State.spoilCut_keeps)
    | (first | with_reducible apply State.learn_keeps | with_reducible apply State.lanCheck_keeps)
    | (first | with_reducible apply State.routeFrame_keeps | with_reducible apply State.when_keeps)
    | (first | (intro; intros) | simp only [Keeps.mk_eq] | exact Keeps.refl _ | split))

theorem execCutThroughStart_keeps (t : Time) (port : Fin 4) (f : Frame) (s : State) : ∃ s', execCutThroughStart t port f s = .next s' ∧ Keeps s s' := by
  refine ⟨_, rfl, ?_⟩
  repeat' (first
    | (first | with_reducible assumption | dsimp only | with_reducible apply Keeps.ite)
    | (first | with_reducible apply State.at_keeps | with_reducible apply State.onPort_keeps)
    | (first | with_reducible apply State.when_keeps | (intro; intros) | simp only [Keeps.mk_eq])
    | (first | exact Keeps.refl _ | split))

theorem execSleepExecute_keeps (t : Time) (s : State) : ∃ s', execSleepExecute t s = .next s' ∧ Keeps s s' := by
  refine ⟨_, rfl, ?_⟩
  repeat' (first
    | (first | with_reducible assumption | dsimp only | with_reducible apply Keeps.ite)
    | (first | with_reducible apply State.at_keeps | with_reducible apply State.enterPower_keeps)
    | (first | with_reducible apply State.sleepAborted_keeps | with_reducible apply State.when_keeps)
    | (first | (intro; intros) | simp only [Keeps.mk_eq] | exact Keeps.refl _ | split))

theorem execWakeTimer_keeps (t : Time) (s : State) : ∃ s', execWakeTimer t s = .next s' ∧ Keeps s s' := by
  refine ⟨_, rfl, ?_⟩
  repeat' (first
    | (first | with_reducible assumption | dsimp only | with_reducible apply Keeps.ite)
    | (first | with_reducible apply State.at_keeps | with_reducible apply State.wakeEvent_keeps)
    | (first | with_reducible apply State.when_keeps | (intro; intros) | simp only [Keeps.mk_eq])
    | (first | exact Keeps.refl _ | split))

theorem execWakeComplete_keeps (t : Time) (rep : WakeReport) (s : State) : ∃ s', execWakeComplete t rep s = .next s' ∧ Keeps s s' := by
  refine ⟨_, rfl, ?_⟩
  repeat' (first
    | (first | with_reducible assumption | dsimp only | with_reducible apply Keeps.ite)
    | (first | with_reducible apply State.at_keeps | with_reducible apply State.wakeEnds_keeps)
    | (first | with_reducible apply State.when_keeps | (intro; intros) | simp only [Keeps.mk_eq])
    | (first | exact Keeps.refl _ | split))

theorem execPowerGood_keeps (t : Time) (s : State) : ∃ s', execPowerGood t s = .next s' ∧ Keeps s s' := by
  refine ⟨_, rfl, ?_⟩
  repeat' (first
    | (first | with_reducible assumption | dsimp only | with_reducible apply Keeps.ite)
    | (first | with_reducible apply State.at_keeps | with_reducible apply State.when_keeps | (intro; intros))
    | (first | simp only [Keeps.mk_eq] | exact Keeps.refl _ | split))

theorem execResetRelease_keeps (t : Time) (slotA slotB : BitVec 12) (s : State) : ∃ s', execResetRelease t slotA slotB s = .next s' ∧ Keeps s s' := by
  refine ⟨_, rfl, ?_⟩
  repeat' (first
    | (first | with_reducible assumption | dsimp only | with_reducible apply Keeps.ite)
    | (first | with_reducible apply State.at_keeps | with_reducible apply State.release_keeps)
    | (first | with_reducible apply State.when_keeps | (intro; intros) | simp only [Keeps.mk_eq])
    | (first | exact Keeps.refl _ | split))

theorem execSupervisorsInService_keeps (t : Time) (rep : BootReport) (s : State) : ∃ s', execSupervisorsInService t rep s = .next s' ∧ Keeps s s' := by
  refine ⟨_, rfl, ?_⟩
  repeat' (first
    | (first | with_reducible assumption | dsimp only | with_reducible apply Keeps.ite)
    | (first | with_reducible apply State.at_keeps | with_reducible apply State.revert_keeps)
    | (first | with_reducible apply State.intoService_keeps | with_reducible apply State.when_keeps)
    | (first | (intro; intros) | simp only [Keeps.mk_eq] | exact Keeps.refl _ | split))

theorem execTrialStartFailure_keeps (t : Time) (s : State) : ∃ s', execTrialStartFailure t s = .next s' ∧ Keeps s s' := by
  refine ⟨_, rfl, ?_⟩
  repeat' (first
    | (first | with_reducible assumption | dsimp only | with_reducible apply Keeps.ite)
    | (first | with_reducible apply State.at_keeps | with_reducible apply State.revert_keeps)
    | (first | with_reducible apply State.when_keeps | (intro; intros) | simp only [Keeps.mk_eq])
    | (first | exact Keeps.refl _ | split))

theorem execFeedDisconnect_keeps (t : Time) (feed : Fin 2) (s : State) : ∃ s', execFeedDisconnect t feed s = .next s' ∧ Keeps s s' := by
  refine ⟨_, rfl, ?_⟩
  repeat' (first
    | (first | with_reducible assumption | dsimp only | with_reducible apply Keeps.ite)
    | (first | with_reducible apply State.at_keeps | with_reducible apply State.feedSet_keeps)
    | (first | with_reducible apply State.feedEvent_keeps | with_reducible apply State.feedsLost_keeps)
    | (first | with_reducible apply State.when_keeps | (intro; intros) | simp only [Keeps.mk_eq])
    | (first | exact Keeps.refl _ | split))

theorem execFeedReconnect_keeps (t : Time) (feed : Fin 2) (s : State) : ∃ s', execFeedReconnect t feed s = .next s' ∧ Keeps s s' := by
  refine ⟨_, rfl, ?_⟩
  repeat' (first
    | (first | with_reducible assumption | dsimp only | with_reducible apply Keeps.ite)
    | (first | with_reducible apply State.at_keeps | with_reducible apply State.feedSet_keeps)
    | (first | with_reducible apply State.feedEvent_keeps | with_reducible apply State.when_keeps)
    | (first | (intro; intros) | simp only [Keeps.mk_eq] | exact Keeps.refl _ | split))

theorem execFeedOutOfRangeWarning_keeps (t : Time) (feed : Fin 2) (s : State) : ∃ s', execFeedOutOfRangeWarning t feed s = .next s' ∧ Keeps s s' := by
  refine ⟨_, rfl, ?_⟩
  repeat' (first
    | (first | with_reducible assumption | dsimp only | with_reducible apply Keeps.ite)
    | (first | with_reducible apply State.at_keeps | with_reducible apply State.feedEvent_keeps)
    | (first | with_reducible apply State.when_keeps | (intro; intros) | simp only [Keeps.mk_eq])
    | (first | exact Keeps.refl _ | split))

theorem execIsolationRequest_keeps (t : Time) (h : Fin 8) (durUs patterns : Nat) (s : State) : ∃ s', execIsolationRequest t h durUs patterns s = .next s' ∧ Keeps s s' := by
  refine ⟨_, rfl, ?_⟩
  repeat' (first
    | (first | with_reducible assumption | dsimp only | with_reducible apply Keeps.ite)
    | (first | with_reducible apply State.at_keeps | with_reducible apply State.isoRequest_keeps)
    | (first | with_reducible apply State.when_keeps | (intro; intros) | simp only [Keeps.mk_eq])
    | (first | exact Keeps.refl _ | split))

theorem execIsolationReady_keeps (t : Time) (s : State) : ∃ s', execIsolationReady t s = .next s' ∧ Keeps s s' := by
  refine ⟨_, rfl, ?_⟩
  repeat' (first
    | (first | with_reducible assumption | dsimp only | with_reducible apply Keeps.ite)
    | (first | with_reducible apply State.at_keeps | with_reducible apply State.chanGiven_keeps)
    | (first | with_reducible apply State.amonRefresh_keeps | with_reducible apply State.when_keeps)
    | (first | (intro; intros) | simp only [Keeps.mk_eq] | exact Keeps.refl _ | split))

theorem execTestDone_keeps (t : Time) (patterns : Nat) (good : Bool) (s : State) : ∃ s', execTestDone t patterns good s = .next s' ∧ Keeps s s' := by
  refine ⟨_, rfl, ?_⟩
  repeat' (first
    | (first | with_reducible assumption | dsimp only | with_reducible apply Keeps.ite)
    | (first | with_reducible apply State.at_keeps | with_reducible apply State.abortUndone_keeps)
    | (first | with_reducible apply State.isoResult_keeps | with_reducible apply State.when_keeps)
    | (first | (intro; intros) | simp only [Keeps.mk_eq] | exact Keeps.refl _ | split))

theorem execTestDoneTimeout_keeps (t : Time) (s : State) : ∃ s', execTestDoneTimeout t s = .next s' ∧ Keeps s s' := by
  refine ⟨_, rfl, ?_⟩
  repeat' (first
    | (first | with_reducible assumption | dsimp only | with_reducible apply Keeps.ite)
    | (first | with_reducible apply State.at_keeps | with_reducible apply State.isoAbort_keeps)
    | (first | with_reducible apply State.when_keeps | (intro; intros) | simp only [Keeps.mk_eq])
    | (first | exact Keeps.refl _ | split))

theorem execIsolationReturnDone_keeps (t : Time) (s : State) : ∃ s', execIsolationReturnDone t s = .next s' ∧ Keeps s s' := by
  refine ⟨_, rfl, ?_⟩
  repeat' (first
    | (first | with_reducible assumption | dsimp only | with_reducible apply Keeps.ite)
    | (first | with_reducible apply State.at_keeps | with_reducible apply State.isoReturn_keeps)
    | (first | with_reducible apply State.when_keeps | (intro; intros) | simp only [Keeps.mk_eq])
    | (first | exact Keeps.refl _ | split))

theorem execMemoryScrub_keeps (t : Time) (v : Fin 2) (rep : ScrubResult) (s : State) : ∃ s', execMemoryScrub t v rep s = .next s' ∧ Keeps s s' := by
  refine ⟨_, rfl, ?_⟩
  repeat' (first
    | (first | with_reducible assumption | dsimp only | with_reducible apply Keeps.ite)
    | (first | with_reducible apply State.at_keeps | with_reducible apply State.svFail_keeps)
    | (first | with_reducible apply State.when_keeps | (intro; intros) | simp only [Keeps.mk_eq])
    | (first | exact Keeps.refl _ | split))

theorem execComparatorTest_keeps (t : Time) (v : Fin 2) (ok : Bool) (s : State) : ∃ s', execComparatorTest t v ok s = .next s' ∧ Keeps s s' := by
  refine ⟨_, rfl, ?_⟩
  repeat' (first
    | (first | with_reducible assumption | dsimp only | with_reducible apply Keeps.ite)
    | (first | with_reducible apply State.at_keeps | with_reducible apply State.svFail_keeps)
    | (first | with_reducible apply State.when_keeps | (intro; intros) | simp only [Keeps.mk_eq])
    | (first | exact Keeps.refl _ | split))

theorem execTumblerTest_keeps (t : Time) (ok : Bool) (s : State) : ∃ s', execTumblerTest t ok s = .next s' ∧ Keeps s s' := by
  refine ⟨_, rfl, ?_⟩
  repeat' (first
    | (first | with_reducible assumption | dsimp only | with_reducible apply Keeps.ite)
    | (first | with_reducible apply State.at_keeps | with_reducible apply State.tumblerFails_keeps)
    | (first | with_reducible apply State.when_keeps | (intro; intros) | simp only [Keeps.mk_eq])
    | (first | exact Keeps.refl _ | split))

theorem execDeadboltPathTest_keeps (t : Time) (n : Fin 4) (ok : Bool) (s : State) : ∃ s', execDeadboltPathTest t n ok s = .next s' ∧ Keeps s s' := by
  refine ⟨_, rfl, ?_⟩
  repeat' (first
    | (first | with_reducible assumption | dsimp only | with_reducible apply Keeps.ite)
    | (first | with_reducible apply State.at_keeps | with_reducible apply State.pathTested_keeps)
    | (first | with_reducible apply State.requalify_keeps | with_reducible apply State.when_keeps)
    | (first | (intro; intros) | simp only [Keeps.mk_eq] | exact Keeps.refl _ | split))

theorem execAuthKnownAnswer_keeps (t : Time) (ok : Bool) (s : State) : ∃ s', execAuthKnownAnswer t ok s = .next s' ∧ Keeps s s' := by
  refine ⟨_, rfl, ?_⟩
  repeat' (first
    | (first | with_reducible assumption | dsimp only | with_reducible apply Keeps.ite)
    | (first | with_reducible apply State.at_keeps | with_reducible apply State.record_keeps)
    | (first | with_reducible apply State.when_keeps | (intro; intros) | simp only [Keeps.mk_eq])
    | (first | exact Keeps.refl _ | split))

theorem execMramRefresh_keeps (t : Time) (mem : RefreshMem) (row : Nat) (ok : Bool) (s : State) : ∃ s', execMramRefresh t mem row ok s = .next s' ∧ Keeps s s' := by
  refine ⟨_, rfl, ?_⟩
  repeat' (first
    | (first | with_reducible assumption | dsimp only | with_reducible apply Keeps.ite)
    | (first | with_reducible apply State.at_keeps | with_reducible apply State.refreshFails_keeps)
    | (first | with_reducible apply State.when_keeps | (intro; intros) | simp only [Keeps.mk_eq])
    | (first | exact Keeps.refl _ | split))

theorem execDeFailure_keeps (t : Time) (d : Fin 2) (s : State) : ∃ s', execDeFailure t d s = .next s' ∧ Keeps s s' := by
  refine ⟨_, rfl, ?_⟩
  repeat' (first
    | (first | with_reducible assumption | dsimp only | with_reducible apply Keeps.ite)
    | (first | with_reducible apply State.at_keeps | with_reducible apply State.deFails_keeps)
    | (first | with_reducible apply State.when_keeps | (intro; intros) | simp only [Keeps.mk_eq])
    | (first | exact Keeps.refl _ | split))

theorem execCrystalLoss_keeps (t : Time) (s : State) : ∃ s', execCrystalLoss t s = .next s' ∧ Keeps s s' := by
  refine ⟨_, rfl, ?_⟩
  repeat' (first
    | (first | with_reducible assumption | dsimp only | with_reducible apply Keeps.ite)
    | (first | with_reducible apply State.at_keeps | with_reducible apply State.record_keeps)
    | (first | with_reducible apply State.when_keeps | (intro; intros) | simp only [Keeps.mk_eq])
    | (first | exact Keeps.refl _ | split))

theorem execRcLoss_keeps (t : Time) (s : State) : ∃ s', execRcLoss t s = .next s' ∧ Keeps s s' := by
  refine ⟨_, rfl, ?_⟩
  repeat' (first
    | (first | with_reducible assumption | dsimp only | with_reducible apply Keeps.ite)
    | (first | with_reducible apply State.at_keeps | with_reducible apply State.record_keeps)
    | (first | with_reducible apply State.when_keeps | (intro; intros) | simp only [Keeps.mk_eq])
    | (first | exact Keeps.refl _ | split))

theorem execStoreEccError_keeps (t : Time) (key : Nat) (s : State) : ∃ s', execStoreEccError t key s = .next s' ∧ Keeps s s' := by
  refine ⟨_, rfl, ?_⟩
  repeat' (first
    | (first | with_reducible assumption | dsimp only | with_reducible apply Keeps.ite)
    | (first | with_reducible apply State.at_keeps | with_reducible apply State.badEntry_keeps)
    | (first | with_reducible apply State.when_keeps | (intro; intros) | simp only [Keeps.mk_eq])
    | (first | exact Keeps.refl _ | split))

theorem execDieOvertemp_keeps (t : Time) (s : State) : ∃ s', execDieOvertemp t s = .next s' ∧ Keeps s s' := by
  refine ⟨_, rfl, ?_⟩
  repeat' (first
    | (first | with_reducible assumption | dsimp only | with_reducible apply Keeps.ite)
    | (first | with_reducible apply State.at_keeps | with_reducible apply State.record_keeps)
    | (first | with_reducible apply State.when_keeps | (intro; intros) | simp only [Keeps.mk_eq])
    | (first | exact Keeps.refl _ | split))

end Sys2Proof.Machine
end

