-- ==== Sys2Proof/Laws/Same.lean ====
section
/-! SUPPORT. Which areas of the state an operation leaves as they are, as a relation between two states and a set of areas,
and the ways to show it of an operation built from others. -/

namespace Sys2Proof.Machine

set_option Elab.async false
set_option linter.unusedTactic false
set_option linter.unreachableTactic false
set_option linter.unusedSimpArgs false

/-- Every area outside the set w (bit a.ctorIdx of it for area a) holds in s what it holds in r. -/
structure Same (w : Nat) (r s : State) : Prop where
  out : ∀ a : Area, w.testBit a.ctorIdx = false → a.same r s

variable {w : Nat} {r s : State}

theorem Area.same_refl (a : Area) (s : State) : a.same s s := by cases a <;> rfl

theorem Area.same_trans {a : Area} {p q u : State} (h : a.same p q) (k : a.same q u) : a.same p u := by
  cases a <;> exact Eq.trans k h

theorem Same.refl : Same w s s := ⟨fun a _ => a.same_refl s⟩

/-- A set within a set within a set. -/
theorem Same.sub {a b c : Nat} (h : a &&& b = a) (k : b &&& c = b) : a &&& c = a := by
  rw [← h, Nat.and_assoc, k]

theorem Same.bits {a b i : Nat} (h : a &&& b = a) (k : b.testBit i = false) : a.testBit i = false := by
  rw [← h, Nat.testBit_and, k, Bool.and_false]

/-- What an operation leaves is left after what was left before it. -/
theorem Same.then {m : Nat} {t : State} (h : Same m s t) (hw : m &&& w = m) (hk : Same w r s) : Same w r t :=
  ⟨fun a ha => Area.same_trans (hk.out a ha) (h.out a (Same.bits hw ha))⟩

/-- The areas of what survives a reset outside m are as in y. -/
abbrev NonVolatile.kept (m : Nat) (x y : NonVolatile) : Prop :=
  (m.testBit 5 = true ∨ x.cfg = y.cfg) ∧
  (m.testBit 6 = true ∨ x.chans = y.chans) ∧
  (m.testBit 7 = true ∨ x.heads = y.heads) ∧
  (m.testBit 8 = true ∨ x.secs = y.secs) ∧
  (m.testBit 9 = true ∨ x.conns = y.conns) ∧
  (m.testBit 10 = true ∨ x.ledger = y.ledger) ∧
  (m.testBit 11 = true ∨ (x.ckpts, x.ckSeq, x.ckTime, x.ckWrites, x.ckErrors) = (y.ckpts, y.ckSeq, y.ckTime, y.ckWrites,
    y.ckErrors)) ∧
  (m.testBit 12 = true ∨ (x.waiting, x.nextSet) = (y.waiting, y.nextSet)) ∧
  (m.testBit 13 = true ∨ x.journal = y.journal) ∧
  (m.testBit 14 = true ∨ x.images = y.images) ∧
  (m.testBit 15 = true ∨ x.keys = y.keys) ∧
  (m.testBit 16 = true ∨ (x.pitch, x.pitchRes) = (y.pitch, y.pitchRes)) ∧
  (m.testBit 17 = true ∨ x.mem = y.mem) ∧
  (m.testBit 18 = true ∨ x.repair = y.repair) ∧
  (m.testBit 19 = true ∨ (x.opsecNs, x.opsecSaved, x.pcyc, x.degradedNs, x.stateNs) = (y.opsecNs, y.opsecSaved, y.pcyc,
    y.degradedNs, y.stateNs)) ∧
  (m.testBit 20 = true ∨ (x.refusedRaises, x.assembly, x.wakes, x.sleepsAborted, x.svEcc, x.svLock, x.staleCount) =
    (y.refusedRaises, y.assembly, y.wakes, y.sleepsAborted, y.svEcc, y.svLock, y.staleCount))

theorem NonVolatile.kept_refl (m : Nat) (x : NonVolatile) : x.kept m x := by
  refine ⟨?_, ?_, ?_, ?_, ?_, ?_, ?_, ?_, ?_, ?_, ?_, ?_, ?_, ?_, ?_, ?_⟩ <;> exact .inr rfl

/-- The areas of the front end outside m are as in y. -/
abbrev FrontEnd.kept (m : Nat) (x y : FrontEnd) : Prop :=
  (m.testBit 21 = true ∨ (x.frame, x.frameAt) = (y.frame, y.frameAt)) ∧
  (m.testBit 22 = true ∨ x.refsLost = y.refsLost) ∧
  (m.testBit 23 = true ∨ x.chans = y.chans) ∧
  (m.testBit 24 = true ∨ x.warns = y.warns) ∧
  (m.testBit 25 = true ∨ x.scans = y.scans) ∧
  (m.testBit 26 = true ∨ x.tch = y.tch) ∧
  (m.testBit 27 = true ∨ x.blank = y.blank) ∧
  (m.testBit 28 = true ∨ x.amon = y.amon)

theorem FrontEnd.kept_refl (m : Nat) (x : FrontEnd) : x.kept m x := by
  refine ⟨?_, ?_, ?_, ?_, ?_, ?_, ?_, ?_⟩ <;> exact .inr rfl

/-- The areas of the engines outside m are as in y. -/
abbrev Engines.kept (m : Nat) (x y : Engines) : Prop :=
  (m.testBit 29 = true ∨ x.dets = y.dets) ∧
  (m.testBit 30 = true ∨ x.stats = y.stats) ∧
  (m.testBit 31 = true ∨ x.proofs = y.proofs) ∧
  (m.testBit 32 = true ∨ x.wse = y.wse) ∧
  (m.testBit 33 = true ∨ (x.assigned, x.takeover, x.declared, x.agreed) = (y.assigned, y.takeover, y.declared, y.agreed))
    ∧
  (m.testBit 34 = true ∨ x.storeAt = y.storeAt) ∧
  (m.testBit 35 = true ∨ x.out = y.out)

theorem Engines.kept_refl (m : Nat) (x : Engines) : x.kept m x := by
  refine ⟨?_, ?_, ?_, ?_, ?_, ?_, ?_⟩ <;> exact .inr rfl

/-- The areas of the keeper outside m are as in y. -/
abbrev Keeper.kept (m : Nat) (x y : Keeper) : Prop :=
  (m.testBit 39 = true ∨ x.merged = y.merged) ∧
  (m.testBit 40 = true ∨ (x.holding, x.waiting, x.shadow) = (y.holding, y.waiting, y.shadow)) ∧
  (m.testBit 41 = true ∨ x.permits = y.permits) ∧
  (m.testBit 42 = true ∨ (x.fdrop, x.fhead, x.fdropAt, x.fheadAt) = (y.fdrop, y.fhead, y.fdropAt, y.fheadAt)) ∧
  (m.testBit 43 = true ∨ (x.degraded, x.degradedAt, x.expired, x.failedAt) = (y.degraded, y.degradedAt, y.expired,
    y.failedAt)) ∧
  (m.testBit 44 = true ∨ x.tumbler = y.tumbler) ∧
  (m.testBit 45 = true ∨ (x.cumValid, x.cumLog) = (y.cumValid, y.cumLog)) ∧
  (m.testBit 46 = true ∨ (x.ckBusy, x.ckBal) = (y.ckBusy, y.ckBal)) ∧
  (m.testBit 47 = true ∨ (x.braking, x.farewell, x.barred, x.barredLog, x.breaks, x.neighbour) = (y.braking, y.farewell,
    y.barred, y.barredLog, y.breaks, y.neighbour))

theorem Keeper.kept_refl (m : Nat) (x : Keeper) : x.kept m x := by
  refine ⟨?_, ?_, ?_, ?_, ?_, ?_, ?_, ?_, ?_⟩ <;> exact .inr rfl

/-- The areas of the host registers outside m are as in y. -/
abbrev HostRegs.kept (m : Nat) (x y : HostRegs) : Prop :=
  (m.testBit 50 = true ∨ (x.timeLo, x.timeHi) = (y.timeLo, y.timeHi)) ∧
  (m.testBit 51 = true ∨ x.mailbox = y.mailbox)

theorem HostRegs.kept_refl (m : Nat) (x : HostRegs) : x.kept m x := by
  refine ⟨?_, ?_⟩ <;> exact .inr rfl

/-- The areas of the host event controller outside m are as in y. -/
abbrev Hec.kept (m : Nat) (x y : Hec) : Prop :=
  (m.testBit 52 = true ∨ x.inflight = y.inflight) ∧
  (m.testBit 53 = true ∨ (x.target, x.vbase, x.slots, x.pend, x.goneCnt, x.lostClr, x.offer, x.held, x.setAt, x.goneAt,
    x.lostAt, x.prev, x.arbAt, x.levels) = (y.target, y.vbase, y.slots, y.pend, y.goneCnt, y.lostClr, y.offer, y.held,
    y.setAt, y.goneAt, y.lostAt, y.prev, y.arbAt, y.levels))

theorem Hec.kept_refl (m : Nat) (x : Hec) : x.kept m x := by
  refine ⟨?_, ?_⟩ <;> exact .inr rfl

/-- The areas of the dictionary outside m are as in y. -/
abbrev Sdp.kept (m : Nat) (x y : Sdp) : Prop :=
  (m.testBit 56 = true ∨ x.sessions = y.sessions) ∧
  (m.testBit 57 = true ∨ x.txn = y.txn) ∧
  (m.testBit 58 = true ∨ x.waiting = y.waiting) ∧
  (m.testBit 59 = true ∨ x.work = y.work) ∧
  (m.testBit 60 = true ∨ (x.eccBad, x.deOut, x.deFails, x.position, x.posState, x.emcyCount, x.wantedAt, x.random,
    x.jrnOpen, x.jrnReply) = (y.eccBad, y.deOut, y.deFails, y.position, y.posState, y.emcyCount, y.wantedAt, y.random,
    y.jrnOpen, y.jrnReply))

theorem Sdp.kept_refl (m : Nat) (x : Sdp) : x.kept m x := by
  refine ⟨?_, ?_, ?_, ?_, ?_⟩ <;> exact .inr rfl

/-- The areas of the network outside m are as in y. -/
abbrev Net.kept (m : Nat) (x y : Net) : Prop :=
  (m.testBit 61 = true ∨ x.ports = y.ports) ∧
  (m.testBit 62 = true ∨ (x.stopped, x.learnt, x.seqNr, x.trailers, x.seen, x.nodes, x.discards, x.wrongA, x.wrongB,
    x.delivered, x.sent, x.superAt) = (y.stopped, y.learnt, y.seqNr, y.trailers, y.seen, y.nodes, y.discards, y.wrongA,
    y.wrongB, y.delivered, y.sent, y.superAt))

theorem Net.kept_refl (m : Nat) (x : Net) : x.kept m x := by
  refine ⟨?_, ?_⟩ <;> exact .inr rfl

/-- The areas of the intake outside m are as in y. -/
abbrev Intake.kept (m : Nat) (x y : Intake) : Prop :=
  (m.testBit 65 = true ∨ x.offered = y.offered) ∧
  (m.testBit 66 = true ∨ (x.queue, x.writing, x.buckets, x.suppressed, x.overflow, x.lost, x.discarded, x.clearBy,
    x.stopAt) = (y.queue, y.writing, y.buckets, y.suppressed, y.overflow, y.lost, y.discarded, y.clearBy, y.stopAt))

theorem Intake.kept_refl (m : Nat) (x : Intake) : x.kept m x := by
  refine ⟨?_, ?_⟩ <;> exact .inr rfl

/-- A state written out from s. -/
theorem Same.upd {m : Nat} {ph cl pins nv fe eng pas led sv keep trac kin host hec cvu hasp sdp net tb pwr intake test past n}
    (h_ph : m.testBit 1 = true ∨ ph = s.phase := by first | with_reducible exact .inr rfl | exact .inl (by decide))
    (h_cl : m.testBit 2 = true ∨ cl = s.clk := by first | with_reducible exact .inr rfl | exact .inl (by decide))
    (h_pins : m.testBit 4 = true ∨ pins = s.pins := by first | with_reducible exact .inr rfl | exact .inl (by decide))
    (h_nv : nv.kept m s.nv := by
      first | with_reducible exact NonVolatile.kept_refl _ _ | (refine ⟨?_, ?_, ?_, ?_, ?_, ?_, ?_, ?_, ?_, ?_, ?_, ?_, ?_, ?_, ?_, ?_⟩ <;> first | with_reducible exact .inr rfl | exact .inl (by decide)))
    (h_fe : fe.kept m s.fe := by
      first | with_reducible exact FrontEnd.kept_refl _ _ | (refine ⟨?_, ?_, ?_, ?_, ?_, ?_, ?_, ?_⟩ <;> first | with_reducible exact .inr rfl | exact .inl (by decide)))
    (h_eng : eng.kept m s.eng := by
      first | with_reducible exact Engines.kept_refl _ _ | (refine ⟨?_, ?_, ?_, ?_, ?_, ?_, ?_⟩ <;> first | with_reducible exact .inr rfl | exact .inl (by decide)))
    (h_pas : m.testBit 36 = true ∨ pas = s.pas := by first | with_reducible exact .inr rfl | exact .inl (by decide))
    (h_led : m.testBit 37 = true ∨ led = s.led := by first | with_reducible exact .inr rfl | exact .inl (by decide))
    (h_sv : m.testBit 38 = true ∨ sv = s.sv := by first | with_reducible exact .inr rfl | exact .inl (by decide))
    (h_keep : keep.kept m s.keep := by
      first | with_reducible exact Keeper.kept_refl _ _ | (refine ⟨?_, ?_, ?_, ?_, ?_, ?_, ?_, ?_, ?_⟩ <;> first | with_reducible exact .inr rfl | exact .inl (by decide)))
    (h_trac : m.testBit 48 = true ∨ trac = s.trac := by first | with_reducible exact .inr rfl | exact .inl (by decide))
    (h_kin : m.testBit 49 = true ∨ kin = s.kin := by first | with_reducible exact .inr rfl | exact .inl (by decide))
    (h_host : host.kept m s.host := by
      first | with_reducible exact HostRegs.kept_refl _ _ | (refine ⟨?_, ?_⟩ <;> first | with_reducible exact .inr rfl | exact .inl (by decide)))
    (h_hec : hec.kept m s.hec := by
      first | with_reducible exact Hec.kept_refl _ _ | (refine ⟨?_, ?_⟩ <;> first | with_reducible exact .inr rfl | exact .inl (by decide)))
    (h_cvu : m.testBit 54 = true ∨ cvu = s.cvu := by first | with_reducible exact .inr rfl | exact .inl (by decide))
    (h_hasp : m.testBit 55 = true ∨ hasp = s.hasp := by first | with_reducible exact .inr rfl | exact .inl (by decide))
    (h_sdp : sdp.kept m s.sdp := by
      first | with_reducible exact Sdp.kept_refl _ _ | (refine ⟨?_, ?_, ?_, ?_, ?_⟩ <;> first | with_reducible exact .inr rfl | exact .inl (by decide)))
    (h_net : net.kept m s.net := by
      first | with_reducible exact Net.kept_refl _ _ | (refine ⟨?_, ?_⟩ <;> first | with_reducible exact .inr rfl | exact .inl (by decide)))
    (h_tb : m.testBit 63 = true ∨ tb = s.tb := by first | with_reducible exact .inr rfl | exact .inl (by decide))
    (h_pwr : m.testBit 64 = true ∨ pwr = s.pwr := by first | with_reducible exact .inr rfl | exact .inl (by decide))
    (h_intake : intake.kept m s.intake := by
      first | with_reducible exact Intake.kept_refl _ _ | (refine ⟨?_, ?_⟩ <;> first | with_reducible exact .inr rfl | exact .inl (by decide)))
    (h_test : m.testBit 67 = true ∨ test = s.test := by first | with_reducible exact .inr rfl | exact .inl (by decide))
    (h_past : m.testBit 69 = true ∨ past = s.past := by first | with_reducible exact .inr rfl | exact .inl (by decide))
    (h_n : m.testBit 68 = true ∨ n = s.freeCount := by first | with_reducible exact .inr rfl | exact .inl (by decide))
    (hw : m &&& w = m) (hk : Same w r s) :
    Same w r (State.mk s.pending ph cl s.part pins nv fe eng pas led sv keep trac kin host hec cvu hasp sdp net tb pwr
      intake test past n) := by
  refine Same.then ⟨fun a ha => ?_⟩ hw hk
  have no : ∀ {i : Nat} {P : Prop}, m.testBit i = false → (m.testBit i = true ∨ P) → P :=
    fun f o => o.resolve_left fun e => Bool.noConfusion (f.symm.trans e)
  cases a
  case pending => rfl
  case phase => exact no ha h_ph
  case clk => exact no ha h_cl
  case part => rfl
  case pins => exact no ha h_pins
  case stored => exact no ha h_nv.1
  case nvChans => exact no ha h_nv.2.1
  case nvHeads => exact no ha h_nv.2.2.1
  case nvSecs => exact no ha h_nv.2.2.2.1
  case nvConns => exact no ha h_nv.2.2.2.2.1
  case ledgerCounts => exact no ha h_nv.2.2.2.2.2.1
  case ckpts => exact no ha h_nv.2.2.2.2.2.2.1
  case waitingSets => exact no ha h_nv.2.2.2.2.2.2.2.1
  case journal => exact no ha h_nv.2.2.2.2.2.2.2.2.1
  case images => exact no ha h_nv.2.2.2.2.2.2.2.2.2.1
  case keys => exact no ha h_nv.2.2.2.2.2.2.2.2.2.2.1
  case pitch => exact no ha h_nv.2.2.2.2.2.2.2.2.2.2.2.1
  case recMem => exact no ha h_nv.2.2.2.2.2.2.2.2.2.2.2.2.1
  case repair => exact no ha h_nv.2.2.2.2.2.2.2.2.2.2.2.2.2.1
  case opsec => exact no ha h_nv.2.2.2.2.2.2.2.2.2.2.2.2.2.2.1
  case tallies => exact no ha h_nv.2.2.2.2.2.2.2.2.2.2.2.2.2.2.2
  case frames => exact no ha h_fe.1
  case refs => exact no ha h_fe.2.1
  case chans => exact no ha h_fe.2.2.1
  case warns => exact no ha h_fe.2.2.2.1
  case scans => exact no ha h_fe.2.2.2.2.1
  case tch => exact no ha h_fe.2.2.2.2.2.1
  case blank => exact no ha h_fe.2.2.2.2.2.2.1
  case amon => exact no ha h_fe.2.2.2.2.2.2.2
  case dets => exact no ha h_eng.1
  case stats => exact no ha h_eng.2.1
  case proofs => exact no ha h_eng.2.2.1
  case wse => exact no ha h_eng.2.2.2.1
  case crossbar => exact no ha h_eng.2.2.2.2.1
  case engStore => exact no ha h_eng.2.2.2.2.2.1
  case engOut => exact no ha h_eng.2.2.2.2.2.2
  case passages => exact no ha h_pas
  case ledger => exact no ha h_led
  case supervisors => exact no ha h_sv
  case merged => exact no ha h_keep.1
  case words => exact no ha h_keep.2.1
  case permits => exact no ha h_keep.2.2.1
  case drops => exact no ha h_keep.2.2.2.1
  case degraded => exact no ha h_keep.2.2.2.2.1
  case tumbler => exact no ha h_keep.2.2.2.2.2.1
  case cumValid => exact no ha h_keep.2.2.2.2.2.2.1
  case ckptRun => exact no ha h_keep.2.2.2.2.2.2.2.1
  case keeperRest => exact no ha h_keep.2.2.2.2.2.2.2.2
  case traction => exact no ha h_trac
  case kin => exact no ha h_kin
  case timeLatch => exact no ha h_host.1
  case mailbox => exact no ha h_host.2
  case pulses => exact no ha h_hec.1
  case hec => exact no ha h_hec.2
  case cvu => exact no ha h_cvu
  case hasp => exact no ha h_hasp
  case sessions => exact no ha h_sdp.1
  case txn => exact no ha h_sdp.2.1
  case requests => exact no ha h_sdp.2.2.1
  case work => exact no ha h_sdp.2.2.2.1
  case dictRest => exact no ha h_sdp.2.2.2.2
  case ports => exact no ha h_net.1
  case switch => exact no ha h_net.2
  case timeBase => exact no ha h_tb
  case power => exact no ha h_pwr
  case offered => exact no ha h_intake.1
  case intake => exact no ha h_intake.2
  case selfTest => exact no ha h_test
  case freeCount => exact no ha h_n
  case past => exact no ha h_past

theorem Same.snd {α : Type} {p : α × State} {a : α} {t : State} (h : p = (a, t)) (k : Same w r p.2) : Same w r t := by
  subst h; exact k

theorem Same.fst {α : Type} {p : State × α} {a : α} {t : State} (h : p = (t, a)) (k : Same w r p.1) : Same w r t := by
  subst h; exact k

theorem State.when_same {b : Bool} {f : State → State} (h : Same w r s) (hf : ∀ u, Same w r u → Same w r (f u)) :
    Same w r (s.when b f) := by
  unfold State.when
  split
  · exact hf s h
  · exact h

theorem State.whenSome_same {α : Type} {o : Option α} {f : State → α → State} (h : Same w r s)
    (hf : ∀ u a, Same w r u → Same w r (f u a)) : Same w r (s.whenSome o f) := by
  cases o with
  | some a => exact hf s a h
  | none => exact h

theorem Same.ite {c : Prop} [Decidable c] {p q : State} (hp : Same w r p) (hq : Same w r q) : Same w r (if c then p else q) := by
  split
  · exact hp
  · exact hq

theorem Same.dite {c : Prop} [Decidable c] {p : c → State} {q : ¬c → State} (hp : ∀ h, Same w r (p h))
    (hq : ∀ h, Same w r (q h)) : Same w r (if h : c then p h else q h) := by
  split
  · exact hp _
  · exact hq _

theorem Same.ite2 {α : Type} {c : Prop} [Decidable c] {p q : α × State} (hp : Same w r p.2) (hq : Same w r q.2) :
    Same w r (if c then p else q).2 := by
  split
  · exact hp
  · exact hq

theorem Same.dite2 {α : Type} {c : Prop} [Decidable c] {p : c → α × State} {q : ¬c → α × State} (hp : ∀ h, Same w r (p h).2)
    (hq : ∀ h, Same w r (q h).2) : Same w r (if h : c then p h else q h).2 := by
  split
  · exact hp _
  · exact hq _

theorem Same.iteA {c : Prop} [Decidable c] {p q : Answered} (hp : Same w r p.st) (hq : Same w r q.st) :
    Same w r (if c then p else q).st := by
  split
  · exact hp
  · exact hq

theorem foldl_same {α : Type} {f : State → α → State} (hf : ∀ u a, Same w r u → Same w r (f u a)) (l : List α) :
    ∀ {s : State}, Same w r s → Same w r (l.foldl f s) := by
  induction l with
  | nil => intro s h; exact h
  | cons a l ih => intro s h; exact ih (hf s a h)

theorem foldl_same_snd {α β : Type} {f : β × State → α → β × State} (hf : ∀ u a, Same w r u.2 → Same w r (f u a).2)
    (l : List α) : ∀ {p : β × State}, Same w r p.2 → Same w r (l.foldl f p).2 := by
  induction l with
  | nil => intro p h; exact h
  | cons a l ih => intro p h; exact ih (hf p a h)

theorem foldl_same_fst {α β : Type} {f : State × β → α → State × β} (hf : ∀ u a, Same w r u.1 → Same w r (f u a).1)
    (l : List α) : ∀ {p : State × β}, Same w r p.1 → Same w r (l.foldl f p).1 := by
  induction l with
  | nil => intro p h; exact h
  | cons a l ih => intro p h; exact ih (hf p a h)

theorem State.each_same {α : Type} {l : List α} {f : State → α → State} (h : Same w r s)
    (hf : ∀ u a, Same w r u → Same w r (f u a)) : Same w r (State.each s l f) := foldl_same hf l h

theorem State.eachFin_same {n : Nat} {f : State → Fin n → State} (h : Same w r s)
    (hf : ∀ u a, Same w r u → Same w r (f u a)) : Same w r (State.eachFin s n f) := foldl_same hf _ h

/-- The set of some areas. -/
def areaMask (l : List Area) : Nat := l.foldl (fun m a => m ||| 1 <<< a.ctorIdx) 0

theorem Area.ctorIdx_inj {a b : Area} (h : a.ctorIdx = b.ctorIdx) : a = b := by
  rw [← Area.ofNat_ctorIdx a, h, Area.ofNat_ctorIdx]

theorem testBit_areaMask {a : Area} (l : List Area) (h : a ∉ l) : (areaMask l).testBit a.ctorIdx = false := by
  have k : ∀ m : Nat, m.testBit a.ctorIdx = false → (l.foldl (fun m b => m ||| 1 <<< b.ctorIdx) m).testBit a.ctorIdx = false := by
    induction l with
    | nil => exact fun m hm => hm
    | cons b l ih =>
      intro m hm
      rw [List.mem_cons, not_or] at h
      refine ih h.2 _ ?_
      have : b.ctorIdx ≠ a.ctorIdx := fun e => h.1 (Area.ctorIdx_inj e).symm
      rw [Nat.testBit_or, hm, Nat.one_shiftLeft, Nat.testBit_two_pow_of_ne this, Bool.false_or]
  exact k 0 (Nat.zero_testBit _)

/-- A command whose mask is that of its areas keeps its frame. -/
theorem Same.framed {c : Instr} {s u : State} (h : Same (areaMask (writes c)) s u) : s.framed c u :=
  fun _ ha => h.out _ (testBit_areaMask _ ha)

/-- R50, R214, R417: the clock moves, and with it the counts of operating time and the snapshots. -/
theorem State.at_same (t : Time) (hw : 590295810358706176004 &&& w = 590295810358706176004) (hk : Same w r s) : Same w r (s.at t) := by
  refine Same.then (m := 590295810358706176004) ?_ hw hk
  refine ⟨fun x hx => ?_⟩
  unfold State.at State.elapse
  cases h : s.released <;> cases x <;> first | rfl | cases hx

end Sys2Proof.Machine
end

