-- ==== Sys2Proof/Laws/SameOps.lean ====
section
/-! SUPPORT. What the shared operations, the journal, the Deadbolt, the kinematic estimator and the passage unit leave as it is. -/

namespace Sys2Proof.Machine

set_option Elab.async false
set_option linter.unusedTactic false
set_option linter.unreachableTactic false
set_option linter.unusedSimpArgs false

variable {w : Nat} {r s : State}

theorem State.drawFree_same (hw : 295147905179352825856 &&& w = 295147905179352825856) (hk : Same w r s) :
    Same w r (State.drawFree s).2 := by
  unfold State.drawFree
  repeat' (first
    | (first | with_reducible assumption | with_reducible exact Same.sub (by decide) hw | dsimp only)
    | (first | with_reducible apply Same.ite2 | (intro; intros) | split)
    | with_reducible refine Same.upd (m := 295147905179352825856) (hw := ?_) (hk := ?_))

theorem State.unstatedRound_same (q : Rat) (hw : 295147905179352825856 &&& w = 295147905179352825856) (hk : Same w r s) :
    Same w r (State.unstatedRound s q).2 := by
  unfold State.unstatedRound
  repeat' (first
    | (first | with_reducible assumption | with_reducible exact Same.sub (by decide) hw | dsimp only)
    | (first | with_reducible apply Same.ite2 | (intro; intros) | split)
    | with_reducible refine Same.upd (m := 295147905179352825856) (hw := ?_) (hk := ?_))

theorem State.setCumValid_same (h : Fin 8) (b : Bool) (hw : 35184372088832 &&& w = 35184372088832) (hk : Same w r s) :
    Same w r (State.setCumValid s h b) := by
  unfold State.setCumValid
  repeat' (first
    | (first | with_reducible assumption | with_reducible exact Same.sub (by decide) hw | dsimp only)
    | (first | with_reducible apply Same.ite | (intro; intros) | split)
    | with_reducible refine Same.upd (m := 35184372088832) (hw := ?_) (hk := ?_))

theorem State.setBarred_same (n : Fin 4) (b : Bool) (hw : 140737488355328 &&& w = 140737488355328) (hk : Same w r s) :
    Same w r (State.setBarred s n b) := by
  unfold State.setBarred
  repeat' (first
    | (first | with_reducible assumption | with_reducible exact Same.sub (by decide) hw | dsimp only)
    | (first | with_reducible apply Same.ite | (intro; intros) | split)
    | with_reducible refine Same.upd (m := 140737488355328) (hw := ?_) (hk := ?_))

theorem State.onChan_same (c : Fin 16) (f : Chan → Chan) (hw : 8388608 &&& w = 8388608) (hk : Same w r s) :
    Same w r (State.onChan s c f) := by
  unfold State.onChan
  repeat' (first
    | (first | with_reducible assumption | with_reducible exact Same.sub (by decide) hw | dsimp only)
    | (first | (intro; intros) | split | with_reducible refine Same.upd (m := 8388608) (hw := ?_) (hk := ?_)))

theorem State.onWarn_same (c : Fin 16) (f : Warn → Warn) (hw : 16777216 &&& w = 16777216) (hk : Same w r s) :
    Same w r (State.onWarn s c f) := by
  unfold State.onWarn
  repeat' (first
    | (first | with_reducible assumption | with_reducible exact Same.sub (by decide) hw | dsimp only)
    | (first | (intro; intros) | split | with_reducible refine Same.upd (m := 16777216) (hw := ?_) (hk := ?_)))

theorem State.onScan_same (c : Fin 16) (f : Scan → Scan) (hw : 33554432 &&& w = 33554432) (hk : Same w r s) :
    Same w r (State.onScan s c f) := by
  unfold State.onScan
  repeat' (first
    | (first | with_reducible assumption | with_reducible exact Same.sub (by decide) hw | dsimp only)
    | (first | (intro; intros) | split | with_reducible refine Same.upd (m := 33554432) (hw := ?_) (hk := ?_)))

theorem State.onTch_same (c : Fin 8) (f : Tch → Tch) (hw : 67108864 &&& w = 67108864) (hk : Same w r s) :
    Same w r (State.onTch s c f) := by
  unfold State.onTch
  repeat' (first
    | (first | with_reducible assumption | with_reducible exact Same.sub (by decide) hw | dsimp only)
    | (first | (intro; intros) | split | with_reducible refine Same.upd (m := 67108864) (hw := ?_) (hk := ?_)))

theorem State.onBlank_same (b : Fin 6) (f : Blank → Blank) (hw : 134217728 &&& w = 134217728) (hk : Same w r s) :
    Same w r (State.onBlank s b f) := by
  unfold State.onBlank
  repeat' (first
    | (first | with_reducible assumption | with_reducible exact Same.sub (by decide) hw | dsimp only)
    | (first | (intro; intros) | split | with_reducible refine Same.upd (m := 134217728) (hw := ?_) (hk := ?_)))

theorem State.onDet_same (c : Fin 16) (f : Det → Det) (hw : 536870912 &&& w = 536870912) (hk : Same w r s) :
    Same w r (State.onDet s c f) := by
  unfold State.onDet
  repeat' (first
    | (first | with_reducible assumption | with_reducible exact Same.sub (by decide) hw | dsimp only)
    | (first | (intro; intros) | split | with_reducible refine Same.upd (m := 536870912) (hw := ?_) (hk := ?_)))

theorem State.onStats_same (c : Fin 16) (f : Stats → Stats) (hw : 1073741824 &&& w = 1073741824) (hk : Same w r s) :
    Same w r (State.onStats s c f) := by
  unfold State.onStats
  repeat' (first
    | (first | with_reducible assumption | with_reducible exact Same.sub (by decide) hw | dsimp only)
    | (first | (intro; intros) | split | with_reducible refine Same.upd (m := 1073741824) (hw := ?_) (hk := ?_)))

theorem State.onProof_same (c : Fin 16) (f : Proof → Proof) (hw : 2147483648 &&& w = 2147483648) (hk : Same w r s) :
    Same w r (State.onProof s c f) := by
  unfold State.onProof
  repeat' (first
    | (first | with_reducible assumption | with_reducible exact Same.sub (by decide) hw | dsimp only)
    | (first | (intro; intros) | split | with_reducible refine Same.upd (m := 2147483648) (hw := ?_) (hk := ?_)))

theorem State.onWse_same (e : Fin 9) (f : Engine → Engine) (hw : 4294967296 &&& w = 4294967296) (hk : Same w r s) :
    Same w r (State.onWse s e f) := by
  unfold State.onWse
  repeat' (first
    | (first | with_reducible assumption | with_reducible exact Same.sub (by decide) hw | dsimp only)
    | (first | (intro; intros) | split | with_reducible refine Same.upd (m := 4294967296) (hw := ?_) (hk := ?_)))

theorem State.onSv_same (v : Fin 2) (f : Sv → Sv) (hw : 274877906944 &&& w = 274877906944) (hk : Same w r s) :
    Same w r (State.onSv s v f) := by
  unfold State.onSv
  repeat' (first
    | (first | with_reducible assumption | with_reducible exact Same.sub (by decide) hw | dsimp only)
    | (first | (intro; intros) | split | with_reducible refine Same.upd (m := 274877906944) (hw := ?_) (hk := ?_)))

theorem State.onPermit_same (n : Fin 4) (f : Permit → Permit) (hw : 2199023255552 &&& w = 2199023255552) (hk : Same w r s) :
    Same w r (State.onPermit s n f) := by
  unfold State.onPermit
  repeat' (first
    | (first | with_reducible assumption | with_reducible exact Same.sub (by decide) hw | dsimp only)
    | (first | (intro; intros) | split | with_reducible refine Same.upd (m := 2199023255552) (hw := ?_) (hk := ?_)))

theorem State.onMerged_same (n : Fin 4) (f : Merged → Merged) (hw : 549755813888 &&& w = 549755813888) (hk : Same w r s) :
    Same w r (State.onMerged s n f) := by
  unfold State.onMerged
  repeat' (first
    | (first | with_reducible assumption | with_reducible exact Same.sub (by decide) hw | dsimp only)
    | (first | (intro; intros) | split | with_reducible refine Same.upd (m := 549755813888) (hw := ?_) (hk := ?_)))

theorem State.onNvChan_same (c : Fin 16) (f : NvChan → NvChan) (hw : 64 &&& w = 64) (hk : Same w r s) :
    Same w r (State.onNvChan s c f) := by
  unfold State.onNvChan
  repeat' (first
    | (first | with_reducible assumption | with_reducible exact Same.sub (by decide) hw | dsimp only)
    | (first | (intro; intros) | split | with_reducible refine Same.upd (m := 64) (hw := ?_) (hk := ?_)))

theorem State.onNvHead_same (h : Fin 8) (f : NvHead → NvHead) (hw : 128 &&& w = 128) (hk : Same w r s) :
    Same w r (State.onNvHead s h f) := by
  unfold State.onNvHead
  repeat' (first
    | (first | with_reducible assumption | with_reducible exact Same.sub (by decide) hw | dsimp only)
    | (first | (intro; intros) | split | with_reducible refine Same.upd (m := 128) (hw := ?_) (hk := ?_)))

theorem State.onNvSec_same (n : Fin 4) (f : NvSec → NvSec) (hw : 256 &&& w = 256) (hk : Same w r s) :
    Same w r (State.onNvSec s n f) := by
  unfold State.onNvSec
  repeat' (first
    | (first | with_reducible assumption | with_reducible exact Same.sub (by decide) hw | dsimp only)
    | (first | (intro; intros) | split | with_reducible refine Same.upd (m := 256) (hw := ?_) (hk := ?_)))

theorem State.onNvConn_same (k : Fin 8) (f : NvConn → NvConn) (hw : 512 &&& w = 512) (hk : Same w r s) :
    Same w r (State.onNvConn s k f) := by
  unfold State.onNvConn
  repeat' (first
    | (first | with_reducible assumption | with_reducible exact Same.sub (by decide) hw | dsimp only)
    | (first | (intro; intros) | split | with_reducible refine Same.upd (m := 512) (hw := ?_) (hk := ?_)))

theorem State.onHaspConn_same (k : Fin 8) (f : HaspConn → HaspConn) (hw : 36028797018963968 &&& w = 36028797018963968) (hk : Same w r s) :
    Same w r (State.onHaspConn s k f) := by
  unfold State.onHaspConn
  repeat' (first
    | (first | with_reducible assumption | with_reducible exact Same.sub (by decide) hw | dsimp only)
    | (first | (intro; intros) | split)
    | with_reducible refine Same.upd (m := 36028797018963968) (hw := ?_) (hk := ?_))

theorem State.onSession_same (i : Fin 5) (f : Session → Session) (hw : 72057594037927936 &&& w = 72057594037927936) (hk : Same w r s) :
    Same w r (State.onSession s i f) := by
  unfold State.onSession
  repeat' (first
    | (first | with_reducible assumption | with_reducible exact Same.sub (by decide) hw | dsimp only)
    | (first | (intro; intros) | split)
    | with_reducible refine Same.upd (m := 72057594037927936) (hw := ?_) (hk := ?_))

theorem State.onPort_same (p : Fin 4) (f : Port → Port) (hw : 2305843009213693952 &&& w = 2305843009213693952) (hk : Same w r s) :
    Same w r (State.onPort s p f) := by
  unfold State.onPort
  repeat' (first
    | (first | with_reducible assumption | with_reducible exact Same.sub (by decide) hw | dsimp only)
    | (first | (intro; intros) | split)
    | with_reducible refine Same.upd (m := 2305843009213693952) (hw := ?_) (hk := ?_))

theorem State.onTraction_same (n : Fin 4) (f : Traction → Traction) (hw : 281474976710656 &&& w = 281474976710656) (hk : Same w r s) :
    Same w r (State.onTraction s n f) := by
  unfold State.onTraction
  repeat' (first
    | (first | with_reducible assumption | with_reducible exact Same.sub (by decide) hw | dsimp only)
    | (first | (intro; intros) | split)
    | with_reducible refine Same.upd (m := 281474976710656) (hw := ?_) (hk := ?_))

theorem State.onCvu_same (u : Fin 2) (f : Cvu → Cvu) (hw : 18014398509481984 &&& w = 18014398509481984) (hk : Same w r s) :
    Same w r (State.onCvu s u f) := by
  unfold State.onCvu
  repeat' (first
    | (first | with_reducible assumption | with_reducible exact Same.sub (by decide) hw | dsimp only)
    | (first | (intro; intros) | split)
    | with_reducible refine Same.upd (m := 18014398509481984) (hw := ?_) (hk := ?_))

theorem State.record_same (code : BitVec 16) (src : BitVec 2) (payload : List Byte) (emergency : Bool) (hw : 36893488147419103232 &&& w = 36893488147419103232) (hk : Same w r s) :
    Same w r (State.record s code src payload emergency) := by
  unfold State.record
  repeat' (first
    | (first | with_reducible assumption | with_reducible exact Same.sub (by decide) hw | dsimp only)
    | (first | (intro; intros) | split)
    | with_reducible refine Same.upd (m := 36893488147419103232) (hw := ?_) (hk := ?_))

theorem State.pulse_same (n : Nat) (hw : 4503599627370496 &&& w = 4503599627370496) (hk : Same w r s) :
    Same w r (State.pulse s n) := by
  unfold State.pulse
  repeat' (first
    | (first | with_reducible assumption | with_reducible exact Same.sub (by decide) hw | dsimp only)
    | (first | (intro; intros) | split)
    | with_reducible refine Same.upd (m := 4503599627370496) (hw := ?_) (hk := ?_))

theorem State.storeEntry_same (key : Nat) (v : List Byte) (hw : 1152921504606847008 &&& w = 1152921504606847008) (hk : Same w r s) :
    Same w r (State.storeEntry s key v) := by
  unfold State.storeEntry
  repeat' (first
    | (first | with_reducible assumption | with_reducible exact Same.sub (by decide) hw | dsimp only)
    | (first | (intro; intros) | split)
    | with_reducible refine Same.upd (m := 1152921504606847008) (hw := ?_) (hk := ?_))

theorem State.workEntry_same (key : Nat) (v : List Byte) (hw : 576460752303423488 &&& w = 576460752303423488) (hk : Same w r s) :
    Same w r (State.workEntry s key v) := by
  unfold State.workEntry
  repeat' (first
    | (first | with_reducible assumption | with_reducible exact Same.sub (by decide) hw | dsimp only)
    | (first | (intro; intros) | split)
    | with_reducible refine Same.upd (m := 576460752303423488) (hw := ?_) (hk := ?_))

theorem State.journalWrite_same (l : List (Nat × Nat × List Byte)) (hw : 1152921504606855200 &&& w = 1152921504606855200) (hk : Same w r s) :
    Same w r (State.journalWrite s l) := by
  unfold State.journalWrite
  repeat' (first
    | (first | with_reducible assumption | with_reducible exact Same.sub (by decide) hw | dsimp only)
    | (first | with_reducible apply State.storeEntry_same | with_reducible apply State.when_same)
    | (first | with_reducible apply State.each_same | (intro; intros) | split)
    | with_reducible refine Same.upd (m := 8192) (hw := ?_) (hk := ?_))

theorem State.journalStop_same (cause : Nat) (hw : 1152921504606855168 &&& w = 1152921504606855168) (hk : Same w r s) :
    Same w r (State.journalStop s cause) := by
  unfold State.journalStop
  repeat' (first
    | (first | with_reducible assumption | with_reducible exact Same.sub (by decide) hw | dsimp only)
    | (first | with_reducible apply Same.ite | (intro; intros) | split)
    | with_reducible refine Same.upd (m := 1152921504606855168) (hw := ?_) (hk := ?_))

theorem State.journalFinish_same (hw : 1152921504606855200 &&& w = 1152921504606855200) (hk : Same w r s) :
    Same w r (State.journalFinish s) := by
  unfold State.journalFinish
  repeat' (first
    | (first | with_reducible assumption | with_reducible exact Same.sub (by decide) hw | dsimp only)
    | (first | with_reducible apply State.journalWrite_same | (intro; intros) | split)
    | with_reducible refine Same.upd (m := 1152921504606855168) (hw := ?_) (hk := ?_))

theorem State.dropPermit_same (n : Fin 4) (causes : List Nat) (hs : List (Fin 8)) (hw : 36893494744488869888 &&& w = 36893494744488869888) (hk : Same w r s) :
    Same w r (State.dropPermit s n causes hs) := by
  unfold State.dropPermit
  repeat' (first
    | (first | with_reducible assumption | with_reducible exact Same.sub (by decide) hw | dsimp only)
    | (first | with_reducible apply Same.ite | with_reducible apply State.onPermit_same)
    | (first | with_reducible apply State.record_same | with_reducible apply foldl_same | (intro; intros) | split)
    | with_reducible refine Same.upd (m := 4398046511104) (hw := ?_) (hk := ?_))

theorem State.requalify_same (hw : 2199023255552 &&& w = 2199023255552) (hk : Same w r s) :
    Same w r (State.requalify s) := by
  unfold State.requalify
  repeat' (first
    | (first | with_reducible assumption | with_reducible exact Same.sub (by decide) hw | dsimp only)
    | (first | (intro; intros) | split | with_reducible refine Same.upd (m := 2199023255552) (hw := ?_) (hk := ?_)))

theorem State.dropForHead_same (h : Fin 8) (hw : 36893494744488869888 &&& w = 36893494744488869888) (hk : Same w r s) :
    Same w r (State.dropForHead s h) := by
  unfold State.dropForHead
  repeat' (first
    | (first | with_reducible assumption | with_reducible exact Same.sub (by decide) hw | dsimp only)
    | (first | with_reducible apply State.dropPermit_same | with_reducible apply State.each_same | (intro; intros))
    | split)

theorem State.kinWrite_same (sec : Fin 4) (f : Kin → Kin) (hw : 5066549580791808 &&& w = 5066549580791808) (hk : Same w r s) :
    Same w r (State.kinWrite s sec f) := by
  unfold State.kinWrite
  repeat' (first
    | (first | with_reducible assumption | with_reducible exact Same.sub (by decide) hw | dsimp only)
    | (first | with_reducible apply Same.ite | with_reducible apply State.pulse_same | (intro; intros) | split)
    | with_reducible refine Same.upd (m := 562949953421312) (hw := ?_) (hk := ?_))

theorem State.kinUncSpeed_same (sec : Fin 4) (speed : Int) (prov : Bool) (hw : 295147905179352825856 &&& w = 295147905179352825856) (hk : Same w r s) :
    Same w r (State.kinUncSpeed s sec speed prov).2 := by
  unfold State.kinUncSpeed
  repeat' (first
    | (first | with_reducible assumption | with_reducible exact Same.sub (by decide) hw | dsimp only)
    | (first | with_reducible apply Same.ite2 | with_reducible apply State.unstatedRound_same | (intro; intros))
    | (first | refine Same.snd (by assumption) ?_ | split))

theorem State.kinRefreshed_same (sec : Fin 4) (k : Kin) (point : Nat) (ref : Time) (speed : Nat) (dir : Bool) (unc0 : Nat) (prov : Bool) (hw : 295147905179352825856 &&& w = 295147905179352825856) (hk : Same w r s) :
    Same w r (State.kinRefreshed s sec k point ref speed dir unc0 prov).2 := by
  unfold State.kinRefreshed
  repeat' (first
    | (first | with_reducible assumption | with_reducible exact Same.sub (by decide) hw | dsimp only)
    | (first | with_reducible apply Same.ite2 | with_reducible apply State.kinUncSpeed_same | (intro; intros))
    | (first | refine Same.snd (by assumption) ?_ | split))

theorem State.kinTaken_same (sec : Fin 4) (place : QPlace) (into : Bool) (ref : Time) (speed : Nat) (held : Bool) (unc0 : Nat) (hw : 295147905179352825856 &&& w = 295147905179352825856) (hk : Same w r s) :
    Same w r (State.kinTaken s sec place into ref speed held unc0).2 := by
  unfold State.kinTaken
  repeat' (first
    | (first | with_reducible assumption | with_reducible exact Same.sub (by decide) hw | dsimp only)
    | (first | with_reducible apply Same.ite2 | with_reducible apply State.kinRefreshed_same | (intro; intros))
    | (first | refine Same.snd (by assumption) ?_ | split))

theorem State.kinTake_same (sec : Fin 4) (place : QPlace) (into : Bool) (ref : Time) (speed : Nat) (held : Bool) (unc0 : Nat) (hw : 295152971728933617664 &&& w = 295152971728933617664) (hk : Same w r s) :
    Same w r (State.kinTake s sec place into ref speed held unc0) := by
  unfold State.kinTake
  repeat' (first
    | (first | with_reducible assumption | with_reducible exact Same.sub (by decide) hw | dsimp only)
    | (first | with_reducible apply State.kinTaken_same | with_reducible apply State.kinWrite_same)
    | (first | (intro; intros) | refine Same.snd (by assumption) ?_ | split))

theorem State.kinPassage_same (en : Entry) (hw : 295152971728933617664 &&& w = 295152971728933617664) (hk : Same w r s) :
    Same w r (State.kinPassage s en) := by
  unfold State.kinPassage
  repeat' (first
    | (first | with_reducible assumption | with_reducible exact Same.sub (by decide) hw | dsimp only)
    | (first | with_reducible apply State.kinTaken_same | with_reducible apply State.kinWrite_same)
    | (first | with_reducible apply State.each_same | (intro; intros) | refine Same.snd (by assumption) ?_ | split))

theorem State.kinOnset_same (sec : Fin 4) (leg : Fin 4) (onset : Time) (speed : Nat) (hw : 295152971728933617664 &&& w = 295152971728933617664) (hk : Same w r s) :
    Same w r (State.kinOnset s sec leg onset speed) := by
  unfold State.kinOnset
  repeat' (first
    | (first | with_reducible assumption | with_reducible exact Same.sub (by decide) hw | dsimp only)
    | (first | with_reducible apply State.kinRefreshed_same | with_reducible apply State.kinWrite_same)
    | (first | (intro; intros) | refine Same.snd (by assumption) ?_ | split))

theorem State.kinRetreat_same (h : Fin 8) (hw : 5066549580791808 &&& w = 5066549580791808) (hk : Same w r s) :
    Same w r (State.kinRetreat s h) := by
  unfold State.kinRetreat
  repeat' (first
    | (first | with_reducible assumption | with_reducible exact Same.sub (by decide) hw | dsimp only)
    | (first | with_reducible apply State.kinWrite_same | with_reducible apply State.each_same | (intro; intros))
    | split)

theorem State.kinMerged_same (sec : Fin 4) (emptied : Bool) (hw : 5066549580791808 &&& w = 5066549580791808) (hk : Same w r s) :
    Same w r (State.kinMerged s sec emptied) := by
  unfold State.kinMerged
  repeat' (first
    | (first | with_reducible assumption | with_reducible exact Same.sub (by decide) hw | dsimp only)
    | (first | with_reducible apply Same.ite | with_reducible apply State.kinWrite_same | (intro; intros) | split))

theorem State.notify_same (n : Notice) (hw : 274877906944 &&& w = 274877906944) (hk : Same w r s) :
    Same w r (State.notify s n) := by
  unfold State.notify
  repeat' (first
    | (first | with_reducible assumption | with_reducible exact Same.sub (by decide) hw | dsimp only)
    | (first | with_reducible apply Same.ite | (intro; intros) | split)
    | with_reducible refine Same.upd (m := 274877906944) (hw := ?_) (hk := ?_))

theorem State.causeAtHead_same (h : Fin 8) (code : Nat) (hw : 274877906944 &&& w = 274877906944) (hk : Same w r s) :
    Same w r (State.causeAtHead s h code) := by
  unfold State.causeAtHead
  repeat' (first
    | (first | with_reducible assumption | with_reducible exact Same.sub (by decide) hw | dsimp only)
    | (first | with_reducible apply State.notify_same | with_reducible apply State.each_same | (intro; intros))
    | split)

theorem State.onEntry_same (slot : Nat) (f : Entry → Entry) (hw : 137438953472 &&& w = 137438953472) (hk : Same w r s) :
    Same w r (State.onEntry s slot f) := by
  unfold State.onEntry
  repeat' (first
    | (first | with_reducible assumption | with_reducible exact Same.sub (by decide) hw | dsimp only)
    | (first | (intro; intros) | split | with_reducible refine Same.upd (m := 137438953472) (hw := ?_) (hk := ?_)))

theorem State.voided_same (h : Fin 8) (cause : Nat) (code : Nat) (hw : 36893523675388575872 &&& w = 36893523675388575872) (hk : Same w r s) :
    Same w r (State.voided s h cause code) := by
  unfold State.voided
  repeat' (first
    | (first | with_reducible assumption | with_reducible exact Same.sub (by decide) hw | dsimp only)
    | (first | with_reducible apply Same.ite | with_reducible apply State.onNvHead_same)
    | (first | with_reducible apply State.setCumValid_same | with_reducible apply State.record_same)
    | (first | with_reducible apply State.causeAtHead_same | (intro; intros) | split)
    | with_reducible refine Same.upd (m := 68719476736) (hw := ?_) (hk := ?_))

theorem State.voidEntry_same (slot : Nat) (cause : Nat) (code : Nat) (hw : 36893523812827529344 &&& w = 36893523812827529344) (hk : Same w r s) :
    Same w r (State.voidEntry s slot cause code) := by
  unfold State.voidEntry
  repeat' (first
    | (first | with_reducible assumption | with_reducible exact Same.sub (by decide) hw | dsimp only)
    | (first | with_reducible apply Same.ite | with_reducible apply State.causeAtHead_same)
    | (first | with_reducible apply State.onEntry_same | with_reducible apply State.voided_same | (intro; intros))
    | split)

theorem Same.newEntry {l : Ledger} {p : PassageUnit} (hw : 206158430208 &&& w = 206158430208) (hk : Same w r s) :
    Same w r { s with led := l, pas := p } :=
  Same.upd (m := 206158430208) (hw := hw) (hk := hk)

theorem State.allocate_same (h : Fin 8) (dir : Bool) (stamp : Time) (hw : 36893488353577534464 &&& w = 36893488353577534464) (hk : Same w r s) :
    Same w r (State.allocate s h dir stamp).1 := by
  have hc : ∀ l : Vector Nat 4, Same w r { s with nv := { s.nv with ledger := l } } := fun l =>
    Same.upd (m := 1024) (hw := Same.sub (by decide) hw) (hk := hk)
  unfold State.allocate
  dsimp only
  split
  · exact Same.newEntry (Same.sub (by decide) hw) hk
  · split
    · split
      · exact Same.newEntry (Same.sub (by decide) hw) (State.record_same _ _ _ _ (Same.sub (by decide) hw) (hc _))
      · exact Same.newEntry (Same.sub (by decide) hw) hk
    · exact hc _

theorem State.onEp_same (h : Fin 8) (f : Episode → Episode) (hw : 68719476736 &&& w = 68719476736) (hk : Same w r s) :
    Same w r (State.onEp s h f) := by
  unfold State.onEp
  repeat' (first
    | (first | with_reducible assumption | with_reducible exact Same.sub (by decide) hw | dsimp only)
    | (first | (intro; intros) | split | with_reducible refine Same.upd (m := 68719476736) (hw := ?_) (hk := ?_)))

theorem State.closeEpisode_same (h : Fin 8) (hw : 36898590362408321152 &&& w = 36898590362408321152) (hk : Same w r s) :
    Same w r (State.closeEpisode s h) := by
  unfold State.closeEpisode
  repeat' (first
    | (first | with_reducible assumption | with_reducible exact Same.sub (by decide) hw | dsimp only)
    | (first | with_reducible apply Same.ite | with_reducible apply State.onEp_same)
    | (first | with_reducible apply State.voided_same | with_reducible apply State.onEntry_same)
    | (first | with_reducible apply State.onNvHead_same | with_reducible apply State.voidEntry_same)
    | (first | with_reducible apply State.kinRetreat_same | with_reducible apply State.record_same)
    | (first | (intro; intros) | split))

theorem State.passageEvent_same (ev : PresenceEvent) (hw : 36898590362408322176 &&& w = 36898590362408322176) (hk : Same w r s) :
    Same w r (State.passageEvent s ev) := by
  unfold State.passageEvent
  repeat' (first
    | (first | with_reducible assumption | with_reducible exact Same.sub (by decide) hw | dsimp only)
    | (first | with_reducible apply Same.ite | with_reducible apply State.allocate_same)
    | (first | with_reducible apply State.onEp_same | with_reducible apply State.closeEpisode_same)
    | (first | with_reducible apply State.notify_same | (intro; intros) | refine Same.fst (by assumption) ?_)
    | split)

theorem State.dropEvents_same (h : Fin 8) (hw : 103079215104 &&& w = 103079215104) (hk : Same w r s) :
    Same w r (State.dropEvents s h) := by
  unfold State.dropEvents
  repeat' (first
    | (first | with_reducible assumption | with_reducible exact Same.sub (by decide) hw | dsimp only)
    | (first | (intro; intros) | split | with_reducible refine Same.upd (m := 103079215104) (hw := ?_) (hk := ?_)))

theorem State.passageHeadFault_same (h : Fin 8) (t : Option Time) (hw : 36893523812827529344 &&& w = 36893523812827529344) (hk : Same w r s) :
    Same w r (State.passageHeadFault s h t) := by
  unfold State.passageHeadFault
  repeat' (first
    | (first | with_reducible assumption | with_reducible exact Same.sub (by decide) hw | dsimp only)
    | (first | with_reducible apply State.voidEntry_same | with_reducible apply State.onEp_same)
    | (first | with_reducible apply State.each_same | (intro; intros) | split)
    | with_reducible refine Same.upd (m := 68719476736) (hw := ?_) (hk := ?_))

theorem State.takePresence_same (ev : PresenceEvent) (hw : 36898590396768060544 &&& w = 36898590396768060544) (hk : Same w r s) :
    Same w r (State.takePresence s ev) := by
  unfold State.takePresence
  repeat' (first
    | (first | with_reducible assumption | with_reducible exact Same.sub (by decide) hw | dsimp only)
    | (first | with_reducible apply State.onNvHead_same | with_reducible apply State.passageEvent_same)
    | (first | with_reducible apply State.when_same | (intro; intros) | split)
    | with_reducible refine Same.upd (m := 34359738368) (hw := ?_) (hk := ?_))

end Sys2Proof.Machine
end

