-- ==== Sys2Proof/Laws/SameCount.lean ====
section
/-! SUPPORT. What counting, restoration, the power manager and isolation leave as it is. -/

namespace Sys2Proof.Machine

set_option Elab.async false
set_option linter.unusedTactic false
set_option linter.unreachableTactic false
set_option linter.unusedSimpArgs false

variable {w : Nat} {r s : State}

theorem State.raise_same (v : Fin 2) (sec : Fin 4) (code : Nat) (leg : Option (Fin 4)) (hw : 36893488422297010176 &&& w = 36893488422297010176) (hk : Same w r s) :
    Same w r (State.raise s v sec code leg) := by
  unfold State.raise
  repeat' (first
    | (first | with_reducible assumption | with_reducible exact Same.sub (by decide) hw | dsimp only)
    | (first | with_reducible apply Same.ite | with_reducible apply State.onSv_same)
    | (first | with_reducible apply State.record_same | (intro; intros) | split))

theorem State.raiseAtHead_same (v : Fin 2) (h : Fin 8) (code : Nat) (hw : 36893488422297010176 &&& w = 36893488422297010176) (hk : Same w r s) :
    Same w r (State.raiseAtHead s v h code) := by
  unfold State.raiseAtHead
  repeat' (first
    | (first | with_reducible assumption | with_reducible exact Same.sub (by decide) hw | dsimp only)
    | (first | with_reducible apply State.raise_same | with_reducible apply State.each_same | (intro; intros))
    | split)

theorem State.crossCheck_same (v : Fin 2) (k : Fin 8) (detail : Nat) (hw : 36893488422297010176 &&& w = 36893488422297010176) (hk : Same w r s) :
    Same w r (State.crossCheck s v k detail) := by
  unfold State.crossCheck
  repeat' (first
    | (first | with_reducible assumption | with_reducible exact Same.sub (by decide) hw | dsimp only)
    | (first | with_reducible apply State.onSv_same | with_reducible apply State.raise_same)
    | (first | with_reducible apply State.each_same | (intro; intros) | split))

theorem State.transitCheck_same (v : Fin 2) (sec : Fin 4) (q : QPass) (hw : 36893488422297010688 &&& w = 36893488422297010688) (hk : Same w r s) :
    Same w r (State.transitCheck s v sec q) := by
  unfold State.transitCheck
  repeat' (first
    | (first | with_reducible assumption | with_reducible exact Same.sub (by decide) hw | dsimp only)
    | (first | with_reducible apply Same.ite | with_reducible apply State.onSv_same)
    | (first | with_reducible apply State.onNvConn_same | with_reducible apply State.crossCheck_same)
    | (first | (intro; intros) | split))

theorem State.settleOne_same (v : Fin 2) (sec : Fin 4) (q : QPass) (hw : 36893488422297010688 &&& w = 36893488422297010688) (hk : Same w r s) :
    Same w r (State.settleOne s v sec q) := by
  unfold State.settleOne
  repeat' (first
    | (first | with_reducible assumption | with_reducible exact Same.sub (by decide) hw | dsimp only)
    | (first | with_reducible apply Same.ite | with_reducible apply State.onSv_same)
    | (first | with_reducible apply State.transitCheck_same | (intro; intros) | split))

theorem State.checkSettled_same (v : Fin 2) (sec : Fin 4) (hw : 36893488422297010176 &&& w = 36893488422297010176) (hk : Same w r s) :
    Same w r (State.checkSettled s v sec) := by
  unfold State.checkSettled
  repeat' (first
    | (first | with_reducible assumption | with_reducible exact Same.sub (by decide) hw | dsimp only)
    | (first | with_reducible apply State.raise_same | with_reducible apply State.each_same | (intro; intros))
    | split)

theorem State.settleUpTo_same (v : Fin 2) (sec : Fin 4) (t : Time) (hw : 36893488422297010688 &&& w = 36893488422297010688) (hk : Same w r s) :
    Same w r (State.settleUpTo s v sec t) := by
  unfold State.settleUpTo
  repeat' (first
    | (first | with_reducible assumption | with_reducible exact Same.sub (by decide) hw | dsimp only)
    | (first | with_reducible apply Same.ite | with_reducible apply State.onSv_same)
    | (first | with_reducible apply State.settleOne_same | with_reducible apply State.checkSettled_same)
    | (first | with_reducible apply State.each_same | (intro; intros) | split))

theorem State.settle_same (v : Fin 2) (sec : Fin 4) (hw : 36893488422297010688 &&& w = 36893488422297010688) (hk : Same w r s) :
    Same w r (State.settle s v sec) := by
  unfold State.settle
  repeat' (first
    | (first | with_reducible assumption | with_reducible exact Same.sub (by decide) hw | dsimp only)
    | (first | with_reducible apply Same.ite | with_reducible apply State.settleUpTo_same | (intro; intros))
    | split)

theorem State.overlapUnchecked_same (v : Fin 2) (sec : Fin 4) (hw : 256 &&& w = 256) (hk : Same w r s) :
    Same w r (State.overlapUnchecked s v sec) := by
  unfold State.overlapUnchecked
  repeat' (first
    | (first | with_reducible assumption | with_reducible exact Same.sub (by decide) hw | dsimp only)
    | (first | with_reducible apply State.onNvSec_same | with_reducible apply State.when_same | (intro; intros))
    | split)

theorem State.compareZone_same (v : Fin 2) (sec : Fin 4) (n : Fin 4) (k : Fin 8) (hw : 36893488422297010432 &&& w = 36893488422297010432) (hk : Same w r s) :
    Same w r (State.compareZone s v sec n k) := by
  unfold State.compareZone
  repeat' (first
    | (first | with_reducible assumption | with_reducible exact Same.sub (by decide) hw | dsimp only)
    | (first | with_reducible apply Same.ite | with_reducible apply State.onSv_same)
    | (first | with_reducible apply State.overlapUnchecked_same | with_reducible apply State.raise_same)
    | (first | with_reducible apply State.each_same | (intro; intros) | split))

theorem State.compareInternal_same (v : Fin 2) (sec : Fin 4) (n : Fin 4) (hw : 36893488422297010432 &&& w = 36893488422297010432) (hk : Same w r s) :
    Same w r (State.compareInternal s v sec n) := by
  unfold State.compareInternal
  repeat' (first
    | (first | with_reducible assumption | with_reducible exact Same.sub (by decide) hw | dsimp only)
    | (first | with_reducible apply Same.ite | with_reducible apply State.raise_same)
    | (first | with_reducible apply State.overlapUnchecked_same | (intro; intros) | split))

theorem State.compareOverlaps_same (v : Fin 2) (sec : Fin 4) (settled : Bool) (hw : 36893488422297010432 &&& w = 36893488422297010432) (hk : Same w r s) :
    Same w r (State.compareOverlaps s v sec settled) := by
  unfold State.compareOverlaps
  repeat' (first
    | (first | with_reducible assumption | with_reducible exact Same.sub (by decide) hw | dsimp only)
    | (first | with_reducible apply Same.ite | with_reducible apply State.compareZone_same)
    | (first | with_reducible apply State.compareInternal_same | with_reducible apply State.each_same)
    | (first | (intro; intros) | split))

theorem State.countSection_same (v : Fin 2) (sec : Fin 4) (en : Entry) (hw : 36893488422297010176 &&& w = 36893488422297010176) (hk : Same w r s) :
    Same w r (State.countSection s v sec en) := by
  unfold State.countSection
  repeat' (first
    | (first | with_reducible assumption | with_reducible exact Same.sub (by decide) hw | dsimp only)
    | (first | with_reducible apply Same.ite | with_reducible apply State.onSv_same)
    | (first | with_reducible apply State.enqueue_same | with_reducible apply State.raise_same)
    | (first | with_reducible apply State.when_same | with_reducible apply State.whenSome_same | (intro; intros))
    | split)

theorem State.acknowledge_same (v : Fin 2) (slot : Nat) (alone : Bool) (hw : 137438953472 &&& w = 137438953472) (hk : Same w r s) :
    Same w r (State.acknowledge s v slot alone) := by
  unfold State.acknowledge
  repeat' (first
    | (first | with_reducible assumption | with_reducible exact Same.sub (by decide) hw | dsimp only)
    | (first | with_reducible apply Same.ite | with_reducible apply State.onEntry_same | (intro; intros) | split)
    | with_reducible refine Same.upd (m := 137438953472) (hw := ?_) (hk := ?_))

theorem State.peaksCounted_same (en : Entry) (hw : 64 &&& w = 64) (hk : Same w r s) :
    Same w r (State.peaksCounted s en) := by
  unfold State.peaksCounted
  repeat' (first
    | (first | with_reducible assumption | with_reducible exact Same.sub (by decide) hw | dsimp only)
    | (first | with_reducible apply State.onNvChan_same | (intro; intros) | split))

theorem State.unacknowledge_same (v : Fin 2) (hw : 137438953472 &&& w = 137438953472) (hk : Same w r s) :
    Same w r (State.unacknowledge s v) := by
  unfold State.unacknowledge
  repeat' (first
    | (first | with_reducible assumption | with_reducible exact Same.sub (by decide) hw | dsimp only)
    | (first | with_reducible apply Same.ite | with_reducible apply State.onEntry_same)
    | (first | with_reducible apply State.each_same | with_reducible apply foldl_same | (intro; intros) | split)
    | with_reducible refine Same.upd (m := 137438953472) (hw := ?_) (hk := ?_))

theorem State.becameCounted_same (en : Entry) (hw : 332046459876352721088 &&& w = 332046459876352721088) (hk : Same w r s) :
    Same w r (State.becameCounted s en) := by
  unfold State.becameCounted
  repeat' (first
    | (first | with_reducible assumption | with_reducible exact Same.sub (by decide) hw | dsimp only)
    | (first | with_reducible apply Same.ite | with_reducible apply State.pulse_same)
    | (first | with_reducible apply State.kinPassage_same | with_reducible apply State.onNvHead_same)
    | (first | with_reducible apply State.peaksCounted_same | with_reducible apply State.record_same)
    | (first | with_reducible apply State.when_same | with_reducible apply State.each_same | (intro; intros))
    | split)

theorem State.keepForNeighbour_same (v : Fin 2) (en : Entry) (alone : Bool) (hw : 274877906944 &&& w = 274877906944) (hk : Same w r s) :
    Same w r (State.keepForNeighbour s v en alone) := by
  unfold State.keepForNeighbour
  repeat' (first
    | (first | with_reducible assumption | with_reducible exact Same.sub (by decide) hw | dsimp only)
    | (first | with_reducible apply Same.ite | with_reducible apply State.onSv_same)
    | (first | with_reducible apply State.each_same | (intro; intros) | split))

theorem State.countEntry_same (v : Fin 2) (slot : Fin 2048) (alone : Bool) (hw : 332046460288669581504 &&& w = 332046460288669581504) (hk : Same w r s) :
    Same w r (State.countEntry s v slot alone) := by
  unfold State.countEntry
  repeat' (first
    | (first | with_reducible assumption | with_reducible exact Same.sub (by decide) hw | dsimp only)
    | (first | with_reducible apply Same.ite | with_reducible apply State.onSv_same)
    | (first | with_reducible apply State.keepForNeighbour_same | with_reducible apply State.countSection_same)
    | (first | with_reducible apply State.acknowledge_same | with_reducible apply State.becameCounted_same)
    | (first | with_reducible apply State.each_same | (intro; intros) | split))

theorem State.knownVehicles_same (v : Fin 2) (hw : 274877906944 &&& w = 274877906944) (hk : Same w r s) :
    Same w r (State.knownVehicles s v) := by
  unfold State.knownVehicles
  repeat' (first
    | (first | with_reducible assumption | with_reducible exact Same.sub (by decide) hw | dsimp only)
    | (first | with_reducible apply State.onSv_same | with_reducible apply State.each_same | (intro; intros))
    | split)

theorem State.concluded_same (v : Fin 2) (h : Fin 8) (e : Episode) (slot : Fin 2048) (alone : Bool) (hw : 332046495541761147072 &&& w = 332046495541761147072) (hk : Same w r s) :
    Same w r (State.concluded s v h e slot alone) := by
  unfold State.concluded
  repeat' (first
    | (first | with_reducible assumption | with_reducible exact Same.sub (by decide) hw | dsimp only)
    | (first | with_reducible apply Same.ite | with_reducible apply State.countEntry_same)
    | (first | with_reducible apply State.onEntry_same | with_reducible apply State.voided_same)
    | (first | with_reducible apply State.raiseAtHead_same | with_reducible apply State.record_same)
    | (first | (intro; intros) | split))

theorem State.provisionalDir_same (v : Fin 2) (sec : Fin 4) (n : Fin 4) (h : Fin 8) (hw : 274877906944 &&& w = 274877906944) (hk : Same w r s) :
    Same w r (State.provisionalDir s v sec n h) := by
  unfold State.provisionalDir
  repeat' (first
    | (first | with_reducible assumption | with_reducible exact Same.sub (by decide) hw | dsimp only)
    | (first | with_reducible apply Same.ite | with_reducible apply State.onSv_same | (intro; intros) | split))

theorem State.endProvisional_same (v : Fin 2) (h : Fin 8) (counted : Bool) (hw : 274877906944 &&& w = 274877906944) (hk : Same w r s) :
    Same w r (State.endProvisional s v h counted) := by
  unfold State.endProvisional
  repeat' (first
    | (first | with_reducible assumption | with_reducible exact Same.sub (by decide) hw | dsimp only)
    | (first | with_reducible apply Same.ite | with_reducible apply State.onSv_same | (intro; intros) | split))

theorem State.takeEvent_same (v : Fin 2) (ev : PresenceEvent) (slot : Option (Fin 2048)) (ended alone : Bool) (trig : BitVec 4) (hw : 332046495541761147072 &&& w = 332046495541761147072) (hk : Same w r s) :
    Same w r (State.takeEvent s v ev slot ended alone trig).1 := by
  unfold State.takeEvent
  repeat' (first
    | (first | with_reducible assumption | with_reducible exact Same.sub (by decide) hw | dsimp only)
    | (first | with_reducible apply State.onSv_same | with_reducible apply State.provisionalDir_same)
    | (first | with_reducible apply State.concluded_same | with_reducible apply State.endProvisional_same)
    | (first | with_reducible apply State.when_same | with_reducible apply State.each_same)
    | (first | with_reducible apply foldl_same | (intro; intros) | split))

theorem State.takeInbox_same (v : Fin 2) (alone : Bool) (hw : 332046495541761147072 &&& w = 332046495541761147072) (hk : Same w r s) :
    Same w r (State.takeInbox s v alone).1 := by
  refine foldl_same_fst (fun u n hu => ?_) _ (State.onSv_same v (fun x => { x with inbox := [] }) (Same.sub (by decide) hw) hk)
  cases n with
  | presence ev slot ended => exact State.takeEvent_same _ _ _ _ _ _ (Same.sub (by decide) hw) hu
  | headFault a => exact State.onSv_same _ _ (Same.sub (by decide) hw) hu
  | cause sec code leg => exact State.raise_same _ _ _ _ (Same.sub (by decide) hw) hu

theorem State.bothSv_same (f : Fin 2 → Sv → Sv) (hw : 274877906944 &&& w = 274877906944) (hk : Same w r s) :
    Same w r (State.bothSv s f) := by
  unfold State.bothSv
  repeat' (first
    | (first | with_reducible assumption | with_reducible exact Same.sub (by decide) hw | dsimp only)
    | (first | with_reducible apply State.onSv_same | with_reducible apply State.each_same | (intro; intros))
    | split)

theorem State.cvuDone_same (hw : 4503599627370496 &&& w = 4503599627370496) (hk : Same w r s) :
    Same w r (State.cvuDone s) := by
  unfold State.cvuDone
  repeat' (first
    | (first | with_reducible assumption | with_reducible exact Same.sub (by decide) hw | dsimp only)
    | (first | with_reducible apply State.pulse_same | with_reducible apply State.each_same | (intro; intros))
    | split)

theorem State.applyZoneReset_same (v : Fin 2) (sec : Fin 4) (t : Time) (hw : 36893488422297010176 &&& w = 36893488422297010176) (hk : Same w r s) :
    Same w r (State.applyZoneReset s v sec t) := by
  unfold State.applyZoneReset
  repeat' (first
    | (first | with_reducible assumption | with_reducible exact Same.sub (by decide) hw | dsimp only)
    | (first | with_reducible apply Same.ite | with_reducible apply State.onSv_same)
    | (first | with_reducible apply State.record_same | with_reducible apply State.checkSettled_same)
    | (first | (intro; intros) | split))

theorem State.zoneResetDue_same (v : Fin 2) (sec : Fin 4) (hw : 36893488422297010176 &&& w = 36893488422297010176) (hk : Same w r s) :
    Same w r (State.zoneResetDue s v sec) := by
  unfold State.zoneResetDue
  repeat' (first
    | (first | with_reducible assumption | with_reducible exact Same.sub (by decide) hw | dsimp only)
    | (first | with_reducible apply Same.ite | with_reducible apply State.applyZoneReset_same | (intro; intros))
    | split)

theorem State.enter_same (v : Fin 2) (sec : Fin 4) (st : SecState) (route : Nat) (hw : 274877906944 &&& w = 274877906944) (hk : Same w r s) :
    Same w r (State.enter s v sec st route) := by
  unfold State.enter
  repeat' (first
    | (first | with_reducible assumption | with_reducible exact Same.sub (by decide) hw | dsimp only)
    | (first | with_reducible apply Same.ite | with_reducible apply State.onSv_same | (intro; intros) | split))

theorem State.refuse_same (v : Fin 2) (g : BitVec 4) (code : Nat) (once : Bool) (hw : 36897992021924380672 &&& w = 36897992021924380672) (hk : Same w r s) :
    Same w r (State.refuse s v g code once) := by
  unfold State.refuse
  repeat' (first
    | (first | with_reducible assumption | with_reducible exact Same.sub (by decide) hw | dsimp only)
    | (first | with_reducible apply Same.ite | with_reducible apply State.onSv_same)
    | (first | with_reducible apply State.record_same | with_reducible apply State.pulse_same)
    | (first | with_reducible apply State.each_same | (intro; intros) | split))

theorem State.chooseTR_same (v : Fin 2) (g : BitVec 4) (tR : Time) (hw : 274877906944 &&& w = 274877906944) (hk : Same w r s) :
    Same w r (State.chooseTR s v g tR) := by
  unfold State.chooseTR
  repeat' (first
    | (first | with_reducible assumption | with_reducible exact Same.sub (by decide) hw | dsimp only)
    | (first | with_reducible apply State.onSv_same | with_reducible apply State.each_same | (intro; intros))
    | split)

theorem State.chooseInternal_same (g : BitVec 4) (hw : 274877906944 &&& w = 274877906944) (hk : Same w r s) :
    Same w r (State.chooseInternal s g) := by
  unfold State.chooseInternal
  repeat' (first
    | (first | with_reducible assumption | with_reducible exact Same.sub (by decide) hw | dsimp only)
    | (first | with_reducible apply Same.ite | with_reducible apply State.chooseTR_same)
    | (first | with_reducible apply State.each_same | with_reducible apply foldl_same | (intro; intros) | split))

theorem State.request_same (v : Fin 2) (sec : Fin 4) (hw : 36897992021924380672 &&& w = 36897992021924380672) (hk : Same w r s) :
    Same w r (State.request s v sec) := by
  unfold State.request
  repeat' (first
    | (first | with_reducible assumption | with_reducible exact Same.sub (by decide) hw | dsimp only)
    | (first | with_reducible apply Same.ite | with_reducible apply State.refuse_same)
    | (first | with_reducible apply State.onSv_same | with_reducible apply State.chooseInternal_same)
    | (first | with_reducible apply State.each_same | (intro; intros) | split))

theorem State.compute_same (v : Fin 2) (sec : Fin 4) (hw : 36897992021924380672 &&& w = 36897992021924380672) (hk : Same w r s) :
    Same w r (State.compute s v sec) := by
  unfold State.compute
  repeat' (first
    | (first | with_reducible assumption | with_reducible exact Same.sub (by decide) hw | dsimp only)
    | (first | with_reducible apply Same.ite | with_reducible apply State.refuse_same)
    | (first | with_reducible apply State.onSv_same | (intro; intros) | split))

theorem State.rebaseHead_same (h : Fin 8) (intoPos : Bool) (required : Int) (tR : Time) (hw : 36893523606669099136 &&& w = 36893523606669099136) (hk : Same w r s) :
    Same w r (State.rebaseHead s h intoPos required tR) := by
  unfold State.rebaseHead
  repeat' (first
    | (first | with_reducible assumption | with_reducible exact Same.sub (by decide) hw | dsimp only)
    | (first | with_reducible apply Same.ite | with_reducible apply State.bothSv_same)
    | (first | with_reducible apply State.setCumValid_same | with_reducible apply State.onNvHead_same)
    | (first | with_reducible apply State.record_same | (intro; intros) | split))

theorem State.rebaseOuter_same (sec : Fin 4) (n : Fin 4) (a : Answer) (tR : Time) (hw : 36893523606669099136 &&& w = 36893523606669099136) (hk : Same w r s) :
    Same w r (State.rebaseOuter s sec n a tR) := by
  unfold State.rebaseOuter
  repeat' (first
    | (first | with_reducible assumption | with_reducible exact Same.sub (by decide) hw | dsimp only)
    | (first | with_reducible apply State.rebaseHead_same | (intro; intros) | split))

theorem State.rebaseGroup_same (g : BitVec 4) (terms : List ((Fin 4 × Fin 4) × Answer)) (tR : Time) (hw : 36893523606669099136 &&& w = 36893523606669099136) (hk : Same w r s) :
    Same w r (State.rebaseGroup s g terms tR) := by
  unfold State.rebaseGroup
  repeat' (first
    | (first | with_reducible assumption | with_reducible exact Same.sub (by decide) hw | dsimp only)
    | (first | with_reducible apply Same.ite | with_reducible apply State.rebaseOuter_same)
    | (first | with_reducible apply State.rebaseHead_same | with_reducible apply State.each_same)
    | (first | with_reducible apply foldl_same | (intro; intros) | split))

theorem State.resultFailed_same (v : Fin 2) (sec : Fin 4) (hw : 36897992021924380672 &&& w = 36897992021924380672) (hk : Same w r s) :
    Same w r (State.resultFailed s v sec) := by
  unfold State.resultFailed
  repeat' (first
    | (first | with_reducible assumption | with_reducible exact Same.sub (by decide) hw | dsimp only)
    | (first | with_reducible apply Same.ite | with_reducible apply State.onSv_same)
    | (first | with_reducible apply State.record_same | with_reducible apply State.pulse_same | (intro; intros))
    | split)

theorem State.applySection_same (v : Fin 2) (sec : Fin 4) (core total : Int) (zones : List ((Fin 4 × Fin 4) × Int)) (single : Bool) (tR : Time) (hw : 36897992021924381184 &&& w = 36897992021924381184) (hk : Same w r s) :
    Same w r (State.applySection s v sec core total zones single tR) := by
  unfold State.applySection
  repeat' (first
    | (first | with_reducible assumption | with_reducible exact Same.sub (by decide) hw | dsimp only)
    | (first | with_reducible apply Same.ite | with_reducible apply State.onSv_same)
    | (first | with_reducible apply State.settleUpTo_same | with_reducible apply State.checkSettled_same)
    | (first | with_reducible apply State.resultFailed_same | with_reducible apply State.when_same)
    | (first | (intro; intros) | split))

theorem State.applyResults_same (sec : Fin 4) (hw : 36898027206296470144 &&& w = 36898027206296470144) (hk : Same w r s) :
    Same w r (State.applyResults s sec) := by
  unfold State.applyResults
  repeat' (first
    | (first | with_reducible assumption | with_reducible exact Same.sub (by decide) hw | dsimp only)
    | (first | with_reducible apply Same.ite | with_reducible apply State.refuse_same)
    | (first | with_reducible apply State.applySection_same | with_reducible apply State.rebaseGroup_same)
    | (first | with_reducible apply State.pulse_same | with_reducible apply State.each_same | (intro; intros))
    | split)

theorem State.horizons_same (v : Fin 2) (hw : 274877906944 &&& w = 274877906944) (hk : Same w r s) :
    Same w r (State.horizons s v) := by
  unfold State.horizons
  repeat' (first
    | (first | with_reducible assumption | with_reducible exact Same.sub (by decide) hw | dsimp only)
    | (first | with_reducible apply Same.ite | with_reducible apply State.onSv_same | (intro; intros) | split))

theorem State.powerChange_same (x : PState) (hw : 55344735820756025344 &&& w = 55344735820756025344) (hk : Same w r s) :
    Same w r (State.powerChange s x) := by
  unfold State.powerChange
  repeat' (first
    | (first | with_reducible assumption | with_reducible exact Same.sub (by decide) hw | dsimp only)
    | (first | with_reducible apply Same.ite | with_reducible apply State.record_same)
    | (first | with_reducible apply State.pulse_same | (intro; intros) | split)
    | with_reducible refine Same.upd (m := 18446744073709551616) (hw := ?_) (hk := ?_))

theorem State.wakeEvent_same (source : Nat) (hw : 18446744073709551616 &&& w = 18446744073709551616) (hk : Same w r s) :
    Same w r (State.wakeEvent s source) := by
  unfold State.wakeEvent
  repeat' (first
    | (first | with_reducible assumption | with_reducible exact Same.sub (by decide) hw | dsimp only)
    | (first | with_reducible apply Same.ite | with_reducible apply State.when_same | (intro; intros) | split)
    | with_reducible refine Same.upd (m := 18446744073709551616) (hw := ?_) (hk := ?_))

theorem State.managePower_same (hw : 55344735820756025344 &&& w = 55344735820756025344) (hk : Same w r s) :
    Same w r (State.managePower s) := by
  unfold State.managePower
  repeat' (first
    | (first | with_reducible assumption | with_reducible exact Same.sub (by decide) hw | dsimp only)
    | (first | with_reducible apply Same.ite | with_reducible apply State.powerChange_same)
    | (first | with_reducible apply State.wakeEvent_same | (intro; intros) | split)
    | with_reducible refine Same.upd (m := 18446744073709551616) (hw := ?_) (hk := ?_))

theorem State.isoRefuse_same (i : Isolation) (code : Nat) (hw : 184471944336722886656 &&& w = 184471944336722886656) (hk : Same w r s) :
    Same w r (State.isoRefuse s i code) := by
  unfold State.isoRefuse
  repeat' (first
    | (first | with_reducible assumption | with_reducible exact Same.sub (by decide) hw | dsimp only)
    | (first | with_reducible apply State.record_same | with_reducible apply State.pulse_same | (intro; intros))
    | (first | split | with_reducible refine Same.upd (m := 147573952589676412928) (hw := ?_) (hk := ?_)))

theorem State.isoResult_same (i : Isolation) (result patterns : Nat) (hw : 184471944336722886656 &&& w = 184471944336722886656) (hk : Same w r s) :
    Same w r (State.isoResult s i result patterns) := by
  unfold State.isoResult
  repeat' (first
    | (first | with_reducible assumption | with_reducible exact Same.sub (by decide) hw | dsimp only)
    | (first | with_reducible apply State.record_same | with_reducible apply State.pulse_same | (intro; intros))
    | (first | split | with_reducible refine Same.upd (m := 147573952589676412928) (hw := ?_) (hk := ?_)))

theorem State.isoAbort_same (horizon : Bool) (hw : 479619849516075712512 &&& w = 479619849516075712512) (hk : Same w r s) :
    Same w r (State.isoAbort s horizon) := by
  unfold State.isoAbort
  repeat' (first
    | (first | with_reducible assumption | with_reducible exact Same.sub (by decide) hw | dsimp only)
    | (first | with_reducible apply Same.ite | with_reducible apply State.drawFree_same)
    | (first | with_reducible apply State.isoResult_same | (intro; intros) | refine Same.snd (by assumption) ?_)
    | (first | split | with_reducible refine Same.upd (m := 147573952589676412928) (hw := ?_) (hk := ?_)))

theorem State.isoWheel_same (v : Fin 2) (hw : 479619849790953619456 &&& w = 479619849790953619456) (hk : Same w r s) :
    Same w r (State.isoWheel s v) := by
  unfold State.isoWheel
  repeat' (first
    | (first | with_reducible assumption | with_reducible exact Same.sub (by decide) hw | dsimp only)
    | (first | with_reducible apply Same.ite | with_reducible apply State.raise_same)
    | (first | with_reducible apply State.isoAbort_same | with_reducible apply State.each_same | (intro; intros))
    | (first | split | with_reducible refine Same.upd (m := 147573952589676412928) (hw := ?_) (hk := ?_)))

theorem State.isoWatch_same (v : Fin 2) (hw : 479619849516075712512 &&& w = 479619849516075712512) (hk : Same w r s) :
    Same w r (State.isoWatch s v) := by
  unfold State.isoWatch
  repeat' (first
    | (first | with_reducible assumption | with_reducible exact Same.sub (by decide) hw | dsimp only)
    | (first | with_reducible apply Same.ite | with_reducible apply State.isoAbort_same | (intro; intros) | split))

end Sys2Proof.Machine
end

