-- ==== Sys2Proof/Laws/SameFront.lean ====
section
/-! SUPPORT. What the front end, the scanner and the signal engines leave as it is. -/

namespace Sys2Proof.Machine

set_option Elab.async false
set_option linter.unusedTactic false
set_option linter.unreachableTactic false
set_option linter.unusedSimpArgs false

variable {w : Nat} {r s : State}

theorem State.rootRound_same (k : Nat) (q : Rat) (hw : 295147905179352825856 &&& w = 295147905179352825856) (hk : Same w r s) :
    Same w r (State.rootRound s k q).2 := by
  unfold State.rootRound
  repeat' (first
    | (first | with_reducible assumption | with_reducible exact Same.sub (by decide) hw | dsimp only)
    | (first | with_reducible apply Same.ite2 | with_reducible apply State.unstatedRound_same | (intro; intros))
    | (first | refine Same.snd (by assumption) ?_ | split))

theorem State.dataOf_same (v : Rat) (gain : Nat) (hw : 295147905179352825856 &&& w = 295147905179352825856) (hk : Same w r s) :
    Same w r (State.dataOf s v gain).2 := by
  unfold State.dataOf
  repeat' (first
    | (first | with_reducible assumption | with_reducible exact Same.sub (by decide) hw | dsimp only)
    | (first | with_reducible apply Same.ite2 | with_reducible apply State.unstatedRound_same | (intro; intros))
    | (first | refine Same.snd (by assumption) ?_ | split))

theorem State.decibels_same (n : Nat) (sq : Rat) (hw : 295147905179352825856 &&& w = 295147905179352825856) (hk : Same w r s) :
    Same w r (State.decibels s n sq).2 := by
  unfold State.decibels
  repeat' (first
    | (first | with_reducible assumption | with_reducible exact Same.sub (by decide) hw | dsimp only)
    | (first | with_reducible apply Same.ite2 | with_reducible apply State.drawFree_same)
    | (first | with_reducible apply State.unstatedRound_same | (intro; intros))
    | (first | refine Same.snd (by assumption) ?_ | split))

theorem State.bandNow_same (c : Fin 16) (hw : 295147905179352825856 &&& w = 295147905179352825856) (hk : Same w r s) :
    Same w r (State.bandNow s c).2 := by
  unfold State.bandNow
  repeat' (first
    | (first | with_reducible assumption | with_reducible exact Same.sub (by decide) hw | dsimp only)
    | (first | with_reducible apply Same.ite2 | (intro; intros) | split)
    | with_reducible refine Same.upd (m := 295147905179352825856) (hw := ?_) (hk := ?_))

theorem State.warn_same (c : Fin 16) (k : WarnKind) (hw : 36893488147435880448 &&& w = 36893488147435880448) (hk : Same w r s) :
    Same w r (State.warn s c k) := by
  unfold State.warn
  repeat' (first
    | (first | with_reducible assumption | with_reducible exact Same.sub (by decide) hw | dsimp only)
    | (first | with_reducible apply State.onWarn_same | with_reducible apply State.record_same)
    | (first | with_reducible apply State.when_same | (intro; intros) | split))

theorem State.warnCond_same (c : Fin 16) (k : WarnKind) (on : Bool) (hw : 16777216 &&& w = 16777216) (hk : Same w r s) :
    Same w r (State.warnCond s c k on) := by
  unfold State.warnCond
  repeat' (first
    | (first | with_reducible assumption | with_reducible exact Same.sub (by decide) hw | dsimp only)
    | (first | with_reducible apply Same.ite | with_reducible apply State.onWarn_same | (intro; intros) | split))

theorem State.warnWhile_same (c : Fin 16) (k : WarnKind) (on : Bool) (hw : 36893488147435880448 &&& w = 36893488147435880448) (hk : Same w r s) :
    Same w r (State.warnWhile s c k on) := by
  unfold State.warnWhile
  repeat' (first
    | (first | with_reducible assumption | with_reducible exact Same.sub (by decide) hw | dsimp only)
    | (first | with_reducible apply State.warnCond_same | with_reducible apply State.warn_same)
    | (first | with_reducible apply State.when_same | (intro; intros) | split))

theorem State.amonRefresh_same (hw : 268435456 &&& w = 268435456) (hk : Same w r s) :
    Same w r (State.amonRefresh s) := by
  unfold State.amonRefresh
  repeat' (first
    | (first | with_reducible assumption | with_reducible exact Same.sub (by decide) hw | dsimp only)
    | (first | (intro; intros) | split | with_reducible refine Same.upd (m := 268435456) (hw := ?_) (hk := ?_)))

theorem State.amonShow_same (c : Fin 16) (zL zH : Cx) (hw : 268435456 &&& w = 268435456) (hk : Same w r s) :
    Same w r (State.amonShow s c zL zH) := by
  unfold State.amonShow
  repeat' (first
    | (first | with_reducible assumption | with_reducible exact Same.sub (by decide) hw | dsimp only)
    | (first | with_reducible apply Same.ite | (intro; intros) | split)
    | with_reducible refine Same.upd (m := 268435456) (hw := ?_) (hk := ?_))

theorem State.abortProof_same (c : Fin 16) (hw : 36897991749193957376 &&& w = 36897991749193957376) (hk : Same w r s) :
    Same w r (State.abortProof s c) := by
  unfold State.abortProof
  repeat' (first
    | (first | with_reducible assumption | with_reducible exact Same.sub (by decide) hw | dsimp only)
    | (first | with_reducible apply Same.ite | with_reducible apply State.onProof_same)
    | (first | with_reducible apply State.record_same | with_reducible apply State.pulse_same | (intro; intros))
    | split)

theorem State.chanFault_same (c : Fin 16) (prov : Nat) (back : Time) (detect : Nat) (hw : 36898034013056270528 &&& w = 36898034013056270528) (hk : Same w r s) :
    Same w r (State.chanFault s c prov back detect) := by
  unfold State.chanFault
  repeat' (first
    | (first | with_reducible assumption | with_reducible exact Same.sub (by decide) hw | dsimp only)
    | (first | with_reducible apply Same.ite | with_reducible apply State.abortProof_same)
    | (first | with_reducible apply State.onChan_same | with_reducible apply State.onNvChan_same)
    | (first | with_reducible apply State.onStats_same | with_reducible apply State.onScan_same)
    | (first | with_reducible apply State.setCumValid_same | with_reducible apply State.notify_same)
    | (first | with_reducible apply State.passageHeadFault_same | with_reducible apply State.dropForHead_same)
    | (first | with_reducible apply State.requalify_same | with_reducible apply State.amonRefresh_same)
    | (first | with_reducible apply foldl_same | (intro; intros) | split))

theorem State.recordFault_same (c : Fin 16) (cause : Nat) (hw : 36893488147419103232 &&& w = 36893488147419103232) (hk : Same w r s) :
    Same w r (State.recordFault s c cause) := by
  unfold State.recordFault
  repeat' (first
    | (first | with_reducible assumption | with_reducible exact Same.sub (by decide) hw | dsimp only)
    | (first | with_reducible apply State.record_same | (intro; intros) | split))

theorem State.monitorSeen_same (c : Fin 16) (hw : 8388608 &&& w = 8388608) (hk : Same w r s) :
    Same w r (State.monitorSeen s c) := by
  unfold State.monitorSeen
  repeat' (first
    | (first | with_reducible assumption | with_reducible exact Same.sub (by decide) hw | dsimp only)
    | (first | with_reducible apply Same.ite | with_reducible apply State.onChan_same | (intro; intros) | split))

theorem State.maskFrom_same (c : Fin 16) (move : Bool) (hw : 36897991750007652352 &&& w = 36897991750007652352) (hk : Same w r s) :
    Same w r (State.maskFrom s c move) := by
  unfold State.maskFrom
  repeat' (first
    | (first | with_reducible assumption | with_reducible exact Same.sub (by decide) hw | dsimp only)
    | (first | with_reducible apply Same.ite | with_reducible apply State.abortProof_same)
    | (first | with_reducible apply State.onChan_same | with_reducible apply State.onDet_same)
    | (first | with_reducible apply State.amonRefresh_same | (intro; intros) | split))

theorem State.applyChanges_same (c : Fin 16) (l : List ChanChange) (hw : 36897991750007652416 &&& w = 36897991750007652416) (hk : Same w r s) :
    Same w r (State.applyChanges s c l) := by
  unfold State.applyChanges
  repeat' (first
    | (first | with_reducible assumption | with_reducible exact Same.sub (by decide) hw | dsimp only)
    | (first | with_reducible apply State.onChan_same | with_reducible apply State.onNvChan_same)
    | (first | with_reducible apply State.maskFrom_same | with_reducible apply State.when_same)
    | (first | with_reducible apply foldl_same | (intro; intros) | split))

theorem State.commandChange_same (c : Fin 16) (x : ChanChange) (hw : 36897991750007652416 &&& w = 36897991750007652416) (hk : Same w r s) :
    Same w r (State.commandChange s c x) := by
  unfold State.commandChange
  repeat' (first
    | (first | with_reducible assumption | with_reducible exact Same.sub (by decide) hw | dsimp only)
    | (first | with_reducible apply Same.ite | with_reducible apply State.onChan_same)
    | (first | with_reducible apply State.applyChanges_same | (intro; intros) | split))

theorem State.startCal_same (c : Fin 16) (rep : CalReport) (hw : 276824064 &&& w = 276824064) (hk : Same w r s) :
    Same w r (State.startCal s c rep) := by
  unfold State.startCal
  repeat' (first
    | (first | with_reducible assumption | with_reducible exact Same.sub (by decide) hw | dsimp only)
    | (first | with_reducible apply State.onChan_same | with_reducible apply State.amonRefresh_same)
    | (first | (intro; intros) | split))

theorem State.carryPresence_same (c : Fin 16) (hw : 34896609280 &&& w = 34896609280) (hk : Same w r s) :
    Same w r (State.carryPresence s c) := by
  unfold State.carryPresence
  repeat' (first
    | (first | with_reducible assumption | with_reducible exact Same.sub (by decide) hw | dsimp only)
    | (first | with_reducible apply State.onDet_same | (intro; intros) | split)
    | with_reducible refine Same.upd (m := 34359738368) (hw := ?_) (hk := ?_))

theorem State.baselineCheck_same (c : Fin 16) (stored : Option (Cx × Cx)) (hw : 295147905214249435200 &&& w = 295147905214249435200) (hk : Same w r s) :
    Same w r (State.baselineCheck s c stored) := by
  unfold State.baselineCheck
  repeat' (first
    | (first | with_reducible assumption | with_reducible exact Same.sub (by decide) hw | dsimp only)
    | (first | with_reducible apply Same.ite | with_reducible apply State.bandNow_same)
    | (first | with_reducible apply State.onDet_same | with_reducible apply State.onNvChan_same)
    | (first | with_reducible apply State.carryPresence_same | (intro; intros))
    | (first | refine Same.snd (by assumption) ?_ | split))

theorem State.enterService_same (c : Fin 16) (hw : 3254779904 &&& w = 3254779904) (hk : Same w r s) :
    Same w r (State.enterService s c) := by
  unfold State.enterService
  repeat' (first
    | (first | with_reducible assumption | with_reducible exact Same.sub (by decide) hw | dsimp only)
    | (first | with_reducible apply Same.ite | with_reducible apply State.onProof_same)
    | (first | with_reducible apply State.onStats_same | with_reducible apply State.onScan_same | (intro; intros))
    | split)

theorem State.headReturns_same (h : Fin 8) (hw : 68719476736 &&& w = 68719476736) (hk : Same w r s) :
    Same w r (State.headReturns s h) := by
  unfold State.headReturns
  repeat' (first
    | (first | with_reducible assumption | with_reducible exact Same.sub (by decide) hw | dsimp only)
    | (first | with_reducible apply Same.ite | (intro; intros) | split)
    | with_reducible refine Same.upd (m := 68719476736) (hw := ?_) (hk := ?_))

theorem State.calFails_same (c : Fin 16) (cause : Nat) (hw : 36898034013056270528 &&& w = 36898034013056270528) (hk : Same w r s) :
    Same w r (State.calFails s c cause) := by
  unfold State.calFails
  repeat' (first
    | (first | with_reducible assumption | with_reducible exact Same.sub (by decide) hw | dsimp only)
    | (first | with_reducible apply Same.ite | with_reducible apply State.onChan_same)
    | (first | with_reducible apply State.chanFault_same | (intro; intros) | split))

theorem State.calRamp_same (c : Fin 16) (rep : CalReport) (hw : 36898034013073047744 &&& w = 36898034013073047744) (hk : Same w r s) :
    Same w r (State.calRamp s c rep) := by
  unfold State.calRamp
  repeat' (first
    | (first | with_reducible assumption | with_reducible exact Same.sub (by decide) hw | dsimp only)
    | (first | with_reducible apply State.calFails_same | with_reducible apply State.onChan_same)
    | (first | with_reducible apply State.warnWhile_same | (intro; intros) | split))

theorem State.calGain_same (c : Fin 16) (rep : CalReport) (hw : 36898034013056270528 &&& w = 36898034013056270528) (hk : Same w r s) :
    Same w r (State.calGain s c rep) := by
  unfold State.calGain
  repeat' (first
    | (first | with_reducible assumption | with_reducible exact Same.sub (by decide) hw | dsimp only)
    | (first | with_reducible apply Same.ite | with_reducible apply State.calFails_same)
    | (first | with_reducible apply State.onChan_same | (intro; intros) | split))

theorem State.calAverages_same (c : Fin 16) (rep : CalReport) (hw : 545259520 &&& w = 545259520) (hk : Same w r s) :
    Same w r (State.calAverages s c rep) := by
  unfold State.calAverages
  repeat' (first
    | (first | with_reducible assumption | with_reducible exact Same.sub (by decide) hw | dsimp only)
    | (first | with_reducible apply State.onChan_same | with_reducible apply State.onDet_same | (intro; intros))
    | split)

theorem State.calStep_same (c : Fin 16) (hw : 36898034013609918656 &&& w = 36898034013609918656) (hk : Same w r s) :
    Same w r (State.calStep s c) := by
  unfold State.calStep
  repeat' (first
    | (first | with_reducible assumption | with_reducible exact Same.sub (by decide) hw | dsimp only)
    | (first | with_reducible apply Same.ite | with_reducible apply State.onChan_same)
    | (first | with_reducible apply State.calFails_same | with_reducible apply State.calRamp_same)
    | (first | with_reducible apply State.calGain_same | with_reducible apply State.calAverages_same)
    | (first | (intro; intros) | split))

theorem State.calRun_same (c : Fin 16) (hw : 36898034013609918656 &&& w = 36898034013609918656) (hk : Same w r s) :
    Same w r (State.calRun s c) := by
  unfold State.calRun
  repeat' (first
    | (first | with_reducible assumption | with_reducible exact Same.sub (by decide) hw | dsimp only)
    | (first | with_reducible apply State.calStep_same | (intro; intros) | split))

theorem State.calEnds_same (c : Fin 16) (hw : 295147907485523771456 &&& w = 295147907485523771456) (hk : Same w r s) :
    Same w r (State.calEnds s c) := by
  unfold State.calEnds
  repeat' (first
    | (first | with_reducible assumption | with_reducible exact Same.sub (by decide) hw | dsimp only)
    | (first | with_reducible apply Same.ite | with_reducible apply State.onNvChan_same)
    | (first | with_reducible apply State.onChan_same | with_reducible apply State.enterService_same)
    | (first | with_reducible apply State.baselineCheck_same | with_reducible apply State.headReturns_same)
    | (first | with_reducible apply State.requalify_same | with_reducible apply State.amonRefresh_same)
    | (first | (intro; intros) | split))

theorem State.ptTemp_same (ohms : Rat) (hw : 295147905179352825856 &&& w = 295147905179352825856) (hk : Same w r s) :
    Same w r (State.ptTemp s ohms).2 := by
  unfold State.ptTemp
  repeat' (first
    | (first | with_reducible assumption | with_reducible exact Same.sub (by decide) hw | dsimp only)
    | (first | with_reducible apply Same.ite2 | with_reducible apply State.unstatedRound_same | (intro; intros))
    | (first | refine Same.snd (by assumption) ?_ | split))

theorem State.bodyWarning_same (h : Fin 8) (hw : 36893488147435880448 &&& w = 36893488147435880448) (hk : Same w r s) :
    Same w r (State.bodyWarning s h) := by
  unfold State.bodyWarning
  repeat' (first
    | (first | with_reducible assumption | with_reducible exact Same.sub (by decide) hw | dsimp only)
    | (first | with_reducible apply State.warnWhile_same | (intro; intros) | split))

theorem State.bodyWarnings_same (n : Fin 8) (hw : 36893488147435880448 &&& w = 36893488147435880448) (hk : Same w r s) :
    Same w r (State.bodyWarnings s n) := by
  unfold State.bodyWarnings
  repeat' (first
    | (first | with_reducible assumption | with_reducible exact Same.sub (by decide) hw | dsimp only)
    | (first | with_reducible apply State.bodyWarning_same | with_reducible apply State.each_same)
    | (first | (intro; intros) | split))

theorem State.cabinetReading_same (c : Fin 8) (before : Option Int) (hw : 36893488147419103232 &&& w = 36893488147419103232) (hk : Same w r s) :
    Same w r (State.cabinetReading s c before) := by
  unfold State.cabinetReading
  repeat' (first
    | (first | with_reducible assumption | with_reducible exact Same.sub (by decide) hw | dsimp only)
    | (first | with_reducible apply State.record_same | with_reducible apply State.when_same | (intro; intros))
    | split)

theorem State.blankWindow_same (src : Fin 6) (active : Bool) (hw : 134217728 &&& w = 134217728) (hk : Same w r s) :
    Same w r (State.blankWindow s src active) := by
  unfold State.blankWindow
  repeat' (first
    | (first | with_reducible assumption | with_reducible exact Same.sub (by decide) hw | dsimp only)
    | (first | with_reducible apply Same.ite | with_reducible apply State.onBlank_same | (intro; intros) | split))

theorem State.blankJudge_same (src : Fin 6) (hw : 134217728 &&& w = 134217728) (hk : Same w r s) :
    Same w r (State.blankJudge s src) := by
  unfold State.blankJudge
  repeat' (first
    | (first | with_reducible assumption | with_reducible exact Same.sub (by decide) hw | dsimp only)
    | (first | with_reducible apply State.blankWindow_same | (intro; intros) | split))

theorem State.moveEnds_same (c : Fin 16) (m : Mask) (hw : 36898034013593141440 &&& w = 36898034013593141440) (hk : Same w r s) :
    Same w r (State.moveEnds s c m) := by
  unfold State.moveEnds
  repeat' (first
    | (first | with_reducible assumption | with_reducible exact Same.sub (by decide) hw | dsimp only)
    | (first | with_reducible apply State.chanFault_same | with_reducible apply State.onDet_same)
    | (first | with_reducible apply State.onChan_same | with_reducible apply State.onNvChan_same)
    | (first | with_reducible apply State.record_same | (intro; intros) | split))

theorem State.releaseDeferred_same (c : Fin 16) (hw : 36897991750007652416 &&& w = 36897991750007652416) (hk : Same w r s) :
    Same w r (State.releaseDeferred s c) := by
  unfold State.releaseDeferred
  repeat' (first
    | (first | with_reducible assumption | with_reducible exact Same.sub (by decide) hw | dsimp only)
    | (first | with_reducible apply Same.ite | with_reducible apply State.onChan_same)
    | (first | with_reducible apply State.applyChanges_same | (intro; intros) | split))

theorem State.scanDue_same (c : Fin 16) (hw : 33554432 &&& w = 33554432) (hk : Same w r s) :
    Same w r (State.scanDue s c) := by
  unfold State.scanDue
  repeat' (first
    | (first | with_reducible assumption | with_reducible exact Same.sub (by decide) hw | dsimp only)
    | (first | with_reducible apply Same.ite | with_reducible apply State.onScan_same | (intro; intros) | split))

theorem State.horizonStops_same (hw : 33554432 &&& w = 33554432) (hk : Same w r s) :
    Same w r (State.horizonStops s) := by
  unfold State.horizonStops
  repeat' (first
    | (first | with_reducible assumption | with_reducible exact Same.sub (by decide) hw | dsimp only)
    | (first | with_reducible apply State.onScan_same | with_reducible apply State.when_same)
    | (first | with_reducible apply State.each_same | with_reducible apply State.eachFin_same | (intro; intros))
    | split)

theorem State.pauseEnds_same (c : Fin 16) (hw : 36897991750041206784 &&& w = 36897991750041206784) (hk : Same w r s) :
    Same w r (State.pauseEnds s c) := by
  unfold State.pauseEnds
  repeat' (first
    | (first | with_reducible assumption | with_reducible exact Same.sub (by decide) hw | dsimp only)
    | (first | with_reducible apply Same.ite | with_reducible apply State.onScan_same)
    | (first | with_reducible apply State.onChan_same | with_reducible apply State.maskFrom_same | (intro; intros))
    | split)

theorem State.boundaryChanges_same (c : Fin 16) (hw : 36897991750041206848 &&& w = 36897991750041206848) (hk : Same w r s) :
    Same w r (State.boundaryChanges s c) := by
  unfold State.boundaryChanges
  repeat' (first
    | (first | with_reducible assumption | with_reducible exact Same.sub (by decide) hw | dsimp only)
    | (first | with_reducible apply Same.ite | with_reducible apply State.onChan_same)
    | (first | with_reducible apply State.applyChanges_same | with_reducible apply State.scanDue_same)
    | (first | with_reducible apply State.when_same | (intro; intros) | split))

theorem State.spectrumOf_same (d : List Rat) (hw : 295147905179352825856 &&& w = 295147905179352825856) (hk : Same w r s) : Same w r (State.spectrumOf s d).2 := by
  unfold State.spectrumOf
  refine foldl_same_snd (fun u x hu => ?_) d ?_
  · split
    · exact hu
    · exact State.decibels_same _ _ (Same.sub (by decide) hw) hu
  · exact hk

theorem State.noCleanCarrier_same (c : Fin 16) (hw : 36893488147435880448 &&& w = 36893488147435880448) (hk : Same w r s) :
    Same w r (State.noCleanCarrier s c) := by
  unfold State.noCleanCarrier
  repeat' (first
    | (first | with_reducible assumption | with_reducible exact Same.sub (by decide) hw | dsimp only)
    | (first | with_reducible apply Same.ite | with_reducible apply State.warn_same)
    | (first | with_reducible apply State.record_same | (intro; intros) | split))

theorem State.plansDiscarded_same (c : Fin 16) (hw : 36893488147452657664 &&& w = 36893488147452657664) (hk : Same w r s) :
    Same w r (State.plansDiscarded s c) := by
  unfold State.plansDiscarded
  repeat' (first
    | (first | with_reducible assumption | with_reducible exact Same.sub (by decide) hw | dsimp only)
    | (first | with_reducible apply State.onScan_same | with_reducible apply State.record_same | (intro; intros))
    | split)

theorem State.plansAgree_same (c : Fin 16) (p : Nat × Nat) (hw : 36893488147477823488 &&& w = 36893488147477823488) (hk : Same w r s) :
    Same w r (State.plansAgree s c p) := by
  unfold State.plansAgree
  repeat' (first
    | (first | with_reducible assumption | with_reducible exact Same.sub (by decide) hw | dsimp only)
    | (first | with_reducible apply Same.ite | with_reducible apply State.onScan_same)
    | (first | with_reducible apply State.warn_same | with_reducible apply State.onChan_same | (intro; intros))
    | split)

theorem State.planStep_same (v : Fin 2) (c : Fin 16) (hw : 36893488147477823488 &&& w = 36893488147477823488) (hk : Same w r s) :
    Same w r (State.planStep s v c) := by
  unfold State.planStep
  repeat' (first
    | (first | with_reducible assumption | with_reducible exact Same.sub (by decide) hw | dsimp only)
    | (first | with_reducible apply Same.ite | with_reducible apply State.plansDiscarded_same)
    | (first | with_reducible apply State.onScan_same | with_reducible apply State.noCleanCarrier_same)
    | (first | with_reducible apply State.plansAgree_same | with_reducible apply State.when_same | (intro; intros))
    | split)

theorem State.rawWord_same (c : Fin 16) (x : Time) (rep : RawIn) (hw : 295147905179352825856 &&& w = 295147905179352825856) (hk : Same w r s) :
    Same w r (State.rawWord s c x rep).2 := by
  unfold State.rawWord
  repeat' (first
    | (first | with_reducible assumption | with_reducible exact Same.sub (by decide) hw | dsimp only)
    | (first | with_reducible apply Same.ite2 | with_reducible apply State.dataOf_same | (intro; intros))
    | (first | refine Same.snd (by assumption) ?_ | split))

theorem State.rawWords_same (c : Fin 16) (l : List RawIn) (hw : 295147905179352825856 &&& w = 295147905179352825856) (hk : Same w r s) :
    Same w r (State.rawWords s c l).2 := by
  unfold State.rawWords
  have h : ∀ (l : List RawIn) (a : Time × List (Time × RawWord) × State), Same w r a.2.2 →
      Same w r (l.foldl (fun (a : Time × List (Time × RawWord) × State) q =>
        let x := a.2.2.rawWord c a.1 q
        (a.1 + 500, a.2.1 ++ [(a.1, x.1)], x.2)) a).2.2 := by
    intro l
    induction l with
    | nil => intro a ha; exact ha
    | cons q l ih => intro a ha; exact ih _ (State.rawWord_same _ _ _ (Same.sub (by decide) hw) ha)
  exact h l _ hk

theorem State.windowTakes_same (c : Fin 16) (l : List (Time × RawWord)) (hw : 33554432 &&& w = 33554432) (hk : Same w r s) :
    Same w r (State.windowTakes s c l) := by
  unfold State.windowTakes
  repeat' (first
    | (first | with_reducible assumption | with_reducible exact Same.sub (by decide) hw | dsimp only)
    | (first | with_reducible apply State.onScan_same | with_reducible apply State.when_same | (intro; intros))
    | split)

theorem State.takeRaws_same (c : Fin 16) (l : List RawIn) (hw : 295147905179411546112 &&& w = 295147905179411546112) (hk : Same w r s) :
    Same w r (State.takeRaws s c l) := by
  unfold State.takeRaws
  repeat' (first
    | (first | with_reducible assumption | with_reducible exact Same.sub (by decide) hw | dsimp only)
    | (first | with_reducible apply Same.ite | with_reducible apply State.rawWords_same)
    | (first | with_reducible apply State.windowTakes_same | with_reducible apply State.onChan_same)
    | (first | with_reducible apply State.unstatedRound_same | with_reducible apply State.warnCond_same)
    | (first | (intro; intros) | refine Same.snd (by assumption) ?_ | split))

theorem State.partnerOnset_same (c : Fin 16) (hw : 36898034013056270528 &&& w = 36898034013056270528) (hk : Same w r s) :
    Same w r (State.partnerOnset s c) := by
  unfold State.partnerOnset
  repeat' (first
    | (first | with_reducible assumption | with_reducible exact Same.sub (by decide) hw | dsimp only)
    | (first | with_reducible apply State.onScan_same | with_reducible apply State.abortProof_same)
    | (first | with_reducible apply State.chanFault_same | with_reducible apply State.when_same | (intro; intros))
    | split)

theorem State.emit_same (c : Fin 16) (edge : Edge) (stamp : Time) (settling takeover blanked : Bool) (hw : 332045939227322482880 &&& w = 332045939227322482880) (hk : Same w r s) :
    Same w r (State.emit s c edge stamp settling takeover blanked) := by
  unfold State.emit
  repeat' (first
    | (first | with_reducible assumption | with_reducible exact Same.sub (by decide) hw | dsimp only)
    | (first | with_reducible apply Same.ite | with_reducible apply State.rootRound_same)
    | (first | with_reducible apply State.drawFree_same | with_reducible apply State.unstatedRound_same)
    | (first | with_reducible apply State.onDet_same | with_reducible apply State.onChan_same)
    | (first | with_reducible apply State.onStats_same | with_reducible apply State.warnCond_same)
    | (first | with_reducible apply State.warn_same | with_reducible apply State.partnerOnset_same)
    | (first | with_reducible apply State.when_same | (intro; intros) | refine Same.snd (by assumption) ?_ | split)
    | with_reducible refine Same.upd (m := 34359738368) (hw := ?_) (hk := ?_))

theorem State.emitAll_same (c : Fin 16) (l : List (Edge × Time × Bool)) (hw : 332045939227322482880 &&& w = 332045939227322482880) (hk : Same w r s) :
    Same w r (State.emitAll s c l) := by
  unfold State.emitAll
  repeat' (first
    | (first | with_reducible assumption | with_reducible exact Same.sub (by decide) hw | dsimp only)
    | (first | with_reducible apply State.emit_same | with_reducible apply State.each_same | (intro; intros))
    | split)

theorem State.track_same (c : Fin 16) (x : Seen) (hw : 536870912 &&& w = 536870912) (hk : Same w r s) :
    Same w r (State.track s c x) := by
  unfold State.track
  repeat' (first
    | (first | with_reducible assumption | with_reducible exact Same.sub (by decide) hw | dsimp only)
    | (first | with_reducible apply Same.ite | with_reducible apply State.onDet_same | (intro; intros) | split))

theorem State.gatherStats_same (c : Fin 16) (x : Seen) (hw : 1073741824 &&& w = 1073741824) (hk : Same w r s) :
    Same w r (State.gatherStats s c x) := by
  unfold State.gatherStats
  repeat' (first
    | (first | with_reducible assumption | with_reducible exact Same.sub (by decide) hw | dsimp only)
    | (first | with_reducible apply Same.ite | with_reducible apply State.onStats_same | (intro; intros) | split))

theorem State.watchProof_same (c : Fin 16) (zL zH : Cx) (hw : 36897991749193957376 &&& w = 36897991749193957376) (hk : Same w r s) :
    Same w r (State.watchProof s c zL zH) := by
  unfold State.watchProof
  repeat' (first
    | (first | with_reducible assumption | with_reducible exact Same.sub (by decide) hw | dsimp only)
    | (first | with_reducible apply State.abortProof_same | with_reducible apply State.when_same | (intro; intros))
    | split)

theorem State.decideOn_same (c : Fin 16) (f : FastS) (x : Seen) (hw : 332045939227322482880 &&& w = 332045939227322482880) (hk : Same w r s) :
    Same w r (State.decideOn s c f x) := by
  unfold State.decideOn
  repeat' (first
    | (first | with_reducible assumption | with_reducible exact Same.sub (by decide) hw | dsimp only)
    | (first | with_reducible apply Same.ite | with_reducible apply State.onDet_same)
    | (first | with_reducible apply State.emit_same | with_reducible apply State.emitAll_same | (intro; intros))
    | split)

theorem State.shadowSample_same (c : Fin 16) (inj : Option (Cx × Cx)) (stamp : Time) (hw : 2147483648 &&& w = 2147483648) (hk : Same w r s) :
    Same w r (State.shadowSample s c inj stamp) := by
  unfold State.shadowSample
  repeat' (first
    | (first | with_reducible assumption | with_reducible exact Same.sub (by decide) hw | dsimp only)
    | (first | with_reducible apply Same.ite | with_reducible apply State.onProof_same | (intro; intros) | split))

theorem State.engineSample_same (c : Fin 16) (valid : Bool) (hw : 332045939227322482880 &&& w = 332045939227322482880) (hk : Same w r s) :
    Same w r (State.engineSample s c valid) := by
  unfold State.engineSample
  repeat' (first
    | (first | with_reducible assumption | with_reducible exact Same.sub (by decide) hw | dsimp only)
    | (first | with_reducible apply Same.ite | with_reducible apply State.onDet_same)
    | (first | with_reducible apply State.shadowSample_same | with_reducible apply State.onChan_same)
    | (first | with_reducible apply State.decideOn_same | with_reducible apply State.track_same)
    | (first | with_reducible apply State.gatherStats_same | with_reducible apply State.watchProof_same)
    | (first | with_reducible apply State.amonRefresh_same | with_reducible apply State.amonShow_same)
    | (first | (intro; intros) | split))

theorem State.heartbeat_same (c : Fin 16) (hw : 4294967296 &&& w = 4294967296) (hk : Same w r s) :
    Same w r (State.heartbeat s c) := by
  unfold State.heartbeat
  repeat' (first
    | (first | with_reducible assumption | with_reducible exact Same.sub (by decide) hw | dsimp only)
    | (first | with_reducible apply State.onWse_same | with_reducible apply State.when_same)
    | (first | with_reducible apply State.whenSome_same | (intro; intros) | split))

theorem State.storeBaseline_same (c : Fin 16) (hw : 64 &&& w = 64) (hk : Same w r s) :
    Same w r (State.storeBaseline s c) := by
  unfold State.storeBaseline
  repeat' (first
    | (first | with_reducible assumption | with_reducible exact Same.sub (by decide) hw | dsimp only)
    | (first | with_reducible apply State.onNvChan_same | with_reducible apply State.when_same | (intro; intros))
    | split)

theorem State.closeHour_same (c : Fin 16) (hw : 1073741824 &&& w = 1073741824) (hk : Same w r s) :
    Same w r (State.closeHour s c) := by
  unfold State.closeHour
  repeat' (first
    | (first | with_reducible assumption | with_reducible exact Same.sub (by decide) hw | dsimp only)
    | (first | with_reducible apply Same.ite | with_reducible apply State.onStats_same | (intro; intros) | split))

theorem State.storeBaselines_same (hw : 64 &&& w = 64) (hk : Same w r s) :
    Same w r (State.storeBaselines s) := by
  unfold State.storeBaselines
  repeat' (first
    | (first | with_reducible assumption | with_reducible exact Same.sub (by decide) hw | dsimp only)
    | (first | with_reducible apply State.storeBaseline_same | with_reducible apply State.each_same)
    | (first | with_reducible apply State.eachFin_same | (intro; intros) | split))

theorem State.drift_same (c : Fin 16) (rL rH : Cx) (hw : 332045939192425873600 &&& w = 332045939192425873600) (hk : Same w r s) :
    Same w r (State.drift s c rL rH) := by
  unfold State.drift
  repeat' (first
    | (first | with_reducible assumption | with_reducible exact Same.sub (by decide) hw | dsimp only)
    | (first | with_reducible apply Same.ite | with_reducible apply State.rootRound_same)
    | (first | with_reducible apply State.unstatedRound_same | with_reducible apply State.onStats_same)
    | (first | with_reducible apply State.warnWhile_same | with_reducible apply State.chanFault_same)
    | (first | with_reducible apply State.when_same | (intro; intros) | refine Same.snd (by assumption) ?_ | split))

theorem State.kappaUnits_same (k : Cx) (hw : 295147905179352825856 &&& w = 295147905179352825856) (hk : Same w r s) :
    Same w r (State.kappaUnits s k).2 := by
  unfold State.kappaUnits
  repeat' (first
    | (first | with_reducible assumption | with_reducible exact Same.sub (by decide) hw | dsimp only)
    | (first | with_reducible apply Same.ite2 | with_reducible apply State.unstatedRound_same | (intro; intros))
    | (first | refine Same.snd (by assumption) ?_ | split))

theorem State.takeKappa_same (c : Fin 16) (high : Bool) (k : Cx) (hw : 332041393326788706368 &&& w = 332041393326788706368) (hk : Same w r s) :
    Same w r (State.takeKappa s c high k) := by
  unfold State.takeKappa
  repeat' (first
    | (first | with_reducible assumption | with_reducible exact Same.sub (by decide) hw | dsimp only)
    | (first | with_reducible apply Same.ite | with_reducible apply State.kappaUnits_same)
    | (first | with_reducible apply State.onNvChan_same | with_reducible apply State.warn_same | (intro; intros))
    | (first | refine Same.snd (by assumption) ?_ | split))

theorem State.fitChannel_same (c : Fin 16) (hw : 332041393326788706368 &&& w = 332041393326788706368) (hk : Same w r s) :
    Same w r (State.fitChannel s c) := by
  unfold State.fitChannel
  repeat' (first
    | (first | with_reducible assumption | with_reducible exact Same.sub (by decide) hw | dsimp only)
    | (first | with_reducible apply Same.ite | with_reducible apply State.takeKappa_same)
    | (first | with_reducible apply foldl_same | (intro; intros) | split))

theorem State.rereference_same (c : Fin 16) (hw : 332045939227322482880 &&& w = 332045939227322482880) (hk : Same w r s) :
    Same w r (State.rereference s c) := by
  unfold State.rereference
  repeat' (first
    | (first | with_reducible assumption | with_reducible exact Same.sub (by decide) hw | dsimp only)
    | (first | with_reducible apply State.bandNow_same | with_reducible apply State.onNvChan_same)
    | (first | with_reducible apply State.onDet_same | with_reducible apply State.emit_same)
    | (first | with_reducible apply State.onStats_same | with_reducible apply State.record_same)
    | (first | with_reducible apply State.when_same | (intro; intros) | refine Same.snd (by assumption) ?_ | split))

theorem State.engineFails_same (e : Fin 9) (row : Nat) (hw : 36893488161109311488 &&& w = 36893488161109311488) (hk : Same w r s) :
    Same w r (State.engineFails s e row) := by
  unfold State.engineFails
  repeat' (first
    | (first | with_reducible assumption | with_reducible exact Same.sub (by decide) hw | dsimp only)
    | (first | with_reducible apply Same.ite | with_reducible apply State.onWse_same)
    | (first | with_reducible apply State.onDet_same | with_reducible apply State.amonRefresh_same)
    | (first | with_reducible apply State.record_same | with_reducible apply State.when_same)
    | (first | with_reducible apply State.whenSome_same | (intro; intros) | split)
    | with_reducible refine Same.upd (m := 8589934592) (hw := ?_) (hk := ?_))

theorem State.ckptWritten_same (e : Fin 9) (h : Fin 8) (wn : CkptWrite) (hw : 36893488161109311488 &&& w = 36893488161109311488) (hk : Same w r s) :
    Same w r (State.ckptWritten s e h wn) := by
  unfold State.ckptWritten
  repeat' (first
    | (first | with_reducible assumption | with_reducible exact Same.sub (by decide) hw | dsimp only)
    | (first | with_reducible apply State.onWse_same | with_reducible apply State.engineFails_same)
    | (first | with_reducible apply State.when_same | (intro; intros) | split))

theorem State.chanResumes_same (c : Fin 16) (k : ChanCkpt) (e : Episode) (i : Fin 2) (hw : 1610612736 &&& w = 1610612736) (hk : Same w r s) :
    Same w r (State.chanResumes s c k e i) := by
  unfold State.chanResumes
  repeat' (first
    | (first | with_reducible assumption | with_reducible exact Same.sub (by decide) hw | dsimp only)
    | (first | with_reducible apply State.onDet_same | with_reducible apply State.onStats_same | (intro; intros))
    | split)

theorem State.takeOver_same (h : Fin 8) (e : Fin 9) (hw : 36898034056542814400 &&& w = 36898034056542814400) (hk : Same w r s) :
    Same w r (State.takeOver s h e) := by
  unfold State.takeOver
  repeat' (first
    | (first | with_reducible assumption | with_reducible exact Same.sub (by decide) hw | dsimp only)
    | (first | with_reducible apply State.pulse_same | with_reducible apply State.onNvHead_same)
    | (first | with_reducible apply State.record_same | with_reducible apply State.dropEvents_same)
    | (first | with_reducible apply State.abortProof_same | with_reducible apply State.chanResumes_same)
    | (first | with_reducible apply State.amonRefresh_same | with_reducible apply State.chanFault_same)
    | (first | (intro; intros) | split | with_reducible refine Same.upd (m := 8589934592) (hw := ?_) (hk := ?_)))

theorem State.loseEngine_same (h : Fin 8) (e : Fin 9) (hw : 36898027423460753536 &&& w = 36898027423460753536) (hk : Same w r s) :
    Same w r (State.loseEngine s h e) := by
  unfold State.loseEngine
  repeat' (first
    | (first | with_reducible assumption | with_reducible exact Same.sub (by decide) hw | dsimp only)
    | (first | with_reducible apply State.setCumValid_same | with_reducible apply State.abortProof_same)
    | (first | with_reducible apply State.notify_same | with_reducible apply State.passageHeadFault_same)
    | (first | with_reducible apply State.amonRefresh_same | (intro; intros) | split)
    | with_reducible refine Same.upd (m := 8589934592) (hw := ?_) (hk := ?_))

theorem State.remapOne_same (e : Fin 9) (hw : 36898034056542814400 &&& w = 36898034056542814400) (hk : Same w r s) :
    Same w r (State.remapOne s e) := by
  unfold State.remapOne
  repeat' (first
    | (first | with_reducible assumption | with_reducible exact Same.sub (by decide) hw | dsimp only)
    | (first | with_reducible apply Same.ite | with_reducible apply State.takeOver_same)
    | (first | with_reducible apply State.loseEngine_same | (intro; intros) | split)
    | with_reducible refine Same.upd (m := 8589934592) (hw := ?_) (hk := ?_))

theorem State.remapStep_same (v : Fin 2) (hw : 36898034056542814400 &&& w = 36898034056542814400) (hk : Same w r s) :
    Same w r (State.remapStep s v) := by
  unfold State.remapStep
  repeat' (first
    | (first | with_reducible assumption | with_reducible exact Same.sub (by decide) hw | dsimp only)
    | (first | with_reducible apply Same.ite | with_reducible apply State.remapOne_same)
    | (first | with_reducible apply State.each_same | (intro; intros) | split)
    | with_reducible refine Same.upd (m := 8589934592) (hw := ?_) (hk := ?_))

theorem State.takeoverDecision_same (c : Fin 16) (hw : 332045939227322482880 &&& w = 332045939227322482880) (hk : Same w r s) :
    Same w r (State.takeoverDecision s c) := by
  unfold State.takeoverDecision
  repeat' (first
    | (first | with_reducible assumption | with_reducible exact Same.sub (by decide) hw | dsimp only)
    | (first | with_reducible apply Same.ite | with_reducible apply State.engineSample_same)
    | (first | with_reducible apply State.onDet_same | with_reducible apply State.emit_same | (intro; intros))
    | split)

theorem State.proofStarts_same (c : Fin 16) (hw : 2147483648 &&& w = 2147483648) (hk : Same w r s) :
    Same w r (State.proofStarts s c) := by
  unfold State.proofStarts
  repeat' (first
    | (first | with_reducible assumption | with_reducible exact Same.sub (by decide) hw | dsimp only)
    | (first | with_reducible apply State.onProof_same | (intro; intros) | split))

theorem State.proofPassed_same (c : Fin 16) (hw : 2147483712 &&& w = 2147483712) (hk : Same w r s) :
    Same w r (State.proofPassed s c) := by
  unfold State.proofPassed
  repeat' (first
    | (first | with_reducible assumption | with_reducible exact Same.sub (by decide) hw | dsimp only)
    | (first | with_reducible apply State.onNvChan_same | with_reducible apply State.onProof_same)
    | (first | (intro; intros) | split))

theorem State.proofFailed_same (c : Fin 16) (hw : 36898034013056270528 &&& w = 36898034013056270528) (hk : Same w r s) :
    Same w r (State.proofFailed s c) := by
  unfold State.proofFailed
  repeat' (first
    | (first | with_reducible assumption | with_reducible exact Same.sub (by decide) hw | dsimp only)
    | (first | with_reducible apply State.onProof_same | with_reducible apply State.record_same)
    | (first | with_reducible apply State.pulse_same | with_reducible apply State.chanFault_same)
    | (first | with_reducible apply State.when_same | (intro; intros) | split))

end Sys2Proof.Machine
end

