-- ==== Sys2Proof/Laws/SameEval.lean ====
section
/-! SUPPORT. What an evaluation step, the host event controller and the count keeper leave as it is. -/

namespace Sys2Proof.Machine

set_option Elab.async false
set_option linter.unusedTactic false
set_option linter.unreachableTactic false
set_option linter.unusedSimpArgs false

variable {w : Nat} {r s : State}

theorem State.bemfAlarm_same (v : Fin 2) (sec : Fin 4) (hw : 36893629159785365504 &&& w = 36893629159785365504) (hk : Same w r s) :
    Same w r (State.bemfAlarm s v sec) := by
  unfold State.bemfAlarm
  repeat' (first
    | (first | with_reducible assumption | with_reducible exact Same.sub (by decide) hw | dsimp only)
    | (first | with_reducible apply State.onSv_same | with_reducible apply State.setBarred_same)
    | (first | with_reducible apply State.record_same | (intro; intros) | split))

theorem State.evalWitness_same (v : Fin 2) (sec : Fin 4) (hw : 36893629159785365504 &&& w = 36893629159785365504) (hk : Same w r s) :
    Same w r (State.evalWitness s v sec) := by
  unfold State.evalWitness
  repeat' (first
    | (first | with_reducible assumption | with_reducible exact Same.sub (by decide) hw | dsimp only)
    | (first | with_reducible apply Same.ite | with_reducible apply State.bemfAlarm_same)
    | (first | with_reducible apply State.onSv_same | (intro; intros) | split))

theorem State.conditions_same (v : Fin 2) (sec : Fin 4) (hw : 36893488422297010176 &&& w = 36893488422297010176) (hk : Same w r s) :
    Same w r (State.conditions s v sec) := by
  unfold State.conditions
  repeat' (first
    | (first | with_reducible assumption | with_reducible exact Same.sub (by decide) hw | dsimp only)
    | (first | with_reducible apply Same.ite | with_reducible apply State.onSv_same)
    | (first | with_reducible apply State.record_same | with_reducible apply State.each_same)
    | (first | with_reducible apply foldl_same | (intro; intros) | split))

theorem State.expireCauses_same (v : Fin 2) (sec : Fin 4) (hw : 274877906944 &&& w = 274877906944) (hk : Same w r s) :
    Same w r (State.expireCauses s v sec) := by
  unfold State.expireCauses
  repeat' (first
    | (first | with_reducible assumption | with_reducible exact Same.sub (by decide) hw | dsimp only)
    | (first | with_reducible apply State.onSv_same | (intro; intros) | split))

theorem State.configStep_same (v : Fin 2) (sec : Fin 4) (hw : 274877906944 &&& w = 274877906944) (hk : Same w r s) :
    Same w r (State.configStep s v sec) := by
  unfold State.configStep
  repeat' (first
    | (first | with_reducible assumption | with_reducible exact Same.sub (by decide) hw | dsimp only)
    | (first | with_reducible apply Same.ite | with_reducible apply State.enter_same | (intro; intros) | split))

theorem State.disturbStep_same (v : Fin 2) (sec : Fin 4) (hw : 274877906944 &&& w = 274877906944) (hk : Same w r s) :
    Same w r (State.disturbStep s v sec) := by
  unfold State.disturbStep
  repeat' (first
    | (first | with_reducible assumption | with_reducible exact Same.sub (by decide) hw | dsimp only)
    | (first | with_reducible apply Same.ite | with_reducible apply State.enter_same)
    | (first | with_reducible apply State.onSv_same | (intro; intros) | split))

theorem State.clearance_same (v : Fin 2) (sec : Fin 4) (hw : 274877906944 &&& w = 274877906944) (hk : Same w r s) :
    Same w r (State.clearance s v sec) := by
  unfold State.clearance
  repeat' (first
    | (first | with_reducible assumption | with_reducible exact Same.sub (by decide) hw | dsimp only)
    | (first | with_reducible apply Same.ite | with_reducible apply State.onSv_same)
    | (first | with_reducible apply State.enter_same | (intro; intros) | split))

theorem State.restoreStep_same (v : Fin 2) (sec : Fin 4) (hw : 36897992021924380672 &&& w = 36897992021924380672) (hk : Same w r s) :
    Same w r (State.restoreStep s v sec) := by
  unfold State.restoreStep
  repeat' (first
    | (first | with_reducible assumption | with_reducible exact Same.sub (by decide) hw | dsimp only)
    | (first | with_reducible apply State.onSv_same | with_reducible apply State.request_same)
    | (first | with_reducible apply State.refuse_same | with_reducible apply State.compute_same)
    | (first | with_reducible apply State.when_same | (intro; intros) | split))

theorem State.barResult_same (v : Fin 2) (sec : Fin 4) (hw : 36897992021924380672 &&& w = 36897992021924380672) (hk : Same w r s) :
    Same w r (State.barResult s v sec) := by
  unfold State.barResult
  repeat' (first
    | (first | with_reducible assumption | with_reducible exact Same.sub (by decide) hw | dsimp only)
    | (first | with_reducible apply State.refuse_same | with_reducible apply State.when_same | (intro; intros))
    | split)

theorem State.outcome_same (v : Fin 2) (sec : Fin 4) (hw : 36897992021924380672 &&& w = 36897992021924380672) (hk : Same w r s) :
    Same w r (State.outcome s v sec) := by
  unfold State.outcome
  repeat' (first
    | (first | with_reducible assumption | with_reducible exact Same.sub (by decide) hw | dsimp only)
    | (first | with_reducible apply Same.ite | with_reducible apply State.enter_same)
    | (first | with_reducible apply State.refuse_same | (intro; intros) | split))

theorem State.selfTimer_same (v : Fin 2) (sec : Fin 4) (hw : 274877906944 &&& w = 274877906944) (hk : Same w r s) :
    Same w r (State.selfTimer s v sec) := by
  unfold State.selfTimer
  repeat' (first
    | (first | with_reducible assumption | with_reducible exact Same.sub (by decide) hw | dsimp only)
    | (first | with_reducible apply Same.ite | with_reducible apply State.onSv_same | (intro; intros) | split))

theorem State.selfApply_same (sec : Fin 4) (hw : 36898027206296469632 &&& w = 36898027206296469632) (hk : Same w r s) :
    Same w r (State.selfApply s sec) := by
  unfold State.selfApply
  repeat' (first
    | (first | with_reducible assumption | with_reducible exact Same.sub (by decide) hw | dsimp only)
    | (first | with_reducible apply Same.ite | with_reducible apply State.applyZoneReset_same)
    | (first | with_reducible apply State.rebaseOuter_same | with_reducible apply State.rebaseHead_same)
    | (first | with_reducible apply State.onSv_same | with_reducible apply State.enter_same)
    | (first | with_reducible apply State.pulse_same | with_reducible apply State.each_same | (intro; intros))
    | split)

theorem State.selfAttest_same (sec : Fin 4) (hw : 36898027206296469632 &&& w = 36898027206296469632) (hk : Same w r s) :
    Same w r (State.selfAttest s sec) := by
  unfold State.selfAttest
  repeat' (first
    | (first | with_reducible assumption | with_reducible exact Same.sub (by decide) hw | dsimp only)
    | (first | with_reducible apply Same.ite | with_reducible apply State.refuse_same)
    | (first | with_reducible apply State.selfApply_same | with_reducible apply State.each_same | (intro; intros))
    | split)

theorem State.castVote_same (v : Fin 2) (sec : Fin 4) (new : Vote) (hw : 36893495019366776832 &&& w = 36893495019366776832) (hk : Same w r s) :
    Same w r (State.castVote s v sec new) := by
  unfold State.castVote
  repeat' (first
    | (first | with_reducible assumption | with_reducible exact Same.sub (by decide) hw | dsimp only)
    | (first | with_reducible apply Same.ite | with_reducible apply State.onSv_same)
    | (first | with_reducible apply State.dropPermit_same | (intro; intros) | split))

theorem State.proposeBits_same (v : Fin 2) (hw : 274877906944 &&& w = 274877906944) (hk : Same w r s) :
    Same w r (State.proposeBits s v) := by
  unfold State.proposeBits
  repeat' (first
    | (first | with_reducible assumption | with_reducible exact Same.sub (by decide) hw | dsimp only)
    | (first | with_reducible apply State.onSv_same | (intro; intros) | split))

theorem State.publishWord_same (sec : Fin 4) (wn : Word) (hw : 1099511627776 &&& w = 1099511627776) (hk : Same w r s) :
    Same w r (State.publishWord s sec wn) := by
  unfold State.publishWord
  repeat' (first
    | (first | with_reducible assumption | with_reducible exact Same.sub (by decide) hw | dsimp only)
    | (first | (intro; intros) | split | with_reducible refine Same.upd (m := 1099511627776) (hw := ?_) (hk := ?_)))

theorem State.sweepRebase_same (sec : Fin 4) (hw : 36893523606669099136 &&& w = 36893523606669099136) (hk : Same w r s) :
    Same w r (State.sweepRebase s sec) := by
  unfold State.sweepRebase
  repeat' (first
    | (first | with_reducible assumption | with_reducible exact Same.sub (by decide) hw | dsimp only)
    | (first | with_reducible apply State.rebaseOuter_same | with_reducible apply State.each_same)
    | (first | (intro; intros) | split))

theorem State.mergedEntry_same (sec : Fin 4) (st old : SecState) (hw : 36898168493540639104 &&& w = 36898168493540639104) (hk : Same w r s) :
    Same w r (State.mergedEntry s sec st old) := by
  unfold State.mergedEntry
  repeat' (first
    | (first | with_reducible assumption | with_reducible exact Same.sub (by decide) hw | dsimp only)
    | (first | with_reducible apply Same.ite | with_reducible apply State.record_same)
    | (first | with_reducible apply State.pulse_same | with_reducible apply State.onNvSec_same)
    | (first | with_reducible apply State.setBarred_same | with_reducible apply State.onMerged_same)
    | (first | with_reducible apply State.sweepRebase_same | with_reducible apply State.when_same)
    | (first | (intro; intros) | split))

theorem State.kinProvisional_same (sec : Fin 4) (hw : 295152971728933617664 &&& w = 295152971728933617664) (hk : Same w r s) :
    Same w r (State.kinProvisional s sec) := by
  unfold State.kinProvisional
  repeat' (first
    | (first | with_reducible assumption | with_reducible exact Same.sub (by decide) hw | dsimp only)
    | (first | with_reducible apply Same.ite | with_reducible apply State.kinOnset_same | (intro; intros) | split))

theorem State.mergeSec_same (sec : Fin 4) (hw : 332046637722358514048 &&& w = 332046637722358514048) (hk : Same w r s) :
    Same w r (State.mergeSec s sec) := by
  unfold State.mergeSec
  repeat' (first
    | (first | with_reducible assumption | with_reducible exact Same.sub (by decide) hw | dsimp only)
    | (first | with_reducible apply Same.ite | with_reducible apply State.onMerged_same)
    | (first | with_reducible apply State.mergedEntry_same | with_reducible apply State.record_same)
    | (first | with_reducible apply State.pulse_same | with_reducible apply State.publishWord_same)
    | (first | with_reducible apply State.kinProvisional_same | with_reducible apply State.kinMerged_same)
    | (first | with_reducible apply State.when_same | (intro; intros) | split))

theorem State.brakeStep_same (sec : Fin 4) (hw : 36898413959511539712 &&& w = 36898413959511539712) (hk : Same w r s) :
    Same w r (State.brakeStep s sec) := by
  unfold State.brakeStep
  repeat' (first
    | (first | with_reducible assumption | with_reducible exact Same.sub (by decide) hw | dsimp only)
    | (first | with_reducible apply Same.ite | with_reducible apply State.onTraction_same)
    | (first | with_reducible apply State.record_same | with_reducible apply State.pulse_same)
    | (first | with_reducible apply State.each_same | (intro; intros) | split)
    | with_reducible refine Same.upd (m := 140737488355328) (hw := ?_) (hk := ?_))

theorem State.attestEntries_same (hw : 137438953472 &&& w = 137438953472) (hk : Same w r s) :
    Same w r (State.attestEntries s) := by
  unfold State.attestEntries
  repeat' (first
    | (first | with_reducible assumption | with_reducible exact Same.sub (by decide) hw | dsimp only)
    | (first | with_reducible apply Same.ite | (intro; intros) | split)
    | with_reducible refine Same.upd (m := 137438953472) (hw := ?_) (hk := ?_))

theorem State.checkpointDue_same (hw : 4573968371548160 &&& w = 4573968371548160) (hk : Same w r s) :
    Same w r (State.checkpointDue s) := by
  unfold State.checkpointDue
  repeat' (first
    | (first | with_reducible assumption | with_reducible exact Same.sub (by decide) hw | dsimp only)
    | (first | with_reducible apply Same.ite | with_reducible apply State.cvuDone_same | (intro; intros) | split)
    | with_reducible refine Same.upd (m := 70368744177664) (hw := ?_) (hk := ?_))

theorem State.occupancy_same (v : Fin 2) (sec : Fin 4) (triggered : Bool) (hw : 274877906944 &&& w = 274877906944) (hk : Same w r s) :
    Same w r (State.occupancy s v sec triggered) := by
  unfold State.occupancy
  repeat' (first
    | (first | with_reducible assumption | with_reducible exact Same.sub (by decide) hw | dsimp only)
    | (first | with_reducible apply Same.ite | with_reducible apply State.enter_same | (intro; intros) | split))

theorem State.settleStep_same (v : Fin 2) (sec : Fin 4) (hw : 36893488422297010944 &&& w = 36893488422297010944) (hk : Same w r s) :
    Same w r (State.settleStep s v sec) := by
  unfold State.settleStep
  repeat' (first
    | (first | with_reducible assumption | with_reducible exact Same.sub (by decide) hw | dsimp only)
    | (first | with_reducible apply State.settle_same | with_reducible apply State.compareOverlaps_same)
    | (first | with_reducible apply State.zoneResetDue_same | (intro; intros) | split))

theorem State.publish_same (hw : 332046991902541611392 &&& w = 332046991902541611392) (hk : Same w r s) :
    Same w r (State.publish s) := by
  unfold State.publish
  repeat' (first
    | (first | with_reducible assumption | with_reducible exact Same.sub (by decide) hw | dsimp only)
    | (first | with_reducible apply State.brakeStep_same | with_reducible apply State.mergeSec_same)
    | (first | with_reducible apply State.attestEntries_same | with_reducible apply State.checkpointDue_same)
    | (first | with_reducible apply State.requalify_same | with_reducible apply State.each_same | (intro; intros))
    | split)

theorem State.publishAll_same (hw : 332046991902541611392 &&& w = 332046991902541611392) (hk : Same w r s) :
    Same w r (State.publishAll s) := by
  unfold State.publishAll
  repeat' (first
    | (first | with_reducible assumption | with_reducible exact Same.sub (by decide) hw | dsimp only)
    | (first | with_reducible apply State.proposeBits_same | with_reducible apply State.publish_same)
    | (first | with_reducible apply State.each_same | (intro; intros) | split))

theorem State.ckptNow_same (h : Fin 8) (hw : 36893488161109311488 &&& w = 36893488161109311488) (hk : Same w r s) :
    Same w r (State.ckptNow s h) := by
  unfold State.ckptNow
  repeat' (first
    | (first | with_reducible assumption | with_reducible exact Same.sub (by decide) hw | dsimp only)
    | (first | with_reducible apply State.ckptWritten_same | with_reducible apply State.when_same)
    | (first | with_reducible apply State.whenSome_same | (intro; intros) | split))

theorem State.isoGrant_same (i : Isolation) (hw : 184471986200574427136 &&& w = 184471986200574427136) (hk : Same w r s) :
    Same w r (State.isoGrant s i) := by
  unfold State.isoGrant
  repeat' (first
    | (first | with_reducible assumption | with_reducible exact Same.sub (by decide) hw | dsimp only)
    | (first | with_reducible apply State.dropPermit_same | with_reducible apply State.setCumValid_same)
    | (first | with_reducible apply State.ckptNow_same | with_reducible apply State.pulse_same)
    | (first | with_reducible apply State.requalify_same | with_reducible apply State.each_same | (intro; intros))
    | (first | split | with_reducible refine Same.upd (m := 147573952658395889664) (hw := ?_) (hk := ?_)))

theorem State.isoJudge_same (hw : 184471986200574427136 &&& w = 184471986200574427136) (hk : Same w r s) :
    Same w r (State.isoJudge s) := by
  unfold State.isoJudge
  repeat' (first
    | (first | with_reducible assumption | with_reducible exact Same.sub (by decide) hw | dsimp only)
    | (first | with_reducible apply Same.ite | with_reducible apply State.isoRefuse_same)
    | (first | with_reducible apply State.isoGrant_same | (intro; intros) | split))

theorem State.evalFront_same (v : Fin 2) (hw : 479620595513013830592 &&& w = 479620595513013830592) (hk : Same w r s) :
    Same w r (State.evalFront s v).1 := by
  unfold State.evalFront
  repeat' (first
    | (first | with_reducible assumption | with_reducible exact Same.sub (by decide) hw | dsimp only)
    | (first | with_reducible apply State.remapStep_same | with_reducible apply State.onSv_same)
    | (first | with_reducible apply State.configStep_same | with_reducible apply State.takeInbox_same)
    | (first | with_reducible apply State.knownVehicles_same | with_reducible apply State.isoWheel_same)
    | (first | with_reducible apply State.settleStep_same | with_reducible apply State.conditions_same)
    | (first | with_reducible apply State.evalWitness_same | with_reducible apply State.expireCauses_same)
    | (first | with_reducible apply State.disturbStep_same | with_reducible apply State.when_same)
    | (first | with_reducible apply State.each_same | (intro; intros) | refine Same.fst (by assumption) ?_ | split))

theorem Same.neighbour (x : Word) (hw : 140737488355328 &&& w = 140737488355328) (hk : Same w r s) :
    Same w r { s with keep := { s.keep with neighbour := x } } := Same.upd (m := 140737488355328) (hw := hw) (hk := hk)

theorem State.evalBack_same (v : Fin 2) (trig : BitVec 4) (hw : 498067693046442492800 &&& w = 498067693046442492800) (hk : Same w r s) : Same w r (State.evalBack s v trig) := by
  unfold State.evalBack
  split
  · exact hk
  · extract_lets s1 s2 s3 s4 s5 s6 s7 s7keep s8
    have h1 : Same w r s1 := State.each_same hk fun u a hu => State.applyResults_same _ (Same.sub (by decide) hw)
      (State.barResult_same _ _ (Same.sub (by decide) hw) hu)
    have h2 : Same w r s2 := State.each_same h1 fun u a hu => State.restoreStep_same _ _ (Same.sub (by decide) hw) hu
    have h3 : Same w r s3 := State.each_same h2 fun u a hu => State.selfAttest_same _ (Same.sub (by decide) hw)
      (State.selfTimer_same _ _ (Same.sub (by decide) hw) (State.outcome_same _ _ (Same.sub (by decide) hw) hu))
    have h4 : Same w r s4 := State.each_same h3 fun u a hu => State.occupancy_same _ _ _ (Same.sub (by decide) hw) hu
    have h5 : Same w r s5 := State.each_same h4 fun u a hu => State.clearance_same _ _ (Same.sub (by decide) hw) hu
    have h6 : Same w r s6 := State.each_same h5 fun u a hu => State.castVote_same _ _ _ (Same.sub (by decide) hw) hu
    have h7 : Same w r s7 := State.eachFin_same (State.isoJudge_same (Same.sub (by decide) hw) (State.isoWatch_same _
        (Same.sub (by decide) hw) (State.horizonStops_same (Same.sub (by decide) hw)
          (State.horizons_same _ (Same.sub (by decide) hw) h6))))
      fun u a hu => State.planStep_same _ _ (Same.sub (by decide) hw) hu
    have h8 : Same w r s8 := Same.neighbour _ (Same.sub (by decide) hw) h7
    exact State.managePower_same (Same.sub (by decide) hw) (State.publish_same (Same.sub (by decide) hw)
      (State.proposeBits_same _ (Same.sub (by decide) hw) h8))

theorem State.evalStep_same (v : Fin 2) (hw : 498067693084023456704 &&& w = 498067693084023456704) (hk : Same w r s) :
    Same w r (State.evalStep s v) := by
  unfold State.evalStep
  repeat' (first
    | (first | with_reducible assumption | with_reducible exact Same.sub (by decide) hw | dsimp only)
    | (first | with_reducible apply State.evalFront_same | with_reducible apply State.evalBack_same)
    | (first | (intro; intros) | refine Same.fst (by assumption) ?_ | split))

theorem State.evalBoth_same (hw : 498067693084023456704 &&& w = 498067693084023456704) (hk : Same w r s) :
    Same w r (State.evalBoth s) := by
  unfold State.evalBoth
  repeat' (first
    | (first | with_reducible assumption | with_reducible exact Same.sub (by decide) hw | dsimp only)
    | (first | with_reducible apply State.evalStep_same | (intro; intros) | split))

theorem State.evalFronts_same (hw : 479620595513013830592 &&& w = 479620595513013830592) (hk : Same w r s) :
    Same w r (State.evalFronts s).1 := by
  unfold State.evalFronts
  repeat' (first
    | (first | with_reducible assumption | with_reducible exact Same.sub (by decide) hw | dsimp only)
    | (first | with_reducible apply State.evalFront_same | (intro; intros) | refine Same.fst (by assumption) ?_)
    | split)

theorem State.evalBacks_same (trig : BitVec 4 × BitVec 4) (hw : 498067693046442492800 &&& w = 498067693046442492800) (hk : Same w r s) :
    Same w r (State.evalBacks s trig) := by
  unfold State.evalBacks
  repeat' (first
    | (first | with_reducible assumption | with_reducible exact Same.sub (by decide) hw | dsimp only)
    | (first | with_reducible apply State.evalBack_same | (intro; intros) | split))

theorem State.hecRetain_same (hw : 9007199254740992 &&& w = 9007199254740992) (hk : Same w r s) :
    Same w r (State.hecRetain s) := by
  unfold State.hecRetain
  repeat' (first
    | (first | with_reducible assumption | with_reducible exact Same.sub (by decide) hw | dsimp only)
    | (first | with_reducible apply Same.ite | with_reducible apply foldl_same | (intro; intros) | split)
    | with_reducible refine Same.upd (m := 9007199254740992) (hw := ?_) (hk := ?_))

theorem State.hecArbitrate_same (hw : 9007199254740992 &&& w = 9007199254740992) (hk : Same w r s) :
    Same w r (State.hecArbitrate s) := by
  unfold State.hecArbitrate
  repeat' (first
    | (first | with_reducible assumption | with_reducible exact Same.sub (by decide) hw | dsimp only)
    | (first | with_reducible apply Same.ite | (intro; intros) | split)
    | with_reducible refine Same.upd (m := 9007199254740992) (hw := ?_) (hk := ?_))

theorem State.hecSample_same (hw : 9007199254740992 &&& w = 9007199254740992) (hk : Same w r s) :
    Same w r (State.hecSample s) := by
  unfold State.hecSample
  repeat' (first
    | (first | with_reducible assumption | with_reducible exact Same.sub (by decide) hw | dsimp only)
    | (first | with_reducible apply Same.ite | (intro; intros) | split)
    | with_reducible refine Same.upd (m := 9007199254740992) (hw := ?_) (hk := ?_))

theorem State.hecAccess_same (t : Fin 4) (hw : 9007199254740992 &&& w = 9007199254740992) (hk : Same w r s) :
    Same w r (State.hecAccess s t) := by
  unfold State.hecAccess
  repeat' (first
    | (first | with_reducible assumption | with_reducible exact Same.sub (by decide) hw | dsimp only)
    | (first | with_reducible apply Same.ite | (intro; intros) | split)
    | with_reducible refine Same.upd (m := 9007199254740992) (hw := ?_) (hk := ?_))

theorem State.hecEnd_same (t : Fin 4) (wn : Word) (hw : 9007199254740992 &&& w = 9007199254740992) (hk : Same w r s) :
    Same w r (State.hecEnd s t wn) := by
  unfold State.hecEnd
  repeat' (first
    | (first | with_reducible assumption | with_reducible exact Same.sub (by decide) hw | dsimp only)
    | (first | with_reducible apply Same.ite | (intro; intros) | split)
    | with_reducible refine Same.upd (m := 9007199254740992) (hw := ?_) (hk := ?_))

theorem State.hecActive_same (off : BitVec 16) (wn : Word) (hw : 9007199254740992 &&& w = 9007199254740992) (hk : Same w r s) :
    Same w r (State.hecActive s off wn) := by
  unfold State.hecActive
  repeat' (first
    | (first | with_reducible assumption | with_reducible exact Same.sub (by decide) hw | dsimp only)
    | (first | with_reducible apply Same.ite | (intro; intros) | split)
    | with_reducible refine Same.upd (m := 9007199254740992) (hw := ?_) (hk := ?_))

theorem State.hecWrite_same (i : Instr) (hw : 13510798882111488 &&& w = 13510798882111488) (hk : Same w r s) :
    Same w r (State.hecWrite s i) := by
  unfold State.hecWrite
  repeat' (first
    | (first | with_reducible assumption | with_reducible exact Same.sub (by decide) hw | dsimp only)
    | (first | with_reducible apply State.hecAccess_same | with_reducible apply State.hecEnd_same)
    | (first | with_reducible apply State.hecActive_same | (intro; intros) | split)
    | with_reducible refine Same.upd (m := 13510798882111488) (hw := ?_) (hk := ?_))

theorem State.hecFlush_same (hw : 13510798882111488 &&& w = 13510798882111488) (hk : Same w r s) :
    Same w r (State.hecFlush s) := by
  unfold State.hecFlush
  repeat' (first
    | (first | with_reducible assumption | with_reducible exact Same.sub (by decide) hw | dsimp only)
    | (first | with_reducible apply Same.ite | with_reducible apply State.hecWrite_same)
    | (first | with_reducible apply State.each_same | (intro; intros) | split)
    | with_reducible refine Same.upd (m := 9007199254740992) (hw := ?_) (hk := ?_))

theorem State.hecCommand_same (i : Instr) (hw : 18460254872591663104 &&& w = 18460254872591663104) (hk : Same w r s) :
    Same w r (State.hecCommand s i) := by
  unfold State.hecCommand
  repeat' (first
    | (first | with_reducible assumption | with_reducible exact Same.sub (by decide) hw | dsimp only)
    | (first | with_reducible apply Same.ite | with_reducible apply State.hecFlush_same)
    | (first | with_reducible apply State.hecSample_same | with_reducible apply State.hecWrite_same)
    | (first | with_reducible apply State.hecArbitrate_same | with_reducible apply State.wakeEvent_same)
    | (first | (intro; intros) | split)
    | with_reducible refine Same.upd (m := 9007199254740992) (hw := ?_) (hk := ?_))

theorem Same.svGone {o : Option Time} {l : Vector Nat 2} (hw : 26388280115200 &&& w = 26388280115200) (hk : Same w r s) :
    Same w r { s with keep := { s.keep with failedAt := o, tumbler := {} }, nv := { s.nv with svLock := l } } :=
  Same.upd (m := 26388280115200) (hw := hw) (hk := hk)

theorem State.svFail_same (v : Fin 2) (cause row : Nat) (hw : 499220640856861057408 &&& w = 499220640856861057408) (hk : Same w r s) : Same w r (State.svFail s v cause row) := by
  unfold State.svFail
  split
  · exact hk
  · extract_lets s0 s1 s2 s2nv s2keep s3 s4
    have h1 : Same w r s1 := State.onSv_same _ _ (Same.sub (by decide) hw)
      (State.unacknowledge_same _ (Same.sub (by decide) hw) (State.isoAbort_same _ (Same.sub (by decide) hw) hk))
    have h2 : Same w r s2 := State.each_same h1 fun u a hu => State.dropPermit_same _ _ _ (Same.sub (by decide) hw) hu
    have h3 : Same w r s3 := Same.svGone (Same.sub (by decide) hw) h2
    have h4 : Same w r s4 := State.when_same h3 fun u hu => State.journalStop_same _ (Same.sub (by decide) hw) hu
    exact State.managePower_same (Same.sub (by decide) hw) (State.publish_same (Same.sub (by decide) hw)
      (State.wakeEvent_same _ (Same.sub (by decide) hw) (State.record_same _ _ _ _ (Same.sub (by decide) hw) h4)))

theorem State.restEntry_same (wn : Fin 2) (slot : Fin 2048) (hw : 332046460288669581504 &&& w = 332046460288669581504) (hk : Same w r s) :
    Same w r (State.restEntry s wn slot) := by
  unfold State.restEntry
  repeat' (first
    | (first | with_reducible assumption | with_reducible exact Same.sub (by decide) hw | dsimp only)
    | (first | with_reducible apply Same.ite | with_reducible apply State.countEntry_same)
    | (first | with_reducible apply State.acknowledge_same | with_reducible apply State.becameCounted_same)
    | (first | (intro; intros) | split))

theorem State.restLedger_same (wn : Fin 2) (hw : 332046460288669581504 &&& w = 332046460288669581504) (hk : Same w r s) :
    Same w r (State.restLedger s wn) := by
  unfold State.restLedger
  repeat' (first
    | (first | with_reducible assumption | with_reducible exact Same.sub (by decide) hw | dsimp only)
    | (first | with_reducible apply Same.dite | with_reducible apply State.restEntry_same)
    | (first | with_reducible apply State.each_same | (intro; intros) | split))

theorem State.enterDegraded_same (wn : Fin 2) (hw : 498067719472302523328 &&& w = 498067719472302523328) (hk : Same w r s) :
    Same w r (State.enterDegraded s wn) := by
  unfold State.enterDegraded
  repeat' (first
    | (first | with_reducible assumption | with_reducible exact Same.sub (by decide) hw | dsimp only)
    | (first | with_reducible apply State.evalStep_same | with_reducible apply State.restLedger_same)
    | (first | with_reducible apply State.onSv_same | with_reducible apply State.record_same)
    | (first | with_reducible apply State.publishWord_same | with_reducible apply State.each_same)
    | (first | (intro; intros) | split)
    | with_reducible refine Same.upd (m := 26388279066624) (hw := ?_) (hk := ?_))

theorem State.storeCkpt_same (c : Checkpoint) (hw : 2048 &&& w = 2048) (hk : Same w r s) :
    Same w r (State.storeCkpt s c) := by
  unfold State.storeCkpt
  repeat' (first
    | (first | with_reducible assumption | with_reducible exact Same.sub (by decide) hw | dsimp only)
    | (first | with_reducible apply Same.ite | (intro; intros) | split)
    | with_reducible refine Same.upd (m := 2048) (hw := ?_) (hk := ?_))

theorem State.markCkpt_same (c : Checkpoint) (hw : 137438953472 &&& w = 137438953472) (hk : Same w r s) :
    Same w r (State.markCkpt s c) := by
  unfold State.markCkpt
  repeat' (first
    | (first | with_reducible assumption | with_reducible exact Same.sub (by decide) hw | dsimp only)
    | (first | with_reducible apply Same.ite | (intro; intros) | split)
    | with_reducible refine Same.upd (m := 137438953472) (hw := ?_) (hk := ?_))

theorem State.ckptFailed_same (hw : 36893488147419367424 &&& w = 36893488147419367424) (hk : Same w r s) :
    Same w r (State.ckptFailed s) := by
  unfold State.ckptFailed
  repeat' (first
    | (first | with_reducible assumption | with_reducible exact Same.sub (by decide) hw | dsimp only)
    | (first | with_reducible apply Same.ite | with_reducible apply State.record_same | (intro; intros) | split)
    | with_reducible refine Same.upd (m := 264192) (hw := ?_) (hk := ?_))

theorem State.ckptDone_same (ok : Bool) (hw : 36893558653602498560 &&& w = 36893558653602498560) (hk : Same w r s) :
    Same w r (State.ckptDone s ok) := by
  unfold State.ckptDone
  repeat' (first
    | (first | with_reducible assumption | with_reducible exact Same.sub (by decide) hw | dsimp only)
    | (first | with_reducible apply Same.ite | with_reducible apply State.storeCkpt_same)
    | (first | with_reducible apply State.markCkpt_same | with_reducible apply State.ckptFailed_same)
    | (first | (intro; intros) | split)
    | with_reducible refine Same.upd (m := 70368744177664) (hw := ?_) (hk := ?_))

theorem State.mismatch_same (n : Fin 4) (hw : 36893488422297010432 &&& w = 36893488422297010432) (hk : Same w r s) :
    Same w r (State.mismatch s n) := by
  unfold State.mismatch
  repeat' (first
    | (first | with_reducible assumption | with_reducible exact Same.sub (by decide) hw | dsimp only)
    | (first | with_reducible apply State.onNvSec_same | with_reducible apply State.record_same)
    | (first | with_reducible apply State.notify_same | (intro; intros) | split))

theorem State.rederive_same (hw : 274877906944 &&& w = 274877906944) (hk : Same w r s) :
    Same w r (State.rederive s) := by
  unfold State.rederive
  repeat' (first
    | (first | with_reducible assumption | with_reducible exact Same.sub (by decide) hw | dsimp only)
    | (first | with_reducible apply State.onSv_same | with_reducible apply State.each_same | (intro; intros))
    | split)

theorem State.deadboltClear_same (wn : Word) (hw : 4398046511104 &&& w = 4398046511104) (hk : Same w r s) :
    Same w r (State.deadboltClear s wn) := by
  unfold State.deadboltClear
  repeat' (first
    | (first | with_reducible assumption | with_reducible exact Same.sub (by decide) hw | dsimp only)
    | (first | (intro; intros) | split | with_reducible refine Same.upd (m := 4398046511104) (hw := ?_) (hk := ?_)))

end Sys2Proof.Machine
end

