-- ==== Sys2Proof/Laws/SameNet.lean ====
section
/-! SUPPORT. What the field network, the time base, the recorder and the Hasp layer leave as it is. -/

namespace Sys2Proof.Machine

set_option Elab.async false
set_option linter.unusedTactic false
set_option linter.unreachableTactic false
set_option linter.unusedSimpArgs false

variable {w : Nat} {r s : State}

theorem State.serveQueues_same (hw : 2305843009213693952 &&& w = 2305843009213693952) (hk : Same w r s) :
    Same w r (State.serveQueues s) := by
  unfold State.serveQueues
  repeat' (first
    | (first | with_reducible assumption | with_reducible exact Same.sub (by decide) hw | dsimp only)
    | (first | with_reducible apply State.onPort_same | with_reducible apply State.each_same | (intro; intros))
    | split)

theorem State.enqueue_same (p : Fin 4) (x : TxFrame) (hw : 39199331156632797184 &&& w = 39199331156632797184) (hk : Same w r s) :
    Same w r (State.enqueue s p x) := by
  unfold State.enqueue
  repeat' (first
    | (first | with_reducible assumption | with_reducible exact Same.sub (by decide) hw | dsimp only)
    | (first | with_reducible apply Same.ite | with_reducible apply State.onPort_same)
    | (first | with_reducible apply State.record_same | (intro; intros) | split))

theorem State.frameEnds_same (p : Fin 4) (hw : 6917529027641081856 &&& w = 6917529027641081856) (hk : Same w r s) :
    Same w r (State.frameEnds s p) := by
  unfold State.frameEnds
  repeat' (first
    | (first | with_reducible assumption | with_reducible exact Same.sub (by decide) hw | dsimp only)
    | (first | with_reducible apply State.onPort_same | (intro; intros) | split)
    | with_reducible refine Same.upd (m := 4611686018427387904) (hw := ?_) (hk := ?_))

theorem State.switchStops_same (hw : 6917529027641081856 &&& w = 6917529027641081856) (hk : Same w r s) :
    Same w r (State.switchStops s) := by
  unfold State.switchStops
  repeat' (first
    | (first | with_reducible assumption | with_reducible exact Same.sub (by decide) hw | dsimp only)
    | (first | with_reducible apply State.onPort_same | with_reducible apply State.frameEnds_same)
    | (first | with_reducible apply State.each_same | (intro; intros) | split)
    | with_reducible refine Same.upd (m := 4611686018427387904) (hw := ?_) (hk := ?_))

theorem State.sendFrame_same (dest : List (Fin 4)) (dst : Mac) (tag : Option Tag) (ether : BitVec 16) (data : List Byte) (hw : 43811017175060185088 &&& w = 43811017175060185088) (hk : Same w r s) :
    Same w r (State.sendFrame s dest dst tag ether data) := by
  unfold State.sendFrame
  repeat' (first
    | (first | with_reducible assumption | with_reducible exact Same.sub (by decide) hw | dsimp only)
    | (first | with_reducible apply Same.ite | with_reducible apply State.enqueue_same)
    | (first | with_reducible apply State.each_same | (intro; intros) | split)
    | with_reducible refine Same.upd (m := 4611686018427387904) (hw := ?_) (hk := ?_))

theorem State.originate_same (dst : Mac) (tag : Option Tag) (ether : BitVec 16) (data : List Byte) (hw : 43811017175060185088 &&& w = 43811017175060185088) (hk : Same w r s) :
    Same w r (State.originate s dst tag ether data) := by
  unfold State.originate
  repeat' (first
    | (first | with_reducible assumption | with_reducible exact Same.sub (by decide) hw | dsimp only)
    | (first | with_reducible apply Same.ite | with_reducible apply State.sendFrame_same | (intro; intros) | split))

theorem State.sendSdp_same (dst : Mac) (tag : Option Tag) (payload : List Byte) (hw : 43811017175060185088 &&& w = 43811017175060185088) (hk : Same w r s) :
    Same w r (State.sendSdp s dst tag payload) := by
  unfold State.sendSdp
  repeat' (first
    | (first | with_reducible assumption | with_reducible exact Same.sub (by decide) hw | dsimp only)
    | (first | with_reducible apply State.originate_same | (intro; intros) | split))

theorem State.sendTime_same (p : Fin 4) (dst : Mac) (body : List Byte) (hw : 39199331156632797184 &&& w = 39199331156632797184) (hk : Same w r s) :
    Same w r (State.sendTime s p dst body) := by
  unfold State.sendTime
  repeat' (first
    | (first | with_reducible assumption | with_reducible exact Same.sub (by decide) hw | dsimp only)
    | (first | with_reducible apply Same.ite | with_reducible apply State.enqueue_same | (intro; intros) | split))

theorem State.prpForget_same (hw : 4611686018427387904 &&& w = 4611686018427387904) (hk : Same w r s) :
    Same w r (State.prpForget s) := by
  unfold State.prpForget
  repeat' (first
    | (first | with_reducible assumption | with_reducible exact Same.sub (by decide) hw | dsimp only)
    | (first | (intro; intros) | split)
    | with_reducible refine Same.upd (m := 4611686018427387904) (hw := ?_) (hk := ?_))

theorem State.stepTime_same (d : Int) (hw : 590296550296208277508 &&& w = 590296550296208277508) (hk : Same w r s) :
    Same w r (State.stepTime s d) := by
  unfold State.stepTime
  repeat' (first
    | (first | with_reducible assumption | with_reducible exact Same.sub (by decide) hw | dsimp only)
    | (first | (intro; intros) | split)
    | with_reducible refine Same.upd (m := 590296550296208277508) (hw := ?_) (hk := ?_))

theorem State.timeState_same (n : Nat) (hw : 64568107857610801152 &&& w = 64568107857610801152) (hk : Same w r s) :
    Same w r (State.timeState s n) := by
  unfold State.timeState
  repeat' (first
    | (first | with_reducible assumption | with_reducible exact Same.sub (by decide) hw | dsimp only)
    | (first | with_reducible apply Same.ite | with_reducible apply State.record_same)
    | (first | with_reducible apply State.pulse_same | with_reducible apply State.wakeEvent_same)
    | (first | with_reducible apply State.when_same | (intro; intros) | split)
    | with_reducible refine Same.upd (m := 9223372036854775808) (hw := ?_) (hk := ?_))

theorem State.judgeHoldover_same (hw : 64568107857610801152 &&& w = 64568107857610801152) (hk : Same w r s) :
    Same w r (State.judgeHoldover s) := by
  unfold State.judgeHoldover
  repeat' (first
    | (first | with_reducible assumption | with_reducible exact Same.sub (by decide) hw | dsimp only)
    | (first | with_reducible apply State.timeState_same | with_reducible apply State.when_same | (intro; intros))
    | split)

theorem State.enterHoldover_same (hw : 64568107857610801152 &&& w = 64568107857610801152) (hk : Same w r s) :
    Same w r (State.enterHoldover s) := by
  unfold State.enterHoldover
  repeat' (first
    | (first | with_reducible assumption | with_reducible exact Same.sub (by decide) hw | dsimp only)
    | (first | with_reducible apply State.timeState_same | with_reducible apply State.judgeHoldover_same)
    | (first | (intro; intros) | split)
    | with_reducible refine Same.upd (m := 9223372036854775808) (hw := ?_) (hk := ?_))

theorem State.slaveLost_same (hw : 64568107857610801152 &&& w = 64568107857610801152) (hk : Same w r s) :
    Same w r (State.slaveLost s) := by
  unfold State.slaveLost
  repeat' (first
    | (first | with_reducible assumption | with_reducible exact Same.sub (by decide) hw | dsimp only)
    | (first | with_reducible apply Same.ite | with_reducible apply State.enterHoldover_same)
    | (first | with_reducible apply State.timeState_same | (intro; intros) | split)
    | with_reducible refine Same.upd (m := 9223372036854775808) (hw := ?_) (hk := ?_))

theorem State.signalOn_same (p : Fin 4) (hw : 48422703193487572992 &&& w = 48422703193487572992) (hk : Same w r s) :
    Same w r (State.signalOn s p) := by
  unfold State.signalOn
  repeat' (first
    | (first | with_reducible assumption | with_reducible exact Same.sub (by decide) hw | dsimp only)
    | (first | with_reducible apply Same.ite | with_reducible apply State.sendTime_same | (intro; intros) | split)
    | with_reducible refine Same.upd (m := 9223372036854775808) (hw := ?_) (hk := ?_))

theorem State.bestMaster_same (hw : 66873950866824495104 &&& w = 66873950866824495104) (hk : Same w r s) :
    Same w r (State.bestMaster s) := by
  unfold State.bestMaster
  repeat' (first
    | (first | with_reducible assumption | with_reducible exact Same.sub (by decide) hw | dsimp only)
    | (first | with_reducible apply State.slaveLost_same | with_reducible apply State.timeState_same)
    | (first | with_reducible apply State.when_same | (intro; intros) | split)
    | with_reducible refine Same.upd (m := 11529215046068469760) (hw := ?_) (hk := ?_))

theorem State.linkLost_same (p : Fin 4) (hw : 71485636885251883008 &&& w = 71485636885251883008) (hk : Same w r s) :
    Same w r (State.linkLost s p) := by
  unfold State.linkLost
  repeat' (first
    | (first | with_reducible assumption | with_reducible exact Same.sub (by decide) hw | dsimp only)
    | (first | with_reducible apply Same.ite | with_reducible apply State.onPort_same)
    | (first | with_reducible apply State.record_same | with_reducible apply State.bestMaster_same)
    | (first | (intro; intros) | split)
    | with_reducible refine Same.upd (m := 4611686018427387904) (hw := ?_) (hk := ?_))

theorem State.slewTo_same (offset : Int) (hw : 4 &&& w = 4) (hk : Same w r s) :
    Same w r (State.slewTo s offset) := by
  unfold State.slewTo
  repeat' (first
    | (first | with_reducible assumption | with_reducible exact Same.sub (by decide) hw | dsimp only)
    | (first | (intro; intros) | split | with_reducible refine Same.upd (m := 4) (hw := ?_) (hk := ?_)))

theorem State.eventStamp_same (hw : 295147905179352825856 &&& w = 295147905179352825856) (hk : Same w r s) :
    Same w r (State.eventStamp s).2 := by
  unfold State.eventStamp
  repeat' (first
    | (first | with_reducible assumption | with_reducible exact Same.sub (by decide) hw | dsimp only)
    | (first | with_reducible apply Same.ite2 | with_reducible apply State.unstatedRound_same | (intro; intros))
    | (first | refine Same.snd (by assumption) ?_ | split))

theorem State.takeSync_same (gm : Time) (hw : 950012563333171904516 &&& w = 950012563333171904516) (hk : Same w r s) :
    Same w r (State.takeSync s gm) := by
  unfold State.takeSync
  repeat' (first
    | (first | with_reducible assumption | with_reducible exact Same.sub (by decide) hw | dsimp only)
    | (first | with_reducible apply Same.ite | with_reducible apply State.eventStamp_same)
    | (first | with_reducible apply State.stepTime_same | with_reducible apply State.record_same)
    | (first | with_reducible apply State.timeState_same | with_reducible apply State.slewTo_same)
    | (first | (intro; intros) | refine Same.snd (by assumption) ?_ | split)
    | with_reducible refine Same.upd (m := 9223372036854775808) (hw := ?_) (hk := ?_))

theorem State.relaySync_same (hw : 39199331156632797184 &&& w = 39199331156632797184) (hk : Same w r s) :
    Same w r (State.relaySync s) := by
  unfold State.relaySync
  repeat' (first
    | (first | with_reducible assumption | with_reducible exact Same.sub (by decide) hw | dsimp only)
    | (first | with_reducible apply State.sendTime_same | with_reducible apply State.each_same | (intro; intros))
    | split)

theorem State.ppsLocked_same (on : Bool) (hw : 46121363783901249536 &&& w = 46121363783901249536) (hk : Same w r s) :
    Same w r (State.ppsLocked s on) := by
  unfold State.ppsLocked
  repeat' (first
    | (first | with_reducible assumption | with_reducible exact Same.sub (by decide) hw | dsimp only)
    | (first | with_reducible apply Same.ite | with_reducible apply State.record_same)
    | (first | with_reducible apply State.pulse_same | (intro; intros) | split)
    | with_reducible refine Same.upd (m := 9223372036854775808) (hw := ?_) (hk := ?_))

theorem State.ppsRestart_same (hw : 46121363783901249536 &&& w = 46121363783901249536) (hk : Same w r s) :
    Same w r (State.ppsRestart s) := by
  unfold State.ppsRestart
  repeat' (first
    | (first | with_reducible assumption | with_reducible exact Same.sub (by decide) hw | dsimp only)
    | (first | with_reducible apply State.ppsLocked_same | (intro; intros) | split)
    | with_reducible refine Same.upd (m := 9223372036854775808) (hw := ?_) (hk := ?_))

theorem State.emcy_same (ev : RecEvent) (hw : 44963938679667032064 &&& w = 44963938679667032064) (hk : Same w r s) :
    Same w r (State.emcy s ev) := by
  unfold State.emcy
  repeat' (first
    | (first | with_reducible assumption | with_reducible exact Same.sub (by decide) hw | dsimp only)
    | (first | with_reducible apply Same.ite | with_reducible apply State.sendSdp_same)
    | (first | with_reducible apply State.each_same | (intro; intros) | split)
    | with_reducible refine Same.upd (m := 1152921504606846976) (hw := ?_) (hk := ?_))

theorem State.recNext_same (hw : 110680464442257309696 &&& w = 110680464442257309696) (hk : Same w r s) :
    Same w r (State.recNext s) := by
  unfold State.recNext
  repeat' (first
    | (first | with_reducible assumption | with_reducible exact Same.sub (by decide) hw | dsimp only)
    | (first | with_reducible apply Same.ite | with_reducible apply foldl_same | (intro; intros) | split)
    | with_reducible refine Same.upd (m := 110680464442257309696) (hw := ?_) (hk := ?_))

theorem State.recEnter_same (ev : RecEvent) (hw : 110680464442257309696 &&& w = 110680464442257309696) (hk : Same w r s) :
    Same w r (State.recEnter s ev) := by
  unfold State.recEnter
  repeat' (first
    | (first | with_reducible assumption | with_reducible exact Same.sub (by decide) hw | dsimp only)
    | (first | with_reducible apply Same.ite | with_reducible apply State.recNext_same | (intro; intros) | split)
    | with_reducible refine Same.upd (m := 110680464442257309696) (hw := ?_) (hk := ?_))

theorem State.recOwn_same (code : BitVec 16) (emergency : Bool) (payload : List Byte) (hw : 118750914974505238528 &&& w = 118750914974505238528) (hk : Same w r s) :
    Same w r (State.recOwn s code emergency payload) := by
  unfold State.recOwn
  repeat' (first
    | (first | with_reducible assumption | with_reducible exact Same.sub (by decide) hw | dsimp only)
    | (first | with_reducible apply State.recEnter_same | with_reducible apply State.emcy_same)
    | (first | with_reducible apply State.when_same | (intro; intros) | split))

theorem State.recTake_same (ev : RecEvent) (hw : 118750914974505238528 &&& w = 118750914974505238528) (hk : Same w r s) :
    Same w r (State.recTake s ev) := by
  unfold State.recTake
  repeat' (first
    | (first | with_reducible assumption | with_reducible exact Same.sub (by decide) hw | dsimp only)
    | (first | with_reducible apply Same.ite | with_reducible apply State.recEnter_same)
    | (first | with_reducible apply State.emcy_same | with_reducible apply State.when_same | (intro; intros))
    | (first | split | with_reducible refine Same.upd (m := 110680464442257309696) (hw := ?_) (hk := ?_)))

theorem State.latchFault_same (code row : BitVec 16) (force : Bool) (hw : 131072 &&& w = 131072) (hk : Same w r s) :
    Same w r (State.latchFault s code row force) := by
  unfold State.latchFault
  repeat' (first
    | (first | with_reducible assumption | with_reducible exact Same.sub (by decide) hw | dsimp only)
    | (first | with_reducible apply Same.ite | (intro; intros) | split)
    | with_reducible refine Same.upd (m := 131072) (hw := ?_) (hk := ?_))

theorem State.latchClear_same (hw : 131072 &&& w = 131072) (hk : Same w r s) :
    Same w r (State.latchClear s) := by
  unfold State.latchClear
  repeat' (first
    | (first | with_reducible assumption | with_reducible exact Same.sub (by decide) hw | dsimp only)
    | (first | with_reducible apply Same.ite | (intro; intros) | split)
    | with_reducible refine Same.upd (m := 131072) (hw := ?_) (hk := ?_))

theorem State.recFails_same (row : BitVec 16) (hw : 118750914974505369600 &&& w = 118750914974505369600) (hk : Same w r s) :
    Same w r (State.recFails s row) := by
  unfold State.recFails
  repeat' (first
    | (first | with_reducible assumption | with_reducible exact Same.sub (by decide) hw | dsimp only)
    | (first | with_reducible apply State.latchFault_same | with_reducible apply State.emcy_same | (intro; intros))
    | (first | split | with_reducible refine Same.upd (m := 73786976294838337536) (hw := ?_) (hk := ?_)))

theorem Same.rows {p : Repair} {m : RecMem} (hw : 393216 &&& w = 393216) (hk : Same w r s) :
    Same w r { s with nv := { s.nv with repair := p, mem := m } } := Same.upd (m := 393216) (hw := hw) (hk := hk)

theorem State.rowFails_same (row : BitVec 16) (hw : 118750914974505631744 &&& w = 118750914974505631744) (hk : Same w r s) : Same w r (State.rowFails s row) := by
  unfold State.rowFails
  dsimp only
  split
  · exact State.recOwn_same _ _ _ (Same.sub (by decide) hw) (Same.rows (Same.sub (by decide) hw) hk)
  · exact State.recOwn_same _ _ _ (Same.sub (by decide) hw)
      (State.latchFault_same _ _ _ (Same.sub (by decide) hw) (Same.rows (Same.sub (by decide) hw) hk))

theorem State.appendOwn_same (code : BitVec 16) (emergency : Bool) (payload : List Byte) (hw : 44963938679667163136 &&& w = 44963938679667163136) (hk : Same w r s) :
    Same w r (State.appendOwn s code emergency payload) := by
  unfold State.appendOwn
  repeat' (first
    | (first | with_reducible assumption | with_reducible exact Same.sub (by decide) hw | dsimp only)
    | (first | with_reducible apply State.emcy_same | with_reducible apply State.when_same | (intro; intros))
    | (first | split | with_reducible refine Same.upd (m := 131072) (hw := ?_) (hk := ?_)))

theorem State.recFull_same (fails : Nat) (row : BitVec 16) (hw : 118750914974505631744 &&& w = 118750914974505631744) (hk : Same w r s) :
    Same w r (State.recFull s fails row) := by
  unfold State.recFull
  repeat' (first
    | (first | with_reducible assumption | with_reducible exact Same.sub (by decide) hw | dsimp only)
    | (first | with_reducible apply Same.ite | with_reducible apply State.appendOwn_same)
    | (first | with_reducible apply State.emcy_same | with_reducible apply State.recFails_same)
    | (first | with_reducible apply State.rowFails_same | with_reducible apply State.when_same | (intro; intros))
    | (first | split | with_reducible refine Same.upd (m := 73786976294838337536) (hw := ?_) (hk := ?_)))

theorem State.recClear_same (slot : Nat) (hw : 118822972568543297536 &&& w = 118822972568543297536) (hk : Same w r s) :
    Same w r (State.recClear s slot) := by
  unfold State.recClear
  repeat' (first
    | (first | with_reducible assumption | with_reducible exact Same.sub (by decide) hw | dsimp only)
    | (first | with_reducible apply State.appendOwn_same | with_reducible apply State.recNext_same)
    | (first | (intro; intros) | split)
    | with_reducible refine Same.upd (m := 73859033888876265472) (hw := ?_) (hk := ?_))

theorem State.recClearWanted_same (slot : Nat) (hw : 118822972568543297536 &&& w = 118822972568543297536) (hk : Same w r s) :
    Same w r (State.recClearWanted s slot) := by
  unfold State.recClearWanted
  repeat' (first
    | (first | with_reducible assumption | with_reducible exact Same.sub (by decide) hw | dsimp only)
    | (first | with_reducible apply Same.ite | with_reducible apply State.recClear_same)
    | (first | with_reducible apply State.when_same | (intro; intros) | split)
    | with_reducible refine Same.upd (m := 73786976294838206464) (hw := ?_) (hk := ?_))

theorem State.recWrite_same (q : Queued) (fails : Nat) (row : BitVec 16) (hw : 118750914974505631744 &&& w = 118750914974505631744) (hk : Same w r s) :
    Same w r (State.recWrite s q fails row) := by
  unfold State.recWrite
  repeat' (first
    | (first | with_reducible assumption | with_reducible exact Same.sub (by decide) hw | dsimp only)
    | (first | with_reducible apply Same.ite | with_reducible apply State.recFull_same)
    | (first | with_reducible apply State.recFails_same | with_reducible apply State.rowFails_same)
    | (first | with_reducible apply State.recOwn_same | with_reducible apply State.when_same | (intro; intros))
    | (first | split | with_reducible refine Same.upd (m := 73786976294838337536) (hw := ?_) (hk := ?_)))

theorem State.enqueueFirst_same (p : Fin 4) (x : TxFrame) (hw : 2305843009213693952 &&& w = 2305843009213693952) (hk : Same w r s) :
    Same w r (State.enqueueFirst s p x) := by
  unfold State.enqueueFirst
  repeat' (first
    | (first | with_reducible assumption | with_reducible exact Same.sub (by decide) hw | dsimp only)
    | (first | with_reducible apply Same.ite | with_reducible apply State.onPort_same | (intro; intros) | split))

theorem State.sendTele_same (k : Fin 8) (x : Tele) (hw : 6953557824660045824 &&& w = 6953557824660045824) (hk : Same w r s) :
    Same w r (State.sendTele s k x) := by
  unfold State.sendTele
  repeat' (first
    | (first | with_reducible assumption | with_reducible exact Same.sub (by decide) hw | dsimp only)
    | (first | with_reducible apply Same.ite | with_reducible apply State.enqueueFirst_same)
    | (first | with_reducible apply State.onHaspConn_same | with_reducible apply State.each_same | (intro; intros))
    | (first | split | with_reducible refine Same.upd (m := 4611686018427387904) (hw := ?_) (hk := ?_)))

theorem State.sendAssembled_same (k : Fin 8) (l : List Tele) (hw : 43847045972080197632 &&& w = 43847045972080197632) (hk : Same w r s) :
    Same w r (State.sendAssembled s k l) := by
  unfold State.sendAssembled
  repeat' (first
    | (first | with_reducible assumption | with_reducible exact Same.sub (by decide) hw | dsimp only)
    | (first | with_reducible apply Same.ite | with_reducible apply State.sendTele_same)
    | (first | with_reducible apply State.record_same | (intro; intros) | split)
    | with_reducible refine Same.upd (m := 1048576) (hw := ?_) (hk := ?_))

theorem State.requestsTake_same (snap : State) (k : Fin 8) (sendTime : Time) (hw : 274877906944 &&& w = 274877906944) (hk : Same w r s) :
    Same w r (State.requestsTake s snap k sendTime) := by
  unfold State.requestsTake
  repeat' (first
    | (first | with_reducible assumption | with_reducible exact Same.sub (by decide) hw | dsimp only)
    | (first | with_reducible apply State.chooseTR_same | with_reducible apply State.each_same | (intro; intros))
    | split)

theorem State.openGates_same (k : Fin 8) (hw : 2305843009213693952 &&& w = 2305843009213693952) (hk : Same w r s) :
    Same w r (State.openGates s k) := by
  unfold State.openGates
  repeat' (first
    | (first | with_reducible assumption | with_reducible exact Same.sub (by decide) hw | dsimp only)
    | (first | with_reducible apply State.onPort_same | with_reducible apply State.each_same | (intro; intros))
    | split)

theorem State.neighbourNoEntry_same (k : Fin 8) (hw : 36934020544065437696 &&& w = 36934020544065437696) (hk : Same w r s) :
    Same w r (State.neighbourNoEntry s k) := by
  unfold State.neighbourNoEntry
  repeat' (first
    | (first | with_reducible assumption | with_reducible exact Same.sub (by decide) hw | dsimp only)
    | (first | with_reducible apply Same.ite | with_reducible apply State.onHaspConn_same)
    | (first | with_reducible apply State.record_same | with_reducible apply State.pulse_same | (intro; intros))
    | split)

theorem State.connOut_same (k : Fin 8) (farewell : Bool) (hw : 55380905630141252096 &&& w = 55380905630141252096) (hk : Same w r s) :
    Same w r (State.connOut s k farewell) := by
  unfold State.connOut
  repeat' (first
    | (first | with_reducible assumption | with_reducible exact Same.sub (by decide) hw | dsimp only)
    | (first | with_reducible apply Same.ite | with_reducible apply State.onNvConn_same)
    | (first | with_reducible apply State.record_same | with_reducible apply State.neighbourNoEntry_same)
    | (first | with_reducible apply State.wakeEvent_same | (intro; intros) | split)
    | with_reducible refine Same.upd (m := 141012366262272) (hw := ?_) (hk := ?_))

theorem State.laneLost_same (k : Fin 8) (lane : Fin 2) (hw : 36929516944438067712 &&& w = 36929516944438067712) (hk : Same w r s) :
    Same w r (State.laneLost s k lane) := by
  unfold State.laneLost
  repeat' (first
    | (first | with_reducible assumption | with_reducible exact Same.sub (by decide) hw | dsimp only)
    | (first | with_reducible apply State.onHaspConn_same | with_reducible apply State.onNvConn_same)
    | (first | with_reducible apply State.record_same | (intro; intros) | split))

theorem State.laneHeard_same (k : Fin 8) (lane : Fin 2) (hw : 36929516944438067200 &&& w = 36929516944438067200) (hk : Same w r s) :
    Same w r (State.laneHeard s k lane) := by
  unfold State.laneHeard
  repeat' (first
    | (first | with_reducible assumption | with_reducible exact Same.sub (by decide) hw | dsimp only)
    | (first | with_reducible apply State.onHaspConn_same | with_reducible apply State.record_same)
    | (first | with_reducible apply State.when_same | (intro; intros) | split))

theorem State.deliver_same (v : Fin 2) (sec n : Fin 4) (rep : PassRec) (hw : 481926255750120734976 &&& w = 481926255750120734976) (hk : Same w r s) :
    Same w r (State.deliver s v sec n rep) := by
  unfold State.deliver
  repeat' (first
    | (first | with_reducible assumption | with_reducible exact Same.sub (by decide) hw | dsimp only)
    | (first | with_reducible apply Same.ite | with_reducible apply State.onNvSec_same)
    | (first | with_reducible apply State.raise_same | with_reducible apply State.onSv_same)
    | (first | with_reducible apply State.enqueue_same | with_reducible apply State.isoWheel_same)
    | (first | with_reducible apply State.kinTake_same | with_reducible apply State.when_same | (intro; intros))
    | split)

theorem State.takeRecords_same (v : Fin 2) (k : Fin 8) (x : Tele) (hw : 481926255750120734976 &&& w = 481926255750120734976) (hk : Same w r s) :
    Same w r (State.takeRecords s v k x) := by
  unfold State.takeRecords
  repeat' (first
    | (first | with_reducible assumption | with_reducible exact Same.sub (by decide) hw | dsimp only)
    | (first | with_reducible apply Same.ite | with_reducible apply State.crossCheck_same)
    | (first | with_reducible apply State.onSv_same | with_reducible apply State.deliver_same)
    | (first | with_reducible apply State.each_same | (intro; intros) | split))

theorem State.mirrorCheck_same (v : Fin 2) (k : Fin 8) (x : Tele) (hw : 36893488422297010176 &&& w = 36893488422297010176) (hk : Same w r s) :
    Same w r (State.mirrorCheck s v k x) := by
  unfold State.mirrorCheck
  repeat' (first
    | (first | with_reducible assumption | with_reducible exact Same.sub (by decide) hw | dsimp only)
    | (first | with_reducible apply Same.ite | with_reducible apply State.crossCheck_same)
    | (first | with_reducible apply State.onSv_same | (intro; intros) | split))

theorem State.takeAnswer_same (v : Fin 2) (k : Fin 8) (x : Tele) (hw : 36897992021924380672 &&& w = 36897992021924380672) (hk : Same w r s) :
    Same w r (State.takeAnswer s v k x) := by
  unfold State.takeAnswer
  repeat' (first
    | (first | with_reducible assumption | with_reducible exact Same.sub (by decide) hw | dsimp only)
    | (first | with_reducible apply Same.ite | with_reducible apply State.onSv_same)
    | (first | with_reducible apply State.refuse_same | with_reducible apply State.each_same | (intro; intros))
    | split)

theorem State.takeZone_same (v : Fin 2) (k : Fin 8) (x : Tele) (hw : 274877906944 &&& w = 274877906944) (hk : Same w r s) :
    Same w r (State.takeZone s v k x) := by
  unfold State.takeZone
  repeat' (first
    | (first | with_reducible assumption | with_reducible exact Same.sub (by decide) hw | dsimp only)
    | (first | with_reducible apply Same.ite | with_reducible apply State.onSv_same | (intro; intros) | split))

theorem State.process_same (v : Fin 2) (k : Fin 8) (x : Tele) (fresh : Bool) (hw : 481926255750120734976 &&& w = 481926255750120734976) (hk : Same w r s) :
    Same w r (State.process s v k x fresh) := by
  unfold State.process
  repeat' (first
    | (first | with_reducible assumption | with_reducible exact Same.sub (by decide) hw | dsimp only)
    | (first | with_reducible apply Same.ite | with_reducible apply State.onSv_same)
    | (first | with_reducible apply State.takeRecords_same | with_reducible apply State.mirrorCheck_same)
    | (first | with_reducible apply State.takeZone_same | with_reducible apply State.takeAnswer_same)
    | (first | with_reducible apply State.crossCheck_same | (intro; intros) | split))

theorem State.accept_same (v : Fin 2) (k : Fin 8) (x : Tele) (payload : List Byte) (hw : 481926255750120734976 &&& w = 481926255750120734976) (hk : Same w r s) :
    Same w r (State.accept s v k x payload) := by
  unfold State.accept
  repeat' (first
    | (first | with_reducible assumption | with_reducible exact Same.sub (by decide) hw | dsimp only)
    | (first | with_reducible apply Same.ite | with_reducible apply State.onSv_same)
    | (first | with_reducible apply State.process_same | (intro; intros) | split))

theorem State.readWaiting_same (v : Fin 2) (k : Fin 8) (hw : 481926255750120734976 &&& w = 481926255750120734976) (hk : Same w r s) :
    Same w r (State.readWaiting s v k) := by
  unfold State.readWaiting
  repeat' (first
    | (first | with_reducible assumption | with_reducible exact Same.sub (by decide) hw | dsimp only)
    | (first | with_reducible apply State.onSv_same | with_reducible apply State.process_same)
    | (first | with_reducible apply State.when_same | with_reducible apply State.each_same | (intro; intros))
    | split)

theorem State.rejectCopy_same (k : Fin 8) (step : Nat) (hw : 36929516944438067200 &&& w = 36929516944438067200) (hk : Same w r s) :
    Same w r (State.rejectCopy s k step) := by
  unfold State.rejectCopy
  repeat' (first
    | (first | with_reducible assumption | with_reducible exact Same.sub (by decide) hw | dsimp only)
    | (first | with_reducible apply State.onHaspConn_same | with_reducible apply State.record_same)
    | (first | (intro; intros) | split))

theorem State.haspWake_same (k : Fin 8) (x : Tele) (hw : 18446744073709551616 &&& w = 18446744073709551616) (hk : Same w r s) :
    Same w r (State.haspWake s k x) := by
  unfold State.haspWake
  repeat' (first
    | (first | with_reducible assumption | with_reducible exact Same.sub (by decide) hw | dsimp only)
    | (first | with_reducible apply Same.ite | with_reducible apply State.wakeEvent_same)
    | (first | with_reducible apply State.when_same | (intro; intros) | split))

theorem State.takeCopy_same (k : Fin 8) (x : Tele) (payload : List Byte) (hw : 500409169358337606400 &&& w = 500409169358337606400) (hk : Same w r s) :
    Same w r (State.takeCopy s k x payload) := by
  unfold State.takeCopy
  repeat' (first
    | (first | with_reducible assumption | with_reducible exact Same.sub (by decide) hw | dsimp only)
    | (first | with_reducible apply Same.ite | with_reducible apply State.cvuDone_same)
    | (first | with_reducible apply State.record_same | with_reducible apply State.onHaspConn_same)
    | (first | with_reducible apply State.rejectCopy_same | with_reducible apply State.sendTime_same)
    | (first | with_reducible apply State.accept_same | with_reducible apply State.connOut_same)
    | (first | with_reducible apply State.neighbourNoEntry_same | with_reducible apply State.haspWake_same)
    | (first | with_reducible apply State.when_same | with_reducible apply State.each_same | (intro; intros))
    | split)

theorem State.haspTake_same (port : Fin 4) (f : Frame) (hw : 500409169358337606400 &&& w = 500409169358337606400) (hk : Same w r s) :
    Same w r (State.haspTake s port f) := by
  unfold State.haspTake
  repeat' (first
    | (first | with_reducible assumption | with_reducible exact Same.sub (by decide) hw | dsimp only)
    | (first | with_reducible apply Same.ite | with_reducible apply State.record_same)
    | (first | with_reducible apply State.rejectCopy_same | with_reducible apply State.laneHeard_same)
    | (first | with_reducible apply State.takeCopy_same | (intro; intros) | split)
    | with_reducible refine Same.upd (m := 36028797018963968) (hw := ?_) (hk := ?_))

theorem State.haspFrame_same (port : Fin 4) (f : Frame) (hw : 500409169358337606400 &&& w = 500409169358337606400) (hk : Same w r s) :
    Same w r (State.haspFrame s port f) := by
  unfold State.haspFrame
  repeat' (first
    | (first | with_reducible assumption | with_reducible exact Same.sub (by decide) hw | dsimp only)
    | (first | with_reducible apply State.haspTake_same | with_reducible apply State.when_same | (intro; intros))
    | split)

theorem State.leaveTemplates_same (hw : 39235359953651761152 &&& w = 39235359953651761152) (hk : Same w r s) :
    Same w r (State.leaveTemplates s) := by
  unfold State.leaveTemplates
  repeat' (first
    | (first | with_reducible assumption | with_reducible exact Same.sub (by decide) hw | dsimp only)
    | (first | with_reducible apply Same.ite | with_reducible apply State.sendTime_same)
    | (first | with_reducible apply State.onHaspConn_same | with_reducible apply State.each_same | (intro; intros))
    | split)

end Sys2Proof.Machine
end

