-- ==== Sys2Proof/Laws/SameSdp.lean ====
section
/-! SUPPORT. What the dictionary and the removal sequence leave as it is. -/

namespace Sys2Proof.Machine

set_option Elab.async false
set_option linter.unusedTactic false
set_option linter.unreachableTactic false
set_option linter.unusedSimpArgs false

variable {w : Nat} {r s : State}

theorem State.readRat_same (wn : Nat) (q : Rat) (hw : 295147905179352825856 &&& w = 295147905179352825856) (hk : Same w r s) :
    Same w r (State.readRat s wn q).2 := by
  unfold State.readRat
  repeat' (first
    | (first | with_reducible assumption | with_reducible exact Same.sub (by decide) hw | dsimp only)
    | (first | with_reducible apply Same.ite2 | with_reducible apply State.unstatedRound_same | (intro; intros))
    | (first | refine Same.snd (by assumption) ?_ | split))

theorem State.readDuration_same (o : Option Time) (hw : 295147905179352825856 &&& w = 295147905179352825856) (hk : Same w r s) :
    Same w r (State.readDuration s o).2 := by
  unfold State.readDuration
  repeat' (first
    | (first | with_reducible assumption | with_reducible exact Same.sub (by decide) hw | dsimp only)
    | (first | with_reducible apply Same.ite2 | with_reducible apply State.unstatedRound_same | (intro; intros))
    | (first | refine Same.snd (by assumption) ?_ | split))

theorem State.readChan_same (c : Fin 16) (sub : Nat) (hw : 295147905179352825856 &&& w = 295147905179352825856) (hk : Same w r s) :
    Same w r (State.readChan s c sub).2 := by
  unfold State.readChan
  repeat' (first
    | (first | with_reducible assumption | with_reducible exact Same.sub (by decide) hw | dsimp only)
    | (first | with_reducible apply Same.ite2 | with_reducible apply State.readRat_same)
    | (first | with_reducible apply State.rootRound_same | (intro; intros) | refine Same.snd (by assumption) ?_)
    | split)

theorem State.readVerdict_same (n : Fin 4) (sub : Nat) (hw : 295147905179352825856 &&& w = 295147905179352825856) (hk : Same w r s) :
    Same w r (State.readVerdict s n sub).2 := by
  unfold State.readVerdict
  repeat' (first
    | (first | with_reducible assumption | with_reducible exact Same.sub (by decide) hw | dsimp only)
    | (first | with_reducible apply Same.ite2 | with_reducible apply State.readRat_same)
    | (first | with_reducible apply foldl_same_snd | (intro; intros) | refine Same.snd (by assumption) ?_ | split))

theorem State.readZone_same (n : Fin 4) (sub : Nat) (hw : 295147905179352825856 &&& w = 295147905179352825856) (hk : Same w r s) :
    Same w r (State.readZone s n sub).2 := by
  unfold State.readZone
  repeat' (first
    | (first | with_reducible assumption | with_reducible exact Same.sub (by decide) hw | dsimp only)
    | (first | with_reducible apply Same.ite2 | with_reducible apply State.readRat_same | (intro; intros))
    | (first | refine Same.snd (by assumption) ?_ | split))

theorem State.readPower_same (sub : Nat) (hw : 295147905179352825856 &&& w = 295147905179352825856) (hk : Same w r s) :
    Same w r (State.readPower s sub).2 := by
  unfold State.readPower
  repeat' (first
    | (first | with_reducible assumption | with_reducible exact Same.sub (by decide) hw | dsimp only)
    | (first | with_reducible apply Same.ite2 | with_reducible apply State.readDuration_same | (intro; intros))
    | (first | refine Same.snd (by assumption) ?_ | split))

theorem State.readHorizon_same (h : Fin 8) (sub : Nat) (hw : 295147905179352825856 &&& w = 295147905179352825856) (hk : Same w r s) :
    Same w r (State.readHorizon s h sub).2 := by
  unfold State.readHorizon
  repeat' (first
    | (first | with_reducible assumption | with_reducible exact Same.sub (by decide) hw | dsimp only)
    | (first | with_reducible apply Same.ite2 | with_reducible apply State.readDuration_same | (intro; intros))
    | (first | refine Same.snd (by assumption) ?_ | split))

theorem State.drawChallenge_same (i : Fin 5) (hw : 1224979098644774912 &&& w = 1224979098644774912) (hk : Same w r s) :
    Same w r (State.drawChallenge s i).2 := by
  unfold State.drawChallenge
  repeat' (first
    | (first | with_reducible assumption | with_reducible exact Same.sub (by decide) hw | dsimp only)
    | (first | with_reducible apply Same.ite2 | with_reducible apply State.onSession_same | (intro; intros))
    | (first | split | with_reducible refine Same.upd (m := 1152921504606846976) (hw := ?_) (hk := ?_)))

theorem State.readEntries_same (i : Fin 5) (block : Bool) (hw : 72057594037927936 &&& w = 72057594037927936) (hk : Same w r s) :
    Same w r (State.readEntries s i block).2 := by
  unfold State.readEntries
  repeat' (first
    | (first | with_reducible assumption | with_reducible exact Same.sub (by decide) hw | dsimp only)
    | (first | with_reducible apply Same.ite2 | with_reducible apply State.onSession_same | (intro; intros))
    | split)

theorem State.readValue_same (i : Fin 5) (key : Nat) (rep : DRow) (hw : 296372884277997600768 &&& w = 296372884277997600768) (hk : Same w r s) :
    Same w r (State.readValue s i key rep).2 := by
  unfold State.readValue
  dsimp only
  repeat' (first
    | with_reducible assumption
    | with_reducible exact Same.sub (by decide) hw
    | with_reducible apply Same.ite2
    | with_reducible apply Same.dite2
    | (first | with_reducible apply State.drawChallenge_same | with_reducible apply State.readChan_same)
    | (first | with_reducible apply State.readPower_same | with_reducible apply State.readHorizon_same)
    | (first | with_reducible apply State.readVerdict_same | with_reducible apply State.readZone_same)
    | (first | with_reducible apply State.readEntries_same | intro _ | dsimp only | split))

theorem State.withWork_same (wn : List KeyVal) (hw : 576460752303423488 &&& w = 576460752303423488) (hk : Same w r s) :
    Same w r (State.withWork s wn) := by
  unfold State.withWork
  repeat' (first
    | (first | with_reducible assumption | with_reducible exact Same.sub (by decide) hw | dsimp only)
    | (first | (intro; intros) | split)
    | with_reducible refine Same.upd (m := 576460752303423488) (hw := ?_) (hk := ?_))

theorem State.after_same (l : List Change) (hw : 576460752303423488 &&& w = 576460752303423488) (hk : Same w r s) :
    Same w r (State.after s l) := by
  unfold State.after
  repeat' (first
    | (first | with_reducible assumption | with_reducible exact Same.sub (by decide) hw | dsimp only)
    | (first | with_reducible apply State.withWork_same | (intro; intros) | split))

theorem State.afterReset_same (p : Phase) (hw : 885443715538056527878 &&& w = 885443715538056527878) (hk : Same w r s) :
    Same w r (State.afterReset s p) := by
  unfold State.afterReset
  repeat' (first
    | (first | with_reducible assumption | with_reducible exact Same.sub (by decide) hw | dsimp only)
    | (first | (intro; intros) | split)
    | with_reducible refine Same.upd (m := 885443715538056527878) (hw := ?_) (hk := ?_))

theorem State.countAll_same (slot : Fin 2048) (hw : 332046460288669581504 &&& w = 332046460288669581504) (hk : Same w r s) :
    Same w r (State.countAll s slot) := by
  unfold State.countAll
  repeat' (first
    | (first | with_reducible assumption | with_reducible exact Same.sub (by decide) hw | dsimp only)
    | (first | with_reducible apply State.countEntry_same | with_reducible apply State.when_same)
    | (first | with_reducible apply State.each_same | (intro; intros) | split))

theorem State.countRest_same (hw : 332046460288669581504 &&& w = 332046460288669581504) (hk : Same w r s) :
    Same w r (State.countRest s) := by
  unfold State.countRest
  repeat' (first
    | (first | with_reducible assumption | with_reducible exact Same.sub (by decide) hw | dsimp only)
    | (first | with_reducible apply Same.dite | with_reducible apply State.restLedger_same)
    | (first | with_reducible apply State.countAll_same | with_reducible apply State.each_same | (intro; intros))
    | split)

theorem State.voidOpen_same (hw : 36893523812827529344 &&& w = 36893523812827529344) (hk : Same w r s) :
    Same w r (State.voidOpen s) := by
  unfold State.voidOpen
  repeat' (first
    | (first | with_reducible assumption | with_reducible exact Same.sub (by decide) hw | dsimp only)
    | (first | with_reducible apply State.voidEntry_same | with_reducible apply State.each_same | (intro; intros))
    | (first | split | with_reducible refine Same.upd (m := 68719476736) (hw := ?_) (hk := ?_)))

theorem State.dropAll_same (hw : 36893495019366776832 &&& w = 36893495019366776832) (hk : Same w r s) :
    Same w r (State.dropAll s) := by
  unfold State.dropAll
  repeat' (first
    | (first | with_reducible assumption | with_reducible exact Same.sub (by decide) hw | dsimp only)
    | (first | with_reducible apply State.dropPermit_same | with_reducible apply State.bothSv_same)
    | (first | with_reducible apply State.each_same | (intro; intros) | split))

theorem State.finalCkpt_same (hw : 36898062253229869056 &&& w = 36898062253229869056) (hk : Same w r s) :
    Same w r (State.finalCkpt s) := by
  unfold State.finalCkpt
  repeat' (first
    | (first | with_reducible assumption | with_reducible exact Same.sub (by decide) hw | dsimp only)
    | (first | with_reducible apply Same.ite | with_reducible apply State.ckptDone_same)
    | (first | with_reducible apply State.storeCkpt_same | with_reducible apply State.markCkpt_same)
    | (first | with_reducible apply State.cvuDone_same | (intro; intros) | split))

theorem State.farewells_same (cause voidHeads : Nat) (hw : 43851549571707568128 &&& w = 43851549571707568128) (hk : Same w r s) :
    Same w r (State.farewells s cause voidHeads) := by
  unfold State.farewells
  repeat' (first
    | (first | with_reducible assumption | with_reducible exact Same.sub (by decide) hw | dsimp only)
    | (first | with_reducible apply State.sendAssembled_same | with_reducible apply State.cvuDone_same)
    | (first | with_reducible apply State.onHaspConn_same | with_reducible apply State.each_same | (intro; intros))
    | split)

theorem State.saveOpsec_same (hw : 524288 &&& w = 524288) (hk : Same w r s) :
    Same w r (State.saveOpsec s) := by
  unfold State.saveOpsec
  repeat' (first
    | (first | with_reducible assumption | with_reducible exact Same.sub (by decide) hw | dsimp only)
    | (first | (intro; intros) | split | with_reducible refine Same.upd (m := 524288) (hw := ?_) (hk := ?_)))

theorem Same.keeper {b : Bool} {v : Vector Bool 4} (hw : 140737488355328 &&& w = 140737488355328) (hk : Same w r s) :
    Same w r { s with keep := { s.keep with farewell := b, barred := v } } :=
  Same.upd (m := 140737488355328) (hw := hw) (hk := hk)

theorem State.warningTaken_same (hw : 43811164784496214016 &&& w = 43811164784496214016) (hk : Same w r s) : Same w r (State.warningTaken s) :=
  State.switchStops_same (Same.sub (by decide) hw) (Same.keeper (Same.sub (by decide) hw)
    (State.dropAll_same (Same.sub (by decide) hw) hk))

theorem State.restsWithdrawn_same (hw : 274877906944 &&& w = 274877906944) (hk : Same w r s) :
    Same w r (State.restsWithdrawn s) := by
  unfold State.restsWithdrawn
  repeat' (first
    | (first | with_reducible assumption | with_reducible exact Same.sub (by decide) hw | dsimp only)
    | (first | with_reducible apply Same.ite | with_reducible apply State.bothSv_same | (intro; intros) | split))

theorem State.lastStep_same (hw : 498067693084023456704 &&& w = 498067693084023456704) (hk : Same w r s) :
    Same w r (State.lastStep s) := by
  unfold State.lastStep
  repeat' (first
    | (first | with_reducible assumption | with_reducible exact Same.sub (by decide) hw | dsimp only)
    | (first | with_reducible apply State.evalFronts_same | with_reducible apply State.restsWithdrawn_same)
    | (first | with_reducible apply State.evalBacks_same | (intro; intros) | refine Same.fst (by assumption) ?_)
    | split)

theorem State.lastCounts_same (hw : 332046991971261352384 &&& w = 332046991971261352384) (hk : Same w r s) :
    Same w r (State.lastCounts s) := by
  unfold State.lastCounts
  repeat' (first
    | (first | with_reducible assumption | with_reducible exact Same.sub (by decide) hw | dsimp only)
    | (first | with_reducible apply State.countRest_same | with_reducible apply State.voidOpen_same)
    | (first | with_reducible apply State.finalCkpt_same | with_reducible apply State.publishAll_same)
    | (first | (intro; intros) | split))

theorem State.removedBy_same (cause : Nat) (hw : 504405357288751122 &&& w = 504405357288751122) (hk : Same w r s) :
    Same w r (State.removedBy s cause) := by
  unfold State.removedBy
  repeat' (first
    | (first | with_reducible assumption | with_reducible exact Same.sub (by decide) hw | dsimp only)
    | (first | (intro; intros) | split)
    | with_reducible refine Same.upd (m := 504405357288751122) (hw := ?_) (hk := ?_))

theorem State.removal_same (cause journal : Nat) (hw : 506678575571557690322 &&& w = 506678575571557690322) (hk : Same w r s) : Same w r (State.removal s cause journal) := by
  unfold State.removal
  have h1 := State.warningTaken_same (Same.sub (by decide) hw) (State.when_same (b := s.pwr.state != .hibernate)
    (State.isoAbort_same false (Same.sub (by decide) hw) hk) fun _ hu => State.lastStep_same (Same.sub (by decide) hw) hu)
  exact State.removedBy_same _ (Same.sub (by decide) hw) (State.saveOpsec_same (Same.sub (by decide) hw)
    (State.journalStop_same _ (Same.sub (by decide) hw) (State.farewells_same _ _ (Same.sub (by decide) hw)
      (State.when_same h1 fun _ hu => State.lastCounts_same (Same.sub (by decide) hw) hu))))

theorem State.powerBad_same (hw : 2 &&& w = 2) (hk : Same w r s) :
    Same w r (State.powerBad s) := by
  unfold State.powerBad
  repeat' (first
    | (first | with_reducible assumption | with_reducible exact Same.sub (by decide) hw | dsimp only)
    | (first | with_reducible apply Same.ite | (intro; intros) | split)
    | with_reducible refine Same.upd (m := 2) (hw := ?_) (hk := ?_))

theorem State.softReset_same (hw : 506678575571557690322 &&& w = 506678575571557690322) (hk : Same w r s) :
    Same w r (State.softReset s) := by
  unfold State.softReset
  repeat' (first
    | (first | with_reducible assumption | with_reducible exact Same.sub (by decide) hw | dsimp only)
    | (first | with_reducible apply Same.ite | with_reducible apply State.removal_same | (intro; intros) | split)
    | with_reducible refine Same.upd (m := 2) (hw := ?_) (hk := ?_))

theorem State.cutCkpt_same (hw : 2048 &&& w = 2048) (hk : Same w r s) :
    Same w r (State.cutCkpt s) := by
  unfold State.cutCkpt
  repeat' (first
    | (first | with_reducible assumption | with_reducible exact Same.sub (by decide) hw | dsimp only)
    | (first | with_reducible apply Same.ite | with_reducible apply State.storeCkpt_same)
    | (first | with_reducible apply State.when_same | with_reducible apply State.whenSome_same | (intro; intros))
    | split)

theorem State.strikeSec_same (n : Fin 4) (hw : 35459249996032 &&& w = 35459249996032) (hk : Same w r s) :
    Same w r (State.strikeSec s n) := by
  unfold State.strikeSec
  repeat' (first
    | (first | with_reducible assumption | with_reducible exact Same.sub (by decide) hw | dsimp only)
    | (first | with_reducible apply Same.ite | with_reducible apply State.onNvSec_same)
    | (first | with_reducible apply State.setCumValid_same | with_reducible apply State.bothSv_same)
    | (first | with_reducible apply State.enter_same | with_reducible apply State.each_same | (intro; intros))
    | split)

theorem State.headOff_same (h : Fin 8) (hw : 35261203349504 &&& w = 35261203349504) (hk : Same w r s) :
    Same w r (State.headOff s h) := by
  unfold State.headOff
  repeat' (first
    | (first | with_reducible assumption | with_reducible exact Same.sub (by decide) hw | dsimp only)
    | (first | with_reducible apply State.onChan_same | with_reducible apply State.onWarn_same)
    | (first | with_reducible apply State.onScan_same | with_reducible apply State.onDet_same)
    | (first | with_reducible apply State.onStats_same | with_reducible apply State.onProof_same)
    | (first | with_reducible apply State.onEp_same | with_reducible apply State.onWse_same)
    | (first | with_reducible apply State.setCumValid_same | with_reducible apply State.when_same)
    | (first | with_reducible apply State.each_same | with_reducible apply State.whenSome_same | (intro; intros))
    | (first | split | with_reducible refine Same.upd (m := 68719476736) (hw := ?_) (hk := ?_)))

theorem State.headOn_same (h : Fin 8) (hw : 8388608 &&& w = 8388608) (hk : Same w r s) :
    Same w r (State.headOn s h) := by
  unfold State.headOn
  repeat' (first
    | (first | with_reducible assumption | with_reducible exact Same.sub (by decide) hw | dsimp only)
    | (first | with_reducible apply State.onChan_same | with_reducible apply State.when_same)
    | (first | with_reducible apply State.each_same | (intro; intros) | split))

theorem State.chanHook_same (old : State) (keys : List Nat) (c : Fin 16) (hw : 36897991750007652416 &&& w = 36897991750007652416) (hk : Same w r s) :
    Same w r (State.chanHook s old keys c) := by
  unfold State.chanHook
  repeat' (first
    | (first | with_reducible assumption | with_reducible exact Same.sub (by decide) hw | dsimp only)
    | (first | with_reducible apply State.onNvChan_same | with_reducible apply State.commandChange_same)
    | (first | with_reducible apply State.onChan_same | with_reducible apply State.when_same | (intro; intros))
    | split)

theorem State.connFresh_same (k : Fin 8) (hw : 36934020818943344640 &&& w = 36934020818943344640) (hk : Same w r s) :
    Same w r (State.connFresh s k) := by
  unfold State.connFresh
  repeat' (first
    | (first | with_reducible assumption | with_reducible exact Same.sub (by decide) hw | dsimp only)
    | (first | with_reducible apply State.onHaspConn_same | with_reducible apply State.neighbourNoEntry_same)
    | (first | (intro; intros) | split | with_reducible refine Same.upd (m := 274877906944) (hw := ?_) (hk := ?_)))

theorem State.configHooks_same (old : State) (keys : List Nat) (hw : 71521701218821865536 &&& w = 71521701218821865536) (hk : Same w r s) :
    Same w r (State.configHooks s old keys) := by
  unfold State.configHooks
  repeat' (first
    | (first | with_reducible assumption | with_reducible exact Same.sub (by decide) hw | dsimp only)
    | (first | with_reducible apply Same.ite | with_reducible apply State.headOff_same)
    | (first | with_reducible apply State.headOn_same | with_reducible apply State.chanHook_same)
    | (first | with_reducible apply State.blankJudge_same | with_reducible apply State.onTch_same)
    | (first | with_reducible apply State.bodyWarning_same | with_reducible apply State.connFresh_same)
    | (first | with_reducible apply State.linkLost_same | with_reducible apply State.signalOn_same)
    | (first | with_reducible apply State.judgeHoldover_same | with_reducible apply State.ppsRestart_same)
    | (first | with_reducible apply State.amonRefresh_same | with_reducible apply State.when_same)
    | (first | with_reducible apply State.each_same | with_reducible apply State.eachFin_same)
    | (first | with_reducible apply State.whenSome_same | (intro; intros) | split)
    | with_reducible refine Same.upd (m := 33554432) (hw := ?_) (hk := ?_))

theorem State.applyConfig_same (l : List Change) (hw : 367247126667370430912 &&& w = 367247126667370430912) (hk : Same w r s) :
    Same w r (State.applyConfig s l) := by
  unfold State.applyConfig
  repeat' (first
    | (first | with_reducible assumption | with_reducible exact Same.sub (by decide) hw | dsimp only)
    | (first | with_reducible apply State.after_same | with_reducible apply State.configHooks_same)
    | (first | with_reducible apply State.strikeSec_same | with_reducible apply State.configStep_same)
    | (first | with_reducible apply State.publishAll_same | with_reducible apply State.each_same | (intro; intros))
    | split)

theorem State.storeChanges_same (l : List Change) (hw : 1152921504606847008 &&& w = 1152921504606847008) (hk : Same w r s) :
    Same w r (State.storeChanges s l) := by
  unfold State.storeChanges
  repeat' (first
    | (first | with_reducible assumption | with_reducible exact Same.sub (by decide) hw | dsimp only)
    | (first | with_reducible apply State.storeEntry_same | with_reducible apply State.each_same | (intro; intros))
    | (first | split | with_reducible refine Same.upd (m := 1152921504606847008) (hw := ?_) (hk := ?_)))

theorem State.discardResult_same (n : Fin 4) (hw : 36893488147419103232 &&& w = 36893488147419103232) (hk : Same w r s) :
    Same w r (State.discardResult s n) := by
  unfold State.discardResult
  repeat' (first
    | (first | with_reducible assumption | with_reducible exact Same.sub (by decide) hw | dsimp only)
    | (first | with_reducible apply State.record_same | with_reducible apply State.when_same | (intro; intros))
    | split)

theorem State.sweep_same (n : Fin 4) (hw : 36897992021924380672 &&& w = 36897992021924380672) (hk : Same w r s) :
    Same w r (State.sweep s n) := by
  unfold State.sweep
  repeat' (first
    | (first | with_reducible assumption | with_reducible exact Same.sub (by decide) hw | dsimp only)
    | (first | with_reducible apply State.discardResult_same | with_reducible apply State.onSv_same)
    | (first | with_reducible apply State.enter_same | with_reducible apply State.pulse_same)
    | (first | with_reducible apply State.each_same | (intro; intros) | split))

theorem State.directClear_same (n : Fin 4) (ref slot : Nat) (hw : 36898167943784824960 &&& w = 36898167943784824960) (hk : Same w r s) :
    Same w r (State.directClear s n ref slot) := by
  unfold State.directClear
  extract_lets s1 s2 s3 s4
  have h1 : Same w r s1 := State.discardResult_same _ (Same.sub (by decide) hw) hk
  have h2 : Same w r s2 := State.sweepRebase_same _ (Same.sub (by decide) hw)
    (State.each_same h1 fun u v hu => State.onSv_same _ _ (Same.sub (by decide) hw) hu)
  have h3 : Same w r s3 := State.setBarred_same _ _ (Same.sub (by decide) hw) h2
  have h4 : Same w r s4 := State.each_same h3 fun u v hu => State.enter_same _ _ _ _ (Same.sub (by decide) hw) hu
  exact State.pulse_same _ (Same.sub (by decide) hw) (State.record_same _ _ _ _ (Same.sub (by decide) hw) h4)

theorem State.releaseWitness_same (n : Fin 4) (hw : 274877906944 &&& w = 274877906944) (hk : Same w r s) :
    Same w r (State.releaseWitness s n) := by
  unfold State.releaseWitness
  repeat' (first
    | (first | with_reducible assumption | with_reducible exact Same.sub (by decide) hw | dsimp only)
    | (first | with_reducible apply State.bothSv_same | (intro; intros) | split))

theorem State.loadKey_same (slot : Nat) (v : List Byte) (hw : 32768 &&& w = 32768) (hk : Same w r s) :
    Same w r (State.loadKey s slot v) := by
  unfold State.loadKey
  repeat' (first
    | (first | with_reducible assumption | with_reducible exact Same.sub (by decide) hw | dsimp only)
    | (first | with_reducible apply Same.ite | (intro; intros) | split)
    | with_reducible refine Same.upd (m := 32768) (hw := ?_) (hk := ?_))

theorem State.applyImmediate_same (slot : Nat) (e : KeyVal) (hw : 332046079964810871232 &&& w = 332046079964810871232) (hk : Same w r s) :
    Same w r (State.applyImmediate s slot e) := by
  unfold State.applyImmediate
  repeat' (first
    | (first | with_reducible assumption | with_reducible exact Same.sub (by decide) hw | dsimp only)
    | (first | with_reducible apply Same.ite | with_reducible apply Same.dite)
    | (first | with_reducible apply State.loadKey_same | with_reducible apply State.strikeSec_same)
    | (first | with_reducible apply State.rereference_same | with_reducible apply State.releaseWitness_same)
    | (first | with_reducible apply State.sweep_same | with_reducible apply State.directClear_same)
    | (first | with_reducible apply State.each_same | (intro; intros) | split))

theorem State.applyOther_same (slot : Nat) (e : KeyVal) (hw : 118822972568543313920 &&& w = 118822972568543313920) (hk : Same w r s) :
    Same w r (State.applyOther s slot e) := by
  unfold State.applyOther
  repeat' (first
    | (first | with_reducible assumption | with_reducible exact Same.sub (by decide) hw | dsimp only)
    | (first | with_reducible apply Same.ite | with_reducible apply State.recClearWanted_same)
    | (first | with_reducible apply State.latchClear_same | with_reducible apply State.when_same | (intro; intros))
    | (first | split | with_reducible refine Same.upd (m := 16384) (hw := ?_) (hk := ?_)))

theorem State.applySet_same (wn : WaitingSet) (hw : 590265384655755574258 &&& w = 590265384655755574258) (hk : Same w r s) :
    Same w r (State.applySet s wn) := by
  unfold State.applySet
  repeat' (first
    | (first | with_reducible assumption | with_reducible exact Same.sub (by decide) hw | dsimp only)
    | (first | with_reducible apply State.storeChanges_same | with_reducible apply State.applyConfig_same)
    | (first | with_reducible apply State.applyOther_same | with_reducible apply State.softReset_same)
    | (first | with_reducible apply State.when_same | with_reducible apply State.each_same | (intro; intros))
    | (first | split | with_reducible refine Same.upd (m := 20480) (hw := ?_) (hk := ?_)))

theorem State.applySets_same (pitched : BitVec 4) (hw : 590265384655755574258 &&& w = 590265384655755574258) (hk : Same w r s) :
    Same w r (State.applySets s pitched) := by
  unfold State.applySets
  repeat' (first
    | (first | with_reducible assumption | with_reducible exact Same.sub (by decide) hw | dsimp only)
    | (first | with_reducible apply State.applySet_same | with_reducible apply State.when_same)
    | (first | with_reducible apply State.each_same | (intro; intros) | split))

theorem State.pitchSec_same (n : Fin 4) (epoch : Nat) (t : Time) (hw : 141012366262528 &&& w = 141012366262528) (hk : Same w r s) :
    Same w r (State.pitchSec s n epoch t) := by
  unfold State.pitchSec
  repeat' (first
    | (first | with_reducible assumption | with_reducible exact Same.sub (by decide) hw | dsimp only)
    | (first | with_reducible apply Same.ite | with_reducible apply State.onNvSec_same)
    | (first | with_reducible apply State.setBarred_same | with_reducible apply State.onSv_same)
    | (first | with_reducible apply State.enter_same | with_reducible apply State.each_same | (intro; intros))
    | (first | split | with_reducible refine Same.upd (m := 140737488355328) (hw := ?_) (hk := ?_)))

theorem State.applyPitch_same (hw : 4679796365721856 &&& w = 4679796365721856) (hk : Same w r s) :
    Same w r (State.applyPitch s) := by
  unfold State.applyPitch
  repeat' (first
    | (first | with_reducible assumption | with_reducible exact Same.sub (by decide) hw | dsimp only)
    | (first | with_reducible apply State.bothSv_same | with_reducible apply State.setCumValid_same)
    | (first | with_reducible apply State.pitchSec_same | with_reducible apply State.pulse_same)
    | (first | with_reducible apply State.each_same | with_reducible apply foldl_same | (intro; intros) | split))

theorem State.pitchDone_same (code : Nat) (hw : 36893488147419168768 &&& w = 36893488147419168768) (hk : Same w r s) :
    Same w r (State.pitchDone s code) := by
  unfold State.pitchDone
  repeat' (first
    | (first | with_reducible assumption | with_reducible exact Same.sub (by decide) hw | dsimp only)
    | (first | with_reducible apply State.record_same | (intro; intros) | split)
    | with_reducible refine Same.upd (m := 65536) (hw := ?_) (hk := ?_))

theorem State.bindingRestores_same (items : List KeyVal) (hw : 140737488355584 &&& w = 140737488355584) (hk : Same w r s) :
    Same w r (State.bindingRestores s items) := by
  unfold State.bindingRestores
  repeat' (first
    | (first | with_reducible assumption | with_reducible exact Same.sub (by decide) hw | dsimp only)
    | (first | with_reducible apply State.onNvSec_same | with_reducible apply State.setBarred_same)
    | (first | with_reducible apply State.each_same | (intro; intros) | split))

theorem State.applyTxn_same (items : List KeyVal) (hw : 367247126667370430944 &&& w = 367247126667370430944) (hk : Same w r s) :
    Same w r (State.applyTxn s items) := by
  unfold State.applyTxn
  repeat' (first
    | (first | with_reducible assumption | with_reducible exact Same.sub (by decide) hw | dsimp only)
    | (first | with_reducible apply Same.ite | with_reducible apply State.applyConfig_same)
    | (first | with_reducible apply State.bindingRestores_same | (intro; intros) | split)
    | with_reducible refine Same.upd (m := 32) (hw := ?_) (hk := ?_))

theorem State.journalDone_same (hw : 368400048171977286112 &&& w = 368400048171977286112) (hk : Same w r s) :
    Same w r (State.journalDone s) := by
  unfold State.journalDone
  repeat' (first
    | (first | with_reducible assumption | with_reducible exact Same.sub (by decide) hw | dsimp only)
    | (first | with_reducible apply Same.ite | with_reducible apply State.journalFinish_same)
    | (first | with_reducible apply State.applyConfig_same | with_reducible apply State.when_same)
    | (first | (intro; intros) | split)
    | with_reducible refine Same.upd (m := 1152921504606846976) (hw := ?_) (hk := ?_))

theorem State.commit_same (i : Fin 5) (hw : 332118137558848868800 &&& w = 332118137558848868800) (hk : Same w r s) :
    Same w r (State.commit s i) := by
  unfold State.commit
  repeat' (first
    | (first | with_reducible assumption | with_reducible exact Same.sub (by decide) hw | dsimp only)
    | (first | with_reducible apply Same.ite | with_reducible apply State.onSession_same)
    | (first | with_reducible apply State.applyImmediate_same | with_reducible apply State.when_same)
    | (first | with_reducible apply State.each_same | (intro; intros) | split)
    | with_reducible refine Same.upd (m := 69632) (hw := ?_) (hk := ?_))

theorem State.releaseOverrides_same (n : Nat) (hw : 368400048171977277920 &&& w = 368400048171977277920) (hk : Same w r s) :
    Same w r (State.releaseOverrides s n) := by
  unfold State.releaseOverrides
  repeat' (first
    | (first | with_reducible assumption | with_reducible exact Same.sub (by decide) hw | dsimp only)
    | (first | with_reducible apply State.storeChanges_same | with_reducible apply State.applyConfig_same)
    | (first | (intro; intros) | split))

theorem State.journalRun_same (a : StoreRun) (hw : 368400048171977286112 &&& w = 368400048171977286112) (hk : Same w r s) : Same w r (State.journalRun s a) := by
  cases a with
  | whole => exact State.journalDone_same (Same.sub (by decide) hw) hk
  | stops n => exact State.journalWrite_same _ (Same.sub (by decide) hw) hk
  | fails n => exact State.record_same _ _ _ _ (Same.sub (by decide) hw) (State.journalStop_same _ (Same.sub (by decide) hw)
      (State.journalWrite_same _ (Same.sub (by decide) hw) hk))

theorem State.resolve_same (back : Bool) (a : StoreRun) (hw : 368400048171977286112 &&& w = 368400048171977286112) (hk : Same w r s) : Same w r (State.resolve s back a) :=
  State.journalRun_same _ (Same.sub (by decide) hw) (Same.upd (m := 8192) (hw := Same.sub (by decide) hw) (hk := hk))

theorem State.imageLoaded_same (val : List Byte) (hw : 16384 &&& w = 16384) (hk : Same w r s) :
    Same w r (State.imageLoaded s val) := by
  unfold State.imageLoaded
  repeat' (first
    | (first | with_reducible assumption | with_reducible exact Same.sub (by decide) hw | dsimp only)
    | (first | (intro; intros) | split | with_reducible refine Same.upd (m := 16384) (hw := ?_) (hk := ?_)))

theorem State.runCommand_same (i : Fin 5) (key : Nat) (val : List Byte) (wn : StoreRun) (hw : 368472110198421582304 &&& w = 368472110198421582304) (hk : Same w r s) :
    Same w r (State.runCommand s i key val wn) := by
  unfold State.runCommand
  repeat' (first
    | (first | with_reducible assumption | with_reducible exact Same.sub (by decide) hw | dsimp only)
    | (first | with_reducible apply Same.ite | with_reducible apply Same.dite)
    | (first | with_reducible apply State.publishAll_same | with_reducible apply State.releaseOverrides_same)
    | (first | with_reducible apply State.scanDue_same | with_reducible apply State.onProof_same)
    | (first | with_reducible apply State.commit_same | with_reducible apply State.onSession_same)
    | (first | with_reducible apply State.imageLoaded_same | with_reducible apply State.resolve_same)
    | (first | with_reducible apply State.when_same | (intro; intros) | split)
    | with_reducible refine Same.upd (m := 140737488359424) (hw := ?_) (hk := ?_))

theorem State.raiseRefused_same (i : Fin 5) (slot : Nat) (hw : 36965545741458079744 &&& w = 36965545741458079744) (hk : Same w r s) :
    Same w r (State.raiseRefused s i slot) := by
  unfold State.raiseRefused
  repeat' (first
    | (first | with_reducible assumption | with_reducible exact Same.sub (by decide) hw | dsimp only)
    | (first | with_reducible apply Same.ite | with_reducible apply State.record_same)
    | (first | with_reducible apply State.onSession_same | (intro; intros) | split)
    | with_reducible refine Same.upd (m := 1048576) (hw := ?_) (hk := ?_))

theorem State.raiseSession_same (i : Fin 5) (val : List Byte) (hw : 332113450920810905600 &&& w = 332113450920810905600) (hk : Same w r s) :
    Same w r (State.raiseSession s i val).1 := by
  unfold State.raiseSession
  repeat' (first
    | (first | with_reducible assumption | with_reducible exact Same.sub (by decide) hw | dsimp only)
    | (first | with_reducible apply State.onSession_same | with_reducible apply State.unstatedRound_same)
    | (first | with_reducible apply State.raiseRefused_same | with_reducible apply State.record_same)
    | (first | (intro; intros) | refine Same.snd (by assumption) ?_ | split))

theorem State.applyWrite_same (i : Fin 5) (key : Nat) (rep : DRow) (val : List Byte) (wn : StoreRun) (hw : 368472110198421582304 &&& w = 368472110198421582304) (hk : Same w r s) :
    Same w r (State.applyWrite s i key rep val wn) := by
  unfold State.applyWrite
  repeat' (first
    | (first | with_reducible assumption | with_reducible exact Same.sub (by decide) hw | dsimp only)
    | (first | with_reducible apply Same.ite | with_reducible apply State.onSession_same)
    | (first | with_reducible apply State.storeChanges_same | with_reducible apply State.applyConfig_same)
    | (first | with_reducible apply State.runCommand_same | (intro; intros) | split))

theorem State.afterTxn_same (items : List KeyVal) (hw : 576460752303423488 &&& w = 576460752303423488) (hk : Same w r s) :
    Same w r (State.afterTxn s items) := by
  unfold State.afterTxn
  repeat' (first
    | (first | with_reducible assumption | with_reducible exact Same.sub (by decide) hw | dsimp only)
    | (first | with_reducible apply Same.ite | with_reducible apply State.withWork_same | (intro; intros) | split))

theorem State.openJournal_same (number : Nat) (items : List KeyVal) (hw : 576460752303431680 &&& w = 576460752303431680) (hk : Same w r s) :
    Same w r (State.openJournal s number items) := by
  unfold State.openJournal
  repeat' (first
    | (first | with_reducible assumption | with_reducible exact Same.sub (by decide) hw | dsimp only)
    | (first | with_reducible apply Same.ite | with_reducible apply State.afterTxn_same)
    | (first | with_reducible apply foldl_same | (intro; intros) | split)
    | with_reducible refine Same.upd (m := 8192) (hw := ?_) (hk := ?_))

theorem State.runTxn_same (i : Fin 5) (number : Nat) (items : List KeyVal) (a : StoreRun) (hw : 368616225386497438176 &&& w = 368616225386497438176) (hk : Same w r s) :
    Same w r (State.runTxn s i number items a) := by
  unfold State.runTxn
  extract_lets s1 s2
  have h1 : Same w r s1 := State.applyTxn_same _ (Same.sub (by decide) hw) (State.openJournal_same _ _ (Same.sub (by decide) hw) hk)
  have h2 : Same w r s2 := State.each_same h1 fun u e hu => State.runCommand_same _ _ _ _ (Same.sub (by decide) hw) hu
  exact State.journalRun_same _ (Same.sub (by decide) hw)
    (Same.upd (m := 144115188075855872) (hw := Same.sub (by decide) hw) (hk := h2))

theorem State.takeRequest_same (src : SdpSrc) (hw : 4613937818241073152 &&& w = 4613937818241073152) (hk : Same w r s) :
    Same w r (State.takeRequest s src) := by
  unfold State.takeRequest
  repeat' (first
    | (first | with_reducible assumption | with_reducible exact Same.sub (by decide) hw | dsimp only)
    | (first | (intro; intros) | split)
    | with_reducible refine Same.upd (m := 4613937818241073152) (hw := ?_) (hk := ?_))

theorem State.answer_same (src : SdpSrc) (p : List Byte) (hw : 43813268974873870336 &&& w = 43813268974873870336) (hk : Same w r s) :
    Same w r (State.answer s src p) := by
  unfold State.answer
  repeat' (first
    | (first | with_reducible assumption | with_reducible exact Same.sub (by decide) hw | dsimp only)
    | (first | with_reducible apply State.sendSdp_same | (intro; intros) | split)
    | with_reducible refine Same.upd (m := 2251799813685248) (hw := ?_) (hk := ?_))

theorem State.loadStops_same (i : Fin 5) (hw : 16384 &&& w = 16384) (hk : Same w r s) :
    Same w r (State.loadStops s i) := by
  unfold State.loadStops
  repeat' (first
    | (first | with_reducible assumption | with_reducible exact Same.sub (by decide) hw | dsimp only)
    | (first | with_reducible apply State.when_same | (intro; intros) | split)
    | with_reducible refine Same.upd (m := 16384) (hw := ?_) (hk := ?_))

theorem State.xferEnds_same (i : Fin 5) (hw : 72057594037944320 &&& w = 72057594037944320) (hk : Same w r s) :
    Same w r (State.xferEnds s i) := by
  unfold State.xferEnds
  repeat' (first
    | (first | with_reducible assumption | with_reducible exact Same.sub (by decide) hw | dsimp only)
    | (first | with_reducible apply State.loadStops_same | with_reducible apply State.onSession_same)
    | (first | (intro; intros) | split))

theorem State.xferGone_same (i : Fin 5) (hw : 72057594037944320 &&& w = 72057594037944320) (hk : Same w r s) :
    Same w r (State.xferGone s i) := by
  unfold State.xferGone
  repeat' (first
    | (first | with_reducible assumption | with_reducible exact Same.sub (by decide) hw | dsimp only)
    | (first | with_reducible apply Same.ite | with_reducible apply State.onSession_same)
    | (first | with_reducible apply State.loadStops_same | (intro; intros) | split))

theorem State.txnGone_same (i : Fin 5) (hw : 144115188075855872 &&& w = 144115188075855872) (hk : Same w r s) :
    Same w r (State.txnGone s i) := by
  unfold State.txnGone
  repeat' (first
    | (first | with_reducible assumption | with_reducible exact Same.sub (by decide) hw | dsimp only)
    | (first | with_reducible apply Same.ite | (intro; intros) | split)
    | with_reducible refine Same.upd (m := 144115188075855872) (hw := ?_) (hk := ?_))

theorem State.closeSession_same (i : Fin 5) (hw : 216172782113800192 &&& w = 216172782113800192) (hk : Same w r s) :
    Same w r (State.closeSession s i) := by
  unfold State.closeSession
  repeat' (first
    | (first | with_reducible assumption | with_reducible exact Same.sub (by decide) hw | dsimp only)
    | (first | with_reducible apply State.loadStops_same | with_reducible apply State.txnGone_same)
    | (first | with_reducible apply State.onSession_same | (intro; intros) | split))

theorem State.txnTouched_same (hw : 144115188075855872 &&& w = 144115188075855872) (hk : Same w r s) :
    Same w r (State.txnTouched s) := by
  unfold State.txnTouched
  repeat' (first
    | (first | with_reducible assumption | with_reducible exact Same.sub (by decide) hw | dsimp only)
    | (first | (intro; intros) | split)
    | with_reducible refine Same.upd (m := 144115188075855872) (hw := ?_) (hk := ?_))

theorem refused_same (a : Abort) (hw : 0 &&& w = 0) (hk : Same w r s) :
    Same w r (refused s a).st := by
  unfold refused
  repeat' (first
    | (first | with_reducible assumption | with_reducible exact Same.sub (by decide) hw | dsimp only [refused])
    | (first | with_reducible apply Same.iteA | (intro; intros) | split))

theorem State.doOpen_same (mac : Mac) (data : List Byte) (hw : 72057594037927936 &&& w = 72057594037927936) (hk : Same w r s) :
    Same w r (State.doOpen s mac data).st := by
  unfold State.doOpen
  repeat' (first
    | (first | with_reducible assumption | with_reducible exact Same.sub (by decide) hw | dsimp only [refused])
    | (first | with_reducible apply Same.iteA | with_reducible apply State.onSession_same | (intro; intros))
    | split)

theorem State.doRead_same (i : Fin 5) (rep : SdpReq) (net : Bool) (hw : 296372884277997600768 &&& w = 296372884277997600768) (hk : Same w r s) :
    Same w r (State.doRead s i rep net).st := by
  unfold State.doRead
  repeat' (first
    | (first | with_reducible assumption | with_reducible exact Same.sub (by decide) hw | dsimp only [refused])
    | (first | with_reducible apply Same.iteA | with_reducible apply State.readValue_same | (intro; intros))
    | (first | refine Same.snd (by assumption) ?_ | split))

theorem State.doReadInit_same (i : Fin 5) (rep : SdpReq) (net : Bool) (hw : 296372884277997600768 &&& w = 296372884277997600768) (hk : Same w r s) :
    Same w r (State.doReadInit s i rep net).st := by
  unfold State.doReadInit
  repeat' (first
    | (first | with_reducible assumption | with_reducible exact Same.sub (by decide) hw | dsimp only [refused])
    | (first | with_reducible apply Same.iteA | with_reducible apply State.readValue_same)
    | (first | with_reducible apply State.onSession_same | (intro; intros) | refine Same.snd (by assumption) ?_)
    | split)

theorem State.doReadSeg_same (i : Fin 5) (rep : SdpReq) (net : Bool) (hw : 72057594037927936 &&& w = 72057594037927936) (hk : Same w r s) :
    Same w r (State.doReadSeg s i rep net).st := by
  unfold State.doReadSeg
  repeat' (first
    | (first | with_reducible assumption | with_reducible exact Same.sub (by decide) hw | dsimp only [refused])
    | (first | with_reducible apply Same.iteA | with_reducible apply State.onSession_same | (intro; intros))
    | split)

theorem State.switchWithdrawn_same (hw : 4096 &&& w = 4096) (hk : Same w r s) :
    Same w r (State.switchWithdrawn s) := by
  unfold State.switchWithdrawn
  repeat' (first
    | (first | with_reducible assumption | with_reducible exact Same.sub (by decide) hw | dsimp only)
    | (first | (intro; intros) | split | with_reducible refine Same.upd (m := 4096) (hw := ?_) (hk := ?_)))

theorem State.doWriteInit_same (i : Fin 5) (rep : SdpReq) (net : Bool) (hw : 72057594037948416 &&& w = 72057594037948416) (hk : Same w r s) :
    Same w r (State.doWriteInit s i rep net).st := by
  unfold State.doWriteInit
  repeat' (first
    | (first | with_reducible assumption | with_reducible exact Same.sub (by decide) hw | dsimp only [refused])
    | (first | with_reducible apply Same.iteA | with_reducible apply State.switchWithdrawn_same)
    | (first | with_reducible apply State.onSession_same | with_reducible apply State.when_same | (intro; intros))
    | (first | split | with_reducible refine Same.upd (m := 16384) (hw := ?_) (hk := ?_)))

theorem State.doXferAbort_same (i : Fin 5) (hw : 72057594037944320 &&& w = 72057594037944320) (hk : Same w r s) :
    Same w r (State.doXferAbort s i).st := by
  unfold State.doXferAbort
  repeat' (first
    | (first | with_reducible assumption | with_reducible exact Same.sub (by decide) hw | dsimp only [refused])
    | (first | with_reducible apply Same.iteA | with_reducible apply State.xferGone_same | (intro; intros) | split))

theorem State.doTxnBegin_same (i : Fin 5) (hw : 144115188075864064 &&& w = 144115188075864064) (hk : Same w r s) :
    Same w r (State.doTxnBegin s i).st := by
  unfold State.doTxnBegin
  repeat' (first
    | (first | with_reducible assumption | with_reducible exact Same.sub (by decide) hw | dsimp only [refused])
    | (first | with_reducible apply Same.iteA | (intro; intros) | split)
    | with_reducible refine Same.upd (m := 144115188075864064) (hw := ?_) (hk := ?_))

theorem State.doTxnDiscard_same (i : Fin 5) (hw : 144115188075855872 &&& w = 144115188075855872) (hk : Same w r s) :
    Same w r (State.doTxnDiscard s i).st := by
  unfold State.doTxnDiscard
  repeat' (first
    | (first | with_reducible assumption | with_reducible exact Same.sub (by decide) hw | dsimp only [refused])
    | (first | with_reducible apply Same.iteA | (intro; intros) | split)
    | with_reducible refine Same.upd (m := 144115188075855872) (hw := ?_) (hk := ?_))

theorem State.doTxnEnd_same (i : Fin 5) (wn : StoreRun) (hw : 368616225386497438176 &&& w = 368616225386497438176) (hk : Same w r s) :
    Same w r (State.doTxnEnd s i wn).st := by
  unfold State.doTxnEnd
  repeat' (first
    | (first | with_reducible assumption | with_reducible exact Same.sub (by decide) hw | dsimp only [refused])
    | (first | with_reducible apply Same.iteA | with_reducible apply State.txnTouched_same)
    | (first | with_reducible apply State.runTxn_same | (intro; intros) | split))

theorem State.writeValue_same (i : Fin 5) (key : Nat) (val : List Byte) (txn whole : Bool) (wn : StoreRun) (hw : 368616225386498486752 &&& w = 368616225386498486752) (hk : Same w r s) :
    Same w r (State.writeValue s i key val txn whole wn).st := by
  unfold State.writeValue
  repeat' (first
    | (first | with_reducible assumption | with_reducible exact Same.sub (by decide) hw | dsimp only [refused])
    | (first | with_reducible apply Same.iteA | with_reducible apply State.raiseSession_same)
    | (first | with_reducible apply State.applyWrite_same | (intro; intros) | refine Same.fst (by assumption) ?_)
    | (first | split | with_reducible refine Same.upd (m := 144115188075855872) (hw := ?_) (hk := ?_)))

theorem State.doWriteSeg_same (i : Fin 5) (rep : SdpReq) (net : Bool) (hw : 368616225386498486752 &&& w = 368616225386498486752) (hk : Same w r s) :
    Same w r (State.doWriteSeg s i rep net).st := by
  unfold State.doWriteSeg
  repeat' (first
    | (first | with_reducible assumption | with_reducible exact Same.sub (by decide) hw | dsimp only [refused])
    | (first | with_reducible apply Same.iteA | with_reducible apply State.onSession_same)
    | (first | with_reducible apply State.xferEnds_same | with_reducible apply State.writeValue_same)
    | (first | (intro; intros) | split))

theorem State.execute_same (i : Fin 5) (rep : SdpReq) (net : Bool) (wn : StoreRun) (hw : 368616225386498486752 &&& w = 368616225386498486752) (hk : Same w r s) :
    Same w r (State.execute s i rep net wn).st := by
  unfold State.execute
  repeat' (first
    | (first | with_reducible assumption | with_reducible exact Same.sub (by decide) hw | dsimp only [refused])
    | (first | with_reducible apply Same.iteA | with_reducible apply State.closeSession_same)
    | (first | with_reducible apply State.doRead_same | with_reducible apply State.writeValue_same)
    | (first | with_reducible apply State.doReadInit_same | with_reducible apply State.doReadSeg_same)
    | (first | with_reducible apply State.doWriteInit_same | with_reducible apply State.doWriteSeg_same)
    | (first | with_reducible apply State.doXferAbort_same | with_reducible apply State.doTxnBegin_same)
    | (first | with_reducible apply State.doTxnEnd_same | with_reducible apply State.doTxnDiscard_same)
    | (first | (intro; intros) | split))

theorem State.executeStepped_same (i : Fin 5) (rep : SdpReq) (net : Bool) (wn : StoreRun) (hw : 516190177984764834784 &&& w = 516190177984764834784) (hk : Same w r s) :
    Same w r (State.executeStepped s i rep net wn).st := by
  unfold State.executeStepped
  repeat' (first
    | (first | with_reducible assumption | with_reducible exact Same.sub (by decide) hw | dsimp only [refused])
    | (first | with_reducible apply Same.iteA | with_reducible apply State.evalFronts_same)
    | (first | with_reducible apply State.execute_same | with_reducible apply State.evalBacks_same)
    | (first | with_reducible apply State.evalBoth_same | (intro; intros) | refine Same.fst (by assumption) ?_)
    | split)

theorem State.perform_same (i : Fin 5) (q : SdpReq) (net : Bool) (a : StoreRun) (hw : 516190177984764834784 &&& w = 516190177984764834784) (hk : Same w r s) {x : Answered}
    (h : State.perform s i q net a = some x) : Same w r x.st := by
  unfold State.perform at h
  repeat' split at h
  all_goals first | (cases h; done) | (cases h; try dsimp only [refused])
  · exact State.onSession_same _ _ (Same.sub (by decide) hw) hk
  · exact State.execute_same _ _ _ _ (Same.sub (by decide) hw) hk
  · exact State.wakeEvent_same _ (Same.sub (by decide) hw) hk
  · exact State.executeStepped_same _ _ _ _ (Same.sub (by decide) hw) hk

theorem State.answerKept_same (src : SdpSrc) (i : Fin 5) (p : List Byte) (hw : 43885326568911798272 &&& w = 43885326568911798272) (hk : Same w r s) :
    Same w r (State.answerKept s src i p) := by
  unfold State.answerKept
  repeat' (first
    | (first | with_reducible assumption | with_reducible exact Same.sub (by decide) hw | dsimp only)
    | (first | with_reducible apply State.onSession_same | with_reducible apply State.answer_same)
    | (first | (intro; intros) | split))

theorem Same.awaits {l : List WaitingReq} (hw : 288230376151711744 &&& w = 288230376151711744) (hk : Same w r s) :
    Same w r { s with sdp := { s.sdp with waiting := l } } := Same.upd (m := 288230376151711744) (hw := hw) (hk := hk)

theorem Same.replies {o : Option (Fin 5 × SdpSrc × List Byte)} (hw : 1152921504606846976 &&& w = 1152921504606846976)
    (hk : Same w r s) : Same w r { s with sdp := { s.sdp with jrnReply := o } } :=
  Same.upd (m := 1152921504606846976) (hw := hw) (hk := hk)

/-- What a request of a session leaves: what its response, and what its operation leaves. -/
theorem State.serveSession_same_of (src : SdpSrc) (i : Fin 5) (q : SdpReq) (a : StoreRun)
    (hw : 45326478449670356992 &&& w = 45326478449670356992) (hk : Same w r s)
    (h : ∀ {u : State} {x : Answered}, Same w r u → State.perform u i q (onNet src) a = some x → Same w r x.st) :
    Same w r (State.serveSession s src i q a) := by
  unfold State.serveSession
  dsimp only
  split
  · exact State.answer_same _ _ (Same.sub (by decide) hw) hk
  · split
    · exact State.when_same hk fun _ hu => State.answer_same _ _ (Same.sub (by decide) hw) hu
    · split
      · exact State.answer_same _ _ (Same.sub (by decide) hw) hk
      · split
        · exact Same.awaits (Same.sub (by decide) hw) (State.onSession_same _ _ (Same.sub (by decide) hw) hk)
        · rename_i b hb
          have h2 := h (State.onSession_same _ _ (Same.sub (by decide) hw) hk) hb
          have hs : ∀ p, Same w r (b.st.answerKept src i p) := fun p => State.answerKept_same _ _ _ (Same.sub (by decide) hw) h2
          have ha : ∀ p, Same w r (b.st.answer src p) := fun p => State.answer_same _ _ (Same.sub (by decide) hw) h2
          split
          · exact Same.replies (Same.sub (by decide) hw) h2
          · exact Same.replies (Same.sub (by decide) hw) h2
          · exact h2
          · repeat' split
            all_goals first | exact h2 | exact ha _ | exact hs _

theorem State.serveSession_same (src : SdpSrc) (i : Fin 5) (q : SdpReq) (a : StoreRun) (hw : 516480660160730231776 &&& w = 516480660160730231776) (hk : Same w r s) :
    Same w r (State.serveSession s src i q a) :=
  State.serveSession_same_of src i q a (Same.sub (by decide) hw) hk fun hu hx =>
    State.perform_same _ _ _ _ (Same.sub (by decide) hw) hu hx

theorem State.heard_same (src : SdpSrc) (p : List Byte) (hw : 72057594037927936 &&& w = 72057594037927936) (hk : Same w r s) :
    Same w r (State.heard s src p) := by
  unfold State.heard
  repeat' (first
    | (first | with_reducible assumption | with_reducible exact Same.sub (by decide) hw | dsimp only)
    | (first | with_reducible apply State.onSession_same | with_reducible apply State.when_same | (intro; intros))
    | split)

theorem State.refuseForm_same (src : SdpSrc) (p : List Byte) (rep : SdpReq) (a : Abort) (hw : 43813268974873870336 &&& w = 43813268974873870336) (hk : Same w r s) :
    Same w r (State.refuseForm s src p rep a) := by
  unfold State.refuseForm
  repeat' (first
    | (first | with_reducible assumption | with_reducible exact Same.sub (by decide) hw | dsimp only)
    | (first | with_reducible apply Same.ite | with_reducible apply State.answer_same | (intro; intros) | split))

/-- What a request leaves: what taking it and answering it leave, and what its operation leaves. -/
theorem State.serve_same_of (src : SdpSrc) (p : List Byte) (a : StoreRun)
    (hw : 45326478449670356992 &&& w = 45326478449670356992) (hk : Same w r s)
    (h : ∀ {u : State} {i : Fin 5} {x : Answered}, Same w r u → State.perform u i (parseSdp p) (onNet src) a = some x →
      Same w r x.st) : Same w r (State.serve s src p a) := by
  have h1 := State.heard_same src p (Same.sub (by decide) hw) (State.takeRequest_same src (Same.sub (by decide) hw) hk)
  unfold State.serve
  dsimp only
  split
  · exact State.refuseForm_same _ _ _ _ (Same.sub (by decide) hw) h1
  · split
    · split
      · exact State.answer_same _ _ (Same.sub (by decide) hw) h1
      · exact State.answer_same _ _ (Same.sub (by decide) hw) (State.doOpen_same _ _ (Same.sub (by decide) hw) h1)
    · split
      · exact State.answer_same _ _ (Same.sub (by decide) hw) h1
      · exact State.serveSession_same_of _ _ _ _ hw h1 h

theorem State.serve_same (src : SdpSrc) (p : List Byte) (a : StoreRun) (hw : 516480660160730231776 &&& w = 516480660160730231776) (hk : Same w r s) :
    Same w r (State.serve s src p a) :=
  State.serve_same_of _ _ _ (Same.sub (by decide) hw) hk fun hu hx => State.perform_same _ _ _ _ (Same.sub (by decide) hw) hu hx

theorem State.serveIf_same (src : SdpSrc) (want : State → Fin 5 → SdpReq → Bool) (wn : StoreRun) (hw : 516480660160730231776 &&& w = 516480660160730231776) (hk : Same w r s) :
    Same w r (State.serveIf s src want wn) := by
  unfold State.serveIf
  repeat' (first
    | (first | with_reducible assumption | with_reducible exact Same.sub (by decide) hw | dsimp only)
    | (first | with_reducible apply Same.ite | with_reducible apply State.serve_same)
    | (first | with_reducible apply State.when_same | (intro; intros) | split))

end Sys2Proof.Machine
end

