-- ==== Sys2Proof/Laws/SameHost.lean ====
section
/-! SUPPORT. What the host window, the switch, the power manager, start-up and self-test leave as it is. -/

namespace Sys2Proof.Machine

set_option Elab.async false
set_option linter.unusedTactic false
set_option linter.unreachableTactic false
set_option linter.unusedSimpArgs false

variable {w : Nat} {r s : State}

theorem State.tractionCommit_same (n : Fin 4) (wn : Word) (hw : 55340513696105365504 &&& w = 55340513696105365504) (hk : Same w r s) :
    Same w r (State.tractionCommit s n wn) := by
  unfold State.tractionCommit
  repeat' (first
    | (first | with_reducible assumption | with_reducible exact Same.sub (by decide) hw | dsimp only)
    | (first | with_reducible apply Same.ite | with_reducible apply State.onTraction_same)
    | (first | with_reducible apply State.record_same | with_reducible apply State.wakeEvent_same)
    | (first | with_reducible apply State.when_same | (intro; intros) | split))

theorem State.tractionAged_same (n : Fin 4) (hw : 36893769622396862464 &&& w = 36893769622396862464) (hk : Same w r s) :
    Same w r (State.tractionAged s n) := by
  unfold State.tractionAged
  repeat' (first
    | (first | with_reducible assumption | with_reducible exact Same.sub (by decide) hw | dsimp only)
    | (first | with_reducible apply State.onTraction_same | with_reducible apply State.record_same)
    | (first | (intro; intros) | split | with_reducible refine Same.upd (m := 1048576) (hw := ?_) (hk := ?_)))

theorem State.onMailbox_same (f : Mailbox → Mailbox) (hw : 2251799813685248 &&& w = 2251799813685248) (hk : Same w r s) :
    Same w r (State.onMailbox s f) := by
  unfold State.onMailbox
  repeat' (first
    | (first | with_reducible assumption | with_reducible exact Same.sub (by decide) hw | dsimp only)
    | (first | (intro; intros) | split)
    | with_reducible refine Same.upd (m := 2251799813685248) (hw := ?_) (hk := ?_))

theorem State.mailboxSend_same (hw : 18448995873523236864 &&& w = 18448995873523236864) (hk : Same w r s) :
    Same w r (State.mailboxSend s) := by
  unfold State.mailboxSend
  repeat' (first
    | (first | with_reducible assumption | with_reducible exact Same.sub (by decide) hw | dsimp only)
    | (first | with_reducible apply Same.ite | with_reducible apply State.onMailbox_same)
    | (first | with_reducible apply State.wakeEvent_same | (intro; intros) | split))

theorem State.mailboxCancel_same (hw : 1515461274610171904 &&& w = 1515461274610171904) (hk : Same w r s) :
    Same w r (State.mailboxCancel s) := by
  unfold State.mailboxCancel
  repeat' (first
    | (first | with_reducible assumption | with_reducible exact Same.sub (by decide) hw | dsimp only)
    | (first | with_reducible apply Same.ite | with_reducible apply State.onMailbox_same | (intro; intros) | split)
    | with_reducible refine Same.upd (m := 1513209474796486656) (hw := ?_) (hk := ?_))

theorem State.writeHec_same (t : Time) (off : Nat) (wn : Word) (hw : 18460254872591663104 &&& w = 18460254872591663104) (hk : Same w r s) :
    Same w r (State.writeHec s t off wn) := by
  unfold State.writeHec
  repeat' (first
    | (first | with_reducible assumption | with_reducible exact Same.sub (by decide) hw | dsimp only)
    | (first | with_reducible apply Same.ite | with_reducible apply State.hecCommand_same | (intro; intros))
    | split)

theorem State.writeMailbox_same (off : Nat) (wn : Word) (hw : 19962205348319723520 &&& w = 19962205348319723520) (hk : Same w r s) :
    Same w r (State.writeMailbox s off wn) := by
  unfold State.writeMailbox
  repeat' (first
    | (first | with_reducible assumption | with_reducible exact Same.sub (by decide) hw | dsimp only)
    | (first | with_reducible apply Same.ite | with_reducible apply State.mailboxCancel_same)
    | (first | with_reducible apply State.mailboxSend_same | with_reducible apply State.onMailbox_same)
    | (first | with_reducible apply State.when_same | (intro; intros) | split))

theorem State.writeTraction_same (n : Fin 4) (reg : Nat) (wn : Word) (hw : 55340513696105365504 &&& w = 55340513696105365504) (hk : Same w r s) :
    Same w r (State.writeTraction s n reg wn) := by
  unfold State.writeTraction
  repeat' (first
    | (first | with_reducible assumption | with_reducible exact Same.sub (by decide) hw | dsimp only)
    | (first | with_reducible apply Same.ite | with_reducible apply State.onTraction_same)
    | (first | with_reducible apply State.tractionCommit_same | (intro; intros) | split))

theorem State.writeCvu_same (u : Fin 2) (reg : Nat) (wn : Word) (hw : 22517998136852480 &&& w = 22517998136852480) (hk : Same w r s) :
    Same w r (State.writeCvu s u reg wn) := by
  unfold State.writeCvu
  repeat' (first
    | (first | with_reducible assumption | with_reducible exact Same.sub (by decide) hw | dsimp only)
    | (first | with_reducible apply Same.ite | with_reducible apply State.onCvu_same)
    | (first | with_reducible apply State.pulse_same | with_reducible apply State.when_same | (intro; intros))
    | split)

theorem State.writeWindow_same (t : Time) (off : Nat) (wn : Word) (hw : 56887504566153641984 &&& w = 56887504566153641984) (hk : Same w r s) :
    Same w r (State.writeWindow s t off wn) := by
  unfold State.writeWindow
  repeat' (first
    | (first | with_reducible assumption | with_reducible exact Same.sub (by decide) hw | dsimp only)
    | (first | with_reducible apply Same.ite | with_reducible apply State.deadboltClear_same)
    | (first | with_reducible apply State.writeHec_same | with_reducible apply State.writeMailbox_same)
    | (first | with_reducible apply State.writeTraction_same | with_reducible apply State.writeCvu_same)
    | (first | (intro; intros) | split))

theorem State.learn_same (m : Mac) (p : Fin 4) (hw : 4611686018427387904 &&& w = 4611686018427387904) (hk : Same w r s) :
    Same w r (State.learn s m p) := by
  unfold State.learn
  repeat' (first
    | (first | with_reducible assumption | with_reducible exact Same.sub (by decide) hw | dsimp only)
    | (first | (intro; intros) | split)
    | with_reducible refine Same.upd (m := 4611686018427387904) (hw := ?_) (hk := ?_))

theorem State.nodeSeen_same (m : Mac) (hw : 4611686018427387904 &&& w = 4611686018427387904) (hk : Same w r s) :
    Same w r (State.nodeSeen s m) := by
  unfold State.nodeSeen
  repeat' (first
    | (first | with_reducible assumption | with_reducible exact Same.sub (by decide) hw | dsimp only)
    | (first | with_reducible apply Same.ite | (intro; intros) | split)
    | with_reducible refine Same.upd (m := 4611686018427387904) (hw := ?_) (hk := ?_))

theorem State.lanCheck_same (p : Fin 4) (f : Frame) (hw : 4611686018427387904 &&& w = 4611686018427387904) (hk : Same w r s) :
    Same w r (State.lanCheck s p f) := by
  unfold State.lanCheck
  repeat' (first
    | (first | with_reducible assumption | with_reducible exact Same.sub (by decide) hw | dsimp only)
    | (first | with_reducible apply Same.ite | (intro; intros) | split)
    | with_reducible refine Same.upd (m := 4611686018427387904) (hw := ?_) (hk := ?_))

theorem State.toNode_same (p : Fin 4) (f : Frame) (hw : 4611686018427387904 &&& w = 4611686018427387904) (hk : Same w r s) :
    Same w r (State.toNode s p f) := by
  unfold State.toNode
  repeat' (first
    | (first | with_reducible assumption | with_reducible exact Same.sub (by decide) hw | dsimp only)
    | (first | (intro; intros) | split)
    | with_reducible refine Same.upd (m := 4611686018427387904) (hw := ?_) (hk := ?_))

theorem Same.seen {l : List (Mac × BitVec 16 × Time)} {d : Nat} (hw : 4611686018427387904 &&& w = 4611686018427387904)
    (hk : Same w r s) : Same w r { s with net := { s.net with seen := l, discards := d } } :=
  Same.upd (m := 4611686018427387904) (hw := hw) (hk := hk)

theorem State.takeOnce_same (f : Frame) (take : State → State) (hw : 4611686018427387904 &&& w = 4611686018427387904) (hk : Same w r s)
    (ht : ∀ u, Same w r u → Same w r (take u)) : Same w r (State.takeOnce s f take) := by
  unfold State.takeOnce
  dsimp only
  split
  · exact ht _ hk
  · have h1 := State.nodeSeen_same f.src (Same.sub (by decide) hw) hk
    split
    · exact Same.seen (Same.sub (by decide) hw) h1
    · exact ht _ (Same.seen (Same.sub (by decide) hw) h1)

theorem State.deliverOnce_same (p : Fin 4) (f : Frame) (hw : 4611686018427387904 &&& w = 4611686018427387904) (hk : Same w r s) :
    Same w r (State.deliverOnce s p f) := by
  unfold State.deliverOnce
  repeat' (first
    | (first | with_reducible assumption | with_reducible exact Same.sub (by decide) hw | dsimp only)
    | (first | with_reducible apply State.takeOnce_same | with_reducible apply State.toNode_same | (intro; intros))
    | split)

theorem State.forward_same (p : Fin 4) (f : Frame) (hw : 39199331156632797184 &&& w = 39199331156632797184) (hk : Same w r s) :
    Same w r (State.forward s p f) := by
  unfold State.forward
  repeat' (first
    | (first | with_reducible assumption | with_reducible exact Same.sub (by decide) hw | dsimp only)
    | (first | with_reducible apply Same.ite | with_reducible apply State.enqueue_same | (intro; intros) | split))

theorem State.spoilCut_same (p : Fin 4) (f : Frame) (hw : 2305843009213693952 &&& w = 2305843009213693952) (hk : Same w r s) :
    Same w r (State.spoilCut s p f) := by
  unfold State.spoilCut
  repeat' (first
    | (first | with_reducible assumption | with_reducible exact Same.sub (by decide) hw | dsimp only)
    | (first | with_reducible apply State.onPort_same | with_reducible apply State.when_same | (intro; intros))
    | split)

theorem State.routeFrame_same (p : Fin 4) (f : Frame) (hw : 43811017175060185088 &&& w = 43811017175060185088) (hk : Same w r s) :
    Same w r (State.routeFrame s p f) := by
  unfold State.routeFrame
  repeat' (first
    | (first | with_reducible assumption | with_reducible exact Same.sub (by decide) hw | dsimp only)
    | (first | with_reducible apply Same.ite | with_reducible apply State.toNode_same)
    | (first | with_reducible apply State.forward_same | with_reducible apply State.deliverOnce_same)
    | (first | with_reducible apply State.takeOnce_same | with_reducible apply State.nodeSeen_same)
    | (first | (intro; intros) | split))

theorem State.enginesRest_same (hw : 4294967296 &&& w = 4294967296) (hk : Same w r s) :
    Same w r (State.enginesRest s) := by
  unfold State.enginesRest
  repeat' (first
    | (first | with_reducible assumption | with_reducible exact Same.sub (by decide) hw | dsimp only)
    | (first | (intro; intros) | split | with_reducible refine Same.upd (m := 4294967296) (hw := ?_) (hk := ?_)))

theorem State.frontSleeps_same (hw : 36897991754336174144 &&& w = 36897991754336174144) (hk : Same w r s) :
    Same w r (State.frontSleeps s) := by
  unfold State.frontSleeps
  repeat' (first
    | (first | with_reducible assumption | with_reducible exact Same.sub (by decide) hw | dsimp only)
    | (first | with_reducible apply State.storeBaselines_same | with_reducible apply State.abortProof_same)
    | (first | with_reducible apply State.onChan_same | with_reducible apply State.onDet_same)
    | (first | with_reducible apply State.onScan_same | with_reducible apply State.enginesRest_same)
    | (first | with_reducible apply State.amonRefresh_same | with_reducible apply State.each_same)
    | (first | with_reducible apply State.eachFin_same | (intro; intros) | split))

theorem State.coresSleep_same (hw : 39239940931410200576 &&& w = 39239940931410200576) (hk : Same w r s) :
    Same w r (State.coresSleep s) := by
  unfold State.coresSleep
  repeat' (first
    | (first | with_reducible assumption | with_reducible exact Same.sub (by decide) hw | dsimp only)
    | (first | with_reducible apply State.dropPermit_same | with_reducible apply State.bothSv_same)
    | (first | with_reducible apply State.leaveTemplates_same | with_reducible apply State.finalCkpt_same)
    | (first | with_reducible apply State.requalify_same | with_reducible apply State.each_same | (intro; intros))
    | split)

theorem State.enterPower_same (x : PState) (hw : 57695692211664193600 &&& w = 57695692211664193600) (hk : Same w r s) :
    Same w r (State.enterPower s x) := by
  unfold State.enterPower
  repeat' (first
    | (first | with_reducible assumption | with_reducible exact Same.sub (by decide) hw | dsimp only)
    | (first | with_reducible apply State.frontSleeps_same | with_reducible apply State.coresSleep_same)
    | (first | with_reducible apply State.hecRetain_same | with_reducible apply State.powerChange_same)
    | (first | (intro; intros) | split))

theorem State.sleepAborted_same (l : List Nat) (hw : 55344735820757073920 &&& w = 55344735820757073920) (hk : Same w r s) :
    Same w r (State.sleepAborted s l) := by
  unfold State.sleepAborted
  repeat' (first
    | (first | with_reducible assumption | with_reducible exact Same.sub (by decide) hw | dsimp only)
    | (first | with_reducible apply State.record_same | with_reducible apply State.pulse_same)
    | (first | with_reducible apply State.wakeEvent_same | with_reducible apply State.each_same | (intro; intros))
    | (first | split | with_reducible refine Same.upd (m := 18446744073710600192) (hw := ?_) (hk := ?_)))

theorem State.channelWakes_same (c : Fin 16) (hw : 295147905217479049280 &&& w = 295147905217479049280) (hk : Same w r s) :
    Same w r (State.channelWakes s c) := by
  unfold State.channelWakes
  repeat' (first
    | (first | with_reducible assumption | with_reducible exact Same.sub (by decide) hw | dsimp only)
    | (first | with_reducible apply Same.ite | with_reducible apply State.onChan_same)
    | (first | with_reducible apply State.onProof_same | with_reducible apply State.onStats_same)
    | (first | with_reducible apply State.baselineCheck_same | (intro; intros) | split))

theorem State.svWakes_same (v : Fin 2) (f : Option Bool) (hw : 499220640856861057408 &&& w = 499220640856861057408) (hk : Same w r s) :
    Same w r (State.svWakes s v f) := by
  unfold State.svWakes
  repeat' (first
    | (first | with_reducible assumption | with_reducible exact Same.sub (by decide) hw | dsimp only)
    | (first | with_reducible apply Same.ite | with_reducible apply State.svFail_same | (intro; intros) | split))

theorem State.wakeEnds_same (from_ : PState) (rep : WakeReport) (hw : 501535491103724151232 &&& w = 501535491103724151232) (hk : Same w r s) :
    Same w r (State.wakeEnds s from_ rep) := by
  unfold State.wakeEnds
  repeat' (first
    | (first | with_reducible assumption | with_reducible exact Same.sub (by decide) hw | dsimp only)
    | (first | with_reducible apply Same.ite | with_reducible apply State.hecFlush_same)
    | (first | with_reducible apply State.svWakes_same | with_reducible apply State.powerChange_same)
    | (first | with_reducible apply State.readWaiting_same | with_reducible apply State.channelWakes_same)
    | (first | with_reducible apply State.amonRefresh_same | with_reducible apply State.each_same)
    | (first | with_reducible apply State.eachFin_same | (intro; intros) | split)
    | with_reducible refine Same.upd (m := 18446744073710600192) (hw := ?_) (hk := ?_))

theorem State.pitchLost_same (hw : 36893488147419168768 &&& w = 36893488147419168768) (hk : Same w r s) :
    Same w r (State.pitchLost s) := by
  unfold State.pitchLost
  repeat' (first
    | (first | with_reducible assumption | with_reducible exact Same.sub (by decide) hw | dsimp only)
    | (first | with_reducible apply Same.ite | with_reducible apply State.record_same)
    | (first | with_reducible apply State.when_same | (intro; intros) | split)
    | with_reducible refine Same.upd (m := 65536) (hw := ?_) (hk := ?_))

theorem State.tailDiscarded_same (hw : 118750914974505369600 &&& w = 118750914974505369600) (hk : Same w r s) :
    Same w r (State.tailDiscarded s) := by
  unfold State.tailDiscarded
  repeat' (first
    | (first | with_reducible assumption | with_reducible exact Same.sub (by decide) hw | dsimp only)
    | (first | with_reducible apply State.recOwn_same | (intro; intros) | split)
    | with_reducible refine Same.upd (m := 131072) (hw := ?_) (hk := ?_))

theorem State.configRead_same (position : Nat) (hw : 1729382256910270464 &&& w = 1729382256910270464) (hk : Same w r s) :
    Same w r (State.configRead s position) := by
  unfold State.configRead
  repeat' (first
    | (first | with_reducible assumption | with_reducible exact Same.sub (by decide) hw | dsimp only)
    | (first | with_reducible apply Same.ite | (intro; intros) | split)
    | with_reducible refine Same.upd (m := 1729382256910270464) (hw := ?_) (hk := ?_))

theorem State.release_same (hw : 885443715538057117718 &&& w = 885443715538057117718) (hk : Same w r s) :
    Same w r (State.release s) := by
  unfold State.release
  repeat' (first
    | (first | with_reducible assumption | with_reducible exact Same.sub (by decide) hw | dsimp only)
    | (first | with_reducible apply State.afterReset_same | with_reducible apply State.configRead_same)
    | (first | with_reducible apply State.pitchLost_same | with_reducible apply State.tailDiscarded_same)
    | (first | with_reducible apply State.amonRefresh_same | (intro; intros) | split)
    | with_reducible refine Same.upd (m := 540692) (hw := ?_) (hk := ?_))

theorem State.repairRecord_same (mem row kind : Nat) (hw : 36893488147419103232 &&& w = 36893488147419103232) (hk : Same w r s) :
    Same w r (State.repairRecord s mem row kind) := by
  unfold State.repairRecord
  repeat' (first
    | (first | with_reducible assumption | with_reducible exact Same.sub (by decide) hw | dsimp only)
    | (first | with_reducible apply State.record_same | (intro; intros) | split))

theorem State.retireEngine_same (e : Fin 9) (hw : 36893488147419365376 &&& w = 36893488147419365376) (hk : Same w r s) :
    Same w r (State.retireEngine s e) := by
  unfold State.retireEngine
  repeat' (first
    | (first | with_reducible assumption | with_reducible exact Same.sub (by decide) hw | dsimp only)
    | (first | with_reducible apply State.record_same | (intro; intros) | split)
    | with_reducible refine Same.upd (m := 262144) (hw := ?_) (hk := ?_))

theorem State.fenceRow_same (row : Nat) (hw : 36893488284858056704 &&& w = 36893488284858056704) (hk : Same w r s) :
    Same w r (State.fenceRow s row) := by
  unfold State.fenceRow
  repeat' (first
    | (first | with_reducible assumption | with_reducible exact Same.sub (by decide) hw | dsimp only)
    | (first | with_reducible apply State.record_same | with_reducible apply State.when_same | (intro; intros))
    | (first | split | with_reducible refine Same.upd (m := 137438953472) (hw := ?_) (hk := ?_)))

theorem State.freeRow_same (row n : Nat) (hw : 332041393326772191232 &&& w = 332041393326772191232) (hk : Same w r s) :
    Same w r (State.freeRow s row n) := by
  unfold State.freeRow
  repeat' (first
    | (first | with_reducible assumption | with_reducible exact Same.sub (by decide) hw | dsimp only)
    | (first | with_reducible apply Same.ite | with_reducible apply State.drawFree_same)
    | (first | with_reducible apply State.record_same | with_reducible apply State.repairRecord_same)
    | (first | (intro; intros) | refine Same.snd (by assumption) ?_ | split)
    | with_reducible refine Same.upd (m := 262144) (hw := ?_) (hk := ?_))

theorem State.noSpare_same (mem row n : Nat) (hw : 413898820566175318016 &&& w = 413898820566175318016) (hk : Same w r s) :
    Same w r (State.noSpare s mem row n) := by
  unfold State.noSpare
  repeat' (first
    | (first | with_reducible assumption | with_reducible exact Same.sub (by decide) hw | dsimp only)
    | (first | with_reducible apply Same.ite | with_reducible apply State.rowFails_same)
    | (first | with_reducible apply State.freeRow_same | with_reducible apply State.fenceRow_same)
    | (first | with_reducible apply State.retireEngine_same | with_reducible apply State.onSv_same)
    | (first | with_reducible apply State.record_same | with_reducible apply State.when_same | (intro; intros))
    | (first | split | with_reducible refine Same.upd (m := 262144) (hw := ?_) (hk := ?_)))

theorem State.softRepair_same (mem row n : Nat) (hw : 413898820566175318016 &&& w = 413898820566175318016) (hk : Same w r s) :
    Same w r (State.softRepair s mem row n) := by
  unfold State.softRepair
  repeat' (first
    | (first | with_reducible assumption | with_reducible exact Same.sub (by decide) hw | dsimp only)
    | (first | with_reducible apply Same.ite | with_reducible apply State.repairRecord_same)
    | (first | with_reducible apply State.noSpare_same | (intro; intros) | split)
    | with_reducible refine Same.upd (m := 262144) (hw := ?_) (hk := ?_))

theorem State.rowFound_same (mem row : Nat) (hw : 413898820566175318016 &&& w = 413898820566175318016) (hk : Same w r s) :
    Same w r (State.rowFound s mem row) := by
  unfold State.rowFound
  repeat' (first
    | (first | with_reducible assumption | with_reducible exact Same.sub (by decide) hw | dsimp only)
    | (first | with_reducible apply Same.ite | with_reducible apply State.repairRecord_same)
    | (first | with_reducible apply State.softRepair_same | (intro; intros) | split)
    | with_reducible refine Same.upd (m := 262144) (hw := ?_) (hk := ?_))

theorem State.repairs_same (rep : BootReport) (hw : 561472773155851730944 &&& w = 561472773155851730944) (hk : Same w r s) :
    Same w r (State.repairs s rep) := by
  unfold State.repairs
  repeat' (first
    | (first | with_reducible assumption | with_reducible exact Same.sub (by decide) hw | dsimp only)
    | (first | with_reducible apply Same.ite | with_reducible apply State.rowFound_same)
    | (first | with_reducible apply State.each_same | (intro; intros) | split)
    | with_reducible refine Same.upd (m := 147573952589676675072) (hw := ?_) (hk := ?_))

theorem State.bootEngines_same (kat : BitVec 9) (hw : 12884901888 &&& w = 12884901888) (hk : Same w r s) :
    Same w r (State.bootEngines s kat) := by
  unfold State.bootEngines
  repeat' (first
    | (first | with_reducible assumption | with_reducible exact Same.sub (by decide) hw | dsimp only)
    | (first | with_reducible apply Same.ite | (intro; intros) | split)
    | with_reducible refine Same.upd (m := 12884901888) (hw := ?_) (hk := ?_))

theorem State.bootSv_same (v : Fin 2) (cause : Option Nat) (crc : Word) (hw : 36893488422297010176 &&& w = 36893488422297010176) (hk : Same w r s) :
    Same w r (State.bootSv s v cause crc) := by
  unfold State.bootSv
  repeat' (first
    | (first | with_reducible assumption | with_reducible exact Same.sub (by decide) hw | dsimp only)
    | (first | with_reducible apply State.onSv_same | with_reducible apply State.record_same | (intro; intros))
    | split)

theorem State.bootDegraded_same (hw : 36893497218390556672 &&& w = 36893497218390556672) (hk : Same w r s) :
    Same w r (State.bootDegraded s) := by
  unfold State.bootDegraded
  repeat' (first
    | (first | with_reducible assumption | with_reducible exact Same.sub (by decide) hw | dsimp only)
    | (first | with_reducible apply State.onSv_same | with_reducible apply State.record_same | (intro; intros))
    | (first | split | with_reducible refine Same.upd (m := 8796093546496) (hw := ?_) (hk := ?_)))

theorem State.pathTested_same (n : Fin 4) (ok : Bool) (hw : 36893494744488869888 &&& w = 36893494744488869888) (hk : Same w r s) :
    Same w r (State.pathTested s n ok) := by
  unfold State.pathTested
  repeat' (first
    | (first | with_reducible assumption | with_reducible exact Same.sub (by decide) hw | dsimp only)
    | (first | with_reducible apply Same.ite | with_reducible apply State.onPermit_same)
    | (first | with_reducible apply State.dropPermit_same | with_reducible apply State.record_same)
    | (first | (intro; intros) | split))

theorem State.epochTaken_same (n : Fin 4) (epoch : Nat) (hw : 36893488147419103488 &&& w = 36893488147419103488) (hk : Same w r s) :
    Same w r (State.epochTaken s n epoch) := by
  unfold State.epochTaken
  repeat' (first
    | (first | with_reducible assumption | with_reducible exact Same.sub (by decide) hw | dsimp only)
    | (first | with_reducible apply Same.ite | with_reducible apply State.onNvSec_same)
    | (first | with_reducible apply State.record_same | (intro; intros) | split))

theorem State.countBadSlots_same (hw : 2048 &&& w = 2048) (hk : Same w r s) :
    Same w r (State.countBadSlots s) := by
  unfold State.countBadSlots
  repeat' (first
    | (first | with_reducible assumption | with_reducible exact Same.sub (by decide) hw | dsimp only)
    | (first | (intro; intros) | split | with_reducible refine Same.upd (m := 2048) (hw := ?_) (hk := ?_)))

theorem Same.checkpoint {b : Vector Bool 4} {c : Vector Nat 8} {d : Vector Int 4} {x : Vector Sv 2}
    (hw : 211381110439936 &&& w = 211381110439936) (hk : Same w r s) :
    Same w r { s with keep := { s.keep with braking := b, breaks := c, ckBal := d }, sv := x } :=
  Same.upd (m := 211381110439936) (hw := hw) (hk := hk)

theorem State.useCkpt_same (hw : 36893699528529545472 &&& w = 36893699528529545472) (hk : Same w r s) : Same w r (State.useCkpt s) := by
  have h0 := State.countBadSlots_same (Same.sub (by decide) hw) hk
  unfold State.useCkpt
  dsimp only
  split
  · exact State.each_same h0 fun u n hu => State.setBarred_same _ _ (Same.sub (by decide) hw) hu
  · exact Same.checkpoint (Same.sub (by decide) hw) (State.each_same (State.each_same h0 fun u n hu =>
      State.epochTaken_same _ _ (Same.sub (by decide) hw) hu) fun u n hu => State.setBarred_same _ _ (Same.sub (by decide) hw) hu)

theorem State.badEntry_same (key : Nat) (hw : 38046409652025950208 &&& w = 38046409652025950208) (hk : Same w r s) :
    Same w r (State.badEntry s key) := by
  unfold State.badEntry
  repeat' (first
    | (first | with_reducible assumption | with_reducible exact Same.sub (by decide) hw | dsimp only)
    | (first | with_reducible apply Same.ite | with_reducible apply State.record_same | (intro; intros) | split)
    | with_reducible refine Same.upd (m := 1152921504606846976) (hw := ?_) (hk := ?_))

theorem State.judgeSections_same (hw : 332046991902541611392 &&& w = 332046991902541611392) (hk : Same w r s) :
    Same w r (State.judgeSections s) := by
  unfold State.judgeSections
  repeat' (first
    | (first | with_reducible assumption | with_reducible exact Same.sub (by decide) hw | dsimp only)
    | (first | with_reducible apply Same.ite | with_reducible apply State.configStep_same)
    | (first | with_reducible apply State.publishAll_same | with_reducible apply State.each_same | (intro; intros))
    | split)

theorem State.degradedWords_same (hw : 1099511627776 &&& w = 1099511627776) (hk : Same w r s) :
    Same w r (State.degradedWords s) := by
  unfold State.degradedWords
  repeat' (first
    | (first | with_reducible assumption | with_reducible exact Same.sub (by decide) hw | dsimp only)
    | (first | with_reducible apply State.publishWord_same | with_reducible apply State.when_same)
    | (first | with_reducible apply State.each_same | (intro; intros) | split))

theorem State.intoService_same (rep : BootReport) (hw : 561478384526732167554 &&& w = 561478384526732167554) (hk : Same w r s) :
    Same w r (State.intoService s rep) := by
  unfold State.intoService
  repeat' (first
    | (first | with_reducible assumption | with_reducible exact Same.sub (by decide) hw | dsimp only)
    | (first | with_reducible apply State.repairs_same | with_reducible apply State.bootEngines_same)
    | (first | with_reducible apply State.bootSv_same | with_reducible apply State.bootDegraded_same)
    | (first | with_reducible apply State.pathTested_same | with_reducible apply State.useCkpt_same)
    | (first | with_reducible apply State.badEntry_same | with_reducible apply State.judgeSections_same)
    | (first | with_reducible apply State.degradedWords_same | with_reducible apply State.blankJudge_same)
    | (first | with_reducible apply State.amonRefresh_same | with_reducible apply State.each_same)
    | (first | with_reducible apply State.eachFin_same | (intro; intros) | split)
    | with_reducible refine Same.upd (m := 2) (hw := ?_) (hk := ?_))

theorem State.revert_same (hw : 885443715538057117718 &&& w = 885443715538057117718) (hk : Same w r s) :
    Same w r (State.revert s) := by
  unfold State.revert
  repeat' (first
    | (first | with_reducible assumption | with_reducible exact Same.sub (by decide) hw | dsimp only)
    | (first | with_reducible apply State.release_same | with_reducible apply State.record_same | (intro; intros))
    | (first | split | with_reducible refine Same.upd (m := 16384) (hw := ?_) (hk := ?_)))

theorem State.feedEvent_same (feed : Fin 2) (kind : Nat) (hw : 36893488147435880448 &&& w = 36893488147435880448) (hk : Same w r s) :
    Same w r (State.feedEvent s feed kind) := by
  unfold State.feedEvent
  repeat' (first
    | (first | with_reducible assumption | with_reducible exact Same.sub (by decide) hw | dsimp only)
    | (first | with_reducible apply State.warn_same | with_reducible apply State.record_same)
    | (first | with_reducible apply State.when_same | with_reducible apply State.each_same)
    | (first | with_reducible apply State.eachFin_same | (intro; intros) | split))

theorem State.feedSet_same (feed : Fin 2) (on : Bool) (hw : 16 &&& w = 16) (hk : Same w r s) :
    Same w r (State.feedSet s feed on) := by
  unfold State.feedSet
  repeat' (first
    | (first | with_reducible assumption | with_reducible exact Same.sub (by decide) hw | dsimp only)
    | (first | (intro; intros) | split | with_reducible refine Same.upd (m := 16) (hw := ?_) (hk := ?_)))

theorem State.feedsLost_same (hw : 36893488147419103232 &&& w = 36893488147419103232) (hk : Same w r s) :
    Same w r (State.feedsLost s) := by
  unfold State.feedsLost
  repeat' (first
    | (first | with_reducible assumption | with_reducible exact Same.sub (by decide) hw | dsimp only)
    | (first | with_reducible apply State.record_same | with_reducible apply State.when_same | (intro; intros))
    | split)

theorem State.isoRequest_same (h : Fin 8) (durUs patterns : Nat) (hw : 202918688410465992704 &&& w = 202918688410465992704) (hk : Same w r s) :
    Same w r (State.isoRequest s h durUs patterns) := by
  unfold State.isoRequest
  repeat' (first
    | (first | with_reducible assumption | with_reducible exact Same.sub (by decide) hw | dsimp only)
    | (first | with_reducible apply State.onScan_same | with_reducible apply State.pulse_same)
    | (first | with_reducible apply State.wakeEvent_same | with_reducible apply State.record_same)
    | (first | (intro; intros) | split)
    | with_reducible refine Same.upd (m := 147573952589676412928) (hw := ?_) (hk := ?_))

theorem State.chanGiven_same (c : Fin 16) (hw : 8388608 &&& w = 8388608) (hk : Same w r s) :
    Same w r (State.chanGiven s c) := by
  unfold State.chanGiven
  repeat' (first
    | (first | with_reducible assumption | with_reducible exact Same.sub (by decide) hw | dsimp only)
    | (first | with_reducible apply Same.ite | with_reducible apply State.onChan_same | (intro; intros) | split))

theorem State.abortUndone_same (hw : 184467440737095516160 &&& w = 184467440737095516160) (hk : Same w r s) :
    Same w r (State.abortUndone s) := by
  unfold State.abortUndone
  repeat' (first
    | (first | with_reducible assumption | with_reducible exact Same.sub (by decide) hw | dsimp only)
    | (first | (intro; intros) | split)
    | with_reducible refine Same.upd (m := 184467440737095516160) (hw := ?_) (hk := ?_))

theorem State.chanReturns_same (c : Fin 16) (d : Det) (hw : 295147905216405307456 &&& w = 295147905216405307456) (hk : Same w r s) :
    Same w r (State.chanReturns s c d) := by
  unfold State.chanReturns
  repeat' (first
    | (first | with_reducible assumption | with_reducible exact Same.sub (by decide) hw | dsimp only)
    | (first | with_reducible apply Same.ite | with_reducible apply State.onChan_same)
    | (first | with_reducible apply State.onProof_same | with_reducible apply State.baselineCheck_same)
    | (first | (intro; intros) | split))

theorem State.isoRebase_same (h : Fin 8) (hw : 36893523606669099136 &&& w = 36893523606669099136) (hk : Same w r s) :
    Same w r (State.isoRebase s h) := by
  unfold State.isoRebase
  repeat' (first
    | (first | with_reducible assumption | with_reducible exact Same.sub (by decide) hw | dsimp only)
    | (first | with_reducible apply State.rebaseOuter_same | with_reducible apply State.each_same)
    | (first | (intro; intros) | split))

theorem State.isoFound_same (i : Isolation) (hw : 36893488422297010176 &&& w = 36893488422297010176) (hk : Same w r s) :
    Same w r (State.isoFound s i) := by
  unfold State.isoFound
  repeat' (first
    | (first | with_reducible assumption | with_reducible exact Same.sub (by decide) hw | dsimp only)
    | (first | with_reducible apply Same.ite | with_reducible apply State.raise_same)
    | (first | with_reducible apply State.each_same | (intro; intros) | split))

theorem Same.tests {x : SelfTest} (hw : 147573952589676412928 &&& w = 147573952589676412928) (hk : Same w r s) :
    Same w r { s with test := x } := Same.upd (m := 147573952589676412928) (hw := hw) (hk := hk)

theorem State.isoReturn_same (i : Isolation) (hw : 479619887280389357760 &&& w = 479619887280389357760) (hk : Same w r s) : Same w r (State.isoReturn s i) := by
  unfold State.isoReturn
  extract_lets s1 s1test s2 s3
  have h1 : Same w r s1 := State.chanReturns_same _ _ (Same.sub (by decide) hw)
    (State.chanReturns_same _ _ (Same.sub (by decide) hw) hk)
  have h2 : Same w r s2 := State.headReturns_same _ (Same.sub (by decide) hw) (Same.tests (Same.sub (by decide) hw) h1)
  have h3 : Same w r s3 := Same.ite (State.isoRebase_same _ (Same.sub (by decide) hw) h2)
    (State.isoFound_same _ (Same.sub (by decide) hw) h2)
  exact State.amonRefresh_same (Same.sub (by decide) hw) (State.requalify_same (Same.sub (by decide) hw)
    (State.pulse_same _ (Same.sub (by decide) hw) (Same.tests (Same.sub (by decide) hw) h3)))

theorem State.tumblerFails_same (hw : 36893506014483054592 &&& w = 36893506014483054592) (hk : Same w r s) :
    Same w r (State.tumblerFails s) := by
  unfold State.tumblerFails
  repeat' (first
    | (first | with_reducible assumption | with_reducible exact Same.sub (by decide) hw | dsimp only)
    | (first | with_reducible apply State.notify_same | with_reducible apply State.record_same)
    | (first | with_reducible apply State.each_same | (intro; intros) | split)
    | with_reducible refine Same.upd (m := 17592186044416) (hw := ?_) (hk := ?_))

theorem State.refreshFails_same (mem : RefreshMem) (row : Nat) (hw : 413898820566175318016 &&& w = 413898820566175318016) (hk : Same w r s) :
    Same w r (State.refreshFails s mem row) := by
  unfold State.refreshFails
  repeat' (first
    | (first | with_reducible assumption | with_reducible exact Same.sub (by decide) hw | dsimp only)
    | (first | with_reducible apply State.rowFails_same | with_reducible apply State.softRepair_same)
    | (first | (intro; intros) | split))

theorem State.deFails_same (d : Fin 2) (hw : 333410487613492576256 &&& w = 333410487613492576256) (hk : Same w r s) :
    Same w r (State.deFails s d) := by
  unfold State.deFails
  repeat' (first
    | (first | with_reducible assumption | with_reducible exact Same.sub (by decide) hw | dsimp only)
    | (first | with_reducible apply State.drawFree_same | with_reducible apply State.closeSession_same)
    | (first | with_reducible apply State.onSession_same | with_reducible apply State.record_same)
    | (first | with_reducible apply State.each_same | (intro; intros) | refine Same.snd (by assumption) ?_ | split)
    | with_reducible refine Same.upd (m := 1152921504606846976) (hw := ?_) (hk := ?_))

end Sys2Proof.Machine
end

