-- ==== Sys2Proof/Laws/SameReq.lean ====
section
/-! SUPPORT. What the operations of the dictionary that write no entry leave as it is, request by request; and the writes of
the session's own entries. The mask 45326478449670356992 is that of taking and answering a request. -/

namespace Sys2Proof.Machine

set_option Elab.async false
set_option linter.unusedTactic false
set_option linter.unreachableTactic false
set_option linter.unusedSimpArgs false

variable {w : Nat} {r s : State}

/-- A request that needs no supervisor leaves what its operation leaves. -/
theorem State.perform_same_quick {i : Fin 5} {q : SdpReq} {net : Bool} {a : StoreRun} {x : Answered}
    (hn : ∀ u : State, u.requestNeeds i q = false) (hw : 72057594037927936 &&& w = 72057594037927936) (hk : Same w r s)
    (he : Same w r (s.execute i q net a).st) (h : s.perform i q net a = some x) : Same w r x.st := by
  unfold State.perform at h
  split at h
  · cases h; exact State.onSession_same _ _ hw hk
  · rw [if_pos (by rw [hn]; rfl)] at h; cases h; exact he

/-- A command of the dictionary: nothing waits that it names, or that request is served. -/
theorem State.serveIf_cases (s : State) (src : SdpSrc) (want : State → Fin 5 → SdpReq → Bool) (a : StoreRun) :
    s.serveIf src want a = s ∨ ∃ p i, s.payloadOf src = some p ∧ s.deServes = true ∧ want s i (parseSdp p) = true ∧
      s.serveIf src want a = s.serve src p a := by
  unfold State.serveIf
  split
  · exact .inl rfl
  · rename_i p hp
    dsimp only
    generalize (⟨if onNet src = true then _ else _, _⟩ : Fin 5) = i
    cases hc : s.deServes && s.inTurn src && want s i (parseSdp p)
    · exact .inl rfl
    · rw [Bool.and_eq_true, Bool.and_eq_true] at hc
      exact .inr ⟨p, i, hp, hc.1.1, hc.2, rfl⟩

/-- A request of a fixed operation other than OPEN leaves what that operation leaves. -/
theorem State.serveIf_same_op (src : SdpSrc) (want : State → Fin 5 → SdpReq → Bool) (a : StoreRun) (op : Nat)
    (hwant : ∀ (u : State) (i : Fin 5) (q : SdpReq), want u i q = true → q.op = op)
    (hq : ∀ (u : State) (i : Fin 5) (q : SdpReq), q.op = op → u.requestNeeds i q = false)
    (hw : 45326478449670356992 &&& w = 45326478449670356992) (hk : Same w r s)
    (he : ∀ (u : State) (i : Fin 5) (q : SdpReq) (net : Bool), q.op = op → Same w r u → Same w r (u.execute i q net a).st) :
    Same w r (s.serveIf src want a) := by
  obtain h | ⟨p, i, -, -, hc, h⟩ := State.serveIf_cases s src want a
  · rw [h]; exact hk
  · rw [h]
    have ho := hwant _ _ _ hc
    exact State.serve_same_of _ _ _ hw hk fun hu hx =>
      State.perform_same_quick (fun u => hq u _ _ ho) (Same.sub (by decide) hw) hu (he _ _ _ _ ho hu) hx

theorem wantOp_op (op : Nat) (u : State) (i : Fin 5) (q : SdpReq) (h : wantOp op u i q = true) : q.op = op := by
  simpa [wantOp] using h


/-- opClose. -/
theorem serve_opClose_same (src : SdpSrc) (want : State → Fin 5 → SdpReq → Bool)
    (hwant : ∀ (u : State) (i : Fin 5) (q : SdpReq), want u i q = true → q.op = opClose)
    (hw : 45470593637746229248 &&& w = 45470593637746229248) (hk : Same w r s) : Same w r (s.serveIf src want) :=
  State.serveIf_same_op src want .whole opClose hwant
    (fun u i q h => by unfold State.requestNeeds; rw [h, if_neg (by decide), if_neg (by decide)]; decide)
    (Same.sub (by decide) hw) hk fun u i q net h hu => by
      unfold State.execute
      rw [h]
      rw [if_pos rfl]
      exact State.closeSession_same _ (Same.sub (by decide) hw) hu

theorem execSdpClose_same (t : Time) (src : SdpSrc) (s : State) : ∃ s', execSdpClose t src s = .next s' ∧ Same 635766403996452405252 s s' :=
  ⟨_, rfl, serve_opClose_same src _ (wantOp_op _) (by decide) (State.at_same t (by decide) Same.refl)⟩

/-- opRead. -/
theorem serve_opRead_same (src : SdpSrc) (want : State → Fin 5 → SdpReq → Bool)
    (hwant : ∀ (u : State) (i : Fin 5) (q : SdpReq), want u i q = true → q.op = opRead)
    (hw : 340474383629023182848 &&& w = 340474383629023182848) (hk : Same w r s) : Same w r (s.serveIf src want) :=
  State.serveIf_same_op src want .whole opRead hwant
    (fun u i q h => by unfold State.requestNeeds; rw [h, if_neg (by decide), if_neg (by decide)]; decide)
    (Same.sub (by decide) hw) hk fun u i q net h hu => by
      unfold State.execute
      rw [h]
      repeat rw [if_neg (by decide : ¬(_ : Nat) = _)]
      rw [if_pos rfl]
      exact State.doRead_same _ _ _ (Same.sub (by decide) hw) hu

theorem execSdpRead_same (t : Time) (src : SdpSrc) (s : State) : ∃ s', execSdpRead t src s = .next s' ∧ Same 930770193987729358852 s s' :=
  ⟨_, rfl, serve_opRead_same src _ (wantOp_op _) (by decide) (State.at_same t (by decide) Same.refl)⟩

/-- opReadInit. -/
theorem serve_opReadInit_same (src : SdpSrc) (want : State → Fin 5 → SdpReq → Bool)
    (hwant : ∀ (u : State) (i : Fin 5) (q : SdpReq), want u i q = true → q.op = opReadInit)
    (hw : 340474383629023182848 &&& w = 340474383629023182848) (hk : Same w r s) : Same w r (s.serveIf src want) :=
  State.serveIf_same_op src want .whole opReadInit hwant
    (fun u i q h => by unfold State.requestNeeds; rw [h, if_neg (by decide), if_neg (by decide)]; decide)
    (Same.sub (by decide) hw) hk fun u i q net h hu => by
      unfold State.execute
      rw [h]
      repeat rw [if_neg (by decide : ¬(_ : Nat) = _)]
      rw [if_pos rfl]
      exact State.doReadInit_same _ _ _ (Same.sub (by decide) hw) hu

theorem execReadInit_same (t : Time) (src : SdpSrc) (s : State) : ∃ s', execReadInit t src s = .next s' ∧ Same 930770193987729358852 s s' :=
  ⟨_, rfl, serve_opReadInit_same src _ (wantOp_op _) (by decide) (State.at_same t (by decide) Same.refl)⟩

/-- opReadSeg. -/
theorem serve_opReadSeg_same (src : SdpSrc) (want : State → Fin 5 → SdpReq → Bool)
    (hwant : ∀ (u : State) (i : Fin 5) (q : SdpReq), want u i q = true → q.op = opReadSeg)
    (hw : 45326478449670356992 &&& w = 45326478449670356992) (hk : Same w r s) : Same w r (s.serveIf src want) :=
  State.serveIf_same_op src want .whole opReadSeg hwant
    (fun u i q h => by unfold State.requestNeeds; rw [h, if_neg (by decide), if_neg (by decide)]; decide)
    (Same.sub (by decide) hw) hk fun u i q net h hu => by
      unfold State.execute
      rw [h]
      repeat rw [if_neg (by decide : ¬(_ : Nat) = _)]
      rw [if_pos rfl]
      exact State.doReadSeg_same _ _ _ (Same.sub (by decide) hw) hu

theorem execReadSeg_same (t : Time) (src : SdpSrc) (s : State) : ∃ s', execReadSeg t src s = .next s' ∧ Same 635622288808376532996 s s' :=
  ⟨_, rfl, serve_opReadSeg_same src _ (wantOp_op _) (by decide) (State.at_same t (by decide) Same.refl)⟩

/-- opWriteInit. -/
theorem serve_opWriteInit_same (src : SdpSrc) (want : State → Fin 5 → SdpReq → Bool)
    (hwant : ∀ (u : State) (i : Fin 5) (q : SdpReq), want u i q = true → q.op = opWriteInit)
    (hw : 45326478449670377472 &&& w = 45326478449670377472) (hk : Same w r s) : Same w r (s.serveIf src want) :=
  State.serveIf_same_op src want .whole opWriteInit hwant
    (fun u i q h => by unfold State.requestNeeds; rw [h, if_neg (by decide), if_neg (by decide)]; decide)
    (Same.sub (by decide) hw) hk fun u i q net h hu => by
      unfold State.execute
      rw [h]
      repeat rw [if_neg (by decide : ¬(_ : Nat) = _)]
      rw [if_pos rfl]
      exact State.doWriteInit_same _ _ _ (Same.sub (by decide) hw) hu

theorem execWriteInit_same (t : Time) (src : SdpSrc) (s : State) : ∃ s', execWriteInit t src s = .next s' ∧ Same 635622288808376553476 s s' :=
  ⟨_, rfl, serve_opWriteInit_same src _ (wantOp_op _) (by decide) (State.at_same t (by decide) Same.refl)⟩

/-- opXferAbort. -/
theorem serve_opXferAbort_same (src : SdpSrc) (want : State → Fin 5 → SdpReq → Bool)
    (hwant : ∀ (u : State) (i : Fin 5) (q : SdpReq), want u i q = true → q.op = opXferAbort)
    (hw : 45326478449670373376 &&& w = 45326478449670373376) (hk : Same w r s) : Same w r (s.serveIf src want) :=
  State.serveIf_same_op src want .whole opXferAbort hwant
    (fun u i q h => by unfold State.requestNeeds; rw [h, if_neg (by decide), if_neg (by decide)]; decide)
    (Same.sub (by decide) hw) hk fun u i q net h hu => by
      unfold State.execute
      rw [h]
      repeat rw [if_neg (by decide : ¬(_ : Nat) = _)]
      rw [if_pos rfl]
      exact State.doXferAbort_same _ (Same.sub (by decide) hw) hu

theorem execXferAbort_same (t : Time) (src : SdpSrc) (s : State) : ∃ s', execXferAbort t src s = .next s' ∧ Same 635622288808376549380 s s' :=
  ⟨_, rfl, serve_opXferAbort_same src _ (wantOp_op _) (by decide) (State.at_same t (by decide) Same.refl)⟩

/-- opTxnBegin. -/
theorem serve_opTxnBegin_same (src : SdpSrc) (want : State → Fin 5 → SdpReq → Bool)
    (hwant : ∀ (u : State) (i : Fin 5) (q : SdpReq), want u i q = true → q.op = opTxnBegin)
    (hw : 45470593637746221056 &&& w = 45470593637746221056) (hk : Same w r s) : Same w r (s.serveIf src want) :=
  State.serveIf_same_op src want .whole opTxnBegin hwant
    (fun u i q h => by unfold State.requestNeeds; rw [h, if_neg (by decide), if_neg (by decide)]; decide)
    (Same.sub (by decide) hw) hk fun u i q net h hu => by
      unfold State.execute
      rw [h]
      repeat rw [if_neg (by decide : ¬(_ : Nat) = _)]
      rw [if_pos rfl]
      exact State.doTxnBegin_same _ (Same.sub (by decide) hw) hu

theorem execTxnBegin_same (t : Time) (src : SdpSrc) (s : State) : ∃ s', execTxnBegin t src s = .next s' ∧ Same 635766403996452397060 s s' :=
  ⟨_, rfl, serve_opTxnBegin_same src _ (wantOp_op _) (by decide) (State.at_same t (by decide) Same.refl)⟩

/-- opTxnDiscard. -/
theorem serve_opTxnDiscard_same (src : SdpSrc) (want : State → Fin 5 → SdpReq → Bool)
    (hwant : ∀ (u : State) (i : Fin 5) (q : SdpReq), want u i q = true → q.op = opTxnDiscard)
    (hw : 45470593637746212864 &&& w = 45470593637746212864) (hk : Same w r s) : Same w r (s.serveIf src want) :=
  State.serveIf_same_op src want .whole opTxnDiscard hwant
    (fun u i q h => by unfold State.requestNeeds; rw [h, if_neg (by decide), if_neg (by decide)]; decide)
    (Same.sub (by decide) hw) hk fun u i q net h hu => by
      unfold State.execute
      rw [h]
      repeat rw [if_neg (by decide : ¬(_ : Nat) = _)]
      exact State.doTxnDiscard_same _ (Same.sub (by decide) hw) hu

theorem execTxnDiscard_same (t : Time) (src : SdpSrc) (s : State) : ∃ s', execTxnDiscard t src s = .next s' ∧ Same 635766403996452388868 s s' :=
  ⟨_, rfl, serve_opTxnDiscard_same src _ (wantOp_op _) (by decide) (State.at_same t (by decide) Same.refl)⟩

theorem execChallenge_same (t : Time) (src : SdpSrc) (s : State) : ∃ s', execChallenge t src s = .next s' ∧ Same 930770193987729358852 s s' :=
  ⟨_, rfl, serve_opRead_same src _ (fun u i q h => by simp at h; exact h.1) (by decide) (State.at_same t (by decide) Same.refl)⟩

/-- OPEN: the mailbox is turned away, a frame gets a session or is. -/
theorem serve_opOpen_same (src : SdpSrc) (p : List Byte) (a : StoreRun) (h : (parseSdp p).op = opOpen)
    (hw : 45326478449670356992 &&& w = 45326478449670356992) (hk : Same w r s) : Same w r (s.serve src p a) := by
  have h1 := State.heard_same src p (Same.sub (by decide) hw) (State.takeRequest_same src (Same.sub (by decide) hw) hk)
  unfold State.serve
  dsimp only
  split
  · exact State.refuseForm_same _ _ _ _ (Same.sub (by decide) hw) h1
  · rename_i hf
    cases src with
    | mailbox =>
      exfalso
      have e : (onNet SdpSrc.mailbox) = false := rfl
      unfold formAbort at hf
      rw [h, e] at hf
      have k : dataOp opOpen = true := by decide
      simp only [k] at hf
      repeat' split at hf
      all_goals first | (cases hf; done) | simp_all
    | net mac tag q =>
      rw [decide_eq_true h]
      dsimp only
      split
      · exact State.answer_same _ _ (Same.sub (by decide) hw) h1
      · exact State.answer_same _ _ (Same.sub (by decide) hw) (State.doOpen_same _ _ (Same.sub (by decide) hw) h1)

theorem execSdpOpen_same (t : Time) (src : SdpSrc) (s : State) : ∃ s', execSdpOpen t src s = .next s' ∧ Same 635622288808376532996 s s' := by
  refine ⟨_, rfl, ?_⟩
  have hk : Same 635622288808376532996 s (s.at t) := State.at_same t (by decide) Same.refl
  obtain h | ⟨p, i, -, -, hc, h⟩ := State.serveIf_cases (s.at t) src (wantOp opOpen) .whole
  · rw [h]; exact hk
  · rw [h]; exact serve_opOpen_same _ _ _ (wantOp_op _ _ _ _ hc) (by decide) hk

/-- A request whose operation is none is answered and does nothing else. -/
theorem execUnknownOp_same (t : Time) (src : SdpSrc) (s : State) : ∃ s', execUnknownOp t src s = .next s' ∧ Same 635622288808376532996 s s' := by
  refine ⟨_, rfl, ?_⟩
  have hk : Same 635622288808376532996 s (s.at t) := State.at_same t (by decide) Same.refl
  obtain h | ⟨p, i, -, -, hc, h⟩ := State.serveIf_cases (s.at t) src (fun _ _ q => !knownOp q.op) .whole
  · rw [h]; exact hk
  · rw [h]
    have h1 := State.heard_same src p (w := 635622288808376532996) (by decide) (State.takeRequest_same src (by decide) hk)
    unfold State.serve
    dsimp only
    split
    · exact State.refuseForm_same _ _ _ _ (by decide) h1
    · rename_i hf
      exfalso
      unfold formAbort at hf
      rw [hc] at hf
      simp only [Bool.or_true, if_true] at hf
      repeat' split at hf
      all_goals cases hf

/-- A request that writes an entry which the supervisors have no part in leaves what that write leaves. -/
theorem State.serveIf_same_entry (src : SdpSrc) (key : Nat) (hn : needsSv key = false) (want : State → Fin 5 → SdpReq → Bool)
    (hwant : ∀ (u : State) (i : Fin 5) (q : SdpReq), want u i q = true → q.op = opWrite ∧ q.key = key)
    (hw : 45326478449670356992 &&& w = 45326478449670356992) (hk : Same w r s)
    (he : ∀ (u : State) (i : Fin 5) (txn : Bool) (val : List Byte), Same w r u →
      Same w r (u.writeValue i key val txn true .whole).st) : Same w r (s.serveIf src want) := by
  obtain h | ⟨p, i, -, -, hc, h⟩ := State.serveIf_cases s src want .whole
  · rw [h]; exact hk
  · rw [h]
    have ho := hwant _ _ _ hc
    refine State.serve_same_of _ _ _ hw hk fun hu hx =>
      State.perform_same_quick (fun u => ?_) (Same.sub (by decide) hw) hu ?_ hx
    · unfold State.requestNeeds
      rw [if_pos ho.1, ho.2, hn]; rfl
    · unfold State.execute
      rw [ho.1, if_neg (by decide), if_neg (by decide), if_pos rfl, ho.2]
      exact he _ _ _ _ hu

/-- A write of a session's own entry: what applying it leaves. -/
theorem State.writeValue_own_same (i : Fin 5) (key : Nat) (val : List Byte) (txn whole : Bool) (a : StoreRun)
    (hr : key ≠ keyResponse) (hc : cfgKey key = false) (hw : 45470593637746212864 &&& w = 45470593637746212864) (hk : Same w r s)
    (he : Same w r (s.runCommand i key val a)) : Same w r (s.writeValue i key val txn whole a).st := by
  unfold State.writeValue
  split
  · exact hk
  · rename_i row hrow
    dsimp only
    rw [if_neg (by simp [hr])]
    generalize (if (row.typ == DType.domain && !whole) = true then none else _) = shape
    split
    · exact hk
    · split
      · split
        · exact hk
        · exact Same.upd (m := 144115188075855872) (hw := Same.sub (by decide) hw) (hk := hk)
      · split
        · exact hk
        · unfold State.applyWrite
          split
          · exact State.onSession_same _ _ (Same.sub (by decide) hw) hk
          · rw [hc]; exact he

/-- The write of keyLevel. -/
theorem State.writeValue_keyLevel_same (i : Fin 5) (val : List Byte) (txn whole : Bool) (a : StoreRun)
    (hw : 45470593637746212864 &&& w = 45470593637746212864) (hk : Same w r s) : Same w r (s.writeValue i keyLevel val txn whole a).st := by
  refine State.writeValue_own_same i _ val txn whole a (by decide) (by decide) (Same.sub (by decide) hw) hk ?_
  unfold State.runCommand
  dsimp only
  rw [if_neg (by decide)]
  repeat rw [if_neg (by decide : ¬(_ : Nat) = _)]
  rw [if_pos rfl]
  exact State.onSession_same _ _ (Same.sub (by decide) hw) hk

theorem execSessionLevel_same (t : Time) (src : SdpSrc) (s : State) : ∃ s', execSessionLevel t src s = .next s' ∧ Same 635766403996452388868 s s' :=
  ⟨_, rfl, State.serveIf_same_entry src keyLevel (by decide) _ (fun u i q h => by simp [wantWrite] at h; exact h) (by decide)
    (State.at_same t (by decide) Same.refl) fun u i txn val hu => State.writeValue_keyLevel_same i val txn true .whole (by decide) hu⟩

/-- The write of keyAdvance. -/
theorem State.writeValue_keyAdvance_same (i : Fin 5) (val : List Byte) (txn whole : Bool) (a : StoreRun)
    (hw : 45470593637746212864 &&& w = 45470593637746212864) (hk : Same w r s) : Same w r (s.writeValue i keyAdvance val txn whole a).st := by
  refine State.writeValue_own_same i _ val txn whole a (by decide) (by decide) (Same.sub (by decide) hw) hk ?_
  unfold State.runCommand
  dsimp only
  rw [if_neg (by decide)]
  repeat rw [if_neg (by decide : ¬(_ : Nat) = _)]
  rw [if_pos rfl]
  exact State.when_same hk fun u hu => State.onSession_same _ _ (Same.sub (by decide) hw) hu

theorem execRecAdvance_same (t : Time) (src : SdpSrc) (s : State) : ∃ s', execRecAdvance t src s = .next s' ∧ Same 635766403996452388868 s s' :=
  ⟨_, rfl, State.serveIf_same_entry src keyAdvance (by decide) _ (fun u i q h => by simp [wantWrite] at h; exact h) (by decide)
    (State.at_same t (by decide) Same.refl) fun u i txn val hu => State.writeValue_keyAdvance_same i val txn true .whole (by decide) hu⟩

/-- The write of keyResponse. -/
theorem State.writeValue_keyResponse_same (i : Fin 5) (val : List Byte) (txn whole : Bool) (a : StoreRun)
    (hw : 340618498817100087296 &&& w = 340618498817100087296) (hk : Same w r s) : Same w r (s.writeValue i keyResponse val txn whole a).st := by
  unfold State.writeValue
  split
  · exact hk
  · rename_i row hrow
    dsimp only
    generalize (if (row.typ == DType.domain && !whole) = true then none else _) = shape
    cases txn
    · exact State.raiseSession_same _ _ (Same.sub (by decide) hw) hk
    · rw [if_neg (by simp)]
      split
      · exact hk
      · rw [if_pos rfl]
        split
        · exact hk
        · exact Same.upd (m := 144115188075855872) (hw := Same.sub (by decide) hw) (hk := hk)

theorem execResponse_same (t : Time) (src : SdpSrc) (s : State) : ∃ s', execResponse t src s = .next s' ∧ Same 930914309175806263300 s s' :=
  ⟨_, rfl, State.serveIf_same_entry src keyResponse (by decide) _ (fun u i q h => by simp [wantWrite] at h; exact h) (by decide)
    (State.at_same t (by decide) Same.refl) fun u i txn val hu => State.writeValue_keyResponse_same i val txn true .whole (by decide) hu⟩

end Sys2Proof.Machine
end

