-- ==== Sys2Proof/Laws/SameExec.lean ====
section
/-! SUPPORT. The frame of every other command: it answers a next state that differs from the state before only in the areas
of its mask. -/

namespace Sys2Proof.Machine

set_option Elab.async false
set_option linter.unusedTactic false
set_option linter.unreachableTactic false
set_option linter.unusedSimpArgs false

theorem execKinExpiry_same (t : Time) (sec : Fin 4) (s : State) : ∃ s', execKinExpiry t sec s = .next s' ∧ Same 590300876908286967812 s s' := by
  have hw : 590300876908286967812 &&& 590300876908286967812 = 590300876908286967812 := by decide
  refine ⟨_, rfl, ?_⟩
  repeat' (first
    | (first | with_reducible assumption | with_reducible exact Same.refl)
    | (first | with_reducible exact Same.sub (by decide) hw | dsimp only | with_reducible apply State.at_same)
    | (first | with_reducible apply State.kinWrite_same | with_reducible apply State.when_same | (intro; intros))
    | split)

theorem execPresenceEvent_same (t : Time) (ev : PresenceEvent) (s : State) : ∃ s', execPresenceEvent t ev s = .next s' ∧ Same 627194400755474236548 s s' := by
  have hw : 627194400755474236548 &&& 627194400755474236548 = 627194400755474236548 := by decide
  refine ⟨_, rfl, ?_⟩
  repeat' (first
    | (first | with_reducible assumption | with_reducible exact Same.refl)
    | (first | with_reducible exact Same.sub (by decide) hw | dsimp only | with_reducible apply Same.ite)
    | (first | with_reducible apply State.at_same | with_reducible apply State.takePresence_same)
    | (first | with_reducible apply State.when_same | with_reducible apply State.each_same | (intro; intros))
    | (first | split | with_reducible refine Same.upd (m := 68719476736) (hw := ?_) (hk := ?_)))

theorem execLedgerStall_same (t : Time) (slot : Fin 2048) (s : State) : ∃ s', execLedgerStall t slot s = .next s' ∧ Same 590295810633584082948 s s' := by
  have hw : 590295810633584082948 &&& 590295810633584082948 = 590295810633584082948 := by decide
  refine ⟨_, rfl, ?_⟩
  repeat' (first
    | (first | with_reducible assumption | with_reducible exact Same.refl)
    | (first | with_reducible exact Same.sub (by decide) hw | dsimp only | with_reducible apply State.at_same)
    | (first | with_reducible apply State.causeAtHead_same | with_reducible apply State.when_same)
    | (first | (intro; intros) | split))

theorem execLoopMonitorEval_same (t : Time) (c : Fin 16) (amp : Rat) (unblanked : Nat) (s : State) : ∃ s', execLoopMonitorEval t c amp unblanked s = .next s' ∧ Same 627193844372316094660 s s' := by
  have hw : 627193844372316094660 &&& 627193844372316094660 = 627193844372316094660 := by decide
  unfold execLoopMonitorEval
  dsimp only
  repeat' split
  all_goals refine ⟨_, rfl, ?_⟩
  all_goals
    repeat' (first
      | (first | with_reducible assumption | with_reducible exact Same.refl)
      | (first | with_reducible exact Same.sub (by decide) hw | dsimp only | with_reducible apply Same.ite)
      | (first | with_reducible apply State.at_same | with_reducible apply State.calRun_same)
      | (first | with_reducible apply State.onChan_same | with_reducible apply State.chanFault_same)
      | (first | with_reducible apply State.monitorSeen_same | with_reducible apply State.warnCond_same)
      | (first | with_reducible apply State.when_same | (intro; intros) | split))

theorem execExcCurrentEval_same (t : Time) (c : Fin 16) (cur : Rat) (limiter : Bool) (s : State) : ∃ s', execExcCurrentEval t c cur limiter s = .next s' ∧ Same 627193844372316094660 s s' := by
  have hw : 627193844372316094660 &&& 627193844372316094660 = 627193844372316094660 := by decide
  unfold execExcCurrentEval
  dsimp only
  repeat' split
  all_goals refine ⟨_, rfl, ?_⟩
  all_goals
    repeat' (first
      | (first | with_reducible assumption | with_reducible exact Same.refl)
      | (first | with_reducible exact Same.sub (by decide) hw | dsimp only | with_reducible apply Same.ite)
      | (first | with_reducible apply State.at_same | with_reducible apply State.calRun_same)
      | (first | with_reducible apply State.onChan_same | with_reducible apply State.chanFault_same)
      | (first | with_reducible apply State.monitorSeen_same | with_reducible apply State.warnCond_same)
      | (first | with_reducible apply State.when_same | (intro; intros) | split))

theorem execCommonModeEval_same (t : Time) (c : Fin 16) (volts vafe : Rat) (s : State) : ∃ s', execCommonModeEval t c volts vafe s = .next s' ∧ Same 627193844372316094660 s s' := by
  have hw : 627193844372316094660 &&& 627193844372316094660 = 627193844372316094660 := by decide
  unfold execCommonModeEval
  dsimp only
  repeat' split
  all_goals refine ⟨_, rfl, ?_⟩
  all_goals
    repeat' (first
      | (first | with_reducible assumption | with_reducible exact Same.refl)
      | (first | with_reducible exact Same.sub (by decide) hw | dsimp only | with_reducible apply Same.ite)
      | (first | with_reducible apply State.at_same | with_reducible apply State.calRun_same)
      | (first | with_reducible apply State.onChan_same | with_reducible apply State.chanFault_same)
      | (first | with_reducible apply State.monitorSeen_same | with_reducible apply State.when_same)
      | (first | (intro; intros) | split))

theorem execBurnoutEval_same (t : Time) (c : Fin 16) (share : Rat) (s : State) : ∃ s', execBurnoutEval t c share s = .next s' ∧ Same 627193844372316094660 s s' := by
  have hw : 627193844372316094660 &&& 627193844372316094660 = 627193844372316094660 := by decide
  unfold execBurnoutEval
  dsimp only
  repeat' split
  all_goals refine ⟨_, rfl, ?_⟩
  all_goals
    repeat' (first
      | (first | with_reducible assumption | with_reducible exact Same.refl)
      | (first | with_reducible exact Same.sub (by decide) hw | dsimp only | with_reducible apply Same.ite)
      | (first | with_reducible apply State.at_same | with_reducible apply State.calRun_same)
      | (first | with_reducible apply State.onChan_same | with_reducible apply State.chanFault_same)
      | (first | with_reducible apply State.recordFault_same | with_reducible apply State.monitorSeen_same)
      | (first | with_reducible apply State.when_same | (intro; intros) | split))

theorem execFaultCauseFinal_same (t : Time) (c : Fin 16) (s : State) : ∃ s', execFaultCauseFinal t c s = .next s' ∧ Same 627189298506133667844 s s' := by
  have hw : 627189298506133667844 &&& 627189298506133667844 = 627189298506133667844 := by decide
  refine ⟨_, rfl, ?_⟩
  repeat' (first
    | (first | with_reducible assumption | with_reducible exact Same.refl)
    | (first | with_reducible exact Same.sub (by decide) hw | dsimp only | with_reducible apply Same.ite)
    | (first | with_reducible apply State.at_same | with_reducible apply State.onChan_same)
    | (first | with_reducible apply State.recordFault_same | (intro; intros) | split))

theorem execReconnectQuietExpiry_same (t : Time) (c : Fin 16) (rep : CalReport) (s : State) : ∃ s', execReconnectQuietExpiry t c rep s = .next s' ∧ Same 590295810358983000068 s s' := by
  have hw : 590295810358983000068 &&& 590295810358983000068 = 590295810358983000068 := by decide
  refine ⟨_, rfl, ?_⟩
  repeat' (first
    | (first | with_reducible assumption | with_reducible exact Same.refl)
    | (first | with_reducible exact Same.sub (by decide) hw | dsimp only | with_reducible apply State.at_same)
    | (first | with_reducible apply State.startCal_same | with_reducible apply State.when_same | (intro; intros))
    | split)

theorem execCalibrationStart_same (t : Time) (c : Fin 16) (rep : CalReport) (s : State) : ∃ s', execCalibrationStart t c rep s = .next s' ∧ Same 590295810358983000068 s s' := by
  have hw : 590295810358983000068 &&& 590295810358983000068 = 590295810358983000068 := by decide
  refine ⟨_, rfl, ?_⟩
  repeat' (first
    | (first | with_reducible assumption | with_reducible exact Same.refl)
    | (first | with_reducible exact Same.sub (by decide) hw | dsimp only | with_reducible apply State.at_same)
    | (first | with_reducible apply State.startCal_same | with_reducible apply State.when_same | (intro; intros))
    | split)

theorem execCalibrationDone_same (t : Time) (c : Fin 16) (s : State) : ∃ s', execCalibrationDone t c s = .next s' ∧ Same 922341749586028658884 s s' := by
  have hw : 922341749586028658884 &&& 922341749586028658884 = 922341749586028658884 := by decide
  refine ⟨_, rfl, ?_⟩
  repeat' (first
    | (first | with_reducible assumption | with_reducible exact Same.refl)
    | (first | with_reducible exact Same.sub (by decide) hw | dsimp only | with_reducible apply State.at_same)
    | (first | with_reducible apply State.calRun_same | with_reducible apply State.calEnds_same)
    | (first | with_reducible apply State.when_same | (intro; intros) | split))

theorem execChannelWarning_same (t : Time) (c : Fin 16) (kind : WarnKind) (s : State) : ∃ s', execChannelWarning t c kind s = .next s' ∧ Same 627189298506142056452 s s' := by
  have hw : 627189298506142056452 &&& 627189298506142056452 = 627189298506142056452 := by decide
  refine ⟨_, rfl, ?_⟩
  repeat' (first
    | (first | with_reducible assumption | with_reducible exact Same.refl)
    | (first | with_reducible exact Same.sub (by decide) hw | dsimp only | with_reducible apply State.at_same)
    | (first | with_reducible apply State.warn_same | with_reducible apply State.when_same | (intro; intros))
    | split)

theorem execWarningHoldExpiry_same (t : Time) (c : Fin 16) (kind : WarnKind) (s : State) : ∃ s', execWarningHoldExpiry t c kind s = .next s' ∧ Same 590295810358722953220 s s' := by
  have hw : 590295810358722953220 &&& 590295810358722953220 = 590295810358722953220 := by decide
  refine ⟨_, rfl, ?_⟩
  repeat' (first
    | (first | with_reducible assumption | with_reducible exact Same.refl)
    | (first | with_reducible exact Same.sub (by decide) hw | dsimp only | with_reducible apply State.at_same)
    | (first | with_reducible apply State.onWarn_same | with_reducible apply State.when_same | (intro; intros))
    | split)

theorem execTchReading_same (t : Time) (c : Fin 8) (m1 m2 vref : Rat) (s : State) : ∃ s', execTchReading t c m1 m2 vref s = .next s' ∧ Same 922337203685561991172 s s' := by
  have hw : 922337203685561991172 &&& 922337203685561991172 = 922337203685561991172 := by decide
  unfold execTchReading
  dsimp only
  repeat' split
  all_goals refine ⟨_, rfl, ?_⟩
  all_goals
    repeat' (first
      | (first | with_reducible assumption | with_reducible exact Same.refl)
      | (first | with_reducible exact Same.sub (by decide) hw | dsimp only | with_reducible apply Same.ite)
      | (first | with_reducible apply State.at_same | with_reducible apply State.onTch_same)
      | (first | with_reducible apply State.ptTemp_same | with_reducible apply State.bodyWarnings_same)
      | (first | with_reducible apply State.cabinetReading_same | with_reducible apply State.when_same)
      | (first | (intro; intros) | refine Same.snd (by assumption) ?_ | split))

theorem execBlankingWindowEdge_same (t : Time) (src : Fin 6) (level : Bool) (s : State) : ∃ s', execBlankingWindowEdge t src level s = .next s' ∧ Same 590295810358840393732 s s' := by
  have hw : 590295810358840393732 &&& 590295810358840393732 = 590295810358840393732 := by decide
  refine ⟨_, rfl, ?_⟩
  repeat' (first
    | (first | with_reducible assumption | with_reducible exact Same.refl)
    | (first | with_reducible exact Same.sub (by decide) hw | dsimp only | with_reducible apply State.at_same)
    | (first | with_reducible apply State.onBlank_same | with_reducible apply State.blankJudge_same)
    | (first | with_reducible apply State.when_same | (intro; intros) | split))

theorem execBlankStuck_same (t : Time) (src : Fin 6) (s : State) : ∃ s', execBlankStuck t src s = .next s' ∧ Same 627189298506276274180 s s' := by
  have hw : 627189298506276274180 &&& 627189298506276274180 = 627189298506276274180 := by decide
  refine ⟨_, rfl, ?_⟩
  repeat' (first
    | (first | with_reducible assumption | with_reducible exact Same.refl)
    | (first | with_reducible exact Same.sub (by decide) hw | dsimp only | with_reducible apply State.at_same)
    | (first | with_reducible apply State.onBlank_same | with_reducible apply State.warnWhile_same)
    | (first | with_reducible apply State.record_same | with_reducible apply State.when_same)
    | (first | with_reducible apply State.each_same | (intro; intros) | split))

theorem execBlankSourceRestore_same (t : Time) (src : Fin 6) (s : State) : ∃ s', execBlankSourceRestore t src s = .next s' ∧ Same 590295810358857170948 s s' := by
  have hw : 590295810358857170948 &&& 590295810358857170948 = 590295810358857170948 := by decide
  refine ⟨_, rfl, ?_⟩
  repeat' (first
    | (first | with_reducible assumption | with_reducible exact Same.refl)
    | (first | with_reducible exact Same.sub (by decide) hw | dsimp only | with_reducible apply State.at_same)
    | (first | with_reducible apply State.onBlank_same | with_reducible apply State.warnCond_same)
    | (first | with_reducible apply State.when_same | with_reducible apply State.each_same | (intro; intros))
    | split)

theorem execSettlingMaskEnd_same (t : Time) (c : Fin 16) (s : State) : ∃ s', execSettlingMaskEnd t c s = .next s' ∧ Same 627193844372316094660 s s' := by
  have hw : 627193844372316094660 &&& 627193844372316094660 = 627193844372316094660 := by decide
  refine ⟨_, rfl, ?_⟩
  repeat' (first
    | (first | with_reducible assumption | with_reducible exact Same.refl)
    | (first | with_reducible exact Same.sub (by decide) hw | dsimp only | with_reducible apply Same.ite)
    | (first | with_reducible apply State.at_same | with_reducible apply State.calRun_same)
    | (first | with_reducible apply State.onChan_same | with_reducible apply State.moveEnds_same)
    | (first | with_reducible apply State.releaseDeferred_same | with_reducible apply State.amonRefresh_same)
    | (first | with_reducible apply State.when_same | (intro; intros) | split))

theorem execReferenceSwitchover_same (t : Time) (s : State) : ∃ s', execReferenceSwitchover t s = .next s' ∧ Same 627193802108751577092 s s' := by
  have hw : 627193802108751577092 &&& 627193802108751577092 = 627193802108751577092 := by decide
  refine ⟨_, rfl, ?_⟩
  repeat' (first
    | (first | with_reducible assumption | with_reducible exact Same.refl)
    | (first | with_reducible exact Same.sub (by decide) hw | dsimp only | with_reducible apply Same.ite)
    | (first | with_reducible apply State.at_same | with_reducible apply State.maskFrom_same)
    | (first | with_reducible apply State.onScan_same | with_reducible apply State.record_same)
    | (first | with_reducible apply State.when_same | with_reducible apply State.each_same)
    | (first | with_reducible apply State.eachFin_same | (intro; intros) | split)
    | with_reducible refine Same.upd (m := 4194304) (hw := ?_) (hk := ?_))

theorem execBothReferencesLost_same (t : Time) (s : State) : ∃ s', execBothReferencesLost t s = .next s' ∧ Same 627193844371766640836 s s' := by
  have hw : 627193844371766640836 &&& 627193844371766640836 = 627193844371766640836 := by decide
  refine ⟨_, rfl, ?_⟩
  repeat' (first
    | (first | with_reducible assumption | with_reducible exact Same.refl)
    | (first | with_reducible exact Same.sub (by decide) hw | dsimp only | with_reducible apply State.at_same)
    | (first | with_reducible apply State.chanFault_same | with_reducible apply State.record_same)
    | (first | with_reducible apply State.when_same | with_reducible apply State.each_same)
    | (first | with_reducible apply State.eachFin_same | (intro; intros) | split)
    | with_reducible refine Same.upd (m := 4194304) (hw := ?_) (hk := ?_))

theorem execFrameBoundary_same (t : Time) (s : State) : ∃ s', execFrameBoundary t s = .next s' ∧ Same 627193844372318191812 s s' := by
  have hw : 627193844372318191812 &&& 627193844372318191812 = 627193844372318191812 := by decide
  refine ⟨_, rfl, ?_⟩
  repeat' (first
    | (first | with_reducible assumption | with_reducible exact Same.refl)
    | (first | with_reducible exact Same.sub (by decide) hw | dsimp only | with_reducible apply Same.ite)
    | (first | with_reducible apply State.at_same | with_reducible apply State.onDet_same)
    | (first | with_reducible apply State.calRun_same | with_reducible apply State.pauseEnds_same)
    | (first | with_reducible apply State.boundaryChanges_same | with_reducible apply State.when_same)
    | (first | with_reducible apply State.each_same | with_reducible apply State.eachFin_same | (intro; intros))
    | (first | split | with_reducible refine Same.upd (m := 2097152) (hw := ?_) (hk := ?_)))

theorem execScanDue_same (t : Time) (c : Fin 16) (s : State) : ∃ s', execScanDue t c s = .next s' ∧ Same 590295810358739730436 s s' := by
  have hw : 590295810358739730436 &&& 590295810358739730436 = 590295810358739730436 := by decide
  refine ⟨_, rfl, ?_⟩
  repeat' (first
    | (first | with_reducible assumption | with_reducible exact Same.refl)
    | (first | with_reducible exact Same.sub (by decide) hw | dsimp only | with_reducible apply State.at_same)
    | (first | with_reducible apply State.scanDue_same | with_reducible apply State.when_same | (intro; intros))
    | split)

theorem execScanOverdue_same (t : Time) (c : Fin 16) (s : State) : ∃ s', execScanOverdue t c s = .next s' ∧ Same 627189298506142056452 s s' := by
  have hw : 627189298506142056452 &&& 627189298506142056452 = 627189298506142056452 := by decide
  refine ⟨_, rfl, ?_⟩
  repeat' (first
    | (first | with_reducible assumption | with_reducible exact Same.refl)
    | (first | with_reducible exact Same.sub (by decide) hw | dsimp only | with_reducible apply State.at_same)
    | (first | with_reducible apply State.warnWhile_same | with_reducible apply State.when_same | (intro; intros))
    | split)

theorem execScanPauseStart_same (t : Time) (c : Fin 16) (s : State) : ∃ s', execScanPauseStart t c s = .next s' ∧ Same 590295810359553425412 s s' := by
  have hw : 590295810359553425412 &&& 590295810359553425412 = 590295810359553425412 := by decide
  refine ⟨_, rfl, ?_⟩
  repeat' (first
    | (first | with_reducible assumption | with_reducible exact Same.refl)
    | (first | with_reducible exact Same.sub (by decide) hw | dsimp only | with_reducible apply Same.ite)
    | (first | with_reducible apply State.at_same | with_reducible apply State.onChan_same)
    | (first | with_reducible apply State.onScan_same | with_reducible apply State.onDet_same)
    | (first | with_reducible apply State.amonRefresh_same | with_reducible apply State.when_same)
    | (first | (intro; intros) | split))

theorem execScanComplete_same (t : Time) (c : Fin 16) (s : State) : ∃ s', execScanComplete t c s = .next s' ∧ Same 885443715538109333508 s s' := by
  have hw : 885443715538109333508 &&& 885443715538109333508 = 885443715538109333508 := by decide
  refine ⟨_, rfl, ?_⟩
  repeat' (first
    | (first | with_reducible assumption | with_reducible exact Same.refl)
    | (first | with_reducible exact Same.sub (by decide) hw | dsimp only | with_reducible apply Same.ite)
    | (first | with_reducible apply State.at_same | with_reducible apply State.onScan_same)
    | (first | with_reducible apply State.decibels_same | with_reducible apply State.spectrumOf_same)
    | (first | with_reducible apply State.warnCond_same | with_reducible apply State.when_same | (intro; intros))
    | (first | refine Same.snd (by assumption) ?_ | split))

theorem execFastSample_same (t : Time) (c : Fin 16) (l : List RawIn) (s : State) : ∃ s', execFastSample t c l s = .next s' ∧ Same 922341749590323626180 s s' := by
  have hw : 922341749590323626180 &&& 922341749590323626180 = 922341749590323626180 := by decide
  unfold execFastSample
  dsimp only
  repeat' split
  all_goals refine ⟨_, rfl, ?_⟩
  all_goals
    repeat' (first
      | (first | with_reducible assumption | with_reducible exact Same.refl)
      | (first | with_reducible exact Same.sub (by decide) hw | dsimp only | with_reducible apply Same.ite)
      | (first | with_reducible apply State.at_same | with_reducible apply State.calRun_same)
      | (first | with_reducible apply State.takeRaws_same | with_reducible apply State.onChan_same)
      | (first | with_reducible apply State.heartbeat_same | with_reducible apply State.chanFault_same)
      | (first | with_reducible apply State.engineSample_same | with_reducible apply State.when_same)
      | (first | (intro; intros) | split))

theorem execNoiseBlock_same (t : Time) (c : Fin 16) (s : State) : ∃ s', execNoiseBlock t c s = .next s' ∧ Same 627193844371779223748 s s' := by
  have hw : 627193844371779223748 &&& 627193844371779223748 = 627193844371779223748 := by decide
  refine ⟨_, rfl, ?_⟩
  repeat' (first
    | (first | with_reducible assumption | with_reducible exact Same.refl)
    | (first | with_reducible exact Same.sub (by decide) hw | dsimp only | with_reducible apply Same.ite)
    | (first | with_reducible apply State.at_same | with_reducible apply State.onStats_same)
    | (first | with_reducible apply State.onScan_same | with_reducible apply State.warnWhile_same)
    | (first | with_reducible apply State.chanFault_same | with_reducible apply State.when_same)
    | (first | with_reducible apply foldl_same | (intro; intros) | split))

theorem execBaselineStore_same (t : Time) (s : State) : ∃ s', execBaselineStore t s = .next s' ∧ Same 590295810376959787076 s s' := by
  have hw : 590295810376959787076 &&& 590295810376959787076 = 590295810376959787076 := by decide
  refine ⟨_, rfl, ?_⟩
  repeat' (first
    | (first | with_reducible assumption | with_reducible exact Same.refl)
    | (first | with_reducible exact Same.sub (by decide) hw | dsimp only | with_reducible apply State.at_same)
    | (first | with_reducible apply State.storeBaseline_same | with_reducible apply State.closeHour_same)
    | (first | with_reducible apply State.when_same | with_reducible apply State.each_same)
    | (first | with_reducible apply State.eachFin_same | (intro; intros) | split)
    | with_reducible refine Same.upd (m := 17179869184) (hw := ?_) (hk := ?_))

theorem execDriftEvaluation_same (t : Time) (c : Fin 16) (s : State) : ∃ s', execDriftEvaluation t c s = .next s' ∧ Same 922341749551132049604 s s' := by
  have hw : 922341749551132049604 &&& 922341749551132049604 = 922341749551132049604 := by decide
  refine ⟨_, rfl, ?_⟩
  repeat' (first
    | (first | with_reducible assumption | with_reducible exact Same.refl)
    | (first | with_reducible exact Same.sub (by decide) hw | dsimp only | with_reducible apply State.at_same)
    | (first | with_reducible apply State.drift_same | with_reducible apply State.when_same | (intro; intros))
    | split)

theorem execKappaFit_same (t : Time) (c : Fin 16) (s : State) : ∃ s', execKappaFit t c s = .next s' ∧ Same 922337203686568624196 s s' := by
  have hw : 922337203686568624196 &&& 922337203686568624196 = 922337203686568624196 := by decide
  refine ⟨_, rfl, ?_⟩
  repeat' (first
    | (first | with_reducible assumption | with_reducible exact Same.refl)
    | (first | with_reducible exact Same.sub (by decide) hw | dsimp only | with_reducible apply State.at_same)
    | (first | with_reducible apply State.onStats_same | with_reducible apply State.fitChannel_same)
    | (first | with_reducible apply State.when_same | (intro; intros) | split))

theorem execResidualPresence_same (t : Time) (c : Fin 16) (s : State) : ∃ s', execResidualPresence t c s = .next s' ∧ Same 627189298507215798276 s s' := by
  have hw : 627189298507215798276 &&& 627189298507215798276 = 627189298507215798276 := by decide
  refine ⟨_, rfl, ?_⟩
  repeat' (first
    | (first | with_reducible assumption | with_reducible exact Same.refl)
    | (first | with_reducible exact Same.sub (by decide) hw | dsimp only | with_reducible apply State.at_same)
    | (first | with_reducible apply State.onStats_same | with_reducible apply State.warnWhile_same)
    | (first | with_reducible apply State.when_same | (intro; intros) | split))

theorem execEngineCheckpoint_same (t : Time) (e : Fin 9) (wn : CkptWrite) (s : State) : ∃ s', execEngineCheckpoint t e wn s = .next s' ∧ Same 627189298519815487492 s s' := by
  have hw : 627189298519815487492 &&& 627189298519815487492 = 627189298519815487492 := by decide
  refine ⟨_, rfl, ?_⟩
  repeat' (first
    | (first | with_reducible assumption | with_reducible exact Same.refl)
    | (first | with_reducible exact Same.sub (by decide) hw | dsimp only | with_reducible apply State.at_same)
    | (first | with_reducible apply State.ckptWritten_same | with_reducible apply State.engineFails_same)
    | (first | with_reducible apply State.when_same | (intro; intros) | split))

theorem execEngineFailure_same (t : Time) (e : Fin 9) (check : EngineCheck) (s : State) : ∃ s', execEngineFailure t e check s = .next s' ∧ Same 627189298519815487492 s s' := by
  have hw : 627189298519815487492 &&& 627189298519815487492 = 627189298519815487492 := by decide
  refine ⟨_, rfl, ?_⟩
  repeat' (first
    | (first | with_reducible assumption | with_reducible exact Same.refl)
    | (first | with_reducible exact Same.sub (by decide) hw | dsimp only | with_reducible apply Same.ite)
    | (first | with_reducible apply State.at_same | with_reducible apply State.engineFails_same)
    | (first | with_reducible apply State.when_same | (intro; intros) | split))

theorem execTakeoverFirstDecision_same (t : Time) (h : Fin 8) (s : State) : ∃ s', execTakeoverFirstDecision t h s = .next s' ∧ Same 922341749594618593476 s s' := by
  have hw : 922341749594618593476 &&& 922341749594618593476 = 922341749594618593476 := by decide
  refine ⟨_, rfl, ?_⟩
  repeat' (first
    | (first | with_reducible assumption | with_reducible exact Same.refl)
    | (first | with_reducible exact Same.sub (by decide) hw | dsimp only | with_reducible apply Same.ite)
    | (first | with_reducible apply State.at_same | with_reducible apply State.takeoverDecision_same)
    | (first | with_reducible apply State.onDet_same | with_reducible apply State.amonRefresh_same)
    | (first | with_reducible apply State.when_same | (intro; intros) | split)
    | with_reducible refine Same.upd (m := 8589934592) (hw := ?_) (hk := ?_))

theorem execProofTestDue_same (t : Time) (c : Fin 16) (s : State) : ∃ s', execProofTestDue t c s = .next s' ∧ Same 590295810360853659652 s s' := by
  have hw : 590295810360853659652 &&& 590295810360853659652 = 590295810360853659652 := by decide
  refine ⟨_, rfl, ?_⟩
  repeat' (first
    | (first | with_reducible assumption | with_reducible exact Same.refl)
    | (first | with_reducible exact Same.sub (by decide) hw | dsimp only | with_reducible apply Same.ite)
    | (first | with_reducible apply State.at_same | with_reducible apply State.onProof_same)
    | (first | with_reducible apply State.when_same | with_reducible apply State.each_same)
    | (first | with_reducible apply State.eachFin_same | (intro; intros) | split))

theorem execProofTestStart_same (t : Time) (c : Fin 16) (s : State) : ∃ s', execProofTestStart t c s = .next s' ∧ Same 590295810360853659652 s s' := by
  have hw : 590295810360853659652 &&& 590295810360853659652 = 590295810360853659652 := by decide
  refine ⟨_, rfl, ?_⟩
  repeat' (first
    | (first | with_reducible assumption | with_reducible exact Same.refl)
    | (first | with_reducible exact Same.sub (by decide) hw | dsimp only | with_reducible apply State.at_same)
    | (first | with_reducible apply State.proofStarts_same | with_reducible apply State.when_same)
    | (first | (intro; intros) | split))

theorem execProofTestEnd_same (t : Time) (c : Fin 16) (s : State) : ∃ s', execProofTestEnd t c s = .next s' ∧ Same 627193844371779223748 s s' := by
  have hw : 627193844371779223748 &&& 627193844371779223748 = 627193844371779223748 := by decide
  refine ⟨_, rfl, ?_⟩
  repeat' (first
    | (first | with_reducible assumption | with_reducible exact Same.refl)
    | (first | with_reducible exact Same.sub (by decide) hw | dsimp only | with_reducible apply Same.ite)
    | (first | with_reducible apply State.at_same | with_reducible apply State.proofPassed_same)
    | (first | with_reducible apply State.proofFailed_same | with_reducible apply State.warnCond_same)
    | (first | (intro; intros) | split))

theorem execProofTestRetry_same (t : Time) (c : Fin 16) (s : State) : ∃ s', execProofTestRetry t c s = .next s' ∧ Same 590295810360853659652 s s' := by
  have hw : 590295810360853659652 &&& 590295810360853659652 = 590295810360853659652 := by decide
  refine ⟨_, rfl, ?_⟩
  repeat' (first
    | (first | with_reducible assumption | with_reducible exact Same.refl)
    | (first | with_reducible exact Same.sub (by decide) hw | dsimp only | with_reducible apply State.at_same)
    | (first | with_reducible apply State.onProof_same | with_reducible apply State.when_same | (intro; intros))
    | split)

theorem execProofTestOverdue_same (t : Time) (c : Fin 16) (s : State) : ∃ s', execProofTestOverdue t c s = .next s' ∧ Same 627189298506142056452 s s' := by
  have hw : 627189298506142056452 &&& 627189298506142056452 = 627189298506142056452 := by decide
  refine ⟨_, rfl, ?_⟩
  repeat' (first
    | (first | with_reducible assumption | with_reducible exact Same.refl)
    | (first | with_reducible exact Same.sub (by decide) hw | dsimp only | with_reducible apply State.at_same)
    | (first | with_reducible apply State.warnWhile_same | with_reducible apply State.when_same | (intro; intros))
    | split)

theorem execEvaluationStep_same (t : Time) (v : Fin 2) (s : State) : ∃ s', execEvaluationStep t v s = .next s' ∧ Same 1088363503442729632708 s s' := by
  have hw : 1088363503442729632708 &&& 1088363503442729632708 = 1088363503442729632708 := by decide
  refine ⟨_, rfl, ?_⟩
  repeat' (first
    | (first | with_reducible assumption | with_reducible exact Same.refl)
    | (first | with_reducible exact Same.sub (by decide) hw | dsimp only | with_reducible apply State.at_same)
    | (first | with_reducible apply State.evalStep_same | (intro; intros) | split))

theorem execClearTimerExpiry_same (t : Time) (v : Fin 2) (sec : Fin 4) (s : State) : ∃ s', execClearTimerExpiry t v sec s = .next s' ∧ Same 1088363503442729632708 s s' := by
  have hw : 1088363503442729632708 &&& 1088363503442729632708 = 1088363503442729632708 := by decide
  refine ⟨_, rfl, ?_⟩
  repeat' (first
    | (first | with_reducible assumption | with_reducible exact Same.refl)
    | (first | with_reducible exact Same.sub (by decide) hw | dsimp only | with_reducible apply State.at_same)
    | (first | with_reducible apply State.evalStep_same | with_reducible apply State.when_same | (intro; intros))
    | split)

theorem execDisturbedHoldExpiry_same (t : Time) (v : Fin 2) (sec : Fin 4) (cause : Nat) (s : State) : ∃ s', execDisturbedHoldExpiry t v sec cause s = .next s' ∧ Same 1088363503442729632708 s s' := by
  have hw : 1088363503442729632708 &&& 1088363503442729632708 = 1088363503442729632708 := by decide
  refine ⟨_, rfl, ?_⟩
  repeat' (first
    | (first | with_reducible assumption | with_reducible exact Same.refl)
    | (first | with_reducible exact Same.sub (by decide) hw | dsimp only | with_reducible apply State.at_same)
    | (first | with_reducible apply State.evalStep_same | with_reducible apply State.when_same | (intro; intros))
    | split)

theorem execBemfAlarm_same (t : Time) (v : Fin 2) (sec : Fin 4) (s : State) : ∃ s', execBemfAlarm t v sec s = .next s' ∧ Same 1088363503442729632708 s s' := by
  have hw : 1088363503442729632708 &&& 1088363503442729632708 = 1088363503442729632708 := by decide
  refine ⟨_, rfl, ?_⟩
  repeat' (first
    | (first | with_reducible assumption | with_reducible exact Same.refl)
    | (first | with_reducible exact Same.sub (by decide) hw | dsimp only | with_reducible apply State.at_same)
    | (first | with_reducible apply State.evalStep_same | with_reducible apply State.when_same | (intro; intros))
    | split)

theorem execAttestTimeout_same (t : Time) (sec : Fin 4) (s : State) : ∃ s', execAttestTimeout t sec s = .next s' ∧ Same 1088363503442729632708 s s' := by
  have hw : 1088363503442729632708 &&& 1088363503442729632708 = 1088363503442729632708 := by decide
  refine ⟨_, rfl, ?_⟩
  repeat' (first
    | (first | with_reducible assumption | with_reducible exact Same.refl)
    | (first | with_reducible exact Same.sub (by decide) hw | dsimp only | with_reducible apply State.at_same)
    | (first | with_reducible apply State.evalBoth_same | with_reducible apply State.when_same | (intro; intros))
    | split)

theorem execAttestRetry_same (t : Time) (sec : Fin 4) (s : State) : ∃ s', execAttestRetry t sec s = .next s' ∧ Same 1088363503442729632708 s s' := by
  have hw : 1088363503442729632708 &&& 1088363503442729632708 = 1088363503442729632708 := by decide
  refine ⟨_, rfl, ?_⟩
  repeat' (first
    | (first | with_reducible assumption | with_reducible exact Same.refl)
    | (first | with_reducible exact Same.sub (by decide) hw | dsimp only | with_reducible apply State.at_same)
    | (first | with_reducible apply State.evalBoth_same | with_reducible apply State.when_same | (intro; intros))
    | split)

theorem execAttestHeldClear_same (t : Time) (sec : Fin 4) (s : State) : ∃ s', execAttestHeldClear t sec s = .next s' ∧ Same 1088363503442729632708 s s' := by
  have hw : 1088363503442729632708 &&& 1088363503442729632708 = 1088363503442729632708 := by decide
  refine ⟨_, rfl, ?_⟩
  repeat' (first
    | (first | with_reducible assumption | with_reducible exact Same.refl)
    | (first | with_reducible exact Same.sub (by decide) hw | dsimp only | with_reducible apply State.at_same)
    | (first | with_reducible apply State.evalBoth_same | with_reducible apply State.when_same | (intro; intros))
    | split)

theorem execSelfAttestation_same (t : Time) (sec : Fin 4) (s : State) : ∃ s', execSelfAttestation t sec s = .next s' ∧ Same 1088363503442729632708 s s' := by
  have hw : 1088363503442729632708 &&& 1088363503442729632708 = 1088363503442729632708 := by decide
  refine ⟨_, rfl, ?_⟩
  repeat' (first
    | (first | with_reducible assumption | with_reducible exact Same.refl)
    | (first | with_reducible exact Same.sub (by decide) hw | dsimp only | with_reducible apply State.at_same)
    | (first | with_reducible apply State.evalBoth_same | with_reducible apply State.when_same | (intro; intros))
    | split)

theorem execHecSourcePending_same (t : Time) (src : Fin 64) (s : State) : ∃ s', execHecSourcePending t src s = .next s' ∧ Same 590309321157588287492 s s' := by
  have hw : 590309321157588287492 &&& 590309321157588287492 = 590309321157588287492 := by decide
  refine ⟨_, rfl, ?_⟩
  repeat' (first
    | (first | with_reducible assumption | with_reducible exact Same.refl)
    | (first | with_reducible exact Same.sub (by decide) hw | dsimp only | with_reducible apply Same.ite)
    | (first | with_reducible apply State.at_same | with_reducible apply State.hecFlush_same)
    | (first | with_reducible apply State.hecSample_same | with_reducible apply State.hecArbitrate_same)
    | (first | (intro; intros) | split)
    | with_reducible refine Same.upd (m := 13510798882111488) (hw := ?_) (hk := ?_))

theorem execHecAccept_same (t : Time) (core : Fin 4) (s : State) : ∃ s', execHecAccept t core s = .next s' ∧ Same 590309321157588287492 s s' := by
  have hw : 590309321157588287492 &&& 590309321157588287492 = 590309321157588287492 := by decide
  refine ⟨_, rfl, ?_⟩
  repeat' (first
    | (first | with_reducible assumption | with_reducible exact Same.refl)
    | (first | with_reducible exact Same.sub (by decide) hw | dsimp only | with_reducible apply Same.ite)
    | (first | with_reducible apply State.at_same | with_reducible apply State.hecFlush_same)
    | (first | with_reducible apply State.hecArbitrate_same | (intro; intros) | split)
    | with_reducible refine Same.upd (m := 9007199254740992) (hw := ?_) (hk := ?_))

theorem execHecFirstAccess_same (t : Time) (core : Fin 4) (s : State) : ∃ s', execHecFirstAccess t core s = .next s' ∧ Same 590309321157588287492 s s' := by
  have hw : 590309321157588287492 &&& 590309321157588287492 = 590309321157588287492 := by decide
  refine ⟨_, rfl, ?_⟩
  repeat' (first
    | (first | with_reducible assumption | with_reducible exact Same.refl)
    | (first | with_reducible exact Same.sub (by decide) hw | dsimp only | with_reducible apply State.at_same)
    | (first | with_reducible apply State.hecFlush_same | with_reducible apply State.hecSample_same)
    | (first | with_reducible apply State.hecAccess_same | with_reducible apply State.hecArbitrate_same)
    | (first | (intro; intros) | split))

theorem execHecEoi_same (t : Time) (core : Fin 4) (wn : Word) (s : State) : ∃ s', execHecEoi t core wn s = .next s' ∧ Same 608756065231297839108 s s' := by
  have hw : 608756065231297839108 &&& 608756065231297839108 = 608756065231297839108 := by decide
  refine ⟨_, rfl, ?_⟩
  repeat' (first
    | (first | with_reducible assumption | with_reducible exact Same.refl)
    | (first | with_reducible exact Same.sub (by decide) hw | dsimp only | with_reducible apply State.at_same)
    | (first | with_reducible apply State.hecCommand_same | (intro; intros) | split))

theorem execHecPendClear_same (t : Time) (high : Bool) (wn sets : Word) (s : State) : ∃ s', execHecPendClear t high wn sets s = .next s' ∧ Same 608756065231297839108 s s' := by
  have hw : 608756065231297839108 &&& 608756065231297839108 = 608756065231297839108 := by decide
  refine ⟨_, rfl, ?_⟩
  repeat' (first
    | (first | with_reducible assumption | with_reducible exact Same.refl)
    | (first | with_reducible exact Same.sub (by decide) hw | dsimp only | with_reducible apply State.at_same)
    | (first | with_reducible apply State.hecCommand_same | (intro; intros) | split))

theorem execHecTargetWrite_same (t : Time) (i : Fin 8) (wn : Word) (s : State) : ∃ s', execHecTargetWrite t i wn s = .next s' ∧ Same 608756065231297839108 s s' := by
  have hw : 608756065231297839108 &&& 608756065231297839108 = 608756065231297839108 := by decide
  refine ⟨_, rfl, ?_⟩
  repeat' (first
    | (first | with_reducible assumption | with_reducible exact Same.refl)
    | (first | with_reducible exact Same.sub (by decide) hw | dsimp only | with_reducible apply State.at_same)
    | (first | with_reducible apply State.hecCommand_same | (intro; intros) | split))

theorem execHecVbaseWrite_same (t : Time) (core : Fin 4) (wn : Word) (s : State) : ∃ s', execHecVbaseWrite t core wn s = .next s' ∧ Same 608756065231297839108 s s' := by
  have hw : 608756065231297839108 &&& 608756065231297839108 = 608756065231297839108 := by decide
  refine ⟨_, rfl, ?_⟩
  repeat' (first
    | (first | with_reducible assumption | with_reducible exact Same.refl)
    | (first | with_reducible exact Same.sub (by decide) hw | dsimp only | with_reducible apply State.at_same)
    | (first | with_reducible apply State.hecCommand_same | (intro; intros) | split))

theorem execClrCounts_same (t : Time) (s : State) : ∃ s', execClrCounts t s = .next s' ∧ Same 608756065231297839108 s s' := by
  have hw : 608756065231297839108 &&& 608756065231297839108 = 608756065231297839108 := by decide
  refine ⟨_, rfl, ?_⟩
  repeat' (first
    | (first | with_reducible assumption | with_reducible exact Same.refl)
    | (first | with_reducible exact Same.sub (by decide) hw | dsimp only | with_reducible apply State.at_same)
    | (first | with_reducible apply State.hecCommand_same | (intro; intros) | split))

theorem execCoreReset_same (t : Time) (core : Fin 4) (s : State) : ∃ s', execCoreReset t core s = .next s' ∧ Same 590309321157588287492 s s' := by
  have hw : 590309321157588287492 &&& 590309321157588287492 = 590309321157588287492 := by decide
  refine ⟨_, rfl, ?_⟩
  repeat' (first
    | (first | with_reducible assumption | with_reducible exact Same.refl)
    | (first | with_reducible exact Same.sub (by decide) hw | dsimp only | with_reducible apply State.at_same)
    | (first | with_reducible apply State.hecFlush_same | with_reducible apply State.hecSample_same)
    | (first | with_reducible apply State.hecArbitrate_same | (intro; intros) | split)
    | with_reducible refine Same.upd (m := 9007199254740992) (hw := ?_) (hk := ?_))

theorem execCvuCtrlWrite_same (t : Time) (u : Fin 2) (wn : Word) (s : State) : ∃ s', execCvuCtrlWrite t u wn s = .next s' ∧ Same 590313824757215657988 s s' := by
  have hw : 590313824757215657988 &&& 590313824757215657988 = 590313824757215657988 := by decide
  refine ⟨_, rfl, ?_⟩
  repeat' (first
    | (first | with_reducible assumption | with_reducible exact Same.refl)
    | (first | with_reducible exact Same.sub (by decide) hw | dsimp only | with_reducible apply State.at_same)
    | (first | with_reducible apply State.onCvu_same | (intro; intros) | split))

theorem execStart_same (t : Time) (u : Fin 2) (s : State) : ∃ s', execStart t u s = .next s' ∧ Same 590313824757215657988 s s' := by
  have hw : 590313824757215657988 &&& 590313824757215657988 = 590313824757215657988 := by decide
  refine ⟨_, rfl, ?_⟩
  repeat' (first
    | (first | with_reducible assumption | with_reducible exact Same.refl)
    | (first | with_reducible exact Same.sub (by decide) hw | dsimp only | with_reducible apply State.at_same)
    | (first | with_reducible apply State.onCvu_same | (intro; intros) | split))

theorem execFinish_same (t : Time) (u : Fin 2) (s : State) : ∃ s', execFinish t u s = .next s' ∧ Same 590318328356843028484 s s' := by
  have hw : 590318328356843028484 &&& 590318328356843028484 = 590318328356843028484 := by decide
  refine ⟨_, rfl, ?_⟩
  repeat' (first
    | (first | with_reducible assumption | with_reducible exact Same.refl)
    | (first | with_reducible exact Same.sub (by decide) hw | dsimp only | with_reducible apply State.at_same)
    | (first | with_reducible apply State.onCvu_same | with_reducible apply State.pulse_same | (intro; intros))
    | split)

theorem execClrRej_same (t : Time) (u : Fin 2) (s : State) : ∃ s', execClrRej t u s = .next s' ∧ Same 590313824757215657988 s s' := by
  have hw : 590313824757215657988 &&& 590313824757215657988 = 590313824757215657988 := by decide
  refine ⟨_, rfl, ?_⟩
  repeat' (first
    | (first | with_reducible assumption | with_reducible exact Same.refl)
    | (first | with_reducible exact Same.sub (by decide) hw | dsimp only | with_reducible apply State.at_same)
    | (first | with_reducible apply State.onCvu_same | (intro; intros) | split))

theorem execCvuData_same (t : Time) (u : Fin 2) (width : Nat) (wn : Word) (s : State) : ∃ s', execCvuData t u width wn s = .next s' ∧ Same 590313824757215657988 s s' := by
  have hw : 590313824757215657988 &&& 590313824757215657988 = 590313824757215657988 := by decide
  refine ⟨_, rfl, ?_⟩
  repeat' (first
    | (first | with_reducible assumption | with_reducible exact Same.refl)
    | (first | with_reducible exact Same.sub (by decide) hw | dsimp only | with_reducible apply State.at_same)
    | (first | with_reducible apply State.onCvu_same | (intro; intros) | split))

theorem execCvuValWrite_same (t : Time) (u : Fin 2) (wn : Word) (s : State) : ∃ s', execCvuValWrite t u wn s = .next s' ∧ Same 590313824757215657988 s s' := by
  have hw : 590313824757215657988 &&& 590313824757215657988 = 590313824757215657988 := by decide
  refine ⟨_, rfl, ?_⟩
  repeat' (first
    | (first | with_reducible assumption | with_reducible exact Same.refl)
    | (first | with_reducible exact Same.sub (by decide) hw | dsimp only | with_reducible apply State.at_same)
    | (first | with_reducible apply State.onCvu_same | (intro; intros) | split))

theorem execSupervisorFailure_same (t : Time) (v : Fin 2) (cause : SvFault) (s : State) : ∃ s', execSupervisorFailure t v cause s = .next s' ∧ Same 1089516451215567233412 s s' := by
  have hw : 1089516451215567233412 &&& 1089516451215567233412 = 1089516451215567233412 := by decide
  refine ⟨_, rfl, ?_⟩
  repeat' (first
    | (first | with_reducible assumption | with_reducible exact Same.refl)
    | (first | with_reducible exact Same.sub (by decide) hw | dsimp only | with_reducible apply State.at_same)
    | (first | with_reducible apply State.svFail_same | (intro; intros) | split))

theorem execSupervisorClockFault_same (t : Time) (v : Fin 2) (s : State) : ∃ s', execSupervisorClockFault t v s = .next s' ∧ Same 1089516451215567233412 s s' := by
  have hw : 1089516451215567233412 &&& 1089516451215567233412 = 1089516451215567233412 := by decide
  refine ⟨_, rfl, ?_⟩
  repeat' (first
    | (first | with_reducible assumption | with_reducible exact Same.refl)
    | (first | with_reducible exact Same.sub (by decide) hw | dsimp only | with_reducible apply State.at_same)
    | (first | with_reducible apply State.svFail_same | (intro; intros) | split))

theorem execStepOverrun_same (t : Time) (v : Fin 2) (s : State) : ∃ s', execStepOverrun t v s = .next s' ∧ Same 1089516451215567233412 s s' := by
  have hw : 1089516451215567233412 &&& 1089516451215567233412 = 1089516451215567233412 := by decide
  refine ⟨_, rfl, ?_⟩
  repeat' (first
    | (first | with_reducible assumption | with_reducible exact Same.refl)
    | (first | with_reducible exact Same.sub (by decide) hw | dsimp only | with_reducible apply State.at_same)
    | (first | with_reducible apply State.onSv_same | with_reducible apply State.svFail_same)
    | (first | with_reducible apply State.when_same | (intro; intros) | split))

theorem execDegradedClearExpiry_same (t : Time) (s : State) : ∃ s', execDegradedClearExpiry t s = .next s' ∧ Same 627189307302218301444 s s' := by
  have hw : 627189307302218301444 &&& 627189307302218301444 = 627189307302218301444 := by decide
  refine ⟨_, rfl, ?_⟩
  repeat' (first
    | (first | with_reducible assumption | with_reducible exact Same.refl)
    | (first | with_reducible exact Same.sub (by decide) hw | dsimp only | with_reducible apply State.at_same)
    | (first | with_reducible apply State.record_same | with_reducible apply State.when_same)
    | (first | with_reducible apply State.each_same | (intro; intros) | split)
    | with_reducible refine Same.upd (m := 8796093022208) (hw := ?_) (hk := ?_))

theorem execLedgerScrub_same (t : Time) (slot : Fin 2048) (copy : Fin 2) (rep : ScrubResult) (s : State) : ∃ s', execLedgerScrub t slot copy rep s = .next s' ∧ Same 1089516451284286711172 s s' := by
  have hw : 1089516451284286711172 &&& 1089516451284286711172 = 1089516451284286711172 := by decide
  refine ⟨_, rfl, ?_⟩
  repeat' (first
    | (first | with_reducible assumption | with_reducible exact Same.refl)
    | (first | with_reducible exact Same.sub (by decide) hw | dsimp only | with_reducible apply Same.ite)
    | (first | with_reducible apply State.at_same | with_reducible apply State.voidEntry_same)
    | (first | with_reducible apply State.svFail_same | (intro; intros) | split)
    | with_reducible refine Same.upd (m := 1024) (hw := ?_) (hk := ?_))

theorem execCheckpointDone_same (t : Time) (ok : Bool) (s : State) : ∃ s', execCheckpointDone t ok s = .next s' ∧ Same 627193872611936045060 s s' := by
  have hw : 627193872611936045060 &&& 627193872611936045060 = 627193872611936045060 := by decide
  refine ⟨_, rfl, ?_⟩
  repeat' (first
    | (first | with_reducible assumption | with_reducible exact Same.refl)
    | (first | with_reducible exact Same.sub (by decide) hw | dsimp only | with_reducible apply State.at_same)
    | (first | with_reducible apply State.ckptDone_same | with_reducible apply State.attestEntries_same)
    | (first | with_reducible apply State.checkpointDue_same | with_reducible apply State.when_same)
    | (first | (intro; intros) | split))

theorem execTumblerCompare_same (t : Time) (s : State) : ∃ s', execTumblerCompare t s = .next s' ∧ Same 590295827950892220420 s s' := by
  have hw : 590295827950892220420 &&& 590295827950892220420 = 590295827950892220420 := by decide
  refine ⟨_, rfl, ?_⟩
  repeat' (first
    | (first | with_reducible assumption | with_reducible exact Same.refl)
    | (first | with_reducible exact Same.sub (by decide) hw | dsimp only | with_reducible apply State.at_same)
    | (first | with_reducible apply State.when_same | (intro; intros) | split)
    | with_reducible refine Same.upd (m := 17592186044416) (hw := ?_) (hk := ?_))

theorem execTumblerToleranceExpiry_same (t : Time) (s : State) : ∃ s', execTumblerToleranceExpiry t s = .next s' ∧ Same 627189316373189230852 s s' := by
  have hw : 627189316373189230852 &&& 627189316373189230852 = 627189316373189230852 := by decide
  refine ⟨_, rfl, ?_⟩
  repeat' (first
    | (first | with_reducible assumption | with_reducible exact Same.refl)
    | (first | with_reducible exact Same.sub (by decide) hw | dsimp only | with_reducible apply Same.ite)
    | (first | with_reducible apply State.at_same | with_reducible apply State.mismatch_same)
    | (first | with_reducible apply State.when_same | with_reducible apply State.each_same | (intro; intros))
    | (first | split | with_reducible refine Same.upd (m := 17592186044416) (hw := ?_) (hk := ?_)))

theorem execTumblerRederiveDone_same (t : Time) (s : State) : ∃ s', execTumblerRederiveDone t s = .next s' ∧ Same 627193890341560779012 s s' := by
  have hw : 627193890341560779012 &&& 627193890341560779012 = 627193890341560779012 := by decide
  refine ⟨_, rfl, ?_⟩
  repeat' (first
    | (first | with_reducible assumption | with_reducible exact Same.refl)
    | (first | with_reducible exact Same.sub (by decide) hw | dsimp only | with_reducible apply Same.ite)
    | (first | with_reducible apply State.at_same | with_reducible apply State.rederive_same)
    | (first | with_reducible apply State.mismatch_same | with_reducible apply State.onNvSec_same)
    | (first | with_reducible apply State.record_same | with_reducible apply State.checkpointDue_same)
    | (first | with_reducible apply State.when_same | with_reducible apply State.each_same | (intro; intros))
    | (first | split | with_reducible refine Same.upd (m := 17592186044416) (hw := ?_) (hk := ?_)))

theorem execVerdictShadowLoad_same (t : Time) (sec : Fin 4) (s : State) : ∃ s', execVerdictShadowLoad t sec s = .next s' ∧ Same 590295811458217803780 s s' := by
  have hw : 590295811458217803780 &&& 590295811458217803780 = 590295811458217803780 := by decide
  refine ⟨_, rfl, ?_⟩
  repeat' (first
    | (first | with_reducible assumption | with_reducible exact Same.refl)
    | (first | with_reducible exact Same.sub (by decide) hw | dsimp only | with_reducible apply Same.ite)
    | (first | with_reducible apply State.at_same | (intro; intros) | split)
    | with_reducible refine Same.upd (m := 1099511627776) (hw := ?_) (hk := ?_))

theorem execDeadboltDrop_same (t : Time) (n : Fin 4) (input : DropInput) (s : State) : ∃ s', execDeadboltDrop t n input s = .next s' ∧ Same 627189305103195045892 s s' := by
  have hw : 627189305103195045892 &&& 627189305103195045892 = 627189305103195045892 := by decide
  refine ⟨_, rfl, ?_⟩
  repeat' (first
    | (first | with_reducible assumption | with_reducible exact Same.refl)
    | (first | with_reducible exact Same.sub (by decide) hw | dsimp only | with_reducible apply Same.ite)
    | (first | with_reducible apply State.at_same | with_reducible apply State.dropPermit_same)
    | (first | with_reducible apply State.requalify_same | (intro; intros) | split))

theorem execPermitRise_same (t : Time) (n : Fin 4) (s : State) : ∃ s', execPermitRise t n s = .next s' ∧ Same 590295812557729431556 s s' := by
  have hw : 590295812557729431556 &&& 590295812557729431556 = 590295812557729431556 := by decide
  refine ⟨_, rfl, ?_⟩
  repeat' (first
    | (first | with_reducible assumption | with_reducible exact Same.refl)
    | (first | with_reducible exact Same.sub (by decide) hw | dsimp only | with_reducible apply State.at_same)
    | (first | with_reducible apply State.onPermit_same | with_reducible apply State.when_same | (intro; intros))
    | split)

theorem execDeadboltClear_same (t : Time) (wn : Word) (s : State) : ∃ s', execDeadboltClear t wn s = .next s' ∧ Same 590295814756752687108 s s' := by
  have hw : 590295814756752687108 &&& 590295814756752687108 = 590295814756752687108 := by decide
  refine ⟨_, rfl, ?_⟩
  repeat' (first
    | (first | with_reducible assumption | with_reducible exact Same.refl)
    | (first | with_reducible exact Same.sub (by decide) hw | dsimp only | with_reducible apply State.at_same)
    | (first | with_reducible apply State.deadboltClear_same | (intro; intros) | split))

theorem execHaspGateClose_same (t : Time) (port : Fin 4) (s : State) : ∃ s', execHaspGateClose t port s = .next s' ∧ Same 592601653367919869956 s s' := by
  have hw : 592601653367919869956 &&& 592601653367919869956 = 592601653367919869956 := by decide
  refine ⟨_, rfl, ?_⟩
  repeat' (first
    | (first | with_reducible assumption | with_reducible exact Same.refl)
    | (first | with_reducible exact Same.sub (by decide) hw | dsimp only | with_reducible apply State.at_same)
    | (first | with_reducible apply State.onPort_same | with_reducible apply State.when_same | (intro; intros))
    | split)

theorem execEgressFrameEnd_same (t : Time) (port : Fin 4) (s : State) : ∃ s', execEgressFrameEnd t port s = .next s' ∧ Same 597213339386347257860 s s' := by
  have hw : 597213339386347257860 &&& 597213339386347257860 = 597213339386347257860 := by decide
  refine ⟨_, rfl, ?_⟩
  repeat' (first
    | (first | with_reducible assumption | with_reducible exact Same.refl)
    | (first | with_reducible exact Same.sub (by decide) hw | dsimp only | with_reducible apply State.at_same)
    | (first | with_reducible apply State.frameEnds_same | (intro; intros) | split))

theorem execAddressAgeout_same (t : Time) (s : State) : ∃ s', execAddressAgeout t s = .next s' ∧ Same 594907496377133563908 s s' := by
  have hw : 594907496377133563908 &&& 594907496377133563908 = 594907496377133563908 := by decide
  refine ⟨_, rfl, ?_⟩
  repeat' (first
    | (first | with_reducible assumption | with_reducible exact Same.refl)
    | (first | with_reducible exact Same.sub (by decide) hw | dsimp only | with_reducible apply State.at_same)
    | (first | (intro; intros) | split)
    | with_reducible refine Same.upd (m := 4611686018427387904) (hw := ?_) (hk := ?_))

theorem execNodeTableAgeout_same (t : Time) (s : State) : ∃ s', execNodeTableAgeout t s = .next s' ∧ Same 594907496377133563908 s s' := by
  have hw : 594907496377133563908 &&& 594907496377133563908 = 594907496377133563908 := by decide
  refine ⟨_, rfl, ?_⟩
  repeat' (first
    | (first | with_reducible assumption | with_reducible exact Same.refl)
    | (first | with_reducible exact Same.sub (by decide) hw | dsimp only | with_reducible apply State.at_same)
    | (first | with_reducible apply State.prpForget_same | (intro; intros) | split))

theorem execPrpTrailerEnable_same (t : Time) (s : State) : ∃ s', execPrpTrailerEnable t s = .next s' ∧ Same 594907496377133563908 s s' := by
  have hw : 594907496377133563908 &&& 594907496377133563908 = 594907496377133563908 := by decide
  refine ⟨_, rfl, ?_⟩
  repeat' (first
    | (first | with_reducible assumption | with_reducible exact Same.refl)
    | (first | with_reducible exact Same.sub (by decide) hw | dsimp only | with_reducible apply State.at_same)
    | (first | with_reducible apply State.when_same | (intro; intros) | split)
    | with_reducible refine Same.upd (m := 4611686018427387904) (hw := ?_) (hk := ?_))

theorem execSupervisionFrame_same (t : Time) (s : State) : ∃ s', execSupervisionFrame t s = .next s' ∧ Same 634106827533766361092 s s' := by
  have hw : 634106827533766361092 &&& 634106827533766361092 = 634106827533766361092 := by decide
  refine ⟨_, rfl, ?_⟩
  repeat' (first
    | (first | with_reducible assumption | with_reducible exact Same.refl)
    | (first | with_reducible exact Same.sub (by decide) hw | dsimp only | with_reducible apply State.at_same)
    | (first | with_reducible apply State.sendFrame_same | with_reducible apply State.when_same | (intro; intros))
    | (first | split | with_reducible refine Same.upd (m := 4611686018427387904) (hw := ?_) (hk := ?_)))

theorem execLinkUp_same (t : Time) (port : Fin 4) (capable requests : Bool) (s : State) : ∃ s', execLinkUp t port capable requests s = .next s' ∧ Same 638718513552193748996 s s' := by
  have hw : 638718513552193748996 &&& 638718513552193748996 = 638718513552193748996 := by decide
  refine ⟨_, rfl, ?_⟩
  repeat' (first
    | (first | with_reducible assumption | with_reducible exact Same.refl)
    | (first | with_reducible exact Same.sub (by decide) hw | dsimp only | with_reducible apply State.at_same)
    | (first | with_reducible apply State.record_same | with_reducible apply State.onPort_same)
    | (first | with_reducible apply State.signalOn_same | with_reducible apply State.when_same | (intro; intros))
    | split)

theorem execLinkDown_same (t : Time) (port : Fin 4) (s : State) : ∃ s', execLinkDown t port s = .next s' ∧ Same 661781447243958059012 s s' := by
  have hw : 661781447243958059012 &&& 661781447243958059012 = 661781447243958059012 := by decide
  refine ⟨_, rfl, ?_⟩
  repeat' (first
    | (first | with_reducible assumption | with_reducible exact Same.refl)
    | (first | with_reducible exact Same.sub (by decide) hw | dsimp only | with_reducible apply State.at_same)
    | (first | with_reducible apply State.linkLost_same | (intro; intros) | split))

theorem execAnnounce_same (t : Time) (port : Fin 4) (a : AnnounceInfo) (s : State) : ∃ s', execAnnounce t port a s = .next s' ∧ Same 657169761225530671108 s s' := by
  have hw : 657169761225530671108 &&& 657169761225530671108 = 657169761225530671108 := by decide
  refine ⟨_, rfl, ?_⟩
  repeat' (first
    | (first | with_reducible assumption | with_reducible exact Same.refl)
    | (first | with_reducible exact Same.sub (by decide) hw | dsimp only | with_reducible apply State.at_same)
    | (first | with_reducible apply State.onPort_same | with_reducible apply State.bestMaster_same)
    | (first | with_reducible apply State.when_same | (intro; intros) | split))

theorem execPdelayReq_same (t : Time) (port : Fin 4) (delay : Option Nat) (s : State) : ∃ s', execPdelayReq t port delay s = .next s' ∧ Same 657169761225530671108 s s' := by
  have hw : 657169761225530671108 &&& 657169761225530671108 = 657169761225530671108 := by decide
  refine ⟨_, rfl, ?_⟩
  repeat' (first
    | (first | with_reducible assumption | with_reducible exact Same.refl)
    | (first | with_reducible exact Same.sub (by decide) hw | dsimp only | with_reducible apply Same.ite)
    | (first | with_reducible apply State.at_same | with_reducible apply State.sendTime_same)
    | (first | with_reducible apply State.onPort_same | with_reducible apply State.bestMaster_same)
    | (first | with_reducible apply State.when_same | (intro; intros) | split))

theorem execSync_same (t : Time) (port : Fin 4) (gmTime : Time) (s : State) : ∃ s', execSync t port gmTime s = .next s' ∧ Same 952318406342386122756 s s' := by
  have hw : 952318406342386122756 &&& 952318406342386122756 = 952318406342386122756 := by decide
  refine ⟨_, rfl, ?_⟩
  repeat' (first
    | (first | with_reducible assumption | with_reducible exact Same.refl)
    | (first | with_reducible exact Same.sub (by decide) hw | dsimp only | with_reducible apply State.at_same)
    | (first | with_reducible apply State.takeSync_same | with_reducible apply State.relaySync_same)
    | (first | with_reducible apply State.when_same | (intro; intros) | split))

theorem execSyncTimeout_same (t : Time) (s : State) : ∃ s', execSyncTimeout t s = .next s' ∧ Same 654863918216316977156 s s' := by
  have hw : 654863918216316977156 &&& 654863918216316977156 = 654863918216316977156 := by decide
  refine ⟨_, rfl, ?_⟩
  repeat' (first
    | (first | with_reducible assumption | with_reducible exact Same.refl)
    | (first | with_reducible exact Same.sub (by decide) hw | dsimp only | with_reducible apply State.at_same)
    | (first | with_reducible apply State.enterHoldover_same | with_reducible apply State.when_same)
    | (first | (intro; intros) | split))

theorem execHoldoverExpiry_same (t : Time) (s : State) : ∃ s', execHoldoverExpiry t s = .next s' ∧ Same 654863918216316977156 s s' := by
  have hw : 654863918216316977156 &&& 654863918216316977156 = 654863918216316977156 := by decide
  refine ⟨_, rfl, ?_⟩
  repeat' (first
    | (first | with_reducible assumption | with_reducible exact Same.refl)
    | (first | with_reducible exact Same.sub (by decide) hw | dsimp only | with_reducible apply State.at_same)
    | (first | with_reducible apply State.judgeHoldover_same | (intro; intros) | split))

theorem execSyncPpsEdge_same (t : Time) (s : State) : ∃ s', execSyncPpsEdge t s = .next s' ∧ Same 931565079321960251396 s s' := by
  have hw : 931565079321960251396 &&& 931565079321960251396 = 931565079321960251396 := by decide
  refine ⟨_, rfl, ?_⟩
  repeat' (first
    | (first | with_reducible assumption | with_reducible exact Same.refl)
    | (first | with_reducible exact Same.sub (by decide) hw | dsimp only | with_reducible apply Same.ite)
    | (first | with_reducible apply State.at_same | with_reducible apply State.eventStamp_same)
    | (first | with_reducible apply State.ppsLocked_same | with_reducible apply State.when_same | (intro; intros))
    | (first | refine Same.snd (by assumption) ?_ | split)
    | with_reducible refine Same.upd (m := 9223372036854775808) (hw := ?_) (hk := ?_))

theorem execSyncPpsTimeout_same (t : Time) (s : State) : ∃ s', execSyncPpsTimeout t s = .next s' ∧ Same 636417174142607425540 s s' := by
  have hw : 636417174142607425540 &&& 636417174142607425540 = 636417174142607425540 := by decide
  refine ⟨_, rfl, ?_⟩
  repeat' (first
    | (first | with_reducible assumption | with_reducible exact Same.refl)
    | (first | with_reducible exact Same.sub (by decide) hw | dsimp only | with_reducible apply State.at_same)
    | (first | with_reducible apply State.ppsLocked_same | with_reducible apply State.when_same | (intro; intros))
    | (first | split | with_reducible refine Same.upd (m := 9223372036854775808) (hw := ?_) (hk := ?_)))

theorem execSyncPpsOutput_same (t : Time) (s : State) : ∃ s', execSyncPpsOutput t s = .next s' ∧ Same 599519182395560951812 s s' := by
  have hw : 599519182395560951812 &&& 599519182395560951812 = 599519182395560951812 := by decide
  refine ⟨_, rfl, ?_⟩
  repeat' (first
    | (first | with_reducible assumption | with_reducible exact Same.refl)
    | (first | with_reducible exact Same.sub (by decide) hw | dsimp only | with_reducible apply State.at_same)
    | (first | with_reducible apply State.when_same | (intro; intros) | split)
    | with_reducible refine Same.upd (m := 9223372036854775808) (hw := ?_) (hk := ?_))

theorem execSyncPpsPulseEnd_same (t : Time) (s : State) : ∃ s', execSyncPpsPulseEnd t s = .next s' ∧ Same 599519182395560951812 s s' := by
  have hw : 599519182395560951812 &&& 599519182395560951812 = 599519182395560951812 := by decide
  refine ⟨_, rfl, ?_⟩
  repeat' (first
    | (first | with_reducible assumption | with_reducible exact Same.refl)
    | (first | with_reducible exact Same.sub (by decide) hw | dsimp only | with_reducible apply State.at_same)
    | (first | with_reducible apply State.when_same | (intro; intros) | split)
    | with_reducible refine Same.upd (m := 9223372036854775808) (hw := ?_) (hk := ?_))

theorem execTbClockLoss_same (t : Time) (s : State) : ∃ s', execTbClockLoss t s = .next s' ∧ Same 654863918216316977156 s s' := by
  have hw : 654863918216316977156 &&& 654863918216316977156 = 654863918216316977156 := by decide
  refine ⟨_, rfl, ?_⟩
  repeat' (first
    | (first | with_reducible assumption | with_reducible exact Same.refl)
    | (first | with_reducible exact Same.sub (by decide) hw | dsimp only | with_reducible apply State.at_same)
    | (first | with_reducible apply State.timeState_same | with_reducible apply State.record_same)
    | (first | with_reducible apply State.when_same | (intro; intros) | split))

theorem execRecorderEvent_same (t : Time) (ev : RecEvent) (s : State) : ∃ s', execRecorderEvent t ev s = .next s' ∧ Same 709046725333211414532 s s' := by
  have hw : 709046725333211414532 &&& 709046725333211414532 = 709046725333211414532 := by decide
  refine ⟨_, rfl, ?_⟩
  repeat' (first
    | (first | with_reducible assumption | with_reducible exact Same.refl)
    | (first | with_reducible exact Same.sub (by decide) hw | dsimp only | with_reducible apply State.at_same)
    | (first | with_reducible apply State.recTake_same | with_reducible apply State.when_same | (intro; intros))
    | split)

theorem execTokenRefill_same (t : Time) (cls : BitVec 8) (s : State) : ∃ s', execTokenRefill t cls s = .next s' ∧ Same 700976274800963485700 s s' := by
  have hw : 700976274800963485700 &&& 700976274800963485700 = 700976274800963485700 := by decide
  refine ⟨_, rfl, ?_⟩
  repeat' (first
    | (first | with_reducible assumption | with_reducible exact Same.refl)
    | (first | with_reducible exact Same.sub (by decide) hw | dsimp only | with_reducible apply State.at_same)
    | (first | (intro; intros) | split)
    | with_reducible refine Same.upd (m := 110680464442257309696) (hw := ?_) (hk := ?_))

theorem execSuppressionRunEnd_same (t : Time) (cls : BitVec 8) (s : State) : ∃ s', execSuppressionRunEnd t cls s = .next s' ∧ Same 700976274800963485700 s s' := by
  have hw : 700976274800963485700 &&& 700976274800963485700 = 700976274800963485700 := by decide
  refine ⟨_, rfl, ?_⟩
  repeat' (first
    | (first | with_reducible assumption | with_reducible exact Same.refl)
    | (first | with_reducible exact Same.sub (by decide) hw | dsimp only | with_reducible apply State.at_same)
    | (first | with_reducible apply State.recNext_same | with_reducible apply State.when_same | (intro; intros))
    | (first | split | with_reducible refine Same.upd (m := 110680464442257309696) (hw := ?_) (hk := ?_)))

theorem execRecordWritten_same (t : Time) (rowFails : Nat) (row : BitVec 16) (s : State) : ∃ s', execRecordWritten t rowFails row s = .next s' ∧ Same 709118782927249735684 s s' := by
  have hw : 709118782927249735684 &&& 709118782927249735684 = 709118782927249735684 := by decide
  refine ⟨_, rfl, ?_⟩
  repeat' (first
    | (first | with_reducible assumption | with_reducible exact Same.refl)
    | (first | with_reducible exact Same.sub (by decide) hw | dsimp only | with_reducible apply Same.ite)
    | (first | with_reducible apply State.at_same | with_reducible apply State.recWrite_same)
    | (first | with_reducible apply State.recClear_same | with_reducible apply State.recNext_same)
    | (first | (intro; intros) | split)
    | with_reducible refine Same.upd (m := 73786976294838206464) (hw := ?_) (hk := ?_))

theorem execHaspSend_same (t : Time) (k : Fin 8) (s : State) : ∃ s', execHaspSend t k s = .next s' ∧ Same 634147360205291651076 s s' := by
  have hw : 634147360205291651076 &&& 634147360205291651076 = 634147360205291651076 := by decide
  refine ⟨_, rfl, ?_⟩
  repeat' (first
    | (first | with_reducible assumption | with_reducible exact Same.refl)
    | (first | with_reducible exact Same.sub (by decide) hw | dsimp only | with_reducible apply State.at_same)
    | (first | with_reducible apply State.requestsTake_same | with_reducible apply State.openGates_same)
    | (first | with_reducible apply State.onHaspConn_same | with_reducible apply State.sendAssembled_same)
    | (first | with_reducible apply State.cvuDone_same | with_reducible apply State.serveQueues_same)
    | (first | with_reducible apply State.when_same | (intro; intros) | split))

theorem execHaspReceive_same (t : Time) (port : Fin 4) (f : Frame) (s : State) : ∃ s', execHaspReceive t port f s = .next s' ∧ Same 1095316665735471170308 s s' := by
  have hw : 1095316665735471170308 &&& 1095316665735471170308 = 1095316665735471170308 := by decide
  refine ⟨_, rfl, ?_⟩
  repeat' (first
    | (first | with_reducible assumption | with_reducible exact Same.refl)
    | (first | with_reducible exact Same.sub (by decide) hw | dsimp only | with_reducible apply State.at_same)
    | (first | with_reducible apply State.haspFrame_same | (intro; intros) | split)
    | with_reducible refine Same.upd (m := 4611686018427387904) (hw := ?_) (hk := ?_))

theorem execConnectionTimeout_same (t : Time) (k : Fin 8) (s : State) : ∃ s', execConnectionTimeout t k s = .next s' ∧ Same 645676715988847428100 s s' := by
  have hw : 645676715988847428100 &&& 645676715988847428100 = 645676715988847428100 := by decide
  refine ⟨_, rfl, ?_⟩
  repeat' (first
    | (first | with_reducible assumption | with_reducible exact Same.refl)
    | (first | with_reducible exact Same.sub (by decide) hw | dsimp only | with_reducible apply State.at_same)
    | (first | with_reducible apply State.connOut_same | with_reducible apply State.when_same | (intro; intros))
    | split)

theorem execLaneTimeout_same (t : Time) (k : Fin 8) (lane : Fin 2) (s : State) : ∃ s', execLaneTimeout t k lane s = .next s' ∧ Same 627225327303144243716 s s' := by
  have hw : 627225327303144243716 &&& 627225327303144243716 = 627225327303144243716 := by decide
  refine ⟨_, rfl, ?_⟩
  repeat' (first
    | (first | with_reducible assumption | with_reducible exact Same.refl)
    | (first | with_reducible exact Same.sub (by decide) hw | dsimp only | with_reducible apply State.at_same)
    | (first | with_reducible apply State.laneLost_same | with_reducible apply State.when_same | (intro; intros))
    | split)

theorem execMirrorGapTimeout_same (t : Time) (k : Fin 8) (s : State) : ∃ s', execMirrorGapTimeout t k s = .next s' ∧ Same 627189298781003186180 s s' := by
  have hw : 627189298781003186180 &&& 627189298781003186180 = 627189298781003186180 := by decide
  refine ⟨_, rfl, ?_⟩
  repeat' (first
    | (first | with_reducible assumption | with_reducible exact Same.refl)
    | (first | with_reducible exact Same.sub (by decide) hw | dsimp only | with_reducible apply State.at_same)
    | (first | with_reducible apply State.crossCheck_same | with_reducible apply State.onSv_same)
    | (first | with_reducible apply State.when_same | with_reducible apply State.each_same | (intro; intros))
    | split)

theorem execHibernateHaspSend_same (t : Time) (k : Fin 8) (s : State) : ∃ s', execHibernateHaspSend t k s = .next s' ∧ Same 634147359930413744132 s s' := by
  have hw : 634147359930413744132 &&& 634147359930413744132 = 634147359930413744132 := by decide
  refine ⟨_, rfl, ?_⟩
  repeat' (first
    | (first | with_reducible assumption | with_reducible exact Same.refl)
    | (first | with_reducible exact Same.sub (by decide) hw | dsimp only | with_reducible apply State.at_same)
    | (first | with_reducible apply State.openGates_same | with_reducible apply State.onHaspConn_same)
    | (first | with_reducible apply State.sendAssembled_same | with_reducible apply State.cvuDone_same)
    | (first | with_reducible apply State.serveQueues_same | with_reducible apply State.when_same)
    | (first | (intro; intros) | split))

theorem execRemovalWarning_same (t : Time) (s : State) : ∃ s', execRemovalWarning t s = .next s' ∧ Same 1096974385930263342038 s s' := by
  have hw : 1096974385930263342038 &&& 1096974385930263342038 = 1096974385930263342038 := by decide
  refine ⟨_, rfl, ?_⟩
  repeat' (first
    | (first | with_reducible assumption | with_reducible exact Same.refl)
    | (first | with_reducible exact Same.sub (by decide) hw | dsimp only | with_reducible apply Same.ite)
    | (first | with_reducible apply State.at_same | with_reducible apply State.removal_same)
    | (first | with_reducible apply State.powerBad_same | (intro; intros) | split)
    | with_reducible refine Same.upd (m := 16) (hw := ?_) (hk := ?_))

theorem execSupplyLoss_same (t : Time) (s : State) : ∃ s', execSupplyLoss t s = .next s' ∧ Same 1096974385930263342038 s s' := by
  have hw : 1096974385930263342038 &&& 1096974385930263342038 = 1096974385930263342038 := by decide
  refine ⟨_, rfl, ?_⟩
  repeat' (first
    | (first | with_reducible assumption | with_reducible exact Same.refl)
    | (first | with_reducible exact Same.sub (by decide) hw | dsimp only | with_reducible apply Same.ite)
    | (first | with_reducible apply State.at_same | with_reducible apply State.removal_same)
    | (first | with_reducible apply State.powerBad_same | (intro; intros) | split)
    | with_reducible refine Same.upd (m := 16) (hw := ?_) (hk := ?_))

theorem execSkrstReq_same (t : Time) (s : State) : ∃ s', execSkrstReq t s = .next s' ∧ Same 1096974385930263342038 s s' := by
  have hw : 1096974385930263342038 &&& 1096974385930263342038 = 1096974385930263342038 := by decide
  refine ⟨_, rfl, ?_⟩
  repeat' (first
    | (first | with_reducible assumption | with_reducible exact Same.refl)
    | (first | with_reducible exact Same.sub (by decide) hw | dsimp only | with_reducible apply State.at_same)
    | (first | with_reducible apply State.softReset_same | (intro; intros) | split))

theorem execImmediateReset_same (t : Time) (s : State) : ∃ s', execImmediateReset t s = .next s' ∧ Same 885443715538057062406 s s' := by
  have hw : 885443715538057062406 &&& 885443715538057062406 = 885443715538057062406 := by decide
  refine ⟨_, rfl, ?_⟩
  repeat' (first
    | (first | with_reducible assumption | with_reducible exact Same.refl)
    | (first | with_reducible exact Same.sub (by decide) hw | dsimp only | with_reducible apply State.at_same)
    | (first | with_reducible apply State.cutCkpt_same | with_reducible apply State.journalStop_same)
    | (first | with_reducible apply State.afterReset_same | (intro; intros) | split))

theorem execRailOutOfRange_same (t : Time) (rail : Rail) (s : State) : ∃ s', execRailOutOfRange t rail s = .next s' ∧ Same 885443715538057062422 s s' := by
  have hw : 885443715538057062422 &&& 885443715538057062422 = 885443715538057062422 := by decide
  refine ⟨_, rfl, ?_⟩
  repeat' (first
    | (first | with_reducible assumption | with_reducible exact Same.refl)
    | (first | with_reducible exact Same.sub (by decide) hw | dsimp only | with_reducible apply Same.ite)
    | (first | with_reducible apply State.at_same | with_reducible apply State.cutCkpt_same)
    | (first | with_reducible apply State.journalStop_same | with_reducible apply State.afterReset_same)
    | (first | with_reducible apply State.when_same | (intro; intros) | split)
    | with_reducible refine Same.upd (m := 131088) (hw := ?_) (hk := ?_))

theorem execOpsecSave_same (t : Time) (s : State) : ∃ s', execOpsecSave t s = .next s' ∧ Same 590295810358706176004 s s' := by
  have hw : 590295810358706176004 &&& 590295810358706176004 = 590295810358706176004 := by decide
  refine ⟨_, rfl, ?_⟩
  repeat' (first
    | (first | with_reducible assumption | with_reducible exact Same.refl)
    | (first | with_reducible exact Same.sub (by decide) hw | dsimp only | with_reducible apply State.at_same)
    | (first | with_reducible apply State.saveOpsec_same | with_reducible apply State.when_same | (intro; intros))
    | split)

theorem execContactBounce_same (t : Time) (s : State) : ∃ s', execContactBounce t s = .next s' ∧ Same 627189298506125279252 s s' := by
  have hw : 627189298506125279252 &&& 627189298506125279252 = 627189298506125279252 := by decide
  refine ⟨_, rfl, ?_⟩
  repeat' (first
    | (first | with_reducible assumption | with_reducible exact Same.refl)
    | (first | with_reducible exact Same.sub (by decide) hw | dsimp only | with_reducible apply State.at_same)
    | (first | with_reducible apply State.record_same | with_reducible apply State.when_same | (intro; intros))
    | (first | split | with_reducible refine Same.upd (m := 16) (hw := ?_) (hk := ?_)))

theorem execDeferredSetApply_same (t : Time) (s : State) : ∃ s', execDeferredSetApply t s = .next s' ∧ Same 1180561195014461225974 s s' := by
  have hw : 1180561195014461225974 &&& 1180561195014461225974 = 1180561195014461225974 := by decide
  refine ⟨_, rfl, ?_⟩
  repeat' (first
    | (first | with_reducible assumption | with_reducible exact Same.refl)
    | (first | with_reducible exact Same.sub (by decide) hw | dsimp only | with_reducible apply State.at_same)
    | (first | with_reducible apply State.evalBoth_same | with_reducible apply State.applySets_same)
    | (first | with_reducible apply State.when_same | (intro; intros) | split))

theorem execPitchTime_same (t : Time) (s : State) : ∃ s', execPitchTime t s = .next s' ∧ Same 1180561195014461291510 s s' := by
  have hw : 1180561195014461291510 &&& 1180561195014461291510 = 1180561195014461291510 := by decide
  refine ⟨_, rfl, ?_⟩
  repeat' (first
    | (first | with_reducible assumption | with_reducible exact Same.refl)
    | (first | with_reducible exact Same.sub (by decide) hw | dsimp only | with_reducible apply Same.ite)
    | (first | with_reducible apply State.at_same | with_reducible apply State.evalFronts_same)
    | (first | with_reducible apply State.applySets_same | with_reducible apply State.applyPitch_same)
    | (first | with_reducible apply State.pitchDone_same | with_reducible apply State.evalBacks_same)
    | (first | with_reducible apply State.wakeEvent_same | with_reducible apply State.when_same | (intro; intros))
    | (first | refine Same.fst (by assumption) ?_ | split))

theorem execSdpWrite_same (t : Time) (src : SdpSrc) (s : State) : ∃ s', execSdpWrite t src s = .next s' ∧ Same 1106776470519436407780 s s' := by
  have hw : 1106776470519436407780 &&& 1106776470519436407780 = 1106776470519436407780 := by decide
  refine ⟨_, rfl, ?_⟩
  repeat' (first
    | (first | with_reducible assumption | with_reducible exact Same.refl)
    | (first | with_reducible exact Same.sub (by decide) hw | dsimp only | with_reducible apply State.at_same)
    | (first | with_reducible apply State.serveIf_same | (intro; intros) | split))

theorem execWriteSeg_same (t : Time) (src : SdpSrc) (s : State) : ∃ s', execWriteSeg t src s = .next s' ∧ Same 1106776470519436407780 s s' := by
  have hw : 1106776470519436407780 &&& 1106776470519436407780 = 1106776470519436407780 := by decide
  refine ⟨_, rfl, ?_⟩
  repeat' (first
    | (first | with_reducible assumption | with_reducible exact Same.refl)
    | (first | with_reducible exact Same.sub (by decide) hw | dsimp only | with_reducible apply State.at_same)
    | (first | with_reducible apply State.serveIf_same | (intro; intros) | split))

theorem execTxnEnd_same (t : Time) (src : SdpSrc) (wn : StoreRun) (s : State) : ∃ s', execTxnEnd t src wn s = .next s' ∧ Same 1106776470519436407780 s s' := by
  have hw : 1106776470519436407780 &&& 1106776470519436407780 = 1106776470519436407780 := by decide
  refine ⟨_, rfl, ?_⟩
  repeat' (first
    | (first | with_reducible assumption | with_reducible exact Same.refl)
    | (first | with_reducible exact Same.sub (by decide) hw | dsimp only | with_reducible apply State.at_same)
    | (first | with_reducible apply State.serveIf_same | (intro; intros) | split))

theorem execPendingCommit_same (t : Time) (src : SdpSrc) (s : State) : ∃ s', execPendingCommit t src s = .next s' ∧ Same 1106776470519436407780 s s' := by
  have hw : 1106776470519436407780 &&& 1106776470519436407780 = 1106776470519436407780 := by decide
  refine ⟨_, rfl, ?_⟩
  repeat' (first
    | (first | with_reducible assumption | with_reducible exact Same.refl)
    | (first | with_reducible exact Same.sub (by decide) hw | dsimp only | with_reducible apply State.at_same)
    | (first | with_reducible apply State.serveIf_same | (intro; intros) | split))

theorem execPendingDiscard_same (t : Time) (src : SdpSrc) (s : State) : ∃ s', execPendingDiscard t src s = .next s' ∧ Same 1106776470519436407780 s s' := by
  have hw : 1106776470519436407780 &&& 1106776470519436407780 = 1106776470519436407780 := by decide
  refine ⟨_, rfl, ?_⟩
  repeat' (first
    | (first | with_reducible assumption | with_reducible exact Same.refl)
    | (first | with_reducible exact Same.sub (by decide) hw | dsimp only | with_reducible apply State.at_same)
    | (first | with_reducible apply State.serveIf_same | (intro; intros) | split))

theorem execWaitingCancel_same (t : Time) (src : SdpSrc) (s : State) : ∃ s', execWaitingCancel t src s = .next s' ∧ Same 1106776470519436407780 s s' := by
  have hw : 1106776470519436407780 &&& 1106776470519436407780 = 1106776470519436407780 := by decide
  refine ⟨_, rfl, ?_⟩
  repeat' (first
    | (first | with_reducible assumption | with_reducible exact Same.refl)
    | (first | with_reducible exact Same.sub (by decide) hw | dsimp only | with_reducible apply State.at_same)
    | (first | with_reducible apply State.serveIf_same | (intro; intros) | split))

theorem execRollback_same (t : Time) (src : SdpSrc) (wn : StoreRun) (s : State) : ∃ s', execRollback t src wn s = .next s' ∧ Same 1106776470519436407780 s s' := by
  have hw : 1106776470519436407780 &&& 1106776470519436407780 = 1106776470519436407780 := by decide
  refine ⟨_, rfl, ?_⟩
  repeat' (first
    | (first | with_reducible assumption | with_reducible exact Same.refl)
    | (first | with_reducible exact Same.sub (by decide) hw | dsimp only | with_reducible apply State.at_same)
    | (first | with_reducible apply State.serveIf_same | (intro; intros) | split))

theorem execRerun_same (t : Time) (src : SdpSrc) (wn : StoreRun) (s : State) : ∃ s', execRerun t src wn s = .next s' ∧ Same 1106776470519436407780 s s' := by
  have hw : 1106776470519436407780 &&& 1106776470519436407780 = 1106776470519436407780 := by decide
  refine ⟨_, rfl, ?_⟩
  repeat' (first
    | (first | with_reducible assumption | with_reducible exact Same.refl)
    | (first | with_reducible exact Same.sub (by decide) hw | dsimp only | with_reducible apply State.at_same)
    | (first | with_reducible apply State.serveIf_same | (intro; intros) | split))

theorem execNoEntryRelease_same (t : Time) (src : SdpSrc) (s : State) : ∃ s', execNoEntryRelease t src s = .next s' ∧ Same 1106776470519436407780 s s' := by
  have hw : 1106776470519436407780 &&& 1106776470519436407780 = 1106776470519436407780 := by decide
  refine ⟨_, rfl, ?_⟩
  repeat' (first
    | (first | with_reducible assumption | with_reducible exact Same.refl)
    | (first | with_reducible exact Same.sub (by decide) hw | dsimp only | with_reducible apply State.at_same)
    | (first | with_reducible apply State.serveIf_same | (intro; intros) | split))

theorem execScanNow_same (t : Time) (src : SdpSrc) (s : State) : ∃ s', execScanNow t src s = .next s' ∧ Same 1106776470519436407780 s s' := by
  have hw : 1106776470519436407780 &&& 1106776470519436407780 = 1106776470519436407780 := by decide
  refine ⟨_, rfl, ?_⟩
  repeat' (first
    | (first | with_reducible assumption | with_reducible exact Same.refl)
    | (first | with_reducible exact Same.sub (by decide) hw | dsimp only | with_reducible apply State.at_same)
    | (first | with_reducible apply State.serveIf_same | (intro; intros) | split))

theorem execProofNow_same (t : Time) (src : SdpSrc) (s : State) : ∃ s', execProofNow t src s = .next s' ∧ Same 1106776470519436407780 s s' := by
  have hw : 1106776470519436407780 &&& 1106776470519436407780 = 1106776470519436407780 := by decide
  refine ⟨_, rfl, ?_⟩
  repeat' (first
    | (first | with_reducible assumption | with_reducible exact Same.refl)
    | (first | with_reducible exact Same.sub (by decide) hw | dsimp only | with_reducible apply State.at_same)
    | (first | with_reducible apply State.serveIf_same | (intro; intros) | split))

theorem execReleaseOverride_same (t : Time) (src : SdpSrc) (s : State) : ∃ s', execReleaseOverride t src s = .next s' ∧ Same 1106776470519436407780 s s' := by
  have hw : 1106776470519436407780 &&& 1106776470519436407780 = 1106776470519436407780 := by decide
  refine ⟨_, rfl, ?_⟩
  repeat' (first
    | (first | with_reducible assumption | with_reducible exact Same.refl)
    | (first | with_reducible exact Same.sub (by decide) hw | dsimp only | with_reducible apply State.at_same)
    | (first | with_reducible apply State.serveIf_same | (intro; intros) | split))

theorem execPitchCommit_same (t : Time) (src : SdpSrc) (s : State) : ∃ s', execPitchCommit t src s = .next s' ∧ Same 1106776470519436407780 s s' := by
  have hw : 1106776470519436407780 &&& 1106776470519436407780 = 1106776470519436407780 := by decide
  refine ⟨_, rfl, ?_⟩
  repeat' (first
    | (first | with_reducible assumption | with_reducible exact Same.refl)
    | (first | with_reducible exact Same.sub (by decide) hw | dsimp only | with_reducible apply State.at_same)
    | (first | with_reducible apply State.serveIf_same | (intro; intros) | split))

theorem execStrike_same (t : Time) (src : SdpSrc) (s : State) : ∃ s', execStrike t src s = .next s' ∧ Same 1106776470519436407780 s s' := by
  have hw : 1106776470519436407780 &&& 1106776470519436407780 = 1106776470519436407780 := by decide
  refine ⟨_, rfl, ?_⟩
  repeat' (first
    | (first | with_reducible assumption | with_reducible exact Same.refl)
    | (first | with_reducible exact Same.sub (by decide) hw | dsimp only | with_reducible apply State.at_same)
    | (first | with_reducible apply State.serveIf_same | (intro; intros) | split))

theorem execSweepRequest_same (t : Time) (src : SdpSrc) (s : State) : ∃ s', execSweepRequest t src s = .next s' ∧ Same 1106776470519436407780 s s' := by
  have hw : 1106776470519436407780 &&& 1106776470519436407780 = 1106776470519436407780 := by decide
  refine ⟨_, rfl, ?_⟩
  repeat' (first
    | (first | with_reducible assumption | with_reducible exact Same.refl)
    | (first | with_reducible exact Same.sub (by decide) hw | dsimp only | with_reducible apply State.at_same)
    | (first | with_reducible apply State.serveIf_same | (intro; intros) | split))

theorem execDirectClear_same (t : Time) (src : SdpSrc) (s : State) : ∃ s', execDirectClear t src s = .next s' ∧ Same 1106776470519436407780 s s' := by
  have hw : 1106776470519436407780 &&& 1106776470519436407780 = 1106776470519436407780 := by decide
  refine ⟨_, rfl, ?_⟩
  repeat' (first
    | (first | with_reducible assumption | with_reducible exact Same.refl)
    | (first | with_reducible exact Same.sub (by decide) hw | dsimp only | with_reducible apply State.at_same)
    | (first | with_reducible apply State.serveIf_same | (intro; intros) | split))

theorem execRereference_same (t : Time) (src : SdpSrc) (s : State) : ∃ s', execRereference t src s = .next s' ∧ Same 1106776470519436407780 s s' := by
  have hw : 1106776470519436407780 &&& 1106776470519436407780 = 1106776470519436407780 := by decide
  refine ⟨_, rfl, ?_⟩
  repeat' (first
    | (first | with_reducible assumption | with_reducible exact Same.refl)
    | (first | with_reducible exact Same.sub (by decide) hw | dsimp only | with_reducible apply State.at_same)
    | (first | with_reducible apply State.serveIf_same | (intro; intros) | split))

theorem execBemfRelease_same (t : Time) (src : SdpSrc) (s : State) : ∃ s', execBemfRelease t src s = .next s' ∧ Same 1106776470519436407780 s s' := by
  have hw : 1106776470519436407780 &&& 1106776470519436407780 = 1106776470519436407780 := by decide
  refine ⟨_, rfl, ?_⟩
  repeat' (first
    | (first | with_reducible assumption | with_reducible exact Same.refl)
    | (first | with_reducible exact Same.sub (by decide) hw | dsimp only | with_reducible apply State.at_same)
    | (first | with_reducible apply State.serveIf_same | (intro; intros) | split))

theorem execKeySlotLoad_same (t : Time) (src : SdpSrc) (s : State) : ∃ s', execKeySlotLoad t src s = .next s' ∧ Same 1106776470519436407780 s s' := by
  have hw : 1106776470519436407780 &&& 1106776470519436407780 = 1106776470519436407780 := by decide
  refine ⟨_, rfl, ?_⟩
  repeat' (first
    | (first | with_reducible assumption | with_reducible exact Same.refl)
    | (first | with_reducible exact Same.sub (by decide) hw | dsimp only | with_reducible apply State.at_same)
    | (first | with_reducible apply State.serveIf_same | (intro; intros) | split))

theorem execValidationTimeout_same (t : Time) (s : State) : ∃ s', execValidationTimeout t s = .next s' ∧ Same 634469367303769686020 s s' := by
  have hw : 634469367303769686020 &&& 634469367303769686020 = 634469367303769686020 := by decide
  refine ⟨_, rfl, ?_⟩
  repeat' (first
    | (first | with_reducible assumption | with_reducible exact Same.refl)
    | (first | with_reducible exact Same.sub (by decide) hw | dsimp only | with_reducible apply State.at_same)
    | (first | with_reducible apply State.answerKept_same | with_reducible apply State.when_same | (intro; intros))
    | (first | split | with_reducible refine Same.upd (m := 288230376151711744) (hw := ?_) (hk := ?_)))

theorem execSessionIdleTimeout_same (t : Time) (sess : Fin 5) (s : State) : ∃ s', execSessionIdleTimeout t sess s = .next s' ∧ Same 590511983140819976196 s s' := by
  have hw : 590511983140819976196 &&& 590511983140819976196 = 590511983140819976196 := by decide
  refine ⟨_, rfl, ?_⟩
  repeat' (first
    | (first | with_reducible assumption | with_reducible exact Same.refl)
    | (first | with_reducible exact Same.sub (by decide) hw | dsimp only | with_reducible apply State.at_same)
    | (first | with_reducible apply State.closeSession_same | with_reducible apply State.when_same)
    | (first | (intro; intros) | split))

theorem execTransferTimeout_same (t : Time) (sess : Fin 5) (s : State) : ∃ s', execTransferTimeout t sess s = .next s' ∧ Same 590367867952744120324 s s' := by
  have hw : 590367867952744120324 &&& 590367867952744120324 = 590367867952744120324 := by decide
  refine ⟨_, rfl, ?_⟩
  repeat' (first
    | (first | with_reducible assumption | with_reducible exact Same.refl)
    | (first | with_reducible exact Same.sub (by decide) hw | dsimp only | with_reducible apply State.at_same)
    | (first | with_reducible apply State.xferGone_same | with_reducible apply State.when_same | (intro; intros))
    | split)

theorem execPendingTimeout_same (t : Time) (sess : Fin 5) (s : State) : ∃ s', execPendingTimeout t sess s = .next s' ∧ Same 590367867952744103940 s s' := by
  have hw : 590367867952744103940 &&& 590367867952744103940 = 590367867952744103940 := by decide
  refine ⟨_, rfl, ?_⟩
  repeat' (first
    | (first | with_reducible assumption | with_reducible exact Same.refl)
    | (first | with_reducible exact Same.sub (by decide) hw | dsimp only | with_reducible apply State.at_same)
    | (first | with_reducible apply State.onSession_same | with_reducible apply State.when_same | (intro; intros))
    | split)

theorem execTxnTimeout_same (t : Time) (s : State) : ∃ s', execTxnTimeout t s = .next s' ∧ Same 590439925546782031876 s s' := by
  have hw : 590439925546782031876 &&& 590439925546782031876 = 590439925546782031876 := by decide
  refine ⟨_, rfl, ?_⟩
  repeat' (first
    | (first | with_reducible assumption | with_reducible exact Same.refl)
    | (first | with_reducible exact Same.sub (by decide) hw | dsimp only | with_reducible apply State.at_same)
    | (first | with_reducible apply State.when_same | (intro; intros) | split)
    | with_reducible refine Same.upd (m := 144115188075855872) (hw := ?_) (hk := ?_))

theorem execRaiseBarExpiry_same (t : Time) (sess : Fin 5) (s : State) : ∃ s', execRaiseBarExpiry t sess s = .next s' ∧ Same 590367867952744103940 s s' := by
  have hw : 590367867952744103940 &&& 590367867952744103940 = 590367867952744103940 := by decide
  refine ⟨_, rfl, ?_⟩
  repeat' (first
    | (first | with_reducible assumption | with_reducible exact Same.refl)
    | (first | with_reducible exact Same.sub (by decide) hw | dsimp only | with_reducible apply State.at_same)
    | (first | with_reducible apply State.onSession_same | with_reducible apply State.when_same | (intro; intros))
    | split)

theorem execConfigWanted_same (t : Time) (s : State) : ∃ s', execConfigWanted t s = .next s' ∧ Same 628342220010732126212 s s' := by
  have hw : 628342220010732126212 &&& 628342220010732126212 = 628342220010732126212 := by decide
  refine ⟨_, rfl, ?_⟩
  repeat' (first
    | (first | with_reducible assumption | with_reducible exact Same.refl)
    | (first | with_reducible exact Same.sub (by decide) hw | dsimp only | with_reducible apply State.at_same)
    | (first | with_reducible apply State.record_same | with_reducible apply State.when_same | (intro; intros))
    | (first | split | with_reducible refine Same.upd (m := 1152921504606846976) (hw := ?_) (hk := ?_)))

theorem execImageCheckDone_same (t : Time) (okA okB : Bool) (version : Word) (s : State) : ∃ s', execImageCheckDone t okA okB version s = .next s' ∧ Same 590295810358706192388 s s' := by
  have hw : 590295810358706192388 &&& 590295810358706192388 = 590295810358706192388 := by decide
  refine ⟨_, rfl, ?_⟩
  repeat' (first
    | (first | with_reducible assumption | with_reducible exact Same.refl)
    | (first | with_reducible exact Same.sub (by decide) hw | dsimp only | with_reducible apply Same.ite)
    | (first | with_reducible apply State.at_same | with_reducible apply State.when_same | (intro; intros) | split)
    | with_reducible refine Same.upd (m := 16384) (hw := ?_) (hk := ?_))

theorem execDegradedRunEntry_same (t : Time) (s : State) : ∃ s', execDegradedRunEntry t s = .next s' ∧ Same 1106344151343486739428 s s' := by
  have hw : 1106344151343486739428 &&& 1106344151343486739428 = 1106344151343486739428 := by decide
  refine ⟨_, rfl, ?_⟩
  have h : Same 1106344151343486739428 s (s.at t) := State.at_same t (Same.sub (by decide) hw) Same.refl
  dsimp only
  split
  · refine State.when_same h fun u hu => ?_
    refine State.when_same (State.enterDegraded_same _ (Same.sub (by decide) hw) hu) fun v hv => ?_
    have hj := Same.replies (o := none) (Same.sub (by decide) hw) (State.journalDone_same (Same.sub (by decide) hw) hv)
    split
    · exact State.answerKept_same _ _ _ (Same.sub (by decide) hw) hj
    · exact hj
  · exact h

theorem execTractionStage_same (t : Time) (n : Fin 4) (dclink : Bool) (wn : Word) (s : State) : ∃ s', execTractionStage t n dclink wn s = .next s' ∧ Same 590296091833682886660 s s' := by
  have hw : 590296091833682886660 &&& 590296091833682886660 = 590296091833682886660 := by decide
  refine ⟨_, rfl, ?_⟩
  repeat' (first
    | (first | with_reducible assumption | with_reducible exact Same.refl)
    | (first | with_reducible exact Same.sub (by decide) hw | dsimp only | with_reducible apply State.at_same)
    | (first | with_reducible apply State.onTraction_same | (intro; intros) | split))

theorem execTractionCommit_same (t : Time) (n : Fin 4) (wn : Word) (s : State) : ∃ s', execTractionCommit t n wn s = .next s' ∧ Same 645636324054811541508 s s' := by
  have hw : 645636324054811541508 &&& 645636324054811541508 = 645636324054811541508 := by decide
  refine ⟨_, rfl, ?_⟩
  repeat' (first
    | (first | with_reducible assumption | with_reducible exact Same.refl)
    | (first | with_reducible exact Same.sub (by decide) hw | dsimp only | with_reducible apply State.at_same)
    | (first | with_reducible apply State.tractionCommit_same | (intro; intros) | split))

theorem execTractionStale_same (t : Time) (n : Fin 4) (s : State) : ∃ s', execTractionStale t n s = .next s' ∧ Same 627189579981103038468 s s' := by
  have hw : 627189579981103038468 &&& 627189579981103038468 = 627189579981103038468 := by decide
  refine ⟨_, rfl, ?_⟩
  repeat' (first
    | (first | with_reducible assumption | with_reducible exact Same.refl)
    | (first | with_reducible exact Same.sub (by decide) hw | dsimp only | with_reducible apply State.at_same)
    | (first | with_reducible apply State.tractionAged_same | with_reducible apply State.when_same)
    | (first | (intro; intros) | split))

theorem execSkTimeRead_same (t : Time) (s : State) : ∃ s', execSkTimeRead t s = .next s' ∧ Same 590296936258613018628 s s' := by
  have hw : 590296936258613018628 &&& 590296936258613018628 = 590296936258613018628 := by decide
  refine ⟨_, rfl, ?_⟩
  repeat' (first
    | (first | with_reducible assumption | with_reducible exact Same.refl)
    | (first | with_reducible exact Same.sub (by decide) hw | dsimp only | with_reducible apply State.at_same)
    | (first | (intro; intros) | split)
    | with_reducible refine Same.upd (m := 1125899906842624) (hw := ?_) (hk := ?_))

theorem execMailboxSend_same (t : Time) (s : State) : ∃ s', execMailboxSend t s = .next s' ∧ Same 608744806232229412868 s s' := by
  have hw : 608744806232229412868 &&& 608744806232229412868 = 608744806232229412868 := by decide
  refine ⟨_, rfl, ?_⟩
  repeat' (first
    | (first | with_reducible assumption | with_reducible exact Same.refl)
    | (first | with_reducible exact Same.sub (by decide) hw | dsimp only | with_reducible apply State.at_same)
    | (first | with_reducible apply State.mailboxSend_same | (intro; intros) | split))

theorem execMailboxCancel_same (t : Time) (s : State) : ∃ s', execMailboxCancel t s = .next s' ∧ Same 591811271633316347908 s s' := by
  have hw : 591811271633316347908 &&& 591811271633316347908 = 591811271633316347908 := by decide
  refine ⟨_, rfl, ?_⟩
  repeat' (first
    | (first | with_reducible assumption | with_reducible exact Same.refl)
    | (first | with_reducible exact Same.sub (by decide) hw | dsimp only | with_reducible apply State.at_same)
    | (first | with_reducible apply State.mailboxCancel_same | (intro; intros) | split))

theorem execMailboxResponse_same (t : Time) (s : State) : ∃ s', execMailboxResponse t s = .next s' ∧ Same 590298062158519861252 s s' := by
  have hw : 590298062158519861252 &&& 590298062158519861252 = 590298062158519861252 := by decide
  refine ⟨_, rfl, ?_⟩
  repeat' (first
    | (first | with_reducible assumption | with_reducible exact Same.refl)
    | (first | with_reducible exact Same.sub (by decide) hw | dsimp only | with_reducible apply State.at_same)
    | (first | with_reducible apply State.onMailbox_same | with_reducible apply State.when_same | (intro; intros))
    | split)

theorem execRegisterWrite_same (t : Time) (off : BitVec 16) (size : Nat) (wn : Word) (s : State) : ∃ s', execRegisterWrite t off size wn s = .next s' ∧ Same 647183314924859817988 s s' := by
  have hw : 647183314924859817988 &&& 647183314924859817988 = 647183314924859817988 := by decide
  refine ⟨_, rfl, ?_⟩
  repeat' (first
    | (first | with_reducible assumption | with_reducible exact Same.refl)
    | (first | with_reducible exact Same.sub (by decide) hw | dsimp only | with_reducible apply Same.ite)
    | (first | with_reducible apply State.at_same | with_reducible apply State.writeWindow_same | (intro; intros))
    | split)

theorem execFrameReceive_same (t : Time) (port : Fin 4) (f : Frame) (s : State) : ∃ s', execFrameReceive t port f s = .next s' ∧ Same 634106827533766361092 s s' := by
  have hw : 634106827533766361092 &&& 634106827533766361092 = 634106827533766361092 := by decide
  refine ⟨_, rfl, ?_⟩
  repeat' (first
    | (first | with_reducible assumption | with_reducible exact Same.refl)
    | (first | with_reducible exact Same.sub (by decide) hw | dsimp only | with_reducible apply Same.ite)
    | (first | with_reducible apply State.at_same | with_reducible apply State.spoilCut_same)
    | (first | with_reducible apply State.learn_same | with_reducible apply State.lanCheck_same)
    | (first | with_reducible apply State.routeFrame_same | with_reducible apply State.when_same | (intro; intros))
    | split)

theorem execCutThroughStart_same (t : Time) (port : Fin 4) (f : Frame) (s : State) : ∃ s', execCutThroughStart t port f s = .next s' ∧ Same 592601653367919869956 s s' := by
  have hw : 592601653367919869956 &&& 592601653367919869956 = 592601653367919869956 := by decide
  refine ⟨_, rfl, ?_⟩
  repeat' (first
    | (first | with_reducible assumption | with_reducible exact Same.refl)
    | (first | with_reducible exact Same.sub (by decide) hw | dsimp only | with_reducible apply State.at_same)
    | (first | with_reducible apply State.onPort_same | with_reducible apply State.when_same | (intro; intros))
    | split)

theorem execSleepExecute_same (t : Time) (s : State) : ∃ s', execSleepExecute t s = .next s' ∧ Same 647991502570371418180 s s' := by
  have hw : 647991502570371418180 &&& 647991502570371418180 = 647991502570371418180 := by decide
  refine ⟨_, rfl, ?_⟩
  repeat' (first
    | (first | with_reducible assumption | with_reducible exact Same.refl)
    | (first | with_reducible exact Same.sub (by decide) hw | dsimp only | with_reducible apply Same.ite)
    | (first | with_reducible apply State.at_same | with_reducible apply State.enterPower_same)
    | (first | with_reducible apply State.sleepAborted_same | with_reducible apply State.when_same)
    | (first | (intro; intros) | split)
    | with_reducible refine Same.upd (m := 18446744073709551616) (hw := ?_) (hk := ?_))

theorem execWakeTimer_same (t : Time) (s : State) : ∃ s', execWakeTimer t s = .next s' ∧ Same 608742554432415727620 s s' := by
  have hw : 608742554432415727620 &&& 608742554432415727620 = 608742554432415727620 := by decide
  refine ⟨_, rfl, ?_⟩
  repeat' (first
    | (first | with_reducible assumption | with_reducible exact Same.refl)
    | (first | with_reducible exact Same.sub (by decide) hw | dsimp only | with_reducible apply State.at_same)
    | (first | with_reducible apply State.wakeEvent_same | with_reducible apply State.when_same | (intro; intros))
    | split)

theorem execWakeComplete_same (t : Time) (rep : WakeReport) (s : State) : ∃ s', execWakeComplete t rep s = .next s' ∧ Same 1091831301462430327236 s s' := by
  have hw : 1091831301462430327236 &&& 1091831301462430327236 = 1091831301462430327236 := by decide
  refine ⟨_, rfl, ?_⟩
  repeat' (first
    | (first | with_reducible assumption | with_reducible exact Same.refl)
    | (first | with_reducible exact Same.sub (by decide) hw | dsimp only | with_reducible apply State.at_same)
    | (first | with_reducible apply State.wakeEnds_same | with_reducible apply State.when_same | (intro; intros))
    | split)

theorem execPowerGood_same (t : Time) (s : State) : ∃ s', execPowerGood t s = .next s' ∧ Same 590295810358706176022 s s' := by
  have hw : 590295810358706176022 &&& 590295810358706176022 = 590295810358706176022 := by decide
  refine ⟨_, rfl, ?_⟩
  repeat' (first
    | (first | with_reducible assumption | with_reducible exact Same.refl)
    | (first | with_reducible exact Same.sub (by decide) hw | dsimp only | with_reducible apply State.at_same)
    | (first | with_reducible apply State.when_same | (intro; intros) | split)
    | with_reducible refine Same.upd (m := 18) (hw := ?_) (hk := ?_))

theorem execResetRelease_same (t : Time) (slotA slotB : BitVec 12) (s : State) : ∃ s', execResetRelease t slotA slotB s = .next s' ∧ Same 885443715538057117718 s s' := by
  have hw : 885443715538057117718 &&& 885443715538057117718 = 885443715538057117718 := by decide
  refine ⟨_, rfl, ?_⟩
  repeat' (first
    | (first | with_reducible assumption | with_reducible exact Same.refl)
    | (first | with_reducible exact Same.sub (by decide) hw | dsimp only | with_reducible apply State.at_same)
    | (first | with_reducible apply State.release_same | with_reducible apply State.when_same | (intro; intros))
    | (first | split | with_reducible refine Same.upd (m := 16) (hw := ?_) (hk := ?_)))

theorem execSupervisorsInService_same (t : Time) (rep : BootReport) (s : State) : ∃ s', execSupervisorsInService t rep s = .next s' ∧ Same 1180591620717410208150 s s' := by
  have hw : 1180591620717410208150 &&& 1180591620717410208150 = 1180591620717410208150 := by decide
  refine ⟨_, rfl, ?_⟩
  repeat' (first
    | (first | with_reducible assumption | with_reducible exact Same.refl)
    | (first | with_reducible exact Same.sub (by decide) hw | dsimp only | with_reducible apply Same.ite)
    | (first | with_reducible apply State.at_same | with_reducible apply State.revert_same)
    | (first | with_reducible apply State.intoService_same | with_reducible apply State.when_same)
    | (first | (intro; intros) | split | with_reducible refine Same.upd (m := 16384) (hw := ?_) (hk := ?_)))

theorem execTrialStartFailure_same (t : Time) (s : State) : ∃ s', execTrialStartFailure t s = .next s' ∧ Same 885443715538057117718 s s' := by
  have hw : 885443715538057117718 &&& 885443715538057117718 = 885443715538057117718 := by decide
  refine ⟨_, rfl, ?_⟩
  repeat' (first
    | (first | with_reducible assumption | with_reducible exact Same.refl)
    | (first | with_reducible exact Same.sub (by decide) hw | dsimp only | with_reducible apply State.at_same)
    | (first | with_reducible apply State.revert_same | with_reducible apply State.when_same | (intro; intros))
    | split)

theorem execFeedDisconnect_same (t : Time) (feed : Fin 2) (s : State) : ∃ s', execFeedDisconnect t feed s = .next s' ∧ Same 627189298506142056468 s s' := by
  have hw : 627189298506142056468 &&& 627189298506142056468 = 627189298506142056468 := by decide
  refine ⟨_, rfl, ?_⟩
  repeat' (first
    | (first | with_reducible assumption | with_reducible exact Same.refl)
    | (first | with_reducible exact Same.sub (by decide) hw | dsimp only | with_reducible apply State.at_same)
    | (first | with_reducible apply State.feedSet_same | with_reducible apply State.feedEvent_same)
    | (first | with_reducible apply State.feedsLost_same | with_reducible apply State.when_same | (intro; intros))
    | split)

theorem execFeedReconnect_same (t : Time) (feed : Fin 2) (s : State) : ∃ s', execFeedReconnect t feed s = .next s' ∧ Same 627189298506142056468 s s' := by
  have hw : 627189298506142056468 &&& 627189298506142056468 = 627189298506142056468 := by decide
  refine ⟨_, rfl, ?_⟩
  repeat' (first
    | (first | with_reducible assumption | with_reducible exact Same.refl)
    | (first | with_reducible exact Same.sub (by decide) hw | dsimp only | with_reducible apply State.at_same)
    | (first | with_reducible apply State.feedSet_same | with_reducible apply State.feedEvent_same)
    | (first | with_reducible apply State.when_same | (intro; intros) | split))

theorem execFeedOutOfRangeWarning_same (t : Time) (feed : Fin 2) (s : State) : ∃ s', execFeedOutOfRangeWarning t feed s = .next s' ∧ Same 627189298506142056452 s s' := by
  have hw : 627189298506142056452 &&& 627189298506142056452 = 627189298506142056452 := by decide
  refine ⟨_, rfl, ?_⟩
  repeat' (first
    | (first | with_reducible assumption | with_reducible exact Same.refl)
    | (first | with_reducible exact Same.sub (by decide) hw | dsimp only | with_reducible apply State.at_same)
    | (first | with_reducible apply State.feedEvent_same | with_reducible apply State.when_same | (intro; intros))
    | split)

theorem execIsolationRequest_same (t : Time) (h : Fin 8) (durUs patterns : Nat) (s : State) : ∃ s', execIsolationRequest t h durUs patterns s = .next s' ∧ Same 793214498769172168708 s s' := by
  have hw : 793214498769172168708 &&& 793214498769172168708 = 793214498769172168708 := by decide
  refine ⟨_, rfl, ?_⟩
  repeat' (first
    | (first | with_reducible assumption | with_reducible exact Same.refl)
    | (first | with_reducible exact Same.sub (by decide) hw | dsimp only | with_reducible apply State.at_same)
    | (first | with_reducible apply State.isoRequest_same | with_reducible apply State.when_same | (intro; intros))
    | split)

theorem execIsolationReady_same (t : Time) (s : State) : ∃ s', execIsolationReady t s = .next s' ∧ Same 737869762948659412996 s s' := by
  have hw : 737869762948659412996 &&& 737869762948659412996 = 737869762948659412996 := by decide
  refine ⟨_, rfl, ?_⟩
  repeat' (first
    | (first | with_reducible assumption | with_reducible exact Same.refl)
    | (first | with_reducible exact Same.sub (by decide) hw | dsimp only | with_reducible apply State.at_same)
    | (first | with_reducible apply State.chanGiven_same | with_reducible apply State.amonRefresh_same)
    | (first | with_reducible apply State.when_same | (intro; intros) | split)
    | with_reducible refine Same.upd (m := 147573952589676412928) (hw := ?_) (hk := ?_))

theorem execTestDone_same (t : Time) (patterns : Nat) (good : Bool) (s : State) : ∃ s', execTestDone t patterns good s = .next s' ∧ Same 774767754695429062660 s s' := by
  have hw : 774767754695429062660 &&& 774767754695429062660 = 774767754695429062660 := by decide
  refine ⟨_, rfl, ?_⟩
  repeat' (first
    | (first | with_reducible assumption | with_reducible exact Same.refl)
    | (first | with_reducible exact Same.sub (by decide) hw | dsimp only | with_reducible apply Same.ite)
    | (first | with_reducible apply State.at_same | with_reducible apply State.abortUndone_same)
    | (first | with_reducible apply State.isoResult_same | with_reducible apply State.when_same | (intro; intros))
    | (first | split | with_reducible refine Same.upd (m := 147573952589676412928) (hw := ?_) (hk := ?_)))

theorem execTestDoneTimeout_same (t : Time) (s : State) : ∃ s', execTestDoneTimeout t s = .next s' ∧ Same 1069915659874781888516 s s' := by
  have hw : 1069915659874781888516 &&& 1069915659874781888516 = 1069915659874781888516 := by decide
  refine ⟨_, rfl, ?_⟩
  repeat' (first
    | (first | with_reducible assumption | with_reducible exact Same.refl)
    | (first | with_reducible exact Same.sub (by decide) hw | dsimp only | with_reducible apply State.at_same)
    | (first | with_reducible apply State.isoAbort_same | with_reducible apply State.when_same | (intro; intros))
    | split)

theorem execIsolationReturnDone_same (t : Time) (s : State) : ∃ s', execIsolationReturnDone t s = .next s' ∧ Same 1069915697639095533764 s s' := by
  have hw : 1069915697639095533764 &&& 1069915697639095533764 = 1069915697639095533764 := by decide
  refine ⟨_, rfl, ?_⟩
  repeat' (first
    | (first | with_reducible assumption | with_reducible exact Same.refl)
    | (first | with_reducible exact Same.sub (by decide) hw | dsimp only | with_reducible apply State.at_same)
    | (first | with_reducible apply State.isoReturn_same | with_reducible apply State.when_same | (intro; intros))
    | split)

theorem execMemoryScrub_same (t : Time) (v : Fin 2) (rep : ScrubResult) (s : State) : ∃ s', execMemoryScrub t v rep s = .next s' ∧ Same 1089516451215567233412 s s' := by
  have hw : 1089516451215567233412 &&& 1089516451215567233412 = 1089516451215567233412 := by decide
  refine ⟨_, rfl, ?_⟩
  repeat' (first
    | (first | with_reducible assumption | with_reducible exact Same.refl)
    | (first | with_reducible exact Same.sub (by decide) hw | dsimp only | with_reducible apply State.at_same)
    | (first | with_reducible apply State.svFail_same | with_reducible apply State.when_same | (intro; intros))
    | (first | split | with_reducible refine Same.upd (m := 1048576) (hw := ?_) (hk := ?_)))

theorem execComparatorTest_same (t : Time) (v : Fin 2) (ok : Bool) (s : State) : ∃ s', execComparatorTest t v ok s = .next s' ∧ Same 1089516451215567233412 s s' := by
  have hw : 1089516451215567233412 &&& 1089516451215567233412 = 1089516451215567233412 := by decide
  refine ⟨_, rfl, ?_⟩
  repeat' (first
    | (first | with_reducible assumption | with_reducible exact Same.refl)
    | (first | with_reducible exact Same.sub (by decide) hw | dsimp only | with_reducible apply State.at_same)
    | (first | with_reducible apply State.svFail_same | with_reducible apply State.when_same | (intro; intros))
    | split)

theorem execTumblerTest_same (t : Time) (ok : Bool) (s : State) : ∃ s', execTumblerTest t ok s = .next s' ∧ Same 627189316373189230596 s s' := by
  have hw : 627189316373189230596 &&& 627189316373189230596 = 627189316373189230596 := by decide
  refine ⟨_, rfl, ?_⟩
  repeat' (first
    | (first | with_reducible assumption | with_reducible exact Same.refl)
    | (first | with_reducible exact Same.sub (by decide) hw | dsimp only | with_reducible apply Same.ite)
    | (first | with_reducible apply State.at_same | with_reducible apply State.tumblerFails_same)
    | (first | with_reducible apply State.when_same | (intro; intros) | split)
    | with_reducible refine Same.upd (m := 17592186044416) (hw := ?_) (hk := ?_))

theorem execDeadboltPathTest_same (t : Time) (n : Fin 4) (ok : Bool) (s : State) : ∃ s', execDeadboltPathTest t n ok s = .next s' ∧ Same 627189305103195045892 s s' := by
  have hw : 627189305103195045892 &&& 627189305103195045892 = 627189305103195045892 := by decide
  refine ⟨_, rfl, ?_⟩
  repeat' (first
    | (first | with_reducible assumption | with_reducible exact Same.refl)
    | (first | with_reducible exact Same.sub (by decide) hw | dsimp only | with_reducible apply State.at_same)
    | (first | with_reducible apply State.pathTested_same | with_reducible apply State.requalify_same)
    | (first | with_reducible apply State.when_same | (intro; intros) | split))

theorem execAuthKnownAnswer_same (t : Time) (ok : Bool) (s : State) : ∃ s', execAuthKnownAnswer t ok s = .next s' ∧ Same 774763251095801692164 s s' := by
  have hw : 774763251095801692164 &&& 774763251095801692164 = 774763251095801692164 := by decide
  refine ⟨_, rfl, ?_⟩
  repeat' (first
    | (first | with_reducible assumption | with_reducible exact Same.refl)
    | (first | with_reducible exact Same.sub (by decide) hw | dsimp only | with_reducible apply State.at_same)
    | (first | with_reducible apply State.record_same | with_reducible apply State.when_same | (intro; intros))
    | (first | split | with_reducible refine Same.upd (m := 147573952589676412928) (hw := ?_) (hk := ?_)))

theorem execMramRefresh_same (t : Time) (mem : RefreshMem) (row : Nat) (ok : Bool) (s : State) : ∃ s', execMramRefresh t mem row ok s = .next s' ∧ Same 1004194630924881494020 s s' := by
  have hw : 1004194630924881494020 &&& 1004194630924881494020 = 1004194630924881494020 := by decide
  refine ⟨_, rfl, ?_⟩
  repeat' (first
    | (first | with_reducible assumption | with_reducible exact Same.refl)
    | (first | with_reducible exact Same.sub (by decide) hw | dsimp only | with_reducible apply State.at_same)
    | (first | with_reducible apply State.refreshFails_same | with_reducible apply State.when_same)
    | (first | (intro; intros) | split))

theorem execDeFailure_same (t : Time) (d : Fin 2) (s : State) : ∃ s', execDeFailure t d s = .next s' ∧ Same 923706297972198752260 s s' := by
  have hw : 923706297972198752260 &&& 923706297972198752260 = 923706297972198752260 := by decide
  refine ⟨_, rfl, ?_⟩
  repeat' (first
    | (first | with_reducible assumption | with_reducible exact Same.refl)
    | (first | with_reducible exact Same.sub (by decide) hw | dsimp only | with_reducible apply State.at_same)
    | (first | with_reducible apply State.deFails_same | with_reducible apply State.when_same | (intro; intros))
    | split)

theorem execCrystalLoss_same (t : Time) (s : State) : ∃ s', execCrystalLoss t s = .next s' ∧ Same 645636042579834830852 s s' := by
  have hw : 645636042579834830852 &&& 645636042579834830852 = 645636042579834830852 := by decide
  refine ⟨_, rfl, ?_⟩
  repeat' (first
    | (first | with_reducible assumption | with_reducible exact Same.refl)
    | (first | with_reducible exact Same.sub (by decide) hw | dsimp only | with_reducible apply State.at_same)
    | (first | with_reducible apply State.record_same | with_reducible apply State.when_same | (intro; intros))
    | (first | split | with_reducible refine Same.upd (m := 18446744073709551616) (hw := ?_) (hk := ?_)))

theorem execRcLoss_same (t : Time) (s : State) : ∃ s', execRcLoss t s = .next s' ∧ Same 645636042579834830852 s s' := by
  have hw : 645636042579834830852 &&& 645636042579834830852 = 645636042579834830852 := by decide
  refine ⟨_, rfl, ?_⟩
  repeat' (first
    | (first | with_reducible assumption | with_reducible exact Same.refl)
    | (first | with_reducible exact Same.sub (by decide) hw | dsimp only | with_reducible apply State.at_same)
    | (first | with_reducible apply State.record_same | with_reducible apply State.when_same | (intro; intros))
    | (first | split | with_reducible refine Same.upd (m := 18446744073709551616) (hw := ?_) (hk := ?_)))

theorem execStoreEccError_same (t : Time) (key : Nat) (s : State) : ∃ s', execStoreEccError t key s = .next s' ∧ Same 628342220010732126212 s s' := by
  have hw : 628342220010732126212 &&& 628342220010732126212 = 628342220010732126212 := by decide
  refine ⟨_, rfl, ?_⟩
  repeat' (first
    | (first | with_reducible assumption | with_reducible exact Same.refl)
    | (first | with_reducible exact Same.sub (by decide) hw | dsimp only | with_reducible apply State.at_same)
    | (first | with_reducible apply State.badEntry_same | with_reducible apply State.when_same | (intro; intros))
    | split)

theorem execDieOvertemp_same (t : Time) (s : State) : ∃ s', execDieOvertemp t s = .next s' ∧ Same 627189298506125279236 s s' := by
  have hw : 627189298506125279236 &&& 627189298506125279236 = 627189298506125279236 := by decide
  refine ⟨_, rfl, ?_⟩
  repeat' (first
    | (first | with_reducible assumption | with_reducible exact Same.refl)
    | (first | with_reducible exact Same.sub (by decide) hw | dsimp only | with_reducible apply State.at_same)
    | (first | with_reducible apply State.record_same | with_reducible apply State.when_same | (intro; intros))
    | split)

end Sys2Proof.Machine
end

