-- ==== Sys2Proof/Laws/State.lean ====
section
/-! SUPPORT. The shared updates of the state, field by field: what each changes and that it leaves every other field as it
was, so that no later proof unfolds a record update. -/

namespace Sys2Proof.Machine

set_option Elab.async false
set_option linter.unusedTactic false
set_option linter.unreachableTactic false
set_option linter.unusedSimpArgs false

variable (s : State)

/-! ### One member of an array set: it, and the others -/

@[simp] theorem updV_self {α : Type} {n : Nat} (v : Vector α n) (i : Fin n) (f : α → α) : (updV v i f)[i] = f v[i] := by
  simp [updV]

theorem updV_other {α : Type} {n : Nat} (v : Vector α n) {i j : Fin n} (f : α → α) (h : j ≠ i) : (updV v i f)[j] = v[j] := by
  have hij : (i : Nat) ≠ j := fun e => h (Fin.ext e.symm)
  simp [updV, Vector.getElem_set, hij]

/-! ### onChan -/

@[simp] theorem onChan_fe (c : Fin 16) (f : Chan → Chan) : (s.onChan c f).fe =
    { s.fe with chans := updV s.fe.chans c f } := rfl
@[simp] theorem onChan_pending (c : Fin 16) (f : Chan → Chan) : (s.onChan c f).pending = s.pending := rfl
@[simp] theorem onChan_phase (c : Fin 16) (f : Chan → Chan) : (s.onChan c f).phase = s.phase := rfl
@[simp] theorem onChan_clk (c : Fin 16) (f : Chan → Chan) : (s.onChan c f).clk = s.clk := rfl
@[simp] theorem onChan_part (c : Fin 16) (f : Chan → Chan) : (s.onChan c f).part = s.part := rfl
@[simp] theorem onChan_pins (c : Fin 16) (f : Chan → Chan) : (s.onChan c f).pins = s.pins := rfl
@[simp] theorem onChan_nv (c : Fin 16) (f : Chan → Chan) : (s.onChan c f).nv = s.nv := rfl
@[simp] theorem onChan_eng (c : Fin 16) (f : Chan → Chan) : (s.onChan c f).eng = s.eng := rfl
@[simp] theorem onChan_pas (c : Fin 16) (f : Chan → Chan) : (s.onChan c f).pas = s.pas := rfl
@[simp] theorem onChan_led (c : Fin 16) (f : Chan → Chan) : (s.onChan c f).led = s.led := rfl
@[simp] theorem onChan_sv (c : Fin 16) (f : Chan → Chan) : (s.onChan c f).sv = s.sv := rfl
@[simp] theorem onChan_keep (c : Fin 16) (f : Chan → Chan) : (s.onChan c f).keep = s.keep := rfl
@[simp] theorem onChan_trac (c : Fin 16) (f : Chan → Chan) : (s.onChan c f).trac = s.trac := rfl
@[simp] theorem onChan_kin (c : Fin 16) (f : Chan → Chan) : (s.onChan c f).kin = s.kin := rfl
@[simp] theorem onChan_host (c : Fin 16) (f : Chan → Chan) : (s.onChan c f).host = s.host := rfl
@[simp] theorem onChan_hec (c : Fin 16) (f : Chan → Chan) : (s.onChan c f).hec = s.hec := rfl
@[simp] theorem onChan_cvu (c : Fin 16) (f : Chan → Chan) : (s.onChan c f).cvu = s.cvu := rfl
@[simp] theorem onChan_hasp (c : Fin 16) (f : Chan → Chan) : (s.onChan c f).hasp = s.hasp := rfl
@[simp] theorem onChan_sdp (c : Fin 16) (f : Chan → Chan) : (s.onChan c f).sdp = s.sdp := rfl
@[simp] theorem onChan_net (c : Fin 16) (f : Chan → Chan) : (s.onChan c f).net = s.net := rfl
@[simp] theorem onChan_tb (c : Fin 16) (f : Chan → Chan) : (s.onChan c f).tb = s.tb := rfl
@[simp] theorem onChan_pwr (c : Fin 16) (f : Chan → Chan) : (s.onChan c f).pwr = s.pwr := rfl
@[simp] theorem onChan_intake (c : Fin 16) (f : Chan → Chan) : (s.onChan c f).intake = s.intake := rfl
@[simp] theorem onChan_test (c : Fin 16) (f : Chan → Chan) : (s.onChan c f).test = s.test := rfl
@[simp] theorem onChan_past (c : Fin 16) (f : Chan → Chan) : (s.onChan c f).past = s.past := rfl
@[simp] theorem onChan_freeCount (c : Fin 16) (f : Chan → Chan) : (s.onChan c f).freeCount = s.freeCount := rfl

/-! ### onWarn -/

@[simp] theorem onWarn_fe (c : Fin 16) (f : Warn → Warn) : (s.onWarn c f).fe =
    { s.fe with warns := updV s.fe.warns c f } := rfl
@[simp] theorem onWarn_pending (c : Fin 16) (f : Warn → Warn) : (s.onWarn c f).pending = s.pending := rfl
@[simp] theorem onWarn_phase (c : Fin 16) (f : Warn → Warn) : (s.onWarn c f).phase = s.phase := rfl
@[simp] theorem onWarn_clk (c : Fin 16) (f : Warn → Warn) : (s.onWarn c f).clk = s.clk := rfl
@[simp] theorem onWarn_part (c : Fin 16) (f : Warn → Warn) : (s.onWarn c f).part = s.part := rfl
@[simp] theorem onWarn_pins (c : Fin 16) (f : Warn → Warn) : (s.onWarn c f).pins = s.pins := rfl
@[simp] theorem onWarn_nv (c : Fin 16) (f : Warn → Warn) : (s.onWarn c f).nv = s.nv := rfl
@[simp] theorem onWarn_eng (c : Fin 16) (f : Warn → Warn) : (s.onWarn c f).eng = s.eng := rfl
@[simp] theorem onWarn_pas (c : Fin 16) (f : Warn → Warn) : (s.onWarn c f).pas = s.pas := rfl
@[simp] theorem onWarn_led (c : Fin 16) (f : Warn → Warn) : (s.onWarn c f).led = s.led := rfl
@[simp] theorem onWarn_sv (c : Fin 16) (f : Warn → Warn) : (s.onWarn c f).sv = s.sv := rfl
@[simp] theorem onWarn_keep (c : Fin 16) (f : Warn → Warn) : (s.onWarn c f).keep = s.keep := rfl
@[simp] theorem onWarn_trac (c : Fin 16) (f : Warn → Warn) : (s.onWarn c f).trac = s.trac := rfl
@[simp] theorem onWarn_kin (c : Fin 16) (f : Warn → Warn) : (s.onWarn c f).kin = s.kin := rfl
@[simp] theorem onWarn_host (c : Fin 16) (f : Warn → Warn) : (s.onWarn c f).host = s.host := rfl
@[simp] theorem onWarn_hec (c : Fin 16) (f : Warn → Warn) : (s.onWarn c f).hec = s.hec := rfl
@[simp] theorem onWarn_cvu (c : Fin 16) (f : Warn → Warn) : (s.onWarn c f).cvu = s.cvu := rfl
@[simp] theorem onWarn_hasp (c : Fin 16) (f : Warn → Warn) : (s.onWarn c f).hasp = s.hasp := rfl
@[simp] theorem onWarn_sdp (c : Fin 16) (f : Warn → Warn) : (s.onWarn c f).sdp = s.sdp := rfl
@[simp] theorem onWarn_net (c : Fin 16) (f : Warn → Warn) : (s.onWarn c f).net = s.net := rfl
@[simp] theorem onWarn_tb (c : Fin 16) (f : Warn → Warn) : (s.onWarn c f).tb = s.tb := rfl
@[simp] theorem onWarn_pwr (c : Fin 16) (f : Warn → Warn) : (s.onWarn c f).pwr = s.pwr := rfl
@[simp] theorem onWarn_intake (c : Fin 16) (f : Warn → Warn) : (s.onWarn c f).intake = s.intake := rfl
@[simp] theorem onWarn_test (c : Fin 16) (f : Warn → Warn) : (s.onWarn c f).test = s.test := rfl
@[simp] theorem onWarn_past (c : Fin 16) (f : Warn → Warn) : (s.onWarn c f).past = s.past := rfl
@[simp] theorem onWarn_freeCount (c : Fin 16) (f : Warn → Warn) : (s.onWarn c f).freeCount = s.freeCount := rfl

/-! ### onScan -/

@[simp] theorem onScan_fe (c : Fin 16) (f : Scan → Scan) : (s.onScan c f).fe =
    { s.fe with scans := updV s.fe.scans c f } := rfl
@[simp] theorem onScan_pending (c : Fin 16) (f : Scan → Scan) : (s.onScan c f).pending = s.pending := rfl
@[simp] theorem onScan_phase (c : Fin 16) (f : Scan → Scan) : (s.onScan c f).phase = s.phase := rfl
@[simp] theorem onScan_clk (c : Fin 16) (f : Scan → Scan) : (s.onScan c f).clk = s.clk := rfl
@[simp] theorem onScan_part (c : Fin 16) (f : Scan → Scan) : (s.onScan c f).part = s.part := rfl
@[simp] theorem onScan_pins (c : Fin 16) (f : Scan → Scan) : (s.onScan c f).pins = s.pins := rfl
@[simp] theorem onScan_nv (c : Fin 16) (f : Scan → Scan) : (s.onScan c f).nv = s.nv := rfl
@[simp] theorem onScan_eng (c : Fin 16) (f : Scan → Scan) : (s.onScan c f).eng = s.eng := rfl
@[simp] theorem onScan_pas (c : Fin 16) (f : Scan → Scan) : (s.onScan c f).pas = s.pas := rfl
@[simp] theorem onScan_led (c : Fin 16) (f : Scan → Scan) : (s.onScan c f).led = s.led := rfl
@[simp] theorem onScan_sv (c : Fin 16) (f : Scan → Scan) : (s.onScan c f).sv = s.sv := rfl
@[simp] theorem onScan_keep (c : Fin 16) (f : Scan → Scan) : (s.onScan c f).keep = s.keep := rfl
@[simp] theorem onScan_trac (c : Fin 16) (f : Scan → Scan) : (s.onScan c f).trac = s.trac := rfl
@[simp] theorem onScan_kin (c : Fin 16) (f : Scan → Scan) : (s.onScan c f).kin = s.kin := rfl
@[simp] theorem onScan_host (c : Fin 16) (f : Scan → Scan) : (s.onScan c f).host = s.host := rfl
@[simp] theorem onScan_hec (c : Fin 16) (f : Scan → Scan) : (s.onScan c f).hec = s.hec := rfl
@[simp] theorem onScan_cvu (c : Fin 16) (f : Scan → Scan) : (s.onScan c f).cvu = s.cvu := rfl
@[simp] theorem onScan_hasp (c : Fin 16) (f : Scan → Scan) : (s.onScan c f).hasp = s.hasp := rfl
@[simp] theorem onScan_sdp (c : Fin 16) (f : Scan → Scan) : (s.onScan c f).sdp = s.sdp := rfl
@[simp] theorem onScan_net (c : Fin 16) (f : Scan → Scan) : (s.onScan c f).net = s.net := rfl
@[simp] theorem onScan_tb (c : Fin 16) (f : Scan → Scan) : (s.onScan c f).tb = s.tb := rfl
@[simp] theorem onScan_pwr (c : Fin 16) (f : Scan → Scan) : (s.onScan c f).pwr = s.pwr := rfl
@[simp] theorem onScan_intake (c : Fin 16) (f : Scan → Scan) : (s.onScan c f).intake = s.intake := rfl
@[simp] theorem onScan_test (c : Fin 16) (f : Scan → Scan) : (s.onScan c f).test = s.test := rfl
@[simp] theorem onScan_past (c : Fin 16) (f : Scan → Scan) : (s.onScan c f).past = s.past := rfl
@[simp] theorem onScan_freeCount (c : Fin 16) (f : Scan → Scan) : (s.onScan c f).freeCount = s.freeCount := rfl

/-! ### onTch -/

@[simp] theorem onTch_fe (c : Fin 8) (f : Tch → Tch) : (s.onTch c f).fe =
    { s.fe with tch := updV s.fe.tch c f } := rfl
@[simp] theorem onTch_pending (c : Fin 8) (f : Tch → Tch) : (s.onTch c f).pending = s.pending := rfl
@[simp] theorem onTch_phase (c : Fin 8) (f : Tch → Tch) : (s.onTch c f).phase = s.phase := rfl
@[simp] theorem onTch_clk (c : Fin 8) (f : Tch → Tch) : (s.onTch c f).clk = s.clk := rfl
@[simp] theorem onTch_part (c : Fin 8) (f : Tch → Tch) : (s.onTch c f).part = s.part := rfl
@[simp] theorem onTch_pins (c : Fin 8) (f : Tch → Tch) : (s.onTch c f).pins = s.pins := rfl
@[simp] theorem onTch_nv (c : Fin 8) (f : Tch → Tch) : (s.onTch c f).nv = s.nv := rfl
@[simp] theorem onTch_eng (c : Fin 8) (f : Tch → Tch) : (s.onTch c f).eng = s.eng := rfl
@[simp] theorem onTch_pas (c : Fin 8) (f : Tch → Tch) : (s.onTch c f).pas = s.pas := rfl
@[simp] theorem onTch_led (c : Fin 8) (f : Tch → Tch) : (s.onTch c f).led = s.led := rfl
@[simp] theorem onTch_sv (c : Fin 8) (f : Tch → Tch) : (s.onTch c f).sv = s.sv := rfl
@[simp] theorem onTch_keep (c : Fin 8) (f : Tch → Tch) : (s.onTch c f).keep = s.keep := rfl
@[simp] theorem onTch_trac (c : Fin 8) (f : Tch → Tch) : (s.onTch c f).trac = s.trac := rfl
@[simp] theorem onTch_kin (c : Fin 8) (f : Tch → Tch) : (s.onTch c f).kin = s.kin := rfl
@[simp] theorem onTch_host (c : Fin 8) (f : Tch → Tch) : (s.onTch c f).host = s.host := rfl
@[simp] theorem onTch_hec (c : Fin 8) (f : Tch → Tch) : (s.onTch c f).hec = s.hec := rfl
@[simp] theorem onTch_cvu (c : Fin 8) (f : Tch → Tch) : (s.onTch c f).cvu = s.cvu := rfl
@[simp] theorem onTch_hasp (c : Fin 8) (f : Tch → Tch) : (s.onTch c f).hasp = s.hasp := rfl
@[simp] theorem onTch_sdp (c : Fin 8) (f : Tch → Tch) : (s.onTch c f).sdp = s.sdp := rfl
@[simp] theorem onTch_net (c : Fin 8) (f : Tch → Tch) : (s.onTch c f).net = s.net := rfl
@[simp] theorem onTch_tb (c : Fin 8) (f : Tch → Tch) : (s.onTch c f).tb = s.tb := rfl
@[simp] theorem onTch_pwr (c : Fin 8) (f : Tch → Tch) : (s.onTch c f).pwr = s.pwr := rfl
@[simp] theorem onTch_intake (c : Fin 8) (f : Tch → Tch) : (s.onTch c f).intake = s.intake := rfl
@[simp] theorem onTch_test (c : Fin 8) (f : Tch → Tch) : (s.onTch c f).test = s.test := rfl
@[simp] theorem onTch_past (c : Fin 8) (f : Tch → Tch) : (s.onTch c f).past = s.past := rfl
@[simp] theorem onTch_freeCount (c : Fin 8) (f : Tch → Tch) : (s.onTch c f).freeCount = s.freeCount := rfl

/-! ### onBlank -/

@[simp] theorem onBlank_fe (b : Fin 6) (f : Blank → Blank) : (s.onBlank b f).fe =
    { s.fe with blank := updV s.fe.blank b f } := rfl
@[simp] theorem onBlank_pending (b : Fin 6) (f : Blank → Blank) : (s.onBlank b f).pending = s.pending := rfl
@[simp] theorem onBlank_phase (b : Fin 6) (f : Blank → Blank) : (s.onBlank b f).phase = s.phase := rfl
@[simp] theorem onBlank_clk (b : Fin 6) (f : Blank → Blank) : (s.onBlank b f).clk = s.clk := rfl
@[simp] theorem onBlank_part (b : Fin 6) (f : Blank → Blank) : (s.onBlank b f).part = s.part := rfl
@[simp] theorem onBlank_pins (b : Fin 6) (f : Blank → Blank) : (s.onBlank b f).pins = s.pins := rfl
@[simp] theorem onBlank_nv (b : Fin 6) (f : Blank → Blank) : (s.onBlank b f).nv = s.nv := rfl
@[simp] theorem onBlank_eng (b : Fin 6) (f : Blank → Blank) : (s.onBlank b f).eng = s.eng := rfl
@[simp] theorem onBlank_pas (b : Fin 6) (f : Blank → Blank) : (s.onBlank b f).pas = s.pas := rfl
@[simp] theorem onBlank_led (b : Fin 6) (f : Blank → Blank) : (s.onBlank b f).led = s.led := rfl
@[simp] theorem onBlank_sv (b : Fin 6) (f : Blank → Blank) : (s.onBlank b f).sv = s.sv := rfl
@[simp] theorem onBlank_keep (b : Fin 6) (f : Blank → Blank) : (s.onBlank b f).keep = s.keep := rfl
@[simp] theorem onBlank_trac (b : Fin 6) (f : Blank → Blank) : (s.onBlank b f).trac = s.trac := rfl
@[simp] theorem onBlank_kin (b : Fin 6) (f : Blank → Blank) : (s.onBlank b f).kin = s.kin := rfl
@[simp] theorem onBlank_host (b : Fin 6) (f : Blank → Blank) : (s.onBlank b f).host = s.host := rfl
@[simp] theorem onBlank_hec (b : Fin 6) (f : Blank → Blank) : (s.onBlank b f).hec = s.hec := rfl
@[simp] theorem onBlank_cvu (b : Fin 6) (f : Blank → Blank) : (s.onBlank b f).cvu = s.cvu := rfl
@[simp] theorem onBlank_hasp (b : Fin 6) (f : Blank → Blank) : (s.onBlank b f).hasp = s.hasp := rfl
@[simp] theorem onBlank_sdp (b : Fin 6) (f : Blank → Blank) : (s.onBlank b f).sdp = s.sdp := rfl
@[simp] theorem onBlank_net (b : Fin 6) (f : Blank → Blank) : (s.onBlank b f).net = s.net := rfl
@[simp] theorem onBlank_tb (b : Fin 6) (f : Blank → Blank) : (s.onBlank b f).tb = s.tb := rfl
@[simp] theorem onBlank_pwr (b : Fin 6) (f : Blank → Blank) : (s.onBlank b f).pwr = s.pwr := rfl
@[simp] theorem onBlank_intake (b : Fin 6) (f : Blank → Blank) : (s.onBlank b f).intake = s.intake := rfl
@[simp] theorem onBlank_test (b : Fin 6) (f : Blank → Blank) : (s.onBlank b f).test = s.test := rfl
@[simp] theorem onBlank_past (b : Fin 6) (f : Blank → Blank) : (s.onBlank b f).past = s.past := rfl
@[simp] theorem onBlank_freeCount (b : Fin 6) (f : Blank → Blank) : (s.onBlank b f).freeCount = s.freeCount := rfl

/-! ### onDet -/

@[simp] theorem onDet_eng (c : Fin 16) (f : Det → Det) : (s.onDet c f).eng =
    { s.eng with dets := updV s.eng.dets c f } := rfl
@[simp] theorem onDet_pending (c : Fin 16) (f : Det → Det) : (s.onDet c f).pending = s.pending := rfl
@[simp] theorem onDet_phase (c : Fin 16) (f : Det → Det) : (s.onDet c f).phase = s.phase := rfl
@[simp] theorem onDet_clk (c : Fin 16) (f : Det → Det) : (s.onDet c f).clk = s.clk := rfl
@[simp] theorem onDet_part (c : Fin 16) (f : Det → Det) : (s.onDet c f).part = s.part := rfl
@[simp] theorem onDet_pins (c : Fin 16) (f : Det → Det) : (s.onDet c f).pins = s.pins := rfl
@[simp] theorem onDet_nv (c : Fin 16) (f : Det → Det) : (s.onDet c f).nv = s.nv := rfl
@[simp] theorem onDet_fe (c : Fin 16) (f : Det → Det) : (s.onDet c f).fe = s.fe := rfl
@[simp] theorem onDet_pas (c : Fin 16) (f : Det → Det) : (s.onDet c f).pas = s.pas := rfl
@[simp] theorem onDet_led (c : Fin 16) (f : Det → Det) : (s.onDet c f).led = s.led := rfl
@[simp] theorem onDet_sv (c : Fin 16) (f : Det → Det) : (s.onDet c f).sv = s.sv := rfl
@[simp] theorem onDet_keep (c : Fin 16) (f : Det → Det) : (s.onDet c f).keep = s.keep := rfl
@[simp] theorem onDet_trac (c : Fin 16) (f : Det → Det) : (s.onDet c f).trac = s.trac := rfl
@[simp] theorem onDet_kin (c : Fin 16) (f : Det → Det) : (s.onDet c f).kin = s.kin := rfl
@[simp] theorem onDet_host (c : Fin 16) (f : Det → Det) : (s.onDet c f).host = s.host := rfl
@[simp] theorem onDet_hec (c : Fin 16) (f : Det → Det) : (s.onDet c f).hec = s.hec := rfl
@[simp] theorem onDet_cvu (c : Fin 16) (f : Det → Det) : (s.onDet c f).cvu = s.cvu := rfl
@[simp] theorem onDet_hasp (c : Fin 16) (f : Det → Det) : (s.onDet c f).hasp = s.hasp := rfl
@[simp] theorem onDet_sdp (c : Fin 16) (f : Det → Det) : (s.onDet c f).sdp = s.sdp := rfl
@[simp] theorem onDet_net (c : Fin 16) (f : Det → Det) : (s.onDet c f).net = s.net := rfl
@[simp] theorem onDet_tb (c : Fin 16) (f : Det → Det) : (s.onDet c f).tb = s.tb := rfl
@[simp] theorem onDet_pwr (c : Fin 16) (f : Det → Det) : (s.onDet c f).pwr = s.pwr := rfl
@[simp] theorem onDet_intake (c : Fin 16) (f : Det → Det) : (s.onDet c f).intake = s.intake := rfl
@[simp] theorem onDet_test (c : Fin 16) (f : Det → Det) : (s.onDet c f).test = s.test := rfl
@[simp] theorem onDet_past (c : Fin 16) (f : Det → Det) : (s.onDet c f).past = s.past := rfl
@[simp] theorem onDet_freeCount (c : Fin 16) (f : Det → Det) : (s.onDet c f).freeCount = s.freeCount := rfl

/-! ### onStats -/

@[simp] theorem onStats_eng (c : Fin 16) (f : Stats → Stats) : (s.onStats c f).eng =
    { s.eng with stats := updV s.eng.stats c f } := rfl
@[simp] theorem onStats_pending (c : Fin 16) (f : Stats → Stats) : (s.onStats c f).pending = s.pending := rfl
@[simp] theorem onStats_phase (c : Fin 16) (f : Stats → Stats) : (s.onStats c f).phase = s.phase := rfl
@[simp] theorem onStats_clk (c : Fin 16) (f : Stats → Stats) : (s.onStats c f).clk = s.clk := rfl
@[simp] theorem onStats_part (c : Fin 16) (f : Stats → Stats) : (s.onStats c f).part = s.part := rfl
@[simp] theorem onStats_pins (c : Fin 16) (f : Stats → Stats) : (s.onStats c f).pins = s.pins := rfl
@[simp] theorem onStats_nv (c : Fin 16) (f : Stats → Stats) : (s.onStats c f).nv = s.nv := rfl
@[simp] theorem onStats_fe (c : Fin 16) (f : Stats → Stats) : (s.onStats c f).fe = s.fe := rfl
@[simp] theorem onStats_pas (c : Fin 16) (f : Stats → Stats) : (s.onStats c f).pas = s.pas := rfl
@[simp] theorem onStats_led (c : Fin 16) (f : Stats → Stats) : (s.onStats c f).led = s.led := rfl
@[simp] theorem onStats_sv (c : Fin 16) (f : Stats → Stats) : (s.onStats c f).sv = s.sv := rfl
@[simp] theorem onStats_keep (c : Fin 16) (f : Stats → Stats) : (s.onStats c f).keep = s.keep := rfl
@[simp] theorem onStats_trac (c : Fin 16) (f : Stats → Stats) : (s.onStats c f).trac = s.trac := rfl
@[simp] theorem onStats_kin (c : Fin 16) (f : Stats → Stats) : (s.onStats c f).kin = s.kin := rfl
@[simp] theorem onStats_host (c : Fin 16) (f : Stats → Stats) : (s.onStats c f).host = s.host := rfl
@[simp] theorem onStats_hec (c : Fin 16) (f : Stats → Stats) : (s.onStats c f).hec = s.hec := rfl
@[simp] theorem onStats_cvu (c : Fin 16) (f : Stats → Stats) : (s.onStats c f).cvu = s.cvu := rfl
@[simp] theorem onStats_hasp (c : Fin 16) (f : Stats → Stats) : (s.onStats c f).hasp = s.hasp := rfl
@[simp] theorem onStats_sdp (c : Fin 16) (f : Stats → Stats) : (s.onStats c f).sdp = s.sdp := rfl
@[simp] theorem onStats_net (c : Fin 16) (f : Stats → Stats) : (s.onStats c f).net = s.net := rfl
@[simp] theorem onStats_tb (c : Fin 16) (f : Stats → Stats) : (s.onStats c f).tb = s.tb := rfl
@[simp] theorem onStats_pwr (c : Fin 16) (f : Stats → Stats) : (s.onStats c f).pwr = s.pwr := rfl
@[simp] theorem onStats_intake (c : Fin 16) (f : Stats → Stats) : (s.onStats c f).intake = s.intake := rfl
@[simp] theorem onStats_test (c : Fin 16) (f : Stats → Stats) : (s.onStats c f).test = s.test := rfl
@[simp] theorem onStats_past (c : Fin 16) (f : Stats → Stats) : (s.onStats c f).past = s.past := rfl
@[simp] theorem onStats_freeCount (c : Fin 16) (f : Stats → Stats) : (s.onStats c f).freeCount = s.freeCount := rfl

/-! ### onProof -/

@[simp] theorem onProof_eng (c : Fin 16) (f : Proof → Proof) : (s.onProof c f).eng =
    { s.eng with proofs := updV s.eng.proofs c f } := rfl
@[simp] theorem onProof_pending (c : Fin 16) (f : Proof → Proof) : (s.onProof c f).pending = s.pending := rfl
@[simp] theorem onProof_phase (c : Fin 16) (f : Proof → Proof) : (s.onProof c f).phase = s.phase := rfl
@[simp] theorem onProof_clk (c : Fin 16) (f : Proof → Proof) : (s.onProof c f).clk = s.clk := rfl
@[simp] theorem onProof_part (c : Fin 16) (f : Proof → Proof) : (s.onProof c f).part = s.part := rfl
@[simp] theorem onProof_pins (c : Fin 16) (f : Proof → Proof) : (s.onProof c f).pins = s.pins := rfl
@[simp] theorem onProof_nv (c : Fin 16) (f : Proof → Proof) : (s.onProof c f).nv = s.nv := rfl
@[simp] theorem onProof_fe (c : Fin 16) (f : Proof → Proof) : (s.onProof c f).fe = s.fe := rfl
@[simp] theorem onProof_pas (c : Fin 16) (f : Proof → Proof) : (s.onProof c f).pas = s.pas := rfl
@[simp] theorem onProof_led (c : Fin 16) (f : Proof → Proof) : (s.onProof c f).led = s.led := rfl
@[simp] theorem onProof_sv (c : Fin 16) (f : Proof → Proof) : (s.onProof c f).sv = s.sv := rfl
@[simp] theorem onProof_keep (c : Fin 16) (f : Proof → Proof) : (s.onProof c f).keep = s.keep := rfl
@[simp] theorem onProof_trac (c : Fin 16) (f : Proof → Proof) : (s.onProof c f).trac = s.trac := rfl
@[simp] theorem onProof_kin (c : Fin 16) (f : Proof → Proof) : (s.onProof c f).kin = s.kin := rfl
@[simp] theorem onProof_host (c : Fin 16) (f : Proof → Proof) : (s.onProof c f).host = s.host := rfl
@[simp] theorem onProof_hec (c : Fin 16) (f : Proof → Proof) : (s.onProof c f).hec = s.hec := rfl
@[simp] theorem onProof_cvu (c : Fin 16) (f : Proof → Proof) : (s.onProof c f).cvu = s.cvu := rfl
@[simp] theorem onProof_hasp (c : Fin 16) (f : Proof → Proof) : (s.onProof c f).hasp = s.hasp := rfl
@[simp] theorem onProof_sdp (c : Fin 16) (f : Proof → Proof) : (s.onProof c f).sdp = s.sdp := rfl
@[simp] theorem onProof_net (c : Fin 16) (f : Proof → Proof) : (s.onProof c f).net = s.net := rfl
@[simp] theorem onProof_tb (c : Fin 16) (f : Proof → Proof) : (s.onProof c f).tb = s.tb := rfl
@[simp] theorem onProof_pwr (c : Fin 16) (f : Proof → Proof) : (s.onProof c f).pwr = s.pwr := rfl
@[simp] theorem onProof_intake (c : Fin 16) (f : Proof → Proof) : (s.onProof c f).intake = s.intake := rfl
@[simp] theorem onProof_test (c : Fin 16) (f : Proof → Proof) : (s.onProof c f).test = s.test := rfl
@[simp] theorem onProof_past (c : Fin 16) (f : Proof → Proof) : (s.onProof c f).past = s.past := rfl
@[simp] theorem onProof_freeCount (c : Fin 16) (f : Proof → Proof) : (s.onProof c f).freeCount = s.freeCount := rfl

/-! ### onWse -/

@[simp] theorem onWse_eng (e : Fin 9) (f : Engine → Engine) : (s.onWse e f).eng =
    { s.eng with wse := updV s.eng.wse e f } := rfl
@[simp] theorem onWse_pending (e : Fin 9) (f : Engine → Engine) : (s.onWse e f).pending = s.pending := rfl
@[simp] theorem onWse_phase (e : Fin 9) (f : Engine → Engine) : (s.onWse e f).phase = s.phase := rfl
@[simp] theorem onWse_clk (e : Fin 9) (f : Engine → Engine) : (s.onWse e f).clk = s.clk := rfl
@[simp] theorem onWse_part (e : Fin 9) (f : Engine → Engine) : (s.onWse e f).part = s.part := rfl
@[simp] theorem onWse_pins (e : Fin 9) (f : Engine → Engine) : (s.onWse e f).pins = s.pins := rfl
@[simp] theorem onWse_nv (e : Fin 9) (f : Engine → Engine) : (s.onWse e f).nv = s.nv := rfl
@[simp] theorem onWse_fe (e : Fin 9) (f : Engine → Engine) : (s.onWse e f).fe = s.fe := rfl
@[simp] theorem onWse_pas (e : Fin 9) (f : Engine → Engine) : (s.onWse e f).pas = s.pas := rfl
@[simp] theorem onWse_led (e : Fin 9) (f : Engine → Engine) : (s.onWse e f).led = s.led := rfl
@[simp] theorem onWse_sv (e : Fin 9) (f : Engine → Engine) : (s.onWse e f).sv = s.sv := rfl
@[simp] theorem onWse_keep (e : Fin 9) (f : Engine → Engine) : (s.onWse e f).keep = s.keep := rfl
@[simp] theorem onWse_trac (e : Fin 9) (f : Engine → Engine) : (s.onWse e f).trac = s.trac := rfl
@[simp] theorem onWse_kin (e : Fin 9) (f : Engine → Engine) : (s.onWse e f).kin = s.kin := rfl
@[simp] theorem onWse_host (e : Fin 9) (f : Engine → Engine) : (s.onWse e f).host = s.host := rfl
@[simp] theorem onWse_hec (e : Fin 9) (f : Engine → Engine) : (s.onWse e f).hec = s.hec := rfl
@[simp] theorem onWse_cvu (e : Fin 9) (f : Engine → Engine) : (s.onWse e f).cvu = s.cvu := rfl
@[simp] theorem onWse_hasp (e : Fin 9) (f : Engine → Engine) : (s.onWse e f).hasp = s.hasp := rfl
@[simp] theorem onWse_sdp (e : Fin 9) (f : Engine → Engine) : (s.onWse e f).sdp = s.sdp := rfl
@[simp] theorem onWse_net (e : Fin 9) (f : Engine → Engine) : (s.onWse e f).net = s.net := rfl
@[simp] theorem onWse_tb (e : Fin 9) (f : Engine → Engine) : (s.onWse e f).tb = s.tb := rfl
@[simp] theorem onWse_pwr (e : Fin 9) (f : Engine → Engine) : (s.onWse e f).pwr = s.pwr := rfl
@[simp] theorem onWse_intake (e : Fin 9) (f : Engine → Engine) : (s.onWse e f).intake = s.intake := rfl
@[simp] theorem onWse_test (e : Fin 9) (f : Engine → Engine) : (s.onWse e f).test = s.test := rfl
@[simp] theorem onWse_past (e : Fin 9) (f : Engine → Engine) : (s.onWse e f).past = s.past := rfl
@[simp] theorem onWse_freeCount (e : Fin 9) (f : Engine → Engine) : (s.onWse e f).freeCount = s.freeCount := rfl

/-! ### onSv -/

@[simp] theorem onSv_sv (v : Fin 2) (f : Sv → Sv) : (s.onSv v f).sv =
    updV s.sv v f := rfl
@[simp] theorem onSv_pending (v : Fin 2) (f : Sv → Sv) : (s.onSv v f).pending = s.pending := rfl
@[simp] theorem onSv_phase (v : Fin 2) (f : Sv → Sv) : (s.onSv v f).phase = s.phase := rfl
@[simp] theorem onSv_clk (v : Fin 2) (f : Sv → Sv) : (s.onSv v f).clk = s.clk := rfl
@[simp] theorem onSv_part (v : Fin 2) (f : Sv → Sv) : (s.onSv v f).part = s.part := rfl
@[simp] theorem onSv_pins (v : Fin 2) (f : Sv → Sv) : (s.onSv v f).pins = s.pins := rfl
@[simp] theorem onSv_nv (v : Fin 2) (f : Sv → Sv) : (s.onSv v f).nv = s.nv := rfl
@[simp] theorem onSv_fe (v : Fin 2) (f : Sv → Sv) : (s.onSv v f).fe = s.fe := rfl
@[simp] theorem onSv_eng (v : Fin 2) (f : Sv → Sv) : (s.onSv v f).eng = s.eng := rfl
@[simp] theorem onSv_pas (v : Fin 2) (f : Sv → Sv) : (s.onSv v f).pas = s.pas := rfl
@[simp] theorem onSv_led (v : Fin 2) (f : Sv → Sv) : (s.onSv v f).led = s.led := rfl
@[simp] theorem onSv_keep (v : Fin 2) (f : Sv → Sv) : (s.onSv v f).keep = s.keep := rfl
@[simp] theorem onSv_trac (v : Fin 2) (f : Sv → Sv) : (s.onSv v f).trac = s.trac := rfl
@[simp] theorem onSv_kin (v : Fin 2) (f : Sv → Sv) : (s.onSv v f).kin = s.kin := rfl
@[simp] theorem onSv_host (v : Fin 2) (f : Sv → Sv) : (s.onSv v f).host = s.host := rfl
@[simp] theorem onSv_hec (v : Fin 2) (f : Sv → Sv) : (s.onSv v f).hec = s.hec := rfl
@[simp] theorem onSv_cvu (v : Fin 2) (f : Sv → Sv) : (s.onSv v f).cvu = s.cvu := rfl
@[simp] theorem onSv_hasp (v : Fin 2) (f : Sv → Sv) : (s.onSv v f).hasp = s.hasp := rfl
@[simp] theorem onSv_sdp (v : Fin 2) (f : Sv → Sv) : (s.onSv v f).sdp = s.sdp := rfl
@[simp] theorem onSv_net (v : Fin 2) (f : Sv → Sv) : (s.onSv v f).net = s.net := rfl
@[simp] theorem onSv_tb (v : Fin 2) (f : Sv → Sv) : (s.onSv v f).tb = s.tb := rfl
@[simp] theorem onSv_pwr (v : Fin 2) (f : Sv → Sv) : (s.onSv v f).pwr = s.pwr := rfl
@[simp] theorem onSv_intake (v : Fin 2) (f : Sv → Sv) : (s.onSv v f).intake = s.intake := rfl
@[simp] theorem onSv_test (v : Fin 2) (f : Sv → Sv) : (s.onSv v f).test = s.test := rfl
@[simp] theorem onSv_past (v : Fin 2) (f : Sv → Sv) : (s.onSv v f).past = s.past := rfl
@[simp] theorem onSv_freeCount (v : Fin 2) (f : Sv → Sv) : (s.onSv v f).freeCount = s.freeCount := rfl

/-! ### onPermit -/

@[simp] theorem onPermit_keep (n : Fin 4) (f : Permit → Permit) : (s.onPermit n f).keep =
    { s.keep with permits := updV s.keep.permits n f } := rfl
@[simp] theorem onPermit_pending (n : Fin 4) (f : Permit → Permit) : (s.onPermit n f).pending = s.pending := rfl
@[simp] theorem onPermit_phase (n : Fin 4) (f : Permit → Permit) : (s.onPermit n f).phase = s.phase := rfl
@[simp] theorem onPermit_clk (n : Fin 4) (f : Permit → Permit) : (s.onPermit n f).clk = s.clk := rfl
@[simp] theorem onPermit_part (n : Fin 4) (f : Permit → Permit) : (s.onPermit n f).part = s.part := rfl
@[simp] theorem onPermit_pins (n : Fin 4) (f : Permit → Permit) : (s.onPermit n f).pins = s.pins := rfl
@[simp] theorem onPermit_nv (n : Fin 4) (f : Permit → Permit) : (s.onPermit n f).nv = s.nv := rfl
@[simp] theorem onPermit_fe (n : Fin 4) (f : Permit → Permit) : (s.onPermit n f).fe = s.fe := rfl
@[simp] theorem onPermit_eng (n : Fin 4) (f : Permit → Permit) : (s.onPermit n f).eng = s.eng := rfl
@[simp] theorem onPermit_pas (n : Fin 4) (f : Permit → Permit) : (s.onPermit n f).pas = s.pas := rfl
@[simp] theorem onPermit_led (n : Fin 4) (f : Permit → Permit) : (s.onPermit n f).led = s.led := rfl
@[simp] theorem onPermit_sv (n : Fin 4) (f : Permit → Permit) : (s.onPermit n f).sv = s.sv := rfl
@[simp] theorem onPermit_trac (n : Fin 4) (f : Permit → Permit) : (s.onPermit n f).trac = s.trac := rfl
@[simp] theorem onPermit_kin (n : Fin 4) (f : Permit → Permit) : (s.onPermit n f).kin = s.kin := rfl
@[simp] theorem onPermit_host (n : Fin 4) (f : Permit → Permit) : (s.onPermit n f).host = s.host := rfl
@[simp] theorem onPermit_hec (n : Fin 4) (f : Permit → Permit) : (s.onPermit n f).hec = s.hec := rfl
@[simp] theorem onPermit_cvu (n : Fin 4) (f : Permit → Permit) : (s.onPermit n f).cvu = s.cvu := rfl
@[simp] theorem onPermit_hasp (n : Fin 4) (f : Permit → Permit) : (s.onPermit n f).hasp = s.hasp := rfl
@[simp] theorem onPermit_sdp (n : Fin 4) (f : Permit → Permit) : (s.onPermit n f).sdp = s.sdp := rfl
@[simp] theorem onPermit_net (n : Fin 4) (f : Permit → Permit) : (s.onPermit n f).net = s.net := rfl
@[simp] theorem onPermit_tb (n : Fin 4) (f : Permit → Permit) : (s.onPermit n f).tb = s.tb := rfl
@[simp] theorem onPermit_pwr (n : Fin 4) (f : Permit → Permit) : (s.onPermit n f).pwr = s.pwr := rfl
@[simp] theorem onPermit_intake (n : Fin 4) (f : Permit → Permit) : (s.onPermit n f).intake = s.intake := rfl
@[simp] theorem onPermit_test (n : Fin 4) (f : Permit → Permit) : (s.onPermit n f).test = s.test := rfl
@[simp] theorem onPermit_past (n : Fin 4) (f : Permit → Permit) : (s.onPermit n f).past = s.past := rfl
@[simp] theorem onPermit_freeCount (n : Fin 4) (f : Permit → Permit) : (s.onPermit n f).freeCount = s.freeCount := rfl

/-! ### onMerged -/

@[simp] theorem onMerged_keep (n : Fin 4) (f : Merged → Merged) : (s.onMerged n f).keep =
    { s.keep with merged := updV s.keep.merged n f } := rfl
@[simp] theorem onMerged_pending (n : Fin 4) (f : Merged → Merged) : (s.onMerged n f).pending = s.pending := rfl
@[simp] theorem onMerged_phase (n : Fin 4) (f : Merged → Merged) : (s.onMerged n f).phase = s.phase := rfl
@[simp] theorem onMerged_clk (n : Fin 4) (f : Merged → Merged) : (s.onMerged n f).clk = s.clk := rfl
@[simp] theorem onMerged_part (n : Fin 4) (f : Merged → Merged) : (s.onMerged n f).part = s.part := rfl
@[simp] theorem onMerged_pins (n : Fin 4) (f : Merged → Merged) : (s.onMerged n f).pins = s.pins := rfl
@[simp] theorem onMerged_nv (n : Fin 4) (f : Merged → Merged) : (s.onMerged n f).nv = s.nv := rfl
@[simp] theorem onMerged_fe (n : Fin 4) (f : Merged → Merged) : (s.onMerged n f).fe = s.fe := rfl
@[simp] theorem onMerged_eng (n : Fin 4) (f : Merged → Merged) : (s.onMerged n f).eng = s.eng := rfl
@[simp] theorem onMerged_pas (n : Fin 4) (f : Merged → Merged) : (s.onMerged n f).pas = s.pas := rfl
@[simp] theorem onMerged_led (n : Fin 4) (f : Merged → Merged) : (s.onMerged n f).led = s.led := rfl
@[simp] theorem onMerged_sv (n : Fin 4) (f : Merged → Merged) : (s.onMerged n f).sv = s.sv := rfl
@[simp] theorem onMerged_trac (n : Fin 4) (f : Merged → Merged) : (s.onMerged n f).trac = s.trac := rfl
@[simp] theorem onMerged_kin (n : Fin 4) (f : Merged → Merged) : (s.onMerged n f).kin = s.kin := rfl
@[simp] theorem onMerged_host (n : Fin 4) (f : Merged → Merged) : (s.onMerged n f).host = s.host := rfl
@[simp] theorem onMerged_hec (n : Fin 4) (f : Merged → Merged) : (s.onMerged n f).hec = s.hec := rfl
@[simp] theorem onMerged_cvu (n : Fin 4) (f : Merged → Merged) : (s.onMerged n f).cvu = s.cvu := rfl
@[simp] theorem onMerged_hasp (n : Fin 4) (f : Merged → Merged) : (s.onMerged n f).hasp = s.hasp := rfl
@[simp] theorem onMerged_sdp (n : Fin 4) (f : Merged → Merged) : (s.onMerged n f).sdp = s.sdp := rfl
@[simp] theorem onMerged_net (n : Fin 4) (f : Merged → Merged) : (s.onMerged n f).net = s.net := rfl
@[simp] theorem onMerged_tb (n : Fin 4) (f : Merged → Merged) : (s.onMerged n f).tb = s.tb := rfl
@[simp] theorem onMerged_pwr (n : Fin 4) (f : Merged → Merged) : (s.onMerged n f).pwr = s.pwr := rfl
@[simp] theorem onMerged_intake (n : Fin 4) (f : Merged → Merged) : (s.onMerged n f).intake = s.intake := rfl
@[simp] theorem onMerged_test (n : Fin 4) (f : Merged → Merged) : (s.onMerged n f).test = s.test := rfl
@[simp] theorem onMerged_past (n : Fin 4) (f : Merged → Merged) : (s.onMerged n f).past = s.past := rfl
@[simp] theorem onMerged_freeCount (n : Fin 4) (f : Merged → Merged) : (s.onMerged n f).freeCount = s.freeCount := rfl

/-! ### onNvChan -/

@[simp] theorem onNvChan_nv (c : Fin 16) (f : NvChan → NvChan) : (s.onNvChan c f).nv =
    { s.nv with chans := updV s.nv.chans c f } := rfl
@[simp] theorem onNvChan_pending (c : Fin 16) (f : NvChan → NvChan) : (s.onNvChan c f).pending = s.pending := rfl
@[simp] theorem onNvChan_phase (c : Fin 16) (f : NvChan → NvChan) : (s.onNvChan c f).phase = s.phase := rfl
@[simp] theorem onNvChan_clk (c : Fin 16) (f : NvChan → NvChan) : (s.onNvChan c f).clk = s.clk := rfl
@[simp] theorem onNvChan_part (c : Fin 16) (f : NvChan → NvChan) : (s.onNvChan c f).part = s.part := rfl
@[simp] theorem onNvChan_pins (c : Fin 16) (f : NvChan → NvChan) : (s.onNvChan c f).pins = s.pins := rfl
@[simp] theorem onNvChan_fe (c : Fin 16) (f : NvChan → NvChan) : (s.onNvChan c f).fe = s.fe := rfl
@[simp] theorem onNvChan_eng (c : Fin 16) (f : NvChan → NvChan) : (s.onNvChan c f).eng = s.eng := rfl
@[simp] theorem onNvChan_pas (c : Fin 16) (f : NvChan → NvChan) : (s.onNvChan c f).pas = s.pas := rfl
@[simp] theorem onNvChan_led (c : Fin 16) (f : NvChan → NvChan) : (s.onNvChan c f).led = s.led := rfl
@[simp] theorem onNvChan_sv (c : Fin 16) (f : NvChan → NvChan) : (s.onNvChan c f).sv = s.sv := rfl
@[simp] theorem onNvChan_keep (c : Fin 16) (f : NvChan → NvChan) : (s.onNvChan c f).keep = s.keep := rfl
@[simp] theorem onNvChan_trac (c : Fin 16) (f : NvChan → NvChan) : (s.onNvChan c f).trac = s.trac := rfl
@[simp] theorem onNvChan_kin (c : Fin 16) (f : NvChan → NvChan) : (s.onNvChan c f).kin = s.kin := rfl
@[simp] theorem onNvChan_host (c : Fin 16) (f : NvChan → NvChan) : (s.onNvChan c f).host = s.host := rfl
@[simp] theorem onNvChan_hec (c : Fin 16) (f : NvChan → NvChan) : (s.onNvChan c f).hec = s.hec := rfl
@[simp] theorem onNvChan_cvu (c : Fin 16) (f : NvChan → NvChan) : (s.onNvChan c f).cvu = s.cvu := rfl
@[simp] theorem onNvChan_hasp (c : Fin 16) (f : NvChan → NvChan) : (s.onNvChan c f).hasp = s.hasp := rfl
@[simp] theorem onNvChan_sdp (c : Fin 16) (f : NvChan → NvChan) : (s.onNvChan c f).sdp = s.sdp := rfl
@[simp] theorem onNvChan_net (c : Fin 16) (f : NvChan → NvChan) : (s.onNvChan c f).net = s.net := rfl
@[simp] theorem onNvChan_tb (c : Fin 16) (f : NvChan → NvChan) : (s.onNvChan c f).tb = s.tb := rfl
@[simp] theorem onNvChan_pwr (c : Fin 16) (f : NvChan → NvChan) : (s.onNvChan c f).pwr = s.pwr := rfl
@[simp] theorem onNvChan_intake (c : Fin 16) (f : NvChan → NvChan) : (s.onNvChan c f).intake = s.intake := rfl
@[simp] theorem onNvChan_test (c : Fin 16) (f : NvChan → NvChan) : (s.onNvChan c f).test = s.test := rfl
@[simp] theorem onNvChan_past (c : Fin 16) (f : NvChan → NvChan) : (s.onNvChan c f).past = s.past := rfl
@[simp] theorem onNvChan_freeCount (c : Fin 16) (f : NvChan → NvChan) : (s.onNvChan c f).freeCount = s.freeCount := rfl

/-! ### onNvHead -/

@[simp] theorem onNvHead_nv (h : Fin 8) (f : NvHead → NvHead) : (s.onNvHead h f).nv =
    { s.nv with heads := updV s.nv.heads h f } := rfl
@[simp] theorem onNvHead_pending (h : Fin 8) (f : NvHead → NvHead) : (s.onNvHead h f).pending = s.pending := rfl
@[simp] theorem onNvHead_phase (h : Fin 8) (f : NvHead → NvHead) : (s.onNvHead h f).phase = s.phase := rfl
@[simp] theorem onNvHead_clk (h : Fin 8) (f : NvHead → NvHead) : (s.onNvHead h f).clk = s.clk := rfl
@[simp] theorem onNvHead_part (h : Fin 8) (f : NvHead → NvHead) : (s.onNvHead h f).part = s.part := rfl
@[simp] theorem onNvHead_pins (h : Fin 8) (f : NvHead → NvHead) : (s.onNvHead h f).pins = s.pins := rfl
@[simp] theorem onNvHead_fe (h : Fin 8) (f : NvHead → NvHead) : (s.onNvHead h f).fe = s.fe := rfl
@[simp] theorem onNvHead_eng (h : Fin 8) (f : NvHead → NvHead) : (s.onNvHead h f).eng = s.eng := rfl
@[simp] theorem onNvHead_pas (h : Fin 8) (f : NvHead → NvHead) : (s.onNvHead h f).pas = s.pas := rfl
@[simp] theorem onNvHead_led (h : Fin 8) (f : NvHead → NvHead) : (s.onNvHead h f).led = s.led := rfl
@[simp] theorem onNvHead_sv (h : Fin 8) (f : NvHead → NvHead) : (s.onNvHead h f).sv = s.sv := rfl
@[simp] theorem onNvHead_keep (h : Fin 8) (f : NvHead → NvHead) : (s.onNvHead h f).keep = s.keep := rfl
@[simp] theorem onNvHead_trac (h : Fin 8) (f : NvHead → NvHead) : (s.onNvHead h f).trac = s.trac := rfl
@[simp] theorem onNvHead_kin (h : Fin 8) (f : NvHead → NvHead) : (s.onNvHead h f).kin = s.kin := rfl
@[simp] theorem onNvHead_host (h : Fin 8) (f : NvHead → NvHead) : (s.onNvHead h f).host = s.host := rfl
@[simp] theorem onNvHead_hec (h : Fin 8) (f : NvHead → NvHead) : (s.onNvHead h f).hec = s.hec := rfl
@[simp] theorem onNvHead_cvu (h : Fin 8) (f : NvHead → NvHead) : (s.onNvHead h f).cvu = s.cvu := rfl
@[simp] theorem onNvHead_hasp (h : Fin 8) (f : NvHead → NvHead) : (s.onNvHead h f).hasp = s.hasp := rfl
@[simp] theorem onNvHead_sdp (h : Fin 8) (f : NvHead → NvHead) : (s.onNvHead h f).sdp = s.sdp := rfl
@[simp] theorem onNvHead_net (h : Fin 8) (f : NvHead → NvHead) : (s.onNvHead h f).net = s.net := rfl
@[simp] theorem onNvHead_tb (h : Fin 8) (f : NvHead → NvHead) : (s.onNvHead h f).tb = s.tb := rfl
@[simp] theorem onNvHead_pwr (h : Fin 8) (f : NvHead → NvHead) : (s.onNvHead h f).pwr = s.pwr := rfl
@[simp] theorem onNvHead_intake (h : Fin 8) (f : NvHead → NvHead) : (s.onNvHead h f).intake = s.intake := rfl
@[simp] theorem onNvHead_test (h : Fin 8) (f : NvHead → NvHead) : (s.onNvHead h f).test = s.test := rfl
@[simp] theorem onNvHead_past (h : Fin 8) (f : NvHead → NvHead) : (s.onNvHead h f).past = s.past := rfl
@[simp] theorem onNvHead_freeCount (h : Fin 8) (f : NvHead → NvHead) : (s.onNvHead h f).freeCount = s.freeCount := rfl

/-! ### onNvSec -/

@[simp] theorem onNvSec_nv (n : Fin 4) (f : NvSec → NvSec) : (s.onNvSec n f).nv =
    { s.nv with secs := updV s.nv.secs n f } := rfl
@[simp] theorem onNvSec_pending (n : Fin 4) (f : NvSec → NvSec) : (s.onNvSec n f).pending = s.pending := rfl
@[simp] theorem onNvSec_phase (n : Fin 4) (f : NvSec → NvSec) : (s.onNvSec n f).phase = s.phase := rfl
@[simp] theorem onNvSec_clk (n : Fin 4) (f : NvSec → NvSec) : (s.onNvSec n f).clk = s.clk := rfl
@[simp] theorem onNvSec_part (n : Fin 4) (f : NvSec → NvSec) : (s.onNvSec n f).part = s.part := rfl
@[simp] theorem onNvSec_pins (n : Fin 4) (f : NvSec → NvSec) : (s.onNvSec n f).pins = s.pins := rfl
@[simp] theorem onNvSec_fe (n : Fin 4) (f : NvSec → NvSec) : (s.onNvSec n f).fe = s.fe := rfl
@[simp] theorem onNvSec_eng (n : Fin 4) (f : NvSec → NvSec) : (s.onNvSec n f).eng = s.eng := rfl
@[simp] theorem onNvSec_pas (n : Fin 4) (f : NvSec → NvSec) : (s.onNvSec n f).pas = s.pas := rfl
@[simp] theorem onNvSec_led (n : Fin 4) (f : NvSec → NvSec) : (s.onNvSec n f).led = s.led := rfl
@[simp] theorem onNvSec_sv (n : Fin 4) (f : NvSec → NvSec) : (s.onNvSec n f).sv = s.sv := rfl
@[simp] theorem onNvSec_keep (n : Fin 4) (f : NvSec → NvSec) : (s.onNvSec n f).keep = s.keep := rfl
@[simp] theorem onNvSec_trac (n : Fin 4) (f : NvSec → NvSec) : (s.onNvSec n f).trac = s.trac := rfl
@[simp] theorem onNvSec_kin (n : Fin 4) (f : NvSec → NvSec) : (s.onNvSec n f).kin = s.kin := rfl
@[simp] theorem onNvSec_host (n : Fin 4) (f : NvSec → NvSec) : (s.onNvSec n f).host = s.host := rfl
@[simp] theorem onNvSec_hec (n : Fin 4) (f : NvSec → NvSec) : (s.onNvSec n f).hec = s.hec := rfl
@[simp] theorem onNvSec_cvu (n : Fin 4) (f : NvSec → NvSec) : (s.onNvSec n f).cvu = s.cvu := rfl
@[simp] theorem onNvSec_hasp (n : Fin 4) (f : NvSec → NvSec) : (s.onNvSec n f).hasp = s.hasp := rfl
@[simp] theorem onNvSec_sdp (n : Fin 4) (f : NvSec → NvSec) : (s.onNvSec n f).sdp = s.sdp := rfl
@[simp] theorem onNvSec_net (n : Fin 4) (f : NvSec → NvSec) : (s.onNvSec n f).net = s.net := rfl
@[simp] theorem onNvSec_tb (n : Fin 4) (f : NvSec → NvSec) : (s.onNvSec n f).tb = s.tb := rfl
@[simp] theorem onNvSec_pwr (n : Fin 4) (f : NvSec → NvSec) : (s.onNvSec n f).pwr = s.pwr := rfl
@[simp] theorem onNvSec_intake (n : Fin 4) (f : NvSec → NvSec) : (s.onNvSec n f).intake = s.intake := rfl
@[simp] theorem onNvSec_test (n : Fin 4) (f : NvSec → NvSec) : (s.onNvSec n f).test = s.test := rfl
@[simp] theorem onNvSec_past (n : Fin 4) (f : NvSec → NvSec) : (s.onNvSec n f).past = s.past := rfl
@[simp] theorem onNvSec_freeCount (n : Fin 4) (f : NvSec → NvSec) : (s.onNvSec n f).freeCount = s.freeCount := rfl

/-! ### onNvConn -/

@[simp] theorem onNvConn_nv (k : Fin 8) (f : NvConn → NvConn) : (s.onNvConn k f).nv =
    { s.nv with conns := updV s.nv.conns k f } := rfl
@[simp] theorem onNvConn_pending (k : Fin 8) (f : NvConn → NvConn) : (s.onNvConn k f).pending = s.pending := rfl
@[simp] theorem onNvConn_phase (k : Fin 8) (f : NvConn → NvConn) : (s.onNvConn k f).phase = s.phase := rfl
@[simp] theorem onNvConn_clk (k : Fin 8) (f : NvConn → NvConn) : (s.onNvConn k f).clk = s.clk := rfl
@[simp] theorem onNvConn_part (k : Fin 8) (f : NvConn → NvConn) : (s.onNvConn k f).part = s.part := rfl
@[simp] theorem onNvConn_pins (k : Fin 8) (f : NvConn → NvConn) : (s.onNvConn k f).pins = s.pins := rfl
@[simp] theorem onNvConn_fe (k : Fin 8) (f : NvConn → NvConn) : (s.onNvConn k f).fe = s.fe := rfl
@[simp] theorem onNvConn_eng (k : Fin 8) (f : NvConn → NvConn) : (s.onNvConn k f).eng = s.eng := rfl
@[simp] theorem onNvConn_pas (k : Fin 8) (f : NvConn → NvConn) : (s.onNvConn k f).pas = s.pas := rfl
@[simp] theorem onNvConn_led (k : Fin 8) (f : NvConn → NvConn) : (s.onNvConn k f).led = s.led := rfl
@[simp] theorem onNvConn_sv (k : Fin 8) (f : NvConn → NvConn) : (s.onNvConn k f).sv = s.sv := rfl
@[simp] theorem onNvConn_keep (k : Fin 8) (f : NvConn → NvConn) : (s.onNvConn k f).keep = s.keep := rfl
@[simp] theorem onNvConn_trac (k : Fin 8) (f : NvConn → NvConn) : (s.onNvConn k f).trac = s.trac := rfl
@[simp] theorem onNvConn_kin (k : Fin 8) (f : NvConn → NvConn) : (s.onNvConn k f).kin = s.kin := rfl
@[simp] theorem onNvConn_host (k : Fin 8) (f : NvConn → NvConn) : (s.onNvConn k f).host = s.host := rfl
@[simp] theorem onNvConn_hec (k : Fin 8) (f : NvConn → NvConn) : (s.onNvConn k f).hec = s.hec := rfl
@[simp] theorem onNvConn_cvu (k : Fin 8) (f : NvConn → NvConn) : (s.onNvConn k f).cvu = s.cvu := rfl
@[simp] theorem onNvConn_hasp (k : Fin 8) (f : NvConn → NvConn) : (s.onNvConn k f).hasp = s.hasp := rfl
@[simp] theorem onNvConn_sdp (k : Fin 8) (f : NvConn → NvConn) : (s.onNvConn k f).sdp = s.sdp := rfl
@[simp] theorem onNvConn_net (k : Fin 8) (f : NvConn → NvConn) : (s.onNvConn k f).net = s.net := rfl
@[simp] theorem onNvConn_tb (k : Fin 8) (f : NvConn → NvConn) : (s.onNvConn k f).tb = s.tb := rfl
@[simp] theorem onNvConn_pwr (k : Fin 8) (f : NvConn → NvConn) : (s.onNvConn k f).pwr = s.pwr := rfl
@[simp] theorem onNvConn_intake (k : Fin 8) (f : NvConn → NvConn) : (s.onNvConn k f).intake = s.intake := rfl
@[simp] theorem onNvConn_test (k : Fin 8) (f : NvConn → NvConn) : (s.onNvConn k f).test = s.test := rfl
@[simp] theorem onNvConn_past (k : Fin 8) (f : NvConn → NvConn) : (s.onNvConn k f).past = s.past := rfl
@[simp] theorem onNvConn_freeCount (k : Fin 8) (f : NvConn → NvConn) : (s.onNvConn k f).freeCount = s.freeCount := rfl

/-! ### onHaspConn -/

@[simp] theorem onHaspConn_hasp (k : Fin 8) (f : HaspConn → HaspConn) : (s.onHaspConn k f).hasp =
    { s.hasp with conns := updV s.hasp.conns k f } := rfl
@[simp] theorem onHaspConn_pending (k : Fin 8) (f : HaspConn → HaspConn) : (s.onHaspConn k f).pending = s.pending := rfl
@[simp] theorem onHaspConn_phase (k : Fin 8) (f : HaspConn → HaspConn) : (s.onHaspConn k f).phase = s.phase := rfl
@[simp] theorem onHaspConn_clk (k : Fin 8) (f : HaspConn → HaspConn) : (s.onHaspConn k f).clk = s.clk := rfl
@[simp] theorem onHaspConn_part (k : Fin 8) (f : HaspConn → HaspConn) : (s.onHaspConn k f).part = s.part := rfl
@[simp] theorem onHaspConn_pins (k : Fin 8) (f : HaspConn → HaspConn) : (s.onHaspConn k f).pins = s.pins := rfl
@[simp] theorem onHaspConn_nv (k : Fin 8) (f : HaspConn → HaspConn) : (s.onHaspConn k f).nv = s.nv := rfl
@[simp] theorem onHaspConn_fe (k : Fin 8) (f : HaspConn → HaspConn) : (s.onHaspConn k f).fe = s.fe := rfl
@[simp] theorem onHaspConn_eng (k : Fin 8) (f : HaspConn → HaspConn) : (s.onHaspConn k f).eng = s.eng := rfl
@[simp] theorem onHaspConn_pas (k : Fin 8) (f : HaspConn → HaspConn) : (s.onHaspConn k f).pas = s.pas := rfl
@[simp] theorem onHaspConn_led (k : Fin 8) (f : HaspConn → HaspConn) : (s.onHaspConn k f).led = s.led := rfl
@[simp] theorem onHaspConn_sv (k : Fin 8) (f : HaspConn → HaspConn) : (s.onHaspConn k f).sv = s.sv := rfl
@[simp] theorem onHaspConn_keep (k : Fin 8) (f : HaspConn → HaspConn) : (s.onHaspConn k f).keep = s.keep := rfl
@[simp] theorem onHaspConn_trac (k : Fin 8) (f : HaspConn → HaspConn) : (s.onHaspConn k f).trac = s.trac := rfl
@[simp] theorem onHaspConn_kin (k : Fin 8) (f : HaspConn → HaspConn) : (s.onHaspConn k f).kin = s.kin := rfl
@[simp] theorem onHaspConn_host (k : Fin 8) (f : HaspConn → HaspConn) : (s.onHaspConn k f).host = s.host := rfl
@[simp] theorem onHaspConn_hec (k : Fin 8) (f : HaspConn → HaspConn) : (s.onHaspConn k f).hec = s.hec := rfl
@[simp] theorem onHaspConn_cvu (k : Fin 8) (f : HaspConn → HaspConn) : (s.onHaspConn k f).cvu = s.cvu := rfl
@[simp] theorem onHaspConn_sdp (k : Fin 8) (f : HaspConn → HaspConn) : (s.onHaspConn k f).sdp = s.sdp := rfl
@[simp] theorem onHaspConn_net (k : Fin 8) (f : HaspConn → HaspConn) : (s.onHaspConn k f).net = s.net := rfl
@[simp] theorem onHaspConn_tb (k : Fin 8) (f : HaspConn → HaspConn) : (s.onHaspConn k f).tb = s.tb := rfl
@[simp] theorem onHaspConn_pwr (k : Fin 8) (f : HaspConn → HaspConn) : (s.onHaspConn k f).pwr = s.pwr := rfl
@[simp] theorem onHaspConn_intake (k : Fin 8) (f : HaspConn → HaspConn) : (s.onHaspConn k f).intake = s.intake := rfl
@[simp] theorem onHaspConn_test (k : Fin 8) (f : HaspConn → HaspConn) : (s.onHaspConn k f).test = s.test := rfl
@[simp] theorem onHaspConn_past (k : Fin 8) (f : HaspConn → HaspConn) : (s.onHaspConn k f).past = s.past := rfl
@[simp] theorem onHaspConn_freeCount (k : Fin 8) (f : HaspConn → HaspConn) : (s.onHaspConn k f).freeCount = s.freeCount := rfl

/-! ### onSession -/

@[simp] theorem onSession_sdp (i : Fin 5) (f : Session → Session) : (s.onSession i f).sdp =
    { s.sdp with sessions := updV s.sdp.sessions i f } := rfl
@[simp] theorem onSession_pending (i : Fin 5) (f : Session → Session) : (s.onSession i f).pending = s.pending := rfl
@[simp] theorem onSession_phase (i : Fin 5) (f : Session → Session) : (s.onSession i f).phase = s.phase := rfl
@[simp] theorem onSession_clk (i : Fin 5) (f : Session → Session) : (s.onSession i f).clk = s.clk := rfl
@[simp] theorem onSession_part (i : Fin 5) (f : Session → Session) : (s.onSession i f).part = s.part := rfl
@[simp] theorem onSession_pins (i : Fin 5) (f : Session → Session) : (s.onSession i f).pins = s.pins := rfl
@[simp] theorem onSession_nv (i : Fin 5) (f : Session → Session) : (s.onSession i f).nv = s.nv := rfl
@[simp] theorem onSession_fe (i : Fin 5) (f : Session → Session) : (s.onSession i f).fe = s.fe := rfl
@[simp] theorem onSession_eng (i : Fin 5) (f : Session → Session) : (s.onSession i f).eng = s.eng := rfl
@[simp] theorem onSession_pas (i : Fin 5) (f : Session → Session) : (s.onSession i f).pas = s.pas := rfl
@[simp] theorem onSession_led (i : Fin 5) (f : Session → Session) : (s.onSession i f).led = s.led := rfl
@[simp] theorem onSession_sv (i : Fin 5) (f : Session → Session) : (s.onSession i f).sv = s.sv := rfl
@[simp] theorem onSession_keep (i : Fin 5) (f : Session → Session) : (s.onSession i f).keep = s.keep := rfl
@[simp] theorem onSession_trac (i : Fin 5) (f : Session → Session) : (s.onSession i f).trac = s.trac := rfl
@[simp] theorem onSession_kin (i : Fin 5) (f : Session → Session) : (s.onSession i f).kin = s.kin := rfl
@[simp] theorem onSession_host (i : Fin 5) (f : Session → Session) : (s.onSession i f).host = s.host := rfl
@[simp] theorem onSession_hec (i : Fin 5) (f : Session → Session) : (s.onSession i f).hec = s.hec := rfl
@[simp] theorem onSession_cvu (i : Fin 5) (f : Session → Session) : (s.onSession i f).cvu = s.cvu := rfl
@[simp] theorem onSession_hasp (i : Fin 5) (f : Session → Session) : (s.onSession i f).hasp = s.hasp := rfl
@[simp] theorem onSession_net (i : Fin 5) (f : Session → Session) : (s.onSession i f).net = s.net := rfl
@[simp] theorem onSession_tb (i : Fin 5) (f : Session → Session) : (s.onSession i f).tb = s.tb := rfl
@[simp] theorem onSession_pwr (i : Fin 5) (f : Session → Session) : (s.onSession i f).pwr = s.pwr := rfl
@[simp] theorem onSession_intake (i : Fin 5) (f : Session → Session) : (s.onSession i f).intake = s.intake := rfl
@[simp] theorem onSession_test (i : Fin 5) (f : Session → Session) : (s.onSession i f).test = s.test := rfl
@[simp] theorem onSession_past (i : Fin 5) (f : Session → Session) : (s.onSession i f).past = s.past := rfl
@[simp] theorem onSession_freeCount (i : Fin 5) (f : Session → Session) : (s.onSession i f).freeCount = s.freeCount := rfl

/-! ### onPort -/

@[simp] theorem onPort_net (p : Fin 4) (f : Port → Port) : (s.onPort p f).net =
    { s.net with ports := updV s.net.ports p f } := rfl
@[simp] theorem onPort_pending (p : Fin 4) (f : Port → Port) : (s.onPort p f).pending = s.pending := rfl
@[simp] theorem onPort_phase (p : Fin 4) (f : Port → Port) : (s.onPort p f).phase = s.phase := rfl
@[simp] theorem onPort_clk (p : Fin 4) (f : Port → Port) : (s.onPort p f).clk = s.clk := rfl
@[simp] theorem onPort_part (p : Fin 4) (f : Port → Port) : (s.onPort p f).part = s.part := rfl
@[simp] theorem onPort_pins (p : Fin 4) (f : Port → Port) : (s.onPort p f).pins = s.pins := rfl
@[simp] theorem onPort_nv (p : Fin 4) (f : Port → Port) : (s.onPort p f).nv = s.nv := rfl
@[simp] theorem onPort_fe (p : Fin 4) (f : Port → Port) : (s.onPort p f).fe = s.fe := rfl
@[simp] theorem onPort_eng (p : Fin 4) (f : Port → Port) : (s.onPort p f).eng = s.eng := rfl
@[simp] theorem onPort_pas (p : Fin 4) (f : Port → Port) : (s.onPort p f).pas = s.pas := rfl
@[simp] theorem onPort_led (p : Fin 4) (f : Port → Port) : (s.onPort p f).led = s.led := rfl
@[simp] theorem onPort_sv (p : Fin 4) (f : Port → Port) : (s.onPort p f).sv = s.sv := rfl
@[simp] theorem onPort_keep (p : Fin 4) (f : Port → Port) : (s.onPort p f).keep = s.keep := rfl
@[simp] theorem onPort_trac (p : Fin 4) (f : Port → Port) : (s.onPort p f).trac = s.trac := rfl
@[simp] theorem onPort_kin (p : Fin 4) (f : Port → Port) : (s.onPort p f).kin = s.kin := rfl
@[simp] theorem onPort_host (p : Fin 4) (f : Port → Port) : (s.onPort p f).host = s.host := rfl
@[simp] theorem onPort_hec (p : Fin 4) (f : Port → Port) : (s.onPort p f).hec = s.hec := rfl
@[simp] theorem onPort_cvu (p : Fin 4) (f : Port → Port) : (s.onPort p f).cvu = s.cvu := rfl
@[simp] theorem onPort_hasp (p : Fin 4) (f : Port → Port) : (s.onPort p f).hasp = s.hasp := rfl
@[simp] theorem onPort_sdp (p : Fin 4) (f : Port → Port) : (s.onPort p f).sdp = s.sdp := rfl
@[simp] theorem onPort_tb (p : Fin 4) (f : Port → Port) : (s.onPort p f).tb = s.tb := rfl
@[simp] theorem onPort_pwr (p : Fin 4) (f : Port → Port) : (s.onPort p f).pwr = s.pwr := rfl
@[simp] theorem onPort_intake (p : Fin 4) (f : Port → Port) : (s.onPort p f).intake = s.intake := rfl
@[simp] theorem onPort_test (p : Fin 4) (f : Port → Port) : (s.onPort p f).test = s.test := rfl
@[simp] theorem onPort_past (p : Fin 4) (f : Port → Port) : (s.onPort p f).past = s.past := rfl
@[simp] theorem onPort_freeCount (p : Fin 4) (f : Port → Port) : (s.onPort p f).freeCount = s.freeCount := rfl

/-! ### onTraction -/

@[simp] theorem onTraction_trac (n : Fin 4) (f : Traction → Traction) : (s.onTraction n f).trac =
    updV s.trac n f := rfl
@[simp] theorem onTraction_pending (n : Fin 4) (f : Traction → Traction) : (s.onTraction n f).pending = s.pending := rfl
@[simp] theorem onTraction_phase (n : Fin 4) (f : Traction → Traction) : (s.onTraction n f).phase = s.phase := rfl
@[simp] theorem onTraction_clk (n : Fin 4) (f : Traction → Traction) : (s.onTraction n f).clk = s.clk := rfl
@[simp] theorem onTraction_part (n : Fin 4) (f : Traction → Traction) : (s.onTraction n f).part = s.part := rfl
@[simp] theorem onTraction_pins (n : Fin 4) (f : Traction → Traction) : (s.onTraction n f).pins = s.pins := rfl
@[simp] theorem onTraction_nv (n : Fin 4) (f : Traction → Traction) : (s.onTraction n f).nv = s.nv := rfl
@[simp] theorem onTraction_fe (n : Fin 4) (f : Traction → Traction) : (s.onTraction n f).fe = s.fe := rfl
@[simp] theorem onTraction_eng (n : Fin 4) (f : Traction → Traction) : (s.onTraction n f).eng = s.eng := rfl
@[simp] theorem onTraction_pas (n : Fin 4) (f : Traction → Traction) : (s.onTraction n f).pas = s.pas := rfl
@[simp] theorem onTraction_led (n : Fin 4) (f : Traction → Traction) : (s.onTraction n f).led = s.led := rfl
@[simp] theorem onTraction_sv (n : Fin 4) (f : Traction → Traction) : (s.onTraction n f).sv = s.sv := rfl
@[simp] theorem onTraction_keep (n : Fin 4) (f : Traction → Traction) : (s.onTraction n f).keep = s.keep := rfl
@[simp] theorem onTraction_kin (n : Fin 4) (f : Traction → Traction) : (s.onTraction n f).kin = s.kin := rfl
@[simp] theorem onTraction_host (n : Fin 4) (f : Traction → Traction) : (s.onTraction n f).host = s.host := rfl
@[simp] theorem onTraction_hec (n : Fin 4) (f : Traction → Traction) : (s.onTraction n f).hec = s.hec := rfl
@[simp] theorem onTraction_cvu (n : Fin 4) (f : Traction → Traction) : (s.onTraction n f).cvu = s.cvu := rfl
@[simp] theorem onTraction_hasp (n : Fin 4) (f : Traction → Traction) : (s.onTraction n f).hasp = s.hasp := rfl
@[simp] theorem onTraction_sdp (n : Fin 4) (f : Traction → Traction) : (s.onTraction n f).sdp = s.sdp := rfl
@[simp] theorem onTraction_net (n : Fin 4) (f : Traction → Traction) : (s.onTraction n f).net = s.net := rfl
@[simp] theorem onTraction_tb (n : Fin 4) (f : Traction → Traction) : (s.onTraction n f).tb = s.tb := rfl
@[simp] theorem onTraction_pwr (n : Fin 4) (f : Traction → Traction) : (s.onTraction n f).pwr = s.pwr := rfl
@[simp] theorem onTraction_intake (n : Fin 4) (f : Traction → Traction) : (s.onTraction n f).intake = s.intake := rfl
@[simp] theorem onTraction_test (n : Fin 4) (f : Traction → Traction) : (s.onTraction n f).test = s.test := rfl
@[simp] theorem onTraction_past (n : Fin 4) (f : Traction → Traction) : (s.onTraction n f).past = s.past := rfl
@[simp] theorem onTraction_freeCount (n : Fin 4) (f : Traction → Traction) : (s.onTraction n f).freeCount = s.freeCount := rfl

/-! ### onCvu -/

@[simp] theorem onCvu_cvu (u : Fin 2) (f : Cvu → Cvu) : (s.onCvu u f).cvu =
    updV s.cvu u f := rfl
@[simp] theorem onCvu_pending (u : Fin 2) (f : Cvu → Cvu) : (s.onCvu u f).pending = s.pending := rfl
@[simp] theorem onCvu_phase (u : Fin 2) (f : Cvu → Cvu) : (s.onCvu u f).phase = s.phase := rfl
@[simp] theorem onCvu_clk (u : Fin 2) (f : Cvu → Cvu) : (s.onCvu u f).clk = s.clk := rfl
@[simp] theorem onCvu_part (u : Fin 2) (f : Cvu → Cvu) : (s.onCvu u f).part = s.part := rfl
@[simp] theorem onCvu_pins (u : Fin 2) (f : Cvu → Cvu) : (s.onCvu u f).pins = s.pins := rfl
@[simp] theorem onCvu_nv (u : Fin 2) (f : Cvu → Cvu) : (s.onCvu u f).nv = s.nv := rfl
@[simp] theorem onCvu_fe (u : Fin 2) (f : Cvu → Cvu) : (s.onCvu u f).fe = s.fe := rfl
@[simp] theorem onCvu_eng (u : Fin 2) (f : Cvu → Cvu) : (s.onCvu u f).eng = s.eng := rfl
@[simp] theorem onCvu_pas (u : Fin 2) (f : Cvu → Cvu) : (s.onCvu u f).pas = s.pas := rfl
@[simp] theorem onCvu_led (u : Fin 2) (f : Cvu → Cvu) : (s.onCvu u f).led = s.led := rfl
@[simp] theorem onCvu_sv (u : Fin 2) (f : Cvu → Cvu) : (s.onCvu u f).sv = s.sv := rfl
@[simp] theorem onCvu_keep (u : Fin 2) (f : Cvu → Cvu) : (s.onCvu u f).keep = s.keep := rfl
@[simp] theorem onCvu_trac (u : Fin 2) (f : Cvu → Cvu) : (s.onCvu u f).trac = s.trac := rfl
@[simp] theorem onCvu_kin (u : Fin 2) (f : Cvu → Cvu) : (s.onCvu u f).kin = s.kin := rfl
@[simp] theorem onCvu_host (u : Fin 2) (f : Cvu → Cvu) : (s.onCvu u f).host = s.host := rfl
@[simp] theorem onCvu_hec (u : Fin 2) (f : Cvu → Cvu) : (s.onCvu u f).hec = s.hec := rfl
@[simp] theorem onCvu_hasp (u : Fin 2) (f : Cvu → Cvu) : (s.onCvu u f).hasp = s.hasp := rfl
@[simp] theorem onCvu_sdp (u : Fin 2) (f : Cvu → Cvu) : (s.onCvu u f).sdp = s.sdp := rfl
@[simp] theorem onCvu_net (u : Fin 2) (f : Cvu → Cvu) : (s.onCvu u f).net = s.net := rfl
@[simp] theorem onCvu_tb (u : Fin 2) (f : Cvu → Cvu) : (s.onCvu u f).tb = s.tb := rfl
@[simp] theorem onCvu_pwr (u : Fin 2) (f : Cvu → Cvu) : (s.onCvu u f).pwr = s.pwr := rfl
@[simp] theorem onCvu_intake (u : Fin 2) (f : Cvu → Cvu) : (s.onCvu u f).intake = s.intake := rfl
@[simp] theorem onCvu_test (u : Fin 2) (f : Cvu → Cvu) : (s.onCvu u f).test = s.test := rfl
@[simp] theorem onCvu_past (u : Fin 2) (f : Cvu → Cvu) : (s.onCvu u f).past = s.past := rfl
@[simp] theorem onCvu_freeCount (u : Fin 2) (f : Cvu → Cvu) : (s.onCvu u f).freeCount = s.freeCount := rfl

/-! ### record, pulse and drawFree -/

@[simp] theorem record_intake (code : BitVec 16) (src : BitVec 2) (p : List Byte) (e : Bool) : (s.record code src p e).intake =
    { s.intake with offered := s.intake.offered ++
      [{ code := code, emergency := e, source := src, time := s.tbNow, payload := p }] } := rfl
@[simp] theorem record_pending (code : BitVec 16) (src : BitVec 2) (p : List Byte) (e : Bool) :
    (s.record code src p e).pending = s.pending := rfl
@[simp] theorem record_phase (code : BitVec 16) (src : BitVec 2) (p : List Byte) (e : Bool) :
    (s.record code src p e).phase = s.phase := rfl
@[simp] theorem record_clk (code : BitVec 16) (src : BitVec 2) (p : List Byte) (e : Bool) :
    (s.record code src p e).clk = s.clk := rfl
@[simp] theorem record_part (code : BitVec 16) (src : BitVec 2) (p : List Byte) (e : Bool) :
    (s.record code src p e).part = s.part := rfl
@[simp] theorem record_pins (code : BitVec 16) (src : BitVec 2) (p : List Byte) (e : Bool) :
    (s.record code src p e).pins = s.pins := rfl
@[simp] theorem record_nv (code : BitVec 16) (src : BitVec 2) (p : List Byte) (e : Bool) :
    (s.record code src p e).nv = s.nv := rfl
@[simp] theorem record_fe (code : BitVec 16) (src : BitVec 2) (p : List Byte) (e : Bool) :
    (s.record code src p e).fe = s.fe := rfl
@[simp] theorem record_eng (code : BitVec 16) (src : BitVec 2) (p : List Byte) (e : Bool) :
    (s.record code src p e).eng = s.eng := rfl
@[simp] theorem record_pas (code : BitVec 16) (src : BitVec 2) (p : List Byte) (e : Bool) :
    (s.record code src p e).pas = s.pas := rfl
@[simp] theorem record_led (code : BitVec 16) (src : BitVec 2) (p : List Byte) (e : Bool) :
    (s.record code src p e).led = s.led := rfl
@[simp] theorem record_sv (code : BitVec 16) (src : BitVec 2) (p : List Byte) (e : Bool) :
    (s.record code src p e).sv = s.sv := rfl
@[simp] theorem record_keep (code : BitVec 16) (src : BitVec 2) (p : List Byte) (e : Bool) :
    (s.record code src p e).keep = s.keep := rfl
@[simp] theorem record_trac (code : BitVec 16) (src : BitVec 2) (p : List Byte) (e : Bool) :
    (s.record code src p e).trac = s.trac := rfl
@[simp] theorem record_kin (code : BitVec 16) (src : BitVec 2) (p : List Byte) (e : Bool) :
    (s.record code src p e).kin = s.kin := rfl
@[simp] theorem record_host (code : BitVec 16) (src : BitVec 2) (p : List Byte) (e : Bool) :
    (s.record code src p e).host = s.host := rfl
@[simp] theorem record_hec (code : BitVec 16) (src : BitVec 2) (p : List Byte) (e : Bool) :
    (s.record code src p e).hec = s.hec := rfl
@[simp] theorem record_cvu (code : BitVec 16) (src : BitVec 2) (p : List Byte) (e : Bool) :
    (s.record code src p e).cvu = s.cvu := rfl
@[simp] theorem record_hasp (code : BitVec 16) (src : BitVec 2) (p : List Byte) (e : Bool) :
    (s.record code src p e).hasp = s.hasp := rfl
@[simp] theorem record_sdp (code : BitVec 16) (src : BitVec 2) (p : List Byte) (e : Bool) :
    (s.record code src p e).sdp = s.sdp := rfl
@[simp] theorem record_net (code : BitVec 16) (src : BitVec 2) (p : List Byte) (e : Bool) :
    (s.record code src p e).net = s.net := rfl
@[simp] theorem record_tb (code : BitVec 16) (src : BitVec 2) (p : List Byte) (e : Bool) :
    (s.record code src p e).tb = s.tb := rfl
@[simp] theorem record_pwr (code : BitVec 16) (src : BitVec 2) (p : List Byte) (e : Bool) :
    (s.record code src p e).pwr = s.pwr := rfl
@[simp] theorem record_test (code : BitVec 16) (src : BitVec 2) (p : List Byte) (e : Bool) :
    (s.record code src p e).test = s.test := rfl
@[simp] theorem record_past (code : BitVec 16) (src : BitVec 2) (p : List Byte) (e : Bool) :
    (s.record code src p e).past = s.past := rfl
@[simp] theorem record_freeCount (code : BitVec 16) (src : BitVec 2) (p : List Byte) (e : Bool) :
    (s.record code src p e).freeCount = s.freeCount := rfl

@[simp] theorem pulse_hec (n : Nat) : (s.pulse n).hec = { s.hec with inflight := s.hec.inflight ++ [n] } := rfl
@[simp] theorem pulse_pending (n : Nat) : (s.pulse n).pending = s.pending := rfl
@[simp] theorem pulse_phase (n : Nat) : (s.pulse n).phase = s.phase := rfl
@[simp] theorem pulse_clk (n : Nat) : (s.pulse n).clk = s.clk := rfl
@[simp] theorem pulse_part (n : Nat) : (s.pulse n).part = s.part := rfl
@[simp] theorem pulse_pins (n : Nat) : (s.pulse n).pins = s.pins := rfl
@[simp] theorem pulse_nv (n : Nat) : (s.pulse n).nv = s.nv := rfl
@[simp] theorem pulse_fe (n : Nat) : (s.pulse n).fe = s.fe := rfl
@[simp] theorem pulse_eng (n : Nat) : (s.pulse n).eng = s.eng := rfl
@[simp] theorem pulse_pas (n : Nat) : (s.pulse n).pas = s.pas := rfl
@[simp] theorem pulse_led (n : Nat) : (s.pulse n).led = s.led := rfl
@[simp] theorem pulse_sv (n : Nat) : (s.pulse n).sv = s.sv := rfl
@[simp] theorem pulse_keep (n : Nat) : (s.pulse n).keep = s.keep := rfl
@[simp] theorem pulse_trac (n : Nat) : (s.pulse n).trac = s.trac := rfl
@[simp] theorem pulse_kin (n : Nat) : (s.pulse n).kin = s.kin := rfl
@[simp] theorem pulse_host (n : Nat) : (s.pulse n).host = s.host := rfl
@[simp] theorem pulse_cvu (n : Nat) : (s.pulse n).cvu = s.cvu := rfl
@[simp] theorem pulse_hasp (n : Nat) : (s.pulse n).hasp = s.hasp := rfl
@[simp] theorem pulse_sdp (n : Nat) : (s.pulse n).sdp = s.sdp := rfl
@[simp] theorem pulse_net (n : Nat) : (s.pulse n).net = s.net := rfl
@[simp] theorem pulse_tb (n : Nat) : (s.pulse n).tb = s.tb := rfl
@[simp] theorem pulse_pwr (n : Nat) : (s.pulse n).pwr = s.pwr := rfl
@[simp] theorem pulse_intake (n : Nat) : (s.pulse n).intake = s.intake := rfl
@[simp] theorem pulse_test (n : Nat) : (s.pulse n).test = s.test := rfl
@[simp] theorem pulse_past (n : Nat) : (s.pulse n).past = s.past := rfl
@[simp] theorem pulse_freeCount (n : Nat) : (s.pulse n).freeCount = s.freeCount := rfl

@[simp] theorem drawFree_freeCount : s.drawFree.2.freeCount = s.freeCount + 1 := rfl
@[simp] theorem drawFree_pending : s.drawFree.2.pending = s.pending := rfl
@[simp] theorem drawFree_phase : s.drawFree.2.phase = s.phase := rfl
@[simp] theorem drawFree_clk : s.drawFree.2.clk = s.clk := rfl
@[simp] theorem drawFree_part : s.drawFree.2.part = s.part := rfl
@[simp] theorem drawFree_pins : s.drawFree.2.pins = s.pins := rfl
@[simp] theorem drawFree_nv : s.drawFree.2.nv = s.nv := rfl
@[simp] theorem drawFree_fe : s.drawFree.2.fe = s.fe := rfl
@[simp] theorem drawFree_eng : s.drawFree.2.eng = s.eng := rfl
@[simp] theorem drawFree_pas : s.drawFree.2.pas = s.pas := rfl
@[simp] theorem drawFree_led : s.drawFree.2.led = s.led := rfl
@[simp] theorem drawFree_sv : s.drawFree.2.sv = s.sv := rfl
@[simp] theorem drawFree_keep : s.drawFree.2.keep = s.keep := rfl
@[simp] theorem drawFree_trac : s.drawFree.2.trac = s.trac := rfl
@[simp] theorem drawFree_kin : s.drawFree.2.kin = s.kin := rfl
@[simp] theorem drawFree_host : s.drawFree.2.host = s.host := rfl
@[simp] theorem drawFree_hec : s.drawFree.2.hec = s.hec := rfl
@[simp] theorem drawFree_cvu : s.drawFree.2.cvu = s.cvu := rfl
@[simp] theorem drawFree_hasp : s.drawFree.2.hasp = s.hasp := rfl
@[simp] theorem drawFree_sdp : s.drawFree.2.sdp = s.sdp := rfl
@[simp] theorem drawFree_net : s.drawFree.2.net = s.net := rfl
@[simp] theorem drawFree_tb : s.drawFree.2.tb = s.tb := rfl
@[simp] theorem drawFree_pwr : s.drawFree.2.pwr = s.pwr := rfl
@[simp] theorem drawFree_intake : s.drawFree.2.intake = s.intake := rfl
@[simp] theorem drawFree_test : s.drawFree.2.test = s.test := rfl
@[simp] theorem drawFree_past : s.drawFree.2.past = s.past := rfl

/-! ### at: what every command does first -/

@[simp] theorem at_clk (t : Time) : (s.at t).clk = s.clk.moved t := rfl
@[simp] theorem at_pending (t : Time) : (s.at t).pending = s.pending := rfl
@[simp] theorem at_phase (t : Time) : (s.at t).phase = s.phase := rfl
@[simp] theorem at_part (t : Time) : (s.at t).part = s.part := rfl
@[simp] theorem at_pins (t : Time) : (s.at t).pins = s.pins := rfl
@[simp] theorem at_fe (t : Time) : (s.at t).fe = s.fe := rfl
@[simp] theorem at_eng (t : Time) : (s.at t).eng = s.eng := rfl
@[simp] theorem at_pas (t : Time) : (s.at t).pas = s.pas := rfl
@[simp] theorem at_led (t : Time) : (s.at t).led = s.led := rfl
@[simp] theorem at_sv (t : Time) : (s.at t).sv = s.sv := rfl
@[simp] theorem at_keep (t : Time) : (s.at t).keep = s.keep := rfl
@[simp] theorem at_trac (t : Time) : (s.at t).trac = s.trac := rfl
@[simp] theorem at_kin (t : Time) : (s.at t).kin = s.kin := rfl
@[simp] theorem at_host (t : Time) : (s.at t).host = s.host := rfl
@[simp] theorem at_hec (t : Time) : (s.at t).hec = s.hec := rfl
@[simp] theorem at_cvu (t : Time) : (s.at t).cvu = s.cvu := rfl
@[simp] theorem at_hasp (t : Time) : (s.at t).hasp = s.hasp := rfl
@[simp] theorem at_sdp (t : Time) : (s.at t).sdp = s.sdp := rfl
@[simp] theorem at_net (t : Time) : (s.at t).net = s.net := rfl
@[simp] theorem at_tb (t : Time) : (s.at t).tb = s.tb := rfl
@[simp] theorem at_pwr (t : Time) : (s.at t).pwr = s.pwr := rfl
@[simp] theorem at_intake (t : Time) : (s.at t).intake = s.intake := rfl
@[simp] theorem at_test (t : Time) : (s.at t).test = s.test := rfl
@[simp] theorem at_freeCount (t : Time) : (s.at t).freeCount = s.freeCount := rfl
@[simp] theorem at_past (t : Time) : (s.at t).past = (s.elapse t).snaps s.tbNow := rfl
@[simp] theorem at_nv_ledger (t : Time) : (s.at t).nv.ledger = s.nv.ledger := by
  simp only [State.at, State.elapse, NonVolatile.elapsed]; split <;> rfl
@[simp] theorem at_nv_ckpts (t : Time) : (s.at t).nv.ckpts = s.nv.ckpts := by
  simp only [State.at, State.elapse, NonVolatile.elapsed]; split <;> rfl
@[simp] theorem at_nv_ckSeq (t : Time) : (s.at t).nv.ckSeq = s.nv.ckSeq := by
  simp only [State.at, State.elapse, NonVolatile.elapsed]; split <;> rfl
@[simp] theorem at_nv_ckTime (t : Time) : (s.at t).nv.ckTime = s.nv.ckTime := by
  simp only [State.at, State.elapse, NonVolatile.elapsed]; split <;> rfl
@[simp] theorem at_nv_ckWrites (t : Time) : (s.at t).nv.ckWrites = s.nv.ckWrites := by
  simp only [State.at, State.elapse, NonVolatile.elapsed]; split <;> rfl
@[simp] theorem at_nv_ckErrors (t : Time) : (s.at t).nv.ckErrors = s.nv.ckErrors := by
  simp only [State.at, State.elapse, NonVolatile.elapsed]; split <;> rfl
@[simp] theorem at_nv_cfg (t : Time) : (s.at t).nv.cfg = s.nv.cfg := by
  simp only [State.at, State.elapse, NonVolatile.elapsed]; split <;> rfl
@[simp] theorem at_nv_waiting (t : Time) : (s.at t).nv.waiting = s.nv.waiting := by
  simp only [State.at, State.elapse, NonVolatile.elapsed]; split <;> rfl
@[simp] theorem at_nv_nextSet (t : Time) : (s.at t).nv.nextSet = s.nv.nextSet := by
  simp only [State.at, State.elapse, NonVolatile.elapsed]; split <;> rfl
@[simp] theorem at_nv_journal (t : Time) : (s.at t).nv.journal = s.nv.journal := by
  simp only [State.at, State.elapse, NonVolatile.elapsed]; split <;> rfl
@[simp] theorem at_nv_chans (t : Time) : (s.at t).nv.chans = s.nv.chans := by
  simp only [State.at, State.elapse, NonVolatile.elapsed]; split <;> rfl
@[simp] theorem at_nv_heads (t : Time) : (s.at t).nv.heads = s.nv.heads := by
  simp only [State.at, State.elapse, NonVolatile.elapsed]; split <;> rfl
@[simp] theorem at_nv_secs (t : Time) : (s.at t).nv.secs = s.nv.secs := by
  simp only [State.at, State.elapse, NonVolatile.elapsed]; split <;> rfl
@[simp] theorem at_nv_conns (t : Time) : (s.at t).nv.conns = s.nv.conns := by
  simp only [State.at, State.elapse, NonVolatile.elapsed]; split <;> rfl
@[simp] theorem at_nv_keys (t : Time) : (s.at t).nv.keys = s.nv.keys := by
  simp only [State.at, State.elapse, NonVolatile.elapsed]; split <;> rfl
@[simp] theorem at_nv_pitch (t : Time) : (s.at t).nv.pitch = s.nv.pitch := by
  simp only [State.at, State.elapse, NonVolatile.elapsed]; split <;> rfl
@[simp] theorem at_nv_pitchRes (t : Time) : (s.at t).nv.pitchRes = s.nv.pitchRes := by
  simp only [State.at, State.elapse, NonVolatile.elapsed]; split <;> rfl
@[simp] theorem at_nv_mem (t : Time) : (s.at t).nv.mem = s.nv.mem := by
  simp only [State.at, State.elapse, NonVolatile.elapsed]; split <;> rfl
@[simp] theorem at_nv_repair (t : Time) : (s.at t).nv.repair = s.nv.repair := by
  simp only [State.at, State.elapse, NonVolatile.elapsed]; split <;> rfl
@[simp] theorem at_nv_images (t : Time) : (s.at t).nv.images = s.nv.images := by
  simp only [State.at, State.elapse, NonVolatile.elapsed]; split <;> rfl
@[simp] theorem at_nv_refusedRaises (t : Time) : (s.at t).nv.refusedRaises = s.nv.refusedRaises := by
  simp only [State.at, State.elapse, NonVolatile.elapsed]; split <;> rfl
@[simp] theorem at_nv_opsecSaved (t : Time) : (s.at t).nv.opsecSaved = s.nv.opsecSaved := by
  simp only [State.at, State.elapse, NonVolatile.elapsed]; split <;> rfl

end Sys2Proof.Machine
end

