-- ==== Sys2Proof/WellFormed.lean ====
section
/-! DEFINITION. Which commands are well formed: the bounds on operands that the types of Syntax.lean leave open. A command
outside them is no command of the block; exec never asks (its meanings are total), statements that need a bound say so. -/

namespace Sys2Proof

/-- A number that fits n bits. -/
def fits (n x : Nat) : Bool := decide (x < 2 ^ n)

/-- R68, R116: a channel is converted at 2 MSPS and fast samples come every 8 µs, so a fast sample brings 16 conversions. -/
def rawsWf (l : List RawIn) : Bool := l.length == 16

/-- R127, R131: PEAK is a 16-bit magnitude, CLASS a code of R131 that is not reserved. -/
def PresenceEvent.wf (e : PresenceEvent) : Bool := fits 16 e.peak && (decide (e.cls ≤ 3) || decide (8 ≤ e.cls ∧ e.cls ≤ 11))

/-- R60, R61: amplitude, current and gain codes run from 0 to 7. -/
def CalReport.wf (r : CalReport) : Bool :=
  r.limiterActs.length == 8 && r.peakCurrent.length == 8 && r.senseShare.length == 8

/-- R349: an untagged frame carries at most 1500 bytes after the EtherType. -/
def Frame.wf (f : Frame) : Bool := decide (f.body.length ≤ 1500)

/-- R294: a request from the network has at most 1500 bytes of payload. -/
def SdpSrc.wf : SdpSrc → Bool
  | .mailbox => true
  | .net _ _ p => decide (p.length ≤ 1500)

/-- R418: a record holds at most 255 payload bytes. -/
def RecEvent.wf (e : RecEvent) : Bool := decide (e.payload.length ≤ 255)

/-- R358: the fields of an Announce message have the widths IEEE 802.1AS gives them. -/
def AnnounceInfo.wf (a : AnnounceInfo) : Bool :=
  fits 8 a.priority1 && fits 8 a.clockClass && fits 8 a.accuracy && fits 16 a.variance && fits 8 a.priority2 &&
    fits 16 a.steps && fits 16 a.source

/-- Dictionary keys are index × 256 + sub (R294). -/
def BootReport.wf (r : BootReport) : Bool := r.badEntries.all (fits 24)

/-- The well-formed commands. -/
def Instr.wf : Instr → Bool
  | .supervisorsInService _ r => r.wf
  | .fastSample _ _ l => rawsWf l
  | .presenceEvent _ ev => ev.wf
  | .loopMonitorEval _ _ amp unblanked => decide (0 ≤ amp) && decide (unblanked ≤ 16)
  | .excCurrentEval _ _ cur _ => decide (0 ≤ cur)
  | .burnoutEval _ _ share => decide (0 ≤ share) && decide (share ≤ 1)
  | .reconnectQuietExpiry _ _ r => r.wf
  | .calibrationStart _ _ r => r.wf
  | .tchReading _ _ _ _ vref => decide (0 < vref)
  | .disturbedHoldExpiry _ _ _ cause => decide (1 ≤ cause) && decide (cause ≤ 18)
  | .registerWrite _ _ size _ => size == 1 || size == 2 || size == 4
  | .cvuData _ _ width _ => width == 1 || width == 2 || width == 4
  | .haspReceive _ _ f => f.wf
  | .frameReceive _ _ f => f.wf
  | .cutThroughStart _ _ f => f.wf
  | .pitchCommit _ src => src.wf
  | .strike _ src => src.wf
  | .sweepRequest _ src => src.wf
  | .directClear _ src => src.wf
  | .rereference _ src => src.wf
  | .bemfRelease _ src => src.wf
  | .keySlotLoad _ src => src.wf
  | .noEntryRelease _ src => src.wf
  | .scanNow _ src => src.wf
  | .proofNow _ src => src.wf
  | .releaseOverride _ src => src.wf
  | .sdpOpen _ src => src.wf
  | .sdpClose _ src => src.wf
  | .sdpRead _ src => src.wf
  | .sdpWrite _ src => src.wf
  | .readInit _ src => src.wf
  | .readSeg _ src => src.wf
  | .writeInit _ src => src.wf
  | .writeSeg _ src => src.wf
  | .xferAbort _ src => src.wf
  | .txnBegin _ src => src.wf
  | .txnEnd _ src _ => src.wf
  | .txnDiscard _ src => src.wf
  | .unknownOp _ src => src.wf
  | .challenge _ src => src.wf
  | .response _ src => src.wf
  | .sessionLevel _ src => src.wf
  | .pendingCommit _ src => src.wf
  | .pendingDiscard _ src => src.wf
  | .waitingCancel _ src => src.wf
  | .rollback _ src _ => src.wf
  | .rerun _ src _ => src.wf
  | .recAdvance _ src => src.wf
  | .recorderEvent _ ev => ev.wf
  | .recordWritten _ rowFails _ => decide (rowFails ≤ 65536)
  | .announce _ _ a => a.wf
  | .isolationRequest _ _ durUs patterns => fits 32 durUs && fits 32 patterns
  | .testDone _ patterns _ => fits 32 patterns
  | .mramRefresh _ _ row _ => fits 16 row
  | .storeEccError _ key => fits 24 key
  | .powerGood _ => true
  | .resetRelease _ _ _ => true
  | .trialStartFailure _ => true
  | .removalWarning _ => true
  | .supplyLoss _ => true
  | .skrstReq _ => true
  | .immediateReset _ => true
  | .railOutOfRange _ _ => true
  | .feedDisconnect _ _ => true
  | .feedReconnect _ _ => true
  | .feedOutOfRangeWarning _ _ => true
  | .opsecSave _ => true
  | .evaluationStep _ _ => true
  | .deferredSetApply _ => true
  | .verdictShadowLoad _ _ => true
  | .deadboltDrop _ _ _ => true
  | .permitRise _ _ => true
  | .supervisorFailure _ _ _ => true
  | .supervisorClockFault _ _ => true
  | .stepOverrun _ _ => true
  | .degradedRunEntry _ => true
  | .degradedClearExpiry _ => true
  | .referenceSwitchover _ => true
  | .bothReferencesLost _ => true
  | .frameBoundary _ => true
  | .settlingMaskEnd _ _ => true
  | .commonModeEval _ _ _ _ => true
  | .faultCauseFinal _ _ => true
  | .calibrationDone _ _ => true
  | .channelWarning _ _ _ => true
  | .warningHoldExpiry _ _ _ => true
  | .blankStuck _ _ => true
  | .blankSourceRestore _ _ => true
  | .scanDue _ _ => true
  | .scanOverdue _ _ => true
  | .scanPauseStart _ _ => true
  | .scanComplete _ _ => true
  | .noiseBlock _ _ => true
  | .baselineStore _ => true
  | .driftEvaluation _ _ => true
  | .kappaFit _ _ => true
  | .residualPresence _ _ => true
  | .engineCheckpoint _ _ _ => true
  | .engineFailure _ _ _ => true
  | .takeoverFirstDecision _ _ => true
  | .proofTestDue _ _ => true
  | .proofTestStart _ _ => true
  | .proofTestEnd _ _ => true
  | .proofTestRetry _ _ => true
  | .proofTestOverdue _ _ => true
  | .ledgerStall _ _ => true
  | .ledgerScrub _ _ _ _ => true
  | .checkpointDone _ _ => true
  | .tumblerCompare _ => true
  | .tumblerToleranceExpiry _ => true
  | .tumblerRederiveDone _ => true
  | .clearTimerExpiry _ _ _ => true
  | .bemfAlarm _ _ _ => true
  | .tractionStage _ _ _ _ => true
  | .tractionCommit _ _ _ => true
  | .tractionStale _ _ => true
  | .kinExpiry _ _ => true
  | .skTimeRead _ => true
  | .deadboltClear _ _ => true
  | .mailboxSend _ => true
  | .mailboxCancel _ => true
  | .mailboxResponse _ => true
  | .hecSourcePending _ _ => true
  | .hecAccept _ _ => true
  | .hecFirstAccess _ _ => true
  | .hecEoi _ _ _ => true
  | .hecPendClear _ _ _ _ => true
  | .hecTargetWrite _ _ _ => true
  | .hecVbaseWrite _ _ _ => true
  | .clrCounts _ => true
  | .coreReset _ _ => true
  | .cvuCtrlWrite _ _ _ => true
  | .start _ _ => true
  | .finish _ _ => true
  | .clrRej _ _ => true
  | .cvuValWrite _ _ _ => true
  | .haspGateClose _ _ => true
  | .haspSend _ _ => true
  | .connectionTimeout _ _ => true
  | .laneTimeout _ _ _ => true
  | .mirrorGapTimeout _ _ => true
  | .attestTimeout _ _ => true
  | .attestRetry _ _ => true
  | .attestHeldClear _ _ => true
  | .selfAttestation _ _ => true
  | .pitchTime _ => true
  | .validationTimeout _ => true
  | .sessionIdleTimeout _ _ => true
  | .transferTimeout _ _ => true
  | .pendingTimeout _ _ => true
  | .txnTimeout _ => true
  | .raiseBarExpiry _ _ => true
  | .configWanted _ => true
  | .imageCheckDone _ _ _ _ => true
  | .tokenRefill _ _ => true
  | .suppressionRunEnd _ _ => true
  | .linkUp _ _ _ _ => true
  | .linkDown _ _ => true
  | .addressAgeout _ => true
  | .nodeTableAgeout _ => true
  | .prpTrailerEnable _ => true
  | .supervisionFrame _ => true
  | .pdelayReq _ _ _ => true
  | .sync _ _ _ => true
  | .syncTimeout _ => true
  | .holdoverExpiry _ => true
  | .syncPpsEdge _ => true
  | .syncPpsTimeout _ => true
  | .syncPpsOutput _ => true
  | .tbClockLoss _ => true
  | .sleepExecute _ => true
  | .wakeTimer _ => true
  | .wakeComplete _ _ => true
  | .hibernateHaspSend _ _ => true
  | .isolationReady _ => true
  | .testDoneTimeout _ => true
  | .isolationReturnDone _ => true
  | .memoryScrub _ _ _ => true
  | .comparatorTest _ _ _ => true
  | .tumblerTest _ _ => true
  | .deadboltPathTest _ _ _ => true
  | .authKnownAnswer _ _ => true
  | .deFailure _ _ => true
  | .crystalLoss _ => true
  | .rcLoss _ => true
  | .dieOvertemp _ => true
  | .blankingWindowEdge _ _ _ => true
  | .contactBounce _ => true
  | .egressFrameEnd _ _ => true
  | .syncPpsPulseEnd _ => true

end Sys2Proof
end

