-- ==== Sys2Proof/Tests/Slice0.lean ====
section
/-! SUPPORT. Tests: an ill-formed term for each check of WellFormed, which the check refuses; values that the specification
states; and for every statement with hypotheses a state and operands that meet them. -/

namespace Sys2Proof.Machine.Slice0

set_option Elab.async false

/-! ### Ill-formed commands are refused -/

/-- A frame whose body is one byte too long. -/
def longFrame : Frame :=
  { dst := 0, src := 0, tag := none, ether := 0, body := List.replicate 1501 0, prp := none, fcsOk := true }
/-- A payload one byte too long. -/
def longSrc : SdpSrc := .net 0 none (List.replicate 1501 0)
/-- A calibration report without measurements. -/
def emptyCal : CalReport :=
  { selfCheck := true, limiterActs := [], peakCurrent := [], senseShare := [], aCal := 1, iCal := 1, aRefLow := 1, aRefHigh := 1 }
/-- A start-up report with one entry's key as given. -/
def bootOf (l : List Nat) : BootReport :=
  { svaFail := none, svbFail := none, engKat := 0, mapLost := false, rowsFound := [], deadboltOk := 0, imageCrcA := 0,
    imageCrcB := 0, badEntries := l }
/-- A master's message with one field as given. -/
def announceOf (p1 cc acc var p2 steps src : Nat) : AnnounceInfo :=
  { priority1 := p1, clockClass := cc, accuracy := acc, variance := var, priority2 := p2, gmId := 0, steps := steps, source := src }

theorem test_wf_boot : (Instr.supervisorsInService 0 (bootOf [2 ^ 24])).wf = false := by decide +kernel
theorem test_wf_raws : (Instr.fastSample 0 0 []).wf = false ∧ (Instr.fastSample 0 0 (List.replicate 17 ⟨0, false⟩)).wf = false := by
  decide +kernel
theorem test_wf_peak : (Instr.presenceEvent 0 { ch := 0, edge := .endd, stamp := 0, peak := 65536 }).wf = false := by decide +kernel
theorem test_wf_class : (Instr.presenceEvent 0 { ch := 0, edge := .endd, stamp := 0, cls := 4 }).wf = false := by decide +kernel
theorem test_wf_amp : (Instr.loopMonitorEval 0 0 (-1) 16).wf = false := by decide +kernel
theorem test_wf_unblanked : (Instr.loopMonitorEval 0 0 1 17).wf = false := by decide +kernel
theorem test_wf_current : (Instr.excCurrentEval 0 0 (-1) false).wf = false := by decide +kernel
theorem test_wf_share : (Instr.burnoutEval 0 0 2).wf = false := by decide +kernel
theorem test_wf_share_low : (Instr.burnoutEval 0 0 (-1)).wf = false := by decide +kernel
theorem test_wf_cal : (Instr.calibrationStart 0 0 emptyCal).wf = false ∧ (Instr.reconnectQuietExpiry 0 0 emptyCal).wf = false := by
  decide +kernel
theorem test_wf_cal_lists :
    ({ emptyCal with limiterActs := List.replicate 8 true, peakCurrent := List.replicate 8 0 } : CalReport).wf = false ∧
      ({ emptyCal with limiterActs := List.replicate 8 true, senseShare := List.replicate 8 0 } : CalReport).wf = false ∧
      ({ emptyCal with peakCurrent := List.replicate 8 0, senseShare := List.replicate 8 0 } : CalReport).wf = false := by
  decide +kernel
theorem test_wf_vref : (Instr.tchReading 0 0 1 1 0).wf = false := by decide +kernel
theorem test_wf_hold : (Instr.disturbedHoldExpiry 0 0 0 0).wf = false ∧ (Instr.disturbedHoldExpiry 0 0 0 19).wf = false := by
  decide +kernel
theorem test_wf_size : (Instr.registerWrite 0 0 3 0).wf = false := by decide +kernel
theorem test_wf_width : (Instr.cvuData 0 0 3 0).wf = false := by decide +kernel
theorem test_wf_frame : (Instr.haspReceive 0 0 longFrame).wf = false ∧ (Instr.frameReceive 0 0 longFrame).wf = false ∧
    (Instr.cutThroughStart 0 0 longFrame).wf = false := by decide +kernel
theorem test_wf_commits : (Instr.pitchCommit 0 longSrc).wf = false ∧ (Instr.strike 0 longSrc).wf = false ∧
    (Instr.sweepRequest 0 longSrc).wf = false ∧ (Instr.directClear 0 longSrc).wf = false ∧ (Instr.rereference 0 longSrc).wf = false ∧
    (Instr.bemfRelease 0 longSrc).wf = false ∧ (Instr.keySlotLoad 0 longSrc).wf = false ∧ (Instr.noEntryRelease 0 longSrc).wf = false ∧
    (Instr.scanNow 0 longSrc).wf = false ∧ (Instr.proofNow 0 longSrc).wf = false ∧ (Instr.releaseOverride 0 longSrc).wf = false := by
  decide +kernel
theorem test_wf_requests : (Instr.sdpOpen 0 longSrc).wf = false ∧ (Instr.sdpClose 0 longSrc).wf = false ∧
    (Instr.sdpRead 0 longSrc).wf = false ∧ (Instr.sdpWrite 0 longSrc).wf = false ∧ (Instr.readInit 0 longSrc).wf = false ∧
    (Instr.readSeg 0 longSrc).wf = false ∧ (Instr.writeInit 0 longSrc).wf = false ∧ (Instr.writeSeg 0 longSrc).wf = false ∧
    (Instr.xferAbort 0 longSrc).wf = false ∧ (Instr.txnBegin 0 longSrc).wf = false ∧ (Instr.txnEnd 0 longSrc .whole).wf = false ∧
    (Instr.txnDiscard 0 longSrc).wf = false ∧ (Instr.unknownOp 0 longSrc).wf = false := by decide +kernel
theorem test_wf_levels : (Instr.challenge 0 longSrc).wf = false ∧ (Instr.response 0 longSrc).wf = false ∧
    (Instr.sessionLevel 0 longSrc).wf = false ∧ (Instr.pendingCommit 0 longSrc).wf = false ∧ (Instr.pendingDiscard 0 longSrc).wf = false ∧
    (Instr.waitingCancel 0 longSrc).wf = false ∧ (Instr.rollback 0 longSrc .whole).wf = false ∧ (Instr.rerun 0 longSrc .whole).wf = false ∧
    (Instr.recAdvance 0 longSrc).wf = false := by decide +kernel
theorem test_wf_event : (Instr.recorderEvent 0 { code := 1, time := 0, payload := List.replicate 256 0 }).wf = false := by decide +kernel
theorem test_wf_rows : (Instr.recordWritten 0 65537 0).wf = false := by decide +kernel
theorem test_wf_announce : (Instr.announce 0 0 (announceOf 256 0 0 0 0 0 0)).wf = false ∧ (Instr.announce 0 0 (announceOf 0 256 0 0 0 0 0)).wf = false ∧
    (Instr.announce 0 0 (announceOf 0 0 256 0 0 0 0)).wf = false ∧ (Instr.announce 0 0 (announceOf 0 0 0 65536 0 0 0)).wf = false ∧
    (Instr.announce 0 0 (announceOf 0 0 0 0 256 0 0)).wf = false ∧ (Instr.announce 0 0 (announceOf 0 0 0 0 0 65536 0)).wf = false ∧
    (Instr.announce 0 0 (announceOf 0 0 0 0 0 0 65536)).wf = false := by decide +kernel
theorem test_wf_isolation : (Instr.isolationRequest 0 0 (2 ^ 32) 0).wf = false ∧ (Instr.isolationRequest 0 0 0 (2 ^ 32)).wf = false := by
  decide +kernel
theorem test_wf_patterns : (Instr.testDone 0 (2 ^ 32) true).wf = false := by decide +kernel
theorem test_wf_refresh : (Instr.mramRefresh 0 .recorder 65536 true).wf = false := by decide +kernel
theorem test_wf_entry : (Instr.storeEccError 0 (2 ^ 24)).wf = false := by decide +kernel
theorem test_wf_reset : (Instr.powerGood 0).wf = true := by decide

/-! ### Values that the specification states -/

/-- The message "123456789" of R407. -/
def digits : List Byte := (List.range 9).map fun i => BitVec.ofNat 8 (0x31 + i)
/-- R407: the check values of the four polynomials. -/
theorem test_check_values : crcOf 0 digits = 0xCBF43926 ∧ crcOf 1 digits = 0xE3069283 ∧ crcOf 2 digits = 0x29B1 ∧ crcOf 3 digits = 0xDF := by
  decide +kernel
/-- The first worked example of chapter 15: VAL after START, after "12" and after "3456789", and RESULT. -/
theorem test_cvu_example :
    let u := (({} : Cvu).control 0x43).begun
    let a := crcFold 3 u.val [0x31, 0x32]
    u.val = 0xFF ∧ a = 0xBD ∧ crcFold 3 a ((List.range 7).map fun i => BitVec.ofNat 8 (0x33 + i)) = 0x20 ∧
      (({ u with val := 0x20 } : Cvu).ended 0).result = 0xDF := by
  decide +kernel
/-- R273: the reset word is 0x0000_000D; a word of all zeros or all ones fails parity. -/
theorem test_reset_word : State.reset.keep.shadow[0] = 0x0000000D ∧ parOk 0x0000000D = true ∧ parOk 0 = false ∧ parOk 0xFFFFFFFF = false := by
  decide +kernel


/-! ### States that meet the hypotheses of the statements -/

/-- A part out of reset, in service with both supervisors. -/
def inService : State :=
  { State.reset with phase := .service, sv := Vector.replicate 2 { st := .inService } }
/-- A part that starts up. -/
def starting : State := { State.reset with phase := .booting }
/-- In service, with a change of supervisor v's proposal for section 0. -/
def withProp (v : Fin 2) (f : Prop_ → Prop_) : State := inService.onSv v fun x => x.onProp 0 f
/-- In service, with a change of supervisor v's restoration of section 0. -/
def withRest (v : Fin 2) (f : Rest → Rest) : State := inService.onSv v fun x => (x.onRest 0 f).onProp 0 fun p => { p with state := .restoring }
/-- In service, with other working settings. -/
def withWork (l : List KeyVal) (s : State) : State := { s with sdp := { s.sdp with work := l } }
/-- One supervisor has failed and the other serves. -/
def oneFailed : State := inService.onSv 1 fun x => { x with st := .failed }
/-- A section 0 about to become CLEAR in supervisor 1: no legs, so every head is fit. -/
def clearing : State := { (inService.onSv 1 fun x => (x.onProp 0 fun p => { p with state := .occupied, clearAt := some 5 })) with clk := { now := secs 20 } }
/-- Section 0 CLEAR in supervisor 1 with the back-EMF witness at its limit. -/
def spinning : State :=
  withWork [(dkey 0x3300 1, [1]), (dkey 0x3300 6, [1]), (dkey 0x3300 7, [1, 0])]
    { (inService.onSv 1 fun x => x.onProp 0 fun p => { p with state := .clear, bemfAt := some 5 }) with
      clk := { now := secs 20 }
      trac := Vector.replicate 4 { fresh := true, bemf := 0xFFFF, ctrl := 0x3000 } }
/-- In service, every channel of the front end as given. -/
def withChans (ch : Chan) : State := { inService with fe := { chans := Vector.replicate 16 ch } }
/-- A channel in service. -/
def liveChan : Chan := { phase := .inService, excOn := true, aCal := 1, iCal := 16, burn := 2, loopAmp := 1, excCur := 16 }
/-- A report that passes calibration. -/
def goodCal : CalReport :=
  { selfCheck := true, limiterActs := List.replicate 8 false, peakCurrent := List.replicate 8 16,
    senseShare := [1/10, 1/5, 2/5, 3/5, 4/5, 1, 1, 1], aCal := 1, iCal := 16, aRefLow := 1, aRefHigh := 1 }
/-- In service, with head 0 enabled. -/
def headOn : List KeyVal := [(dkey 0x2100 1, [1])]
/-- In service with live channels that have baselines, every detector as given. -/
def withDets (d : Det) : State := { withChans liveChan with eng := { dets := Vector.replicate 16 d } }
/-- A fast sample of the stream. -/
def someFast : FastS := { zL := { re := 1 }, zH := { re := 1 }, settling := false }
/-- A Ledger whose slot 3 holds an entry in both copies. -/
def oneEntry (en : Entry) : Ledger := { copies := Vector.replicate 2 [(3, en)] }
/-- A checkpoint of nothing. -/
def blankCkpt : Checkpoint := inService.checkpoint
/-- An episode in which both systems are confirmed and have ended, X before Y. -/
def crossing : Episode :=
  { active := true, conf := #v[some 10, some 20], ends := #v[some { stamp := 30, centroid := 15, peak := 300, cls := 1 },
      some { stamp := 40, centroid := 25, peak := 300, cls := 1 }] }
/-- A request of the mailbox's session. -/
def reqOf (op key : Nat) (data : List Byte) (flags : Nat := 0) (seg : Nat := 0) : SdpReq :=
  parseSdp (sdpPayload op flags 0 7 (key / 256) (key % 256) seg data)
/-- A state whose mailbox holds a request, its session at level 3. -/
def asked (q : SdpReq) (s : State) (f : Session → Session := id) : State :=
  { s with
    host := { s.host with mailbox := { busy := true, current := some q.whole } }
    sdp := { s.sdp with sessions := s.sdp.sessions.set 0 (f { s.sdp.sessions[0] with level := 3 }) } }
/-- The row of an entry. -/
def rowOf (key : Nat) : DRow := (dictRow key).getD ⟨0, 0, 0, 0, .u8, .ro, 0, 0, 0, 0, none, false, 0⟩
/-- The commit of a pending set of the mailbox's session. -/
def commitReq (l : List KeyVal) : SdpReq := reqOf opWrite keyCommit (leBytes 4 (crc32c (pendingBytes l)).toNat)
/-- A state that is asked to commit a pending set. -/
def committing (l : List KeyVal) (s : State) : State := asked (commitReq l) s fun x => { x with pending := l }
/-- A request from the field network. -/
def netSrc (op sess key : Nat) (data : List Byte) : SdpSrc := .net 5 none (sdpPayload op 0 sess 7 (key / 256) (key % 256) 0 data)
/-- A state with network session 1 open. -/
def session1 (s : State) (f : Session → Session := id) : State :=
  { s with sdp := { s.sdp with sessions := s.sdp.sessions.set 1 (f { opened := true, mac := 5, idle := 60 }) } }
/-- In service with section 0 a stub of head 0, healthy and quiet, its settings in use and its epoch 3, RESTORING. -/
def stub : State :=
  withWork [(dkey 0x2100 1, [1]), (dkey 0x2200 1, [1]), (dkey 0x2200 2, [0, 0xFF, 0xFF, 0xFF]), (dkey 0x2200 3, [1]),
      (dkey 0x2200 9, [0x20, 3]), (dkey 0x2200 0x0A, [1]), (dkey 0x3200 0x11, [60, 0])]
    { ({ withDets { haveB0 := true } with sdp := { inService.sdp with posState := 0, position := 7 } }).bothSv fun _ x =>
        (x.onProp 0 fun p => { p with state := .restoring }).onRest 0 fun r => { r with state := 1 } with
      eng := { dets := Vector.replicate 16 { haveB0 := true }, assigned := Vector.ofFn fun h : Fin 8 => some ⟨h.val, by omega⟩ }
      nv := { inService.nv with secs := inService.nv.secs.map fun e => { e with epoch := 3 } } }
/-- The network runs: trailers, good time, every port with its link and neighbour. -/
def online (s : State) : State :=
  { s with
    net := { s.net with trailers := true, ports := Vector.replicate 4 { link := true, asCapable := true } }
    tb := { s.tb with state := 2 } }
/-- Connection 0 enabled, its identifiers 0 and its neighbour at address 5. -/
def connected (s : State) : State :=
  withWork [(dkey 0x1410 1, [1]), (dkey 0x1410 5, [0, 0, 0, 0, 0, 5])] (online s)
/-- Connection 0 as given in supervisor v. -/
def withConn (v : Fin 2) (c : SvConn) : State := (connected inService).onSv v fun x => x.onConn 0 fun _ => c
/-- A good frame with a body. -/
def frameOf (dst src : Mac) (ether : BitVec 16) (body : List Byte) : Frame :=
  { dst := dst, src := src, tag := none, ether := ether, body := padded body, prp := none, fcsOk := true }
/-- A telegram's frame, as connection 0 receives it. -/
def teleFrame (x : Tele) : Frame := frameOf 7 5 0x88B7 (ouiBytes ++ [0x5D, 0x18] ++ x.wire 0 [])
/-- A record request in progress of one supervisor. -/
def withTest (i : Isolation) (s : State) : State := { s with test := { s.test with iso := some i } }
/-- A part in a power state. -/
def asleepIn (x : PState) : State := { inService with pwr := { inService.pwr with state := x } }
/-- One supervisor serves, as the survivor. -/
def survivorOnly (s : State) : State := s.onSv 1 fun x => { x with st := .failed }
/-- The state after a command. -/
def stepped (c : Instr) (s : State) : State := match exec c s with
  | .next u => u
  | _ => s
/-- A permit about to rise. -/
def rising : State :=
  { inService with
    sv := Vector.replicate 2 { st := .inService, votes := Vector.replicate 4 .rise }
    keep := { permits := Vector.replicate 4 { qualAt := some 0 } } }
/-- The stub at 20 ns, in a state that an evaluation step of either supervisor leaves as it is. -/
def settled : State :=
  let s := stub.at 20
  { (s.bothSv fun _ x =>
      { (x.onRest 0 fun r => { r with state := 4, refusal := 2, onceOnly := true }) with
        stepped := true, votes := Vector.replicate 4 (.drop 6), limitHead := 0,
        horizon := updV x.horizon 0 fun _ => some 20 }) with
    keep := { s.keep with
      merged := updV s.keep.merged 0 fun m => { m with state := .restoring, noEntry := false }
      ckBusy := some blankCkpt
      neighbour := 0 } }

def pitSet : List KeyVal := [(dkey 0x4020 1, [1]), (dkey 0x4020 2, [9, 0, 0, 0]), (dkey 0x4020 3, leBytes 8 (secs 30)), (dkey 0x4020 4, [1, 0, 0, 0])]
def sweepable : State := survivorOnly stub

def counted (d : Bool) (b : Nat) : State :=
  { (stub.onSv 1 fun x => (x.onSec 0 fun k => { k with b := b }).onSec 1 fun k => { k with b := b }) with
    led := { copies := Vector.replicate 2 [(3, { seq := 0, head := 0, st := .detected, dir := d })] } }

/-- The state after reset holds the invariant. -/
theorem reset_inv : State.reset.Inv := by
  have c : kvWf State.reset.nv.cfg = true ∧ kvWf State.reset.sdp.work = true ∧ kvWf State.reset.led.copies[0] = true ∧
      kvWf State.reset.led.copies[1] = true := by decide +kernel
  have e : ∀ n : Fin 4, State.reset.keep.holding[n] = none := by decide +kernel
  refine ⟨c, by decide +kernel, ?_⟩
  intro n w h
  rw [e n] at h
  cases h

/-! ### Every statement with hypotheses has a state that meets them -/

theorem wit_IdleBlockKeepsItsState_1 : ∃ (s : State), (s.pending = []) :=
  ⟨State.reset, rfl⟩

theorem wit_EveryStepKeepsTheInvariant_1 : ∃ (s u : State), (s.Inv) ∧ (step s = .next u) :=
  ⟨State.reset, State.reset, reset_inv, rfl⟩

theorem wit_OnlyPermitRiseRaisesAPermit_1 : ∃ (c : Instr) (n : Fin 4) (s u : State), (exec c s = .next u) ∧ (s.keep.permits[n].latch = false) ∧ (u.keep.permits[n].latch = true) :=
  ⟨.permitRise (us 9) 0, 0, rising, stepped (.permitRise (us 9) 0) rising, rfl, by decide +kernel, by decide +kernel⟩

theorem wit_CommandsKeepEveryOtherArea_1 : ∃ (c : Instr) (s u : State), (exec c s = .next u) :=
  ⟨.skTimeRead 5, State.reset, stepped (.skTimeRead 5) State.reset, rfl⟩

theorem wit_PassagesChangeTheBalance_1 : ∃ (v : Fin 2) (sec n : Fin 4) (slot : Fin 2048) (alone : Bool) (en : Entry) (s : State), (s.led.entry 0 slot = some en) ∧ (s.sv[v].props[sec].state ≠ .unconfigured) ∧ (s.legOf sec en.head = some n) ∧ (s.sense sec n = !en.dir) :=
  ⟨1, 0, 0, 3, false, { seq := 0, head := 0, st := .detected, dir := false }, counted false 3, by decide +kernel⟩

theorem wit_PassagesChangeTheBalance_2 : ∃ (v : Fin 2) (sec n : Fin 4) (slot : Fin 2048) (alone : Bool) (en : Entry) (s : State), (s.led.entry 0 slot = some en) ∧ (s.sv[v].props[sec].state ≠ .unconfigured) ∧ (s.legOf sec en.head = some n) ∧ (s.sense sec n = en.dir) :=
  ⟨1, 0, 0, 3, false, { seq := 0, head := 0, st := .detected, dir := true }, counted true 3, by decide +kernel⟩

theorem wit_PassagesChangeTheBalance_3 : ∃ (v : Fin 2) (sec : Fin 4) (slot : Fin 2048) (alone : Bool) (en : Entry) (s : State), (s.led.entry 0 slot = some en) ∧ (s.legOf sec en.head = none) :=
  ⟨1, 1, 3, false, { seq := 0, head := 0, st := .detected, dir := true }, counted true 3, by decide +kernel⟩

theorem wit_OccupancyOneOfTwoClearanceTwoOfTwo_1 : ∃ (n : Fin 4) (v : Fin 2) (s : State), (s.serving = [0, 1]) ∧ (s.sv[v].props[n].state = .occupied ∨ s.sv[v].props[n].state = .disturbed ∨ s.sv[v].props[n].state = .restoring) :=
  ⟨0, 1, withProp 1 fun p => { p with state := .occupied }, by decide +kernel⟩

theorem wit_OccupancyOneOfTwoClearanceTwoOfTwo_2 : ∃ (n : Fin 4) (s : State), (s.serving = [0, 1]) :=
  ⟨0, inService, by decide +kernel⟩

theorem wit_OccupancyOneOfTwoClearanceTwoOfTwo_3 : ∃ (t : Time) (v : Fin 2) (s : State), (s.evaluates v = true) :=
  ⟨5, 1, inService, by decide +kernel⟩

theorem wit_OccupancyOneOfTwoClearanceTwoOfTwo_4 : ∃ (n : Fin 4) (v : Fin 2) (s : State), (s.keep.degraded = false) ∧ (s.sv[v].votes[n] ≠ .rise) :=
  ⟨0, 1, inService, by decide +kernel⟩

theorem wit_OccupancyOneOfTwoClearanceTwoOfTwo_5 : ∃ (t : Time) (n : Fin 4) (i : DropInput) (s : State), (i = .voteA ∨ i = .voteB) :=
  ⟨5, 0, .voteB, rising, by decide +kernel⟩

theorem wit_OccupancyOneOfTwoClearanceTwoOfTwo_6 : ∃ (t : Time) (n : Fin 4) (s u : State), (s.keep.degraded = false) ∧ (exec (.permitRise t n) s = .next u) ∧ (s.keep.permits[n].latch = false) ∧ (u.keep.permits[n].latch = true) :=
  ⟨us 9, 0, rising, stepped (.permitRise (us 9) 0) rising, by decide +kernel, rfl, by decide +kernel, by decide +kernel⟩

theorem wit_VerdictWordsHaveTheirLayout_3 : ∃ (t : Time) (off : BitVec 16) (w : Word) (s : State), (0x0010 ≤ off.toNat) ∧ (off.toNat < 0x0020) :=
  ⟨5, 0x14, 7, rising, by decide +kernel⟩

theorem wit_DeliverableSourcesAreOffered_1 : ∃ (t : Fin 4) (n : Fin 64) (s : State), (s.hecBest t = some n) :=
  ⟨0, 20, { inService with hec := { pend := 0x100000, target := Vector.replicate 64 1 } }, by decide +kernel⟩

theorem wit_DeliverableSourcesAreOffered_2 : ∃ (t : Fin 4) (n : Fin 64) (s : State), (s.hecPending n.val = true) ∧ ((s.hec.target[n]).toNat = t.val + 1) ∧ (s.hec.slots[t].busy = false) :=
  ⟨0, 20, { inService with hec := { pend := 0x100000, target := Vector.replicate 64 1 } }, by decide +kernel⟩

theorem wit_DeliverableSourcesAreOffered_3 : ∃ (t : Time) (src : Fin 64) (s : State), (isPulse src.val = true) :=
  ⟨5, 20, inService, by decide +kernel⟩

theorem wit_DeliverableSourcesAreOffered_4 : ∃ (n : Fin 32) (s : State), (isLevel n.val = true) :=
  ⟨24, { inService with nv := { inService.nv with mem := { stop := 1 } } }, by decide +kernel⟩

theorem wit_DeliverableSourcesAreOffered_5 : ∃ (n : Fin 32) (s : State), (isLevel (n.val + 32) = true) :=
  ⟨2, inService, by decide +kernel⟩

theorem wit_PulseFlagsClearByOnes_1 : ∃ (t : Time) (n : Fin 64) (w sets : Word) (r s : State), (r = (s.at t).hecFlush.hecSample) ∧ (r.hecPowered = true) ∧ (isPulse n.val = true) ∧ (w.getLsbD n.val = true) ∧ ((sets ||| r.hec.setsNow false r.clk.now).getLsbD n.val = false) :=
  ⟨5, 20, 0x100000, 0, ({ inService with hec := { pend := 0x100000 } }.at 5).hecFlush.hecSample, { inService with hec := { pend := 0x100000 } }, by decide +kernel⟩

theorem wit_PulseFlagsClearByOnes_2 : ∃ (t : Time) (n : Fin 64) (w sets : Word) (r s : State), (r = (s.at t).hecFlush.hecSample) ∧ (r.hecPowered = true) ∧ (isPulse n.val = true) ∧ (w.getLsbD n.val = true) ∧ ((sets ||| r.hec.setsNow false r.clk.now).getLsbD n.val = true) :=
  ⟨5, 20, 0x100000, 0x100000, ({ inService with hec := { pend := 0x100000 } }.at 5).hecFlush.hecSample, { inService with hec := { pend := 0x100000 } }, by decide +kernel⟩

theorem wit_PulseFlagsClearByOnes_3 : ∃ (t : Time) (src : Fin 64) (r s : State), (r = (s.at t).hecFlush.hecSample) ∧ (isPulse src.val = true) ∧ (r.hec.pend.getLsbD src.val = true) :=
  ⟨5, 20, ({ inService with hec := { pend := 0x100000 } }.at 5).hecFlush.hecSample, { inService with hec := { pend := 0x100000 } }, by decide +kernel⟩

theorem wit_TargetFieldsHaveTheirLayout_1 : ∃ (t : Time) (i : Fin 8) (w : Word) (r s : State), (r = (s.at t).hecFlush.hecSample) ∧ (r.hecPowered = true) :=
  ⟨5, 5, 0x12345678, (inService.at 5).hecFlush.hecSample, inService, by decide +kernel⟩

theorem wit_TheFourChecksAreR407s_3 : ∃ (p : BitVec 2) (v : Word) (b : Byte), (p = 0 ∨ p = 1) :=
  ⟨1, 0xFFFFFFFF, 0x31, by decide +kernel⟩

theorem wit_CheckRegistersKeepTheirWidth_6 : ∃ (t : Time) (k : Fin 2) (w : Word) (s r : State), (s.cvu[k].poly = r.cvu[k].poly) ∧ (w = r.readWindow (0x1008 + 0x100 * k.val)) :=
  ⟨5, 1, 0x34, { inService with cvu := Vector.replicate 2 { poly := 3, val := 7 } }, { inService with cvu := Vector.replicate 2 { poly := 3, val := 0x1234 } }, by decide +kernel⟩

theorem wit_CheckModeJudgesTheBlock_1 : ∃ (t : Time) (k : Fin 2) (s : State), (s.cvu[k].mode = true) :=
  ⟨5, 1, { inService with cvu := Vector.replicate 2 { mode := true, aliveEn := true, aliveRx := 9, aliveLast := 4, window := 4 } }, by decide +kernel⟩

theorem wit_RowsWithoutASpareAreMappedOut_1 : ∃ (t : Time) (row : BitVec 16) (q : Queued) (s : State), (s.intake.writing = some q) ∧ (s.intake.clearBy = none) ∧ (s.nv.mem.stop = 0) ∧ (s.intake.queue = []) ∧ (s.intake.lost = none) ∧ (s.intake.buckets.all (fun b => !b.held) = true) ∧ (s.nv.repair.spares[0] = 0) ∧ (s.nv.mem.used + ((s.at t).recordBytes q).length + 28 ≤ s.nv.mem.capacity) ∧ (s.nv.mem.mapped < 64) :=
  ⟨5, 7, { ev := { code := 0x0101, time := 7 } }, { inService with intake := { writing := some { ev := { code := 0x0101, time := 7 } } }, nv := { inService.nv with repair := { spares := Vector.replicate 8 0 }, mem := { mapped := 3 } } }, by decide +kernel⟩

theorem wit_RowsWithoutASpareAreMappedOut_2 : ∃ (t : Time) (row : BitVec 16) (q : Queued) (s : State), (s.intake.writing = some q) ∧ (s.intake.clearBy = none) ∧ (s.nv.mem.stop = 0) ∧ (s.intake.queue = []) ∧ (s.intake.lost = none) ∧ (s.intake.buckets.all (fun b => !b.held) = true) ∧ (s.nv.repair.spares[0] = 0) ∧ (s.nv.mem.used + ((s.at t).recordBytes q).length + 28 ≤ s.nv.mem.capacity) ∧ (64 ≤ s.nv.mem.mapped) :=
  ⟨5, 7, { ev := { code := 0x0101, time := 7 } }, { inService with intake := { writing := some { ev := { code := 0x0101, time := 7 } } }, nv := { inService.nv with repair := { spares := Vector.replicate 8 0 }, mem := { mapped := 64 } } }, by decide +kernel⟩

theorem wit_SupplyStartsAndReleasesThePart_1 : ∃ (t : Time) (s : State), (s.pins.highAt.any (fun a => decide (max s.clk.now t < a + ms 10)) = true) :=
  ⟨5, { State.reset with pins := { State.reset.pins with highAt := some 0 } }, by decide +kernel⟩

theorem wit_SupplyStartsAndReleasesThePart_2 : ∃ (t : Time) (s : State), (s.phase = .held ∨ s.phase = .removed) ∧ (s.pins.highAt.all (fun a => decide (a + ms 10 ≤ max s.clk.now t)) = true) :=
  ⟨5, State.reset, by decide +kernel⟩

theorem wit_SupplyStartsAndReleasesThePart_3 : ∃ (t : Time) (a b : BitVec 12) (s : State), (s.phase = .good) :=
  ⟨5, 7, 7, { State.reset with phase := .good }, by decide +kernel⟩

theorem wit_SupplyStartsAndReleasesThePart_4 : ∃ (t : Time) (r : BootReport) (s : State), (s.phase = .booting) ∧ (s.nv.images.trial = false ∨ ((s.at t).bootFails r = false ∧ max s.clk.now t ≤ s.pins.releaseAt + ms 100)) :=
  ⟨5, { svaFail := none, svbFail := none, engKat := 0x1FF, mapLost := false, rowsFound := [], deadboltOk := 0xF, imageCrcA := 0, imageCrcB := 0, badEntries := [] }, starting, by decide +kernel⟩

theorem wit_SupplyStartsAndReleasesThePart_5 : ∃ (t : Time) (s : State), (s.phase = .booting) ∧ (s.nv.images.trial = true) :=
  ⟨5, { starting with nv := { starting.nv with images := { starting.nv.images with trial := true } } }, by decide +kernel⟩

theorem wit_SupplyWarningsEndService_1 : ∃ (t : Time) (s : State), (s.phase = .booting ∨ s.phase = .service) :=
  ⟨5, inService, by decide +kernel⟩

theorem wit_SupplyWarningsEndService_2 : ∃ (t : Time) (s : State), (s.phase = .booting ∨ s.phase = .service) :=
  ⟨5, inService, by decide +kernel⟩

theorem wit_SupplyWarningsEndService_3 : ∃ (t : Time) (s : State), (s.phase = .booting ∨ s.phase = .service) :=
  ⟨5, inService, by decide +kernel⟩

theorem wit_SupplyWarningsEndService_4 : ∃ (t : Time) (s : State), (s.phase = .service) :=
  ⟨5, inService, by decide +kernel⟩

theorem wit_SupplyEventsAreKept_1 : ∃ (t : Time) (f : Fin 2) (s : State), (s.pins.feeds[f].connected = true) ∧ (s.released = true) :=
  ⟨5, 0, inService, by decide +kernel⟩

theorem wit_SupplyEventsAreKept_2 : ∃ (t : Time) (f : Fin 2) (s : State), (s.pins.feeds[f].connected = false) ∧ (s.released = true) :=
  ⟨5, 0, { inService with pins := { inService.pins with feeds := Vector.replicate 2 { connected := false } } }, by decide +kernel⟩

theorem wit_SupplyEventsAreKept_3 : ∃ (t : Time) (f : Fin 2) (s : State), (s.pins.feeds[f].connected = true) ∧ (s.released = true) :=
  ⟨5, 0, inService, by decide +kernel⟩

theorem wit_SupplyEventsAreKept_4 : ∃ (t : Time) (s : State), (s.released = true) ∧ ((s.nv.opsecSaved + 60) * 1000000000 ≤ s.nv.opsecNs) :=
  ⟨5, { inService with nv := { inService.nv with opsecNs := 60000000000 } }, by decide +kernel⟩

theorem wit_SupplyEventsAreKept_5 : ∃ (t : Time) (s : State), (s.released = true) :=
  ⟨5, inService, by decide +kernel⟩

theorem wit_EvaluationStepsMergeAndVote_1 : ∃ (t : Time) (v : Fin 2) (s : State), (s.evaluates v = true) :=
  ⟨5, 1, inService, by decide +kernel⟩

theorem wit_EvaluationStepsMergeAndVote_2 : ∃ (t a : Time) (v : Fin 2) (sec : Fin 4) (s : State), (s.evaluates v = true) ∧ (s.sv[v].props[sec].clearAt = some a) ∧ (a + ms (s.clearConfirmDelay sec) ≤ t) :=
  ⟨ms 2000, 5, 1, 0, withProp 1 fun p => { p with clearAt := some 5 }, by decide +kernel⟩

theorem wit_EvaluationStepsMergeAndVote_3 : ∃ (t a : Time) (v : Fin 2) (sec : Fin 4) (cause : Nat) (s : State), (s.evaluates v = true) ∧ (kvGet cause s.sv[v].props[sec].causes = some a) ∧ (a + ms (s.disturbedHold sec) ≤ t) :=
  ⟨secs 2000, 5, 0, 0, 9, withProp 0 fun p => { p with causes := [(9, 5)] }, by decide +kernel⟩

theorem wit_EvaluationStepsMergeAndVote_4 : ∃ (t a : Time) (v : Fin 2) (sec : Fin 4) (s : State), (s.evaluates v = true) ∧ (s.sv[v].props[sec].bemfAt = some a) ∧ (a + ms (s.bemfTime sec) ≤ t) :=
  ⟨secs 20, 5, 1, 0, withProp 1 fun p => { p with bemfAt := some 5 }, by decide +kernel⟩

theorem wit_RestorationTimersMerge_1 : ∃ (t : Time) (v : Fin 2) (sec : Fin 4) (s : State), (s.evaluates 0 = true ∨ s.evaluates 1 = true) ∧ (v ∈ s.serving) ∧ (s.sv[v].rests[sec].state = 2) ∧ (s.sv[v].rests[sec].tR ≠ 0) ∧ (s.sv[v].rests[sec].reqAt + ms s.attestTimeout ≤ t) :=
  ⟨secs 20, 1, 0, withRest 1 fun r => { r with state := 2, tR := 3 }, by decide +kernel⟩

theorem wit_RestorationTimersMerge_2 : ∃ (t : Time) (v : Fin 2) (sec : Fin 4) (s : State), (s.evaluates 0 = true ∨ s.evaluates 1 = true) ∧ (v ∈ s.serving) ∧ ((s.at t).retryDue v sec = true) :=
  ⟨secs 2000, 1, 0, withRest 1 fun r => { r with state := 4, retryAt := some 7 }, by decide +kernel⟩

theorem wit_RestorationTimersMerge_3 : ∃ (t : Time) (v : Fin 2) (sec : Fin 4) (s : State), (s.evaluates 0 = true ∨ s.evaluates 1 = true) ∧ (v ∈ s.serving) ∧ (s.sv[v].rests[sec].state = 3) ∧ ((s.at t).heldLong v sec = true) :=
  ⟨secs 20, 1, 0, withRest 1 fun r => { r with state := 3 }, by decide +kernel⟩

theorem wit_RestorationTimersMerge_4 : ∃ (t a : Time) (v : Fin 2) (sec : Fin 4) (s : State), (s.evaluates 0 = true ∨ s.evaluates 1 = true) ∧ (v ∈ s.serving) ∧ (s.sv[v].props[sec].selfAt = some a) ∧ (a + ms (s.clearConfirmDelay sec) ≤ t) :=
  ⟨secs 20, 7, 1, 0, withProp 1 fun p => { p with selfAt := some 7 }, by decide +kernel⟩

theorem wit_ProposalsFollowTheirTimers_1 : ∃ (v : Fin 2) (sec : Fin 4) (a : Time) (s : State), (s.sv[v].props[sec].clearAt = some a) ∧ ((s.clearConds v sec).all id = true) ∧ (a + ms (s.clearConfirmDelay sec) ≤ s.clk.now) ∧ (s.keep.degraded = false) :=
  ⟨1, 0, 5, clearing, by decide +kernel⟩

theorem wit_ProposalsFollowTheirTimers_3 : ∃ (v : Fin 2) (sec : Fin 4) (a : Time) (s : State), (s.sv[v].props[sec].state = .clear) ∧ (s.sv[v].props[sec].witness = false) ∧ (s.witnessOn sec = true) ∧ (s.bemfHigh sec = true) ∧ (s.sv[v].props[sec].bemfAt = some a) ∧ (a + ms (s.bemfTime sec) ≤ s.clk.now) :=
  ⟨1, 0, 5, spinning, by decide +kernel⟩

theorem wit_ProposalsFollowTheirTimers_4 : ∃ (v : Fin 2) (sec : Fin 4) (s : State), (s.sv[v].props[sec].state = .restoring) ∧ (s.sv[v].rests[sec].state = 3) ∧ (s.sv[v].secs[sec].b = 0) ∧ ((s.legHeadsOf sec).all (fun h => s.quiet h) = true) ∧ (s.heldLong v sec = true) ∧ (s.keep.degraded = false) :=
  ⟨1, 0, { withRest 1 (fun r => { r with state := 3 }) with clk := { now := secs 20 } }, by decide +kernel⟩

theorem wit_ProposalsFollowTheirTimers_5 : ∃ (v : Fin 2) (sec : Fin 4) (s : State), (s.sv[v].props[sec].state = .restoring) ∧ (s.sv[v].rests[sec].state = 3) ∧ (s.sv[v].secs[sec].b ≠ 0) :=
  ⟨1, 0, (withRest 1 fun r => { r with state := 3 }).onSv 1 fun x => x.onSec 0 fun k => { k with b := 2 }, by decide +kernel⟩

theorem wit_ProposalsFollowTheirTimers_6 : ∃ (v : Fin 2) (sec : Fin 4) (s : State), (v ∈ s.serving) :=
  ⟨1, 0, inService, by decide +kernel⟩

theorem wit_VerdictPortAndDeadboltAct_1 : ∃ (t : Time) (n : Fin 4) (w : Word) (s : State), (s.keep.holding[n] = some w) :=
  ⟨5, 0, 0x80000000, { inService with keep := { holding := Vector.replicate 4 (some 0x80000000) } }, by decide +kernel⟩

theorem wit_VerdictPortAndDeadboltAct_2 : ∃ (t : Time) (n : Fin 4) (i : DropInput) (s : State), (∀ h, i = .faultLine h → s.headConcerns h n = true) :=
  ⟨5, 0, .selfTest, { inService with keep := { permits := Vector.replicate 4 { latch := true } } }, by decide +kernel⟩

theorem wit_VerdictPortAndDeadboltAct_3 : ∃ (t a : Time) (n : Fin 4) (s : State), (s.keep.permits[n].qualAt = some a) ∧ (a + us 8 ≤ t) ∧ (s.dropActive n = false) :=
  ⟨us 9, 0, 0, { inService with sv := Vector.replicate 2 { st := .inService, votes := Vector.replicate 4 .rise }, keep := { permits := Vector.replicate 4 { qualAt := some 0 } } }, by decide +kernel⟩

theorem wit_SupervisorFaultsFailTheSupervisor_1 : ∃ (t : Time) (v : Fin 2) (c : SvFault) (s : State), (s.sv[v].serves = true) :=
  ⟨5, 1, .ecc, inService, by decide +kernel⟩

theorem wit_SupervisorFaultsFailTheSupervisor_2 : ∃ (t : Time) (v : Fin 2) (s : State), (s.sv[v].serves = true) :=
  ⟨5, 1, inService, by decide +kernel⟩

theorem wit_SupervisorFaultsFailTheSupervisor_3 : ∃ (t : Time) (v : Fin 2) (s : State), (s.sv[v].serves = true) :=
  ⟨5, 0, inService, by decide +kernel⟩

theorem wit_SupervisorFaultsFailTheSupervisor_4 : ∃ (t : Time) (w : Fin 2) (s : State), (s.serving = [w]) ∧ (s.keep.degraded = false) ∧ (s.phase = .service) :=
  ⟨5, 0, oneFailed, by decide +kernel⟩

theorem wit_SupervisorFaultsFailTheSupervisor_5 : ∃ (t : Time) (n : Fin 4) (s : State), (s.keep.degraded = true) ∧ (s.keep.expired.getLsbD n.val = false) ∧ ((s.at t).degradedLeft n = 0) :=
  ⟨5, 0, withWork [(dkey 0x2200 0x0E, [0, 0])] { oneFailed with nv := { oneFailed.nv with degradedNs := 1000000000000000 }, keep := { degraded := true } }, by decide +kernel⟩

theorem wit_MonitorsCountAndFault_1 : ∃ (t : Time) (c : Fin 16) (amp : Rat) (n : Nat) (r s : State), (r = (s.at t).calRun c) ∧ (r.monitored c = true) ∧ (8 ≤ n) :=
  ⟨5, 0, 1, 8, ((withWork headOn (withChans liveChan)).at 5).calRun 0, (withWork headOn (withChans liveChan)), by decide +kernel⟩

theorem wit_MonitorsCountAndFault_2 : ∃ (t : Time) (c : Fin 16) (amp : Rat) (n : Nat) (r s : State), (r = (s.at t).calRun c) ∧ (r.monitored c = true) ∧ (8 ≤ n) ∧ (amp < (r.loopFloor c : Rat) / 100 * r.fe.chans[c].aCal) ∧ (1 ≤ r.fe.chans[c].loopLow) ∧ (r.fe.chans[c].fault = none) :=
  ⟨5, 0, 0, 8, ((withWork headOn (withChans { liveChan with loopLow := 1 })).at 5).calRun 0, (withWork headOn (withChans { liveChan with loopLow := 1 })), by decide +kernel⟩

theorem wit_MonitorsCountAndFault_3 : ∃ (t : Time) (c : Fin 16) (cur : Rat) (lim : Bool) (r s : State), (r = (s.at t).calRun c) ∧ (r.monitored c = true) :=
  ⟨5, 0, 16, false, ((withWork headOn (withChans liveChan)).at 5).calRun 0, (withWork headOn (withChans liveChan)), by decide +kernel⟩

theorem wit_MonitorsCountAndFault_4 : ∃ (t : Time) (c : Fin 16) (cur : Rat) (lim : Bool) (r s : State), (r = (s.at t).calRun c) ∧ (r.monitored c = true) ∧ (lim = true ∨ (r.excCurrentMax c : Rat) / 100 * r.fe.chans[c].iCal < cur) ∧ (3 ≤ r.fe.chans[c].excBad) ∧ (r.fe.chans[c].fault = none) :=
  ⟨5, 0, 16, true, ((withWork headOn (withChans { liveChan with excBad := 3 })).at 5).calRun 0, (withWork headOn (withChans { liveChan with excBad := 3 })), by decide +kernel⟩

theorem wit_MonitorsCountAndFault_5 : ∃ (t : Time) (c : Fin 16) (cur : Rat) (r s : State), (r = (s.at t).calRun c) ∧ (r.monitored c = true) ∧ (cur < (r.excCurrentMin c : Rat) / 100 * r.fe.chans[c].iCal) ∧ (¬ (r.excCurrentMax c : Rat) / 100 * r.fe.chans[c].iCal < cur) ∧ (3 ≤ r.fe.chans[c].excBad) ∧ (r.fe.chans[c].fault = none) :=
  ⟨5, 0, 0, ((withWork headOn (withChans { liveChan with excBad := 3 })).at 5).calRun 0, (withWork headOn (withChans { liveChan with excBad := 3 })), by decide +kernel⟩

theorem wit_MonitorsCountAndFault_6 : ∃ (t : Time) (c : Fin 16) (volts vafe : Rat) (r s : State), (r = (s.at t).calRun c) ∧ (r.monitoredDc c = true) :=
  ⟨5, 0, 1, 5, ((withWork headOn (withChans liveChan)).at 5).calRun 0, (withWork headOn (withChans liveChan)), by decide +kernel⟩

theorem wit_MonitorsCountAndFault_7 : ∃ (t : Time) (c : Fin 16) (volts vafe : Rat) (r s : State), (r = (s.at t).calRun c) ∧ (r.monitoredDc c = true) ∧ (volts < 1 / 2 ∨ vafe - 1 / 2 < volts) ∧ (3 ≤ r.fe.chans[c].cmBad) ∧ (r.fe.chans[c].fault = none) :=
  ⟨5, 0, 0, 5, ((withWork headOn (withChans { liveChan with cmBad := 3 })).at 5).calRun 0, (withWork headOn (withChans { liveChan with cmBad := 3 })), by decide +kernel⟩

theorem wit_MonitorsCountAndFault_8 : ∃ (t : Time) (c : Fin 16) (share : Rat) (r s : State), (r = (s.at t).calRun c) ∧ (r.monitoredDc c = true) :=
  ⟨5, 0, 1/4, ((withWork headOn (withChans liveChan)).at 5).calRun 0, (withWork headOn (withChans liveChan)), by decide +kernel⟩

theorem wit_MonitorsCountAndFault_9 : ∃ (t : Time) (c : Fin 16) (share : Rat) (r s : State), (r = (s.at t).calRun c) ∧ (r.monitoredDc c = true) ∧ (1 / 2 < share) ∧ (r.fe.scans[c].pause = none) ∧ (r.fe.chans[c].fault = none) :=
  ⟨5, 0, 3/4, ((withWork headOn (withChans liveChan)).at 5).calRun 0, (withWork headOn (withChans liveChan)), by decide +kernel⟩

theorem wit_MonitorsCountAndFault_10 : ∃ (c : Fin 16) (p d : Nat) (b : Time) (s : State), (s.fe.chans[c].fault.isSome = true) :=
  ⟨0, 2, 0, 0, (withWork headOn (withChans { liveChan with fault := some { at_ := 0, suspect := 0, prov := 2 } })), by decide +kernel⟩

theorem wit_FrontEndFaultsRunTheirCourse_1 : ∃ (t : Time) (c : Fin 16) (f : ChanFault) (s : State), (s.fe.chans[c].fault = some f) ∧ (f.final = false) ∧ (f.at_ + ms 2 ≤ t) :=
  ⟨ms 3, 0, { at_ := 0, suspect := 0, prov := 2 }, (withWork headOn (withChans { liveChan with fault := some { at_ := 0, suspect := 0, prov := 2 } })), by decide +kernel⟩

theorem wit_FrontEndFaultsRunTheirCourse_2 : ∃ (t : Time) (c : Fin 16) (m : Mask) (s : State), (s.fe.chans[c].mask = some m) ∧ (m.until_ ≤ t) :=
  ⟨us 160, 0, { start := 0, until_ := us 150 }, (withWork headOn (withChans { liveChan with mask := some { start := 0, until_ := us 150 } })), by decide +kernel⟩

theorem wit_FrontEndFaultsRunTheirCourse_3 : ∃ (t : Time) (s : State), (s.phase = .service) ∧ (s.fe.refsLost = 0) :=
  ⟨5, (withWork headOn (withChans liveChan)), by decide +kernel⟩

theorem wit_FrontEndFaultsRunTheirCourse_4 : ∃ (t : Time) (s : State), (s.phase = .service) ∧ (s.fe.refsLost < 2) :=
  ⟨5, (withWork headOn (withChans liveChan)), by decide +kernel⟩

theorem wit_ChannelsCalibrate_1 : ∃ (t : Time) (c : Fin 16) (r : CalReport) (s : State), (s.feOn = true) ∧ (s.headEnable (headOf c) = true) ∧ (s.fe.chans[c].phase = .off) ∧ (s.fe.refsLost < 2) :=
  ⟨5, 0, goodCal, withWork headOn inService, by decide +kernel⟩

theorem wit_ChannelsCalibrate_2 : ∃ (t : Time) (c : Fin 16) (r : CalReport) (s : State), ((s.at t).mayReturn c = true) ∧ (c.val % 2 = 0 ∨ (s.at t).mayReturn (chanX (headOf c)) = false) :=
  ⟨secs 100, 0, goodCal, withWork headOn (withWork headOn (withChans { liveChan with phase := .faulted, fault := some { at_ := 0, suspect := 0 }, quietSince := some 0 })), by decide +kernel⟩

theorem wit_ChannelsCalibrate_3 : ∃ (c : Fin 16) (r : CalReport) (s : State), (s.fe.chans[c].phase = .calibrating) ∧ (s.fe.chans[c].cal = some r) ∧ (s.fe.chans[c].calStage = 1) ∧ (s.fe.chans[c].calAt + ms 4 ≤ s.clk.now) ∧ (r.selfCheck = true) :=
  ⟨0, goodCal, { (withWork headOn (withChans { liveChan with phase := .calibrating, cal := some goodCal, calStage := 1 })) with clk := { now := ms 5 } }, by decide +kernel⟩

theorem wit_ChannelsCalibrate_4 : ∃ (c : Fin 16) (r : CalReport) (a : Nat) (red : Bool) (s : State), (s.fe.chans[c].phase = .calibrating) ∧ (s.fe.chans[c].cal = some r) ∧ (s.fe.chans[c].calStage = 2) ∧ (s.fe.chans[c].calAt + us (if c.val % 2 = 0 then 4000 else 4600) ≤ s.clk.now) ∧ (ampChoice r (s.excAmplitude c) (s.excOverridden c) = some (a, red)) :=
  ⟨1, goodCal, 3, false, { (withWork headOn (withChans { liveChan with phase := .calibrating, cal := some goodCal, calStage := 2 })) with clk := { now := ms 5 } }, by decide +kernel⟩

theorem wit_ChannelsCalibrate_5 : ∃ (c : Fin 16) (r : CalReport) (g : Nat) (s : State), (s.fe.chans[c].phase = .calibrating) ∧ (s.fe.chans[c].cal = some r) ∧ (s.fe.chans[c].calStage = 3) ∧ (s.fe.chans[c].calAt + us 21200 ≤ s.clk.now) ∧ (s.fe.chans[c].fault = none) ∧ (g = (if s.senseGain c = 255 then gainSearch r else s.senseGain c)) ∧ (gainFails r g = false) :=
  ⟨1, goodCal, 2, { (withWork headOn (withChans { liveChan with phase := .calibrating, cal := some goodCal, calStage := 3 })) with clk := { now := ms 22 } }, by decide +kernel⟩

theorem wit_ChannelsCalibrate_6 : ∃ (c : Fin 16) (r : CalReport) (s : State), (s.fe.chans[c].phase = .calibrating) ∧ (s.fe.chans[c].cal = some r) ∧ (s.fe.chans[c].calStage = 4) ∧ (s.fe.chans[c].calAt + us 23200 ≤ s.clk.now) :=
  ⟨1, goodCal, { (withWork headOn (withChans { liveChan with phase := .calibrating, cal := some goodCal, calStage := 4 })) with clk := { now := ms 24 } }, by decide +kernel⟩

theorem wit_ChannelsCalibrate_7 : ∃ (t : Time) (c : Fin 16) (r : CalReport) (s : State), (s.fe.chans[c].phase = .calibrating) ∧ (s.fe.chans[c].cal = some r) ∧ (s.fe.chans[c].calStage = 1) ∧ (s.fe.chans[c].calAt + ms 4 ≤ t) ∧ (s.fe.chans[c].fault = none) ∧ (r.selfCheck = false) :=
  ⟨ms 200, 0, { goodCal with selfCheck := false }, (withWork headOn (withChans { liveChan with phase := .calibrating, cal := some { goodCal with selfCheck := false }, calStage := 1 })), by decide +kernel⟩

theorem wit_ChannelsCalibrate_8 : ∃ (t : Time) (c : Fin 16) (r s : State), (r = (s.at t).calRun c) ∧ (s.feOn = true) ∧ (r.fe.chans[c].phase = .calibrating) ∧ (r.fe.chans[c].calStage = 5) ∧ (r.fe.chans[c].calAt + ms 150 ≤ t) ∧ (r.afterX c = false) :=
  ⟨ms 200, 0, ((withWork headOn (withChans { liveChan with phase := .calibrating, cal := some goodCal, calStage := 1 })).at (ms 200)).calRun 0, (withWork headOn (withChans { liveChan with phase := .calibrating, cal := some goodCal, calStage := 1 })), by decide +kernel⟩

theorem wit_WarningsAndSensorsAct_1 : ∃ (t q : Time) (c : Fin 16) (k : WarnKind) (s : State), (warnAt k s.fe.warns[c].since = some q) ∧ (q + secs 1 ≤ t ∨ k = .blankedShare) :=
  ⟨secs 2, 0, 0, .noise, { inService with fe := { warns := Vector.replicate 16 { since := [(.noise, 0)] } } }, by decide +kernel⟩

theorem wit_WarningsAndSensorsAct_2 : ∃ (t q : Time) (c : Fin 16) (k : WarnKind) (s : State), (warnAt k s.fe.warns[c].raised = some q) ∧ (warnAt k s.fe.warns[c].since = none) ∧ (q + secs 60 ≤ t) :=
  ⟨secs 61, 0, 0, .noise, { inService with fe := { warns := Vector.replicate 16 { raised := [(.noise, 0)] } } }, by decide +kernel⟩

theorem wit_WarningsAndSensorsAct_3 : ∃ (t : Time) (c : Fin 8) (m1 m2 vref ohms : Rat) (s : State), (ohms = tchOhms (bitOf s.tchFourWire c.val) m1 m2 vref) ∧ (s.phase = .service) ∧ (s.pwr.state ≠ .hibernate) ∧ (s.tchRole c ≠ 0) ∧ (s.fe.tch[c].lastAt + (if s.feOn then ms 100 else secs 10) ≤ t) ∧ (s.fe.tch[c].faulted = false) ∧ (700 ≤ ohms ∧ ohms ≤ 2100) :=
  ⟨secs 20, 0, 1/2, 1/2, 2, 1000, withWork [(dkey 0x3700 1, [1])] inService, by decide +kernel⟩

theorem wit_WarningsAndSensorsAct_4 : ∃ (t : Time) (c : Fin 8) (m1 m2 vref ohms : Rat) (s : State), (ohms = tchOhms (bitOf s.tchFourWire c.val) m1 m2 vref) ∧ (s.phase = .service) ∧ (s.pwr.state ≠ .hibernate) ∧ (s.tchRole c ≠ 0) ∧ (s.fe.tch[c].lastAt + (if s.feOn then ms 100 else secs 10) ≤ t) ∧ (s.fe.tch[c].badRun = 1) ∧ (ohms < 700 ∨ 2100 < ohms) :=
  ⟨secs 20, 0, 0, 0, 1, 0, withWork [(dkey 0x3700 1, [1])] { inService with fe := { tch := Vector.replicate 8 { badRun := 1 } } }, by decide +kernel⟩

theorem wit_WarningsAndSensorsAct_6 : ∃ (t : Time) (b : Fin 6) (s : State), (s.phase = .service) ∧ (s.fe.blank[b].active = true) ∧ (s.fe.blank[b].stuck = false) ∧ (s.fe.blank[b].since + us 50 < t) :=
  ⟨us 60, 4, { inService with fe := { blank := Vector.replicate 6 { active := true } } }, by decide +kernel⟩

theorem wit_WarningsAndSensorsAct_7 : ∃ (t : Time) (b : Fin 6) (s : State), (s.fe.blank[b].stuck = true) ∧ (1000 ≤ s.fe.blank[b].shortRun) :=
  ⟨us 60, 4, { inService with fe := { blank := Vector.replicate 6 { stuck := true, shortRun := 1000 } } }, by decide +kernel⟩

theorem wit_ScannerRunsItsCourse_1 : ∃ (t : Time) (s : State), (s.phase = .service) ∧ (s.fe.frameAt + us 1024 ≤ t) :=
  ⟨us 1024, (withWork headOn (withChans liveChan)), by decide +kernel⟩

theorem wit_ScannerRunsItsCourse_2 : ∃ (t : Time) (c : Fin 16) (s : State), (s.phase = .service) ∧ (s.fe.chans[c].phase = .inService ∨ s.fe.chans[c].phase = .paused) ∧ (s.fe.scans[c].lastDone + secs s.scanInterval ≤ (s.at t).awakeNs ∨ 3 ≤ s.fe.scans[c].reports) :=
  ⟨secs 1000000, 0, (withWork headOn (withChans liveChan)), by decide +kernel⟩

theorem wit_ScannerRunsItsCourse_3 : ∃ (t : Time) (c : Fin 16) (s : State), (s.phase = .service) ∧ (s.fe.scans[c].due = true) ∧ (s.scanEnable = true) ∧ (s.fe.scans[c].dueAt + secs s.scanOverdue ≤ t) :=
  ⟨secs 1000000, 0, { inService with fe := { scans := Vector.replicate 16 { due := true } } }, by decide +kernel⟩

theorem wit_ScannerRunsItsCourse_4 : ∃ (t : Time) (c : Fin 16) (s : State), ((s.at t).firstDue c = true) ∧ ((s.at t).clk.now = s.fe.frameAt) :=
  ⟨0, 0, withWork headOn { inService with fe := { chans := Vector.replicate 16 liveChan, scans := Vector.replicate 16 { due := true } }, eng := { assigned := Vector.replicate 8 (some 0), dets := Vector.replicate 16 { haveB0 := true } } }, by decide +kernel⟩

theorem wit_ScannerRunsItsCourse_5 : ∃ (t : Time) (c : Fin 16) (s : State), (s.phase = .service) ∧ (s.fe.scans[c].resumed = true) ∧ (s.fe.scans[c].win.length = 4096) :=
  ⟨5, 0, { inService with fe := { scans := Vector.replicate 16 { due := true, resumed := true, win := List.replicate 4096 0 } } }, by decide +kernel⟩

theorem wit_ScannerRunsItsCourse_6 : ∃ (t : Time) (c : Fin 16) (s : State), (s.phase = .service) ∧ (s.fe.scans[c].resumed = true) ∧ (s.fe.scans[c].win.length ≠ 4096) :=
  ⟨5, 0, { inService with fe := { scans := Vector.replicate 16 { due := true, resumed := true } } }, by decide +kernel⟩

theorem wit_FastSamplesFeedTheDetector_1 : ∃ (t : Time) (c : Fin 16) (l : List RawIn) (r s : State), (r = (s.at t).calRun c) ∧ (r.samplesOnly c = true ∨ (r.feOn = true ∧ r.fe.chans[c].phase ≠ .off ∧ r.fe.chans[c].phase ≠ .isolated)) :=
  ⟨us 8, 0, List.replicate 16 { data := 0, ovr := false }, ((withWork headOn (withChans liveChan)).at (us 8)).calRun 0, (withWork headOn (withChans liveChan)), by decide +kernel⟩

theorem wit_FastSamplesFeedTheDetector_2 : ∃ (t : Time) (c : Fin 16) (l : List RawIn) (b : Nat) (r s : State), (r = (s.at t).calRun c) ∧ (r.feOn = true) ∧ (r.fe.chans[c].phase = .inService) ∧ (r.fe.chans[c].fault = none) ∧ (r.samplesOnly c = false) ∧ (18 ≤ r.fe.chans[c].invalidRun) ∧ (64 ≤ (r.takeRaws c l).fe.chans[c].raws.length) ∧ (spanBad (r.takeRaws c l).fe.chans[c].raws = some b) :=
  ⟨us 8, 0, List.replicate 64 { data := 0, ovr := true }, 7, ((withWork headOn (withChans { liveChan with invalidRun := 18 })).at (us 8)).calRun 0, (withWork headOn (withChans { liveChan with invalidRun := 18 })), by decide +kernel⟩

theorem wit_FastSamplesFeedTheDetector_3 : ∃ (b : Nat), (b = 7 ∨ b = 8) :=
  ⟨7, by decide +kernel⟩

theorem wit_FastSamplesFeedTheDetector_4 : ∃ (d : Det) (x : Seen) (k : Levels), (d.present = false) ∧ (reaches x.ecSq k.onset = false) :=
  ⟨{}, { stamp := 5, ecSq := 0, ebSq := none, qL := {}, qH := {}, blanked := false }, { onset := 50, release := 30, confirm := 100, window := us 500 }, by decide +kernel⟩

theorem wit_FastSamplesFeedTheDetector_5 : ∃ (d : Det) (x : Seen) (k : Levels), (d.present = false) ∧ (reaches x.ecSq k.onset = true) :=
  ⟨{}, { stamp := 5, ecSq := 1, ebSq := none, qL := {}, qH := {}, blanked := false }, { onset := 50, release := 30, confirm := 100, window := us 500 }, by decide +kernel⟩

theorem wit_FastSamplesFeedTheDetector_6 : ∃ (d : Det) (x : Seen) (k : Levels), (d.present = true) ∧ (reaches x.ecSq k.release = false) ∧ (d.run = 6) ∧ (x.confirms k.confirm = false) :=
  ⟨{ present := true, run := 6 }, { stamp := 5, ecSq := 0, ebSq := none, qL := {}, qH := {}, blanked := false }, { onset := 50, release := 30, confirm := 100, window := us 500 }, by decide +kernel⟩

theorem wit_SlowStatisticsAct_1 : ∃ (t : Time) (c : Fin 16) (peaks : List Rat) (s : State), (s.feOn = true) ∧ (s.fe.chans[c].phase = .inService) ∧ (s.eng.stats[c].blockAt + secs 1 ≤ t) ∧ (peaks = if s.eng.stats[c].blockN = 0 then s.eng.stats[c].peaksSq
        else (s.eng.stats[c].peaksSq ++ [s.eng.stats[c].blockPeakSq]).drop (s.eng.stats[c].peaksSq.length - 7)) :=
  ⟨secs 2, 0, [], (withWork headOn (withChans liveChan)), by decide +kernel⟩

theorem wit_SlowStatisticsAct_2 : ∃ (t : Time) (c : Fin 16) (peaks : List Rat) (s : State), (s.feOn = true) ∧ (s.fe.chans[c].phase = .inService) ∧ (s.eng.stats[c].blockAt + secs 1 ≤ t) ∧ (s.eng.stats[c].blockN ≠ 0) ∧ (peaks = if s.eng.stats[c].blockN = 0 then s.eng.stats[c].peaksSq
        else (s.eng.stats[c].peaksSq ++ [s.eng.stats[c].blockPeakSq]).drop (s.eng.stats[c].peaksSq.length - 7)) ∧ ((s.noiseFault (headOf c) : Rat) * s.noiseFault (headOf c) / 1000000 < peaks.foldl max 0) ∧ (7 ≤ s.eng.stats[c].noiseRun) ∧ (s.fe.chans[c].fault = none) :=
  ⟨secs 2, 0, [1], { withChans liveChan with eng := { stats := Vector.replicate 16 { blockN := 1, blockPeakSq := 1, noiseRun := 7 } } }, by decide +kernel⟩

theorem wit_SlowStatisticsAct_3 : ∃ (t : Time) (s : State), (s.feOn = true) ∧ (s.eng.storeAt + secs 3600 ≤ t) :=
  ⟨secs 3600, withDets { haveB0 := true, b0L := { re := 1 }, b0H := { re := 2 } }, by decide +kernel⟩

theorem wit_SlowStatisticsAct_4 : ∃ (t : Time) (c : Fin 16) (r : Cx × Cx) (s : State), (s.nv.chans[c].ref = some r) ∧ (s.feOn = true) ∧ (s.fe.chans[c].phase = .inService) ∧ (s.quiet (headOf c) = true) ∧ (s.eng.stats[c].driftAt + secs 3600 ≤ t) :=
  ⟨secs 3600, 0, ({ re := 1 }, { re := 1 }), { withDets { haveB0 := true, b0L := { re := 1 }, b0H := { re := 2 } } with nv := { inService.nv with chans := Vector.replicate 16 { ref := some ({ re := 1 }, { re := 1 }) } } }, by decide +kernel⟩

theorem wit_SlowStatisticsAct_5 : ∃ (t : Time) (c : Fin 16) (s : State), (s.feOn = true) ∧ (s.eng.stats[c].kappaAt + secs 86400 ≤ t) :=
  ⟨secs 86400, 0, (withWork headOn (withChans liveChan)), by decide +kernel⟩

theorem wit_SlowStatisticsAct_6 : ∃ (t : Time) (c : Fin 16) (s : State), (s.feOn = true) ∧ (s.eng.dets[c].present = true) ∧ (s.eng.dets[partnerChan c].present = false) ∧ (reaches s.eng.dets[c].peakSq (s.wheelFloor (headOf c)) = false) ∧ (secs (s.residualTime (headOf c)) < (s.at t).tbNow - s.eng.dets[c].onset) ∧ ((s.eng.dets[c].lately (s.at t).clk.now (secs (s.residualTime (headOf c)))).isEmpty = false) ∧ (s.quietSet c (s.eng.dets[c].lately (s.at t).clk.now (secs (s.residualTime (headOf c)))) = true) :=
  ⟨secs 100000, 0, { withChans liveChan with eng := { dets := (Vector.replicate 16 {}).set 0 { present := true, hist := [(secs 99990, someFast)] } } }, by decide +kernel⟩

theorem wit_EnginesCheckpointAndFail_1 : ∃ (t : Time) (e : Fin 9) (w : CkptWrite) (h : Fin 8) (s : State), (s.feOn = true) ∧ (s.eng.wse[e].failed = false) ∧ (s.headServed e = some h) ∧ (s.eng.wse[e].ckAt.all (fun a => decide (a + us 100 ≤ (s.at t).clk.now)) = true) ∧ (w.seq = s.eng.wse[e].seq + 1) ∧ (w.crcOk = true) ∧ (w.kat = true) ∧ ((s.at t).ckptOverdue e = false) :=
  ⟨5, 2, { seq := 1, crcOk := true, kat := true }, 2, (withWork headOn (withChans liveChan)), by decide +kernel⟩

theorem wit_EnginesCheckpointAndFail_2 : ∃ (t : Time) (e : Fin 9) (w : CkptWrite) (h : Fin 8) (s : State), (s.feOn = true) ∧ (s.eng.wse[e].failed = false) ∧ (s.headServed e = some h) ∧ (s.eng.wse[e].ckAt.all (fun a => decide (a + us 100 ≤ (s.at t).clk.now)) = true) ∧ (w.seq ≠ s.eng.wse[e].seq + 1 ∨ w.crcOk = false ∨ w.kat = false ∨ (s.at t).ckptOverdue e = true) :=
  ⟨5, 2, { seq := 1, crcOk := false, kat := true }, 2, (withWork headOn (withChans liveChan)), by decide +kernel⟩

theorem wit_EnginesCheckpointAndFail_3 : ∃ (t : Time) (e : Fin 9) (w : CkptWrite) (s : State), (s.feOn = true) ∧ (s.eng.wse[e].failed = false) ∧ (s.headServed e = none) ∧ (s.eng.wse[e].ckAt.all (fun a => decide (a + us 100 ≤ (s.at t).clk.now)) = true) ∧ (w.kat = false) :=
  ⟨5, 8, { seq := 1, crcOk := true, kat := false }, (withWork headOn (withChans liveChan)), by decide +kernel⟩

theorem wit_EnginesCheckpointAndFail_4 : ∃ (t : Time) (e : Fin 9) (k : EngineCheck) (s : State), (s.feOn = true) ∧ (s.eng.wse[e].failed = false) ∧ ((s.at t).checkFails e k = true) :=
  ⟨5, 2, .inputTag, (withWork headOn (withChans liveChan)), by decide +kernel⟩

theorem wit_EnginesCheckpointAndFail_5 : ∃ (t : Time) (h : Fin 8) (s : State), (s.feOn = true) ∧ (s.eng.takeover[h].isSome = true) ∧ ((s.at t).decides (chanX h) = false ∨ (s.at t).sampleReady (chanX h) = true) ∧ ((s.at t).decides (chanY h) = false ∨ (s.at t).sampleReady (chanY h) = true) :=
  ⟨5, 0, { withWork headOn (withChans liveChan) with eng := { takeover := Vector.replicate 8 (some 0), dets := Vector.replicate 16 { haveB0 := true, b0L := { re := 1 }, b0H := { re := 1 }, hold := .takeover, fast := [some someFast] } } }, by decide +kernel⟩

theorem wit_ProofTestsRunTheirCourse_1 : ∃ (t : Time) (c : Fin 16) (s : State), (s.phase = .service) ∧ ((s.at t).proofComes c 0 = true) :=
  ⟨5, 0, (withWork headOn (withChans liveChan)), by decide +kernel⟩

theorem wit_ProofTestsRunTheirCourse_2 : ∃ (t : Time) (c : Fin 16) (s : State), ((s.at t).mayProve c = true) ∧ ((s.at t).clk.now = s.fe.frameAt) :=
  ⟨ms 200, 0, { withWork headOn (withDets { haveB0 := true }) with fe := { frameAt := ms 200, chans := Vector.replicate 16 liveChan }, eng := { dets := Vector.replicate 16 { haveB0 := true, hist := [(ms 150, someFast)] }, assigned := Vector.replicate 8 (some 0), proofs := Vector.replicate 16 { due := true } } }, by decide +kernel⟩

theorem wit_ProofTestsRunTheirCourse_3 : ∃ (t b : Time) (c : Fin 16) (s : State), (s.eng.proofs[c].running = some b) ∧ (b + us 1024 ≤ t) ∧ (s.eng.proofs[c].endAt.isSome = true ∨ b + us 1100 ≤ t) ∧ (s.eng.proofs[c].passed = true) :=
  ⟨us 1060, 0, 0, { withWork headOn (withChans liveChan) with eng := { proofs := Vector.replicate 16 { due := true, running := some 0, onsetAt := some (us 100), confirmAt := some (us 500), endAt := some (us 1050), holdN := 100, holdEL := 30, holdEH := 30, holdL := { re := 30 }, holdH := { re := -30 }, cls := 1 } } }, by decide +kernel⟩

theorem wit_ProofTestsRunTheirCourse_4 : ∃ (t b : Time) (c : Fin 16) (s : State), (s.eng.proofs[c].running = some b) ∧ (b + us 1024 ≤ t) ∧ (s.eng.proofs[c].endAt.isSome = true ∨ b + us 1100 ≤ t) ∧ (s.eng.proofs[c].passed = false) ∧ (s.eng.proofs[c].failed = false) :=
  ⟨us 1100, 0, 0, { withChans liveChan with eng := { proofs := Vector.replicate 16 { due := true, running := some 0 } } }, by decide +kernel⟩

theorem wit_ProofTestsRunTheirCourse_5 : ∃ (t b : Time) (c : Fin 16) (s : State), (s.eng.proofs[c].running = some b) ∧ (b + us 1024 ≤ t) ∧ (s.eng.proofs[c].endAt.isSome = true ∨ b + us 1100 ≤ t) ∧ (s.eng.proofs[c].passed = false) ∧ (s.eng.proofs[c].failed = true) ∧ (s.fe.chans[c].fault = none) :=
  ⟨us 1100, 0, 0, { withChans liveChan with eng := { proofs := Vector.replicate 16 { due := true, running := some 0, failed := true } } }, by decide +kernel⟩

theorem wit_ProofTestsRunTheirCourse_6 : ∃ (t : Time) (c : Fin 16) (s : State), (s.eng.proofs[c].failed = true) ∧ (s.eng.proofs[c].running = none) ∧ (s.eng.proofs[c].notBefore ≤ t) :=
  ⟨5, 0, { withChans liveChan with eng := { proofs := Vector.replicate 16 { failed := true } } }, by decide +kernel⟩

theorem wit_ProofTestsRunTheirCourse_7 : ∃ (t : Time) (c : Fin 16) (s : State), (s.phase = .service) ∧ (s.eng.proofs[c].due = true) ∧ (s.eng.proofs[c].running = none) ∧ (s.proofDueAt c + 2 * secs (s.proofInterval (headOf c)) ≤ t) :=
  ⟨secs 1000000, 0, { withChans liveChan with eng := { proofs := Vector.replicate 16 { due := true } } }, by decide +kernel⟩

theorem wit_EpisodesAndLedgerEntries_1 : ∃ (t : Time) (ev : PresenceEvent) (s : State), (s.phase = .service) ∧ (s.pas.gone.contains ev = true) :=
  ⟨5, { ch := 0, edge := .withdraw, stamp := 4 }, { inService with pas := { gone := [{ ch := 0, edge := .withdraw, stamp := 4 }] } }, by decide +kernel⟩

theorem wit_EpisodesAndLedgerEntries_2 : ∃ (t : Time) (ev : PresenceEvent) (s : State), (s.phase = .service) ∧ (s.pas.gone.contains ev = false) ∧ (∀ e ∈ s.eng.out, headOf e.ch = headOf ev.ch → eventRank ev ≤ eventRank e) :=
  ⟨5, { ch := 0, edge := .withdraw, stamp := 4 }, inService, by decide +kernel⟩

theorem wit_EpisodesAndLedgerEntries_3 : ∃ (t : Time) (ev : PresenceEvent) (i : Nat) (s : State), (s.phase = .service) ∧ (s.pas.gone.contains ev = false) ∧ (∀ e ∈ s.eng.out, headOf e.ch = headOf ev.ch → eventRank ev ≤ eventRank e) ∧ (ev.edge = .onset) ∧ (s.pas.discard[headOf ev.ch] = false) ∧ (s.pas.eps[headOf ev.ch].present = false) ∧ (s.pas.stopped = false) ∧ (s.led.lowestFree = some i) :=
  ⟨5, { ch := 0, edge := .onset, stamp := 4 }, 0, inService, by decide +kernel⟩

theorem wit_EpisodesAndLedgerEntries_4 : ∃ (e : Episode) (r : Bool) (cx cy : Time) (ex ey : EndRec), (e.conf[0] = some cx) ∧ (e.conf[1] = some cy) ∧ (e.ends[0] = some ex) ∧ (e.ends[1] = some ey) ∧ (cx < cy) ∧ (ex.stamp < ey.stamp) ∧ (countingClass ex.cls = true) :=
  ⟨crossing, true, 10, 20, { stamp := 30, centroid := 15, peak := 300, cls := 1 }, { stamp := 40, centroid := 25, peak := 300, cls := 1 }, by decide +kernel⟩

theorem wit_EpisodesAndLedgerEntries_5 : ∃ (e : Episode) (r : Bool) (cx cy : Time) (ex ey : EndRec), (e.conf[0] = some cx) ∧ (e.conf[1] = some cy) ∧ (e.ends[0] = some ex) ∧ (e.ends[1] = some ey) ∧ (cy < cx) ∧ (ey.stamp < ex.stamp) ∧ (countingClass ex.cls = true) :=
  ⟨{ crossing with conf := #v[some 21, some 20], ends := #v[some { stamp := 50, centroid := 15, peak := 300, cls := 1 }, some { stamp := 40, centroid := 25, peak := 300, cls := 1 }] }, true, 21, 20, { stamp := 50, centroid := 15, peak := 300, cls := 1 }, { stamp := 40, centroid := 25, peak := 300, cls := 1 }, by decide +kernel⟩

theorem wit_EpisodesAndLedgerEntries_6 : ∃ (e : Episode) (r : Bool) (c : Time), (e.conf[0] = some c) ∧ (e.conf[1] = some c) :=
  ⟨{ crossing with conf := #v[some 20, some 20] }, true, 20, by decide +kernel⟩

theorem wit_EpisodesAndLedgerEntries_7 : ∃ (e : Episode) (r : Bool), (e.conf[0] = none) ∧ (e.conf[1] = none) :=
  ⟨{}, true, by decide +kernel⟩

theorem wit_EpisodesAndLedgerEntries_8 : ∃ (t : Time) (slot : Fin 2048) (en : Entry) (s : State), (s.led.entry 0 slot = some en) ∧ (en.st = .detected ∨ en.st = .countedOne) ∧ (en.since + us 24 < t) ∧ (s.sv[0].st = .inService) ∧ (s.sv[1].st = .inService) :=
  ⟨us 25, 3, { st := .detected }, { inService with led := oneEntry { st := .detected } }, by decide +kernel⟩

theorem wit_EpisodesAndLedgerEntries_10 : ∃ (t : Time) (slot : Fin 2048) (k : Fin 2) (en : Entry) (s : State), (s.led.entry 0 slot = some en) :=
  ⟨5, 3, 0, { st := .detected }, { inService with led := oneEntry { st := .detected } }, by decide +kernel⟩

theorem wit_EpisodesAndLedgerEntries_11 : ∃ (t : Time) (slot : Fin 2048) (k : Fin 2) (s : State), (s.alone k = false ∨ s.keep.degraded = true) ∧ (s.sv[k].serves = true) :=
  ⟨5, 3, 1, inService, by decide +kernel⟩

theorem wit_EpisodesAndLedgerEntries_12 : ∃ (t : Time) (slot : Fin 2048) (k : Fin 2) (en : Entry) (s : State), (s.alone k = true) ∧ (s.keep.degraded = false) ∧ (s.led.entry 0 slot = some en) :=
  ⟨5, 3, 0, { st := .detected }, { oneFailed with led := oneEntry { st := .detected } }, by decide +kernel⟩

theorem wit_CheckpointsAndTumblerAct_1 : ∃ (t : Time) (k : Checkpoint) (s : State), (s.keep.ckBusy = some k) ∧ (s.ckptSlots ≠ 0) :=
  ⟨5, blankCkpt, { inService with keep := { ckBusy := some blankCkpt } }, by decide +kernel⟩

theorem wit_CheckpointsAndTumblerAct_2 : ∃ (t : Time) (k : Checkpoint) (s : State), (s.keep.ckBusy = some k) ∧ (s.ckptSlots ≠ 0) :=
  ⟨5, blankCkpt, { inService with keep := { ckBusy := some blankCkpt } }, by decide +kernel⟩

theorem wit_CheckpointsAndTumblerAct_3 : ∃ (t : Time) (s : State), (s.tumbling = true) :=
  ⟨5, inService, by decide +kernel⟩

theorem wit_CheckpointsAndTumblerAct_4 : ∃ (t a : Time) (n : Fin 4) (s : State), (s.tumbling = true) ∧ (s.secDiffers n = true) ∧ (s.keep.tumbler.secAt[n] = some a) ∧ (a + us 24 < t) :=
  ⟨us 25, 0, 0, { (inService.onSv 1 fun x => x.onSec 0 fun k => { k with b := 1 }) with keep := { tumbler := { secAt := Vector.replicate 4 (some 0) } } }, by decide +kernel⟩

theorem wit_CheckpointsAndTumblerAct_5 : ∃ (t a : Time) (n : Fin 4) (s : State), (s.tumbling = true) ∧ (s.propDiffers n = true) ∧ (s.keep.tumbler.propAt[n] = some a) ∧ (a + us 100 < t) :=
  ⟨us 101, 0, 0, { (inService.onSv 1 fun x => x.onProp 0 fun k => { k with state := .clear }) with keep := { tumbler := { propAt := Vector.replicate 4 (some 0) } } }, by decide +kernel⟩

theorem wit_CheckpointsAndTumblerAct_6 : ∃ (t : Time) (s : State), (s.tumbling = true) ∧ (s.keep.tumbler.rederiving = true) :=
  ⟨5, { inService with keep := { tumbler := { rederiving := true } } }, by decide +kernel⟩

theorem wit_CheckpointsAndTumblerAct_7 : ∃ (t : Time) (n : Fin 4) (s : State), (s.kin[n].ref + ms (s.kinMaxAge n) < (s.at t).tbNow) :=
  ⟨secs 10, 0, { inService with kin := Vector.replicate 4 { valid := true } }, by decide +kernel⟩

theorem wit_TractionStatusIsCommittedAsABlock_2 : ∃ (t : Time) (n : Fin 4) (w : Word) (s : State), (parOk w = true) ∧ (s.trac[n].takeAny = true ∨ w.setWidth 8 = s.trac[n].seq + 1) :=
  ⟨5, 0, 1, { inService with trac := Vector.replicate 4 { takeAny := false, stBemf := 7 } }, by decide +kernel⟩

theorem wit_TractionStatusIsCommittedAsABlock_3 : ∃ (t : Time) (n : Fin 4) (w : Word) (s : State), (parOk w = false ∨ (s.trac[n].takeAny = false ∧ w.setWidth 8 ≠ s.trac[n].seq + 1)) :=
  ⟨5, 0, 3, { inService with trac := Vector.replicate 4 { fresh := true, commitAt := 2 } }, by decide +kernel⟩

theorem wit_TractionStatusIsCommittedAsABlock_4 : ∃ (t : Time) (n : Fin 4) (s : State), (s.trac[n].fresh = true) ∧ (s.trac[n].commitAt + ms (s.tractionStale n) ≤ t) :=
  ⟨secs 5, 0, { inService with trac := Vector.replicate 4 { fresh := true, commitAt := 2 } }, by decide +kernel⟩

theorem wit_TheHostWindowTakesItsCommands_2 : ∃ (t : Time) (s : State), (s.host.mailbox.busy = false) ∧ (s.host.mailbox.respReady = false) ∧ (1 ≤ s.host.mailbox.reqLen) ∧ (s.host.mailbox.reqLen ≤ 256) :=
  ⟨5, { inService with host := { mailbox := { reqLen := 4 } } }, by decide +kernel⟩

theorem wit_TheHostWindowTakesItsCommands_3 : ∃ (t : Time) (s : State), (s.host.mailbox.busy = true ∨ s.host.mailbox.respReady = true ∨ s.host.mailbox.reqLen = 0 ∨ 256 < s.host.mailbox.reqLen) :=
  ⟨5, { inService with host := { mailbox := { reqLen := 257 } } }, by decide +kernel⟩

theorem wit_TheHostWindowTakesItsCommands_4 : ∃ (t : Time) (s : State), (s.host.mailbox.busy = true) :=
  ⟨5, { inService with host := { mailbox := { busy := true } } }, by decide +kernel⟩

theorem wit_TheHostWindowTakesItsCommands_5 : ∃ (t : Time) (p : List Byte) (s : State), (s.host.mailbox.busy = true) ∧ (s.released = true) ∧ (s.host.mailbox.staged = some p) :=
  ⟨5, [1, 2], { inService with host := { mailbox := { busy := true, staged := some [1, 2] } } }, by decide +kernel⟩

theorem wit_TheHostWindowTakesItsCommands_6 : ∃ (t : Time) (off : BitVec 16) (size : Nat) (w : Word) (s : State), (size ≠ 4 ∨ off.toNat % 4 ≠ 0 ∨ off.toNat < 0x0044 ∨ (0x0048 ≤ off.toNat ∧ off.toNat < 0x0200) ∨ 0x1200 ≤ off.toNat) :=
  ⟨5, 0x0502, 4, 7, inService, by decide +kernel⟩

theorem wit_TheHostWindowTakesItsCommands_7 : ∃ (t : Time) (off : BitVec 16) (w : Word) (s : State), (0x0500 ≤ off.toNat) ∧ (off.toNat < 0x0600) ∧ (off.toNat % 4 = 0) :=
  ⟨5, 0x05FC, 7, { inService with host := { mailbox := { busy := false } } }, by decide +kernel⟩

theorem wit_TheHostEventControllerDelivers_1 : ∃ (t : Time) (src : Fin 64) (r s : State), (isPulse src.val = true) ∧ (r = (s.at t).hecFlush.hecSample) :=
  ⟨5, 20, (inService.at 5).hecFlush.hecSample, inService, by decide +kernel⟩

theorem wit_TheHostEventControllerDelivers_2 : ∃ (t : Time) (core : Fin 4) (n : Fin 64) (a : Word) (r s : State), (r = (s.at t).hecFlush) ∧ (r.hec.offer[core].isSome = true) ∧ (r.hecOffered core = some (n, a)) :=
  ⟨5, 1, 20, 0x140, ({ inService with hec := { offer := Vector.replicate 4 (some (20, 0x140)) } }.at 5).hecFlush, { inService with hec := { offer := Vector.replicate 4 (some (20, 0x140)) } }, by decide +kernel⟩

theorem wit_TheHostEventControllerDelivers_3 : ∃ (t : Time) (core : Fin 4) (r s : State), (r = (s.at t).hecFlush.hecSample) ∧ (r.hec.slots[core].busy = true) ∧ (r.hec.slots[core].accessed = false) :=
  ⟨5, 1, ({ inService with hec := { slots := Vector.replicate 4 { busy := true, src := 24 } } }.at 5).hecFlush.hecSample, { inService with hec := { slots := Vector.replicate 4 { busy := true, src := 24 } } }, by decide +kernel⟩

theorem wit_TheHostEventControllerDelivers_4 : ∃ (t : Time) (core : Fin 4) (w : Word) (r s : State), (r = (s.at t).hecFlush.hecSample) ∧ (r.hecPowered = true) ∧ (r.hec.slots[core].busy = true) ∧ (r.hec.slots[core].src.val = w.toNat % 64) :=
  ⟨5, 1, 24, ({ inService with hec := { slots := Vector.replicate 4 { busy := true, src := 24 } } }.at 5).hecFlush.hecSample, { inService with hec := { slots := Vector.replicate 4 { busy := true, src := 24 } } }, by decide +kernel⟩

theorem wit_TheHostEventControllerDelivers_5 : ∃ (t : Time) (core : Fin 4) (w : Word) (r s : State), (r = (s.at t).hecFlush.hecSample) ∧ (r.hecPowered = true) ∧ (r.hec.slots[core].busy = false ∨ r.hec.slots[core].src.val ≠ w.toNat % 64) :=
  ⟨5, 1, 23, ({ inService with hec := { slots := Vector.replicate 4 { busy := true, src := 24 } } }.at 5).hecFlush.hecSample, { inService with hec := { slots := Vector.replicate 4 { busy := true, src := 24 } } }, by decide +kernel⟩

theorem wit_TheHostEventControllerDelivers_6 : ∃ (t : Time) (high : Bool) (w sets m : Word) (r s : State), (r = (s.at t).hecFlush.hecSample) ∧ (r.hecPowered = true) ∧ (m = sets ||| r.hec.setsNow high r.clk.now) :=
  ⟨5, false, 0x300000, 0x200000, 0x200000, ({ inService with hec := { pend := 0x100000 } }.at 5).hecFlush.hecSample, { inService with hec := { pend := 0x100000 } }, by decide +kernel⟩

theorem wit_TheHostEventControllerDelivers_7 : ∃ (t : Time) (i : Fin 8) (w : Word) (r s : State), (r = (s.at t).hecFlush.hecSample) ∧ (r.hecPowered = true) :=
  ⟨5, 5, 0x12345678, (inService.at 5).hecFlush.hecSample, inService, by decide +kernel⟩

theorem wit_TheHostEventControllerDelivers_8 : ∃ (t : Time) (core : Fin 4) (w : Word) (r s : State), (r = (s.at t).hecFlush.hecSample) ∧ (r.hecPowered = true) :=
  ⟨5, 3, 0x12345678, (inService.at 5).hecFlush.hecSample, inService, by decide +kernel⟩

theorem wit_TheHostEventControllerDelivers_9 : ∃ (t : Time) (r s : State), (r = (s.at t).hecFlush.hecSample) ∧ (r.hecPowered = true) :=
  ⟨5, ({ inService with hec := { goneCnt := Vector.replicate 4 7 } }.at 5).hecFlush.hecSample, { inService with hec := { goneCnt := Vector.replicate 4 7 } }, by decide +kernel⟩

theorem wit_TheHostEventControllerDelivers_10 : ∃ (t : Time) (core : Fin 4) (r s : State), (r = (s.at t).hecFlush.hecSample) :=
  ⟨5, 3, ({ inService with hec := { slots := Vector.replicate 4 { busy := true, src := 24 } } }.at 5).hecFlush.hecSample, { inService with hec := { slots := Vector.replicate 4 { busy := true, src := 24 } } }, by decide +kernel⟩

theorem wit_TheHostEventControllerDelivers_11 : ∃ (t : Time) (core : Fin 4) (w : Word) (s : State), (s.pwr.state = .hibernate) ∧ (s.pwr.waking = none) :=
  ⟨5, 3, 7, { inService with pwr := { inService.pwr with state := .hibernate } }, by decide +kernel⟩

theorem wit_TheHostEventControllerDelivers_12 : ∃ (t : Time) (high : Bool) (w sets : Word) (s : State), (s.pwr.state = .hibernate) ∧ (s.pwr.waking = none) :=
  ⟨5, false, 3, 7, { inService with pwr := { inService.pwr with state := .hibernate } }, by decide +kernel⟩

theorem wit_TheHostEventControllerDelivers_13 : ∃ (t : Time) (i : Fin 8) (w : Word) (s : State), (s.pwr.state = .hibernate) ∧ (s.pwr.waking = none) :=
  ⟨5, 3, 7, { inService with pwr := { inService.pwr with state := .hibernate } }, by decide +kernel⟩

theorem wit_TheHostEventControllerDelivers_14 : ∃ (t : Time) (core : Fin 4) (w : Word) (s : State), (s.pwr.state = .hibernate) ∧ (s.pwr.waking = none) :=
  ⟨5, 3, 7, { inService with pwr := { inService.pwr with state := .hibernate } }, by decide +kernel⟩

theorem wit_TheHostEventControllerDelivers_15 : ∃ (t : Time) (s : State), (s.pwr.state = .hibernate) ∧ (s.pwr.waking = none) :=
  ⟨5, { inService with pwr := { inService.pwr with state := .hibernate } }, by decide +kernel⟩

theorem wit_TheHostEventControllerDelivers_16 : ∃ (t b : Time) (core c : Fin 4) (w : Word) (s : State), ((s.at t).hecPowered = true) ∧ (s.hec.held = [.hecVbaseWrite b c w]) :=
  ⟨5, 4, 1, 2, 0x12345678, { inService with hec := { held := [.hecVbaseWrite 4 2 0x12345678] } }, by decide +kernel⟩

theorem wit_TheCheckValueUnitsCompute_2 : ∃ (t : Time) (k : Fin 2) (s : State), (s.cvu[k].aliveEn = true) :=
  ⟨5, 1, { inService with cvu := Vector.replicate 2 { aliveEn := true, aliveTx := 3 } }, by decide +kernel⟩

theorem wit_TheCheckValueUnitsCompute_3 : ∃ (t : Time) (k : Fin 2) (s : State), (s.cvu[k].aliveEn = false) :=
  ⟨5, 1, { inService with cvu := Vector.replicate 2 { aliveEn := false } }, by decide +kernel⟩

theorem wit_TheCheckValueUnitsCompute_5 : ∃ (t : Time) (k : Fin 2) (s : State), (s.cvu[k].mode = false) :=
  ⟨5, 1, { inService with cvu := Vector.replicate 2 { aliveEn := true } }, by decide +kernel⟩

theorem wit_TheCheckValueUnitsCompute_6 : ∃ (t : Time) (k : Fin 2) (s : State), (s.cvu[k].mode = true) :=
  ⟨5, 1, { inService with cvu := Vector.replicate 2 { mode := true } }, by decide +kernel⟩

theorem wit_SessionsOpenReadAndClose_1 : ∃ (t : Time) (src : SdpSrc) (mac : Mac) (tag : Option Tag) (p : List Byte) (i : Fin 5) (s : State), (src = .net mac tag p) ∧ (s.deServes = true) ∧ (s.inTurn src = true) ∧ ((parseSdp p).op = opOpen) ∧ (formAbort p (parseSdp p) true = none) ∧ ((parseSdp p).flags.testBit 1 = false) ∧ ((parseSdp p).data.length = 2) ∧ (10 ≤ leNat (parseSdp p).data) ∧ (leNat (parseSdp p).data ≤ 3600) ∧ (((List.finRange 5).find? fun (j : Fin 5) => decide (0 < j.val) && !s.sdp.sessions[j].opened) = some i) :=
  ⟨5, netSrc opOpen 0 0 [60, 0], 5, none, sdpPayload opOpen 0 0 7 0 0 0 [60, 0], 1, inService, by decide +kernel⟩

theorem wit_SessionsOpenReadAndClose_2 : ∃ (t : Time) (src : SdpSrc) (i : Fin 5) (q : SdpReq) (s : State), (s.stands src i q) ∧ (q.op = opClose) :=
  ⟨5, netSrc opClose 1 0 [], 1, parseSdp (sdpPayload opClose 0 1 7 0 0 0 []), session1 inService, by decide +kernel⟩

theorem wit_SessionsOpenReadAndClose_3 : ∃ (t : Time) (src : SdpSrc) (q : SdpReq) (s : State), (s.deServes = true) ∧ (s.payloadOf src = some q.whole) ∧ (s.inTurn src = true) ∧ (parseSdp q.whole = q) ∧ (20 ≤ q.whole.length) ∧ (q.ver = 1) ∧ (knownOp q.op = false) :=
  ⟨5, .mailbox, reqOf 0x7F 0 [], asked (reqOf 0x7F 0 []) (inService), by decide +kernel⟩

theorem wit_SessionsOpenReadAndClose_4 : ∃ (t : Time) (src : SdpSrc) (i : Fin 5) (q : SdpReq) (r : DRow) (v : List Byte) (s : State), (s.stands src i q) ∧ (s.unhindered i q) ∧ (q.op = opRead) ∧ (findRow q.key = .ok r) ∧ (r.acc ≠ .wo) ∧ (r.typ ≠ .domain) ∧ (((s.taken t src i q).readValue i q.key r).1 = .ok v) ∧ (v.length ≤ segSize (onNet src)) :=
  ⟨5, .mailbox, 0, reqOf opRead (dkey 0x2200 1) [], rowOf (dkey 0x2200 1), [0], asked (reqOf opRead (dkey 0x2200 1) []) (inService), by decide +kernel⟩

theorem wit_SessionsOpenReadAndClose_5 : ∃ (t : Time) (src : SdpSrc) (i : Fin 5) (q : SdpReq) (a : Abort) (s : State), (s.stands src i q) ∧ (s.unhindered i q) ∧ (q.op = opRead) ∧ (findRow q.key = .error a) :=
  ⟨5, .mailbox, 0, reqOf opRead (dkey 0x2FFF 1) [], (abIndex, 0), asked (reqOf opRead (dkey 0x2FFF 1) []) (inService), by decide +kernel⟩

theorem wit_SessionsOpenReadAndClose_6 : ∃ (t : Time) (src : SdpSrc) (i : Fin 5) (q : SdpReq) (s : State), (s.stands src i q) ∧ (s.unhindered i q) ∧ (q.op = opRead) ∧ (q.key = keyChallenge) :=
  ⟨5, .mailbox, 0, reqOf opRead keyChallenge [], asked (reqOf opRead keyChallenge []) (inService), by decide +kernel⟩

theorem wit_SessionsOpenReadAndClose_7 : ∃ (t : Time) (src : SdpSrc) (i : Fin 5) (q : SdpReq) (lvl : Nat) (c : List Byte) (a : Time) (s : State), (s.stands src i q) ∧ (s.unhindered i q) ∧ (q.op = opWrite) ∧ (q.key = keyResponse) ∧ (q.flags.testBit 0 = false) ∧ (q.data.length = 9) ∧ (lvl = (q.data.head?.getD 0).toNat) ∧ (1 ≤ lvl) ∧ (lvl ≤ 3) ∧ (s.sdp.sessions[i].barUntil = none) ∧ (s.sdp.sessions[i].challenge = some (c, a)) ∧ ((s.at t).clk.now ≤ a + secs 10) ∧ (s.nv.keys.getD (s.levelKeySlot (lvl - 1)) [] ≠ []) ∧ (s.test.authFail = false) ∧ (q.data.drop 1 = (aesCmac (s.nv.keys.getD (s.levelKeySlot (lvl - 1)) []) (c ++ leBytes 2 i.val ++ leBytes 1 lvl)).take 8) :=
  ⟨5, .mailbox, 0, reqOf opWrite keyResponse (2 :: (aesCmac (List.replicate 16 7) (List.replicate 16 1 ++ leBytes 2 0 ++ leBytes 1 2)).take 8), 2, List.replicate 16 1, 3, asked (reqOf opWrite keyResponse (2 :: (aesCmac (List.replicate 16 7) (List.replicate 16 1 ++ leBytes 2 0 ++ leBytes 1 2)).take 8)) ({ inService with nv := { inService.nv with keys := List.replicate 16 (List.replicate 16 7) } }) (fun x => { x with level := 0, challenge := some (List.replicate 16 1, 3) }), by decide +kernel⟩

theorem wit_SessionsOpenReadAndClose_8 : ∃ (t : Time) (src : SdpSrc) (i : Fin 5) (q : SdpReq) (lvl : Nat) (c : List Byte) (a : Time) (s : State), (s.stands src i q) ∧ (s.unhindered i q) ∧ (q.op = opWrite) ∧ (q.key = keyResponse) ∧ (q.flags.testBit 0 = false) ∧ (q.data.length = 9) ∧ (s.sdp.sessions[i].barUntil = none) ∧ (lvl = (q.data.head?.getD 0).toNat) ∧ (1 ≤ lvl) ∧ (lvl ≤ 3) ∧ (s.sdp.sessions[i].challenge = some (c, a)) ∧ (¬ ((s.at t).clk.now ≤ a + secs 10 ∧ s.nv.keys.getD (s.levelKeySlot (lvl - 1)) [] ≠ [] ∧ s.test.authFail = false ∧
        q.data.drop 1 = (aesCmac (s.nv.keys.getD (s.levelKeySlot (lvl - 1)) []) (c ++ leBytes 2 i.val ++ leBytes 1 lvl)).take 8)) :=
  ⟨5, .mailbox, 0, reqOf opWrite keyResponse (List.replicate 9 2), 2, List.replicate 16 1, 3, asked (reqOf opWrite keyResponse (List.replicate 9 2)) (inService) (fun x => { x with challenge := some (List.replicate 16 1, 3), refusals := 2 }), by decide +kernel⟩

theorem wit_SessionsOpenReadAndClose_9 : ∃ (t : Time) (src : SdpSrc) (i : Fin 5) (q : SdpReq) (s : State), (s.stands src i q) ∧ (s.unhindered i q) ∧ (q.op = opWrite) ∧ (q.key = keyResponse) ∧ (q.flags.testBit 0 = false) ∧ (q.data.length = 9) ∧ (s.sdp.sessions[i].barUntil = none) ∧ (1 ≤ (q.data.head?.getD 0).toNat) ∧ ((q.data.head?.getD 0).toNat ≤ 3) ∧ (s.sdp.sessions[i].challenge = none) :=
  ⟨5, .mailbox, 0, reqOf opWrite keyResponse (List.replicate 9 2), asked (reqOf opWrite keyResponse (List.replicate 9 2)) (inService), by decide +kernel⟩

theorem wit_SessionsOpenReadAndClose_10 : ∃ (t : Time) (src : SdpSrc) (i : Fin 5) (q : SdpReq) (s : State), (s.stands src i q) ∧ (s.unhindered i q) ∧ (q.op = opWrite) ∧ (q.key = keyResponse) ∧ (q.flags.testBit 0 = false) ∧ (q.data.length = 9) ∧ (s.sdp.sessions[i].barUntil = none) ∧ ((q.data.head?.getD 0).toNat = 0 ∨ 3 < (q.data.head?.getD 0).toNat) :=
  ⟨5, .mailbox, 0, reqOf opWrite keyResponse (List.replicate 9 4), asked (reqOf opWrite keyResponse (List.replicate 9 4)) (inService), by decide +kernel⟩

theorem wit_SessionsOpenReadAndClose_11 : ∃ (t : Time) (src : SdpSrc) (i : Fin 5) (q : SdpReq) (b : Time) (s : State), (s.stands src i q) ∧ (s.unhindered i q) ∧ (q.op = opWrite) ∧ (q.key = keyResponse) ∧ (q.flags.testBit 0 = false) ∧ (q.data.length = 9) ∧ (s.sdp.sessions[i].barUntil = some b) :=
  ⟨5, .mailbox, 0, reqOf opWrite keyResponse (List.replicate 9 1), secs 60, asked (reqOf opWrite keyResponse (List.replicate 9 1)) (inService) (fun x => { x with barUntil := some (secs 60) }), by decide +kernel⟩

theorem wit_SessionsOpenReadAndClose_12 : ∃ (t : Time) (src : SdpSrc) (i : Fin 5) (q : SdpReq) (r : DRow) (s : State), (s.granted t src i q r) ∧ (q.key = keyLevel) :=
  ⟨5, .mailbox, 0, reqOf opWrite keyLevel [1], rowOf keyLevel, asked (reqOf opWrite keyLevel [1]) (inService), by decide +kernel⟩

theorem wit_TransfersAndTransactionsRun_1 : ∃ (t : Time) (src : SdpSrc) (i : Fin 5) (q : SdpReq) (r : DRow) (v : List Byte) (s : State), (s.stands src i q) ∧ (s.unhindered i q) ∧ (q.op = opReadInit) ∧ (s.sdp.sessions[i].xfer = none) ∧ (findRow q.key = .ok r) ∧ (r.acc ≠ .wo) ∧ (((s.taken t src i q).readValue i q.key r).1 = .ok v) :=
  ⟨5, .mailbox, 0, reqOf opReadInit (dkey 0x2200 1) [], rowOf (dkey 0x2200 1), [0], asked (reqOf opReadInit (dkey 0x2200 1) []) (inService), by decide +kernel⟩

theorem wit_TransfersAndTransactionsRun_2 : ∃ (t : Time) (src : SdpSrc) (i : Fin 5) (q : SdpReq) (f : Xfer) (s : State), (s.stands src i q) ∧ (s.unhindered i q) ∧ (q.op = opReadSeg) ∧ (s.sdp.sessions[i].xfer = some f) ∧ (f.write = false) ∧ (q.segNo = f.next) ∧ (f.done (segSize (onNet src)) = false) :=
  ⟨5, .mailbox, 0, reqOf opReadSeg 0 [], { key := dkey 0x7000 2, write := false, data := List.replicate 300 9, size := 300, next := 0, lastAt := 0 }, asked (reqOf opReadSeg 0 []) (inService) (fun x => { x with xfer := some { key := dkey 0x7000 2, write := false, data := List.replicate 300 9, size := 300, next := 0, lastAt := 0 } }), by decide +kernel⟩

theorem wit_TransfersAndTransactionsRun_3 : ∃ (t : Time) (src : SdpSrc) (i : Fin 5) (q : SdpReq) (r : DRow) (s : State), (s.stands src i q) ∧ (s.unhindered i q) ∧ (q.op = opWriteInit) ∧ (s.sdp.sessions[i].xfer = none) ∧ (q.flags.testBit 0 = false) ∧ (q.data.length = 4) ∧ (dictRow q.key = some r) ∧ (r.acc ≠ .ro) ∧ (r.acc ≠ .const) ∧ (r.level ≤ s.sdp.sessions[i].level) ∧ (q.key ≠ keyImage) :=
  ⟨5, .mailbox, 0, reqOf opWriteInit (dkey 0x2200 1) [1, 0, 0, 0], rowOf (dkey 0x2200 1), asked (reqOf opWriteInit (dkey 0x2200 1) [1, 0, 0, 0]) (inService), by decide +kernel⟩

theorem wit_TransfersAndTransactionsRun_4 : ∃ (t : Time) (src : SdpSrc) (i : Fin 5) (q : SdpReq) (f : Xfer) (s : State), (s.stands src i q) ∧ (s.unhindered i q) ∧ (q.op = opWriteSeg) ∧ (s.sdp.sessions[i].xfer = some f) ∧ (f.write = true) ∧ (q.segNo = f.next) ∧ (f.done (segSize (onNet src)) = false) ∧ (q.flags.testBit 2 = false) ∧ (q.data.length = segSize (onNet src)) :=
  ⟨5, .mailbox, 0, reqOf opWriteSeg 0 (List.replicate 236 3), { key := dkey 0x2300 1, write := true, data := [], size := 300, next := 0, lastAt := 0 }, asked (reqOf opWriteSeg 0 (List.replicate 236 3)) (inService) (fun x => { x with xfer := some { key := dkey 0x2300 1, write := true, data := [], size := 300, next := 0, lastAt := 0 } }), by decide +kernel⟩

theorem wit_TransfersAndTransactionsRun_5 : ∃ (t : Time) (src : SdpSrc) (i : Fin 5) (q : SdpReq) (f : Xfer) (s : State), (s.stands src i q) ∧ (s.unhindered i q) ∧ (q.op = opXferAbort) ∧ (s.sdp.sessions[i].xfer = some f) ∧ (f.done (segSize (onNet src)) = false) :=
  ⟨5, .mailbox, 0, reqOf opXferAbort 0 [], { key := dkey 0x7000 2, write := false, data := List.replicate 300 9, size := 300, next := 0, lastAt := 0 }, asked (reqOf opXferAbort 0 []) (inService) (fun x => { x with xfer := some { key := dkey 0x7000 2, write := false, data := List.replicate 300 9, size := 300, next := 0, lastAt := 0 } }), by decide +kernel⟩

theorem wit_TransfersAndTransactionsRun_6 : ∃ (t : Time) (src : SdpSrc) (i : Fin 5) (q : SdpReq) (s : State), (s.stands src i q) ∧ (s.unhindered i q) ∧ (q.op = opTxnBegin) ∧ (s.sdp.txn = none) ∧ (s.nv.journal.state ≠ 2) ∧ (s.nv.journal.state ≠ 3) :=
  ⟨5, .mailbox, 0, reqOf opTxnBegin 0 [], asked (reqOf opTxnBegin 0 []) (inService), by decide +kernel⟩

theorem wit_TransfersAndTransactionsRun_7 : ∃ (t : Time) (src : SdpSrc) (i : Fin 5) (q : SdpReq) (r : DRow) (x : Txn) (s : State), (s.stands src i q) ∧ (s.unhindered i q) ∧ (q.op = opWrite) ∧ (q.flags.testBit 0 = true) ∧ (dictRow q.key = some r) ∧ (checkValue s.sdp.sessions[i].level q.key r q.data = none) ∧ (keyRwt q.key = false) ∧ (s.sdp.txn = some x) ∧ (x.sess = i) ∧ (x.items.length < 64) :=
  ⟨5, .mailbox, 0, reqOf opWrite (dkey 0x2200 1) [2] 1, rowOf (dkey 0x2200 1), { sess := 0, number := 1, lastAt := 0 }, asked (reqOf opWrite (dkey 0x2200 1) [2] 1) ({ inService with sdp := { inService.sdp with txn := some { sess := 0, number := 1, lastAt := 0 } } }), by decide +kernel⟩

theorem wit_TransfersAndTransactionsRun_8 : ∃ (t : Time) (src : SdpSrc) (i : Fin 5) (q : SdpReq) (x : Txn) (s : State), (s.stands src i q) ∧ (s.unhindered i q) ∧ (q.op = opTxnEnd) ∧ (s.sdp.txn = some x) ∧ (x.sess = i) ∧ (s.nv.journal.state = 0) ∧ (x.items.all (fun e => cfgKey e.1) = true) ∧ ((s.staged t src i q).bothJudgeTxn (fun v => (s.staged t src i q).judgeTxn v i x.items) = none) :=
  ⟨5, .mailbox, 0, reqOf opTxnEnd 0 [], { sess := 0, number := 1, items := [(dkey 0x2200 0x0B, [1])], lastAt := 0 }, asked (reqOf opTxnEnd 0 []) ({ inService with sdp := { inService.sdp with txn := some { sess := 0, number := 1, items := [(dkey 0x2200 0x0B, [1])], lastAt := 0 } } }), by decide +kernel⟩

theorem wit_TransfersAndTransactionsRun_9 : ∃ (t : Time) (src : SdpSrc) (i : Fin 5) (q : SdpReq) (x : Txn) (s : State), (s.stands src i q) ∧ (s.unhindered i q) ∧ (q.op = opTxnDiscard) ∧ (s.sdp.txn = some x) ∧ (x.sess = i) :=
  ⟨5, .mailbox, 0, reqOf opTxnDiscard 0 [], { sess := 0, number := 1, lastAt := 0 }, asked (reqOf opTxnDiscard 0 []) ({ inService with sdp := { inService.sdp with txn := some { sess := 0, number := 1, lastAt := 0 } } }), by decide +kernel⟩

theorem wit_TransfersAndTransactionsRun_10 : ∃ (t : Time) (src : SdpSrc) (i : Fin 5) (q : SdpReq) (r : DRow) (s : State), (s.granted t src i q r) ∧ (q.key = keyRollback) ∧ (q.data = [1]) ∧ (s.nv.journal.state = 3) :=
  ⟨5, .mailbox, 0, reqOf opWrite keyRollback [1], rowOf keyRollback, asked (reqOf opWrite keyRollback [1]) ({ inService with nv := { inService.nv with journal := { state := 3, items := [(dkey 0x2200 0x0B, [0], [1])], map := 1 } } }), by decide +kernel⟩

theorem wit_TransfersAndTransactionsRun_11 : ∃ (t : Time) (src : SdpSrc) (i : Fin 5) (q : SdpReq) (r : DRow) (s : State), (s.granted t src i q r) ∧ (q.key = keyRerun) ∧ (q.data = [1]) ∧ (s.nv.journal.state = 3) :=
  ⟨5, .mailbox, 0, reqOf opWrite keyRerun [1], rowOf keyRerun, asked (reqOf opWrite keyRerun [1]) ({ inService with nv := { inService.nv with journal := { state := 3, items := [(dkey 0x2200 0x0B, [0], [1])] } } }), by decide +kernel⟩

theorem wit_WritesTakeEffect_1 : ∃ (t : Time) (src : SdpSrc) (i : Fin 5) (q : SdpReq) (r : DRow) (s : State), (s.granted t src i q r) ∧ (cfgKey q.key = true) ∧ (r.acc ≠ .rwt) :=
  ⟨5, .mailbox, 0, reqOf opWrite (dkey 0x2200 0x0B) [1], rowOf (dkey 0x2200 0x0B), asked (reqOf opWrite (dkey 0x2200 0x0B) [1]) (inService), by decide +kernel⟩

theorem wit_WritesTakeEffect_2 : ∃ (t : Time) (src : SdpSrc) (i : Fin 5) (q : SdpReq) (r : DRow) (s : State), (s.granted t src i q r) ∧ (r.acc = .rwt) :=
  ⟨5, .mailbox, 0, reqOf opWrite (dkey 0x3300 6) [9], rowOf (dkey 0x3300 6), asked (reqOf opWrite (dkey 0x3300 6) [9]) (inService), by decide +kernel⟩

theorem wit_WritesTakeEffect_3 : ∃ (t : Time) (src : SdpSrc) (i : Fin 5) (q : SdpReq) (r : DRow) (s : State), (s.granted t src i q r) ∧ (q.key = keyDiscard) ∧ (q.data = [1]) :=
  ⟨5, .mailbox, 0, reqOf opWrite (keyDiscard) [1], rowOf (keyDiscard), asked (reqOf opWrite (keyDiscard) [1]) (inService) (fun x => { x with pending := [(dkey 0x3300 6, [9])] }), by decide +kernel⟩

theorem wit_WritesTakeEffect_4 : ∃ (t : Time) (src : SdpSrc) (i : Fin 5) (q : SdpReq) (r : DRow) (s : State), (s.granted t src i q r) ∧ (q.key = keyCancel) :=
  ⟨5, .mailbox, 0, reqOf opWrite (keyCancel) [4, 0, 0, 0], rowOf (keyCancel), asked (reqOf opWrite (keyCancel) [4, 0, 0, 0]) ({ inService with nv := { inService.nv with waiting := [{ number := 4, time := 0, level := 1, items := [] }] } }), by decide +kernel⟩

theorem wit_WritesTakeEffect_5 : ∃ (t : Time) (src : SdpSrc) (i : Fin 5) (q : SdpReq) (r : DRow) (s : State), (s.granted t src i q r) ∧ (q.key = keyAdvance) ∧ (q.data = [1]) ∧ (s.sdp.sessions[i].recCursor < s.nv.mem.recs.length) :=
  ⟨5, .mailbox, 0, reqOf opWrite (keyAdvance) [1], rowOf (keyAdvance), asked (reqOf opWrite (keyAdvance) [1]) ({ inService with nv := { inService.nv with mem := { recs := [[]] } } }), by decide +kernel⟩

theorem wit_WritesTakeEffect_6 : ∃ (t : Time) (src : SdpSrc) (i : Fin 5) (q : SdpReq) (r : DRow) (sec : Fin 4) (s : State), (s.granted t src i q r) ∧ (isNoEntryRelease q.key = true) ∧ (q.data = [1]) ∧ (sec = secOfKey 0x2200 q.key) :=
  ⟨5, .mailbox, 0, reqOf opWrite (dkey 0x2201 0x0E) [1], rowOf (dkey 0x2201 0x0E), 1, asked (reqOf opWrite (dkey 0x2201 0x0E) [1]) ({ inService with keep := { braking := Vector.replicate 4 true }, trac := Vector.replicate 4 { fresh := true, ctrl := 0x400 } }), by decide +kernel⟩

theorem wit_WritesTakeEffect_7 : ∃ (t : Time) (src : SdpSrc) (i : Fin 5) (q : SdpReq) (r : DRow) (c : Fin 16) (s : State), (s.granted t src i q r) ∧ (q.key = keyScanNow) ∧ (leNat q.data = c.val) ∧ (s.fe.scans[c].due = false) :=
  ⟨5, .mailbox, 0, reqOf opWrite (keyScanNow) [3], rowOf (keyScanNow), 3, asked (reqOf opWrite (keyScanNow) [3]) (inService), by decide +kernel⟩

theorem wit_WritesTakeEffect_8 : ∃ (t : Time) (src : SdpSrc) (i : Fin 5) (q : SdpReq) (r : DRow) (c : Fin 16) (s : State), (s.granted t src i q r) ∧ (q.key = keyProofNow) ∧ (leNat q.data = c.val) :=
  ⟨5, .mailbox, 0, reqOf opWrite (keyProofNow) [3], rowOf (keyProofNow), 3, asked (reqOf opWrite (keyProofNow) [3]) (inService), by decide +kernel⟩

theorem wit_WritesTakeEffect_9 : ∃ (t : Time) (src : SdpSrc) (i : Fin 5) (q : SdpReq) (r : DRow) (s : State), (s.granted t src i q r) ∧ (q.key = keyRelease) ∧ (leNat q.data ≠ 0xFFFFFFFF) ∧ (kvWf s.sdp.work = true) :=
  ⟨5, .mailbox, 0, reqOf opWrite (keyRelease) (leBytes 4 (dkey 0x3300 0x0B)), rowOf (keyRelease), asked (reqOf opWrite (keyRelease) (leBytes 4 (dkey 0x3300 0x0B))) (withWork [(dkey 0x3300 0x0B, [0x10, 0x27])] inService), by decide +kernel⟩

theorem wit_WritesTakeEffect_10 : ∃ (t : Time) (src : SdpSrc) (i : Fin 5) (q : SdpReq) (r : DRow) (s : State), (s.granted t src i q r) ∧ (q.key = keyCommit) ∧ (deferredSet s.sdp.sessions[i].pending = true) :=
  ⟨5, .mailbox, 0, commitReq [(dkey 0x3300 6, [9])], rowOf keyCommit, committing [(dkey 0x3300 6, [9])] inService, by decide +kernel⟩

theorem wit_TwoKeyCommitsTakeEffect_1 : ∃ (t : Time) (src : SdpSrc) (i : Fin 5) (q : SdpReq) (r : DRow) (k : Nat) (val : List Byte) (m : State) (n : Fin 4) (s : State), (s.granted t src i q r) ∧ (q.key = keyCommit) ∧ (s.sdp.sessions[i].pending = [(k, val)]) ∧ (m = ((s.staged t src i q).execute i q (onNet src) .whole).st) ∧ (k = dkey 0x4021 1) ∧ (bitOf (leNat val) n.val = true) :=
  ⟨20, .mailbox, 0, commitReq [(dkey 0x4021 1, [3])], rowOf keyCommit, dkey 0x4021 1, [3], (((committing [(dkey 0x4021 1, [3])] ({ inService with nv := { inService.nv with secs := inService.nv.secs.map fun e => { e with epoch := 3 } } })).staged 20 .mailbox 0 (commitReq [(dkey 0x4021 1, [3])])).execute 0 (commitReq [(dkey 0x4021 1, [3])]) false .whole).st, 1, committing [(dkey 0x4021 1, [3])] ({ inService with nv := { inService.nv with secs := inService.nv.secs.map fun e => { e with epoch := 3 } } }), by decide +kernel⟩

theorem wit_TwoKeyCommitsTakeEffect_2 : ∃ (t : Time) (src : SdpSrc) (i : Fin 5) (q : SdpReq) (r : DRow) (k : Nat) (val : List Byte) (m : State) (v : Fin 2) (n : Fin 4) (s : State), (s.granted t src i q r) ∧ (q.key = keyCommit) ∧ (s.sdp.sessions[i].pending = [(k, val)]) ∧ (m = ((s.staged t src i q).execute i q (onNet src) .whole).st) ∧ (0x2200 ≤ k / 256) ∧ (k / 256 < 0x2204) ∧ (k % 256 = 0x0C) ∧ (leNat val ≠ 0) ∧ (v ∈ s.serving) ∧ (n = secOfKey 0x2200 k) :=
  ⟨20, .mailbox, 0, commitReq [(dkey 0x2200 0x0C, [1])], rowOf keyCommit, dkey 0x2200 0x0C, [1], (((committing [(dkey 0x2200 0x0C, [1])] (sweepable)).staged 20 .mailbox 0 (commitReq [(dkey 0x2200 0x0C, [1])])).execute 0 (commitReq [(dkey 0x2200 0x0C, [1])]) false .whole).st, 0, 0, committing [(dkey 0x2200 0x0C, [1])] (sweepable), by decide +kernel⟩

theorem wit_TwoKeyCommitsTakeEffect_3 : ∃ (t : Time) (src : SdpSrc) (i : Fin 5) (q : SdpReq) (r : DRow) (k : Nat) (val : List Byte) (m : State) (v : Fin 2) (n : Fin 4) (s : State), (s.granted t src i q r) ∧ (q.key = keyCommit) ∧ (s.sdp.sessions[i].pending = [(k, val)]) ∧ (m = ((s.staged t src i q).execute i q (onNet src) .whole).st) ∧ (0x2200 ≤ k / 256) ∧ (k / 256 < 0x2204) ∧ (k % 256 = 0x0D) ∧ (leNat val ≠ 0) ∧ (v ∈ s.serving) ∧ (n = secOfKey 0x2200 k) :=
  ⟨20, .mailbox, 0, commitReq [(dkey 0x2200 0x0D, [1, 0, 0, 0])], rowOf keyCommit, dkey 0x2200 0x0D, [1, 0, 0, 0], (((committing [(dkey 0x2200 0x0D, [1, 0, 0, 0])] (settled)).staged 20 .mailbox 0 (commitReq [(dkey 0x2200 0x0D, [1, 0, 0, 0])])).execute 0 (commitReq [(dkey 0x2200 0x0D, [1, 0, 0, 0])]) false .whole).st, 0, 0, committing [(dkey 0x2200 0x0D, [1, 0, 0, 0])] (settled), by decide +kernel⟩

theorem wit_TwoKeyCommitsTakeEffect_4 : ∃ (t : Time) (src : SdpSrc) (i : Fin 5) (q : SdpReq) (r : DRow) (k : Nat) (val : List Byte) (m : State) (h : Fin 8) (j : Fin 2) (s : State), (s.granted t src i q r) ∧ (q.key = keyCommit) ∧ (s.sdp.sessions[i].pending = [(k, val)]) ∧ (m = ((s.staged t src i q).execute i q (onNet src) .whole).st) ∧ (k / 256 = 0x3200 + h.val) ∧ (k % 256 = 0x12) ∧ (bitOf (leNat val) j.val = true) ∧ (leNat val < 4) :=
  ⟨20, .mailbox, 0, commitReq [(dkey 0x3201 0x12, [2])], rowOf keyCommit, dkey 0x3201 0x12, [2], (((committing [(dkey 0x3201 0x12, [2])] (withWork headOn (withDets { haveB0 := true }))).staged 20 .mailbox 0 (commitReq [(dkey 0x3201 0x12, [2])])).execute 0 (commitReq [(dkey 0x3201 0x12, [2])]) false .whole).st, 1, 1, committing [(dkey 0x3201 0x12, [2])] (withWork headOn (withDets { haveB0 := true })), by decide +kernel, by decide +kernel, by decide +kernel, rfl, by decide +kernel⟩

theorem wit_TwoKeyCommitsTakeEffect_5 : ∃ (t : Time) (src : SdpSrc) (i : Fin 5) (q : SdpReq) (r : DRow) (k : Nat) (val : List Byte) (m : State) (v : Fin 2) (n : Fin 4) (s : State), (s.granted t src i q r) ∧ (q.key = keyCommit) ∧ (s.sdp.sessions[i].pending = [(k, val)]) ∧ (m = ((s.staged t src i q).execute i q (onNet src) .whole).st) ∧ (0x3300 ≤ k / 256) ∧ (k / 256 < 0x3304) ∧ (k % 256 = 0x0A) ∧ (leNat val ≠ 0) ∧ (v ∈ s.serving) ∧ (n = secOfKey 0x3300 k) :=
  ⟨20, .mailbox, 0, commitReq [(dkey 0x3300 0x0A, [1])], rowOf keyCommit, dkey 0x3300 0x0A, [1], (((committing [(dkey 0x3300 0x0A, [1])] (survivorOnly { withProp 0 (fun p => { p with witness := true }) with trac := Vector.replicate 4 { fresh := true, ctrl := 0x3000 } })).staged 20 .mailbox 0 (commitReq [(dkey 0x3300 0x0A, [1])])).execute 0 (commitReq [(dkey 0x3300 0x0A, [1])]) false .whole).st, 0, 0, committing [(dkey 0x3300 0x0A, [1])] (survivorOnly { withProp 0 (fun p => { p with witness := true }) with trac := Vector.replicate 4 { fresh := true, ctrl := 0x3000 } }), by decide +kernel⟩

theorem wit_TwoKeyCommitsTakeEffect_6 : ∃ (t : Time) (src : SdpSrc) (i : Fin 5) (q : SdpReq) (r : DRow) (k : Nat) (val : List Byte) (m : State) (s : State), (s.granted t src i q r) ∧ (q.key = keyCommit) ∧ (s.sdp.sessions[i].pending = [(k, val)]) ∧ (m = ((s.staged t src i q).execute i q (onNet src) .whole).st) ∧ (k / 256 = 0x4040) :=
  ⟨20, .mailbox, 0, commitReq [(dkey 0x4040 3, (List.replicate 16 7))], rowOf keyCommit, dkey 0x4040 3, (List.replicate 16 7), (((committing [(dkey 0x4040 3, (List.replicate 16 7))] (inService)).staged 20 .mailbox 0 (commitReq [(dkey 0x4040 3, (List.replicate 16 7))])).execute 0 (commitReq [(dkey 0x4040 3, (List.replicate 16 7))]) false .whole).st, committing [(dkey 0x4040 3, (List.replicate 16 7))] (inService), by decide +kernel⟩

theorem wit_TwoKeyCommitsTakeEffect_7 : ∃ (t : Time) (src : SdpSrc) (i : Fin 5) (q : SdpReq) (r : DRow) (k : Nat) (val : List Byte) (m : State) (s : State), (s.granted t src i q r) ∧ (q.key = keyCommit) ∧ (s.sdp.sessions[i].pending = [(k, val)]) ∧ (m = ((s.staged t src i q).execute i q (onNet src) .whole).st) ∧ (k / 256 = 0x4040) :=
  ⟨20, .mailbox, 0, commitReq [(dkey 0x4040 3, (List.replicate 16 0))], rowOf keyCommit, dkey 0x4040 3, (List.replicate 16 0), (((committing [(dkey 0x4040 3, (List.replicate 16 0))] ({ inService with nv := { inService.nv with keys := List.replicate 16 (List.replicate 16 7) } })).staged 20 .mailbox 0 (commitReq [(dkey 0x4040 3, (List.replicate 16 0))])).execute 0 (commitReq [(dkey 0x4040 3, (List.replicate 16 0))]) false .whole).st, committing [(dkey 0x4040 3, (List.replicate 16 0))] ({ inService with nv := { inService.nv with keys := List.replicate 16 (List.replicate 16 7) } }), by decide +kernel⟩

theorem wit_TwoKeyCommitsTakeEffect_8 : ∃ (t : Time) (src : SdpSrc) (i : Fin 5) (q : SdpReq) (r : DRow) (s : State), (s.granted t src i q r) ∧ (q.key = keyCommit) ∧ (s.sdp.sessions[i].pending.all (fun e => e.1 / 256 == 0x4020) = true) ∧ (s.sdp.sessions[i].pending ≠ []) :=
  ⟨5, .mailbox, 0, commitReq pitSet, rowOf keyCommit, committing pitSet inService, by decide +kernel⟩

theorem wit_SessionTimersRunOut_1 : ∃ (t : Time) (w : WaitingReq) (l : List WaitingReq) (s : State), (s.sdp.waiting = w :: l) ∧ (w.at_ + ms 20 ≤ t) :=
  ⟨ms 21, { src := .mailbox, at_ := 0 }, [], { inService with sdp := { inService.sdp with waiting := [{ src := .mailbox, at_ := 0 }] } }, by decide +kernel⟩

theorem wit_SessionTimersRunOut_2 : ∃ (t : Time) (i : Fin 5) (s : State), (i ≠ 0) ∧ (s.sdp.sessions[i].opened = true) ∧ (s.sdp.sessions[i].lastAt + secs s.sdp.sessions[i].idle ≤ t) :=
  ⟨secs 60, 1, session1 inService, by decide +kernel⟩

theorem wit_SessionTimersRunOut_3 : ∃ (t : Time) (i : Fin 5) (f : Xfer) (s : State), (s.sdp.sessions[i].xfer = some f) ∧ (f.done (segSize (i != 0)) = false) ∧ (f.lastAt + secs 5 ≤ t) :=
  ⟨secs 60, 1, { key := dkey 0x7000 2, write := false, data := List.replicate 300 9, size := 300, next := 0, lastAt := 0 }, session1 inService fun x => { x with xfer := some { key := dkey 0x7000 2, write := false, data := List.replicate 300 9, size := 300, next := 0, lastAt := 0 } }, by decide +kernel⟩

theorem wit_SessionTimersRunOut_4 : ∃ (t : Time) (i : Fin 5) (s : State), (s.sdp.sessions[i].pending ≠ []) ∧ (s.sdp.sessions[i].pendAt + secs 600 ≤ t) :=
  ⟨secs 600, 1, session1 inService fun x => { x with pending := [(dkey 0x3300 6, [9])] }, by decide +kernel⟩

theorem wit_SessionTimersRunOut_5 : ∃ (t : Time) (x : Txn) (s : State), (s.sdp.txn = some x) ∧ (x.lastAt + secs 30 ≤ t) :=
  ⟨secs 30, { sess := 0, number := 1, lastAt := 0 }, { inService with sdp := { inService.sdp with txn := some { sess := 0, number := 1, lastAt := 0 } } }, by decide +kernel⟩

theorem wit_SessionTimersRunOut_6 : ∃ (t a : Time) (i : Fin 5) (s : State), (s.sdp.sessions[i].barUntil = some a) ∧ (a ≤ t) :=
  ⟨secs 60, secs 60, 1, session1 inService fun x => { x with barUntil := some (secs 60) }, by decide +kernel⟩

theorem wit_SessionTimersRunOut_7 : ∃ (t : Time) (s : State), (s.released = true) ∧ (s.sdp.posState ≠ 0) ∧ (s.net.trailers = true) ∧ (s.sdp.wantedAt = 0 ∨ s.sdp.wantedAt + secs 10 ≤ t) :=
  ⟨secs 10, { inService with net := { inService.net with trailers := true } }, by decide +kernel⟩

theorem wit_SessionTimersRunOut_8 : ∃ (t : Time) (okA okB : Bool) (version : Word) (s : State), (s.released = true) ∧ (s.nv.images.state = 2) :=
  ⟨5, true, true, 7, { inService with nv := { inService.nv with images := { state := 2 } } }, by decide +kernel⟩

theorem wit_TelegramsAreSentAtTheirTimes_1 : ∃ (t : Time) (port : Fin 4) (s : State), (s.net.stopped = false) ∧ (s.timeGood = true) ∧ (s.phase = .service) :=
  ⟨5, 0, connected inService, by decide +kernel⟩

theorem wit_TelegramsAreSentAtTheirTimes_2 : ∃ (t st : Time) (k : Fin 8) (s : State), ((s.at t).slotDue k = some st) ∧ (s.mayHasp k = true) ∧ (s.pwr.state ≠ .hibernate) ∧ (s.serving ≠ []) ∧ (s.authMode k ≠ 1) :=
  ⟨ms 4, ms 4, 0, connected inService, by decide +kernel⟩

theorem wit_TelegramsAreSentAtTheirTimes_3 : ∃ (t st : Time) (k : Fin 8) (v : Fin 2) (s : State), ((s.at t).slotDue k = some st) ∧ (s.mayHasp k = true) ∧ (s.pwr.state ≠ .hibernate) ∧ (s.serving = [v]) ∧ (s.authMode k ≠ 1) :=
  ⟨ms 4, ms 4, 0, 0, survivorOnly (connected inService), by decide +kernel⟩

theorem wit_TelegramsAreSentAtTheirTimes_4 : ∃ (t st : Time) (k : Fin 8) (v : Fin 2) (x : Tele) (s : State), ((s.at t).slotDue k = some st) ∧ (s.mayHasp k = true) ∧ (s.pwr.state = .hibernate) ∧ (s.serving = [v]) ∧ (s.hasp.conns[k].template[v] = some x) ∧ (x.auth ≠ 1) :=
  ⟨ms 4, ms 4, 0, 0, {}, let s := survivorOnly (connected (asleepIn .hibernate)); { s with hasp := { conns := Vector.replicate 8 { template := Vector.replicate 2 (some {}) } } }, by decide +kernel⟩

theorem wit_ReceivedTelegramsAreTakenOrCounted_1 : ∃ (t : Time) (port : Fin 4) (f : Frame) (s : State), (s.phase = .service) ∧ (s.net.ports[port].link = true) ∧ (f.fcsOk = true) ∧ (protocolOf f = some protoHasp) ∧ (connections.filter (fun (k : Fin 8) => s.connEnable k && s.neighbourMac k == f.src) = []) :=
  ⟨5, 0, teleFrame {}, online inService, by decide +kernel⟩

theorem wit_ReceivedTelegramsAreTakenOrCounted_2 : ∃ (t : Time) (port : Fin 4) (f : Frame) (k : Fin 8) (l : List (Fin 8)) (s : State), (s.phase = .service) ∧ (s.net.ports[port].link = true) ∧ (f.fcsOk = true) ∧ (protocolOf f = some protoHasp) ∧ (((connections.filter fun (k : Fin 8) => s.connEnable k && s.neighbourMac k == f.src).filter fun (k : Fin 8) => s.connSide k == (sideOf port).val) = k :: l) ∧ (teleFormat (f.body.drop 5) = false) :=
  ⟨5, 0, frameOf 7 5 0x88B7 (ouiBytes ++ [0x5D, 0x18, 1]), 0, [], connected inService, by decide +kernel⟩

set_option maxRecDepth 100000 in
theorem wit_ReceivedTelegramsAreTakenOrCounted_3 : ∃ (t : Time) (port : Fin 4) (f : Frame) (k : Fin 8) (l : List (Fin 8)) (s : State), (s.phase = .service) ∧ (s.net.ports[port].link = true) ∧ (f.fcsOk = true) ∧ (protocolOf f = some protoHasp) ∧ (f.tag = none) ∧ (((connections.filter fun (k : Fin 8) => s.connEnable k && s.neighbourMac k == f.src).filter fun (k : Fin 8) => s.connSide k == (sideOf port).val) = k :: l) ∧ (teleFormat (f.body.drop 5) = true) ∧ ((k :: l).all (fun (j : Fin 8) => !crcHolds (f.body.drop 5) (s.rxConnId j)) = true) :=
  ⟨5, 0, teleFrame { period := 2, sendTime := 10 }, 0, [], withWork [(dkey 0x1410 1, [1]), (dkey 0x1410 5, [0, 0, 0, 0, 0, 5]), (dkey 0x1410 7, [1])] (online inService), by decide +kernel⟩

set_option maxRecDepth 100000 in
theorem wit_ReceivedTelegramsAreTakenOrCounted_4 : ∃ (t : Time) (port : Fin 4) (f : Frame) (k : Fin 8) (x : Tele) (s : State), (s.phase = .service) ∧ (s.net.ports[port].link = true) ∧ (f.fcsOk = true) ∧ (protocolOf f = some protoHasp) ∧ (f.tag = none) ∧ (((connections.filter fun (k : Fin 8) => s.connEnable k && s.neighbourMac k == f.src).filter fun (k : Fin 8) => s.connSide k == (sideOf port).val) = [k]) ∧ (teleFormat (f.body.drop 5) = true) ∧ (crcHolds (f.body.drop 5) (s.rxConnId k) = true) ∧ (s.authMode k ≠ 1) ∧ (x = parseTele (f.body.drop 5)) ∧ (x.typ = 0) ∧ (s.serving.all (fun v => (s.at t).judge v k x (f.body.drop 5) == .accepted) = true) ∧ (s.serving ≠ []) :=
  ⟨20, 0, teleFrame { period := 2, sendTime := 10 }, 0, parseTele ((teleFrame { period := 2, sendTime := 10 }).body.drop 5), connected inService, by decide +kernel⟩

theorem wit_ConnectionsLeaveService_1 : ∃ (t : Time) (k : Fin 8) (v : Fin 2) (s : State), (v ∈ s.serving) ∧ (s.sv[v].conns[k].inService = true) ∧ (s.sv[v].conns[k].lastAt + s.superLimit ≤ t) :=
  ⟨secs 1, 0, 1, withConn 1 { inService := true, lastAt := 5, gapSince := some 5 }, by decide +kernel⟩

theorem wit_ConnectionsLeaveService_2 : ∃ (t g : Time) (k : Fin 8) (lane : Fin 2) (s : State), (s.hasp.conns[k].laneOut[lane] = false) ∧ (s.hasp.conns[k].laneGood[lane] = some g) ∧ (g + s.superLimit ≤ t) :=
  ⟨secs 1, 5, 0, 1, { inService with hasp := { conns := Vector.replicate 8 { laneOut := Vector.replicate 2 false, laneGood := Vector.replicate 2 (some 5) } } }, by decide +kernel⟩

theorem wit_ConnectionsLeaveService_3 : ∃ (t g : Time) (k : Fin 8) (v : Fin 2) (s : State), (v ∈ s.serving) ∧ (s.sv[v].conns[k].gapSince = some g) ∧ (g + s.superLimit ≤ t) :=
  ⟨secs 1, 5, 0, 1, withConn 1 { inService := true, lastAt := 5, gapSince := some 5 }, by decide +kernel⟩

theorem wit_PitchesAndWaitingSetsApply_1 : ∃ (t : Time) (s : State), (s.nv.pitchRes = 1) ∧ (s.phase = .service) ∧ (s.evaluates 0 = true ∨ s.evaluates 1 = true) ∧ (s.pitchVal 3 ≤ (s.at t).tbNow) ∧ ((s.at t).evalFronts.1.pitchCheck ≠ 2) :=
  ⟨20, survivorOnly { stub with nv := { stub.nv with pitch := [(dkey 0x4020 1, [1]), (dkey 0x4020 2, leBytes 4 0), (dkey 0x4020 3, leBytes 8 10), (dkey 0x4020 4, [1, 0, 0, 0])], pitchRes := 1 }, tb := { stub.tb with state := 2 } }, by decide +kernel⟩

theorem wit_PitchesAndWaitingSetsApply_2 : ∃ (t : Time) (m s : State), (s.nv.pitchRes = 1) ∧ (s.phase = .service) ∧ (s.evaluates 0 = true ∨ s.evaluates 1 = true) ∧ (s.pitchVal 3 ≤ (s.at t).tbNow) ∧ ((s.at t).evalFronts.1.pitchCheck = 2) ∧ (s.nv.waiting = []) ∧ (m = (s.at t).evalFronts.1.applyPitch.pitchDone 2) :=
  ⟨20, ((({ settled with nv := { settled.nv with pitch := [(dkey 0x4020 1, [1]), (dkey 0x4020 2, leBytes 4 9), (dkey 0x4020 3, leBytes 8 10), (dkey 0x4020 4, [1, 0, 0, 0])], pitchRes := 1 }, tb := { settled.tb with state := 2 } }).at 20).evalFronts.1.applyPitch.pitchDone 2), { settled with nv := { settled.nv with pitch := [(dkey 0x4020 1, [1]), (dkey 0x4020 2, leBytes 4 9), (dkey 0x4020 3, leBytes 8 10), (dkey 0x4020 4, [1, 0, 0, 0])], pitchRes := 1 }, tb := { settled.tb with state := 2 } }, by decide +kernel⟩

theorem wit_PitchesAndWaitingSetsApply_3 : ∃ (t : Time) (w : WaitingSet) (k : Nat) (val : List Byte) (s : State), (s.evaluates 0 = true ∨ s.evaluates 1 = true) ∧ (s.nv.waiting = [w]) ∧ (w.items = [(k, val)]) ∧ (cfgKey k = true) ∧ ((s.at t).evalBoth.setReady 0 w = true) :=
  ⟨20, { number := 4, time := 0, level := 3, items := [(dkey 0x3303 6, [9])] }, dkey 0x3303 6, [9], survivorOnly { stub with nv := { stub.nv with waiting := [{ number := 4, time := 0, level := 3, items := [(dkey 0x3303 6, [9])] }] } }, by decide +kernel⟩

theorem wit_TheRecorderTakesAndWritesEvents_1 : ∃ (t : Time) (ev : RecEvent) (s : State), (s.intake.next = some ev) ∧ (exemptClass (eventClass ev.code) = true) ∧ (s.nv.mem.stop = 0) ∧ (s.intake.writing = none) ∧ (s.intake.queue = []) ∧ (s.intake.lost = none) ∧ (s.intake.buckets.all (fun b => !b.held) = true) :=
  ⟨5, { code := 0x0101, time := 7 }, { inService with intake := { offered := [{ code := 0x0101, time := 7 }] } }, by decide +kernel⟩

theorem wit_TheRecorderTakesAndWritesEvents_2 : ∃ (t : Time) (ev : RecEvent) (s : State), (s.intake.next = some ev) ∧ (exemptClass (eventClass ev.code) = true) ∧ (s.nv.mem.stop ≠ 0) :=
  ⟨5, { code := 0x0101, time := 7 }, { inService with intake := { offered := [{ code := 0x0101, time := 7 }] }, nv := { inService.nv with mem := { stop := 1 } } }, by decide +kernel⟩

theorem wit_TheRecorderTakesAndWritesEvents_3 : ∃ (t : Time) (ev : RecEvent) (s : State), (s.intake.next = some ev) ∧ (exemptClass (eventClass ev.code) = true) ∧ (s.nv.mem.stop = 0) ∧ (32 ≤ s.intake.queue.length) :=
  ⟨5, { code := 0x0101, time := 7 }, { inService with intake := { offered := [{ code := 0x0101, time := 7 }], queue := List.replicate 32 { ev := { code := 0x0101, time := 7 } } } }, by decide +kernel⟩

theorem wit_TheRecorderTakesAndWritesEvents_4 : ∃ (t : Time) (ev : RecEvent) (s : State), (s.intake.next = some ev) ∧ (exemptClass (eventClass ev.code) = false) ∧ ((s.intake.bucket (eventClass ev.code)).runOver (s.at t).clk.now = false) ∧ (((s.intake.bucket (eventClass ev.code)).refilled (s.at t).clk.now).tokens = 0) :=
  ⟨5, { code := 0x0301, time := 7 }, { inService with intake := { offered := [{ code := 0x0301, time := 7 }], buckets := [{ cls := 3, tokens := 0, refillAt := some (ms 500) }] } }, by decide +kernel⟩

theorem wit_TheRecorderTakesAndWritesEvents_6 : ∃ (t : Time) (cls : BitVec 8) (s : State), ((s.intake.bucket cls).runOver (s.at t).clk.now = true) ∧ (s.intake.hasSlot true = true) :=
  ⟨secs 70, 3, { inService with intake := { buckets := [{ cls := 3, tokens := 0, runFrom := some 5, runLast := 5 }] } }, by decide +kernel⟩

theorem wit_TheRecorderTakesAndWritesEvents_7 : ∃ (t : Time) (n : Nat) (row : BitVec 16) (q : Queued) (s : State), (s.intake.writing = some q) ∧ (s.intake.clearBy = none) ∧ (n = 0) ∧ (s.nv.mem.used + ((s.at t).recordBytes q).length + 28 ≤ s.nv.mem.capacity) :=
  ⟨5, 0, 0, { ev := { code := 0x0101, time := 7 } }, { inService with intake := { writing := some { ev := { code := 0x0101, time := 7 } } } }, by decide +kernel⟩

theorem wit_TheRecorderTakesAndWritesEvents_8 : ∃ (t : Time) (n : Nat) (row : BitVec 16) (q : Queued) (s : State), (s.intake.writing = some q) ∧ (s.intake.clearBy = none) ∧ (2 ≤ n) ∧ (s.nv.mem.used + ((s.at t).recordBytes q).length + 28 ≤ s.nv.mem.capacity) :=
  ⟨5, 2, 0, { ev := { code := 0x0101, time := 7 } }, { inService with intake := { writing := some { ev := { code := 0x0101, time := 7 } } } }, by decide +kernel⟩

theorem wit_TheSwitchMovesFrames_1 : ∃ (t : Time) (port : Fin 4) (cap req l : Bool) (s : State), (s.released = true) ∧ (s.net.ports[port].link = false) ∧ (linkLevel (s.phyAmplitude port.val) cap req = some l) :=
  ⟨5, 0, true, true, false, inService, by decide +kernel⟩

theorem wit_TheSwitchMovesFrames_2 : ∃ (t : Time) (port : Fin 4) (cap req : Bool) (s : State), (s.released = true) ∧ (s.net.ports[port].link = false) ∧ (linkLevel (s.phyAmplitude port.val) cap req = none) :=
  ⟨5, 0, false, true, withWork [(dkey 0x3800 1, [2])] inService, by decide +kernel⟩

theorem wit_TheSwitchMovesFrames_3 : ∃ (t : Time) (port : Fin 4) (s : State), (s.net.ports[port].link = true) :=
  ⟨5, 0, online inService, by decide +kernel⟩

theorem wit_TheSwitchMovesFrames_4 : ∃ (t : Time) (port : Fin 4) (f : Frame) (s : State), (s.switchOn port = true) ∧ (badFrame f = true) :=
  ⟨5, 0, { frameOf 0 5 0x1234 [1] with fcsOk := false }, online inService, by decide +kernel⟩

theorem wit_TheSwitchMovesFrames_5 : ∃ (t : Time) (port : Fin 4) (f : Frame) (s : State), (s.switchOn port = true) ∧ (badFrame f = false) ∧ (s.frameRow f = .hasp ∨ (s.frameRow f = .own ∧ f.prp = none)) :=
  ⟨5, 0, frameOf inService.part.nodeMac 5 0x1234 [1], online inService, by decide +kernel⟩

theorem wit_TheSwitchMovesFrames_6 : ∃ (t : Time) (port : Fin 4) (f : Frame) (r : PrpTrailer) (s : State), (s.switchOn port = true) ∧ (badFrame f = false) ∧ (s.frameRow f = .own) ∧ (f.prp = some r) ∧ ((s.net.seen.any fun e => e.1 == f.src && e.2.1 == r.seqNr) = false) :=
  ⟨5, 0, { frameOf inService.part.nodeMac 5 0x1234 [1] with prp := some { seqNr := 9, lanId := 0xA, size := 60 } }, { seqNr := 9, lanId := 0xA, size := 60 }, online inService, by decide +kernel⟩

theorem wit_TheSwitchMovesFrames_7 : ∃ (t a : Time) (port : Fin 4) (f : Frame) (r : PrpTrailer) (s : State), (s.switchOn port = true) ∧ (badFrame f = false) ∧ (s.frameRow f = .own) ∧ (f.prp = some r) ∧ ((f.src, r.seqNr, a) ∈ s.net.seen) ∧ ((s.at t).clk.now < a + ms s.prpEntryForgetTime) :=
  ⟨5, 3, 2, { frameOf inService.part.nodeMac 5 0x1234 [1] with prp := some { seqNr := 9, lanId := 0xA, size := 60 } }, { seqNr := 9, lanId := 0xA, size := 60 }, { online inService with net := { (online inService).net with seen := [(5, 9, 3)] } }, by decide +kernel⟩

theorem wit_TheSwitchMovesFrames_8 : ∃ (t : Time) (port : Fin 4) (f : Frame) (s : State), (s.switchOn port = true) ∧ (s.cutThrough = true) ∧ ((s.frameRow f).forwards = true) ∧ (s.net.ports[twinPort port].link = true) ∧ (s.net.ports[twinPort port].sending = none) ∧ (s.net.ports[twinPort port].front = none) ∧ (s.net.ports[twinPort port].gate = none) :=
  ⟨5, 0, frameOf 9 5 0x1234 [1], online inService, by decide +kernel⟩

theorem wit_TheSwitchMovesFrames_9 : ∃ (t : Time) (port : Fin 4) (x : TxFrame) (s : State), (s.net.ports[port].sending = some x) :=
  ⟨5, 0, { frame := frameOf 9 5 0x1234 [1], cls := 2 }, { online inService with net := { (online inService).net with ports := Vector.replicate 4 { link := true, sending := some { frame := frameOf 9 5 0x1234 [1], cls := 2 } } } }, by decide +kernel⟩

theorem wit_TheSwitchMovesFrames_12 : ∃ (t : Time) (s : State), (s.released = true) ∧ (s.pins.releaseAt + ms s.prpEntryForgetTime ≤ t) :=
  ⟨secs 400, inService, by decide +kernel⟩

theorem wit_TheSwitchMovesFrames_13 : ∃ (t : Time) (s : State), (s.net.trailers = true) ∧ (s.net.stopped = false) ∧ (s.net.superAt.all (fun a => decide (a + ms s.prpLifeCheckInterval ≤ t)) = true) :=
  ⟨secs 400, { online inService with net := { (online inService).net with superAt := some 3 } }, by decide +kernel⟩

theorem wit_TheTimeBaseFollowsItsMaster_1 : ∃ (t : Time) (port : Fin 4) (a : AnnounceInfo) (s : State), (s.net.ports[port].link = true) ∧ (s.net.ports[port].asCapable = true) ∧ (s.net.ports[port].best.all (fun b => a.source == b.source || lexLess (annVector a) (annVector b)) = true) :=
  ⟨5, 0, { priority1 := 1, clockClass := 6, accuracy := 0, variance := 0, priority2 := 1, gmId := 7, steps := 0, source := 3 }, online inService, by decide +kernel⟩

theorem wit_TheTimeBaseFollowsItsMaster_2 : ∃ (t : Time) (port : Fin 4) (d : Option Nat) (s : State), (s.net.ports[port].link = true) ∧ (s.net.ports[port].pdelayAt ≤ t) :=
  ⟨5, 0, some 200, online inService, by decide +kernel⟩

theorem wit_TheTimeBaseFollowsItsMaster_3 : ∃ (t gm : Time) (port : Fin 4) (s : State), (s.tb.slave = some port) ∧ (s.net.ports[port].link = true) ∧ (s.tb.state = 1) ∧ (s.tb.stepped = false) :=
  ⟨8, 9, 0, { online inService with tb := { state := 1, slave := some 0 } }, by decide +kernel⟩

theorem wit_TheTimeBaseFollowsItsMaster_4 : ∃ (t gm : Time) (port : Fin 4) (s : State), (s.tb.slave = some port) ∧ (s.net.ports[port].link = true) ∧ (s.tb.state = 1) ∧ (s.tb.stepped = true) ∧ ((((s.at t).eventStamp.1 : Int) - (gm : Int)).natAbs ≤ 250) :=
  ⟨8, 9, 0, { online inService with tb := { state := 1, slave := some 0, stepped := true, good := 3 } }, by decide +kernel⟩

theorem wit_TheTimeBaseFollowsItsMaster_5 : ∃ (t gm : Time) (port : Fin 4) (s : State), (s.tb.slave = some port) ∧ (s.net.ports[port].link = true) ∧ (s.tb.state = 2) ∧ ((((s.at t).eventStamp.1 : Int) - (gm : Int)).natAbs ≤ 1000) :=
  ⟨8, 9, 0, { online inService with tb := { state := 2, slave := some 0, bad := 1 } }, by decide +kernel⟩

theorem wit_TheTimeBaseFollowsItsMaster_6 : ∃ (t : Time) (s : State), (s.tb.state = 2) ∧ (s.tb.lastSync + s.syncLimit ≤ t) ∧ (s.tb.ppsLock = false) ∧ (s.tb.offset.natAbs ≤ 1000) ∧ (1 ≤ s.holdoverLimit) :=
  ⟨secs 5, online inService, by decide +kernel⟩

theorem wit_TheTimeBaseFollowsItsMaster_7 : ∃ (t : Time) (s : State), ((s.at t).holdOver = true) :=
  ⟨secs 5000, { inService with tb := { state := 3 } }, by decide +kernel⟩

theorem wit_TheTimeBaseFollowsItsMaster_8 : ∃ (t : Time) (s : State), (s.syncPpsMode = 1) :=
  ⟨secs 5, withWork [(dkey 0x3800 0x0C, [1])] inService, by decide +kernel⟩

theorem wit_TheTimeBaseFollowsItsMaster_9 : ∃ (t a : Time) (s : State), (s.syncPpsMode = 1) ∧ (s.tb.ppsAt = some a) ∧ (a + ms 1500 ≤ t) :=
  ⟨secs 5, 7, withWork [(dkey 0x3800 0x0C, [1])] ({ inService with tb := { ppsLock := true, ppsAt := some 7 } }), by decide +kernel⟩

theorem wit_TheTimeBaseFollowsItsMaster_10 : ∃ (t : Time) (s : State), (s.syncPpsMode = 2) ∧ (s.timeGood = true) ∧ (phaseOf (s.at t).tbNow ≤ 50) :=
  ⟨secs 5, withWork [(dkey 0x3800 0x0C, [2])] ({ inService with tb := { state := 2 } }), by decide +kernel⟩

theorem wit_TheTimeBaseFollowsItsMaster_11 : ∃ (t : Time) (s : State), (s.tb.ppsOut = true) ∧ (s.tb.ppsOutAt + ms 100 ≤ t) :=
  ⟨secs 5, { inService with tb := { ppsOut := true } }, by decide +kernel⟩

theorem wit_TheTimeBaseFollowsItsMaster_12 : ∃ (t : Time) (s : State), (s.released = true) :=
  ⟨secs 5, { inService with tb := { state := 2 } }, by decide +kernel⟩

theorem wit_SleepAndWakeAreExecuted_1 : ∃ (t : Time) (d : PState) (s : State), (s.pwr.decision = some d) ∧ (s.pwr.latched = []) ∧ (s.phase = .service) :=
  ⟨5, .hibernate, { (withChans liveChan) with pwr := { ((withChans liveChan)).pwr with decision := some .hibernate } }, by decide +kernel⟩

theorem wit_SleepAndWakeAreExecuted_2 : ∃ (t : Time) (d : PState) (s : State), (s.pwr.decision = some d) ∧ (s.pwr.latched ≠ []) :=
  ⟨5, .lull, { inService with pwr := { (inService).pwr with decision := some .lull, latched := [2] } }, by decide +kernel⟩

theorem wit_SleepAndWakeAreExecuted_3 : ∃ (t : Time) (s : State), (s.phase = .service) ∧ (s.pwr.decision = none) ∧ (s.pwr.waking = none) ∧ (s.pwr.state = .lull ∨ s.pwr.state = .hibernate) ∧ ((s.at t).timerDue s.pwr.state = true) :=
  ⟨secs 5, { stub with pwr := { (stub).pwr with state := .lull } }, by decide +kernel⟩

theorem wit_SleepAndWakeAreExecuted_4 : ∃ (t a : Time) (r : WakeReport) (x : PState) (s : State), (s.phase = .service) ∧ (s.pwr.waking = some (x, a)) ∧ (a + wakeSpan x ≤ t) :=
  ⟨ms 40, 3, { svaFail := none, svbFail := none }, .hibernate, { inService with pwr := { (inService).pwr with state := .hibernate, waking := some (.hibernate, 3) } }, by decide +kernel⟩

theorem wit_TheIsolationTestRuns_1 : ∃ (t : Time) (h : Fin 8) (d n : Nat) (s : State), (s.phase = .service) ∧ (isoValid d n = true) ∧ (s.test.iso = none) :=
  ⟨5, 1, 1000, 9, inService, by decide +kernel⟩

theorem wit_TheIsolationTestRuns_2 : ∃ (t : Time) (h : Fin 8) (d n : Nat) (i : Isolation) (s : State), (s.phase = .service) ∧ (isoValid d n = true) ∧ (s.test.iso = some i) :=
  ⟨5, 1, 1000, 9, { head := 0, durNs := 1000000, patterns := 5, stage := 1 }, withTest { head := 0, durNs := 1000000, patterns := 5, stage := 1 } (withChans liveChan), by decide +kernel⟩

theorem wit_TheIsolationTestRuns_3 : ∃ (t : Time) (i : Isolation) (s : State), (s.test.iso = some i) ∧ (i.stage = 1) :=
  ⟨5, { head := 0, durNs := 1000000, patterns := 5, stage := 1 }, withTest { head := 0, durNs := 1000000, patterns := 5, stage := 1 } (withChans liveChan), by decide +kernel⟩

theorem wit_TheIsolationTestRuns_4 : ∃ (t : Time) (n : Nat) (g : Bool) (i : Isolation) (s : State), (s.test.iso = some i) ∧ (i.stage = 2 ∨ i.abortAt = some (s.at t).clk.now) :=
  ⟨5, 5, true, { head := 0, durNs := 1000000, patterns := 5, stage := 2 }, withTest { head := 0, durNs := 1000000, patterns := 5, stage := 2 } (withChans liveChan), by decide +kernel⟩

theorem wit_TheIsolationTestRuns_5 : ∃ (t : Time) (i : Isolation) (s : State), (s.test.iso = some i) ∧ (i.stage = 2) ∧ ((s.at t).isoEnd i + ms 1 ≤ (s.at t).tbNow) :=
  ⟨ms 3, { head := 0, durNs := 1000000, patterns := 5, stage := 2 }, withTest { head := 0, durNs := 1000000, patterns := 5, stage := 2 } (withChans liveChan), by decide +kernel⟩

theorem wit_TheIsolationTestRuns_6 : ∃ (t : Time) (i : Isolation) (s : State), (s.phase = .service) ∧ (s.test.iso = some i) ∧ (i.stage = 3) ∧ (i.startAt + us 1600 ≤ t) :=
  ⟨ms 3, { head := 0, durNs := 1000000, patterns := 5, stage := 3 }, withTest { head := 0, durNs := 1000000, patterns := 5, stage := 3 } (withChans liveChan), by decide +kernel⟩

theorem wit_SelfTestsFindTheirFaults_1 : ∃ (t : Time) (v : Fin 2) (s : State), (s.evaluates v = true) :=
  ⟨5, 1, inService, by decide +kernel⟩

theorem wit_SelfTestsFindTheirFaults_2 : ∃ (t : Time) (v : Fin 2) (s : State), (s.evaluates v = true) :=
  ⟨5, 1, inService, by decide +kernel⟩

theorem wit_SelfTestsFindTheirFaults_3 : ∃ (t : Time) (v : Fin 2) (s : State), (s.evaluates v = true) :=
  ⟨5, 1, inService, by decide +kernel⟩

theorem wit_SelfTestsFindTheirFaults_4 : ∃ (t : Time) (v : Fin 2) (s : State), (s.evaluates v = true) :=
  ⟨5, 1, inService, by decide +kernel⟩

theorem wit_SelfTestsFindTheirFaults_5 : ∃ (t : Time) (ok : Bool) (s : State), (s.phase = .service) ∧ (s.pwr.state ≠ .hibernate) :=
  ⟨5, false, inService, by decide +kernel⟩

theorem wit_SelfTestsFindTheirFaults_6 : ∃ (t : Time) (n : Fin 4) (ok : Bool) (s : State), ((s.at t).mayTestPath n = true) :=
  ⟨secs 90000, 1, false, { inService with keep := { inService.keep with permits := Vector.replicate 4 { lowSince := some 0 } } }, by decide +kernel⟩

theorem wit_SelfTestsFindTheirFaults_7 : ∃ (t : Time) (ok : Bool) (s : State), (s.released = true) :=
  ⟨5, false, inService, by decide +kernel⟩

theorem wit_SelfTestsFindTheirFaults_8 : ∃ (t : Time) (row : Nat) (s : State), (s.phase = .service) ∧ (s.pwr.state = .active ∨ s.pwr.state = .watch) ∧ (1 ≤ s.nv.repair.spares[0]) :=
  ⟨5, 7, inService, by decide +kernel⟩

theorem wit_SelfTestsFindTheirFaults_9 : ∃ (t : Time) (row : Nat) (s : State), (s.phase = .service) ∧ (s.pwr.state = .active ∨ s.pwr.state = .watch) ∧ (1 ≤ s.nv.repair.left 1 row) :=
  ⟨5, 7, inService, by decide +kernel⟩

theorem wit_InternalFaultsAreTaken_1 : ∃ (t : Time) (d : Fin 2) (s : State), (s.released = true) ∧ (s.sdp.deOut[d] = false) :=
  ⟨5, 1, inService, by decide +kernel⟩

theorem wit_InternalFaultsAreTaken_2 : ∃ (t : Time) (s : State), (s.released = true) :=
  ⟨5, inService, by decide +kernel⟩

theorem wit_InternalFaultsAreTaken_3 : ∃ (t : Time) (s : State), (s.released = true) :=
  ⟨5, inService, by decide +kernel⟩

theorem wit_InternalFaultsAreTaken_4 : ∃ (t : Time) (key : Nat) (s : State), (s.released = true) ∧ (cfgKey key = true) ∧ (s.sdp.eccBad.contains key = false) :=
  ⟨5, dkey 0x2200 1, inService, by decide +kernel⟩

theorem wit_InternalFaultsAreTaken_5 : ∃ (t : Time) (s : State), (s.released = true) :=
  ⟨5, inService, by decide +kernel⟩

theorem wit_SamplesChecksDeliveriesAndRequestsComplete_1 : ∃ (t : Time) (c : Fin 16) (l : List RawIn) (r s : State), (r = (s.at t).calRun c) ∧ (r.samplesOnly c = true ∨ (r.feOn = true ∧ r.fe.chans[c].phase ≠ .off ∧ r.fe.chans[c].phase ≠ .isolated)) :=
  ⟨us 8, 0, List.replicate 16 { data := 0, ovr := false }, ((withWork headOn (withChans liveChan)).at (us 8)).calRun 0, (withWork headOn (withChans liveChan)), by decide +kernel⟩

theorem wit_SamplesChecksDeliveriesAndRequestsComplete_2 : ∃ (t : Time) (e : Fin 9) (w : CkptWrite) (h : Fin 8) (s : State), (s.feOn = true) ∧ (s.eng.wse[e].failed = false) ∧ (s.headServed e = some h) ∧ (s.eng.wse[e].ckAt.all (fun a => decide (a + us 100 ≤ (s.at t).clk.now)) = true) ∧ (w.seq = s.eng.wse[e].seq + 1) ∧ (w.crcOk = true) ∧ (w.kat = true) ∧ ((s.at t).ckptOverdue e = false) :=
  ⟨5, 2, { seq := 1, crcOk := true, kat := true }, 2, (withWork headOn (withChans liveChan)), by decide +kernel⟩

theorem wit_SamplesChecksDeliveriesAndRequestsComplete_3 : ∃ (t : Time) (e : Fin 9) (k : EngineCheck) (s : State), (s.feOn = true) ∧ (s.eng.wse[e].failed = false) ∧ ((s.at t).checkFails e k = true) :=
  ⟨5, 2, .inputTag, (withWork headOn (withChans liveChan)), by decide +kernel⟩

theorem wit_SamplesChecksDeliveriesAndRequestsComplete_4 : ∃ (t : Time) (h : Fin 8) (s : State), (s.feOn = true) ∧ (s.eng.takeover[h].isSome = true) ∧ ((s.at t).decides (chanX h) = false ∨ (s.at t).sampleReady (chanX h) = true) ∧ ((s.at t).decides (chanY h) = false ∨ (s.at t).sampleReady (chanY h) = true) :=
  ⟨5, 0, { withWork headOn (withChans liveChan) with eng := { takeover := Vector.replicate 8 (some 0), dets := Vector.replicate 16 { haveB0 := true, b0L := { re := 1 }, b0H := { re := 1 }, hold := .takeover, fast := [some someFast] } } }, by decide +kernel⟩

theorem wit_SamplesChecksDeliveriesAndRequestsComplete_5 : ∃ (t : Time) (core : Fin 4) (n : Fin 64) (a : Word) (r s : State), (r = (s.at t).hecFlush) ∧ (r.hec.offer[core].isSome = true) ∧ (r.hecOffered core = some (n, a)) :=
  ⟨5, 1, 20, 0x140, ({ inService with hec := { offer := Vector.replicate 4 (some (20, 0x140)) } }.at 5).hecFlush, { inService with hec := { offer := Vector.replicate 4 (some (20, 0x140)) } }, by decide +kernel⟩

theorem wit_SamplesChecksDeliveriesAndRequestsComplete_6 : ∃ (t : Time) (core : Fin 4) (r s : State), (r = (s.at t).hecFlush.hecSample) ∧ (r.hec.slots[core].busy = true) ∧ (r.hec.slots[core].accessed = false) :=
  ⟨5, 1, ({ inService with hec := { slots := Vector.replicate 4 { busy := true, src := 24 } } }.at 5).hecFlush.hecSample, { inService with hec := { slots := Vector.replicate 4 { busy := true, src := 24 } } }, by decide +kernel⟩

theorem wit_SamplesChecksDeliveriesAndRequestsComplete_7 : ∃ (t : Time) (core : Fin 4) (w : Word) (r s : State), (r = (s.at t).hecFlush.hecSample) ∧ (r.hecPowered = true) ∧ (r.hec.slots[core].busy = true) ∧ (r.hec.slots[core].src.val = w.toNat % 64) :=
  ⟨5, 1, 24, ({ inService with hec := { slots := Vector.replicate 4 { busy := true, src := 24 } } }.at 5).hecFlush.hecSample, { inService with hec := { slots := Vector.replicate 4 { busy := true, src := 24 } } }, by decide +kernel⟩

theorem wit_SamplesChecksDeliveriesAndRequestsComplete_8 : ∃ (t : Time) (core : Fin 4) (w : Word) (r s : State), (r = (s.at t).hecFlush.hecSample) ∧ (r.hecPowered = true) :=
  ⟨5, 3, 0x12345678, (inService.at 5).hecFlush.hecSample, inService, by decide +kernel⟩

theorem wit_SamplesChecksDeliveriesAndRequestsComplete_9 : ∃ (t : Time) (r s : State), (r = (s.at t).hecFlush.hecSample) ∧ (r.hecPowered = true) :=
  ⟨5, ({ inService with hec := { goneCnt := Vector.replicate 4 7 } }.at 5).hecFlush.hecSample, { inService with hec := { goneCnt := Vector.replicate 4 7 } }, by decide +kernel⟩

theorem wit_SamplesChecksDeliveriesAndRequestsComplete_10 : ∃ (t : Time) (core : Fin 4) (r s : State), (r = (s.at t).hecFlush.hecSample) :=
  ⟨5, 3, ({ inService with hec := { slots := Vector.replicate 4 { busy := true, src := 24 } } }.at 5).hecFlush.hecSample, { inService with hec := { slots := Vector.replicate 4 { busy := true, src := 24 } } }, by decide +kernel⟩

theorem wit_SamplesChecksDeliveriesAndRequestsComplete_11 : ∃ (t : Time) (src : SdpSrc) (mac : Mac) (tag : Option Tag) (p : List Byte) (i : Fin 5) (s : State), (src = .net mac tag p) ∧ (s.deServes = true) ∧ (s.inTurn src = true) ∧ ((parseSdp p).op = opOpen) ∧ (formAbort p (parseSdp p) true = none) ∧ ((parseSdp p).flags.testBit 1 = false) ∧ ((parseSdp p).data.length = 2) ∧ (10 ≤ leNat (parseSdp p).data) ∧ (leNat (parseSdp p).data ≤ 3600) ∧ (((List.finRange 5).find? fun (j : Fin 5) => decide (0 < j.val) && !s.sdp.sessions[j].opened) = some i) :=
  ⟨5, netSrc opOpen 0 0 [60, 0], 5, none, sdpPayload opOpen 0 0 7 0 0 0 [60, 0], 1, inService, by decide +kernel⟩

theorem wit_SamplesChecksDeliveriesAndRequestsComplete_12 : ∃ (t : Time) (src : SdpSrc) (i : Fin 5) (q : SdpReq) (s : State), (s.stands src i q) ∧ (q.op = opClose) :=
  ⟨5, netSrc opClose 1 0 [], 1, parseSdp (sdpPayload opClose 0 1 7 0 0 0 []), session1 inService, by decide +kernel⟩

theorem wit_SamplesChecksDeliveriesAndRequestsComplete_13 : ∃ (t : Time) (src : SdpSrc) (q : SdpReq) (s : State), (s.deServes = true) ∧ (s.payloadOf src = some q.whole) ∧ (s.inTurn src = true) ∧ (parseSdp q.whole = q) ∧ (20 ≤ q.whole.length) ∧ (q.ver = 1) ∧ (knownOp q.op = false) :=
  ⟨5, .mailbox, reqOf 0x7F 0 [], asked (reqOf 0x7F 0 []) (inService), by decide +kernel⟩

theorem wit_SamplesChecksDeliveriesAndRequestsComplete_14 : ∃ (t : Time) (src : SdpSrc) (i : Fin 5) (q : SdpReq) (r : DRow) (v : List Byte) (s : State), (s.stands src i q) ∧ (s.unhindered i q) ∧ (q.op = opRead) ∧ (findRow q.key = .ok r) ∧ (r.acc ≠ .wo) ∧ (r.typ ≠ .domain) ∧ (((s.taken t src i q).readValue i q.key r).1 = .ok v) ∧ (v.length ≤ segSize (onNet src)) :=
  ⟨5, .mailbox, 0, reqOf opRead (dkey 0x2200 1) [], rowOf (dkey 0x2200 1), [0], asked (reqOf opRead (dkey 0x2200 1) []) (inService), by decide +kernel⟩

theorem wit_SamplesChecksDeliveriesAndRequestsComplete_15 : ∃ (t : Time) (src : SdpSrc) (i : Fin 5) (q : SdpReq) (s : State), (s.stands src i q) ∧ (s.unhindered i q) ∧ (q.op = opRead) ∧ (q.key = keyChallenge) :=
  ⟨5, .mailbox, 0, reqOf opRead keyChallenge [], asked (reqOf opRead keyChallenge []) (inService), by decide +kernel⟩

theorem wit_SamplesChecksDeliveriesAndRequestsComplete_16 : ∃ (t : Time) (src : SdpSrc) (i : Fin 5) (q : SdpReq) (lvl : Nat) (c : List Byte) (a : Time) (s : State), (s.stands src i q) ∧ (s.unhindered i q) ∧ (q.op = opWrite) ∧ (q.key = keyResponse) ∧ (q.flags.testBit 0 = false) ∧ (q.data.length = 9) ∧ (lvl = (q.data.head?.getD 0).toNat) ∧ (1 ≤ lvl) ∧ (lvl ≤ 3) ∧ (s.sdp.sessions[i].barUntil = none) ∧ (s.sdp.sessions[i].challenge = some (c, a)) ∧ ((s.at t).clk.now ≤ a + secs 10) ∧ (s.nv.keys.getD (s.levelKeySlot (lvl - 1)) [] ≠ []) ∧ (s.test.authFail = false) ∧ (q.data.drop 1 = (aesCmac (s.nv.keys.getD (s.levelKeySlot (lvl - 1)) []) (c ++ leBytes 2 i.val ++ leBytes 1 lvl)).take 8) :=
  ⟨5, .mailbox, 0, reqOf opWrite keyResponse (2 :: (aesCmac (List.replicate 16 7) (List.replicate 16 1 ++ leBytes 2 0 ++ leBytes 1 2)).take 8), 2, List.replicate 16 1, 3, asked (reqOf opWrite keyResponse (2 :: (aesCmac (List.replicate 16 7) (List.replicate 16 1 ++ leBytes 2 0 ++ leBytes 1 2)).take 8)) ({ inService with nv := { inService.nv with keys := List.replicate 16 (List.replicate 16 7) } }) (fun x => { x with level := 0, challenge := some (List.replicate 16 1, 3) }), by decide +kernel⟩

theorem wit_SamplesChecksDeliveriesAndRequestsComplete_17 : ∃ (t : Time) (src : SdpSrc) (i : Fin 5) (q : SdpReq) (r : DRow) (s : State), (s.granted t src i q r) ∧ (q.key = keyLevel) :=
  ⟨5, .mailbox, 0, reqOf opWrite keyLevel [1], rowOf keyLevel, asked (reqOf opWrite keyLevel [1]) (inService), by decide +kernel⟩

theorem wit_SamplesChecksDeliveriesAndRequestsComplete_18 : ∃ (t : Time) (src : SdpSrc) (i : Fin 5) (q : SdpReq) (r : DRow) (v : List Byte) (s : State), (s.stands src i q) ∧ (s.unhindered i q) ∧ (q.op = opReadInit) ∧ (s.sdp.sessions[i].xfer = none) ∧ (findRow q.key = .ok r) ∧ (r.acc ≠ .wo) ∧ (((s.taken t src i q).readValue i q.key r).1 = .ok v) :=
  ⟨5, .mailbox, 0, reqOf opReadInit (dkey 0x2200 1) [], rowOf (dkey 0x2200 1), [0], asked (reqOf opReadInit (dkey 0x2200 1) []) (inService), by decide +kernel⟩

theorem wit_SamplesChecksDeliveriesAndRequestsComplete_19 : ∃ (t : Time) (src : SdpSrc) (i : Fin 5) (q : SdpReq) (f : Xfer) (s : State), (s.stands src i q) ∧ (s.unhindered i q) ∧ (q.op = opReadSeg) ∧ (s.sdp.sessions[i].xfer = some f) ∧ (f.write = false) ∧ (q.segNo = f.next) ∧ (f.done (segSize (onNet src)) = false) :=
  ⟨5, .mailbox, 0, reqOf opReadSeg 0 [], { key := dkey 0x7000 2, write := false, data := List.replicate 300 9, size := 300, next := 0, lastAt := 0 }, asked (reqOf opReadSeg 0 []) (inService) (fun x => { x with xfer := some { key := dkey 0x7000 2, write := false, data := List.replicate 300 9, size := 300, next := 0, lastAt := 0 } }), by decide +kernel⟩

theorem wit_SamplesChecksDeliveriesAndRequestsComplete_20 : ∃ (t : Time) (src : SdpSrc) (i : Fin 5) (q : SdpReq) (r : DRow) (s : State), (s.stands src i q) ∧ (s.unhindered i q) ∧ (q.op = opWriteInit) ∧ (s.sdp.sessions[i].xfer = none) ∧ (q.flags.testBit 0 = false) ∧ (q.data.length = 4) ∧ (dictRow q.key = some r) ∧ (r.acc ≠ .ro) ∧ (r.acc ≠ .const) ∧ (r.level ≤ s.sdp.sessions[i].level) ∧ (q.key ≠ keyImage) :=
  ⟨5, .mailbox, 0, reqOf opWriteInit (dkey 0x2200 1) [1, 0, 0, 0], rowOf (dkey 0x2200 1), asked (reqOf opWriteInit (dkey 0x2200 1) [1, 0, 0, 0]) (inService), by decide +kernel⟩

theorem wit_SamplesChecksDeliveriesAndRequestsComplete_21 : ∃ (t : Time) (src : SdpSrc) (i : Fin 5) (q : SdpReq) (f : Xfer) (s : State), (s.stands src i q) ∧ (s.unhindered i q) ∧ (q.op = opWriteSeg) ∧ (s.sdp.sessions[i].xfer = some f) ∧ (f.write = true) ∧ (q.segNo = f.next) ∧ (f.done (segSize (onNet src)) = false) ∧ (q.flags.testBit 2 = false) ∧ (q.data.length = segSize (onNet src)) :=
  ⟨5, .mailbox, 0, reqOf opWriteSeg 0 (List.replicate 236 3), { key := dkey 0x2300 1, write := true, data := [], size := 300, next := 0, lastAt := 0 }, asked (reqOf opWriteSeg 0 (List.replicate 236 3)) (inService) (fun x => { x with xfer := some { key := dkey 0x2300 1, write := true, data := [], size := 300, next := 0, lastAt := 0 } }), by decide +kernel⟩

theorem wit_SamplesChecksDeliveriesAndRequestsComplete_22 : ∃ (t : Time) (src : SdpSrc) (i : Fin 5) (q : SdpReq) (f : Xfer) (s : State), (s.stands src i q) ∧ (s.unhindered i q) ∧ (q.op = opXferAbort) ∧ (s.sdp.sessions[i].xfer = some f) ∧ (f.done (segSize (onNet src)) = false) :=
  ⟨5, .mailbox, 0, reqOf opXferAbort 0 [], { key := dkey 0x7000 2, write := false, data := List.replicate 300 9, size := 300, next := 0, lastAt := 0 }, asked (reqOf opXferAbort 0 []) (inService) (fun x => { x with xfer := some { key := dkey 0x7000 2, write := false, data := List.replicate 300 9, size := 300, next := 0, lastAt := 0 } }), by decide +kernel⟩

theorem wit_SamplesChecksDeliveriesAndRequestsComplete_23 : ∃ (t : Time) (src : SdpSrc) (i : Fin 5) (q : SdpReq) (s : State), (s.stands src i q) ∧ (s.unhindered i q) ∧ (q.op = opTxnBegin) ∧ (s.sdp.txn = none) ∧ (s.nv.journal.state ≠ 2) ∧ (s.nv.journal.state ≠ 3) :=
  ⟨5, .mailbox, 0, reqOf opTxnBegin 0 [], asked (reqOf opTxnBegin 0 []) (inService), by decide +kernel⟩

theorem wit_SamplesChecksDeliveriesAndRequestsComplete_24 : ∃ (t : Time) (src : SdpSrc) (i : Fin 5) (q : SdpReq) (x : Txn) (s : State), (s.stands src i q) ∧ (s.unhindered i q) ∧ (q.op = opTxnEnd) ∧ (s.sdp.txn = some x) ∧ (x.sess = i) ∧ (s.nv.journal.state = 0) ∧ (x.items.all (fun e => cfgKey e.1) = true) ∧ ((s.staged t src i q).bothJudgeTxn (fun v => (s.staged t src i q).judgeTxn v i x.items) = none) :=
  ⟨5, .mailbox, 0, reqOf opTxnEnd 0 [], { sess := 0, number := 1, items := [(dkey 0x2200 0x0B, [1])], lastAt := 0 }, asked (reqOf opTxnEnd 0 []) ({ inService with sdp := { inService.sdp with txn := some { sess := 0, number := 1, items := [(dkey 0x2200 0x0B, [1])], lastAt := 0 } } }), by decide +kernel⟩

theorem wit_SamplesChecksDeliveriesAndRequestsComplete_25 : ∃ (t : Time) (src : SdpSrc) (i : Fin 5) (q : SdpReq) (x : Txn) (s : State), (s.stands src i q) ∧ (s.unhindered i q) ∧ (q.op = opTxnDiscard) ∧ (s.sdp.txn = some x) ∧ (x.sess = i) :=
  ⟨5, .mailbox, 0, reqOf opTxnDiscard 0 [], { sess := 0, number := 1, lastAt := 0 }, asked (reqOf opTxnDiscard 0 []) ({ inService with sdp := { inService.sdp with txn := some { sess := 0, number := 1, lastAt := 0 } } }), by decide +kernel⟩

theorem wit_SamplesChecksDeliveriesAndRequestsComplete_26 : ∃ (t : Time) (src : SdpSrc) (i : Fin 5) (q : SdpReq) (r : DRow) (s : State), (s.granted t src i q r) ∧ (q.key = keyRollback) ∧ (q.data = [1]) ∧ (s.nv.journal.state = 3) :=
  ⟨5, .mailbox, 0, reqOf opWrite keyRollback [1], rowOf keyRollback, asked (reqOf opWrite keyRollback [1]) ({ inService with nv := { inService.nv with journal := { state := 3, items := [(dkey 0x2200 0x0B, [0], [1])], map := 1 } } }), by decide +kernel⟩

theorem wit_SamplesChecksDeliveriesAndRequestsComplete_27 : ∃ (t : Time) (src : SdpSrc) (i : Fin 5) (q : SdpReq) (r : DRow) (s : State), (s.granted t src i q r) ∧ (q.key = keyRerun) ∧ (q.data = [1]) ∧ (s.nv.journal.state = 3) :=
  ⟨5, .mailbox, 0, reqOf opWrite keyRerun [1], rowOf keyRerun, asked (reqOf opWrite keyRerun [1]) ({ inService with nv := { inService.nv with journal := { state := 3, items := [(dkey 0x2200 0x0B, [0], [1])] } } }), by decide +kernel⟩

theorem wit_SamplesChecksDeliveriesAndRequestsComplete_28 : ∃ (t : Time) (src : SdpSrc) (i : Fin 5) (q : SdpReq) (r : DRow) (k : Nat) (val : List Byte) (m : State) (n : Fin 4) (s : State), (s.granted t src i q r) ∧ (q.key = keyCommit) ∧ (s.sdp.sessions[i].pending = [(k, val)]) ∧ (m = ((s.staged t src i q).execute i q (onNet src) .whole).st) ∧ (k = dkey 0x4021 1) ∧ (bitOf (leNat val) n.val = true) :=
  ⟨20, .mailbox, 0, commitReq [(dkey 0x4021 1, [3])], rowOf keyCommit, dkey 0x4021 1, [3], (((committing [(dkey 0x4021 1, [3])] ({ inService with nv := { inService.nv with secs := inService.nv.secs.map fun e => { e with epoch := 3 } } })).staged 20 .mailbox 0 (commitReq [(dkey 0x4021 1, [3])])).execute 0 (commitReq [(dkey 0x4021 1, [3])]) false .whole).st, 1, committing [(dkey 0x4021 1, [3])] ({ inService with nv := { inService.nv with secs := inService.nv.secs.map fun e => { e with epoch := 3 } } }), by decide +kernel⟩

theorem wit_SamplesChecksDeliveriesAndRequestsComplete_29 : ∃ (t : Time) (src : SdpSrc) (i : Fin 5) (q : SdpReq) (r : DRow) (k : Nat) (val : List Byte) (m : State) (v : Fin 2) (n : Fin 4) (s : State), (s.granted t src i q r) ∧ (q.key = keyCommit) ∧ (s.sdp.sessions[i].pending = [(k, val)]) ∧ (m = ((s.staged t src i q).execute i q (onNet src) .whole).st) ∧ (0x2200 ≤ k / 256) ∧ (k / 256 < 0x2204) ∧ (k % 256 = 0x0C) ∧ (leNat val ≠ 0) ∧ (v ∈ s.serving) ∧ (n = secOfKey 0x2200 k) :=
  ⟨20, .mailbox, 0, commitReq [(dkey 0x2200 0x0C, [1])], rowOf keyCommit, dkey 0x2200 0x0C, [1], (((committing [(dkey 0x2200 0x0C, [1])] (sweepable)).staged 20 .mailbox 0 (commitReq [(dkey 0x2200 0x0C, [1])])).execute 0 (commitReq [(dkey 0x2200 0x0C, [1])]) false .whole).st, 0, 0, committing [(dkey 0x2200 0x0C, [1])] (sweepable), by decide +kernel⟩

theorem wit_SamplesChecksDeliveriesAndRequestsComplete_30 : ∃ (t : Time) (src : SdpSrc) (i : Fin 5) (q : SdpReq) (r : DRow) (k : Nat) (val : List Byte) (m : State) (v : Fin 2) (n : Fin 4) (s : State), (s.granted t src i q r) ∧ (q.key = keyCommit) ∧ (s.sdp.sessions[i].pending = [(k, val)]) ∧ (m = ((s.staged t src i q).execute i q (onNet src) .whole).st) ∧ (0x2200 ≤ k / 256) ∧ (k / 256 < 0x2204) ∧ (k % 256 = 0x0D) ∧ (leNat val ≠ 0) ∧ (v ∈ s.serving) ∧ (n = secOfKey 0x2200 k) :=
  ⟨20, .mailbox, 0, commitReq [(dkey 0x2200 0x0D, [1, 0, 0, 0])], rowOf keyCommit, dkey 0x2200 0x0D, [1, 0, 0, 0], (((committing [(dkey 0x2200 0x0D, [1, 0, 0, 0])] (settled)).staged 20 .mailbox 0 (commitReq [(dkey 0x2200 0x0D, [1, 0, 0, 0])])).execute 0 (commitReq [(dkey 0x2200 0x0D, [1, 0, 0, 0])]) false .whole).st, 0, 0, committing [(dkey 0x2200 0x0D, [1, 0, 0, 0])] (settled), by decide +kernel⟩

theorem wit_SamplesChecksDeliveriesAndRequestsComplete_31 : ∃ (t : Time) (src : SdpSrc) (i : Fin 5) (q : SdpReq) (r : DRow) (k : Nat) (val : List Byte) (m : State) (h : Fin 8) (j : Fin 2) (s : State), (s.granted t src i q r) ∧ (q.key = keyCommit) ∧ (s.sdp.sessions[i].pending = [(k, val)]) ∧ (m = ((s.staged t src i q).execute i q (onNet src) .whole).st) ∧ (k / 256 = 0x3200 + h.val) ∧ (k % 256 = 0x12) ∧ (bitOf (leNat val) j.val = true) ∧ (leNat val < 4) :=
  ⟨20, .mailbox, 0, commitReq [(dkey 0x3201 0x12, [2])], rowOf keyCommit, dkey 0x3201 0x12, [2], (((committing [(dkey 0x3201 0x12, [2])] (withWork headOn (withDets { haveB0 := true }))).staged 20 .mailbox 0 (commitReq [(dkey 0x3201 0x12, [2])])).execute 0 (commitReq [(dkey 0x3201 0x12, [2])]) false .whole).st, 1, 1, committing [(dkey 0x3201 0x12, [2])] (withWork headOn (withDets { haveB0 := true })), by decide +kernel, by decide +kernel, by decide +kernel, rfl, by decide +kernel⟩

theorem wit_SamplesChecksDeliveriesAndRequestsComplete_32 : ∃ (t : Time) (src : SdpSrc) (i : Fin 5) (q : SdpReq) (r : DRow) (k : Nat) (val : List Byte) (m : State) (v : Fin 2) (n : Fin 4) (s : State), (s.granted t src i q r) ∧ (q.key = keyCommit) ∧ (s.sdp.sessions[i].pending = [(k, val)]) ∧ (m = ((s.staged t src i q).execute i q (onNet src) .whole).st) ∧ (0x3300 ≤ k / 256) ∧ (k / 256 < 0x3304) ∧ (k % 256 = 0x0A) ∧ (leNat val ≠ 0) ∧ (v ∈ s.serving) ∧ (n = secOfKey 0x3300 k) :=
  ⟨20, .mailbox, 0, commitReq [(dkey 0x3300 0x0A, [1])], rowOf keyCommit, dkey 0x3300 0x0A, [1], (((committing [(dkey 0x3300 0x0A, [1])] (survivorOnly { withProp 0 (fun p => { p with witness := true }) with trac := Vector.replicate 4 { fresh := true, ctrl := 0x3000 } })).staged 20 .mailbox 0 (commitReq [(dkey 0x3300 0x0A, [1])])).execute 0 (commitReq [(dkey 0x3300 0x0A, [1])]) false .whole).st, 0, 0, committing [(dkey 0x3300 0x0A, [1])] (survivorOnly { withProp 0 (fun p => { p with witness := true }) with trac := Vector.replicate 4 { fresh := true, ctrl := 0x3000 } }), by decide +kernel⟩

theorem wit_SamplesChecksDeliveriesAndRequestsComplete_33 : ∃ (t : Time) (src : SdpSrc) (i : Fin 5) (q : SdpReq) (r : DRow) (k : Nat) (val : List Byte) (m : State) (s : State), (s.granted t src i q r) ∧ (q.key = keyCommit) ∧ (s.sdp.sessions[i].pending = [(k, val)]) ∧ (m = ((s.staged t src i q).execute i q (onNet src) .whole).st) ∧ (k / 256 = 0x4040) :=
  ⟨20, .mailbox, 0, commitReq [(dkey 0x4040 3, (List.replicate 16 7))], rowOf keyCommit, dkey 0x4040 3, (List.replicate 16 7), (((committing [(dkey 0x4040 3, (List.replicate 16 7))] (inService)).staged 20 .mailbox 0 (commitReq [(dkey 0x4040 3, (List.replicate 16 7))])).execute 0 (commitReq [(dkey 0x4040 3, (List.replicate 16 7))]) false .whole).st, committing [(dkey 0x4040 3, (List.replicate 16 7))] (inService), by decide +kernel⟩

theorem wit_SamplesChecksDeliveriesAndRequestsComplete_34 : ∃ (t : Time) (src : SdpSrc) (i : Fin 5) (q : SdpReq) (r : DRow) (s : State), (s.granted t src i q r) ∧ (q.key = keyCommit) ∧ (s.sdp.sessions[i].pending.all (fun e => e.1 / 256 == 0x4020) = true) ∧ (s.sdp.sessions[i].pending ≠ []) :=
  ⟨5, .mailbox, 0, commitReq pitSet, rowOf keyCommit, committing pitSet inService, by decide +kernel⟩

end Sys2Proof.Machine.Slice0
end

/-! The section balance under a counted entry (R18, R180). Counting an entry counts it for every section in turn; the sections
are independent, so a section's balance after the whole count is its balance after its own part. -/

namespace Sys2Proof.Machine

/-! ### What the count of one section reads -/

/-- The states s and u agree on what supervisor v's count of section sec reads: the settings in force, and whether the section
is configured and its balance, as v holds them. -/
structure State.SameSection (v : Fin 2) (sec : Fin 4) (s u : State) : Prop where
  work : u.sdp.work = s.sdp.work
  state : u.sv[v].props[sec].state = s.sv[v].props[sec].state
  b : u.sv[v].secs[sec].b = s.sv[v].secs[sec].b

variable {v : Fin 2} {sec : Fin 4} {s u w : State}

theorem State.SameSection.refl : SameSection v sec s s := ⟨rfl, rfl, rfl⟩

theorem State.SameSection.trans (h : SameSection v sec s u) (k : SameSection v sec u w) : SameSection v sec s w :=
  ⟨k.work.trans h.work, k.state.trans h.state, k.b.trans h.b⟩

theorem State.SameSection.ite {c : Prop} [Decidable c] (hu : SameSection v sec s u) (hw : SameSection v sec s w) :
    SameSection v sec s (if c then u else w) := by
  split
  · exact hu
  · exact hw

/-- An effect that leaves both supervisors and the settings leaves every section. -/
theorem State.SameSection.of_areas (hsv : u.sv = s.sv) (hwork : u.sdp.work = s.sdp.work) : SameSection v sec s u :=
  ⟨hwork, by rw [hsv], by rw [hsv]⟩

theorem cfg_congr (h : u.sdp.work = s.sdp.work) : u.cfg = s.cfg := by
  funext idx sub d
  rw [State.cfg, State.cfg, h]

theorem State.SameSection.legHead (h : SameSection v sec s u) (t n : Nat) : u.legHead t n = s.legHead t n := by
  simp only [State.legHead, State.hasLeg, State.legHeads, State.legCount, cfg_congr h.work]
  rfl

theorem State.SameSection.legOf (h : SameSection v sec s u) (t : Nat) (x : Fin 8) : u.legOf t x = s.legOf t x := by
  simp only [State.legOf, h.legHead]

theorem State.SameSection.sense (h : SameSection v sec s u) (t n : Nat) : u.sense t n = s.sense t n := by
  simp only [State.sense, State.legSense, cfg_congr h.work]

/-! ### The shared updates -/

theorem onSv_sameSection {f : Sv → Sv} (hstate : (f s.sv[v]).props[sec].state = s.sv[v].props[sec].state)
    (hb : (f s.sv[v]).secs[sec].b = s.sv[v].secs[sec].b) : State.SameSection v sec s (s.onSv v f) :=
  ⟨rfl, by rw [onSv_sv, updV_self, hstate], by rw [onSv_sv, updV_self, hb]⟩

/-- An update of a proposal that leaves its state leaves the state of every proposal. -/
theorem onProp_state (x : Sv) (t : Fin 4) {f : Prop_ → Prop_} (hf : (f x.props[t]).state = x.props[t].state) :
    (x.onProp t f).props[sec].state = x.props[sec].state := by
  rw [Sv.onProp]
  rcases eq_or_ne sec t with rfl | hne
  · rw [updV_self, hf]
  · rw [updV_other _ _ hne]

/-- An update of a section's counters that leaves its balance leaves the balance of every section. -/
theorem onSec_b (x : Sv) (t : Fin 4) {f : SecCnt → SecCnt} (hf : (f x.secs[t]).b = x.secs[t].b) :
    (x.onSec t f).secs[sec].b = x.secs[sec].b := by
  rw [Sv.onSec]
  rcases eq_or_ne sec t with rfl | hne
  · rw [updV_self, hf]
  · rw [updV_other _ _ hne]

@[simp] theorem SecCnt.setSound_b (k : SecCnt) (t : Time) (ok : Bool) : (k.setSound t ok).b = k.b := by
  rw [SecCnt.setSound]
  split <;> rfl

@[simp] theorem SecCnt.tainted_b (k : SecCnt) (code : Nat) (leg : Option (Fin 4)) (now : Time) :
    (k.tainted code leg now).b = k.b :=
  k.setSound_b now _

/-- R39, R262: a passage may turn the direction of a proposal and sweep it, never change its state. -/
@[simp] theorem Prop_.passed_state (p : Prop_) (n : Fin 4) (into : Bool) (before : Nat) :
    (p.passed n into before).state = p.state := by
  rw [Prop_.passed]
  split_ifs <;> rfl

/-- R198: a cause, in whatever section it is found, leaves every balance. -/
theorem raise_sameSection (t : Fin 4) (code : Nat) (leg : Option (Fin 4)) :
    State.SameSection v sec s (s.raise v t code leg) := by
  rw [State.raise]
  refine .ite .refl (.ite .refl (.trans (onSv_sameSection ?_ ?_) (.of_areas (record_sv ..) rfl)))
  · exact onProp_state _ t rfl
  · exact onSec_b _ t (SecCnt.tainted_b ..)

theorem when_sameSection {c : Bool} {f : State → State} (hf : ∀ x, State.SameSection v sec x (f x)) :
    State.SameSection v sec s (s.when c f) :=
  .ite (hf s) .refl

theorem whenSome_sameSection {α : Type} {o : Option α} {f : State → α → State}
    (hf : ∀ x a, State.SameSection v sec x (f x a)) : State.SameSection v sec s (s.whenSome o f) := by
  cases o with
  | none => exact .refl
  | some a => exact hf s a

theorem each_sameSection {α : Type} {l : List α} {f : State → α → State}
    (hf : ∀ x a, State.SameSection v sec x (f x a)) : State.SameSection v sec s (State.each s l f) := by
  induction l generalizing s with
  | nil => exact .refl
  | cons a l ih => exact (hf s a).trans ih

/-! ### One section's part of a count (R180) -/

/-- R180: an into passage adds 1 and stays at 4,095. -/
theorem balanceStep_into (b : Nat) : (balanceStep b true).1 = min 4095 (b + 1) := by
  rw [balanceStep, if_pos rfl]
  split
  · exact (min_eq_left (by omega)).symm
  · exact (min_eq_right (by omega)).symm

/-- R180: an out passage subtracts 1 and stays at 0. -/
theorem balanceStep_out (b : Nat) : (balanceStep b false).1 = b - 1 := by
  rw [balanceStep, if_neg Bool.false_ne_true]
  split
  · next hb => rw [hb]
  · rfl

theorem ownPlace_of_leg {x : Fin 8} {n : Fin 4} (pos : Bool) (h : s.legOf sec x = some n) :
    s.ownPlace sec x pos = some (.leg n, s.sense sec n == pos) := by
  rw [State.ownPlace, h]

theorem ownPlace_ne_leg {x : Fin 8} (pos : Bool) (h : s.legOf sec x = none) (n : Fin 4) (into : Bool) :
    s.ownPlace sec x pos ≠ some (.leg n, into) := by
  rw [State.ownPlace, h]
  intro hp
  dsimp only at hp
  split at hp
  · split at hp <;> simp at hp
  · split at hp <;> simp at hp

/-- What a passage at leg n of section t makes of a supervisor that held the balance `before`: the passage joins the section's
queue, and the balance and the proposal follow it. -/
def Sv.legPassed (x : Sv) (t n : Fin 4) (q : QPass) (into : Bool) (before : Nat) : Sv :=
  (x.onSec t fun k => { k.enqueue q with b := (balanceStep before into).1 }).onProp t fun p => p.passed n into before

theorem Sv.legPassed_b_self (x : Sv) (t n : Fin 4) (q : QPass) (into : Bool) (before : Nat) :
    (x.legPassed t n q into before).secs[t].b = (balanceStep before into).1 := by
  rw [Sv.legPassed, Sv.onProp, Sv.onSec, updV_self]

theorem Sv.legPassed_b_other {t : Fin 4} (x : Sv) (n : Fin 4) (q : QPass) (into : Bool) (before : Nat) (h : sec ≠ t) :
    (x.legPassed t n q into before).secs[sec].b = x.secs[sec].b := by
  rw [Sv.legPassed, Sv.onProp, Sv.onSec, updV_other _ _ h]

theorem Sv.legPassed_state (x : Sv) (t n : Fin 4) (q : QPass) (into : Bool) (before : Nat) :
    (x.legPassed t n q into before).props[sec].state = x.props[sec].state :=
  onProp_state _ t (Prop_.passed_state ..)

/-- The count of a configured section at one of its legs is the passage at that leg; the causes it may raise leave every
section as it is. -/
theorem countSection_at_leg {t n : Fin 4} {en : Entry} (hconf : s.sv[v].props[t].state ≠ .unconfigured)
    (hleg : s.legOf t en.head = some n) :
    ∃ q, State.SameSection v sec
      (s.onSv v fun x => x.legPassed t n q (s.sense t n == !en.dir) s.sv[v].secs[t].b) (s.countSection v t en) := by
  rw [State.countSection, ownPlace_of_leg _ hleg]
  dsimp only
  rw [if_neg hconf]
  exact ⟨_, .trans (whenSome_sameSection fun _ _ => raise_sameSection ..) (when_sameSection fun _ => raise_sameSection ..)⟩

/-- The count of an unconfigured section changes nothing. -/
theorem countSection_unconfigured {t : Fin 4} {en : Entry} (h : s.sv[v].props[t].state = .unconfigured) :
    s.countSection v t en = s := by
  rw [State.countSection]
  split
  · rfl
  · exact if_pos h

/-- The count of a section of which the entry's head is no leg leaves every section as it is. -/
theorem countSection_not_leg {t : Fin 4} {en : Entry} (h : s.legOf t en.head = none) :
    State.SameSection v sec s (s.countSection v t en) := by
  rw [State.countSection]
  split
  · exact .refl
  · next place into hplace =>
    dsimp only
    split
    · exact .refl
    · cases place with
      | leg n => exact absurd hplace (ownPlace_ne_leg _ h n into)
      | _ => exact onSv_sameSection rfl (onSec_b _ t rfl)

/-- R18: the count of a configured section at one of its legs moves its balance. -/
theorem countSection_b {n : Fin 4} {en : Entry} (hconf : s.sv[v].props[sec].state ≠ .unconfigured)
    (hleg : s.legOf sec en.head = some n) :
    (s.countSection v sec en).sv[v].secs[sec].b = (balanceStep s.sv[v].secs[sec].b (s.sense sec n == !en.dir)).1 := by
  obtain ⟨q, hq⟩ := countSection_at_leg (sec := sec) hconf hleg
  rw [hq.b, onSv_sv, updV_self, Sv.legPassed_b_self]

/-- The count of a section leaves every other section as it is. -/
theorem countSection_other {t : Fin 4} {en : Entry} (hne : sec ≠ t) :
    State.SameSection v sec s (s.countSection v t en) := by
  by_cases hconf : s.sv[v].props[t].state = .unconfigured
  · rw [countSection_unconfigured hconf]
    exact .refl
  · cases hleg : s.legOf t en.head with
    | none => exact countSection_not_leg hleg
    | some n =>
      obtain ⟨q, hq⟩ := countSection_at_leg (sec := sec) hconf hleg
      exact .trans (onSv_sameSection (Sv.legPassed_state ..) (Sv.legPassed_b_other _ _ _ _ _ hne)) hq

/-! ### The count of all sections -/

theorem countSections_other {l : List (Fin 4)} {en : Entry} (h : sec ∉ l) :
    State.SameSection v sec s (State.each s l fun s t => s.countSection v t en) := by
  induction l generalizing s with
  | nil => exact .refl
  | cons t l ih =>
    obtain ⟨hne, hl⟩ := not_or.1 (List.mem_cons.not.1 h)
    exact (countSection_other hne).trans (ih hl)

/-- As section sec sees it, the count of a list of sections that names sec once is the count of sec. -/
theorem countSections_mem {l : List (Fin 4)} (en : Entry) (hl : l.Nodup) (h : sec ∈ l) :
    ∃ u, State.SameSection v sec s u ∧
      State.SameSection v sec (u.countSection v sec en) (State.each s l fun s t => s.countSection v t en) := by
  induction l generalizing s with
  | nil => cases h
  | cons t l ih =>
    obtain ⟨ht, hl⟩ := List.nodup_cons.1 hl
    by_cases hst : sec = t
    · subst hst
      exact ⟨s, .refl, countSections_other ht⟩
    · obtain ⟨u, hu, hcount⟩ := ih (s := s.countSection v t en) hl ((List.mem_cons.1 h).resolve_left hst)
      exact ⟨u, (countSection_other hst).trans hu, hcount⟩

/-! ### A whole count (R168, R180) -/

/-- R210: the records kept for a neighbour are no part of a section. -/
theorem keepForNeighbour_sameSection (en : Entry) (alone : Bool) :
    State.SameSection v sec s (s.keepForNeighbour v en alone) := by
  rw [State.keepForNeighbour]
  refine each_sameSection fun x p => ?_
  split
  · exact .refl
  · exact onSv_sameSection rfl rfl

theorem acknowledge_sameSection (slot : Nat) (alone : Bool) : State.SameSection v sec s (s.acknowledge v slot alone) :=
  have hsame := State.acknowledge_same (w := areaMask [.ledger]) v slot alone rfl (.refl (s := s))
  .of_areas (hsame.out .supervisors rfl) (hsame.out .work rfl)

theorem becameCounted_sameSection (en : Entry) : State.SameSection v sec s (s.becameCounted en) :=
  have hsame := State.becameCounted_same (w := areaMask [.nvChans, .nvHeads, .kin, .pulses, .offered, .freeCount]) en rfl
    (.refl (s := s))
  .of_areas (hsame.out .supervisors rfl) (hsame.out .work rfl)

/-- What a count does before and after the sections leaves every section as it is. -/
theorem countEntry_sections {slot : Fin 2048} {en : Entry} (alone : Bool) (hen : s.led.entry 0 slot = some en) :
    ∃ u, State.SameSection v sec s u ∧
      State.SameSection v sec (State.each u sections fun s t => s.countSection v t en) (s.countEntry v slot alone) := by
  rw [State.countEntry, hen]
  dsimp only
  refine ⟨_, ?_, .ite (.trans (acknowledge_sameSection slot alone) (becameCounted_sameSection _))
    (acknowledge_sameSection slot alone)⟩
  exact .trans (onSv_sameSection rfl rfl) (keepForNeighbour_sameSection en alone)

/-- As section sec sees it, the count of an entry is the count of sec alone. -/
theorem countEntry_sameSection {slot : Fin 2048} {en : Entry} (alone : Bool) (hen : s.led.entry 0 slot = some en) :
    ∃ u, State.SameSection v sec s u ∧ State.SameSection v sec (u.countSection v sec en) (s.countEntry v slot alone) := by
  obtain ⟨x, hx, hafter⟩ := countEntry_sections (v := v) (sec := sec) alone hen
  obtain ⟨u, hu, hcount⟩ := countSections_mem (l := sections) (s := x) (v := v) en (List.nodup_finRange 4)
    (List.mem_finRange sec)
  exact ⟨u, hx.trans hu, hcount.trans hafter⟩

/-- R18: the balance of a configured section after the count of an entry whose head is one of its legs. -/
theorem countEntry_b_of_leg {n : Fin 4} {slot : Fin 2048} {en : Entry} (alone : Bool)
    (hen : s.led.entry 0 slot = some en) (hconf : s.sv[v].props[sec].state ≠ .unconfigured)
    (hleg : s.legOf sec en.head = some n) :
    (s.countEntry v slot alone).sv[v].secs[sec].b = (balanceStep s.sv[v].secs[sec].b (s.sense sec n == !en.dir)).1 := by
  obtain ⟨u, hu, hcount⟩ := countEntry_sameSection (v := v) (sec := sec) alone hen
  rw [hcount.b, countSection_b (hu.state ▸ hconf) ((hu.legOf sec en.head).trans hleg), hu.b, hu.sense]

/-- R18: the balance of a section after the count of an entry whose head is none of its legs. -/
theorem countEntry_b_of_not_leg {slot : Fin 2048} {en : Entry} (alone : Bool) (hen : s.led.entry 0 slot = some en)
    (hleg : s.legOf sec en.head = none) : (s.countEntry v slot alone).sv[v].secs[sec].b = s.sv[v].secs[sec].b := by
  obtain ⟨u, hu, hcount⟩ := countEntry_sameSection (v := v) (sec := sec) alone hen
  rw [hcount.b, (countSection_not_leg ((hu.legOf sec en.head).trans hleg)).b, hu.b]

/-- Settles O10: as a section sees it, a count is its own part alone, which takes one balance step at a leg and none
elsewhere. -/
theorem passagesChangeTheBalance : Obligations.PassagesChangeTheBalance := by
  unfold Obligations.PassagesChangeTheBalance
  refine ⟨?_, ?_, ?_⟩
  · intro v sec n slot alone en s hen hconf hleg hinto
    left
    rw [countEntry_b_of_leg alone hen hconf hleg, hinto, beq_self_eq_true, balanceStep_into]
  · intro v sec n slot alone en s hen hconf hleg hout
    rw [countEntry_b_of_leg alone hen hconf hleg, hout, Bool.beq_not_self, balanceStep_out]
  · intro v sec slot alone en s hen hleg
    exact countEntry_b_of_not_leg alone hen hleg

end Sys2Proof.Machine

/-! Occupancy one out of two, clearance two out of two (R47). The merged states are a function of what the merge reads. An
evaluation step ends by merging every section, and nothing after the merge of a section touches what that merge reads; before it,
the first half of the step leaves each supervisor in the service it was in, so that the second half runs. -/

namespace Sys2Proof.Machine

/-! ### What a sequence of effects leaves alone -/

section
variable {γ : Type} (g : State → γ) {s : State}

theorem each_view {α : Type} {l : List α} {f : State → α → State} (hf : ∀ x a, g (f x a) = g x) :
    g (State.each s l f) = g s := by
  induction l generalizing s with
  | nil => rfl
  | cons a l ih => exact ih.trans (hf s a)

theorem when_view {c : Bool} {f : State → State} (hf : g (f s) = g s) : g (s.when c f) = g s := by
  cases c with
  | false => rfl
  | true => exact hf

end

/-! ### Whether a supervisor serves: kept by the first half of its step -/

/-- R44, R57, R58: whether each supervisor is in service, failed or the survivor. -/
def State.statuses (s : State) : Vector SvState 2 := s.sv.map fun x => x.st

section
variable {s u : State}

theorem statuses_of_sv (h : u.sv = s.sv) : u.statuses = s.statuses := by
  rw [State.statuses, State.statuses, h]

theorem st_of_statuses (h : u.statuses = s.statuses) (v : Fin 2) : u.sv[v].st = s.sv[v].st := by
  have hv : u.statuses[v] = s.statuses[v] := by rw [h]
  simpa [State.statuses] using hv

/-- Where the same supervisors serve in the same phase and power state, the same evaluate. -/
theorem evaluates_congr (hst : u.statuses = s.statuses) (hphase : u.phase = s.phase) (hpwr : u.pwr = s.pwr) (v : Fin 2) :
    u.evaluates v = s.evaluates v := by
  simp only [State.evaluates, Sv.serves, st_of_statuses hst, hphase, hpwr]

/-! #### Updates and their combinations

An equation for each operation of the first half of a step, tagged `simp`: an operation built from others is then unfolded to
them. Those that hold by computation are proved by `(rfl)`, so that `simp` can use them under the binder of an effect. -/

theorem statuses_of_same {w : Nat} (h : Same w s u) (hw : w.testBit Area.supervisors.ctorIdx = false) :
    u.statuses = s.statuses := statuses_of_sv (h.out .supervisors hw)

@[simp] theorem onSv_statuses (v : Fin 2) {f : Sv → Sv} (hf : ∀ x, (f x).st = x.st) :
    (s.onSv v f).statuses = s.statuses := by
  simp only [State.statuses, onSv_sv, updV]
  ext i hi
  simp only [Vector.getElem_map, Vector.getElem_set]
  split
  · next h => subst h; exact hf _
  · rfl

@[simp] theorem ite_statuses {c : Prop} [Decidable c] (a b : State) :
    (if c then a else b).statuses = if c then a.statuses else b.statuses := apply_ite ..

@[simp] theorem each_statuses {α : Type} {l : List α} {f : State → α → State}
    (hf : ∀ x a, (f x a).statuses = x.statuses) : (State.each s l f).statuses = s.statuses := each_view State.statuses hf

theorem foldl_statuses_fst {α β : Type} {l : List α} {f : State × β → α → State × β} {r : State × β}
    (hf : ∀ r a, (f r a).1.statuses = r.1.statuses) : (l.foldl f r).1.statuses = r.1.statuses := by
  induction l generalizing r with
  | nil => rfl
  | cons a l ih => exact ih.trans (hf r a)

@[simp] theorem when_statuses {c : Bool} {f : State → State} (hf : ∀ x, (f x).statuses = x.statuses) :
    (s.when c f).statuses = s.statuses := when_view State.statuses (hf s)

@[simp] theorem whenSome_statuses {α : Type} {o : Option α} {f : State → α → State}
    (hf : ∀ x a, (f x a).statuses = x.statuses) : (s.whenSome o f).statuses = s.statuses := by
  cases o with
  | none => rfl
  | some a => exact hf s a

@[simp] theorem Sv.onProp_st (x : Sv) (n : Fin 4) (f : Prop_ → Prop_) : (x.onProp n f).st = x.st := (rfl)
@[simp] theorem Sv.onSec_st (x : Sv) (n : Fin 4) (f : SecCnt → SecCnt) : (x.onSec n f).st = x.st := (rfl)
@[simp] theorem Sv.onHead_st (x : Sv) (h : Fin 8) (f : HeadCnt → HeadCnt) : (x.onHead h f).st = x.st := (rfl)
@[simp] theorem Sv.onConn_st (x : Sv) (k : Fin 8) (f : SvConn → SvConn) : (x.onConn k f).st = x.st := (rfl)
@[simp] theorem Sv.onRest_st (x : Sv) (n : Fin 4) (f : Rest → Rest) : (x.onRest n f).st = x.st := (rfl)
@[simp] theorem Sv.withdrawWith_st (x : Sv) (n : Fin 4) : (x.withdrawWith n).st = x.st := (rfl)

@[simp] theorem record_statuses (code : BitVec 16) (src : BitVec 2) (p : List Byte) (e : Bool) :
    (s.record code src p e).statuses = s.statuses := (rfl)
@[simp] theorem pulse_statuses (n : Nat) : (s.pulse n).statuses = s.statuses := (rfl)
@[simp] theorem onEntry_statuses (slot : Nat) (f : Entry → Entry) : (s.onEntry slot f).statuses = s.statuses := (rfl)
@[simp] theorem onNvHead_statuses (h : Fin 8) (f : NvHead → NvHead) : (s.onNvHead h f).statuses = s.statuses := (rfl)
@[simp] theorem onNvSec_statuses (n : Fin 4) (f : NvSec → NvSec) : (s.onNvSec n f).statuses = s.statuses := (rfl)
@[simp] theorem onNvConn_statuses (k : Fin 8) (f : NvConn → NvConn) : (s.onNvConn k f).statuses = s.statuses := (rfl)

@[simp] theorem withEng_statuses (e : Engines) : ({ s with eng := e } : State).statuses = s.statuses := (rfl)

@[simp] theorem setCumValid_statuses (h : Fin 8) (b : Bool) : (s.setCumValid h b).statuses = s.statuses :=
  statuses_of_same (w := areaMask [.cumValid]) (State.setCumValid_same h b rfl .refl) rfl
@[simp] theorem setBarred_statuses (n : Fin 4) (b : Bool) : (s.setBarred n b).statuses = s.statuses :=
  statuses_of_same (w := areaMask [.keeperRest]) (State.setBarred_same n b rfl .refl) rfl

/-! #### The passage unit and the crossbar (R142, R143, R159, R173) -/

@[simp] theorem notify_statuses (x : Notice) : (s.notify x).statuses = s.statuses := by
  rw [State.notify, State.statuses, State.statuses]
  ext i hi
  simp only [Vector.getElem_map, Vector.getElem_ofFn]
  split <;> rfl

@[simp] theorem causeAtHead_statuses (h : Fin 8) (code : Nat) : (s.causeAtHead h code).statuses = s.statuses := by
  simp [State.causeAtHead]

@[simp] theorem voided_statuses (h : Fin 8) (cause code : Nat) : (s.voided h cause code).statuses = s.statuses := by
  simp only [State.voided, ite_statuses, causeAtHead_statuses, record_statuses, setCumValid_statuses, ite_self]
  rfl

@[simp] theorem voidEntry_statuses (slot cause code : Nat) : (s.voidEntry slot cause code).statuses = s.statuses := by
  rw [State.voidEntry]
  split <;> simp

@[simp] theorem passageHeadFault_statuses (h : Fin 8) (t : Option Time) :
    (s.passageHeadFault h t).statuses = s.statuses :=
  each_statuses fun _ _ => voidEntry_statuses ..

@[simp] theorem onChan_statuses (c : Fin 16) (f : Chan → Chan) : (s.onChan c f).statuses = s.statuses := (rfl)
@[simp] theorem onNvChan_statuses (c : Fin 16) (f : NvChan → NvChan) : (s.onNvChan c f).statuses = s.statuses := (rfl)
@[simp] theorem onStats_statuses (c : Fin 16) (f : Stats → Stats) : (s.onStats c f).statuses = s.statuses := (rfl)
@[simp] theorem onScan_statuses (c : Fin 16) (f : Scan → Scan) : (s.onScan c f).statuses = s.statuses := (rfl)

@[simp] theorem abortProof_statuses (c : Fin 16) : (s.abortProof c).statuses = s.statuses := by
  rw [State.abortProof]
  split <;> rfl

@[simp] theorem amonRefresh_statuses : s.amonRefresh.statuses = s.statuses := (rfl)
@[simp] theorem dropEvents_statuses (h : Fin 8) : (s.dropEvents h).statuses = s.statuses := (rfl)
@[simp] theorem chanResumes_statuses (c : Fin 16) (k : ChanCkpt) (e : Episode) (i : Fin 2) :
    (s.chanResumes c k e i).statuses = s.statuses := (rfl)
@[simp] theorem requalify_statuses : s.requalify.statuses = s.statuses := (rfl)
@[simp] theorem dropForHead_statuses (h : Fin 8) : (s.dropForHead h).statuses = s.statuses :=
  statuses_of_same (w := areaMask [.permits, .drops, .offered]) (State.dropForHead_same h rfl .refl) rfl

@[simp] theorem chanFault_statuses (c : Fin 16) (prov : Nat) (back : Time) (detect : Nat) :
    (s.chanFault c prov back detect).statuses = s.statuses := by
  simp [State.chanFault]

theorem takeOver_statuses (h : Fin 8) (e : Fin 9) : (s.takeOver h e).statuses = s.statuses := by
  rw [State.takeOver]
  dsimp only
  split <;> simp

theorem loseEngine_statuses (h : Fin 8) (e : Fin 9) : (s.loseEngine h e).statuses = s.statuses := by
  simp [State.loseEngine]

theorem remapOne_statuses (e : Fin 9) : (s.remapOne e).statuses = s.statuses := by
  rw [State.remapOne]
  split
  · rfl
  · split_ifs
    · rfl
    · exact takeOver_statuses ..
    · exact loseEngine_statuses ..

theorem remapStep_statuses (v : Fin 2) : (s.remapStep v).statuses = s.statuses := by
  rw [State.remapStep]
  dsimp only
  split
  · rfl
  · exact each_statuses fun _ _ => remapOne_statuses ..

/-! #### Causes, counting and forwarded events (R180, R188, R198) -/

@[simp] theorem enter_statuses (v : Fin 2) (n : Fin 4) (st : SecState) (route : Nat) :
    (s.enter v n st route).statuses = s.statuses := by
  simp [State.enter]

@[simp] theorem configStep_statuses (v : Fin 2) (n : Fin 4) : (s.configStep v n).statuses = s.statuses := by
  simp [State.configStep]

@[simp] theorem raise_statuses (v : Fin 2) (n : Fin 4) (code : Nat) (leg : Option (Fin 4)) :
    (s.raise v n code leg).statuses = s.statuses := by
  simp [State.raise]

@[simp] theorem raiseAtHead_statuses (v : Fin 2) (h : Fin 8) (code : Nat) :
    (s.raiseAtHead v h code).statuses = s.statuses := by
  simp [State.raiseAtHead]

@[simp] theorem countSection_statuses (v : Fin 2) (n : Fin 4) (en : Entry) :
    (s.countSection v n en).statuses = s.statuses := by
  rw [State.countSection]
  split
  · rfl
  · dsimp only
    split
    · rfl
    · split <;> simp [SecCnt.enqueue]

@[simp] theorem keepForNeighbour_statuses (v : Fin 2) (en : Entry) (alone : Bool) :
    (s.keepForNeighbour v en alone).statuses = s.statuses := by
  refine each_statuses fun x p => ?_
  split
  · rfl
  · simp

@[simp] theorem acknowledge_statuses (v : Fin 2) (slot : Nat) (alone : Bool) :
    (s.acknowledge v slot alone).statuses = s.statuses := (rfl)

@[simp] theorem becameCounted_statuses (en : Entry) : (s.becameCounted en).statuses = s.statuses :=
  statuses_of_same (w := areaMask [.nvChans, .nvHeads, .kin, .pulses, .offered, .freeCount])
    (State.becameCounted_same en rfl .refl) rfl

@[simp] theorem countEntry_statuses (v : Fin 2) (slot : Fin 2048) (alone : Bool) :
    (s.countEntry v slot alone).statuses = s.statuses := by
  rw [State.countEntry]
  split
  · rfl
  · simp

@[simp] theorem concluded_statuses (v : Fin 2) (h : Fin 8) (e : Episode) (slot : Fin 2048) (alone : Bool) :
    (s.concluded v h e slot alone).statuses = s.statuses := by
  rw [State.concluded]
  split
  · rfl
  · simp

@[simp] theorem provisionalDir_statuses (v : Fin 2) (n m : Fin 4) (h : Fin 8) :
    (s.provisionalDir v n m h).statuses = s.statuses := by
  simp [State.provisionalDir]

@[simp] theorem endProvisional_statuses (v : Fin 2) (h : Fin 8) (counted : Bool) :
    (s.endProvisional v h counted).statuses = s.statuses := by
  simp [State.endProvisional]

theorem takeEvent_statuses (v : Fin 2) (ev : PresenceEvent) (slot : Option (Fin 2048)) (ended alone : Bool)
    (trig : BitVec 4) : (s.takeEvent v ev slot ended alone trig).1.statuses = s.statuses := by
  unfold State.takeEvent
  extract_lets h e e1 s1 sOnset isEnd s2 s3 s4 counted
  have h1 : s1.statuses = s.statuses := onSv_statuses v fun _ => rfl
  split
  · refine (each_statuses fun x n => ?_).trans h1
    split <;> simp
  · have h2 : s2.statuses = s.statuses := by
      refine (when_statuses fun x => ?_).trans h1
      exact onSv_statuses v fun _ => rfl
    have h3 : s3.statuses = s.statuses := by
      refine Eq.trans ?_ h2
      exact onSv_statuses v fun _ => rfl
    have h4 : s4.statuses = s.statuses := by
      refine Eq.trans ?_ h3
      cases slot with
      | none => rfl
      | some i => exact concluded_statuses ..
    split
    · exact h2
    · exact (endProvisional_statuses ..).trans h4

theorem takeInbox_statuses (v : Fin 2) (alone : Bool) : (s.takeInbox v alone).1.statuses = s.statuses := by
  unfold State.takeInbox
  refine (foldl_statuses_fst fun r n => ?_).trans (onSv_statuses v fun _ => rfl)
  cases n with
  | presence ev slot ended => exact takeEvent_statuses ..
  | headFault h => exact onSv_statuses v fun _ => rfl
  | cause sec code leg => exact raise_statuses ..

theorem knownVehicles_statuses (v : Fin 2) : (s.knownVehicles v).statuses = s.statuses := by
  rw [State.knownVehicles]
  refine (each_statuses fun x p => ?_).trans (by simp)
  split
  · rfl
  · refine each_statuses fun x n => ?_
    split <;> simp

@[simp] theorem isoAbort_statuses (horizon : Bool) : (s.isoAbort horizon).statuses = s.statuses :=
  statuses_of_same (w := areaMask [.pulses, .offered, .selfTest, .freeCount]) (State.isoAbort_same horizon rfl .refl) rfl

theorem isoWheel_statuses (v : Fin 2) : (s.isoWheel v).statuses = s.statuses := by
  rw [State.isoWheel]
  split
  · split_ifs
    · exact (isoAbort_statuses ..).trans (each_statuses fun x n => raise_statuses ..)
    · rfl
  · rfl

/-! #### Settlement and comparison (R184, R186, R225, R249) -/

@[simp] theorem crossCheck_statuses (v : Fin 2) (k : Fin 8) (detail : Nat) :
    (s.crossCheck v k detail).statuses = s.statuses := by
  rw [State.crossCheck]
  dsimp only
  split <;> simp

@[simp] theorem transitCheck_statuses (v : Fin 2) (n : Fin 4) (q : QPass) :
    (s.transitCheck v n q).statuses = s.statuses := by
  rw [State.transitCheck]
  dsimp only
  split
  · rfl
  · simp only [ite_statuses]
    split
    · rfl
    · split
      · simp
      · split
        · split <;> simp
        · split <;> simp

@[simp] theorem settleOne_statuses (v : Fin 2) (n : Fin 4) (q : QPass) : (s.settleOne v n q).statuses = s.statuses := by
  simp [State.settleOne]

@[simp] theorem checkSettled_statuses (v : Fin 2) (n : Fin 4) : (s.checkSettled v n).statuses = s.statuses := by
  simp [State.checkSettled]

@[simp] theorem settle_statuses (v : Fin 2) (n : Fin 4) : (s.settle v n).statuses = s.statuses := by
  rw [State.settle]
  split_ifs
  · rfl
  · split <;> simp [State.settleUpTo]

@[simp] theorem overlapUnchecked_statuses (v : Fin 2) (n : Fin 4) : (s.overlapUnchecked v n).statuses = s.statuses := by
  simp [State.overlapUnchecked]

@[simp] theorem compareZone_statuses (v : Fin 2) (n m : Fin 4) (k : Fin 8) :
    (s.compareZone v n m k).statuses = s.statuses := by
  refine (each_statuses fun x p => ?_).trans (by simp)
  split <;> simp

@[simp] theorem compareInternal_statuses (v : Fin 2) (n m : Fin 4) : (s.compareInternal v n m).statuses = s.statuses := by
  rw [State.compareInternal]
  split
  · rfl
  · dsimp only
    split
    · rfl
    · split <;> simp

@[simp] theorem compareOverlaps_statuses (v : Fin 2) (n : Fin 4) (settled : Bool) :
    (s.compareOverlaps v n settled).statuses = s.statuses := by
  refine each_statuses fun x m => ?_
  split <;> simp

@[simp] theorem zoneResetDue_statuses (v : Fin 2) (n : Fin 4) : (s.zoneResetDue v n).statuses = s.statuses := by
  simp [State.zoneResetDue, State.applyZoneReset]

@[simp] theorem settleStep_statuses (v : Fin 2) (n : Fin 4) : (s.settleStep v n).statuses = s.statuses := by
  simp [State.settleStep]

/-! #### Causes of a step (R196, R198, R199) -/

@[simp] theorem conditions_statuses (v : Fin 2) (n : Fin 4) : (s.conditions v n).statuses = s.statuses := by
  simp [State.conditions]

@[simp] theorem evalWitness_statuses (v : Fin 2) (n : Fin 4) : (s.evalWitness v n).statuses = s.statuses := by
  simp [State.evalWitness, State.bemfAlarm]

@[simp] theorem expireCauses_statuses (v : Fin 2) (n : Fin 4) : (s.expireCauses v n).statuses = s.statuses := by
  simp [State.expireCauses]

@[simp] theorem disturbStep_statuses (v : Fin 2) (n : Fin 4) : (s.disturbStep v n).statuses = s.statuses := by
  simp [State.disturbStep]

/-- R36: a step up to the DISTURBED causes leaves every supervisor what it is. -/
theorem evalFront_statuses (v : Fin 2) : (s.evalFront v).1.statuses = s.statuses := by
  rw [State.evalFront]
  split
  · rfl
  · simp [takeInbox_statuses, knownVehicles_statuses, isoWheel_statuses, remapStep_statuses]

/-! ### The merge of the Verdicts (R46, R47, R58) -/

/-- What the merge of the section states reads and writes: whether each supervisor serves, what it proposes, whether the part
runs degraded, and the merged states. -/
def State.mergeView (s : State) : Vector (SvState × Vector Prop_ 4) 2 × Bool × Vector SecState 4 :=
  (s.sv.map fun x => (x.st, x.props), s.keep.degraded, s.keep.merged.map fun m => m.state)

theorem mergeView_of_areas (hsv : u.sv = s.sv) (hdeg : u.keep.degraded = s.keep.degraded)
    (hmerged : u.keep.merged = s.keep.merged) : u.mergeView = s.mergeView := by
  rw [State.mergeView, State.mergeView, hsv, hdeg, hmerged]

theorem mergeView_of_same {w : Nat} (h : Same w s u) (hsv : w.testBit Area.supervisors.ctorIdx = false)
    (hdeg : w.testBit Area.degraded.ctorIdx = false) (hmerged : w.testBit Area.merged.ctorIdx = false) :
    u.mergeView = s.mergeView :=
  mergeView_of_areas (h.out .supervisors hsv) (congrArg Prod.fst (h.out .degraded hdeg)) (h.out .merged hmerged)

section
variable (h : u.mergeView = s.mergeView)
include h

theorem st_of_mergeView (v : Fin 2) : u.sv[v].st = s.sv[v].st := by
  have hv := congrArg (fun m => m.1[v].1) h
  simpa [State.mergeView] using hv

theorem props_of_mergeView (v : Fin 2) : u.sv[v].props = s.sv[v].props := by
  have hv := congrArg (fun m => m.1[v].2) h
  simpa [State.mergeView] using hv

theorem degraded_of_mergeView : u.keep.degraded = s.keep.degraded := congrArg (fun m => m.2.1) h

theorem merged_state_of_mergeView (n : Fin 4) : u.keep.merged[n].state = s.keep.merged[n].state := by
  have hn := congrArg (fun m => m.2.2[n]) h
  simpa [State.mergeView] using hn

end

/-- The merged state of a section is a matter of the supervisors that serve, their proposals, degraded running and the merged
state so far. -/
theorem mergedState_congr {n : Fin 4} (hst : ∀ v : Fin 2, u.sv[v].st = s.sv[v].st)
    (hprops : ∀ v : Fin 2, u.sv[v].props = s.sv[v].props) (hdeg : u.keep.degraded = s.keep.degraded)
    (hmerged : u.keep.merged[n].state = s.keep.merged[n].state) : u.mergedState n = s.mergedState n := by
  have hserving : u.serving = s.serving := by simp only [State.serving, Sv.serves, hst]
  simp only [State.mergedState, hserving, hprops, hdeg, hmerged]

/-- R58: with no supervisor serving a section is DISTURBED, or stays UNCONFIGURED. -/
theorem mergedState_of_none {n : Fin 4} (h : s.serving = []) :
    s.mergedState n = if s.keep.merged[n].state = .unconfigured then .unconfigured else .disturbed := by
  rw [State.mergedState, h]
  dsimp only
  split
  · next hm => rw [hm]
  · rfl

/-- R58: until degraded run begins, the CLEAR of a supervisor that serves alone leaves the merged state; any other proposal of it
takes effect. -/
theorem mergedState_of_one {n : Fin 4} {v : Fin 2} (h : s.serving = [v]) :
    s.mergedState n = if s.keep.degraded = false ∧ s.sv[v].props[n].state = .clear then s.keep.merged[n].state
      else s.sv[v].props[n].state := by
  rw [State.mergedState, h]
  simp

/-- R46: with two supervisors serving the more restrictive proposal is the merged state. -/
theorem mergedState_of_two {n : Fin 4} {v w : Fin 2} {l : List (Fin 2)} (h : s.serving = v :: w :: l) :
    s.mergedState n = (s.sv[v].props[n].state).worse s.sv[w].props[n].state := by
  rw [State.mergedState, h]

theorem mergedState_of_mergeView (h : u.mergeView = s.mergeView) (n : Fin 4) : u.mergedState n = s.mergedState n :=
  mergedState_congr (st_of_mergeView h) (props_of_mergeView h) (degraded_of_mergeView h) (merged_state_of_mergeView h n)

theorem merges_of_mergeView (h : u.mergeView = s.mergeView) (hs : s.merges) : u.merges := fun n => by
  rw [merged_state_of_mergeView h, mergedState_of_mergeView h, hs n]

/-! #### What goes with the entry of a merged section into a state -/

theorem onSv_mergeView (v : Fin 2) {f : Sv → Sv} (hst : ∀ x, (f x).st = x.st) (hprops : ∀ x, (f x).props = x.props) :
    (s.onSv v f).mergeView = s.mergeView := by
  have hsv : (s.onSv v f).sv.map (fun x => (x.st, x.props)) = s.sv.map fun x => (x.st, x.props) := by
    rw [onSv_sv, updV]
    ext i hi : 1
    simp only [Vector.getElem_map, Vector.getElem_set]
    split
    · next h => subst h; rw [hst, hprops]; rfl
    · rfl
  rw [State.mergeView, hsv]
  rfl

/-- An update of a merged Verdict that leaves its state, as that of the first cause of a DISTURBED state (R37), leaves what the
merge reads. -/
theorem onMerged_mergeView (n : Fin 4) {f : Merged → Merged} (hf : (f s.keep.merged[n]).state = s.keep.merged[n].state) :
    (s.onMerged n f).mergeView = s.mergeView := by
  have hmerged : (s.onMerged n f).keep.merged.map (fun m => m.state) = s.keep.merged.map fun m => m.state := by
    rw [onMerged_keep, updV]
    ext i hi : 1
    simp only [Vector.getElem_map, Vector.getElem_set]
    split
    · next h => subst h; exact hf
    · rfl
  rw [State.mergeView, hmerged]
  rfl

/-- R258: a rebase moves counters alone. -/
theorem rebaseHead_mergeView (h : Fin 8) (intoPos : Bool) (required : Int) (tR : Time) :
    (s.rebaseHead h intoPos required tR).mergeView = s.mergeView := by
  unfold State.rebaseHead
  extract_lets d d0 s1
  have h1 : s1.mergeView = s.mergeView :=
    each_view State.mergeView fun x v => onSv_mergeView v (fun _ => rfl) fun _ => rfl
  exact (mergeView_of_same (w := areaMask [.cumValid]) (State.setCumValid_same h true rfl .refl) rfl rfl rfl).trans h1

theorem sweepRebase_mergeView (n : Fin 4) : (s.sweepRebase n).mergeView = s.mergeView := by
  rw [State.sweepRebase]
  split
  · rfl
  · refine each_view State.mergeView fun x m => ?_
    split
    · rw [State.rebaseOuter]
      split
      · exact rebaseHead_mergeView ..
      · rfl
    · rfl

theorem setBarred_mergeView (n : Fin 4) (b : Bool) : (s.setBarred n b).mergeView = s.mergeView :=
  mergeView_of_same (w := areaMask [.keeperRest]) (State.setBarred_same n b rfl .refl) rfl rfl rfl

theorem mergedEntry_mergeView (n : Fin 4) (st old : SecState) : (s.mergedEntry n st old).mergeView = s.mergeView := by
  unfold State.mergedEntry
  extract_lets p s1 s2 s3 s4
  have h3 : s3.mergeView = s.mergeView := when_view State.mergeView rfl
  have hbar : (s3.when (st == .clear) fun s => s.setBarred n false).mergeView = s.mergeView :=
    (when_view State.mergeView (setBarred_mergeView n false)).trans h3
  have h4 : s4.mergeView = s.mergeView := (when_view State.mergeView (onMerged_mergeView n rfl)).trans hbar
  exact (when_view State.mergeView (sweepRebase_mergeView n)).trans h4

/-! #### The merge of one section -/

/-- R46: the merge of one section sets its merged state, and no other part of what the merge reads. -/
theorem mergeSec_mergeView (n : Fin 4) :
    (s.mergeSec n).mergeView = (s.onMerged n fun _ => s.mergeOf n).mergeView := by
  unfold State.mergeSec
  extract_lets old new s1 s2 s3 s4 s5
  split
  · next hnew => exact (onMerged_mergeView n (congrArg Merged.state hnew)).symm
  · have h2 : s2.mergeView = s1.mergeView := when_view State.mergeView (mergedEntry_mergeView ..)
    have h3 : s3.mergeView = s1.mergeView := (when_view State.mergeView rfl).trans h2
    have h4 : s4.mergeView = s1.mergeView :=
      (when_view State.mergeView (mergeView_of_same (w := areaMask [.words])
        (State.publishWord_same _ _ rfl .refl) rfl rfl rfl)).trans h3
    have h5 : s5.mergeView = s1.mergeView :=
      (when_view State.mergeView (mergeView_of_same (w := areaMask [.kin, .pulses, .freeCount])
        (State.kinProvisional_same _ rfl .refl) rfl rfl rfl)).trans h4
    exact (mergeView_of_same (w := areaMask [.kin, .pulses]) (State.kinMerged_same _ _ rfl .refl) rfl rfl rfl).trans h5

theorem mergeSec_merged_self (n : Fin 4) : (s.mergeSec n).keep.merged[n].state = s.mergedState n := by
  rw [merged_state_of_mergeView (mergeSec_mergeView n), onMerged_keep, updV_self, State.mergeOf]

theorem mergeSec_merged_other {n m : Fin 4} (h : m ≠ n) :
    (s.mergeSec n).keep.merged[m].state = s.keep.merged[m].state := by
  rw [merged_state_of_mergeView (mergeSec_mergeView n), onMerged_keep, updV_other _ _ h]

/-- Once a section shows its merged state, merging it again gives the same. -/
theorem onMerged_mergedState_self (n : Fin 4) {f : Merged → Merged} (hf : ∀ m, (f m).state = s.mergedState n) :
    (s.onMerged n f).mergedState n = s.mergedState n := by
  have hmerged : (s.onMerged n f).keep.merged[n].state = s.mergedState n := by rw [onMerged_keep, updV_self, hf]
  cases hserving : s.serving with
  | nil =>
    rw [mergedState_of_none (s := s.onMerged n f) hserving, hmerged, mergedState_of_none hserving]
    split_ifs <;> simp_all
  | cons v l =>
    cases l with
    | nil =>
      rw [mergedState_of_one (s := s.onMerged n f) hserving, hmerged, mergedState_of_one hserving]
      rw [onMerged_sv, onMerged_keep]
      split_ifs <;> rfl
    | cons w l => rw [mergedState_of_two (s := s.onMerged n f) hserving, mergedState_of_two hserving, onMerged_sv]

/-- R46: the merge of one section changes the merged state called for in none. -/
theorem mergeSec_mergedState (n m : Fin 4) : (s.mergeSec n).mergedState m = s.mergedState m := by
  rw [mergedState_of_mergeView (mergeSec_mergeView n)]
  rcases eq_or_ne m n with rfl | hne
  · exact onMerged_mergedState_self m fun _ => rfl
  · exact mergedState_congr (fun _ => rfl) (fun _ => rfl) rfl (by rw [onMerged_keep, updV_other _ _ hne])

/-! #### The merge of all sections, and the step -/

theorem mergeSecs_mergedState (l : List (Fin 4)) (m : Fin 4) :
    (State.each s l fun s n => s.mergeSec n).mergedState m = s.mergedState m := by
  induction l generalizing s with
  | nil => rfl
  | cons n l ih => exact ih.trans (mergeSec_mergedState n m)

/-- A section shows its merged state once its own merge has been made. -/
theorem mergeSecs_merged {l : List (Fin 4)} {m : Fin 4} (h : m ∈ l ∨ s.keep.merged[m].state = s.mergedState m) :
    (State.each s l fun s n => s.mergeSec n).keep.merged[m].state = s.mergedState m := by
  induction l generalizing s with
  | nil => exact h.resolve_left List.not_mem_nil
  | cons n l ih =>
    refine (ih ?_).trans (mergeSec_mergedState n m)
    rw [mergeSec_mergedState]
    by_cases hmn : m = n
    · subst hmn
      exact .inr (mergeSec_merged_self m)
    · rw [mergeSec_merged_other hmn]
      exact h.imp_left fun hm => (List.mem_cons.1 hm).resolve_left hmn

theorem mergeSections_merges : (State.each s sections fun s n => s.mergeSec n).merges := fun n => by
  rw [mergeSecs_mergedState]
  exact mergeSecs_merged (.inl (List.mem_finRange n))

/-- What the keeper publishes ends with the merge of the sections and with what reads it. -/
theorem exists_publish_eq : ∃ x : State,
    s.publish = (State.each x sections fun s n => s.mergeSec n).attestEntries.checkpointDue.requalify := ⟨_, rfl⟩

theorem afterMerge_mergeView : s.attestEntries.checkpointDue.requalify.mergeView = s.mergeView :=
  mergeView_of_same (w := areaMask [.ledger, .ckptRun, .pulses, .permits])
    (State.requalify_same rfl (State.checkpointDue_same rfl (State.attestEntries_same rfl .refl))) rfl rfl rfl

/-- R46: what the keeper publishes merges the proposals. -/
theorem publish_merges : s.publish.merges := by
  obtain ⟨x, hx⟩ := exists_publish_eq (s := s)
  rw [hx]
  exact merges_of_mergeView afterMerge_mergeView mergeSections_merges

theorem managePower_merges (h : s.merges) : s.managePower.merges :=
  merges_of_mergeView (mergeView_of_same (w := areaMask [.pulses, .power, .offered]) (State.managePower_same rfl .refl)
    rfl rfl rfl) h

/-- R36: the step of a supervisor that evaluates ends with what the keeper publishes and the power manager. -/
theorem exists_evalBack_eq {v : Fin 2} (trig : BitVec 4) (h : s.evaluates v = true) :
    ∃ x : State, s.evalBack v trig = x.publish.managePower := ⟨_, if_neg (by simp [h])⟩

theorem evalBack_merges {v : Fin 2} (trig : BitVec 4) (h : s.evaluates v = true) : (s.evalBack v trig).merges := by
  obtain ⟨x, hx⟩ := exists_evalBack_eq trig h
  rw [hx]
  exact managePower_merges publish_merges

/-- R36: the first half of a step leaves its supervisor evaluating. -/
theorem evalFront_evaluates (v : Fin 2) : (s.evalFront v).1.evaluates v = s.evaluates v := by
  have hsame : Same (areaMask (evalAreas.erase .power)) s (s.evalFront v).1 := State.evalFront_same v rfl .refl
  exact evaluates_congr (evalFront_statuses v) (hsame.out .phase rfl) (hsame.out .power rfl) v

theorem evalStep_merges {v : Fin 2} (h : s.evaluates v = true) : (s.evalStep v).merges :=
  evalBack_merges _ (by rw [evalFront_evaluates, h])

/-! ### The votes and the permits (R47, R53, R54) -/

/-- R46: the merge of two states is as restrictive as the more restrictive. -/
theorem SecState.rank_worse (a b : SecState) : (a.worse b).rank = max a.rank b.rank := by
  rw [SecState.worse]
  split
  · next h => exact (max_eq_right h.le).symm
  · next h => exact (max_eq_left (not_lt.1 h)).symm

theorem SecState.rank_eq_zero_iff {a : SecState} : a.rank = 0 ↔ a = .clear := by
  cases a <;> simp [SecState.rank]

/-- R47: of two proposals, only CLEAR and CLEAR merge to CLEAR. -/
theorem SecState.worse_eq_clear_iff {a b : SecState} : a.worse b = .clear ↔ a = .clear ∧ b = .clear := by
  rw [← rank_eq_zero_iff, rank_worse, ← rank_eq_zero_iff, ← rank_eq_zero_iff]
  omega

/-- R47: with both supervisors serving no proposal of either is more restrictive than the merged state. -/
theorem rank_le_mergedState (hserving : s.serving = [0, 1]) (n : Fin 4) (v : Fin 2) :
    (s.sv[v].props[n].state).rank ≤ (s.mergedState n).rank := by
  rw [mergedState_of_two hserving, SecState.rank_worse]
  match v with
  | 0 => exact le_max_left _ _
  | 1 => exact le_max_right _ _

/-- R53: without degraded run a permit may rise only on both votes. -/
theorem votes_of_votesRise {n : Fin 4} (hdeg : s.keep.degraded = false) (h : s.votesRise n = true) (v : Fin 2) :
    s.sv[v].votes[n] = .rise := by
  rw [State.votesRise, hdeg] at h
  obtain ⟨ha, hb⟩ : s.sv[0].votes[n] = .rise ∧ s.sv[1].votes[n] = .rise := by simpa using h
  match v with
  | 0 => exact ha
  | 1 => exact hb

theorem votesRise_of_dropActive {n : Fin 4} (h : s.dropActive n = false) : s.votesRise n = true := by
  simp only [State.dropActive, Bool.or_eq_false_iff] at h
  obtain ⟨⟨⟨⟨hvotes, -⟩, -⟩, -⟩, -⟩ := h
  simpa using hvotes

/-- R54: a reason that begins clears the latch. -/
theorem dropPermit_latch (n : Fin 4) (c : Nat) (hs : List (Fin 8)) :
    (s.dropPermit n [c] hs).keep.permits[n].latch = false := by
  unfold State.dropPermit
  extract_lets p k isDrop p' s1
  have h1 : s1.keep.permits[n].latch = false := by
    rw [show s1 = s.onPermit n fun _ => p' from rfl, onPermit_keep, updV_self]
    rfl
  split <;> exact h1

/-- R53: judging the qualification again lets no permit rise. -/
theorem requalify_latch {n : Fin 4} (h : s.keep.permits[n].latch = false) :
    s.requalify.keep.permits[n].latch = false := by
  obtain ⟨-, -, -, -, hnoRise, -⟩ := State.requalify_keeps (Keeps.refl s)
  exact Bool.eq_false_iff.2 fun hu => Bool.eq_false_iff.1 h (hnoRise n hu)

/-- R53: while an input of the Deadbolt is active, PERMIT_RISE lets the time pass and no more. -/
theorem permitRise_of_dropActive {t : Time} {n : Fin 4} (h : (s.at t).dropActive n = true) :
    exec (.permitRise t n) s = .next (s.at t) := by
  show execPermitRise t n s = .next (s.at t)
  rw [execPermitRise]
  cases (s.at t).keep.permits[n].qualAt with
  | none => rfl
  | some a => simp [done, State.when, h]

/-- R53: the permit that PERMIT_RISE raises has no input of the Deadbolt active. -/
theorem dropActive_of_permitRise {t : Time} {n : Fin 4} (h : exec (.permitRise t n) s = .next u)
    (hlow : s.keep.permits[n].latch = false) (hhigh : u.keep.permits[n].latch = true) : (s.at t).dropActive n = false := by
  refine Bool.eq_false_iff.2 fun hactive => ?_
  obtain rfl : u = s.at t := Host.Outcome.next.inj (h.symm.trans (permitRise_of_dropActive hactive))
  exact Bool.eq_false_iff.1 hlow hhigh

end

/-- Settles O11: the merge of two serving supervisors is as restrictive as the more restrictive of them, and an evaluation step
ends with it; the vote of either is an input of the Deadbolt, which PERMIT_RISE asks to be inactive. -/
theorem occupancyOneOfTwoClearanceTwoOfTwo : Obligations.OccupancyOneOfTwoClearanceTwoOfTwo := by
  unfold Obligations.OccupancyOneOfTwoClearanceTwoOfTwo
  refine ⟨?_, ?_, ?_, ?_, ?_, ?_⟩
  · intro n v s hserving hstate
    have hrank := rank_le_mergedState hserving n v
    refine ⟨hrank, fun hclear => ?_⟩
    rw [hclear] at hrank
    have hprop := SecState.rank_eq_zero_iff.1 (Nat.le_zero.1 hrank)
    rw [hprop] at hstate
    exact absurd hstate (by decide)
  · intro n s hserving
    rw [mergedState_of_two hserving, SecState.worse_eq_clear_iff]
    rfl
  · intro t v s heval
    exact ⟨_, rfl, evalStep_merges (s := s.at t) heval⟩
  · intro n v s hdeg hvote
    by_contra hactive
    exact hvote (votes_of_votesRise hdeg (votesRise_of_dropActive (Bool.eq_false_iff.2 hactive)) v)
  · intro t n i s hi
    rcases hi with rfl | rfl
    · exact ⟨_, rfl, requalify_latch (dropPermit_latch ..)⟩
    · exact ⟨_, rfl, requalify_latch (dropPermit_latch ..)⟩
  · intro t n s u hdeg hexec hlow hhigh
    have hrise := votesRise_of_dropActive (dropActive_of_permitRise hexec hlow hhigh)
    have hvotes := votes_of_votesRise (s := s.at t) hdeg hrise
    exact ⟨hvotes 0, hvotes 1⟩

end Sys2Proof.Machine

/-! The word a Verdict reads as (R273): its fields lie side by side below bit 31, so each bit of the word is a bit of one field,
and the host window has the four words at 0x0010 to 0x001F, which no write reaches (R270). -/

namespace Sys2Proof.Machine

/-! ### The bits of words built from fields -/

theorem getLsbD_wfield_of_lt {lo width n j : Nat} (hj : j < width) (h32 : lo + j < 32) :
    (wfield lo width n).getLsbD (lo + j) = n.testBit j := by
  simp only [wfield, BitVec.getLsbD_shiftLeft, BitVec.getLsbD_ofNat, Nat.testBit_mod_two_pow, Nat.add_sub_cancel_left]
  simp [h32, hj, show j < 32 by omega]

/-- A field leaves the bits below and above it clear. -/
theorem getLsbD_wfield_of_outside {lo width n j : Nat} (hj : j < lo ∨ lo + width ≤ j) :
    (wfield lo width n).getLsbD j = false := by
  simp only [wfield, BitVec.getLsbD_shiftLeft, BitVec.getLsbD_ofNat, Nat.testBit_mod_two_pow]
  rcases hj with hlo | hhi
  · simp [hlo]
  · simp [show ¬ j - lo < width by omega]

theorem getLsbD_wbit_self {i : Nat} {b : Bool} (h32 : i < 32) : (wbit i b).getLsbD i = b := by
  cases b <;> simp [wbit, h32]

theorem getLsbD_wbit_of_ne {i j : Nat} {b : Bool} (hij : j ≠ i) : (wbit i b).getLsbD j = false := by
  cases b
  · simp [wbit]
  · have hout : j < i ∨ j - i ≠ 0 := by omega
    rcases hout with hlo | hhi
    · simp [wbit, hlo]
    · simp [wbit, hhi]

/-- R273: the parity bit is bit 31 alone. -/
theorem getLsbD_oddPar_of_lt {w : Word} {j : Nat} (hj : j < 31) : (oddPar w).getLsbD j = w.getLsbD j := by
  have hlow : ∀ i < 31, (0x7FFFFFFF : Word).getLsbD i = true := by decide
  have htop : ∀ i < 31, (0x80000000 : Word).getLsbD i = false := by decide
  unfold oddPar
  dsimp only
  split
  · rw [BitVec.getLsbD_or, BitVec.getLsbD_and, hlow j hj, htop j hj, Bool.and_true, Bool.or_false]
  · rw [BitVec.getLsbD_and, hlow j hj, Bool.and_true]

/-- A field of a word is the number whose bits the word shows there. -/
theorem toNat_field_eq_mod {w : Word} {lo width n : Nat} (h : ∀ j < width, w.getLsbD (lo + j) = n.testBit j) :
    w.toNat / 2 ^ lo % 2 ^ width = n % 2 ^ width := by
  refine Nat.eq_of_testBit_eq fun j => ?_
  rw [Nat.testBit_mod_two_pow, Nat.testBit_mod_two_pow, Nat.testBit_div_two_pow]
  by_cases hj : j < width
  · rw [Nat.add_comm, BitVec.testBit_toNat, h j hj]
  · simp [hj]

/-! ### The Verdict word -/

/-- R32: a state code fits STATE. -/
theorem SecState.code_lt (a : SecState) : a.code < 2 ^ 3 := by
  cases a <;> decide

/-- R273: below the parity bit, a bit of the word is that bit of one of its fields. -/
theorem Merged.getLsbD_word {m : Merged} {d : Bool} {j : Nat} (hj : j < 31) :
    (m.word d).getLsbD j =
      ((wfield 0 3 m.state.code).getLsbD j || (wbit 3 m.noEntry).getLsbD j || (wbit 4 m.dirValid).getLsbD j ||
        (wbit 5 m.dir).getLsbD j || (wfield 6 12 m.bal).getLsbD j || (wfield 18 6 m.chg.toNat).getLsbD j ||
        (wfield 24 4 m.legBusy.toNat).getLsbD j || (wbit 28 d).getLsbD j || (wbit 29 m.bemf).getLsbD j) := by
  simp only [Merged.word, getLsbD_oddPar_of_lt hj, BitVec.getLsbD_or]

section
variable (m : Merged) (d : Bool)

/-- R273: the bits of the fields of more than one bit. -/
theorem Merged.word_field_bits :
    (∀ j < 3, (m.word d).getLsbD (0 + j) = m.state.code.testBit j) ∧
      (∀ j < 12, (m.word d).getLsbD (6 + j) = m.bal.testBit j) ∧
      (∀ j < 6, (m.word d).getLsbD (18 + j) = m.chg.toNat.testBit j) ∧
      (∀ j < 4, (m.word d).getLsbD (24 + j) = m.legBusy.toNat.testBit j) := by
  refine ⟨fun j hj => ?_, fun j hj => ?_, fun j hj => ?_, fun j hj => ?_⟩ <;>
    simp (disch := omega) only [getLsbD_word, getLsbD_wfield_of_lt, getLsbD_wfield_of_outside, getLsbD_wbit_of_ne,
      Bool.or_false, Bool.false_or]

/-- R273: the single flags of the word, and bit 30 clear. -/
theorem Merged.word_flags :
    (m.word d).getLsbD 3 = m.noEntry ∧ (m.word d).getLsbD 4 = m.dirValid ∧ (m.word d).getLsbD 5 = m.dir ∧
      (m.word d).getLsbD 28 = d ∧ (m.word d).getLsbD 29 = m.bemf ∧ (m.word d).getLsbD 30 = false := by
  simp (disch := omega) only [getLsbD_word, getLsbD_wbit_self, getLsbD_wfield_of_outside, getLsbD_wbit_of_ne,
    Bool.or_false, Bool.false_or, and_self]

theorem Merged.word_fields :
    (m.word d).toNat % 8 = m.state.code ∧ (m.word d).toNat / 2 ^ 6 % 4096 = m.bal % 4096 ∧
      (m.word d).toNat / 2 ^ 18 % 64 = m.chg.toNat ∧ (m.word d).toNat / 2 ^ 24 % 16 = m.legBusy.toNat := by
  obtain ⟨hstate, hbal, hchg, hleg⟩ := m.word_field_bits d
  have hcode := toNat_field_eq_mod hstate
  rw [Nat.pow_zero, Nat.div_one, Nat.mod_eq_of_lt m.state.code_lt] at hcode
  exact ⟨hcode, toNat_field_eq_mod hbal, (toNat_field_eq_mod hchg).trans (Nat.mod_eq_of_lt m.chg.isLt),
    (toNat_field_eq_mod hleg).trans (Nat.mod_eq_of_lt m.legBusy.isLt)⟩

end

/-! ### The Verdict words in the host window (R270) -/

section
variable {s : State}

theorem readWindow_verdict (n : Fin 4) : s.readWindow (0x0010 + 4 * n.val) = s.keep.shadow[n] := by
  have hindex : regIndex (0x0010 + 4 * n.val) 0x0010 4 = n := by
    apply Fin.ext
    simp only [regIndex]
    omega
  rw [State.readWindow, if_neg (by omega), if_pos (by omega)]
  simp only [hindex]

theorem reset_shadow (n : Fin 4) : State.reset.keep.shadow[n] = 0x0000000D :=
  Vector.getElem_replicate n.isLt

/-- R270: no offset below SK_DEADBOLT takes a write. -/
theorem writeWindow_of_lt {t : Time} {off : Nat} {w : Word} (hoff : off < 0x0044) : s.writeWindow t off w = s := by
  rw [State.writeWindow, if_neg (by omega), if_neg (by omega), if_neg (by omega), if_neg (by omega), if_neg (by omega),
    if_neg (by omega)]

/-- R270: a write below SK_DEADBOLT lets the time pass and no more, whatever its width and alignment. -/
theorem registerWrite_of_lt {t : Time} {off : BitVec 16} {size : Nat} {w : Word} (hoff : off.toNat < 0x0044) :
    exec (.registerWrite t off size w) s = .next (s.at t) := by
  show execRegisterWrite t off size w s = .next (s.at t)
  rw [execRegisterWrite, writeWindow_of_lt hoff, ite_self]

end

/-- Settles O12: each bit of a Verdict word lies in one of its fields, and the four words lie in the window below every offset
that takes a write. -/
theorem verdictWordsHaveTheirLayout : Obligations.VerdictWordsHaveTheirLayout := by
  unfold Obligations.VerdictWordsHaveTheirLayout
  refine ⟨?_, ?_, ?_, ?_⟩
  · intro m d
    obtain ⟨hstate, hbal, hchg, hlegBusy⟩ := m.word_fields d
    obtain ⟨hnoEntry, hdirValid, hdir, hdegraded, hbemf, hzero⟩ := m.word_flags d
    exact ⟨m.word_parOk d, hzero, hstate, hnoEntry, hdirValid, hdir, hbal, hchg, hlegBusy, hdegraded, hbemf⟩
  · exact fun n s => ⟨readWindow_verdict n, reset_shadow n⟩
  · intro t off w s _ hoff
    exact ⟨_, registerWrite_of_lt (by omega), rfl⟩
  · decide

end Sys2Proof.Machine

/-! The host event controller (R392 to R404): what it offers, what its registers read, and what a host write makes of the pulse
flags and of the targets. A write goes through the sources of its register in turn, and each source sees its own turn alone. -/

namespace Sys2Proof.Machine

/-! ### Loops -/

section
variable {α β ι : Type} {g : β → α} {step : β → ι → β} {f : α → α} {i : ι} {l : List ι}

theorem foldl_of_not_mem (hother : ∀ b j, j ≠ i → g (step b j) = g b) (hi : i ∉ l) (b : β) :
    g (l.foldl step b) = g b := by
  induction l generalizing b with
  | nil => rfl
  | cons j l ih =>
    obtain ⟨hij, hl⟩ := not_or.1 (List.mem_cons.not.1 hi)
    exact (ih hl _).trans (hother b j (Ne.symm hij))

/-- A loop of which the turn of i alone changes a view, and i has one turn. -/
theorem foldl_of_mem (hself : ∀ b, g (step b i) = f (g b)) (hother : ∀ b j, j ≠ i → g (step b j) = g b) (hl : l.Nodup)
    (hi : i ∈ l) (b : β) : g (l.foldl step b) = f (g b) := by
  induction l generalizing b with
  | nil => cases hi
  | cons j l ih =>
    obtain ⟨hj, hl⟩ := List.nodup_cons.1 hl
    rcases eq_or_ne j i with rfl | hne
    · exact (foldl_of_not_mem hother hj _).trans (hself b)
    · rw [List.foldl_cons, ih hl ((List.mem_cons.1 hi).resolve_left hne.symm), hother b j hne]

end

theorem getLsbD_foldl_or {ι : Type} {g : ι → Word} {n : Nat} (l : List ι) (w : Word) :
    (l.foldl (fun w i => w ||| g i) w).getLsbD n = (w.getLsbD n || l.any fun i => (g i).getLsbD n) := by
  induction l generalizing w with
  | nil => rw [List.foldl_nil, List.any_nil, Bool.or_false]
  | cons i l ih => rw [List.foldl_cons, ih, BitVec.getLsbD_or, List.any_cons, Bool.or_assoc]

/-- Of words laid side by side, a bit is that of the one word that may hold it. -/
theorem getLsbD_foldl_or_of_unique {ι : Type} {g : ι → Word} {i : ι} {l : List ι} {n : Nat} (hi : i ∈ l)
    (h : ∀ j ≠ i, (g j).getLsbD n = false) : (l.foldl (fun w i => w ||| g i) 0).getLsbD n = (g i).getLsbD n := by
  rw [getLsbD_foldl_or, Bool.eq_iff_iff, show (0 : Word).getLsbD n = false from BitVec.getLsbD_zero, Bool.false_or,
    List.any_eq_true]
  constructor
  · rintro ⟨j, -, hb⟩
    by_cases hji : j = i
    · exact hji ▸ hb
    · rw [h j hji] at hb
      exact absurd hb Bool.false_ne_true
  · exact fun hb => ⟨i, hi, hb⟩

theorem getLsbD_flagWord {f : Nat → Bool} {n : Nat} (hn : n < 32) : (flagWord f).getLsbD n = f n := by
  rw [flagWord, getLsbD_foldl_or_of_unique (List.mem_range.2 hn) fun j hj => getLsbD_wbit_of_ne hj.symm,
    getLsbD_wbit_self hn]

/-! ### Sources and offers (R392 to R394, R402) -/

section
variable {s : State} {t : Fin 4} {n : Fin 64}

theorem targetIs_iff {code : BitVec 3} : targetIs code t = true ↔ code.toNat = t.val + 1 := beq_iff_eq

theorem lt_of_isPulse {n : Nat} (h : isPulse n = true) : n < 32 :=
  of_decide_eq_true (Bool.and_eq_true_iff.1 h).1

/-- The first index that a search over a range finds is the lowest. -/
theorem find?_finRange_le {N : Nat} {q : Fin N → Bool} {n : Fin N} (hn : q n = true) :
    ∃ m, (List.finRange N).find? q = some m ∧ m ≤ n := by
  obtain ⟨m, hm⟩ := Option.isSome_iff_exists.1 (List.find?_isSome.2 ⟨n, List.mem_finRange n, hn⟩)
  obtain ⟨-, as, bs, hsplit, has⟩ := List.find?_eq_some_iff_append.1 hm
  obtain ⟨-, hsorted, -⟩ := List.pairwise_append.1 (hsplit ▸ List.pairwise_lt_finRange N)
  have hmem : n ∈ as ++ m :: bs := hsplit ▸ List.mem_finRange n
  refine ⟨m, hm, ?_⟩
  rcases List.mem_append.1 hmem with hbefore | hafter
  · simpa [hn] using has n hbefore
  · rcases List.mem_cons.1 hafter with rfl | hlater
    · exact le_rfl
    · exact (List.rel_of_pairwise_cons hsorted hlater).le

/-- R393: what is offered is deliverable. -/
theorem deliverable_of_hecBest (h : s.hecBest t = some n) :
    s.hecPending n.val = true ∧ (s.hec.target[n]).toNat = t.val + 1 ∧ s.hec.slots[t].busy = false := by
  rw [State.hecBest] at h
  split at h
  · cases h
  · next hfree =>
    have hn := List.find?_some h
    obtain ⟨hpending, htarget⟩ := Bool.and_eq_true_iff.1 hn
    exact ⟨hpending, targetIs_iff.1 htarget, Bool.eq_false_iff.2 hfree⟩

/-- R394: where a source is deliverable, it or one below it is offered. -/
theorem exists_hecBest_le (hpending : s.hecPending n.val = true) (htarget : (s.hec.target[n]).toNat = t.val + 1)
    (hfree : s.hec.slots[t].busy = false) : ∃ m, s.hecBest t = some m ∧ m ≤ n := by
  rw [State.hecBest, if_neg (Bool.eq_false_iff.1 hfree)]
  exact find?_finRange_le (Bool.and_eq_true_iff.2 ⟨hpending, targetIs_iff.2 htarget⟩)

/-- R404, R405: the level of a level source that HEC_LEVEL shows. -/
theorem levelShown_of_isLevel {n : Nat} (h : isLevel n = true) :
    s.levelShown n = if s.hecPowered then s.levelOf n else s.hec.levels.getLsbD n := by
  rw [State.levelShown, h, Bool.true_and]

end

/-! ### The HEC range of the host window (R401 to R404) -/

section
variable {s : State}

theorem readWindow_hec {off : Nat} (hlow : 0x0200 ≤ off) (hhigh : off < 0x0400) : s.readWindow off = s.readHec off := by
  unfold State.readWindow
  iterate 9 rw [if_neg (by omega)]
  rw [if_pos ⟨hlow, hhigh⟩]

theorem readWindow_levelLo : s.readWindow 0x0258 = flagWord s.levelShown := by
  rw [readWindow_hec (by decide) (by decide)]
  rfl

theorem readWindow_levelHi : s.readWindow 0x025C = flagWord fun i => s.levelShown (i + 32) := by
  rw [readWindow_hec (by decide) (by decide)]
  rfl

/-- R402: the field of a source in its TARGET register is its code, below a zero bit. -/
theorem getLsbD_targetWord (n : Fin 64) {j : Nat} (hj : j < 4) :
    (s.readWindow (0x0200 + 4 * (n.val / 8))).getLsbD (4 * (n.val % 8) + j) = (s.hec.target[n]).toNat.testBit j := by
  have hsource : 8 * ((0x0200 + 4 * (n.val / 8) - 0x0200) / 4 % 8) + n.val % 8 = n.val := by omega
  rw [readWindow_hec (by omega) (by omega), State.readHec, if_pos (by omega)]
  dsimp only
  rw [getLsbD_foldl_or_of_unique (List.mem_finRange (⟨n.val % 8, by omega⟩ : Fin 8))]
  · simp only [hsource]
    by_cases h3 : j < 3
    · exact getLsbD_wfield_of_lt h3 (by omega)
    · rw [getLsbD_wfield_of_outside (by omega), show j = 3 by omega]
      exact (Nat.testBit_eq_false_of_lt s.hec.target[n].isLt).symm
  · intro i hi
    have hne : i.val ≠ n.val % 8 := fun h => hi (Fin.ext h)
    exact getLsbD_wfield_of_outside (by omega)

end

/-! ### A host write to the HEC (R398, R405) -/

section
variable {s : State} {i : Instr}

/-- R397: a sample of the level conditions concerns the slots alone. -/
theorem exists_hecSample_hec_eq : ∃ slots, s.hecSample.hec = { s.hec with slots := slots } := by
  unfold State.hecSample
  dsimp only
  split
  · exact ⟨_, rfl⟩
  · exact ⟨s.hec.slots, rfl⟩

@[simp] theorem hecSample_pend : s.hecSample.hec.pend = s.hec.pend := by
  obtain ⟨slots, h⟩ := exists_hecSample_hec_eq (s := s)
  rw [h]
@[simp] theorem hecSample_lostClr : s.hecSample.hec.lostClr = s.hec.lostClr := by
  obtain ⟨slots, h⟩ := exists_hecSample_hec_eq (s := s)
  rw [h]
@[simp] theorem hecSample_target : s.hecSample.hec.target = s.hec.target := by
  obtain ⟨slots, h⟩ := exists_hecSample_hec_eq (s := s)
  rw [h]
@[simp] theorem hecArbitrate_pend : s.hecArbitrate.hec.pend = s.hec.pend := rfl
@[simp] theorem hecArbitrate_lostClr : s.hecArbitrate.hec.lostClr = s.hec.lostClr := rfl
@[simp] theorem hecArbitrate_target : s.hecArbitrate.hec.target = s.hec.target := rfl

/-- R405: with the controller powered a write takes effect, on what the writes held before it have left. -/
theorem hecCommand_of_powered (h : s.hecFlush.hecSample.hecPowered = true) :
    s.hecCommand i = ((s.hecFlush.hecSample.hecWrite i).hecSample).hecArbitrate := by
  rw [State.hecCommand, if_pos h]

end

/-! ### Pulse flags and lost-clear counters under a write to HEC_PEND (R398) -/

section
variable {h : Hec} {m n : Fin 64} {set clr : Bool} {w sets : Word} {now : Time}

/-- R398: the turn of one source in a write to HEC_PEND. -/
def Hec.clearOne (h : Hec) (n : Fin 64) (set clr : Bool) (now : Time) : Hec :=
  if !isPulse n then h
  else
    let h1 : Hec := { h with pend :=
      if set then h.pend ||| ((1 : BitVec 64) <<< n.val)
      else if clr then h.pend &&& ~~~((1 : BitVec 64) <<< n.val) else h.pend }
    if set && clr then h1.lost n now else h1

theorem Hec.clear_low : h.clear false w sets now = (List.finRange 32).foldl (fun h i =>
    h.clearOne ⟨i.val, by omega⟩ (sets.getLsbD i.val) (w.getLsbD i.val) now) h := rfl

theorem getLsbD_one_shiftLeft : ((1 : BitVec 64) <<< m.val).getLsbD n.val = decide (m = n) := by
  show (1#64 <<< m.val).getLsbD n.val = _
  rw [← BitVec.twoPow_eq, BitVec.getLsbD_twoPow, decide_eq_true m.isLt, Bool.true_and, decide_eq_decide, Fin.ext_iff]

theorem Hec.clearOne_of_not_pulse (hm : isPulse m.val = false) : h.clearOne m set clr now = h := by
  rw [clearOne, hm]
  rfl

theorem Hec.clearOne_pend (hm : isPulse m.val = true) : (h.clearOne m set clr now).pend =
    if set then h.pend ||| ((1 : BitVec 64) <<< m.val)
    else if clr then h.pend &&& ~~~((1 : BitVec 64) <<< m.val) else h.pend := by
  rw [clearOne, hm]
  cases set <;> cases clr <;> rfl

theorem Hec.clearOne_lostClr (hm : isPulse m.val = true) : (h.clearOne m set clr now).lostClr =
    if set && clr then updV h.lostClr m fun c => if c = 0xFFFF then c else c + 1 else h.lostClr := by
  rw [clearOne, hm]
  cases set <;> cases clr <;> rfl

theorem Hec.clearOne_pend_self (hn : isPulse n.val = true) :
    (h.clearOne n set clr now).pend.getLsbD n.val = (set || (h.pend.getLsbD n.val && !clr)) := by
  rw [clearOne_pend hn]
  cases set with
  | true => rw [if_pos rfl, BitVec.getLsbD_or, getLsbD_one_shiftLeft, decide_eq_true rfl, Bool.or_true, Bool.true_or]
  | false =>
    cases clr with
    | true => simp only [Bool.false_eq_true, if_false, if_true, BitVec.getLsbD_and, BitVec.getLsbD_not,
        getLsbD_one_shiftLeft, decide_true, Bool.not_true, Bool.and_false, Bool.or_false]
    | false => simp

theorem Hec.clearOne_pend_other (hmn : m ≠ n) :
    (h.clearOne m set clr now).pend.getLsbD n.val = h.pend.getLsbD n.val := by
  cases hm : isPulse m.val with
  | false => rw [clearOne_of_not_pulse hm]
  | true =>
    rw [clearOne_pend hm]
    split_ifs
    · rw [BitVec.getLsbD_or, getLsbD_one_shiftLeft, decide_eq_false hmn, Bool.or_false]
    · rw [BitVec.getLsbD_and, BitVec.getLsbD_not, getLsbD_one_shiftLeft, decide_eq_false hmn, decide_eq_true n.isLt,
        Bool.not_false, Bool.and_true, Bool.and_true]
    · rfl

theorem Hec.clearOne_lostClr_self (hn : isPulse n.val = true) : (h.clearOne n set clr now).lostClr[n] =
    if set && clr then if h.lostClr[n] = 0xFFFF then 0xFFFF else h.lostClr[n] + 1 else h.lostClr[n] := by
  rw [clearOne_lostClr hn]
  split
  · rw [updV_self]
    exact ite_congr rfl id fun _ => rfl
  · rfl

theorem Hec.clearOne_lostClr_other (hmn : m ≠ n) : (h.clearOne m set clr now).lostClr[n] = h.lostClr[n] := by
  cases hm : isPulse m.val with
  | false => rw [clearOne_of_not_pulse hm]
  | true =>
    rw [clearOne_lostClr hm]
    split
    · exact updV_other _ _ hmn.symm
    · rfl

theorem ne_of_source_ne {i : Fin 32} (hlt : n.val < 32) (hi : i ≠ ⟨n.val, hlt⟩) : (⟨i.val, by omega⟩ : Fin 64) ≠ n :=
  fun hm => hi (Fin.ext (congrArg Fin.val hm :))

/-- R398: of the flag of a pulse source a write leaves what hardware sets and what it does not clear. -/
theorem Hec.clear_pend (hn : isPulse n.val = true) : (h.clear false w sets now).pend.getLsbD n.val =
    (sets.getLsbD n.val || (h.pend.getLsbD n.val && !w.getLsbD n.val)) := by
  rw [clear_low]
  refine foldl_of_mem (g := fun h : Hec => h.pend.getLsbD n.val) (i := (⟨n.val, lt_of_isPulse hn⟩ : Fin 32))
    (f := fun a => sets.getLsbD n.val || (a && !w.getLsbD n.val)) (fun h => ?_) (fun h i hi => ?_)
    (List.nodup_finRange 32) (List.mem_finRange _) h
  · exact clearOne_pend_self hn
  · exact clearOne_pend_other (ne_of_source_ne _ hi)

/-- R398: the counter of a pulse source counts a clear that hardware takes back. -/
theorem Hec.clear_lostClr (hn : isPulse n.val = true) : (h.clear false w sets now).lostClr[n] =
    if sets.getLsbD n.val && w.getLsbD n.val then if h.lostClr[n] = 0xFFFF then 0xFFFF else h.lostClr[n] + 1
    else h.lostClr[n] := by
  rw [clear_low]
  refine foldl_of_mem (g := fun h : Hec => h.lostClr[n]) (i := (⟨n.val, lt_of_isPulse hn⟩ : Fin 32))
    (f := fun a => if sets.getLsbD n.val && w.getLsbD n.val then if a = 0xFFFF then 0xFFFF else a + 1 else a)
    (fun h => ?_) (fun h i hi => ?_) (List.nodup_finRange 32) (List.mem_finRange _) h
  · exact clearOne_lostClr_self hn
  · exact clearOne_lostClr_other (ne_of_source_ne _ hi)

/-- R405, R398: HEC_PEND_CLEAR with the controller powered. -/
theorem exec_hecPendClear {s : State} {t : Time} (hpow : (s.at t).hecFlush.hecSample.hecPowered = true) :
    ∃ u : State, exec (.hecPendClear t false w sets) s = .next u ∧
      (let r := (s.at t).hecFlush.hecSample
      let c := r.hec.clear false w (sets ||| r.hec.setsNow false r.clk.now) r.clk.now
      u.hec.pend = c.pend ∧ u.hec.lostClr = c.lostClr) := by
  refine ⟨_, congrArg done (hecCommand_of_powered hpow), ?_⟩
  simp only [hecArbitrate_pend, hecArbitrate_lostClr, hecSample_pend, hecSample_lostClr]
  exact ⟨rfl, rfl⟩

end

/-! ### Targets under a write to HEC_TARGETi (R402) -/

/-- R402: the turn of one source in a write to a TARGET register. -/
def Hec.setTarget (h : Hec) (n : Fin 64) (code : BitVec 3) : Hec :=
  if n.val < 48 then { h with target := updV h.target n fun _ => code } else h

theorem Hec.setTargets_eq (h : Hec) (i : Fin 8) (w : Word) : h.setTargets i w =
    (List.finRange 8).foldl (fun h (j : Fin 8) => h.setTarget ⟨8 * i.val + j.val, by omega⟩
      ((w >>> (4 * j.val)).setWidth 3)) h := rfl

theorem Hec.setTarget_target (h : Hec) (m n : Fin 64) (code : BitVec 3) :
    (h.setTarget m code).target[n] = if m = n ∧ m.val < 48 then code else h.target[n] := by
  rw [setTarget]
  by_cases h48 : m.val < 48
  · rw [if_pos h48]
    rcases eq_or_ne n m with rfl | hne
    · rw [if_pos ⟨rfl, h48⟩]
      exact updV_self ..
    · rw [if_neg fun hm => hne hm.1.symm]
      exact updV_other _ _ hne
  · rw [if_neg h48, if_neg fun hm => h48 hm.2]

/-- R402: a write gives each source of its register below 48 its field. -/
theorem Hec.setTargets_target (h : Hec) (i : Fin 8) (w : Word) (n : Fin 64) : (h.setTargets i w).target[n] =
    if n.val / 8 = i.val ∧ n.val < 48 then (w >>> (4 * (n.val % 8))).setWidth 3 else h.target[n] := by
  rw [setTargets_eq]
  refine foldl_of_mem (g := fun h : Hec => h.target[n]) (i := (⟨n.val % 8, by omega⟩ : Fin 8))
    (f := fun a => if n.val / 8 = i.val ∧ n.val < 48 then (w >>> (4 * (n.val % 8))).setWidth 3 else a) (fun h => ?_)
    (fun h j hj => ?_) (List.nodup_finRange 8) (List.mem_finRange _) h
  · have hturn : ((⟨8 * i.val + n.val % 8, by omega⟩ : Fin 64) = n ∧ 8 * i.val + n.val % 8 < 48) ↔
        (n.val / 8 = i.val ∧ n.val < 48) := by
      rw [Fin.ext_iff]
      dsimp only
      omega
    simp only [setTarget_target, hturn]
  · have hj' : j.val ≠ n.val % 8 := fun e => hj (Fin.ext e)
    refine (setTarget_target ..).trans (if_neg fun hm => hj' ?_)
    have hm' : 8 * i.val + j.val = n.val := (congrArg Fin.val hm.1 :)
    omega

/-- R405, R402: HEC_TARGET_WRITE with the controller powered. -/
theorem exec_hecTargetWrite {s : State} {t : Time} {i : Fin 8} {w : Word}
    (hpow : (s.at t).hecFlush.hecSample.hecPowered = true) :
    ∃ u, exec (.hecTargetWrite t i w) s = .next u ∧
      u.hec.target = ((s.at t).hecFlush.hecSample.hec.setTargets i w).target := by
  refine ⟨_, congrArg done (hecCommand_of_powered hpow), ?_⟩
  rw [hecArbitrate_target, hecSample_target]
  rfl

/-! ### A source that becomes pending (R392, R398) -/

/-- R392: a pulse source sets its flag, whatever its target; no counter moves. -/
theorem exec_hecSourcePending {s : State} {t : Time} {src : Fin 64} (hpulse : isPulse src.val = true) :
    ∃ u, exec (.hecSourcePending t src) s = .next u ∧
      (let r := (s.at t).hecFlush.hecSample
      u.hec.pend = r.hec.pend ||| ((1 : BitVec 64) <<< src.val) ∧ u.hec.lostClr = r.hec.lostClr) := by
  refine ⟨_, rfl, ?_⟩
  rw [hecArbitrate_pend, hecArbitrate_lostClr, if_pos hpulse]
  exact ⟨rfl, rfl⟩

/-- Settles O13: the offer is the lowest of the deliverable sources; a flag that is set and a level that is read do not ask for a
target. -/
theorem deliverableSourcesAreOffered : Obligations.DeliverableSourcesAreOffered := by
  unfold Obligations.DeliverableSourcesAreOffered
  refine ⟨?_, ?_, ?_, ?_, ?_⟩
  · exact fun t n s h => deliverable_of_hecBest h
  · intro t n s hpending htarget hfree
    obtain ⟨m, hm, hle⟩ := exists_hecBest_le hpending htarget hfree
    rw [hm, Option.any_some, decide_eq_true hle]
  · intro t src s hpulse
    obtain ⟨u, hexec, hpend, -⟩ := exec_hecSourcePending (s := s) (t := t) hpulse
    refine ⟨u, hexec, ?_⟩
    dsimp only
    rw [hpend, BitVec.getLsbD_or, getLsbD_one_shiftLeft, decide_eq_true rfl, Bool.or_true]
  · intro n s hlevel
    rw [readWindow_levelLo, getLsbD_flagWord n.isLt, levelShown_of_isLevel hlevel]
  · intro n s hlevel
    rw [readWindow_levelHi, getLsbD_flagWord n.isLt, levelShown_of_isLevel hlevel]

/-- A flag that is set already stays as it is when it is set again. -/
theorem or_one_shiftLeft_of_getLsbD {x : BitVec 64} {n : Fin 64} (h : x.getLsbD n.val = true) :
    x ||| ((1 : BitVec 64) <<< n.val) = x := by
  refine BitVec.eq_of_getLsbD_eq fun i hi => ?_
  have hbit := getLsbD_one_shiftLeft (m := n) (n := ⟨i, hi⟩)
  rw [BitVec.getLsbD_or, hbit]
  by_cases hin : n = ⟨i, hi⟩
  · rw [hin] at h
    rw [h, Bool.true_or]
  · rw [decide_eq_false hin, Bool.or_false]

/-- Settles O14: a write to HEC_PEND gives each pulse source one turn. -/
theorem pulseFlagsClearByOnes : Obligations.PulseFlagsClearByOnes := by
  unfold Obligations.PulseFlagsClearByOnes
  refine ⟨?_, ?_, ?_⟩
  · rintro t n w sets r s rfl hpow hpulse hw hset
    obtain ⟨u, hexec, hpend, hlost⟩ := exec_hecPendClear (w := w) (sets := sets) hpow
    refine ⟨u, hexec, ?_⟩
    dsimp only
    rw [hpend, hlost, Hec.clear_pend hpulse, Hec.clear_lostClr hpulse, hset, hw]
    exact ⟨by simp, if_neg (by decide)⟩
  · rintro t n w sets r s rfl hpow hpulse hw hset
    obtain ⟨u, hexec, hpend, hlost⟩ := exec_hecPendClear (w := w) (sets := sets) hpow
    refine ⟨u, hexec, ?_⟩
    dsimp only
    rw [hpend, hlost, Hec.clear_pend hpulse, Hec.clear_lostClr hpulse, hset, hw]
    exact ⟨Bool.true_or _, if_pos rfl⟩
  · rintro t src r s rfl hpulse hflag
    obtain ⟨u, hexec, hpend, hlost⟩ := exec_hecSourcePending (s := s) (t := t) hpulse
    exact ⟨u, hexec, hpend.trans (or_one_shiftLeft_of_getLsbD hflag), hlost⟩

/-- Settles O15: a write to a TARGET register gives each of its sources one turn, and its fields read side by side. -/
theorem targetFieldsHaveTheirLayout : Obligations.TargetFieldsHaveTheirLayout := by
  unfold Obligations.TargetFieldsHaveTheirLayout
  refine ⟨?_, ?_, ?_⟩
  · rintro t i w r s rfl hpow
    obtain ⟨u, hexec, htarget⟩ := exec_hecTargetWrite (i := i) (w := w) hpow
    refine ⟨u, hexec, fun n => ?_⟩
    rw [htarget, Hec.setTargets_target]
  · intro n s
    have hfield := toNat_field_eq_mod (w := s.readWindow (0x0200 + 4 * (n.val / 8))) (lo := 4 * (n.val % 8)) (width := 4)
      (n := (s.hec.target[n]).toNat) fun j hj => getLsbD_targetWord n hj
    exact ⟨hfield.trans (Nat.mod_eq_of_lt (by omega)), Vector.getElem_replicate n.isLt⟩
  · intro code t
    rw [Bool.eq_iff_iff, targetIs_iff, Bool.and_eq_true, decide_eq_true_eq, beq_iff_eq]
    omega

end Sys2Proof.Machine

/-! The four checks of R407. The shift of a register is linear: a byte laid into the register and shifted eight times leaves it as
if the bits of the byte had been taken in one by one as they arrive at the end that the register shifts towards. -/

namespace Sys2Proof.Machine

theorem xor_and_distrib (x y m : Word) : (x ^^^ y) &&& m = (x &&& m) ^^^ (y &&& m) :=
  BitVec.eq_of_getElem_eq (by simp [Bool.and_xor_distrib_right])

/-! ### One bit taken into the register -/

/-- The place of the bit that leaves the register at a shift. -/
def crcEnd (p : BitVec 2) : Nat := if crcReflected p then 0 else if p = 2 then 15 else 7

/-- A shift of the register without the polynomial. -/
def crcMove (p : BitVec 2) (v : Word) : Word := if crcReflected p then v >>> 1 else (v <<< 1) &&& crcMask p

/-- One bit of data taken into the register: the polynomial is combined where the data differs from the bit that leaves. -/
def crcStep (p : BitVec 2) (v : Word) (d : Bool) : Word :=
  if v.getLsbD (crcEnd p) != d then crcMove p v ^^^ crcPoly p else crcMove p v

section
variable {p : BitVec 2} {v y : Word} {d : Bool}

theorem crcStep_of_reflected (hr : crcReflected p = true) :
    crcStep p v d = if v.getLsbD 0 != d then (v >>> 1) ^^^ crcPoly p else v >>> 1 := by
  simp only [crcStep, crcEnd, crcMove, hr, if_true]

/-- R411: the polynomial of a check that is not reflected lies within its width. -/
theorem crcPoly_and_crcMask (hr : crcReflected p = false) : crcPoly p &&& crcMask p = crcPoly p := by
  revert p
  decide

theorem crcStep_of_not_reflected (hr : crcReflected p = false) :
    crcStep p v d =
      (if v.getLsbD (crcEnd p) != d then (v <<< 1) ^^^ crcPoly p else v <<< 1) &&& crcMask p := by
  rw [crcStep, crcMove, if_neg (Bool.eq_false_iff.1 hr)]
  by_cases hd : (v.getLsbD (crcEnd p) != d) = true
  · rw [if_pos hd, if_pos hd, xor_and_distrib, crcPoly_and_crcMask hr]
  · rw [if_neg hd, if_neg hd]

/-- A shift takes in a bit 0. -/
theorem crcShift_eq_crcStep : crcShift p v = crcStep p v false := by
  cases hr : crcReflected p with
  | true => rw [crcStep_of_reflected hr, crcShift, if_pos hr, Bool.bne_false]
  | false =>
    rw [crcStep_of_not_reflected hr, crcShift, if_neg (Bool.eq_false_iff.1 hr), Bool.bne_false, crcEnd,
      if_neg (Bool.eq_false_iff.1 hr), apply_ite v.getLsbD]

theorem crcMove_xor : crcMove p (v ^^^ y) = crcMove p v ^^^ crcMove p y := by
  cases hr : crcReflected p with
  | true => simp only [crcMove, hr, if_true, BitVec.ushiftRight_xor_distrib]
  | false => simp only [crcMove, hr, Bool.false_eq_true, if_false, BitVec.shiftLeft_xor_distrib, xor_and_distrib]

/-- A shift of a register with data laid into it takes in the bit of the data that leaves; the rest stays laid in. -/
theorem crcShift_xor : crcShift p (v ^^^ y) = crcStep p v (y.getLsbD (crcEnd p)) ^^^ crcMove p y := by
  rw [crcShift_eq_crcStep, crcStep, crcStep, crcMove_xor, BitVec.getLsbD_xor, Bool.bne_false]
  change (if (v.getLsbD (crcEnd p) != y.getLsbD (crcEnd p)) = true then _ else _) = _
  split
  · ac_rfl
  · rfl

theorem crcShifts_xor (n : Nat) :
    (List.range n).foldl (fun v _ => crcShift p v) (v ^^^ y) =
      (List.range n).foldl (fun v k => crcStep p v (((crcMove p)^[k] y).getLsbD (crcEnd p))) v ^^^ (crcMove p)^[n] y := by
  induction n with
  | zero => rfl
  | succ n ih =>
    rw [List.range_succ, List.foldl_append, List.foldl_append, ih, Function.iterate_succ_apply']
    exact crcShift_xor

/-! ### A byte taken in bit by bit -/

/-- Where data laid into the register shows the bits of a byte one after the other and then nothing, the byte is taken in bit by
bit. -/
theorem crcShift8_xor {bits : Nat → Bool} (hbits : ∀ k < 8, ((crcMove p)^[k] y).getLsbD (crcEnd p) = bits k)
    (hrest : (crcMove p)^[8] y = 0#32) :
    crcShift8 p (v ^^^ y) = (List.range 8).foldl (fun v k => crcStep p v (bits k)) v := by
  rw [crcShift8, crcShifts_xor, hrest, BitVec.xor_zero]
  exact List.foldl_ext _ _ _ fun v k hk => by rw [hbits k (List.mem_range.1 hk)]

theorem crcMove_iterate_of_reflected (hr : crcReflected p = true) (n : Nat) : (crcMove p)^[n] y = y >>> n := by
  induction n with
  | zero => rfl
  | succ n ih => rw [Function.iterate_succ_apply', ih, crcMove, if_pos hr, ← BitVec.shiftRight_add]

/-- R407: a reflected check takes the bits of a byte from the least significant. -/
theorem crcFold_of_reflected (hr : crcReflected p = true) (b : Byte) :
    crcFold p v [b] = (List.range 8).foldl (fun v k => crcStep p v (b.getLsbD k)) v := by
  have hp : p ≠ 2 := by rintro rfl; exact absurd hr (by decide)
  rw [crcFold, List.foldl_cons, List.foldl_nil, crcByte, if_neg hp]
  refine crcShift8_xor (fun k hk => ?_) ?_
  · rw [crcMove_iterate_of_reflected hr, crcEnd, if_pos hr, BitVec.getLsbD_ushiftRight, BitVec.getLsbD_setWidth]
    simp [show k < 32 by omega]
  · rw [crcMove_iterate_of_reflected hr]
    refine BitVec.eq_of_getLsbD_eq fun i hi => ?_
    simp

/-- R411: the bits of the width of a check that is not reflected. -/
theorem getLsbD_crcMask (hr : crcReflected p = false) {i : Nat} (hi : i < 32) :
    (crcMask p).getLsbD i = decide (i ≤ crcEnd p) := by
  have hbits : ∀ q : BitVec 2, crcReflected q = false → ∀ j < 32, (crcMask q).getLsbD j = decide (j ≤ crcEnd q) := by
    decide
  exact hbits p hr i hi

theorem getLsbD_crcMove (hr : crcReflected p = false) {i : Nat} (hi : i < 32) :
    (crcMove p v).getLsbD i = (decide (i ≤ crcEnd p) && decide (1 ≤ i) && v.getLsbD (i - 1)) := by
  rw [crcMove, if_neg (Bool.eq_false_iff.1 hr), BitVec.getLsbD_and, BitVec.getLsbD_shiftLeft, getLsbD_crcMask hr hi]
  rcases i with _ | i <;> simp [hi, Bool.and_comm]

/-- Within the width of a check that is not reflected, data moves up by one place a shift. -/
theorem getLsbD_crcMove_iterate (hr : crcReflected p = false) (n : Nat) {i : Nat} (hi : i ≤ crcEnd p) (h32 : i < 32) :
    ((crcMove p)^[n] y).getLsbD i = (decide (n ≤ i) && y.getLsbD (i - n)) := by
  induction n generalizing i with
  | zero => simp
  | succ n ih =>
    rw [Function.iterate_succ_apply', getLsbD_crcMove hr h32]
    cases i with
    | zero => simp
    | succ i => simp [ih (i := i) (by omega) (by omega), hi]

/-- R407: a check that is not reflected takes the bits of a byte from the most significant. -/
theorem crcFold_of_not_reflected (hr : crcReflected p = false) (b : Byte) :
    crcFold p v [b] = (List.range 8).foldl (fun v k => crcStep p v (b.getLsbD (7 - k))) v := by
  have hend : 7 ≤ crcEnd p ∧ crcEnd p < 32 := by
    revert p
    decide
  have hlaid : (if p = 2 then (b.setWidth 32 : Word) <<< 8 else b.setWidth 32) =
      (b.setWidth 32 : Word) <<< (crcEnd p - 7) := by
    rw [crcEnd, if_neg (Bool.eq_false_iff.1 hr)]
    split
    · rfl
    · exact (BitVec.shiftLeft_zero _).symm
  rw [crcFold, List.foldl_cons, List.foldl_nil, crcByte, hlaid]
  refine crcShift8_xor (fun k hk => ?_) (BitVec.eq_of_getLsbD_eq fun i hi => ?_)
  · have hplace : crcEnd p - k - (crcEnd p - 7) = 7 - k := by omega
    rw [getLsbD_crcMove_iterate hr k le_rfl hend.2, BitVec.getLsbD_shiftLeft, BitVec.getLsbD_setWidth, hplace]
    simp (disch := omega) [decide_eq_true, decide_eq_false]
  · rw [BitVec.getLsbD_zero]
    by_cases hwidth : i ≤ crcEnd p
    · rw [getLsbD_crcMove_iterate hr 8 hwidth hi, BitVec.getLsbD_shiftLeft]
      rcases lt_or_ge i 8 with hlow | hhigh
      · rw [decide_eq_false (by omega), Bool.false_and]
      · simp [show i - 8 < crcEnd p - 7 by omega]
    · rw [Function.iterate_succ_apply', getLsbD_crcMove hr hi, decide_eq_false hwidth, Bool.false_and, Bool.false_and]

end

/-- Settles O16: the values of the table are evaluated; a byte is taken in bit by bit, from the end that the register shifts
towards. -/
theorem theFourChecksAreR407s : Obligations.TheFourChecksAreR407s := by
  unfold Obligations.TheFourChecksAreR407s
  refine ⟨by decide, by decide +kernel, ?_, ?_, ?_⟩
  · intro p v b hp
    have hpoly : (if p = 0 then (0x04C11DB7 : Word) else 0x1EDC6F41).reverse = crcPoly p := by
      rcases hp with rfl | rfl <;> decide +kernel
    have hr : crcReflected p = true := by
      rcases hp with rfl | rfl <;> rfl
    simp only [hpoly, ← crcStep_of_reflected hr]
    exact crcFold_of_reflected hr b
  · intro v b
    rw [crcFold_of_not_reflected rfl]
    simp only [crcStep_of_not_reflected (p := 2) rfl]
    rfl
  · intro v b
    rw [crcFold_of_not_reflected rfl]
    simp only [crcStep_of_not_reflected (p := 3) rfl]
    rfl

end Sys2Proof.Machine

/-! The host check-value units (R409 to R412): their registers in the host window, and what the commands make of a unit. -/

namespace Sys2Proof.Machine

section
variable {s : State} {t : Time} {k : Fin 2}

/-! ### The registers of a unit in the host window (R270, R409) -/

/-- Each unit has a page of its own above all else in the window. -/
theorem readWindow_cvu {off reg : Nat} (hoff : off = 0x1000 + 0x100 * k.val + reg) (hreg : reg < 0x100) :
    s.readWindow off = s.cvu[k].word reg := by
  unfold State.readWindow
  match k, hoff with
  | 0, hoff =>
    iterate 12 rw [if_neg (by omega)]
    rw [if_pos (by omega), show off - 0x1000 = reg by omega]
    rfl
  | 1, hoff =>
    iterate 13 rw [if_neg (by omega)]
    rw [if_pos (by omega), show off - 0x1100 = reg by omega]
    rfl

theorem writeWindow_cvu {off reg : Nat} {w : Word} (hoff : off = 0x1000 + 0x100 * k.val + reg) (hreg : reg < 0x100) :
    s.writeWindow t off w = s.writeCvu k reg w := by
  unfold State.writeWindow
  match k, hoff with
  | 0, hoff =>
    iterate 4 rw [if_neg (by omega)]
    rw [if_pos (by omega), show off - 0x1000 = reg by omega]
  | 1, hoff =>
    iterate 5 rw [if_neg (by omega)]
    rw [if_pos (by omega), show off - 0x1100 = reg by omega]

/-- R270: an aligned 32-bit write to a register of a unit. -/
theorem registerWrite_cvu {off : BitVec 16} {reg : Nat} {w : Word}
    (hoff : off.toNat = 0x1000 + 0x100 * k.val + reg) (hreg : reg < 0x100) (halign : reg % 4 = 0) :
    exec (.registerWrite t off 4 w) s = .next ((s.at t).writeCvu k reg w) := by
  show execRegisterWrite t off 4 w s = _
  rw [execRegisterWrite, if_pos ⟨rfl, by omega⟩, writeWindow_cvu hoff hreg]

theorem writeCvu_expect {w : Word} :
    s.writeCvu k 0x1C w = s.onCvu k fun c => { c with expect := w &&& crcMask c.poly } := by
  simp [State.writeCvu]

theorem Cvu.word_val (c : Cvu) : c.word 0x08 = c.val &&& crcMask c.poly := rfl
theorem Cvu.word_result (c : Cvu) : c.word 0x0C = c.result &&& crcMask c.poly := rfl
theorem Cvu.word_expect (c : Cvu) : c.word 0x1C = c.expect &&& crcMask c.poly := rfl

/-- R411: what is cut to the width of a check is within it. -/
theorem and_crcMask_self (w : Word) (p : BitVec 2) : w &&& crcMask p &&& crcMask p = w &&& crcMask p := by
  rw [BitVec.and_assoc, BitVec.and_self]

/-! ### What the commands make of a unit -/

theorem exec_finish : exec (.finish t k) s =
    .next (((s.at t).onCvu k fun c => c.ended (s.at t).clk.now).pulse (28 + k.val)) := rfl

/-- R409: the unit that a command works on, after it. -/
theorem onCvu_at_self {f : Cvu → Cvu} : ((s.at t).onCvu k f).cvu[k] = f s.cvu[k] := by
  rw [onCvu_cvu, updV_self, at_cvu]

/-- R410, R411: FINISH cuts RESULT to the width of the check. -/
theorem Cvu.ended_result (c : Cvu) (now : Time) :
    (c.ended now).result = (c.val ^^^ crcXorout c.poly) &&& crcMask c.poly := by
  rw [Cvu.ended]
  split <;> rfl

theorem Cvu.ended_val (c : Cvu) (now : Time) : (c.ended now).val = c.val := by
  rw [Cvu.ended]
  split <;> rfl

/-- R412: a WINDOW of 0 acts as 1. -/
theorem Cvu.reach_eq (c : Cvu) : c.reach = max 1 c.window.toNat := by
  rw [Cvu.reach]
  split
  · next h => rw [h]; rfl
  · next h => exact (max_eq_right (Nat.one_le_iff_ne_zero.2 fun h0 => h (BitVec.eq_of_toNat_eq h0))).symm

theorem Cvu.aliveOut_eq (c : Cvu) :
    c.aliveOut = (c.aliveEn && !c.sync && !decide (1 ≤ (c.aliveRx - c.aliveLast).toNat ∧
      (c.aliveRx - c.aliveLast).toNat ≤ max 1 c.window.toNat)) := by
  rw [Cvu.aliveOut, Cvu.reach_eq, Bool.decide_and]

end

/-- Settles O17: a unit keeps what it takes cut to the width of its check, and its registers read cut to it. -/
theorem checkRegistersKeepTheirWidth : Obligations.CheckRegistersKeepTheirWidth := by
  unfold Obligations.CheckRegistersKeepTheirWidth
  refine ⟨?_, ?_, ?_, ?_, ?_, ?_⟩
  · intro k s
    dsimp only
    rw [readWindow_cvu rfl (by decide), readWindow_cvu rfl (by decide), readWindow_cvu rfl (by decide), Cvu.word_val,
      Cvu.word_result, Cvu.word_expect]
    exact ⟨and_crcMask_self .., and_crcMask_self .., and_crcMask_self ..⟩
  · intro t k w s
    exact ⟨_, rfl, congrArg Cvu.val onCvu_at_self⟩
  · intro t k w s
    have hoff : (BitVec.ofNat 16 (0x101C + 0x100 * k.val)).toNat = 0x1000 + 0x100 * k.val + 0x1C := by
      rw [BitVec.toNat_ofNat]
      omega
    refine ⟨_, registerWrite_cvu hoff (by decide) (by decide), ?_⟩
    rw [writeCvu_expect]
    exact congrArg Cvu.expect onCvu_at_self
  · intro t k s
    refine ⟨_, exec_finish, ?_⟩
    dsimp only
    rw [pulse_cvu, onCvu_at_self, Cvu.ended_result, Cvu.ended_val]
    exact ⟨and_crcMask_self .., rfl⟩
  · intro t k n d s
    refine ⟨_, rfl, ?_⟩
    dsimp only
    rw [onCvu_at_self]
    exact and_crcMask_self ..
  · intro t k w s r hpoly hw
    have hoff : 0x1008 + 0x100 * k.val = 0x1000 + 0x100 * k.val + 0x08 := by omega
    rw [readWindow_cvu hoff (by decide), Cvu.word_val, ← hpoly] at hw
    refine ⟨_, rfl, ?_⟩
    dsimp only
    rw [readWindow_cvu hoff (by decide), onCvu_at_self, Cvu.word_val, hw, and_crcMask_self, and_crcMask_self]

/-- Settles O18: FINISH in check mode, field by field; EXPECT reads as the unit compares it. -/
theorem checkModeJudgesTheBlock : Obligations.CheckModeJudgesTheBlock := by
  unfold Obligations.CheckModeJudgesTheBlock
  intro t k s hmode
  refine ⟨_, exec_finish, ?_⟩
  dsimp only
  rw [pulse_cvu, onCvu_at_self, readWindow_cvu (k := k) (reg := 0x1C) (by omega) (by decide), Cvu.word_expect, ← Cvu.aliveOut_eq,
    Cvu.ended, if_pos hmode]
  refine ⟨rfl, rfl, rfl, rfl, ?_, rfl⟩
  dsimp only
  split
  · next hpass => rw [hpass, Bool.not_true, Bool.and_false]
  · next hfail => rw [Bool.eq_false_iff.2 hfail, Bool.not_false, Bool.and_true]

end Sys2Proof.Machine

/-! The event recorder (R420 to R426): what it takes up next, a row that fails while a record is written, and the level that it
shows to the host event controller. -/

namespace Sys2Proof.Machine

/-! ### What the recorder stores and has in hand -/

/-- The memory, the record in progress, and the clear that waits for its end. -/
def State.recView (s : State) : RecMem × Option Queued × Option Nat := (s.nv.mem, s.intake.writing, s.intake.clearBy)

/-- Nothing waits for the recorder: no event, no count of lost ones, no summary of an ended run. -/
structure Intake.Empty (i : Intake) : Prop where
  queue : i.queue = []
  lost : i.lost = none
  held : i.buckets.all (fun b => !b.held) = true

section
variable {s : State}

theorem recView_eq {m : RecMem} {w : Option Queued} {c : Option Nat} :
    s.recView = (m, w, c) ↔ s.nv.mem = m ∧ s.intake.writing = w ∧ s.intake.clearBy = c := by
  simp [State.recView]

/-- R422: an EMCY frame is no concern of the recorder. -/
theorem emcy_recView (ev : RecEvent) : (s.emcy ev).recView = s.recView := by
  have hsame := State.emcy_same (w := areaMask [.dictRest, .ports, .switch, .offered]) ev rfl (.refl (s := s))
  have hmem := hsame.out .recMem rfl
  have hintake := hsame.out .intake rfl
  simp only [Area.same, Prod.mk.injEq] at hmem hintake
  obtain ⟨-, hwriting, -, -, -, -, -, hclear, -⟩ := hintake
  rw [State.recView, hmem, hwriting, hclear]
  rfl

/-! ### The record taken up next (R420, R421, R425) -/

theorem recNext_of_writing (h : s.intake.writing.isSome = true) : s.recNext = s :=
  if_pos (by rw [h, Bool.true_or])

theorem recNext_of_stopped (h : s.nv.mem.stop ≠ 0) : s.recNext = s :=
  if_pos (by rw [bne_iff_ne.2 h, Bool.or_true])

/-- While a record is written, an event waits, is lost or is discarded; the record in progress stays. -/
theorem recEnter_recView_of_writing (ev : RecEvent) (h : s.intake.writing.isSome = true) :
    (s.recEnter ev).recView = s.recView := by
  rw [State.recEnter]
  split_ifs
  · rfl
  · refine (congrArg State.recView (recNext_of_writing ?_)).trans rfl
    exact h
  · rfl

/-- The only record that waits is taken up at once. -/
theorem recNext_recView_of_single {q : Queued} (hqueue : s.intake.queue = [q]) (hlost : s.intake.lost = none)
    (hheld : s.intake.buckets.all (fun b => !b.held) = true) (hwriting : s.intake.writing = none)
    (hstop : s.nv.mem.stop = 0) : s.recNext.recView = (s.nv.mem, some q, s.intake.clearBy) := by
  have hruns : s.intake.buckets.filter (fun b => b.held) = [] :=
    List.filter_eq_nil_iff.2 fun b hb => by simpa using List.all_eq_true.1 hheld b hb
  simp [State.recNext, State.recView, hqueue, hlost, hwriting, hstop, hruns]

/-- An event that finds the recorder at rest becomes the record in progress. -/
theorem recEnter_recView_of_empty (ev : RecEvent) (hempty : s.intake.Empty) (hwriting : s.intake.writing = none)
    (hstop : s.nv.mem.stop = 0) :
    (s.recEnter ev).recView = (s.nv.mem, some { ev := ev, degraded := s.keep.degraded }, s.intake.clearBy) := by
  obtain ⟨hqueue, hlost, hheld⟩ := hempty
  have hslot : s.intake.hasSlot (exemptClass (eventClass ev.code)) = true := by simp [Intake.hasSlot, hqueue]
  rw [State.recEnter, if_neg (by simp [hstop]), if_pos hslot]
  exact recNext_recView_of_single (by simp [hqueue, hwriting]) hlost hheld hwriting hstop

theorem recOwn_recView (code : BitVec 16) (emergency : Bool) (payload : List Byte) :
    (s.recOwn code emergency payload).recView = (s.recEnter (s.ownEvent code emergency payload)).recView :=
  when_view State.recView (emcy_recView _)

/-! ### A row that fails during a write (R424, R425) -/

/-- R425: without a spare row, one failing row stops the recorder once 64 rows are mapped out. -/
theorem recBroken_one (hspare : s.nv.repair.spares[0] = 0) : s.recBroken 1 = decide (64 ≤ s.nv.mem.mapped) := by
  simp [State.recBroken, hspare]

/-- R425: the recorder stops, the stop is latched, and the record in progress is lost. -/
theorem recFails_recView (row : BitVec 16) :
    (s.recFails row).recView =
      ({ s.nv.mem with stop := 2, latch := (s.latchFault 0x0006 row true).nv.mem.latch }, none, s.intake.clearBy) :=
  emcy_recView _

/-- R424: without a spare row, a failing row is mapped out and latched; where nothing waits for the recorder, 0x0005 becomes
the record in progress. -/
theorem rowFails_recView_of_no_spare {row : BitVec 16} (hspare : s.nv.repair.spares[0] = 0) (hempty : s.intake.Empty)
    (hwriting : s.intake.writing = none) (hstop : s.nv.mem.stop = 0) :
    ∃ e : Queued, e.ev.code = 0x0005 ∧ (s.rowFails row).recView =
      ({ s.nv.mem with
          mapped := s.nv.mem.mapped + 1
          capacity := s.nv.mem.capacity - 256
          latch := (s.latchFault 0x0005 row false).nv.mem.latch }, some e, s.intake.clearBy) := by
  rw [State.rowFails, if_neg (by omega), recOwn_recView]
  -- As a difference the capacity would be counted down where the two states are compared.
  generalize s.nv.mem.capacity - 256 = capacity
  exact ⟨_, rfl, recEnter_recView_of_empty _ hempty hwriting hstop⟩

/-! ### The end of a write (R420, R423 to R425) -/

/-- R427: the record in progress is in the memory. -/
def State.recStored (s : State) (q : Queued) : State :=
  { s with nv := { s.nv with mem := s.nv.mem.append (s.recordBytes q) }, intake := { s.intake with writing := none } }

variable {q : Queued} {row : BitVec 16}

theorem recWrite_of_broken {fails : Nat} (hroom : s.nv.mem.used + (s.recordBytes q).length + 28 ≤ s.nv.mem.capacity)
    (hbroken : s.recBroken fails = true) : s.recWrite q fails row = s.recFails row := by
  rw [State.recWrite, if_neg (not_lt.2 hroom), if_pos hbroken]

/-- R424, R428: a write that a failing row does not stop stores its record and then deals with the row; a mark of 90 % that is
reached thereby waits behind the record that the row gives rise to. -/
theorem recWrite_recView_of_row (hroom : s.nv.mem.used + (s.recordBytes q).length + 28 ≤ s.nv.mem.capacity)
    (hbroken : s.recBroken 1 = false) (hwriting : ((s.recStored q).rowFails row).intake.writing.isSome = true) :
    (s.recWrite q 1 row).recView = ((s.recStored q).rowFails row).recView := by
  rw [State.recWrite, if_neg (not_lt.2 hroom), if_neg (Bool.eq_false_iff.1 hbroken)]
  exact when_view State.recView ((recOwn_recView ..).trans (recEnter_recView_of_writing _ hwriting))

/-- RECORD_WRITTEN where no clear waits, and the write leaves a record in progress or a stopped recorder: nothing is taken up
after it. -/
theorem exec_recordWritten {t : Time} {fails : Nat} {m : RecMem} {w : Option Queued} (hwriting : s.intake.writing = some q)
    (hview : ((s.at t).recWrite q fails row).recView = (m, w, none)) (hrest : w.isSome = true ∨ m.stop ≠ 0) :
    ∃ u, exec (.recordWritten t fails row) s = .next u ∧ u.nv.mem = m ∧ u.intake.writing = w := by
  obtain ⟨hmem, hw, hclear⟩ := recView_eq.1 hview
  have hnext : ((s.at t).recWrite q fails row).recNext = (s.at t).recWrite q fails row := by
    rcases hrest with hrest | hrest
    · exact recNext_of_writing (hw ▸ hrest)
    · exact recNext_of_stopped (hmem ▸ hrest)
  refine ⟨(s.at t).recWrite q fails row, ?_, hmem, hw⟩
  show execRecordWritten t fails row s = _
  simp only [execRecordWritten, at_intake, hwriting, hclear, hnext]

/-- R424: the write of a record meets one failing row without a spare, and fewer than 64 rows are mapped out. -/
theorem recWrite_recView_of_mappedOut (hempty : s.intake.Empty) (hstop : s.nv.mem.stop = 0) (hspare : s.nv.repair.spares[0] = 0)
    (hroom : s.nv.mem.used + (s.recordBytes q).length + 28 ≤ s.nv.mem.capacity) (hmapped : s.nv.mem.mapped < 64) :
    ∃ e : Queued, e.ev.code = 0x0005 ∧ (s.recWrite q 1 row).recView =
      ({ s.nv.mem.append (s.recordBytes q) with
          mapped := s.nv.mem.mapped + 1
          capacity := s.nv.mem.capacity - 256
          latch := (s.latchFault 0x0005 row false).nv.mem.latch }, some e, s.intake.clearBy) := by
  obtain ⟨e, hcode, hview⟩ :=
    rowFails_recView_of_no_spare (s := s.recStored q) (row := row) hspare ⟨hempty.queue, hempty.lost, hempty.held⟩ rfl hstop
  obtain ⟨-, hwriting, -⟩ := recView_eq.1 hview
  have hbroken : s.recBroken 1 = false := (recBroken_one hspare).trans (decide_eq_false (not_le.2 hmapped))
  exact ⟨e, hcode, (recWrite_recView_of_row hroom hbroken (Option.isSome_of_eq_some hwriting)).trans hview⟩

end

/-- Settles O19: with fewer than 64 rows mapped out the record is stored, the row is mapped out, and 0x0005 is the next record
in progress; with 64 the recorder stops. -/
theorem rowsWithoutASpareAreMappedOut : Obligations.RowsWithoutASpareAreMappedOut := by
  unfold Obligations.RowsWithoutASpareAreMappedOut
  refine ⟨?_, ?_⟩
  · intro t row q s hwriting hclear hstop hqueue hlost hheld hspare hroom hmapped
    rw [← at_nv_mem s t] at hstop hroom hmapped ⊢
    rw [← at_nv_repair s t] at hspare
    obtain ⟨e, hcode, hview⟩ :=
      recWrite_recView_of_mappedOut (s := s.at t) (row := row) ⟨hqueue, hlost, hheld⟩ hstop hspare hroom hmapped
    rw [at_intake, hclear] at hview
    obtain ⟨u, hexec, hmem, hnext⟩ := exec_recordWritten hwriting hview (.inl rfl)
    refine ⟨u, hexec, ?_⟩
    dsimp only
    rw [hmem, hnext, Option.any_some, beq_iff_eq]
    exact ⟨rfl, rfl, rfl, hcode⟩
  · intro t row q s hwriting hclear _ _ _ _ hspare hroom hmapped
    rw [← at_nv_mem s t] at hroom hmapped ⊢
    rw [← at_nv_repair s t] at hspare
    have hbroken : (s.at t).recBroken 1 = true := (recBroken_one hspare).trans (decide_eq_true hmapped)
    have hview := (congrArg State.recView (recWrite_of_broken (row := row) hroom hbroken)).trans (recFails_recView row)
    rw [at_intake, hclear] at hview
    obtain ⟨u, hexec, hmem, -⟩ := exec_recordWritten hwriting hview (.inr (by decide : 2 ≠ 0))
    refine ⟨u, hexec, ?_⟩
    dsimp only
    rw [hmem]
    exact ⟨rfl, rfl, rfl⟩

/-! ### The level of the recorder (R392, R426) -/

theorem hecPending_of_isLevel {s : State} {n : Nat} (h : isLevel n = true) : s.hecPending n = s.levelOf n := if_pos h

theorem recorderLevel_iff {s : State} : s.recorderLevel = true ↔ s.nv.mem.stop ≠ 0 ∨ 1 ≤ s.nv.mem.latch.length := by
  rw [State.recorderLevel, Bool.or_eq_true, bne_iff_ne, Bool.not_eq_true', List.isEmpty_eq_false_iff, ← List.length_pos_iff,
    Nat.succ_le_iff]

/-- Settles O20: source 24 is a level source, and its level is the recorder's. -/
theorem theRecorderSourceIsPending : Obligations.TheRecorderSourceIsPending := by
  unfold Obligations.TheRecorderSourceIsPending
  intro s
  rw [hecPending_of_isLevel rfl]
  exact recorderLevel_iff

end Sys2Proof.Machine

namespace Sys2Proof.Machine

/-! ### What every command keeps -/

/-- Every command but PERMIT_RISE answers a next state and keeps what `Keeps` names. -/
theorem exec_keeps (c : Instr) (s : State) (hc : ∀ a m, c ≠ .permitRise a m) : ∃ u, exec c s = .next u ∧ Keeps s u := by
  cases c with
  | powerGood t => exact execPowerGood_keeps t s
  | resetRelease t slotA slotB => exact execResetRelease_keeps t slotA slotB s
  | supervisorsInService t r => exact execSupervisorsInService_keeps t r s
  | trialStartFailure t => exact execTrialStartFailure_keeps t s
  | removalWarning t => exact execRemovalWarning_keeps t s
  | supplyLoss t => exact execSupplyLoss_keeps t s
  | skrstReq t => exact execSkrstReq_keeps t s
  | immediateReset t => exact execImmediateReset_keeps t s
  | railOutOfRange t rail => exact execRailOutOfRange_keeps t rail s
  | feedDisconnect t feed => exact execFeedDisconnect_keeps t feed s
  | feedReconnect t feed => exact execFeedReconnect_keeps t feed s
  | feedOutOfRangeWarning t feed => exact execFeedOutOfRangeWarning_keeps t feed s
  | opsecSave t => exact execOpsecSave_keeps t s
  | evaluationStep t v => exact execEvaluationStep_keeps t v s
  | deferredSetApply t => exact execDeferredSetApply_keeps t s
  | verdictShadowLoad t sec => exact execVerdictShadowLoad_keeps t sec s
  | deadboltDrop t n input => exact execDeadboltDrop_keeps t n input s
  | permitRise t n => exact absurd rfl (hc t n)
  | supervisorFailure t v cause => exact execSupervisorFailure_keeps t v cause s
  | supervisorClockFault t v => exact execSupervisorClockFault_keeps t v s
  | stepOverrun t v => exact execStepOverrun_keeps t v s
  | degradedRunEntry t => exact execDegradedRunEntry_keeps t s
  | degradedClearExpiry t => exact execDegradedClearExpiry_keeps t s
  | referenceSwitchover t => exact execReferenceSwitchover_keeps t s
  | bothReferencesLost t => exact execBothReferencesLost_keeps t s
  | frameBoundary t => exact execFrameBoundary_keeps t s
  | settlingMaskEnd t c => exact execSettlingMaskEnd_keeps t c s
  | fastSample t c raws => exact execFastSample_keeps t c raws s
  | presenceEvent t ev => exact execPresenceEvent_keeps t ev s
  | loopMonitorEval t c amp unblanked => exact execLoopMonitorEval_keeps t c amp unblanked s
  | excCurrentEval t c cur limiter => exact execExcCurrentEval_keeps t c cur limiter s
  | commonModeEval t c volts vafe => exact execCommonModeEval_keeps t c volts vafe s
  | burnoutEval t c share => exact execBurnoutEval_keeps t c share s
  | faultCauseFinal t c => exact execFaultCauseFinal_keeps t c s
  | reconnectQuietExpiry t c r => exact execReconnectQuietExpiry_keeps t c r s
  | calibrationStart t c r => exact execCalibrationStart_keeps t c r s
  | calibrationDone t c => exact execCalibrationDone_keeps t c s
  | channelWarning t c kind => exact execChannelWarning_keeps t c kind s
  | warningHoldExpiry t c kind => exact execWarningHoldExpiry_keeps t c kind s
  | tchReading t c m1 m2 vref => exact execTchReading_keeps t c m1 m2 vref s
  | blankStuck t src => exact execBlankStuck_keeps t src s
  | blankSourceRestore t src => exact execBlankSourceRestore_keeps t src s
  | scanDue t c => exact execScanDue_keeps t c s
  | scanOverdue t c => exact execScanOverdue_keeps t c s
  | scanPauseStart t c => exact execScanPauseStart_keeps t c s
  | scanComplete t c => exact execScanComplete_keeps t c s
  | noiseBlock t c => exact execNoiseBlock_keeps t c s
  | baselineStore t => exact execBaselineStore_keeps t s
  | driftEvaluation t c => exact execDriftEvaluation_keeps t c s
  | kappaFit t c => exact execKappaFit_keeps t c s
  | residualPresence t c => exact execResidualPresence_keeps t c s
  | engineCheckpoint t e w => exact execEngineCheckpoint_keeps t e w s
  | engineFailure t e check => exact execEngineFailure_keeps t e check s
  | takeoverFirstDecision t h => exact execTakeoverFirstDecision_keeps t h s
  | proofTestDue t c => exact execProofTestDue_keeps t c s
  | proofTestStart t c => exact execProofTestStart_keeps t c s
  | proofTestEnd t c => exact execProofTestEnd_keeps t c s
  | proofTestRetry t c => exact execProofTestRetry_keeps t c s
  | proofTestOverdue t c => exact execProofTestOverdue_keeps t c s
  | ledgerStall t slot => exact execLedgerStall_keeps t slot s
  | ledgerScrub t slot copy r => exact execLedgerScrub_keeps t slot copy r s
  | checkpointDone t ok => exact execCheckpointDone_keeps t ok s
  | tumblerCompare t => exact execTumblerCompare_keeps t s
  | tumblerToleranceExpiry t => exact execTumblerToleranceExpiry_keeps t s
  | tumblerRederiveDone t => exact execTumblerRederiveDone_keeps t s
  | clearTimerExpiry t v sec => exact execClearTimerExpiry_keeps t v sec s
  | disturbedHoldExpiry t v sec cause => exact execDisturbedHoldExpiry_keeps t v sec cause s
  | bemfAlarm t v sec => exact execBemfAlarm_keeps t v sec s
  | tractionStage t n dclink w => exact execTractionStage_keeps t n dclink w s
  | tractionCommit t n w => exact execTractionCommit_keeps t n w s
  | tractionStale t n => exact execTractionStale_keeps t n s
  | kinExpiry t sec => exact execKinExpiry_keeps t sec s
  | skTimeRead t => exact execSkTimeRead_keeps t s
  | deadboltClear t w => exact execDeadboltClear_keeps t w s
  | mailboxSend t => exact execMailboxSend_keeps t s
  | mailboxCancel t => exact execMailboxCancel_keeps t s
  | mailboxResponse t => exact execMailboxResponse_keeps t s
  | registerWrite t off size w => exact execRegisterWrite_keeps t off size w s
  | hecSourcePending t src => exact execHecSourcePending_keeps t src s
  | hecAccept t core => exact execHecAccept_keeps t core s
  | hecFirstAccess t core => exact execHecFirstAccess_keeps t core s
  | hecEoi t core w => exact execHecEoi_keeps t core w s
  | hecPendClear t high w sets => exact execHecPendClear_keeps t high w sets s
  | hecTargetWrite t k w => exact execHecTargetWrite_keeps t k w s
  | hecVbaseWrite t core w => exact execHecVbaseWrite_keeps t core w s
  | clrCounts t => exact execClrCounts_keeps t s
  | coreReset t core => exact execCoreReset_keeps t core s
  | cvuCtrlWrite t u w => exact execCvuCtrlWrite_keeps t u w s
  | start t u => exact execStart_keeps t u s
  | finish t u => exact execFinish_keeps t u s
  | clrRej t u => exact execClrRej_keeps t u s
  | cvuData t u width w => exact execCvuData_keeps t u width w s
  | cvuValWrite t u w => exact execCvuValWrite_keeps t u w s
  | haspGateClose t port => exact execHaspGateClose_keeps t port s
  | haspSend t k => exact execHaspSend_keeps t k s
  | haspReceive t port f => exact execHaspReceive_keeps t port f s
  | connectionTimeout t k => exact execConnectionTimeout_keeps t k s
  | laneTimeout t k lane => exact execLaneTimeout_keeps t k lane s
  | mirrorGapTimeout t k => exact execMirrorGapTimeout_keeps t k s
  | attestTimeout t sec => exact execAttestTimeout_keeps t sec s
  | attestRetry t sec => exact execAttestRetry_keeps t sec s
  | attestHeldClear t sec => exact execAttestHeldClear_keeps t sec s
  | selfAttestation t sec => exact execSelfAttestation_keeps t sec s
  | pitchCommit t src => exact execPitchCommit_keeps t src s
  | pitchTime t => exact execPitchTime_keeps t s
  | strike t src => exact execStrike_keeps t src s
  | sweepRequest t src => exact execSweepRequest_keeps t src s
  | directClear t src => exact execDirectClear_keeps t src s
  | rereference t src => exact execRereference_keeps t src s
  | bemfRelease t src => exact execBemfRelease_keeps t src s
  | keySlotLoad t src => exact execKeySlotLoad_keeps t src s
  | noEntryRelease t src => exact execNoEntryRelease_keeps t src s
  | scanNow t src => exact execScanNow_keeps t src s
  | proofNow t src => exact execProofNow_keeps t src s
  | releaseOverride t src => exact execReleaseOverride_keeps t src s
  | sdpOpen t src => exact execSdpOpen_keeps t src s
  | sdpClose t src => exact execSdpClose_keeps t src s
  | sdpRead t src => exact execSdpRead_keeps t src s
  | sdpWrite t src => exact execSdpWrite_keeps t src s
  | readInit t src => exact execReadInit_keeps t src s
  | readSeg t src => exact execReadSeg_keeps t src s
  | writeInit t src => exact execWriteInit_keeps t src s
  | writeSeg t src => exact execWriteSeg_keeps t src s
  | xferAbort t src => exact execXferAbort_keeps t src s
  | txnBegin t src => exact execTxnBegin_keeps t src s
  | txnEnd t src w => exact execTxnEnd_keeps t src w s
  | txnDiscard t src => exact execTxnDiscard_keeps t src s
  | unknownOp t src => exact execUnknownOp_keeps t src s
  | challenge t src => exact execChallenge_keeps t src s
  | response t src => exact execResponse_keeps t src s
  | sessionLevel t src => exact execSessionLevel_keeps t src s
  | pendingCommit t src => exact execPendingCommit_keeps t src s
  | pendingDiscard t src => exact execPendingDiscard_keeps t src s
  | waitingCancel t src => exact execWaitingCancel_keeps t src s
  | rollback t src w => exact execRollback_keeps t src w s
  | rerun t src w => exact execRerun_keeps t src w s
  | recAdvance t src => exact execRecAdvance_keeps t src s
  | validationTimeout t => exact execValidationTimeout_keeps t s
  | sessionIdleTimeout t sess => exact execSessionIdleTimeout_keeps t sess s
  | transferTimeout t sess => exact execTransferTimeout_keeps t sess s
  | pendingTimeout t sess => exact execPendingTimeout_keeps t sess s
  | txnTimeout t => exact execTxnTimeout_keeps t s
  | raiseBarExpiry t sess => exact execRaiseBarExpiry_keeps t sess s
  | configWanted t => exact execConfigWanted_keeps t s
  | imageCheckDone t okA okB version => exact execImageCheckDone_keeps t okA okB version s
  | recorderEvent t ev => exact execRecorderEvent_keeps t ev s
  | recordWritten t rowFails row => exact execRecordWritten_keeps t rowFails row s
  | tokenRefill t cls => exact execTokenRefill_keeps t cls s
  | suppressionRunEnd t cls => exact execSuppressionRunEnd_keeps t cls s
  | linkUp t port capable requests => exact execLinkUp_keeps t port capable requests s
  | linkDown t port => exact execLinkDown_keeps t port s
  | frameReceive t port f => exact execFrameReceive_keeps t port f s
  | addressAgeout t => exact execAddressAgeout_keeps t s
  | nodeTableAgeout t => exact execNodeTableAgeout_keeps t s
  | prpTrailerEnable t => exact execPrpTrailerEnable_keeps t s
  | supervisionFrame t => exact execSupervisionFrame_keeps t s
  | announce t port a => exact execAnnounce_keeps t port a s
  | pdelayReq t port delay => exact execPdelayReq_keeps t port delay s
  | sync t port gmTime => exact execSync_keeps t port gmTime s
  | syncTimeout t => exact execSyncTimeout_keeps t s
  | holdoverExpiry t => exact execHoldoverExpiry_keeps t s
  | syncPpsEdge t => exact execSyncPpsEdge_keeps t s
  | syncPpsTimeout t => exact execSyncPpsTimeout_keeps t s
  | syncPpsOutput t => exact execSyncPpsOutput_keeps t s
  | tbClockLoss t => exact execTbClockLoss_keeps t s
  | sleepExecute t => exact execSleepExecute_keeps t s
  | wakeTimer t => exact execWakeTimer_keeps t s
  | wakeComplete t r => exact execWakeComplete_keeps t r s
  | hibernateHaspSend t k => exact execHibernateHaspSend_keeps t k s
  | isolationRequest t h durUs patterns => exact execIsolationRequest_keeps t h durUs patterns s
  | isolationReady t => exact execIsolationReady_keeps t s
  | testDone t patterns good => exact execTestDone_keeps t patterns good s
  | testDoneTimeout t => exact execTestDoneTimeout_keeps t s
  | isolationReturnDone t => exact execIsolationReturnDone_keeps t s
  | memoryScrub t v r => exact execMemoryScrub_keeps t v r s
  | comparatorTest t v ok => exact execComparatorTest_keeps t v ok s
  | tumblerTest t ok => exact execTumblerTest_keeps t ok s
  | deadboltPathTest t n ok => exact execDeadboltPathTest_keeps t n ok s
  | authKnownAnswer t ok => exact execAuthKnownAnswer_keeps t ok s
  | mramRefresh t mem row ok => exact execMramRefresh_keeps t mem row ok s
  | deFailure t d => exact execDeFailure_keeps t d s
  | crystalLoss t => exact execCrystalLoss_keeps t s
  | rcLoss t => exact execRcLoss_keeps t s
  | storeEccError t key => exact execStoreEccError_keeps t key s
  | dieOvertemp t => exact execDieOvertemp_keeps t s
  | blankingWindowEdge t src level => exact execBlankingWindowEdge_keeps t src level s
  | contactBounce t => exact execContactBounce_keeps t s
  | cutThroughStart t port f => exact execCutThroughStart_keeps t port f s
  | egressFrameEnd t port => exact execEgressFrameEnd_keeps t port s
  | syncPpsPulseEnd t => exact execSyncPpsPulseEnd_keeps t s

/-- Every command changes only the areas that its own list names. -/
theorem exec_same (c : Instr) (s : State) : ∃ u, exec c s = .next u ∧ Same (areaMask (writes c)) s u := by
  cases c with
  | powerGood t => exact execPowerGood_same t s
  | resetRelease t slotA slotB => exact execResetRelease_same t slotA slotB s
  | supervisorsInService t r => exact execSupervisorsInService_same t r s
  | trialStartFailure t => exact execTrialStartFailure_same t s
  | removalWarning t => exact execRemovalWarning_same t s
  | supplyLoss t => exact execSupplyLoss_same t s
  | skrstReq t => exact execSkrstReq_same t s
  | immediateReset t => exact execImmediateReset_same t s
  | railOutOfRange t rail => exact execRailOutOfRange_same t rail s
  | feedDisconnect t feed => exact execFeedDisconnect_same t feed s
  | feedReconnect t feed => exact execFeedReconnect_same t feed s
  | feedOutOfRangeWarning t feed => exact execFeedOutOfRangeWarning_same t feed s
  | opsecSave t => exact execOpsecSave_same t s
  | evaluationStep t v => exact execEvaluationStep_same t v s
  | deferredSetApply t => exact execDeferredSetApply_same t s
  | verdictShadowLoad t sec => exact execVerdictShadowLoad_same t sec s
  | deadboltDrop t n input => exact execDeadboltDrop_same t n input s
  | permitRise t n => exact execPermitRise_same t n s
  | supervisorFailure t v cause => exact execSupervisorFailure_same t v cause s
  | supervisorClockFault t v => exact execSupervisorClockFault_same t v s
  | stepOverrun t v => exact execStepOverrun_same t v s
  | degradedRunEntry t => exact execDegradedRunEntry_same t s
  | degradedClearExpiry t => exact execDegradedClearExpiry_same t s
  | referenceSwitchover t => exact execReferenceSwitchover_same t s
  | bothReferencesLost t => exact execBothReferencesLost_same t s
  | frameBoundary t => exact execFrameBoundary_same t s
  | settlingMaskEnd t c => exact execSettlingMaskEnd_same t c s
  | fastSample t c raws => exact execFastSample_same t c raws s
  | presenceEvent t ev => exact execPresenceEvent_same t ev s
  | loopMonitorEval t c amp unblanked => exact execLoopMonitorEval_same t c amp unblanked s
  | excCurrentEval t c cur limiter => exact execExcCurrentEval_same t c cur limiter s
  | commonModeEval t c volts vafe => exact execCommonModeEval_same t c volts vafe s
  | burnoutEval t c share => exact execBurnoutEval_same t c share s
  | faultCauseFinal t c => exact execFaultCauseFinal_same t c s
  | reconnectQuietExpiry t c r => exact execReconnectQuietExpiry_same t c r s
  | calibrationStart t c r => exact execCalibrationStart_same t c r s
  | calibrationDone t c => exact execCalibrationDone_same t c s
  | channelWarning t c kind => exact execChannelWarning_same t c kind s
  | warningHoldExpiry t c kind => exact execWarningHoldExpiry_same t c kind s
  | tchReading t c m1 m2 vref => exact execTchReading_same t c m1 m2 vref s
  | blankStuck t src => exact execBlankStuck_same t src s
  | blankSourceRestore t src => exact execBlankSourceRestore_same t src s
  | scanDue t c => exact execScanDue_same t c s
  | scanOverdue t c => exact execScanOverdue_same t c s
  | scanPauseStart t c => exact execScanPauseStart_same t c s
  | scanComplete t c => exact execScanComplete_same t c s
  | noiseBlock t c => exact execNoiseBlock_same t c s
  | baselineStore t => exact execBaselineStore_same t s
  | driftEvaluation t c => exact execDriftEvaluation_same t c s
  | kappaFit t c => exact execKappaFit_same t c s
  | residualPresence t c => exact execResidualPresence_same t c s
  | engineCheckpoint t e w => exact execEngineCheckpoint_same t e w s
  | engineFailure t e check => exact execEngineFailure_same t e check s
  | takeoverFirstDecision t h => exact execTakeoverFirstDecision_same t h s
  | proofTestDue t c => exact execProofTestDue_same t c s
  | proofTestStart t c => exact execProofTestStart_same t c s
  | proofTestEnd t c => exact execProofTestEnd_same t c s
  | proofTestRetry t c => exact execProofTestRetry_same t c s
  | proofTestOverdue t c => exact execProofTestOverdue_same t c s
  | ledgerStall t slot => exact execLedgerStall_same t slot s
  | ledgerScrub t slot copy r => exact execLedgerScrub_same t slot copy r s
  | checkpointDone t ok => exact execCheckpointDone_same t ok s
  | tumblerCompare t => exact execTumblerCompare_same t s
  | tumblerToleranceExpiry t => exact execTumblerToleranceExpiry_same t s
  | tumblerRederiveDone t => exact execTumblerRederiveDone_same t s
  | clearTimerExpiry t v sec => exact execClearTimerExpiry_same t v sec s
  | disturbedHoldExpiry t v sec cause => exact execDisturbedHoldExpiry_same t v sec cause s
  | bemfAlarm t v sec => exact execBemfAlarm_same t v sec s
  | tractionStage t n dclink w => exact execTractionStage_same t n dclink w s
  | tractionCommit t n w => exact execTractionCommit_same t n w s
  | tractionStale t n => exact execTractionStale_same t n s
  | kinExpiry t sec => exact execKinExpiry_same t sec s
  | skTimeRead t => exact execSkTimeRead_same t s
  | deadboltClear t w => exact execDeadboltClear_same t w s
  | mailboxSend t => exact execMailboxSend_same t s
  | mailboxCancel t => exact execMailboxCancel_same t s
  | mailboxResponse t => exact execMailboxResponse_same t s
  | registerWrite t off size w => exact execRegisterWrite_same t off size w s
  | hecSourcePending t src => exact execHecSourcePending_same t src s
  | hecAccept t core => exact execHecAccept_same t core s
  | hecFirstAccess t core => exact execHecFirstAccess_same t core s
  | hecEoi t core w => exact execHecEoi_same t core w s
  | hecPendClear t high w sets => exact execHecPendClear_same t high w sets s
  | hecTargetWrite t k w => exact execHecTargetWrite_same t k w s
  | hecVbaseWrite t core w => exact execHecVbaseWrite_same t core w s
  | clrCounts t => exact execClrCounts_same t s
  | coreReset t core => exact execCoreReset_same t core s
  | cvuCtrlWrite t u w => exact execCvuCtrlWrite_same t u w s
  | start t u => exact execStart_same t u s
  | finish t u => exact execFinish_same t u s
  | clrRej t u => exact execClrRej_same t u s
  | cvuData t u width w => exact execCvuData_same t u width w s
  | cvuValWrite t u w => exact execCvuValWrite_same t u w s
  | haspGateClose t port => exact execHaspGateClose_same t port s
  | haspSend t k => exact execHaspSend_same t k s
  | haspReceive t port f => exact execHaspReceive_same t port f s
  | connectionTimeout t k => exact execConnectionTimeout_same t k s
  | laneTimeout t k lane => exact execLaneTimeout_same t k lane s
  | mirrorGapTimeout t k => exact execMirrorGapTimeout_same t k s
  | attestTimeout t sec => exact execAttestTimeout_same t sec s
  | attestRetry t sec => exact execAttestRetry_same t sec s
  | attestHeldClear t sec => exact execAttestHeldClear_same t sec s
  | selfAttestation t sec => exact execSelfAttestation_same t sec s
  | pitchCommit t src => exact execPitchCommit_same t src s
  | pitchTime t => exact execPitchTime_same t s
  | strike t src => exact execStrike_same t src s
  | sweepRequest t src => exact execSweepRequest_same t src s
  | directClear t src => exact execDirectClear_same t src s
  | rereference t src => exact execRereference_same t src s
  | bemfRelease t src => exact execBemfRelease_same t src s
  | keySlotLoad t src => exact execKeySlotLoad_same t src s
  | noEntryRelease t src => exact execNoEntryRelease_same t src s
  | scanNow t src => exact execScanNow_same t src s
  | proofNow t src => exact execProofNow_same t src s
  | releaseOverride t src => exact execReleaseOverride_same t src s
  | sdpOpen t src => exact execSdpOpen_same t src s
  | sdpClose t src => exact execSdpClose_same t src s
  | sdpRead t src => exact execSdpRead_same t src s
  | sdpWrite t src => exact execSdpWrite_same t src s
  | readInit t src => exact execReadInit_same t src s
  | readSeg t src => exact execReadSeg_same t src s
  | writeInit t src => exact execWriteInit_same t src s
  | writeSeg t src => exact execWriteSeg_same t src s
  | xferAbort t src => exact execXferAbort_same t src s
  | txnBegin t src => exact execTxnBegin_same t src s
  | txnEnd t src w => exact execTxnEnd_same t src w s
  | txnDiscard t src => exact execTxnDiscard_same t src s
  | unknownOp t src => exact execUnknownOp_same t src s
  | challenge t src => exact execChallenge_same t src s
  | response t src => exact execResponse_same t src s
  | sessionLevel t src => exact execSessionLevel_same t src s
  | pendingCommit t src => exact execPendingCommit_same t src s
  | pendingDiscard t src => exact execPendingDiscard_same t src s
  | waitingCancel t src => exact execWaitingCancel_same t src s
  | rollback t src w => exact execRollback_same t src w s
  | rerun t src w => exact execRerun_same t src w s
  | recAdvance t src => exact execRecAdvance_same t src s
  | validationTimeout t => exact execValidationTimeout_same t s
  | sessionIdleTimeout t sess => exact execSessionIdleTimeout_same t sess s
  | transferTimeout t sess => exact execTransferTimeout_same t sess s
  | pendingTimeout t sess => exact execPendingTimeout_same t sess s
  | txnTimeout t => exact execTxnTimeout_same t s
  | raiseBarExpiry t sess => exact execRaiseBarExpiry_same t sess s
  | configWanted t => exact execConfigWanted_same t s
  | imageCheckDone t okA okB version => exact execImageCheckDone_same t okA okB version s
  | recorderEvent t ev => exact execRecorderEvent_same t ev s
  | recordWritten t rowFails row => exact execRecordWritten_same t rowFails row s
  | tokenRefill t cls => exact execTokenRefill_same t cls s
  | suppressionRunEnd t cls => exact execSuppressionRunEnd_same t cls s
  | linkUp t port capable requests => exact execLinkUp_same t port capable requests s
  | linkDown t port => exact execLinkDown_same t port s
  | frameReceive t port f => exact execFrameReceive_same t port f s
  | addressAgeout t => exact execAddressAgeout_same t s
  | nodeTableAgeout t => exact execNodeTableAgeout_same t s
  | prpTrailerEnable t => exact execPrpTrailerEnable_same t s
  | supervisionFrame t => exact execSupervisionFrame_same t s
  | announce t port a => exact execAnnounce_same t port a s
  | pdelayReq t port delay => exact execPdelayReq_same t port delay s
  | sync t port gmTime => exact execSync_same t port gmTime s
  | syncTimeout t => exact execSyncTimeout_same t s
  | holdoverExpiry t => exact execHoldoverExpiry_same t s
  | syncPpsEdge t => exact execSyncPpsEdge_same t s
  | syncPpsTimeout t => exact execSyncPpsTimeout_same t s
  | syncPpsOutput t => exact execSyncPpsOutput_same t s
  | tbClockLoss t => exact execTbClockLoss_same t s
  | sleepExecute t => exact execSleepExecute_same t s
  | wakeTimer t => exact execWakeTimer_same t s
  | wakeComplete t r => exact execWakeComplete_same t r s
  | hibernateHaspSend t k => exact execHibernateHaspSend_same t k s
  | isolationRequest t h durUs patterns => exact execIsolationRequest_same t h durUs patterns s
  | isolationReady t => exact execIsolationReady_same t s
  | testDone t patterns good => exact execTestDone_same t patterns good s
  | testDoneTimeout t => exact execTestDoneTimeout_same t s
  | isolationReturnDone t => exact execIsolationReturnDone_same t s
  | memoryScrub t v r => exact execMemoryScrub_same t v r s
  | comparatorTest t v ok => exact execComparatorTest_same t v ok s
  | tumblerTest t ok => exact execTumblerTest_same t ok s
  | deadboltPathTest t n ok => exact execDeadboltPathTest_same t n ok s
  | authKnownAnswer t ok => exact execAuthKnownAnswer_same t ok s
  | mramRefresh t mem row ok => exact execMramRefresh_same t mem row ok s
  | deFailure t d => exact execDeFailure_same t d s
  | crystalLoss t => exact execCrystalLoss_same t s
  | rcLoss t => exact execRcLoss_same t s
  | storeEccError t key => exact execStoreEccError_same t key s
  | dieOvertemp t => exact execDieOvertemp_same t s
  | blankingWindowEdge t src level => exact execBlankingWindowEdge_same t src level s
  | contactBounce t => exact execContactBounce_same t s
  | cutThroughStart t port f => exact execCutThroughStart_same t port f s
  | egressFrameEnd t port => exact execEgressFrameEnd_same t port s
  | syncPpsPulseEnd t => exact execSyncPpsPulseEnd_same t s

/-! ### PERMIT_RISE (R53) -/

variable {t : Time} {n : Fin 4} {s u : State}

theorem at_dropActive (t : Time) (n : Fin 4) (s : State) : (s.at t).dropActive n = s.dropActive n := rfl

/-- R53: the permit of a section goes high. -/
def State.permitRisen (s : State) (n : Fin 4) : State :=
  s.onPermit n fun p => { p with latch := true, qualAt := none, lowSince := none }

/-- R53: the permit may rise at time t: its qualification has run 8 µs and no input of the Deadbolt is active. -/
def State.mayRise (s : State) (n : Fin 4) (t : Time) : Prop :=
  ∃ a, s.keep.permits[n].qualAt = some a ∧ a + us 8 ≤ max s.clk.now t ∧ s.dropActive n = false

theorem exec_permitRise_of_mayRise (h : s.mayRise n t) : exec (.permitRise t n) s = .next ((s.at t).permitRisen n) := by
  obtain ⟨a, hqual, hrun, hdrop⟩ := h
  have hgo : (decide (a + us 8 ≤ (s.at t).clk.now) && !(s.at t).dropActive n) = true :=
    Bool.and_eq_true_iff.2 ⟨decide_eq_true hrun, by rw [at_dropActive, hdrop]; rfl⟩
  show execPermitRise t n s = _
  rw [execPermitRise]
  rw [show (s.at t).keep.permits[n].qualAt = some a from hqual]
  exact congrArg Host.Outcome.next (if_pos hgo)

theorem exec_permitRise_of_not_mayRise (h : ¬ s.mayRise n t) : exec (.permitRise t n) s = .next (s.at t) := by
  show execPermitRise t n s = _
  rw [execPermitRise]
  cases hqual : (s.at t).keep.permits[n].qualAt with
  | none => rfl
  | some a =>
    refine congrArg Host.Outcome.next (if_neg fun hgo => h ⟨a, hqual, ?_⟩)
    obtain ⟨hrun, hdrop⟩ := Bool.and_eq_true_iff.1 hgo
    exact ⟨of_decide_eq_true hrun, (Bool.not_eq_true' _).mp hdrop⟩

theorem permitRisen_latch_other {m : Fin 4} (hm : m ≠ n) : (s.permitRisen n).keep.permits[m] = s.keep.permits[m] :=
  updV_other _ _ hm

/-- PERMIT_RISE lets the time run, and where the permit may rise it rises. -/
theorem exec_permitRise (t : Time) (n : Fin 4) (s : State) : exec (.permitRise t n) s = .next (s.at t) ∨
    s.mayRise n t ∧ exec (.permitRise t n) s = .next ((s.at t).permitRisen n) := by
  by_cases h : s.mayRise n t
  · exact .inr ⟨h, exec_permitRise_of_mayRise h⟩
  · exact .inl (exec_permitRise_of_not_mayRise h)

/-- What `Keeps` names apart from the permits, kept by PERMIT_RISE as well. -/
theorem exec_keeps_but_permits (c : Instr) (s : State) : ∃ u, exec c s = .next u ∧ u.pending = s.pending ∧ u.part = s.part ∧
    s.clk.now ≤ u.clk.now ∧ s.freeCount ≤ u.freeCount ∧ (s.Inv → u.Inv) := by
  by_cases hc : ∃ a m, c = .permitRise a m
  · obtain ⟨t, n, rfl⟩ := hc
    obtain ⟨hpart, hpending, hnow, hfree, -, hinv⟩ := State.at_keeps t (Keeps.refl s)
    obtain h | ⟨-, h⟩ := exec_permitRise t n s
    · exact ⟨_, h, hpending, hpart, hnow, hfree, hinv⟩
    · exact ⟨_, h, hpending, hpart, hnow, hfree, hinv⟩
  · obtain ⟨u, hu, hpart, hpending, hnow, hfree, -, hinv⟩ := exec_keeps c s fun a m h => hc ⟨a, m, h⟩
    exact ⟨u, hu, hpending, hpart, hnow, hfree, hinv⟩

/-- Settles O5: a step idles or runs one command on the rest of the queue, and every command keeps the invariant. -/
theorem everyStepKeepsTheInvariant : Obligations.EveryStepKeepsTheInvariant := by
  unfold Obligations.EveryStepKeepsTheInvariant
  intro s u hinv hstep
  rw [step] at hstep
  split at hstep
  · obtain rfl := Host.Outcome.next.inj hstep
    exact hinv
  · next c rest _ =>
    obtain ⟨w, hw, -, -, -, -, hkeep⟩ := exec_keeps_but_permits c { s with pending := rest }
    obtain rfl := Host.Outcome.next.inj (hw.symm.trans hstep)
    exact hkeep hinv

/-- Settles O6: every other command raises no permit (`exec_keeps`); PERMIT_RISE raises its own, where it may rise. -/
theorem onlyPermitRiseRaisesAPermit : Obligations.OnlyPermitRiseRaisesAPermit := by
  unfold Obligations.OnlyPermitRiseRaisesAPermit
  intro c n s u hexec hlow hhigh
  by_cases hc : ∃ a m, c = .permitRise a m
  · obtain ⟨t, m, rfl⟩ := hc
    obtain h | ⟨hmay, h⟩ := exec_permitRise t m s
    · obtain rfl := Host.Outcome.next.inj (h.symm.trans hexec)
      exact absurd (hlow.symm.trans hhigh) Bool.false_ne_true
    · obtain rfl := Host.Outcome.next.inj (h.symm.trans hexec)
      obtain rfl : n = m := by
        by_contra hne
        rw [permitRisen_latch_other hne] at hhigh
        exact absurd (hlow.symm.trans hhigh) Bool.false_ne_true
      obtain ⟨a, hqual, hrun, hdrop⟩ := hmay
      have hvotes (hdeg : s.keep.degraded = false) := votes_of_votesRise hdeg (votesRise_of_dropActive hdrop)
      exact ⟨t, a, rfl, hqual, hrun, hdrop, fun hdeg => ⟨hvotes hdeg 0, hvotes hdeg 1⟩⟩
  · obtain ⟨w, hw, -, -, -, -, hrise, -⟩ := exec_keeps c s fun a m h => hc ⟨a, m, h⟩
    obtain rfl := Host.Outcome.next.inj (hw.symm.trans hexec)
    exact absurd (hlow.symm.trans (hrise n hhigh)) Bool.false_ne_true

/-- Settles O7: the areas that a command's meaning changes are those of its own list (`exec_same`). -/
theorem commandsKeepEveryOtherArea : Obligations.CommandsKeepEveryOtherArea := by
  unfold Obligations.CommandsKeepEveryOtherArea
  intro c s u hexec
  obtain ⟨w, hw, hsame⟩ := exec_same c s
  obtain rfl := Host.Outcome.next.inj (hw.symm.trans hexec)
  exact hsame.framed

/-- Settles O8: by `exec_keeps`, and for PERMIT_RISE because it moves the clock and its permit alone. -/
theorem everyCommandAnswersANextState : Obligations.EveryCommandAnswersANextState := by
  unfold Obligations.EveryCommandAnswersANextState
  intro c s
  obtain ⟨u, hu, hpending, hpart, hnow, hfree, -⟩ := exec_keeps_but_permits c s
  exact ⟨u, hu, hpending, hpart, hnow, hfree⟩

end Sys2Proof.Machine

/-! Commands on one element of a register group (O9): each leaves the other elements of its group as they were. -/

namespace Sys2Proof.Machine

/-! ### An effect under a condition -/

section
variable {s : State} {b : Bool} {f : State → State}

theorem when_of (h : b = true) : s.when b f = f s := if_pos h

theorem when_of_not (h : b = false) : s.when b f = s := if_neg (Bool.eq_false_iff.1 h)

theorem when_of_imp {P : State → Prop} (h : b = true → P (f s)) (hn : b = false → P s) : P (s.when b f) := by
  cases b with
  | true => exact h rfl
  | false => exact hn rfl

end

/-! ### Commands that complete -/

section
variable {c : Instr} {s x y : State} {b : Bool} {f : State → State} {P : State → Prop}

theorem Completes.of_when (h : exec c s = .next (x.when b f)) (hb : b = true) (hP : P (f x)) : Completes c s P :=
  ⟨_, h, (when_of hb).symm ▸ hP⟩

theorem Completes.of_when_not (h : exec c s = .next (x.when b f)) (hb : b = false) (hP : P x) : Completes c s P :=
  ⟨_, h, (when_of_not hb).symm ▸ hP⟩

theorem Completes.of_ite {p : Prop} [Decidable p] (h : exec c s = .next (if p then x else y)) (hp : p) (hP : P x) :
    Completes c s P :=
  ⟨_, h, (if_pos hp).symm ▸ hP⟩

theorem Completes.of_ite_not {p : Prop} [Decidable p] (h : exec c s = .next (if p then x else y)) (hp : ¬ p) (hP : P y) :
    Completes c s P :=
  ⟨_, h, (if_neg hp).symm ▸ hP⟩

theorem Completes.of_whenSome {α : Type} {o : Option α} {a : α} {g : State → α → State}
    (h : exec c s = .next (x.whenSome o g)) (ho : o = some a) (hP : P (g x a)) : Completes c s P := by
  subst ho
  exact ⟨_, h, hP⟩

end

/-- Areas that an operation leaves (`Same`), read off for one of them. -/
theorem Same.area {w : Nat} {s u : State} (h : Same w s u) (a : Area) (ha : w.testBit a.ctorIdx = false) : a.same s u :=
  h.out a ha

/-! ### Traction stages and check-value units -/

variable {s : State}

theorem onTraction_other {m n : Fin 4} (h : m ≠ n) (f : Traction → Traction) : (s.onTraction n f).trac[m] = s.trac[m] :=
  updV_other _ _ h

theorem tractionCommit_other {m n : Fin 4} (h : m ≠ n) (w : Word) : (s.tractionCommit n w).trac[m] = s.trac[m] := by
  have hrec (x : State) (b : Bool) (k : BitVec 16) (l : List Byte) : (x.when b fun s => s.record k 0 l).trac = x.trac :=
    when_view (fun x => x.trac) rfl
  rw [State.tractionCommit]
  dsimp only
  split
  · refine (congrArg (·[m]) (when_view (fun x => x.trac) ?_)).trans ?_
    · exact (State.wakeEvent_same (w := areaMask [.power]) 3 rfl .refl).area .traction rfl
    · rw [hrec, hrec]
      exact onTraction_other h _
  · exact onTraction_other h _

theorem tractionAged_other {m n : Fin 4} (h : m ≠ n) : (s.tractionAged n).trac[m] = s.trac[m] ∧
    (s.tractionAged n).nv.staleCount[m] = s.nv.staleCount[m] :=
  ⟨onTraction_other h _, updV_other _ _ h⟩

theorem at_nv_staleCount (t : Time) : (s.at t).nv.staleCount = s.nv.staleCount := by
  show (if _ then _ else _ : NonVolatile).staleCount = _
  split <;> rfl

theorem onCvu_other {j k : Fin 2} (h : j ≠ k) (f : Cvu → Cvu) : (s.onCvu k f).cvu[j] = s.cvu[j] :=
  updV_other _ _ h

theorem kinWrite_other {m n : Fin 4} (h : m ≠ n) (f : Kin → Kin) : (s.kinWrite n f).kin[m] = s.kin[m] := by
  rw [State.kinWrite]
  split
  · rfl
  · exact updV_other _ _ h

/-! ### Ports -/

theorem onPort_other {p q : Fin 4} (h : p ≠ q) (f : Port → Port) : (s.onPort q f).net.ports[p] = s.net.ports[p] :=
  updV_other _ _ h

theorem frameEnds_other {p q : Fin 4} (h : p ≠ q) : (s.frameEnds q).net.ports[p] = s.net.ports[p] := by
  rw [State.frameEnds]
  split
  · rfl
  · exact (onPort_other h _).trans (onPort_other h _)

theorem enqueue_other {p q : Fin 4} (h : p ≠ q) (x : TxFrame) : (s.enqueue q x).net.ports[p] = s.net.ports[p] := by
  rw [State.enqueue]
  dsimp only
  split_ifs
  · rfl
  · exact onPort_other h _
  · exact onPort_other h _
  · rfl

theorem signalOn_other {p q : Fin 4} (h : p ≠ q) : (s.signalOn q).net.ports[p] = s.net.ports[p] := by
  rw [State.signalOn, State.sendTime]
  split
  · rfl
  · exact enqueue_other h _

/-! ### Connections and sessions -/

theorem laneLost_other {j k : Fin 8} (h : j ≠ k) (lane : Fin 2) : (s.laneLost k lane).hasp.conns[j] = s.hasp.conns[j] :=
  updV_other _ _ h

theorem onSession_other {i j : Fin 5} (h : j ≠ i) (f : Session → Session) :
    (s.onSession i f).sdp.sessions[j] = s.sdp.sessions[j] :=
  updV_other _ _ h

@[simp] theorem loadStops_sessions (i : Fin 5) : (s.loadStops i).sdp.sessions = s.sdp.sessions :=
  (State.loadStops_same (w := areaMask [.images]) i rfl .refl).area .sessions rfl

@[simp] theorem txnGone_sessions (i : Fin 5) : (s.txnGone i).sdp.sessions = s.sdp.sessions :=
  (State.txnGone_same (w := areaMask [.txn]) i rfl .refl).area .sessions rfl

theorem closeSession_other {i j : Fin 5} (h : j ≠ i) : (s.closeSession i).sdp.sessions[j] = s.sdp.sessions[j] := by
  rw [State.closeSession, onSession_other h, txnGone_sessions, loadStops_sessions]

theorem xferGone_other {i j : Fin 5} (h : j ≠ i) : (s.xferGone i).sdp.sessions[j] = s.sdp.sessions[j] := by
  rw [State.xferGone]
  split
  · exact onSession_other h _
  · rw [onSession_other h, loadStops_sessions]

/-! ### Token buckets (R421) -/

theorem find?_insertBy_of_not {α : Type} {f : α → Nat} {p : α → Bool} {a : α} (ha : p a = false) (l : List α) :
    (insertBy f a l).find? p = l.find? p := by
  induction l with
  | nil => rw [insertBy, List.find?_cons_of_neg (by simp [ha])]
  | cons b l ih =>
    rw [insertBy]
    split
    · rw [List.find?_cons_of_neg (by simp [ha])]
    · rw [List.find?_cons, List.find?_cons, ih]

theorem find?_insertBy_of_only {α : Type} {f : α → Nat} {p : α → Bool} {a : α} {l : List α} (ha : p a = true)
    (hl : ∀ b ∈ l, p b = false) : (insertBy f a l).find? p = some a := by
  induction l with
  | nil => rw [insertBy, List.find?_cons_of_pos ha]
  | cons b l ih =>
    rw [insertBy]
    split
    · rw [List.find?_cons_of_pos ha]
    · rw [List.find?_cons_of_neg (by simp [hl b List.mem_cons_self])]
      exact ih fun x hx => hl x (List.mem_cons_of_mem _ hx)

theorem bucket_cls (i : Intake) (c : BitVec 8) : (i.bucket c).cls = c := by
  rw [Intake.bucket]
  cases h : i.buckets.find? fun b => b.cls == c with
  | none => rfl
  | some b => simpa using List.find?_some h

theorem refilled_cls (b : Bucket) (now : Time) : (b.refilled now).cls = b.cls := by
  rw [Bucket.refilled]
  dsimp only
  split
  · rfl
  · split_ifs <;> rfl

theorem setBucket_bucket_self {i : Intake} {b : Bucket} : (i.setBucket b).bucket b.cls = b := by
  rw [Intake.bucket, Intake.setBucket, find?_insertBy_of_only (by simp)]
  · rfl
  · intro x hx
    simpa using (List.mem_filter.1 hx).2

theorem setBucket_bucket_other {i : Intake} {b : Bucket} {d : BitVec 8} (h : d ≠ b.cls) :
    (i.setBucket b).bucket d = i.bucket d := by
  have hfind : (i.buckets.filter fun x => x.cls != b.cls).find? (fun x => x.cls == d) = i.buckets.find? fun x => x.cls == d := by
    rw [List.find?_filter]
    congr 1
    funext x
    by_cases hx : x.cls = d
    · simp [hx, h]
    · simp [hx]
  rw [Intake.bucket, Intake.setBucket, find?_insertBy_of_not (by simp [Ne.symm h]), hfind]
  rfl

/-- Settles O9: each command ends in one update of its own element, and what follows the update touches no element of the
group. -/
theorem commandsLeaveOtherElementsAlone : Obligations.CommandsLeaveOtherElementsAlone := by
  unfold Obligations.CommandsLeaveOtherElementsAlone
  refine ⟨?_, ?_, ?_, ?_, ?_, ?_, ?_, ?_, ?_, ?_, ?_, ?_, ?_, ?_, ?_, ?_, ?_, ?_, ?_, ?_, ?_⟩
  · exact fun t n d w s => ⟨_, rfl, fun m hm => onTraction_other hm _⟩
  · exact fun t n w s => ⟨_, rfl, fun m hm => tractionCommit_other hm w⟩
  · refine fun t n s => ⟨_, rfl, fun m hm => ?_⟩
    have hstale : (s.at t).nv.staleCount[m] = s.nv.staleCount[m] := congrArg (·[m]) (at_nv_staleCount t)
    exact when_of_imp (P := fun u => u.trac[m] = s.trac[m] ∧ u.nv.staleCount[m] = s.nv.staleCount[m])
      (fun _ => (tractionAged_other hm).imp_right (·.trans hstale)) fun _ => ⟨rfl, hstale⟩
  · exact fun t k w s => ⟨_, rfl, fun j hj => onCvu_other hj _⟩
  · exact fun t k s => ⟨_, rfl, fun j hj => onCvu_other hj _⟩
  · exact fun t k s => ⟨_, rfl, fun j hj => onCvu_other hj _⟩
  · exact fun t k s => ⟨_, rfl, fun j hj => onCvu_other hj _⟩
  · exact fun t k n w s => ⟨_, rfl, fun j hj => onCvu_other hj _⟩
  · exact fun t k w s => ⟨_, rfl, fun j hj => onCvu_other hj _⟩
  · exact fun t n s => ⟨_, rfl, fun m hm => when_view (fun x => x.kin[m]) (kinWrite_other hm _)⟩
  · exact fun t port s => ⟨_, rfl, fun p hp => frameEnds_other hp⟩
  · exact fun t port s => ⟨_, rfl, fun p hp => when_view (fun x => x.net.ports[p]) (onPort_other hp _)⟩
  · refine fun t port c r s => ⟨_, rfl, fun p hp => when_view (fun x => x.net.ports[p]) ?_⟩
    split
    · rfl
    · exact (signalOn_other hp).trans (onPort_other hp _)
  · exact fun t k l s => ⟨_, rfl, fun j hj => when_view (fun x => x.hasp.conns[j]) (laneLost_other hj l)⟩
  · exact fun t i s => ⟨_, rfl, fun j hj => when_view (fun x => x.sdp.sessions[j]) (closeSession_other hj)⟩
  · refine fun t i s => ⟨_, rfl, fun j hj => ?_⟩
    split
    · exact when_view (fun x => x.sdp.sessions[j]) (xferGone_other hj)
    · rfl
  · exact fun t i s => ⟨_, rfl, fun j hj => when_view (fun x => x.sdp.sessions[j]) (onSession_other hj _)⟩
  · refine fun t i s => ⟨_, rfl, fun j hj => ?_⟩
    split
    · exact when_view (fun x => x.sdp.sessions[j]) (onSession_other hj _)
    · rfl
  · refine fun t c s => ⟨_, rfl, fun d hd => setBucket_bucket_other ?_⟩
    rwa [refilled_cls, bucket_cls]
  · refine fun t n s => ⟨_, rfl, fun m hm => ?_⟩
    split
    · exact ⟨rfl, rfl⟩
    · exact ⟨updV_other _ _ hm, updV_other _ _ hm⟩
  · intro t n s
    obtain h | ⟨-, h⟩ := exec_permitRise t n s
    · exact ⟨_, h, fun _ _ => rfl⟩
    · exact ⟨_, h, fun m hm => permitRisen_latch_other hm⟩

end Sys2Proof.Machine

/-! Supply, release and removal (O21 to O23): power good, start-up and the trial start, the removal sequence, the resets and the
events of the feeds. -/

namespace Sys2Proof.Machine

/-! ### One area that an operation leaves -/

/-- Every area but one. -/
def maskBut (a : Area) : Nat := (1 <<< 80 - 1) ^^^ (1 <<< a.ctorIdx)

/-- What an operation that may change every other area leaves of this one. -/
theorem Same.only {a : Area} {s u : State} (h : Same (maskBut a) s u) : a.same s u :=
  h.out a (by cases a <;> rfl)

/-! ### Release (R272, R450, R452) -/

variable {s : State}

/-- R450, R452: what a release begins with: the reset values, the clock of the time base and the pins as they then are. -/
def State.releaseBase (s : State) : State :=
  let s1 := s.afterReset .booting
  { s1 with
    clk := { s1.clk with tbOff := -(s1.clk.now : Int) }
    pins := { s1.pins with vcoreLost := false, vaonLost := false, releaseAt := s1.clk.now }
    nv := s1.nv.released s1.pins.vcoreLost s1.pins.vaonLost }

theorem release_eq (s : State) : s.release =
    ((s.releaseBase.configRead (positionOf s.pins.slotA s.pins.slotB)).pitchLost).tailDiscarded.amonRefresh := rfl

/-- After its base a release reads the configuration, loses a pitch and discards a cut record. -/
theorem release_same (s : State) :
    Same (areaMask [.pitch, .recMem, .amon, .work, .dictRest, .ports, .switch, .offered, .intake]) s.releaseBase s.release :=
  State.amonRefresh_same rfl (State.tailDiscarded_same rfl (State.pitchLost_same rfl (State.configRead_same _ rfl .refl)))

theorem release_phase (s : State) : s.release.phase = .booting := (release_same s).area .phase rfl

/-- R272: the time base counts from the release. -/
theorem release_tbNow (s : State) : s.release.tbNow = 0 := by
  have hclk : s.release.clk = s.releaseBase.clk := (release_same s).area .clk rfl
  simp [State.tbNow, hclk, State.releaseBase, State.afterReset]

theorem release_permits (s : State) : s.release.keep.permits = State.reset.keep.permits := (release_same s).area .permits rfl

theorem reset_latch (n : Fin 4) : State.reset.keep.permits[n].latch = false :=
  congrArg Permit.latch (Vector.getElem_replicate ..)

theorem release_shadow (s : State) : s.release.keep.shadow = State.reset.keep.shadow :=
  congrArg (fun x => x.2.2) ((release_same s).area .words rfl)

theorem release_cfg (s : State) : s.release.nv.cfg = s.nv.cfg := (release_same s).area .stored rfl

theorem release_images (s : State) : s.release.nv.images = s.nv.images.stopped.started := (release_same s).area .images rfl

/-- R321: the slot readings of the release are kept. -/
theorem release_slots (s : State) : s.release.pins.slotA = s.pins.slotA ∧ s.release.pins.slotB = s.pins.slotB := by
  have hpins : s.release.pins = s.releaseBase.pins := (release_same s).area .pins rfl
  exact ⟨by rw [hpins]; rfl, by rw [hpins]; rfl⟩

theorem emcy_position (ev : RecEvent) : (s.emcy ev).sdp.position = s.sdp.position := by
  have hsend (x : State) (m : Mac) (g : Option Tag) (p : List Byte) : (x.sendSdp m g p).sdp.position = x.sdp.position := by
    have h := (State.sendSdp_same (w := maskBut .dictRest) m g p rfl (.refl (s := x))).only
    simp only [Area.same, Prod.mk.injEq] at h
    exact h.2.2.2.1
  rw [State.emcy]
  split
  · rfl
  · exact each_view (fun x => x.sdp.position) fun x m => hsend x m _ _

theorem recOwn_position (code : BitVec 16) (e : Bool) (p : List Byte) :
    (s.recOwn code e p).sdp.position = s.sdp.position := by
  have henter (ev : RecEvent) : (s.recEnter ev).sdp.position = s.sdp.position := by
    have h := (State.recEnter_same (w := maskBut .dictRest) ev rfl (.refl (s := s))).only
    simp only [Area.same, Prod.mk.injEq] at h
    exact h.2.2.2.1
  exact (when_view (fun x => x.sdp.position) (emcy_position _)).trans (henter _)

/-- R321: PositionNow is what the slot readings give. -/
theorem release_position (s : State) : s.release.sdp.position = positionOf s.pins.slotA s.pins.slotB := by
  have hlost (x : State) : x.pitchLost.sdp = x.sdp := when_view (fun x => x.sdp) rfl
  have htail (x : State) : x.tailDiscarded.sdp.position = x.sdp.position := by
    rw [State.tailDiscarded]
    split
    · exact recOwn_position ..
    · rfl
  rw [release_eq]
  exact (htail _).trans (congrArg Sdp.position (hlost _))

/-! ### Start-up (R450, R461) -/

theorem intoService_phase (r : BootReport) : (s.intoService r).phase = .service :=
  (State.amonRefresh_same (w := maskBut .phase) rfl (State.eachFin_same
    (State.degradedWords_same rfl (State.judgeSections_same rfl .refl)) fun _ b h => State.blankJudge_same b rfl h)).only

theorem intoService_images (r : BootReport) : (s.intoService r).nv.images = s.nv.images :=
  (State.intoService_same (w := maskBut .images) r rfl .refl).only

theorem trialPassed_trial (m : Images) : m.trialPassed.trial = false := by
  rw [Images.trialPassed]
  split
  · rfl
  · next h => exact Bool.eq_false_iff.2 h

/-- R461: a start-up that makes no trial start, or a good one, comes into service. -/
theorem exec_supervisorsInService {t : Time} {r : BootReport} (hphase : s.phase = .booting)
    (hgood : s.nv.images.trial = false ∨ (s.at t).bootFails r = false ∧ max s.clk.now t ≤ s.pins.releaseAt + ms 100) :
    exec (.supervisorsInService t r) s =
      .next ({ s.at t with nv := { (s.at t).nv with images := (s.at t).nv.images.trialPassed } }.intoService r) := by
  have hno : ((s.at t).nv.images.trial && ((s.at t).bootFails r || (s.at t).trialLate)) = false := by
    rw [at_nv_images]
    obtain htrial | ⟨hboot, hlate⟩ := hgood
    · rw [htrial, Bool.false_and]
    · have hintime : (s.at t).trialLate = false := by
        rw [State.trialLate, decide_eq_false_iff_not, Nat.not_lt]
        exact hlate
      rw [hboot, hintime, Bool.or_false, Bool.and_false]
  show execSupervisorsInService t r s = _
  rw [execSupervisorsInService]
  refine congrArg Host.Outcome.next ((when_of (beq_iff_eq.2 hphase)).trans (if_neg (Bool.eq_false_iff.1 hno)))

theorem exec_trialStartFailure {t : Time} (hphase : s.phase = .booting) (htrial : s.nv.images.trial = true) :
    exec (.trialStartFailure t) s = .next (s.at t).revert := by
  show execTrialStartFailure t s = _
  rw [execTrialStartFailure]
  refine congrArg Host.Outcome.next (when_of ?_)
  rw [at_phase, hphase, at_nv_images, htrial]
  rfl

/-- R461: the start-up after a failed trial start runs from the other bank. -/
theorem revert_images : s.revert.nv.images =
    { s.nv.images with active := 1 - s.nv.images.active, switchTo := 1 - s.nv.images.active, state := 4, trial := false } := by
  rw [State.revert, record_nv, release_images]
  rfl

theorem at_now (s : State) (t : Time) : (s.at t).clk.now = max s.clk.now t := rfl

theorem at_contactsSettled (t : Time) :
    (s.at t).contactsSettled = s.pins.highAt.all fun a => decide (a + ms 10 ≤ max s.clk.now t) := by
  rw [State.contactsSettled, at_pins, at_now]
  split
  · next h => rw [h, Option.all_some]
  · next h => rw [h, Option.all_none]

/-- R449: sooner than 10 ms after PRESENT_N was high only the clock moves. -/
theorem completes_powerGood_unsettled {t : Time} (h : s.pins.highAt.any (fun a => decide (max s.clk.now t < a + ms 10)) = true) :
    Completes (.powerGood t) s fun u => u = s.at t := by
  have hunsettled : (s.at t).contactsSettled = false := by
    rw [at_contactsSettled]
    cases hhigh : s.pins.highAt with
    | none => simp [hhigh] at h
    | some a =>
      rw [hhigh, Option.any_some, decide_eq_true_eq] at h
      rw [Option.all_some, decide_eq_false_iff_not, Nat.not_le]
      exact h
  exact .of_when_not rfl (by rw [hunsettled, Bool.and_false]) rfl

theorem completes_powerGood {t : Time} (hphase : s.phase = .held ∨ s.phase = .removed)
    (h : s.pins.highAt.all (fun a => decide (a + ms 10 ≤ max s.clk.now t)) = true) :
    Completes (.powerGood t) s fun u =>
      u.phase = .good ∧ u.pins.presentHigh = false ∧ u.pins.auxLow = false ∧ u.pins.railsBad = [] := by
  have hgo : ((s.at t).phase == .held || (s.at t).phase == .removed) = true := by
    rw [at_phase]
    obtain h | h := hphase <;> rw [h] <;> rfl
  exact .of_when rfl (by rw [hgo, at_contactsSettled, h]; rfl) ⟨rfl, rfl, rfl, rfl⟩

theorem completes_resetRelease {t : Time} {a b : BitVec 12} (hphase : s.phase = .good) :
    Completes (.resetRelease t a b) s fun u =>
      u.phase = .booting ∧ u.tbNow = 0 ∧ (∀ n : Fin 4, u.keep.permits[n].latch = false ∧ u.keep.shadow[n] = 0x0000000D) ∧
      u.pins.slotA = a ∧ u.pins.slotB = b ∧ u.sdp.position = positionOf a b ∧ u.nv.cfg = s.nv.cfg := by
  refine .of_when rfl (beq_iff_eq.2 hphase) ⟨release_phase _, release_tbNow _, fun n => ?_, (release_slots _).1,
    (release_slots _).2, release_position _, (release_cfg _).trans (at_nv_cfg s t)⟩
  rw [release_permits, release_shadow]
  exact ⟨reset_latch n, reset_shadow n⟩

/-- Settles O21: each command of the supply, where its conditions hold, leads to the state that its clause names. -/
theorem supplyStartsAndReleasesThePart : Obligations.SupplyStartsAndReleasesThePart := by
  unfold Obligations.SupplyStartsAndReleasesThePart
  refine ⟨fun t s => completes_powerGood_unsettled, fun t s => completes_powerGood,
    fun t a b s => completes_resetRelease, ?_, ?_⟩
  · intro t r s hphase hgood
    refine ⟨_, exec_supervisorsInService hphase hgood, intoService_phase r, ?_⟩
    rw [intoService_images]
    exact trialPassed_trial _
  · intro t s hphase htrial
    refine ⟨_, exec_trialStartFailure hphase htrial, release_phase _, ?_⟩
    rw [revert_images, at_nv_images]
    exact ⟨rfl, rfl, rfl⟩

/-! ### The removal sequence and the resets (R452, R453, R456 to R458) -/

/-- R456, R457: what the removal sequence of a cause leaves. -/
abbrev State.removedFor (u : State) (p : Phase) (cause : Nat) : Prop :=
  u.phase = p ∧ u.pins.farewellCause = cause ∧ (∀ n : Fin 4, u.keep.permits[n].latch = false) ∧
    u.sdp.sessions = State.reset.sdp.sessions ∧ u.sdp.txn = none ∧ u.sdp.waiting = [] ∧
    u.nv.opsecSaved = u.nv.opsecNs / 1000000000

theorem removal_removedFor (cause journal : Nat) : (s.removal cause journal).removedFor .removed cause := by
  refine ⟨rfl, rfl, fun n => ?_, rfl, rfl, rfl, rfl⟩
  rw [State.removal, State.removedBy]
  simp

theorem mayRemove_of_released (h : s.phase = .booting ∨ s.phase = .service) : s.mayRemove = true := by
  rw [State.mayRemove]
  obtain h | h := h <;> rw [h] <;> rfl

theorem afterReset_volatileAs (s : State) (p : Phase) : (s.afterReset p).volatileAs State.reset :=
  ⟨rfl, rfl, rfl, rfl, rfl, rfl, rfl, rfl, rfl, rfl, rfl, rfl, rfl, rfl, rfl, rfl, rfl, rfl, rfl⟩

/-- R458: what a rail out of range cuts short before the reset: the checkpoint, the retained journal, the retention of VAON. -/
def State.cutForRail (s : State) (rail : Rail) : State :=
  (s.cutCkpt.when (rail == Rail.vaon) fun s => { s with nv := { s.nv with mem := { s.nv.mem with latch := [] } } }).journalStop 2

theorem cutForRail_pins (rail : Rail) : (s.cutForRail rail).pins = s.pins :=
  (State.journalStop_same (w := maskBut .pins) 2 rfl .refl).only.trans
    ((when_view State.pins rfl).trans (State.cutCkpt_same (w := maskBut .pins) rfl .refl).only)

theorem cutForRail_cfg (rail : Rail) : (s.cutForRail rail).nv.cfg = s.nv.cfg :=
  (State.journalStop_same (w := maskBut .stored) 2 rfl .refl).only.trans
    ((when_view (fun x => x.nv.cfg) rfl).trans (State.cutCkpt_same (w := maskBut .stored) rfl .refl).only)

/-- Settles O22: each of these ends in the removal sequence or in the reset values, and what it leaves follows from those. -/
theorem supplyWarningsEndService : Obligations.SupplyWarningsEndService := by
  unfold Obligations.SupplyWarningsEndService
  refine ⟨?_, ?_, ?_, ?_, ?_⟩
  · intro t s hphase
    exact .of_ite rfl (mayRemove_of_released hphase) (removal_removedFor 1 1)
  · intro t s hphase
    exact .of_ite rfl (mayRemove_of_released hphase) (removal_removedFor 2 2)
  · intro t s hphase
    obtain ⟨-, hrest⟩ := removal_removedFor (s := s.at t) 1 3
    exact .of_ite rfl (mayRemove_of_released (s := s.at t) hphase) ⟨rfl, hrest⟩
  · intro t s hphase
    refine ⟨_, rfl, ?_, afterReset_volatileAs _ _, ?_⟩
    · rw [at_phase, hphase]
      rfl
    · have hcut := (State.journalStop_same (w := maskBut .stored) 3 rfl (State.cutCkpt_same rfl (.refl (s := s.at t)))).only
      exact Eq.trans hcut (at_nv_cfg s t)
  · intro t rail s
    refine ⟨_, rfl, rfl, ?_, afterReset_volatileAs _ _, ?_⟩
    · refine Eq.mpr (congrArg (rail ∈ Pins.railsBad ·) (cutForRail_pins ..)) ?_
      dsimp only
      split
      · next h => exact List.contains_iff_mem.1 h
      · exact List.mem_append_right _ List.mem_cons_self
    · exact (cutForRail_cfg ..).trans (at_nv_cfg s t)

/-! ### Feeds, operating time and contacts (R417, R449, R467) -/

/-- R467: an event of a feed of a part out of reset goes to the recorder. -/
theorem feedEvent_offered {f : Fin 2} {kind : Nat} (h : s.released = true) :
    ∃ e ∈ (s.feedEvent f kind).intake.offered, e.code = codeFeed ∧ e.payload = [BitVec.ofNat 8 f.val, BitVec.ofNat 8 kind] := by
  rw [State.feedEvent, when_of h, record_intake]
  exact ⟨_, List.mem_append_right _ List.mem_cons_self, rfl, rfl⟩

theorem feedEvent_pins (f : Fin 2) (kind : Nat) : (s.feedEvent f kind).pins = s.pins :=
  (State.feedEvent_same (w := maskBut .pins) f kind rfl .refl).only

theorem feedsLost_pins : s.feedsLost.pins = s.pins := (State.feedsLost_same (w := maskBut .pins) rfl .refl).only

theorem mem_offered_feedsLost {e : RecEvent} (h : e ∈ s.intake.offered) : e ∈ s.feedsLost.intake.offered :=
  when_of_imp (P := fun u => e ∈ u.intake.offered) (fun _ => List.mem_append_left _ h) fun _ => h

theorem feedSet_connected (f : Fin 2) (on : Bool) : (s.feedSet f on).pins.feeds[f].connected = on :=
  congrArg Feed.connected (updV_self ..)

theorem at_nv_opsecNs (h : s.released = true) (t : Time) : (s.at t).nv.opsecNs = s.nv.opsecNs + (t - s.clk.now) := by
  show (if s.released = true then _ else _ : NonVolatile).opsecNs = _
  rw [if_pos h]
  rfl

/-- Settles O23: each feed event, save and bounce, by the branch its conditions take. -/
theorem supplyEventsAreKept : Obligations.SupplyEventsAreKept := by
  unfold Obligations.SupplyEventsAreKept
  refine ⟨?_, ?_, ?_, ?_, ?_⟩
  · intro t f s hconn hrel
    refine .of_when rfl hconn ⟨?_, ?_⟩
    · rw [feedsLost_pins, feedEvent_pins, feedSet_connected]
    · obtain ⟨e, he, hcode, hpayload⟩ := feedEvent_offered (s := (s.at t).feedSet f false) (f := f) (kind := 0) hrel
      exact ⟨e, mem_offered_feedsLost he, hcode, hpayload⟩
  · intro t f s hconn hrel
    refine .of_when rfl (by rw [at_pins, hconn]; rfl) ⟨?_, feedEvent_offered (s := (s.at t).feedSet f true) hrel⟩
    rw [feedEvent_pins, feedSet_connected]
  · exact fun t f s hconn hrel => .of_when rfl hconn (feedEvent_offered (s := s.at t) hrel)
  · intro t s hrel hdue
    refine .of_when rfl (Bool.and_eq_true_iff.2 ⟨hrel, decide_eq_true ?_⟩) rfl
    rw [at_nv_opsecSaved, at_nv_opsecNs hrel]
    exact hdue.trans (Nat.le_add_right ..)
  · exact fun t s hrel => .of_when rfl hrel rfl


end Sys2Proof.Machine

/-! Evaluation steps (O24, O25): after a step the merged states are the merge of the proposals, and the votes of the supervisor
that stepped are those that its proposals call for. -/

namespace Sys2Proof.Machine

variable {s u : State} {v : Fin 2}

theorem le_at_now {a t : Time} (h : a ≤ t) : a ≤ (s.at t).clk.now := h.trans (le_max_right _ _)

/-! ### What a vote reads (R275) -/

/-- The votes of a supervisor, and of its proposals what votes read. -/
def Sv.voteView (x : Sv) : Vector Vote 4 × Vector (SecState × Bool) 4 := (x.votes, x.props.map fun p => (p.state, p.dirValid))

/-- The votes and what they are cast by: proposals, the freshness of the traction status, HIBERNATE and the part's sections. -/
def State.voteView (s : State) : Vector (Vector Vote 4 × Vector (SecState × Bool) 4) 2 × Vector Bool 4 × Bool × Variant :=
  (s.sv.map Sv.voteView, s.trac.map Traction.fresh, s.pwr.state == .hibernate, s.part.variant)

section
variable (h : u.voteView = s.voteView)
include h

theorem sv_of_voteView (v : Fin 2) : u.sv[v].voteView = s.sv[v].voteView := by
  have hv := congrArg (fun x => x.1[v]) h
  simpa only [State.voteView, Fin.getElem_fin, Vector.getElem_map] using hv

theorem votes_of_voteView (v : Fin 2) : u.sv[v].votes = s.sv[v].votes := congrArg Prod.fst (sv_of_voteView h v)

theorem prop_of_voteView (v : Fin 2) (n : Fin 4) : u.sv[v].props[n].state = s.sv[v].props[n].state ∧
    u.sv[v].props[n].dirValid = s.sv[v].props[n].dirValid := by
  have hn := congrArg (fun x => x.2[n]) (sv_of_voteView h v)
  simpa only [Sv.voteView, Fin.getElem_fin, Vector.getElem_map, Prod.mk.injEq] using hn

theorem fresh_of_voteView (n : Fin 4) : u.trac[n].fresh = s.trac[n].fresh := by
  have hn := congrArg (fun x => x.2.1[n]) h
  simpa only [State.voteView, Fin.getElem_fin, Vector.getElem_map] using hn

theorem vote_of_voteView (v : Fin 2) (n : Fin 4) : u.vote v n = s.vote v n := by
  obtain ⟨hstate, hdir⟩ := prop_of_voteView h v n
  have hhib : u.pwr.state = .hibernate ↔ s.pwr.state = .hibernate := by
    have hb : (u.pwr.state == .hibernate) = (s.pwr.state == .hibernate) := congrArg (fun x => x.2.2.1) h
    rw [← beq_iff_eq (a := u.pwr.state), hb, beq_iff_eq]
  have hgates : u.gates n = s.gates n := by
    have hvar : u.part.variant = s.part.variant := congrArg (fun x => x.2.2.2) h
    rw [State.gates, State.gates, hvar]
  simp only [State.vote, hstate, hdir, fresh_of_voteView h n, hhib, hgates]

theorem voted_of_voteView (hs : s.voted v) : u.voted v := fun n => by
  rw [vote_of_voteView h, votes_of_voteView h, hs n]

end

theorem Sv.voteView_congr {x y : Sv} (hvotes : x.votes = y.votes) (hprops : x.props = y.props) : x.voteView = y.voteView := by
  rw [Sv.voteView, Sv.voteView, hvotes, hprops]

theorem voteView_of_areas (hsv : u.sv = s.sv) (htrac : u.trac = s.trac) (hpwr : u.pwr = s.pwr) (hpart : u.part = s.part) :
    u.voteView = s.voteView := by
  rw [State.voteView, State.voteView, hsv, htrac, hpwr, hpart]

theorem voteView_of_same {w : Nat} (h : Same w s u) (hsv : w.testBit Area.supervisors.ctorIdx = false)
    (htrac : w.testBit Area.traction.ctorIdx = false) (hpwr : w.testBit Area.power.ctorIdx = false)
    (hpart : w.testBit Area.part.ctorIdx = false) : u.voteView = s.voteView :=
  voteView_of_areas (h.out .supervisors hsv) (h.out .traction htrac) (h.out .power hpwr) (h.out .part hpart)

theorem onSv_voteView (w : Fin 2) {f : Sv → Sv} (hf : ∀ x, (f x).voteView = x.voteView) :
    (s.onSv w f).voteView = s.voteView := by
  have hsv : (s.onSv w f).sv.map Sv.voteView = s.sv.map Sv.voteView := by
    rw [onSv_sv, updV]
    ext1 i hi
    simp only [Vector.getElem_map, Vector.getElem_set]
    split
    · next h => subst h; rw [hf]; rfl
    · rfl
  rw [State.voteView, hsv]
  rfl

theorem onTraction_voteView (n : Fin 4) {f : Traction → Traction} (hf : ∀ x, (f x).fresh = x.fresh) :
    (s.onTraction n f).voteView = s.voteView := by
  have htrac : (s.onTraction n f).trac.map Traction.fresh = s.trac.map Traction.fresh := by
    rw [onTraction_trac, updV]
    ext i hi : 1
    simp only [Vector.getElem_map, Vector.getElem_set]
    split
    · next h => subst h; rw [hf]; rfl
    · rfl
  rw [State.voteView, htrac]
  rfl

/-! ### What follows the votes in a step -/

theorem record_voteView (code : BitVec 16) (src : BitVec 2) (p : List Byte) (e : Bool) :
    (s.record code src p e).voteView = s.voteView := rfl

theorem pulse_voteView (n : Nat) : (s.pulse n).voteView = s.voteView := rfl

theorem onNvHead_voteView (h : Fin 8) (f : NvHead → NvHead) : (s.onNvHead h f).voteView = s.voteView := rfl

theorem withKeep_voteView (k : Keeper) : ({ s with keep := k } : State).voteView = s.voteView := rfl

theorem horizons_voteView : (s.horizons v).voteView = s.voteView := by
  unfold State.horizons
  extract_lets
  exact onSv_voteView v fun _ => Sv.voteView_congr rfl rfl

theorem proposeBits_voteView : (s.proposeBits v).voteView = s.voteView := by
  refine onSv_voteView v fun x => ?_
  rw [Sv.voteView, Sv.voteView]
  congr 1
  ext1 i hi
  simp only [Vector.getElem_map, Vector.getElem_ofFn]
  rfl

theorem brakeStep_voteView (n : Fin 4) : (s.brakeStep n).voteView = s.voteView := by
  rw [State.brakeStep]
  refine (each_view State.voteView ?_).trans (onTraction_voteView n ?_)
  · exact fun _ _ => rfl
  · exact fun _ => rfl

theorem rebaseHead_voteView (h : Fin 8) (intoPos : Bool) (required : Int) (tR : Time) :
    (s.rebaseHead h intoPos required tR).voteView = s.voteView := by
  unfold State.rebaseHead
  extract_lets d d0 s1
  have h1 : s1.voteView = s.voteView := each_view State.voteView fun x w => onSv_voteView w fun _ => Sv.voteView_congr rfl rfl
  rw [record_voteView, onNvHead_voteView,
    voteView_of_same (w := areaMask [.cumValid]) (State.setCumValid_same h true rfl (.refl (s := s1))) rfl rfl rfl rfl, h1]

theorem sweepRebase_voteView (n : Fin 4) : (s.sweepRebase n).voteView = s.voteView := by
  rw [State.sweepRebase]
  split
  · rfl
  · refine each_view State.voteView fun x m => ?_
    split
    · rw [State.rebaseOuter]
      split
      · exact rebaseHead_voteView ..
      · rfl
    · rfl

theorem mergedEntry_voteView (n : Fin 4) (st old : SecState) : (s.mergedEntry n st old).voteView = s.voteView := by
  unfold State.mergedEntry
  extract_lets p s1 s2 s3 s4
  have h3 : s3.voteView = s.voteView := when_view State.voteView rfl
  have hbar : (s3.when (st == .clear) fun s => s.setBarred n false).voteView = s.voteView :=
    (when_view State.voteView (voteView_of_same (w := areaMask [.keeperRest]) (State.setBarred_same n false rfl .refl)
      rfl rfl rfl rfl)).trans h3
  have h4 : s4.voteView = s.voteView := (when_view State.voteView (voteView_of_areas rfl rfl rfl rfl)).trans hbar
  exact (when_view State.voteView (sweepRebase_voteView n)).trans h4

theorem publishWord_voteView (n : Fin 4) (w : Word) : (s.publishWord n w).voteView = s.voteView :=
  voteView_of_same (w := areaMask [.words]) (State.publishWord_same n w rfl .refl) rfl rfl rfl rfl

theorem kinProvisional_voteView (n : Fin 4) : (s.kinProvisional n).voteView = s.voteView :=
  voteView_of_same (w := areaMask [.kin, .pulses, .freeCount]) (State.kinProvisional_same n rfl .refl) rfl rfl rfl rfl

theorem kinMerged_voteView (n : Fin 4) (b : Bool) : (s.kinMerged n b).voteView = s.voteView :=
  voteView_of_same (w := areaMask [.kin, .pulses]) (State.kinMerged_same n b rfl .refl) rfl rfl rfl rfl

theorem mergeSec_voteView (n : Fin 4) : (s.mergeSec n).voteView = s.voteView := by
  unfold State.mergeSec
  extract_lets old new s1 s2 s3 s4 s5
  split
  · rfl
  · have h2 : s2.voteView = s1.voteView := when_view State.voteView (mergedEntry_voteView ..)
    have h3 : s3.voteView = s2.voteView := when_view State.voteView ((pulse_voteView _).trans (record_voteView ..))
    have h4 : s4.voteView = s3.voteView := when_view State.voteView (publishWord_voteView ..)
    have h5 : s5.voteView = s4.voteView := when_view State.voteView (kinProvisional_voteView ..)
    rw [kinMerged_voteView, h5, h4, h3, h2]
    exact voteView_of_areas rfl rfl rfl rfl

theorem afterMerge_voteView : s.attestEntries.checkpointDue.requalify.voteView = s.voteView :=
  voteView_of_same (w := areaMask [.ledger, .ckptRun, .pulses, .permits]) (State.requalify_same rfl
    (State.checkpointDue_same rfl (State.attestEntries_same rfl .refl))) rfl rfl rfl rfl

theorem publish_voteView : s.publish.voteView = s.voteView := by
  unfold State.publish
  extract_lets s1 s2
  rw [afterMerge_voteView]
  exact (each_view State.voteView fun _ n => mergeSec_voteView n).trans (each_view State.voteView fun _ n => brakeStep_voteView n)

theorem wakeEvent_voteView (n : Nat) : (s.wakeEvent n).voteView = s.voteView := by
  rw [State.wakeEvent]
  split
  · exact when_view State.voteView rfl
  · split <;> rfl

theorem powerChange_voteView {x : PState} (hs : s.pwr.state ≠ .hibernate) (hx : x ≠ .hibernate) :
    (s.powerChange x).voteView = s.voteView := by
  rw [State.powerChange]
  split
  · rfl
  · show (_, _, x == .hibernate, _) = (_, _, s.pwr.state == .hibernate, _)
    rw [beq_eq_false_iff_ne.2 hx, beq_eq_false_iff_ne.2 hs]
    rfl

theorem managePower_voteView : s.managePower.voteView = s.voteView := by
  unfold State.managePower
  extract_lets w shallow
  have hshallow (x : State) : (shallow x).voteView = x.voteView := by
    show (ite _ _ _ : State).voteView = _
    split
    · split
      · next h => exact powerChange_voteView (by rw [h]; decide) (by decide)
      · exact wakeEvent_voteView 2
      · rfl
    · rfl
  split
  · refine (hshallow _).trans ?_
    split
    · exact wakeEvent_voteView 2
    · rfl
  · split
    · rfl
    · exact hshallow s

/-! ### The votes -/

theorem updV_of_eq {α : Type} {n : Nat} {x : Vector α n} {i : Fin n} {f : α → α} (h : f x[i] = x[i]) : updV x i f = x := by
  rw [updV, h]
  exact Vector.set_getElem_self _

theorem onSv_of_eq {f : Sv → Sv} (h : f s.sv[v] = s.sv[v]) : s.onSv v f = s := by
  rw [State.onSv, updV_of_eq h]

theorem castVote_voteView (n : Fin 4) (new : Vote) :
    (s.castVote v n new).voteView = (s.onSv v fun x => { x with votes := updV x.votes n fun _ => new }).voteView := by
  have hdrop (x : State) (l : List Nat) : (x.dropPermit n l []).voteView = x.voteView :=
    voteView_of_same (w := areaMask [.permits, .drops, .offered]) (State.dropPermit_same n l [] rfl .refl) rfl rfl rfl rfl
  unfold State.castVote
  dsimp only
  split
  · next hnew => rw [onSv_of_eq]; rw [← hnew, updV_of_eq rfl]
  · split
    · rfl
    · exact hdrop ..
    · split
      · exact hdrop ..
      · rfl

theorem castVote_votes_self (n : Fin 4) (new : Vote) : (s.castVote v n new).sv[v].votes[n] = new := by
  rw [votes_of_voteView (castVote_voteView n new), onSv_sv, updV_self, updV_self]

theorem castVote_votes_other {n m : Fin 4} (h : m ≠ n) (new : Vote) :
    (s.castVote v n new).sv[v].votes[m] = s.sv[v].votes[m] := by
  rw [votes_of_voteView (castVote_voteView n new), onSv_sv, updV_self, updV_other _ _ h]

/-- A vote cast changes no vote that is called for. -/
theorem castVote_vote (n m : Fin 4) (new : Vote) : (s.castVote v n new).vote v m = s.vote v m := by
  rw [vote_of_voteView (castVote_voteView n new), State.vote, State.vote, onSv_sv, updV_self]
  rfl

theorem castVotes_votes {l : List (Fin 4)} {m : Fin 4} (h : m ∈ l ∨ s.sv[v].votes[m] = s.vote v m) :
    (State.each s l fun s n => s.castVote v n (s.vote v n)).sv[v].votes[m] =
      (State.each s l fun s n => s.castVote v n (s.vote v n)).vote v m := by
  induction l generalizing s with
  | nil => exact h.resolve_left List.not_mem_nil
  | cons n l ih =>
    refine ih ?_
    rw [castVote_vote]
    by_cases hmn : m = n
    · subst hmn
      exact .inr (castVote_votes_self m _)
    · rw [castVote_votes_other hmn]
      exact h.imp_left fun hm => (List.mem_cons.1 hm).resolve_left hmn

/-! ### The step -/

/-- R275: the votes of a supervisor for every permit are cast. -/
def State.votesCast (s : State) (v : Fin 2) : State := State.each s sections fun s n => s.castVote v n (s.vote v n)

theorem votesCast_voted : (s.votesCast v).voted v := fun n => castVotes_votes (.inl (List.mem_finRange n))

/-- What follows the votes and goes before the words of the keeper: sleep, the isolation test and the carrier plans. -/
def State.planned (s : State) (v : Fin 2) : State :=
  State.eachFin (((s.horizons v).horizonStops.isoWatch v).isoJudge) 16 fun s c => s.planStep v c

theorem planned_voteView : (s.planned v).voteView = s.voteView := by
  have hsame : Same (areaMask [.amon, .dets, .wse, .crossbar, .passages, .permits, .drops, .cumValid, .pulses, .offered,
      .selfTest, .freeCount, .chans, .warns, .scans]) (s.horizons v) (s.planned v) :=
    State.eachFin_same (State.isoJudge_same rfl (State.isoWatch_same v rfl (State.horizonStops_same rfl .refl)))
      fun _ c k => State.planStep_same v c rfl k
  exact (voteView_of_same hsame rfl rfl rfl rfl).trans horizons_voteView

theorem exists_evalBack_eq_votesCast (trig : BitVec 4) (h : s.evaluates v = true) : ∃ (x : State) (k : Keeper),
    s.evalBack v trig = ({ (x.votesCast v).planned v with keep := k }.proposeBits v).publish.managePower :=
  ⟨_, _, if_neg (by simp [h])⟩

theorem evalBack_voted (trig : BitVec 4) (h : s.evaluates v = true) : (s.evalBack v trig).voted v := by
  obtain ⟨x, k, hx⟩ := exists_evalBack_eq_votesCast trig h
  have hview : (s.evalBack v trig).voteView = (x.votesCast v).voteView := by
    rw [hx, managePower_voteView, publish_voteView, proposeBits_voteView, withKeep_voteView, planned_voteView]
  exact voted_of_voteView hview votesCast_voted

theorem evalStep_voted (h : s.evaluates v = true) : (s.evalStep v).voted v :=
  evalBack_voted _ (by rw [evalFront_evaluates, h])

theorem evalStep_of_not (h : s.evaluates v = false) : s.evalStep v = s := by
  have hfront : s.evalFront v = (s, 0) := if_pos (by rw [h]; rfl)
  rw [State.evalStep, hfront]
  exact if_pos (by rw [h]; rfl)

theorem evalBoth_merges (h : s.evaluates 0 = true ∨ s.evaluates 1 = true) : s.evalBoth.merges := by
  rw [State.evalBoth]
  cases h1 : (s.evalStep 0).evaluates 1 with
  | true => exact evalStep_merges h1
  | false =>
    rw [evalStep_of_not h1]
    cases h0 : s.evaluates 0 with
    | true => exact evalStep_merges h0
    | false =>
      rw [evalStep_of_not h0] at h1
      exact absurd h (by simp [h0, h1])

/-- Settles O24: a step ends with its votes cast and what the keeper publishes, and both are said by the merge and the planned votes. -/
theorem evaluationStepsMergeAndVote : Obligations.EvaluationStepsMergeAndVote := by
  unfold Obligations.EvaluationStepsMergeAndVote
  have hstep {t : Time} {v : Fin 2} {s : State} (h : s.evaluates v = true) :
      ((s.at t).evalStep v).merges ∧ ((s.at t).evalStep v).voted v :=
    ⟨evalStep_merges (s := s.at t) h, evalStep_voted (s := s.at t) h⟩
  refine ⟨fun t v s h => ⟨_, rfl, hstep h⟩, ?_, ?_, ?_⟩
  · intro t a v sec s h hat hrun
    have hgo : decide (a + ms ((s.at t).clearConfirmDelay sec) ≤ (s.at t).clk.now) = true := decide_eq_true (le_at_now hrun)
    refine ⟨_, rfl, ?_⟩
    rw [at_sv, hat]
    dsimp only
    rw [when_of hgo]
    exact hstep h
  · intro t a v sec cause s h hat hrun
    have hgo : decide (a + ms ((s.at t).disturbedHold sec) ≤ (s.at t).clk.now) = true := decide_eq_true (le_at_now hrun)
    refine ⟨_, rfl, ?_⟩
    rw [at_sv, hat]
    dsimp only
    rw [when_of hgo]
    exact hstep h
  · intro t a v sec s h hat hrun
    have hgo : decide (a + ms ((s.at t).bemfTime sec) ≤ (s.at t).clk.now) = true := decide_eq_true (le_at_now hrun)
    refine ⟨_, rfl, ?_⟩
    rw [at_sv, hat]
    dsimp only
    rw [when_of hgo]
    exact hstep h

/-- Settles O25: the timer of one serving supervisor brings the evaluation step of both. -/
theorem restorationTimersMerge : Obligations.RestorationTimersMerge := by
  unfold Obligations.RestorationTimersMerge
  have hany {l : List (Fin 2)} {p : Fin 2 → Bool} {v : Fin 2} (hv : v ∈ l) (hp : p v = true) : l.any p = true :=
    List.any_eq_true.2 ⟨v, hv, hp⟩
  refine ⟨?_, ?_, ?_, ?_⟩
  · intro t v sec s h hv hstate htR hrun
    refine .of_when rfl (hany hv ?_) (evalBoth_merges (s := s.at t) h)
    simp only [Bool.and_eq_true, beq_iff_eq, bne_iff_ne, decide_eq_true_eq]
    exact ⟨⟨hstate, htR⟩, le_at_now hrun⟩
  · exact fun t v sec s h hv hdue => .of_when rfl (hany hv hdue) (evalBoth_merges (s := s.at t) h)
  · intro t v sec s h hv hstate hheld
    refine .of_when rfl (hany hv ?_) (evalBoth_merges (s := s.at t) h)
    rw [hheld, Bool.and_true, beq_iff_eq]
    exact hstate
  · intro t a v sec s h hv hself hrun
    refine .of_when rfl (hany hv ?_) (evalBoth_merges (s := s.at t) h)
    rw [at_sv, hself]
    exact decide_eq_true (le_at_now hrun)

end Sys2Proof.Machine

/-! Proposals, the Verdict port and the Deadbolt (O26, O27). -/

namespace Sys2Proof.Machine

variable {s u : State} {v : Fin 2} {sec : Fin 4}

/-! ### The entry of a proposal into a state (R33 to R40) -/

theorem onRest_props (x : Sv) (n : Fin 4) (f : Rest → Rest) : (x.onRest n f).props = x.props := rfl

theorem onSec_props (x : Sv) (n : Fin 4) (f : SecCnt → SecCnt) : (x.onSec n f).props = x.props := rfl

theorem onProp_prop_self (x : Sv) (n : Fin 4) (f : Prop_ → Prop_) : (x.onProp n f).props[n] = f x.props[n] := updV_self ..

/-- A proposal that enters a state is in that state. -/
theorem enter_state (st : SecState) (route : Nat) : (s.enter v sec st route).sv[v].props[sec].state = st := by
  rw [State.enter, onSv_sv, updV_self, onRest_props, onSec_props, onProp_prop_self]

theorem enter_route (st : SecState) {route : Nat} (h : route ≠ 0) : (s.enter v sec st route).sv[v].props[sec].route = route := by
  rw [State.enter, onSv_sv, updV_self, onRest_props, onSec_props, onProp_prop_self]
  exact if_neg h

theorem enter_sv_other {w : Fin 2} (h : w ≠ v) (st : SecState) (route : Nat) : (s.enter v sec st route).sv[w] = s.sv[w] := by
  rw [State.enter, onSv_sv, updV_other _ _ h, onSv_sv, updV_other _ _ h]

/-! ### The timers of a proposal (R187, R193, R196 to R199, R257) -/

theorem degradedAllows_of_not_degraded (h : s.keep.degraded = false) : s.degradedAllows v sec = true := by
  rw [State.degradedAllows, h]
  rfl

/-- R193, R194: the clear timer that has run makes the section CLEAR. -/
theorem clearance_state {a : Time} (hat : s.sv[v].props[sec].clearAt = some a) (hconds : (s.clearConds v sec).all id = true)
    (hrun : a + ms (s.clearConfirmDelay sec) ≤ s.clk.now) (hdeg : s.keep.degraded = false) :
    (s.clearance v sec).sv[v].props[sec].state = .clear := by
  unfold State.clearance
  extract_lets conds now s1
  have hat1 : s1.sv[v].props[sec].clearAt = some a := by
    rw [onSv_sv, updV_self, onProp_prop_self]
    show (if conds.all id = true then _ else _) = _
    rw [if_pos hconds, hat]
    rfl
  have hgo : (decide (a + ms (s.clearConfirmDelay sec) ≤ now) && s1.degradedAllows v sec) = true := by
    rw [degradedAllows_of_not_degraded (s := s1) hdeg, Bool.and_true]
    exact decide_eq_true hrun
  rw [hat1]
  dsimp only
  rw [if_pos hgo]
  exact enter_state .clear 0

/-- R198: an event cause stands no longer than DisturbedHold, code 8 apart while the Tumbler fails. -/
theorem expireCauses_causes : (s.expireCauses v sec).sv[v].props[sec].causes = s.sv[v].props[sec].causes.filter fun c =>
    decide (s.clk.now < c.2 + ms (s.disturbedHold sec)) || (c.1 == 8 && s.keep.tumbler.failing) := by
  rw [State.expireCauses, onSv_sv, updV_self, onProp_prop_self]

theorem bemfAlarm_witness : (s.bemfAlarm v sec).sv[v].props[sec].witness = true ∧ (s.bemfAlarm v sec).keep.barred[sec] = true := by
  constructor
  · show (updV s.sv v _)[v].props[sec].witness = true
    rw [updV_self, onSec_props, onProp_prop_self]
  · exact updV_self ..

/-- R199: the witness rises once the reading has been high for BemfTime. -/
theorem evalWitness_eq_bemfAlarm {a : Time} (hstate : s.sv[v].props[sec].state = .clear)
    (hwit : s.sv[v].props[sec].witness = false) (hon : s.witnessOn sec = true) (hhigh : s.bemfHigh sec = true)
    (hat : s.sv[v].props[sec].bemfAt = some a) (hrun : a + ms (s.bemfTime sec) ≤ s.clk.now) :
    s.evalWitness v sec = s.bemfAlarm v sec := by
  unfold State.evalWitness
  extract_lets p from_
  have hgo : (p.state == .clear && s.witnessOn sec && s.bemfHigh sec && !p.witness) = true := by
    rw [show p.state = .clear from hstate, hon, hhigh, show p.witness = false from hwit]
    rfl
  have hfrom : from_ = a := congrArg (fun o => o.getD s.clk.now) hat
  rw [if_pos hgo, hfrom, if_pos hrun]

/-! ### The outcome of a restoration (R257, R259, R269) -/

/-- R257: a result is held and its time has come. -/
theorem outcome_of_held (hstate : s.sv[v].props[sec].state = .restoring) (hres : s.sv[v].rests[sec].state = 3) :
    s.outcome v sec =
      if s.sv[v].secs[sec].b != 0 || !((s.legHeadsOf sec).all fun h => s.quiet h) then s.enter v sec .occupied 2
      else if s.heldLong v sec then
        (if s.degradedAllows v sec then s.enter v sec .clear 2 else s.refuse v (1 <<< sec.val) 11)
      else s := by
  have hno : ¬ (s.sv[v].props[sec].state != .restoring || s.sv[v].rests[sec].state != 3) = true := by
    rw [hstate, hres]
    decide
  exact if_neg hno

theorem outcome_of_zero (hstate : s.sv[v].props[sec].state = .restoring) (hres : s.sv[v].rests[sec].state = 3)
    (hb : s.sv[v].secs[sec].b = 0) (hquiet : ((s.legHeadsOf sec).all fun h => s.quiet h) = true)
    (hheld : s.heldLong v sec = true) (hdeg : s.keep.degraded = false) : s.outcome v sec = s.enter v sec .clear 2 := by
  rw [outcome_of_held hstate hres, hb, hquiet, hheld, degradedAllows_of_not_degraded hdeg]
  rfl

theorem outcome_of_balance (hstate : s.sv[v].props[sec].state = .restoring) (hres : s.sv[v].rests[sec].state = 3)
    (hb : s.sv[v].secs[sec].b ≠ 0) : s.outcome v sec = s.enter v sec .occupied 2 := by
  rw [outcome_of_held hstate hres, bne_iff_ne.2 hb]
  rfl

/-! ### Self-attestation (R269) -/

/-- What is done for each of a list of supervisors is done for each of them, where the effect for one leaves the others. -/
theorem each_sv_of_mem {l : List (Fin 2)} {f : State → Fin 2 → State} {P : Sv → Prop} (hself : ∀ x w, P (f x w).sv[w])
    (hother : ∀ x (w w' : Fin 2), w' ≠ w → (f x w).sv[w'] = x.sv[w']) (h : v ∈ l ∨ P s.sv[v]) :
    P (State.each s l f).sv[v] := by
  induction l generalizing s with
  | nil => exact h.resolve_left List.not_mem_nil
  | cons w l ih =>
    refine ih ?_
    by_cases hvw : v = w
    · subst hvw
      exact .inr (hself s v)
    · rw [hother s w v hvw]
      exact h.imp_left fun hm => (List.mem_cons.1 hm).resolve_left hvw

/-- R269: the last step of self-attestation: every serving supervisor enters CLEAR by route 3. -/
def State.selfEnter (s : State) (sec : Fin 4) (tR : Time) : State :=
  State.each s s.serving fun s v => (s.onSv v fun x => x.onProp sec fun p => { p with routeT := tR }).enter v sec .clear 3

theorem selfEnter_sv (tR : Time) (h : v ∈ s.serving) :
    (s.selfEnter sec tR).sv[v].props[sec].state = .clear ∧ (s.selfEnter sec tR).sv[v].props[sec].route = 3 := by
  refine each_sv_of_mem (P := fun x => x.props[sec].state = .clear ∧ x.props[sec].route = 3)
    (fun x w => ⟨enter_state .clear 3, enter_route .clear (by decide)⟩) (fun x w w' hne => ?_) (.inl h)
  rw [enter_sv_other hne, onSv_sv, updV_other _ _ hne]

@[simp] theorem bothSv_statuses {f : Fin 2 → Sv → Sv} (hf : ∀ w x, (f w x).st = x.st) : (s.bothSv f).statuses = s.statuses :=
  each_statuses fun _ w => onSv_statuses w (hf w)

@[simp] theorem rebaseHead_statuses (h : Fin 8) (b : Bool) (z : Int) (t : Time) : (s.rebaseHead h b z t).statuses = s.statuses := by
  simp [State.rebaseHead, bothSv_statuses]

@[simp] theorem rebaseOuter_statuses (n : Fin 4) (a : Answer) (t : Time) : (s.rebaseOuter sec n a t).statuses = s.statuses := by
  unfold State.rebaseOuter
  split
  · exact rebaseHead_statuses ..
  · rfl

theorem mem_serving_of_statuses (h : u.statuses = s.statuses) (hv : v ∈ s.serving) : v ∈ u.serving := by
  rw [State.serving, List.mem_filter, Sv.serves] at hv ⊢
  rwa [st_of_statuses h v]

/-- R269: before that step the Zones are applied and the heads rebased; no supervisor changes its state by it. -/
theorem selfApply_eq : ∃ x, x.statuses = s.statuses ∧
    (s.selfApply sec = x ∧ s.serving = [] ∨ ∃ tR, s.selfApply sec = (x.selfEnter sec tR).pulse 22) := by
  unfold State.selfApply
  extract_lets s1
  have h1 : s1.statuses = s.statuses := each_statuses fun x w => by simp [State.applyZoneReset]
  split
  · next hnone => exact ⟨s1, h1, .inl ⟨rfl, hnone⟩⟩
  · next w ws hserving =>
    extract_lets tR terms s2 all s3
    have h2 : s2.statuses = s1.statuses := each_statuses fun _ _ => rebaseOuter_statuses ..
    have h3 : s3.statuses = s2.statuses := by
      simp only [s3]
      split
      · split
        · exact rebaseHead_statuses ..
        · rfl
      · rfl
    exact ⟨s3, h3.trans (h2.trans h1), .inr ⟨tR, rfl⟩⟩

/-- R269: self-attestation makes the section CLEAR by route 3 in every serving supervisor. -/
theorem selfApply_clear (h : v ∈ s.serving) :
    (s.selfApply sec).sv[v].props[sec].state = .clear ∧ (s.selfApply sec).sv[v].props[sec].route = 3 := by
  obtain ⟨x, hst, ⟨-, hnone⟩ | ⟨tR, heq⟩⟩ := selfApply_eq (s := s) (sec := sec)
  · exact absurd (hnone ▸ h) List.not_mem_nil
  · rw [heq, pulse_sv]
    exact selfEnter_sv tR (mem_serving_of_statuses hst h)

/-- Settles O26: each clause is the rule of its timer above. -/
theorem proposalsFollowTheirTimers : Obligations.ProposalsFollowTheirTimers := by
  unfold Obligations.ProposalsFollowTheirTimers
  refine ⟨fun v sec a s hat hconds hrun hdeg => clearance_state hat hconds hrun hdeg, fun v sec s c hc => ?_,
    fun v sec a s hstate hwit hon hhigh hat hrun => ?_, fun v sec s hstate hres hb hquiet hheld hdeg => ?_,
    fun v sec s hstate hres hb => ?_, fun v sec s hv => selfApply_clear hv⟩
  · rw [expireCauses_causes] at hc
    refine (Bool.or_eq_true_iff.1 (List.mem_filter.1 hc).2).imp of_decide_eq_true fun hkeep => ?_
    obtain ⟨hcode, htest⟩ := Bool.and_eq_true_iff.1 hkeep
    exact ⟨beq_iff_eq.1 hcode, htest⟩
  · rw [evalWitness_eq_bemfAlarm hstate hwit hon hhigh hat hrun]
    exact bemfAlarm_witness
  · rw [outcome_of_zero hstate hres hb hquiet hheld hdeg]
    exact ⟨enter_state .clear 2, enter_route .clear (by decide)⟩
  · rw [outcome_of_balance hstate hres hb]
    exact enter_state .occupied 2

/-! ### The Verdict port (R51, R52) -/

/-- R51: the shadow takes the word that the holding register holds; the next decision takes its place. -/
theorem completes_shadowLoad {t : Time} {n : Fin 4} {w : Word} (h : s.keep.holding[n] = some w) :
    Completes (.verdictShadowLoad t n) s fun u =>
      u.keep.shadow[n] = w ∧
      u.keep.holding[n] = (if s.keep.waiting[n] then some (s.keep.merged[n].word s.keep.degraded) else none) ∧
      ∀ m : Fin 4, m ≠ n → u.keep.shadow[m] = s.keep.shadow[m] ∧ u.keep.holding[m] = s.keep.holding[m] := by
  refine ⟨_, rfl, ?_⟩
  rw [show (s.at t).keep.holding[n] = some w from h]
  exact ⟨updV_self .., updV_self .., fun m hm => ⟨updV_other _ _ hm, updV_other _ _ hm⟩⟩

/-! ### The inputs of the Deadbolt (R53, R54, R277, R278) -/

theorem dropPermit_qualAt (n : Fin 4) (c : Nat) (hs : List (Fin 8)) :
    (s.dropPermit n [c] hs).keep.permits[n].qualAt = none := by
  unfold State.dropPermit
  extract_lets p k isDrop p' s1
  have h1 : s1.keep.permits[n].qualAt = none := by
    rw [show s1 = s.onPermit n fun _ => p' from rfl, onPermit_keep, updV_self]
    rfl
  split <;> exact h1

theorem requalify_permits (n : Fin 4) :
    s.requalify.keep.permits[n] = s.keep.permits[n].requalified (s.dropActive n) (s.bothDrop n) s.clk.now :=
  Vector.getElem_ofFn ..

/-- R53: a latch that is clear and whose qualification does not run begins it now, or once no input is active. -/
theorem requalified_qualAt {p : Permit} {active both : Bool} {now : Time} (hlatch : p.latch = false) (hqual : p.qualAt = none) :
    (p.requalified active both now).qualAt = if active then none else some now := by
  unfold Permit.requalified
  cases active
  · rw [if_neg Bool.false_ne_true, hlatch, if_neg Bool.false_ne_true, hqual]
    rfl
  · rfl

theorem requalified_gateShut (p : Permit) (active both : Bool) (now : Time) :
    (p.requalified active both now).gateShut = p.gateShut := by
  unfold Permit.requalified
  extract_lets since
  split
  · rfl
  · split <;> rfl

/-- Judging the qualification again changes no input of the Deadbolt. -/
theorem requalify_dropActive (n : Fin 4) : s.requalify.dropActive n = s.dropActive n := by
  have hgate : s.requalify.keep.permits[n].gateShut = s.keep.permits[n].gateShut := by
    rw [requalify_permits]
    exact requalified_gateShut ..
  rw [State.dropActive, hgate]
  rfl

/-- R53, R54: after a drop and a requalification the latch is clear, and its qualification runs from now unless an input is
active. -/
theorem dropPermit_requalify (n : Fin 4) (c : Nat) (hs : List (Fin 8)) :
    let u := (s.dropPermit n [c] hs).requalify
    u.keep.permits[n].latch = false ∧ u.keep.permits[n].qualAt = if u.dropActive n then none else some u.clk.now := by
  intro u
  refine ⟨requalify_latch (dropPermit_latch n c hs), ?_⟩
  rw [requalify_dropActive, requalify_permits, requalified_qualAt (dropPermit_latch ..) (dropPermit_qualAt ..)]
  rfl

theorem completes_deadboltDrop {t : Time} {n : Fin 4} {i : DropInput}
    (h : ∀ h, i = .faultLine h → s.headConcerns h n = true) :
    Completes (.deadboltDrop t n i) s fun u =>
      u.keep.permits[n].latch = false ∧ u.keep.permits[n].qualAt = if u.dropActive n then none else some u.clk.now := by
  cases i with
  | voteA => exact ⟨_, rfl, dropPermit_requalify ..⟩
  | voteB => exact ⟨_, rfl, dropPermit_requalify ..⟩
  | selfTest => exact ⟨_, rfl, dropPermit_requalify ..⟩
  | faultLine hd =>
    exact ⟨_, congrArg Host.Outcome.next (if_pos (show (s.at t).headConcerns hd n = true from h hd rfl)),
      dropPermit_requalify ..⟩

/-- R53: a permit whose qualification has run 8 µs with no input active rises, and no other. -/
theorem completes_permitRise {t a : Time} {n : Fin 4} (hqual : s.keep.permits[n].qualAt = some a) (hrun : a + us 8 ≤ t)
    (hdrop : s.dropActive n = false) :
    Completes (.permitRise t n) s fun u =>
      u.keep.permits[n].latch = true ∧ u.keep.permits[n].qualAt = none ∧
      ∀ m : Fin 4, m ≠ n → u.keep.permits[m] = s.keep.permits[m] := by
  refine ⟨_, exec_permitRise_of_mayRise ⟨a, hqual, hrun.trans (Nat.le_max_right ..), hdrop⟩,
    congrArg Permit.latch (updV_self ..), congrArg Permit.qualAt (updV_self ..), fun m hm => permitRisen_latch_other hm⟩

/-- The word with the one bit j. -/
theorem getLsbD_cast_one_shiftLeft {w i : Nat} (j : Nat) (hi : i < w) :
    ((1 <<< j : Nat) : BitVec w).getLsbD i = decide (j = i) := by
  show (BitVec.ofNat w (1 <<< j)).getLsbD i = _
  rw [BitVec.getLsbD_ofNat, Nat.one_shiftLeft, Nat.testBit_two_pow, decide_eq_true hi, Bool.true_and]

/-- R7: the bits of `setNow` are those that hardware has set at this instant. -/
theorem getLsbD_setNow {n : Nat} (at_ : Vector (Option Time) n) (now : Time) (i : Fin n) :
    (setNow at_ now).getLsbD i.val = (at_[i] == some now) := by
  have hturn := foldl_of_mem (g := fun m : BitVec n => m.getLsbD i.val) (i := i) (f := fun b => b || at_[i] == some now)
    (step := fun (m : BitVec n) (j : Fin n) => if at_[j] == some now then m ||| ((1 <<< j.val : Nat) : BitVec n) else m)
    (fun m => ?self) (fun m j hne => ?other) (List.nodup_finRange n) (List.mem_finRange i) 0
  case self =>
    split
    · next h => rw [BitVec.getLsbD_or, getLsbD_cast_one_shiftLeft _ i.isLt, decide_eq_true rfl, h]
    · next h => rw [Bool.eq_false_iff.2 h, Bool.or_false]
  case other =>
    split
    · rw [BitVec.getLsbD_or, getLsbD_cast_one_shiftLeft _ i.isLt, decide_eq_false (Fin.val_ne_of_ne hne), Bool.or_false]
    · rfl
  exact hturn.trans (by rw [show (0 : BitVec n).getLsbD i.val = false from BitVec.getLsbD_zero, Bool.false_or])

/-- Settles O27: by the equations of the load, the drop, the rise and the write of SK_DEADBOLT. -/
theorem verdictPortAndDeadboltAct : Obligations.VerdictPortAndDeadboltAct := by
  unfold Obligations.VerdictPortAndDeadboltAct
  refine ⟨fun t n w s h => completes_shadowLoad h, fun t n i s h => completes_deadboltDrop h,
    fun t a n s hqual hrun hdrop => completes_permitRise hqual hrun hdrop, fun t w s => ⟨_, rfl, fun i => ?_, fun i => ?_⟩⟩
  · show (s.keep.fdrop &&& (~~~(w.setWidth 4) ||| setNow s.keep.fdropAt (s.at t).clk.now)).getLsbD i.val = _
    rw [BitVec.getLsbD_and, BitVec.getLsbD_or, getLsbD_setNow, BitVec.getLsbD_not, BitVec.getLsbD_setWidth, decide_eq_true i.isLt,
      Bool.true_and, Bool.true_and]
    rfl
  · show (s.keep.fhead &&& (~~~((w >>> 8).setWidth 8) ||| setNow s.keep.fheadAt (s.at t).clk.now)).getLsbD i.val = _
    rw [BitVec.getLsbD_and, BitVec.getLsbD_or, getLsbD_setNow, BitVec.getLsbD_not, BitVec.getLsbD_setWidth, decide_eq_true i.isLt,
      Bool.true_and, Bool.true_and, BitVec.getLsbD_ushiftRight]
    rfl

end Sys2Proof.Machine

/-! Single steps, traction status, the check-value units, the timers of the dictionary and the internal faults (O1, O2, O40, O43,
O48, O59). -/

namespace Sys2Proof.Machine

variable {s u : State} {t : Time}

/-- Settles O1: by the definition of a step. -/
theorem stepTakesTheFrontCommand : Obligations.StepTakesTheFrontCommand := by
  unfold Obligations.StepTakesTheFrontCommand
  exact fun c l s => rfl

/-- Settles O2: by the definition of a step. -/
theorem idleBlockKeepsItsState : Obligations.IdleBlockKeepsItsState := by
  unfold Obligations.IdleBlockKeepsItsState
  intro s h
  rw [step, h]

/-! ### Traction status (R279 to R283) -/

theorem onTraction_at_self {n : Fin 4} {f : Traction → Traction} : ((s.at t).onTraction n f).trac[n] = f s.trac[n] :=
  updV_self ..

/-- R280: a block that is accepted is committed; what else follows leaves it. -/
theorem tractionCommit_of_accepts {n : Fin 4} {w : Word} (h : s.trac[n].accepts w = true) :
    (s.tractionCommit n w).trac[n] = s.trac[n].committed w s.clk.now := by
  have hrec (x : State) (b : Bool) (k : BitVec 16) (l : List Byte) : (x.when b fun s => s.record k 0 l).trac = x.trac :=
    when_view (fun x => x.trac) rfl
  rw [State.tractionCommit]
  dsimp only
  rw [if_pos h]
  refine (congrArg (·[n]) (when_view (fun x => x.trac) ?_)).trans ?_
  · exact (State.wakeEvent_same (w := areaMask [.power]) 3 rfl .refl).area .traction rfl
  · rw [hrec, hrec]
    exact updV_self ..

theorem tractionCommit_now {n : Fin 4} {w : Word} : (s.tractionCommit n w).clk.now = s.clk.now :=
  congrArg Clock.now (State.tractionCommit_same (w := maskBut .clk) n w rfl .refl).only

theorem tractionCommit_of_not_accepts {n : Fin 4} {w : Word} (h : s.trac[n].accepts w = false) :
    (s.tractionCommit n w).trac[n] = { s.trac[n] with rejects := s.trac[n].rejects + 1 } := by
  rw [State.tractionCommit]
  dsimp only
  rw [if_neg (Bool.eq_false_iff.1 h)]
  exact updV_self ..

theorem accepts_eq_true {x : Traction} {w : Word} (hpar : parOk w = true) (hseq : x.takeAny = true ∨ w.setWidth 8 = x.seq + 1) :
    x.accepts w = true := by
  rw [Traction.accepts, hpar, Bool.true_and, Bool.or_eq_true, beq_iff_eq]
  exact hseq

theorem accepts_eq_false {x : Traction} {w : Word} (h : parOk w = false ∨ (x.takeAny = false ∧ w.setWidth 8 ≠ x.seq + 1)) :
    x.accepts w = false := by
  rw [Traction.accepts]
  rcases h with hpar | ⟨hany, hseq⟩
  · rw [hpar, Bool.false_and]
  · rw [hany, Bool.false_or, beq_false_of_ne hseq, Bool.and_false]

theorem tractionAged_trac (n : Fin 4) : (s.tractionAged n).trac[n] = { s.trac[n] with fresh := false, takeAny := true } :=
  updV_self ..

theorem tractionAged_staleCount (n : Fin 4) : (s.tractionAged n).nv.staleCount[n] = s.nv.staleCount[n] + 1 := updV_self ..

/-- Settles O40: by the branches of the staging, the commit and the ageing. -/
theorem tractionStatusIsCommittedAsABlock : Obligations.TractionStatusIsCommittedAsABlock := by
  unfold Obligations.TractionStatusIsCommittedAsABlock
  refine ⟨fun t n dclink w s => ⟨_, rfl, ?_⟩, fun t n w s hpar hseq => ⟨_, rfl, ?_⟩, fun t n w s h => ⟨_, rfl, ?_⟩,
    fun t n s hfresh hrun => .of_when rfl ?_ ?_⟩
  · beta_reduce
    rw [onTraction_at_self]
    cases dclink <;> exact ⟨⟨rfl, rfl⟩, rfl, rfl, rfl⟩
  · beta_reduce
    rw [tractionCommit_of_accepts (s := s.at t) (accepts_eq_true hpar hseq)]
    exact ⟨rfl, rfl, rfl, rfl, (tractionCommit_now (s := s.at t)).symm, rfl, rfl⟩
  · beta_reduce
    rw [tractionCommit_of_not_accepts (s := s.at t) (accepts_eq_false h)]
    exact ⟨rfl, rfl, rfl, rfl, rfl, rfl⟩
  · rw [show (s.at t).trac = s.trac from rfl, hfresh, Bool.true_and]
    exact decide_eq_true (le_at_now hrun)
  · rw [tractionAged_trac, tractionAged_staleCount, at_nv_staleCount]
    exact ⟨rfl, rfl, rfl, rfl⟩

/-! ### The check-value units (R409 to R414) -/

theorem Cvu.ended_of_produce {c : Cvu} {now : Time} (h : c.mode = false) :
    (c.ended now).aliveTx = (if c.aliveEn then c.aliveTx + 1 else c.aliveTx) ∧ (c.ended now).rej = c.rej := by
  rw [Cvu.ended, h]
  exact ⟨rfl, rfl⟩

theorem Cvu.ended_of_check {c : Cvu} {now : Time} (h : c.mode = true) :
    (c.ended now).pass = ((c.ended now).result == c.expect &&& crcMask c.poly && !c.aliveOut) ∧
    (c.ended now).rej = (if (c.ended now).pass || c.rej == 0xFFFFFFFF || c.clrAt == some now then c.rej else c.rej + 1) := by
  rw [Cvu.ended, h]
  exact ⟨congrArg (· && !c.aliveOut) (Bool.not_not _), rfl⟩

/-- Settles O43: each write of a unit is one update of that unit. -/
theorem theCheckValueUnitsCompute : Obligations.TheCheckValueUnitsCompute := by
  unfold Obligations.TheCheckValueUnitsCompute
  refine ⟨fun t k w s => ⟨_, rfl, ?_⟩, fun t k s h => ⟨_, rfl, ?_⟩, fun t k s h => ⟨_, rfl, ?_⟩,
    fun t k width w s => ⟨_, rfl, ?_⟩, fun t k s h => ⟨_, exec_finish, ?_⟩, fun t k s h => ⟨_, exec_finish, ?_⟩,
    fun t k w s => ⟨_, rfl, ?_⟩, fun t k s => ⟨_, rfl, ?_⟩⟩
  · beta_reduce
    rw [onCvu_at_self]
    exact ⟨rfl, rfl, rfl, rfl, rfl, rfl⟩
  · beta_reduce
    rw [onCvu_at_self]
    exact if_pos h
  · beta_reduce
    rw [onCvu_at_self]
    exact if_neg (Bool.eq_false_iff.1 h)
  · beta_reduce
    rw [onCvu_at_self]
    rfl
  · beta_reduce
    rw [pulse_cvu, onCvu_at_self, Cvu.ended_result]
    exact ⟨rfl, Cvu.ended_of_produce h⟩
  · beta_reduce
    rw [pulse_cvu, onCvu_at_self]
    exact ⟨Cvu.ended_result .., Cvu.ended_of_check h⟩
  · beta_reduce
    rw [onCvu_at_self]
  · beta_reduce
    rw [onCvu_at_self]
    exact ⟨rfl, rfl⟩

/-! ### The timers of the dictionary (R297, R299, R304, R306, R313, R317, R322, R460) -/

theorem closeSession_self (i : Fin 5) : (s.closeSession i).sdp.sessions[i] = {} := updV_self ..

theorem xferGone_of_open {i : Fin 5} {f : Xfer} (hx : s.sdp.sessions[i].xfer = some f) (hopen : f.done (segSize (i != 0)) = false) :
    (s.xferGone i).sdp.sessions[i] = { s.sdp.sessions[i] with xfer := none, xferOver := true } := by
  rw [State.xferGone, hx, if_neg (by rw [Option.map_some, Option.getD_some, hopen]; exact Bool.false_ne_true), onSession_sdp]
  exact (updV_self ..).trans (by rw [loadStops_sessions])

/-- R306: a request whose 20 ms are over leaves the list; at the mailbox it is answered. -/
theorem completes_validationTimeout {w : WaitingReq} {l : List WaitingReq} (hw : s.sdp.waiting = w :: l) (hrun : w.at_ + ms 20 ≤ t) :
    Completes (.validationTimeout t) s fun u =>
      u.sdp.waiting = l ∧ (w.src = .mailbox → u.host.mailbox.staged = some (packed (parseSdp s.sdp.sessions[0].lastReq)
        (.error (abBusy, 0)) false (parseSdp s.sdp.sessions[0].lastReq).key (parseSdp s.sdp.sessions[0].lastReq).sess none)) := by
  have hgo : decide (w.at_ + ms 20 ≤ (s.at t).clk.now) = true := decide_eq_true (le_at_now hrun)
  have hkept (x : State) (src : SdpSrc) (i : Fin 5) (p : List Byte) : (x.answerKept src i p).sdp.waiting = x.sdp.waiting :=
    (State.answerKept_same (w := maskBut .requests) src i p rfl .refl).only
  refine ⟨_, rfl, ?_⟩
  rw [show (s.at t).sdp.waiting = w :: l from hw]
  dsimp only
  rw [when_of hgo]
  cases hsrc : w.src with
  | mailbox => exact ⟨hkept .., fun _ => rfl⟩
  | net mac tag q =>
    refine ⟨?_, fun h => nomatch h⟩
    dsimp only
    split
    · rfl
    · exact hkept ..

theorem completes_transferTimeout {i : Fin 5} {f : Xfer} (hx : s.sdp.sessions[i].xfer = some f)
    (hopen : f.done (segSize (i != 0)) = false) (hrun : f.lastAt + secs 5 ≤ t) :
    Completes (.transferTimeout t i) s fun u => u.sdp.sessions[i].xfer = none ∧ u.sdp.sessions[i].xferOver = true := by
  refine ⟨_, rfl, ?_⟩
  rw [show (s.at t).sdp.sessions[i].xfer = some f from hx]
  dsimp only
  rw [when_of (decide_eq_true (le_at_now hrun)), xferGone_of_open (s := s.at t) hx hopen]
  exact ⟨rfl, rfl⟩

theorem completes_txnTimeout {x : Txn} (hx : s.sdp.txn = some x) (hrun : x.lastAt + secs 30 ≤ t) :
    Completes (.txnTimeout t) s fun u => u.sdp.txn = none := by
  refine ⟨_, rfl, ?_⟩
  rw [show (s.at t).sdp.txn = some x from hx]
  dsimp only
  rw [when_of (decide_eq_true (le_at_now hrun))]

theorem completes_raiseBarExpiry {a : Time} {i : Fin 5} (hbar : s.sdp.sessions[i].barUntil = some a) (hrun : a ≤ t) :
    Completes (.raiseBarExpiry t i) s fun u => u.sdp.sessions[i].barUntil = none := by
  refine ⟨_, rfl, ?_⟩
  rw [show (s.at t).sdp.sessions[i].barUntil = some a from hbar]
  dsimp only
  rw [when_of (decide_eq_true (le_at_now hrun))]
  exact congrArg Session.barUntil (updV_self ..)

theorem completes_configWanted (hrel : s.released = true) (hpos : s.sdp.posState ≠ 0) (htr : s.net.trailers = true)
    (hrun : s.sdp.wantedAt = 0 ∨ s.sdp.wantedAt + secs 10 ≤ t) :
    Completes (.configWanted t) s fun u => u.sdp.wantedAt = u.clk.now := by
  refine .of_when rfl ?_ rfl
  rw [show (s.at t).sdp = s.sdp from rfl, show (s.at t).net = s.net from rfl, show (s.at t).released = s.released from rfl, hrel,
    bne_iff_ne.2 hpos, htr, Bool.true_and, Bool.true_and, Bool.true_and, Bool.or_eq_true]
  exact hrun.imp (fun h => beq_iff_eq.2 h) fun h => decide_eq_true (le_at_now h)

theorem completes_imageCheckDone {okA okB : Bool} {version : Word} (hrel : s.released = true) (himg : s.nv.images.state = 2) :
    Completes (.imageCheckDone t okA okB version) s fun u =>
      u.nv.images.state = (if okA && okB then 3 else 4) ∧
      u.nv.images.version[(if s.nv.images.active = 0 then 1 else 0 : Fin 2)] =
        (if okA && okB then version else s.nv.images.version[(if s.nv.images.active = 0 then 1 else 0 : Fin 2)]) := by
  have hat : (s.at t).nv.images = s.nv.images := at_nv_images _ t
  refine .of_when rfl ?_ ⟨rfl, ?_⟩
  · rw [hat, himg, show (s.at t).released = s.released from rfl, hrel]
    rfl
  · dsimp only
    rw [hat]
    cases okA && okB with
    | false => rfl
    | true =>
      by_cases h : s.nv.images.active = 0
      · simp [h]
      · simp [h]

/-- Settles O48: each timer that has run out takes its branch, and each update is read back. -/
theorem sessionTimersRunOut : Obligations.SessionTimersRunOut := by
  unfold Obligations.SessionTimersRunOut
  refine ⟨fun t w l s => completes_validationTimeout, fun t i s hi hopen hrun => .of_when rfl ?_ (closeSession_self i),
    fun t i f s => completes_transferTimeout, fun t i s hpend hrun => .of_when rfl ?_ ?_, fun t x s => completes_txnTimeout,
    fun t a i s => completes_raiseBarExpiry, fun t s => completes_configWanted, fun t okA okB version s => completes_imageCheckDone⟩
  · rw [show (s.at t).sdp = s.sdp from rfl, bne_iff_ne.2 hi, hopen, Bool.true_and, Bool.true_and]
    exact decide_eq_true (le_at_now hrun)
  · rw [show (s.at t).sdp = s.sdp from rfl, List.isEmpty_eq_false_iff.2 hpend, Bool.not_false, Bool.true_and]
    exact decide_eq_true (le_at_now hrun)
  · exact congrArg Session.pending (updV_self ..)

/-! ### The internal faults (R432) -/

/-- R432: the mailbox session closes and reopens, and the failure is counted. -/
theorem deFails_effect (d : Fin 2) : (s.deFails d).sdp.deFails[d] = s.sdp.deFails[d] + 1 ∧
    (s.deFails d).sdp.deOut[d] = (s.sdp.deOut[d] || decide (2 ≤ s.sdp.deFails[d] + 1)) ∧
    (s.deFails d).sdp.sessions[0] = { opened := true, ledCursor := s.led.newestSeq } := by
  unfold State.deFails
  extract_lets r s1 s2 n
  have h1 : Same (areaMask [.images, .sessions, .txn, .freeCount]) s s1 :=
    State.each_same (State.drawFree_same rfl .refl) fun _ _ h => State.closeSession_same _ rfl h
  have h2 : Same (areaMask [.images, .sessions, .txn, .freeCount]) s s2 :=
    State.onSession_same _ _ rfl (State.closeSession_same _ rfl h1)
  have hled : s1.led = s.led := h1.area .ledger rfl
  have hrest := h2.area .dictRest rfl
  simp only [Area.same, Prod.mk.injEq] at hrest
  obtain ⟨-, hout, hfails, -⟩ := hrest
  have hn : n = s.sdp.deFails[d] + 1 := congrArg (fun x => x[d] + 1) hfails
  refine ⟨(updV_self ..).trans hn, (updV_self ..).trans (by rw [hout, hn]), ?_⟩
  show (updV (s1.closeSession 0).sdp.sessions 0 _)[(0 : Fin 5)] = _
  rw [updV_self, closeSession_self, hled]

theorem badEntry_of_new {key : Nat} (hkey : cfgKey key = true) (hnew : s.sdp.eccBad.contains key = false) :
    (s.badEntry key).sdp.eccBad = s.sdp.eccBad ++ [key] := by
  rw [State.badEntry, hnew, hkey]
  rfl

/-- Settles O59: each fault is kept where its row says. -/
theorem internalFaultsAreTaken : Obligations.InternalFaultsAreTaken := by
  unfold Obligations.InternalFaultsAreTaken
  refine ⟨fun t d s hrel hin => .of_when rfl ?_ ?_, fun t s hrel => ⟨_, rfl, ?_⟩, fun t s hrel => ⟨_, rfl, ?_⟩,
    fun t key s hrel hkey hnew => .of_when rfl hrel (badEntry_of_new (s := s.at t) hkey hnew), fun t s hrel => .of_when rfl hrel rfl⟩
  · rw [show (s.at t).released = s.released from rfl, hrel, show (s.at t).sdp.deOut[d] = false from hin]
    rfl
  · obtain ⟨hfails, hout, hsession⟩ := deFails_effect (s := s.at t) d
    rw [show (s.at t).sdp.deOut[d] = false from hin, Bool.false_or] at hout
    exact ⟨hfails, hout, hsession⟩
  · beta_reduce
    refine when_of_imp (P := fun u => u.pwr.crystalLost = true ∧ u.pwr.state = s.pwr.state) (fun _ => ⟨rfl, rfl⟩) fun h => ⟨?_, rfl⟩
    rw [show (s.at t).released = s.released from rfl, hrel, Bool.true_and, Bool.not_eq_false'] at h
    exact h
  · beta_reduce
    refine when_of_imp (P := fun u => u.pwr.rcLost = true ∧ u.pwr.state = s.pwr.state) (fun _ => ⟨rfl, rfl⟩) fun h => ⟨?_, rfl⟩
    rw [show (s.at t).released = s.released from rfl, hrel, Bool.true_and, Bool.not_eq_false'] at h
    exact h

end Sys2Proof.Machine

/-! The state after reset (O3, O4). -/

namespace Sys2Proof.Machine

variable {s : State}

/-- Settles O4: by the evaluation of the reset state. -/
theorem resetHoldsTheInvariant : Obligations.ResetHoldsTheInvariant := by
  unfold Obligations.ResetHoldsTheInvariant
  have hmaps : kvWf State.reset.nv.cfg = true ∧ kvWf State.reset.sdp.work = true ∧ kvWf State.reset.led.copies[0] = true ∧
      kvWf State.reset.led.copies[1] = true := by decide
  refine ⟨hmaps, fun n => (reset_shadow n).symm ▸ (by decide), fun n w h => ?_⟩
  rw [show State.reset.keep.holding[n] = none from Vector.getElem_replicate n.isLt] at h
  cases h

/-! ### What the window reads after reset, block by block -/

/-- R270: an offset between the blocks of the window reads 0 in every state. -/
theorem readWindow_between {off : Nat} (h : (0x0180 ≤ off ∧ off < 0x0200) ∨ (0x0700 ≤ off ∧ off < 0x0800) ∨
    (0x0840 ≤ off ∧ off < 0x1000) ∨ 0x1200 ≤ off) : s.readWindow off = 0 := by
  unfold State.readWindow
  iterate 14 rw [if_neg (by omega)]

theorem readWindow_mailbox {off : Nat} (hlow : 0x0400 ≤ off) (hhigh : off < 0x0700) : s.readWindow off = s.readMailbox off := by
  unfold State.readWindow
  iterate 10 rw [if_neg (by omega)]
  rw [if_pos ⟨hlow, hhigh⟩]

/-- The words below the kinematic blocks' end: SK_ID apart, the Verdict words, SK_PERMIT, NBR_NOENTRY, the winding temperatures and
REF_POINT are the ones that do not read 0 (R273, R277, R284, R287). -/
def lowReset (k : Nat) : Word :=
  if 4 ≤ k ∧ k < 8 then 0x0000000D
  else if k = 16 then 0x8F000000
  else if k = 18 then 0x0000FFFF
  else if 20 ≤ k ∧ k < 24 then 0x00008000
  else if k = 64 ∨ k = 72 ∨ k = 80 ∨ k = 88 then 0x000F0000
  else 0

/-- The blocks of the window after reset, evaluated at once. -/
theorem reset_evaluates :
    (∀ k : Fin 96, k.val ≠ 0 → State.reset.readWindow (4 * k.val) = lowReset k.val) ∧
    (∀ k : Fin 128, State.reset.readHec (0x0200 + 4 * k.val) = 0) ∧
    (∀ k : Fin 192, State.reset.readMailbox (0x0400 + 4 * k.val) = 0) ∧
    (∀ k : Fin 16, State.reset.readWindow (0x0800 + 4 * k.val) = 0) ∧
    ∀ k : Fin 128, State.reset.readWindow (0x1000 + 4 * k.val) = if k.val = 0 ∨ k.val = 64 then 0x00000040 else 0 := by
  decide +kernel

theorem reset_readWindow_low (k : Fin 96) (hk : k.val ≠ 0) : State.reset.readWindow (4 * k.val) = lowReset k.val :=
  let ⟨hlow, _⟩ := reset_evaluates
  hlow k hk

theorem reset_readHec (k : Fin 128) : State.reset.readHec (0x0200 + 4 * k.val) = 0 :=
  let ⟨_, hhec, _⟩ := reset_evaluates
  hhec k

theorem reset_readMailbox (k : Fin 192) : State.reset.readMailbox (0x0400 + 4 * k.val) = 0 :=
  let ⟨_, _, hmailbox, _⟩ := reset_evaluates
  hmailbox k

theorem reset_readTraction (k : Fin 16) : State.reset.readWindow (0x0800 + 4 * k.val) = 0 :=
  let ⟨_, _, _, htraction, _⟩ := reset_evaluates
  htraction k

theorem reset_readCvu (k : Fin 128) : State.reset.readWindow (0x1000 + 4 * k.val) =
    if k.val = 0 ∨ k.val = 64 then 0x00000040 else 0 :=
  let ⟨_, _, _, _, hcvu⟩ := reset_evaluates
  hcvu k

theorem reset_readWindow {k : Nat} (hlow : 96 ≤ k) : State.reset.readWindow (4 * k) =
    if k = 1024 ∨ k = 1088 then 0x00000040 else 0 := by
  rcases (by omega : k < 128 ∨ (128 ≤ k ∧ k < 256) ∨ (256 ≤ k ∧ k < 448) ∨ (448 ≤ k ∧ k < 512) ∨ (512 ≤ k ∧ k < 528) ∨
    (528 ≤ k ∧ k < 1024) ∨ (1024 ≤ k ∧ k < 1152) ∨ 1152 ≤ k) with h | h | h | h | h | h | h | h
  · rw [readWindow_between (by omega), if_neg (by omega)]
  · rw [readWindow_hec (by omega) (by omega), if_neg (by omega)]
    exact (congrArg _ (by simp only; omega)).trans (reset_readHec ⟨k - 128, by omega⟩)
  · rw [readWindow_mailbox (by omega) (by omega), if_neg (by omega)]
    exact (congrArg _ (by simp only; omega)).trans (reset_readMailbox ⟨k - 256, by omega⟩)
  · rw [readWindow_between (by omega), if_neg (by omega)]
  · rw [if_neg (by omega)]
    exact (congrArg _ (by simp only; omega)).trans (reset_readTraction ⟨k - 512, by omega⟩)
  · rw [readWindow_between (by omega), if_neg (by omega)]
  · refine (congrArg _ (by simp only; omega)).trans ((reset_readCvu ⟨k - 1024, by omega⟩).trans (if_congr ?_ rfl rfl))
    simp only
    omega
  · rw [readWindow_between (by omega), if_neg (by omega)]

/-- Settles O3: the windows are read word by word from the reset state. -/
theorem resetLeavesTheSpecifiedValues : Obligations.ResetLeavesTheSpecifiedValues := by
  unfold Obligations.ResetLeavesTheSpecifiedValues
  refine ⟨fun n => ⟨reset_shadow n, congrArg Permit.latch (Vector.getElem_replicate n.isLt),
    congrArg Traction.fresh (Vector.getElem_replicate n.isLt), congrArg Merged.state (Vector.getElem_replicate n.isLt)⟩,
    fun k hk => ?_, fun n => ⟨Vector.getElem_replicate n.isLt, Vector.getElem_replicate n.isLt⟩,
    fun k => Vector.getElem_replicate k.isLt, by decide, rfl, rfl⟩
  by_cases h : k.val < 96
  · rw [reset_readWindow_low ⟨k.val, h⟩ hk, lowReset, if_neg (c := k.val = 1024 ∨ k.val = 1088) (by omega)]
  · rw [reset_readWindow (by omega), if_neg (c := 4 ≤ k.val ∧ k.val < 8) (by omega), if_neg (c := k.val = 16) (by omega),
      if_neg (c := k.val = 18) (by omega), if_neg (c := 20 ≤ k.val ∧ k.val < 24) (by omega),
      if_neg (c := k.val = 64 ∨ k.val = 72 ∨ k.val = 80 ∨ k.val = 88) (by omega)]

end Sys2Proof.Machine

/-! The failure of a supervisor and degraded run (O28). -/

namespace Sys2Proof.Machine

variable {s u : State} {v : Fin 2} {t : Time}

/-! ### What leaves every supervisor what it is: the second half of a step, and what follows it -/

@[simp] theorem refuse_statuses (g : BitVec 4) (code : Nat) (once : Bool) : (s.refuse v g code once).statuses = s.statuses := by
  simp [State.refuse]

@[simp] theorem chooseTR_statuses (g : BitVec 4) (t : Time) : (s.chooseTR v g t).statuses = s.statuses := by
  simp [State.chooseTR]

@[simp] theorem chooseInternal_statuses (g : BitVec 4) : (s.chooseInternal g).statuses = s.statuses := by
  rw [State.chooseInternal]
  split
  · dsimp only
    split <;> simp
  · rfl

@[simp] theorem settleUpTo_statuses (n : Fin 4) (t : Time) : (s.settleUpTo v n t).statuses = s.statuses := by
  simp [State.settleUpTo]

theorem barResult_statuses (n : Fin 4) : (s.barResult v n).statuses = s.statuses := by
  rw [State.barResult]
  dsimp only
  split <;> simp

theorem applySection_statuses (n : Fin 4) (core total : Int) (zones : List ((Fin 4 × Fin 4) × Int)) (single : Bool) (tR : Time) :
    (s.applySection v n core total zones single tR).statuses = s.statuses := by
  rw [State.applySection]
  dsimp only
  split <;> simp [State.resultFailed]

theorem rebaseGroup_statuses (g : BitVec 4) (terms : List ((Fin 4 × Fin 4) × Answer)) (tR : Time) :
    (s.rebaseGroup g terms tR).statuses = s.statuses := by
  rw [State.rebaseGroup]
  refine (each_statuses fun x n => ?_).trans ((each_statuses fun x f => ?_).trans (each_statuses fun x p => rebaseOuter_statuses ..))
  · split <;> simp
  · split <;> simp

theorem applyResults_statuses (n : Fin 4) : (s.applyResults n).statuses = s.statuses := by
  rw [State.applyResults]
  split
  · rfl
  · dsimp only
    split
    · rfl
    · split_ifs <;> simp [applySection_statuses, rebaseGroup_statuses]

theorem request_statuses (n : Fin 4) : (s.request v n).statuses = s.statuses := by
  rw [State.request]
  dsimp only
  split_ifs <;> simp

theorem compute_statuses (n : Fin 4) : (s.compute v n).statuses = s.statuses := by
  rw [State.compute]
  dsimp only
  split_ifs
  · rfl
  · rfl
  · simp
  · split <;> simp

theorem restoreStep_statuses (n : Fin 4) : (s.restoreStep v n).statuses = s.statuses := by
  unfold State.restoreStep
  extract_lets s1 s2
  have h2 : s2.statuses = s.statuses := (request_statuses n).trans (when_statuses fun x => onSv_statuses v fun _ => rfl)
  split
  · rw [refuse_statuses, h2]
  · rw [compute_statuses, h2]

theorem outcome_statuses (n : Fin 4) : (s.outcome v n).statuses = s.statuses := by
  rw [State.outcome]
  split_ifs <;> simp

theorem selfTimer_statuses (n : Fin 4) : (s.selfTimer v n).statuses = s.statuses := onSv_statuses v fun _ => rfl

theorem selfApply_statuses (n : Fin 4) : (s.selfApply n).statuses = s.statuses := by
  obtain ⟨x, hst, ⟨heq, -⟩ | ⟨tR, heq⟩⟩ := selfApply_eq (s := s) (sec := n)
  · rw [heq, hst]
  · rw [heq, pulse_statuses, State.selfEnter, each_statuses fun x w => by simp, hst]

theorem selfAttest_statuses (n : Fin 4) : (s.selfAttest n).statuses = s.statuses := by
  rw [State.selfAttest]
  split_ifs <;> simp [selfApply_statuses]

/-! ### What a merge leaves of the supervisors: whether and why each has failed -/

/-- What is kept of a supervisor's failure, and its step overruns. -/
def Sv.fault (x : Sv) : SvState × Nat × Time × Nat := (x.st, x.failCause, x.failTime, x.overruns)

def State.faults (s : State) : Vector (SvState × Nat × Time × Nat) 2 := s.sv.map Sv.fault

theorem fault_of_faults (h : u.faults = s.faults) (v : Fin 2) : u.sv[v].fault = s.sv[v].fault := by
  have hv := congrArg (fun x => x[v]) h
  simpa only [State.faults, Fin.getElem_fin, Vector.getElem_map] using hv

theorem statuses_of_faults (h : u.faults = s.faults) : u.statuses = s.statuses := by
  have hmap (x : State) : x.statuses = x.faults.map Prod.fst := by
    rw [State.statuses, State.faults, Vector.map_map]
    rfl
  rw [hmap, hmap, h]

theorem faults_of_sv (h : u.sv = s.sv) : u.faults = s.faults := congrArg (Vector.map Sv.fault) h

theorem faults_of_same {w : Nat} (h : Same w s u) (hw : w.testBit Area.supervisors.ctorIdx = false) : u.faults = s.faults :=
  faults_of_sv (h.out .supervisors hw)

theorem onSv_faults (v : Fin 2) {f : Sv → Sv} (hf : ∀ x, (f x).fault = x.fault) : (s.onSv v f).faults = s.faults := by
  rw [State.faults, onSv_sv, updV]
  ext1 i hi
  simp only [State.faults, Vector.getElem_map, Vector.getElem_set]
  split
  · next h => subst h; exact hf _
  · rfl

theorem brakeStep_faults (n : Fin 4) : (s.brakeStep n).faults = s.faults :=
  faults_of_same (w := areaMask [.keeperRest, .traction, .pulses, .offered]) (State.brakeStep_same n rfl .refl) rfl

theorem rebaseHead_faults (h : Fin 8) (b : Bool) (z : Int) (t : Time) : (s.rebaseHead h b z t).faults = s.faults := by
  unfold State.rebaseHead
  extract_lets d d0 s1
  have h1 : s1.faults = s.faults := each_view State.faults fun x w => onSv_faults w fun _ => rfl
  exact (faults_of_same (w := areaMask [.nvHeads, .cumValid, .offered]) (State.record_same _ _ _ _ rfl
    (State.onNvHead_same _ _ rfl (State.setCumValid_same h true rfl (.refl (s := s1))))) rfl).trans h1

theorem rebaseOuter_faults (n m : Fin 4) (a : Answer) (t : Time) : (s.rebaseOuter n m a t).faults = s.faults := by
  rw [State.rebaseOuter]
  split
  · exact rebaseHead_faults ..
  · rfl

theorem sweepRebase_faults (n : Fin 4) : (s.sweepRebase n).faults = s.faults := by
  rw [State.sweepRebase]
  split
  · rfl
  · refine each_view State.faults fun x m => ?_
    split
    · exact rebaseOuter_faults ..
    · rfl

theorem mergedEntry_faults (n : Fin 4) (st old : SecState) : (s.mergedEntry n st old).faults = s.faults := by
  unfold State.mergedEntry
  extract_lets p s1 s2 s3 s4
  have h3 : s3.faults = s.faults := when_view State.faults (faults_of_sv rfl)
  have hbar : (s3.when (st == .clear) fun s => s.setBarred n false).faults = s3.faults :=
    when_view State.faults (faults_of_same (w := areaMask [.keeperRest]) (State.setBarred_same n false rfl .refl) rfl)
  have h4 : s4.faults = (s3.when (st == .clear) fun s => s.setBarred n false).faults :=
    when_view State.faults (faults_of_sv rfl)
  exact (when_view State.faults (sweepRebase_faults n)).trans (h4.trans (hbar.trans h3))

theorem mergeSec_faults (n : Fin 4) : (s.mergeSec n).faults = s.faults := by
  unfold State.mergeSec
  extract_lets old new s1 s2 s3 s4 s5
  split
  · rfl
  · have h2 : s2.faults = s1.faults := when_view State.faults (mergedEntry_faults ..)
    have h3 : s3.faults = s2.faults := when_view State.faults (faults_of_sv rfl)
    have h4 : s4.faults = s3.faults := when_view State.faults
      (faults_of_same (w := areaMask [.words]) (State.publishWord_same n _ rfl .refl) rfl)
    have h5 : s5.faults = s4.faults := when_view State.faults
      (faults_of_same (w := areaMask [.kin, .pulses, .freeCount]) (State.kinProvisional_same n rfl .refl) rfl)
    exact (faults_of_same (w := areaMask [.kin, .pulses]) (State.kinMerged_same n _ rfl (.refl (s := s5))) rfl).trans
      (h5.trans (h4.trans (h3.trans h2)))

theorem publish_faults : s.publish.faults = s.faults := by
  unfold State.publish
  extract_lets s1 s2
  refine (faults_of_same (w := areaMask [.ledger, .ckptRun, .pulses, .permits]) (State.requalify_same rfl
    (State.checkpointDue_same rfl (State.attestEntries_same rfl (.refl (s := s2))))) rfl).trans ?_
  exact (each_view State.faults fun _ n => mergeSec_faults n).trans (each_view State.faults fun _ n => brakeStep_faults n)

@[simp] theorem publish_statuses : s.publish.statuses = s.statuses := statuses_of_faults publish_faults

theorem wakeEvent_faults (n : Nat) : (s.wakeEvent n).faults = s.faults :=
  faults_of_same (w := areaMask [.power]) (State.wakeEvent_same n rfl .refl) rfl

theorem managePower_faults : s.managePower.faults = s.faults :=
  faults_of_same (w := areaMask [.pulses, .power, .offered]) (State.managePower_same rfl .refl) rfl

@[simp] theorem managePower_statuses : s.managePower.statuses = s.statuses := statuses_of_faults managePower_faults

/-! ### The rest of an evaluation step -/

@[simp] theorem dropPermit_statuses (n : Fin 4) (l : List Nat) (hs : List (Fin 8)) : (s.dropPermit n l hs).statuses = s.statuses :=
  statuses_of_same (w := areaMask [.permits, .drops, .offered]) (State.dropPermit_same n l hs rfl .refl) rfl

theorem castVote_statuses (n : Fin 4) (x : Vote) : (s.castVote v n x).statuses = s.statuses := by
  rw [State.castVote]
  dsimp only
  split
  · rfl
  · split
    · simp
    · simp
    · split <;> simp

@[simp] theorem horizons_statuses : (s.horizons v).statuses = s.statuses := by
  unfold State.horizons
  extract_lets
  exact onSv_statuses v fun _ => rfl

@[simp] theorem proposeBits_statuses : (s.proposeBits v).statuses = s.statuses := onSv_statuses v fun _ => rfl

theorem clearance_statuses (n : Fin 4) : (s.clearance v n).statuses = s.statuses := by
  unfold State.clearance
  extract_lets conds now s1
  have h1 : s1.statuses = s.statuses := by simp [s1]
  split
  · split
    · rw [enter_statuses, h1]
    · exact h1
  · exact h1

/-- After the proposals an evaluation step only plans; the supervisors stay what they are. -/
theorem planned_statuses : (s.planned v).statuses = s.statuses := by
  have hsame : Same (areaMask [.amon, .dets, .wse, .crossbar, .passages, .permits, .drops, .cumValid, .pulses, .offered,
      .selfTest, .freeCount, .chans, .warns, .scans]) (s.horizons v) (s.planned v) :=
    State.eachFin_same (State.isoJudge_same rfl (State.isoWatch_same v rfl (State.horizonStops_same rfl .refl)))
      fun _ c k => State.planStep_same v c rfl k
  exact (statuses_of_same hsame rfl).trans horizons_statuses

theorem withKeep_statuses (k : Keeper) : ({ s with keep := k } : State).statuses = s.statuses := rfl

theorem evalBack_statuses (trig : BitVec 4) : (s.evalBack v trig).statuses = s.statuses := by
  unfold State.evalBack
  split
  · rfl
  · extract_lets s1 s2 s3 s4 s5 s6 s7 k s8
    have h1 : s1.statuses = s.statuses := each_statuses fun x n => (applyResults_statuses n).trans (barResult_statuses n)
    have h2 : s2.statuses = s1.statuses := each_statuses fun x n => restoreStep_statuses n
    have h3 : s3.statuses = s2.statuses := each_statuses fun x n =>
      (selfAttest_statuses n).trans ((selfTimer_statuses n).trans (outcome_statuses n))
    have h4 : s4.statuses = s3.statuses := each_statuses fun x n => by rw [State.occupancy]; split_ifs <;> simp
    have h5 : s5.statuses = s4.statuses := each_statuses fun x n => clearance_statuses n
    have h6 : s6.statuses = s5.statuses := each_statuses fun x n => castVote_statuses n _
    have h7 : s7 = s6.planned v := rfl
    have h8 : s8.statuses = s7.statuses := withKeep_statuses _
    rw [managePower_statuses, publish_statuses, proposeBits_statuses, h8, h7, planned_statuses, h6, h5, h4, h3, h2, h1]

/-- R36: an evaluation step leaves every supervisor what it is. -/
theorem evalStep_statuses : (s.evalStep v).statuses = s.statuses := (evalBack_statuses _).trans (evalFront_statuses v)

/-! ### The failure of a supervisor (R57, R58, R432) -/

theorem low_of_keeps {n : Fin 4} (h : Keeps s u) (hlow : s.keep.permits[n].latch = false) : u.keep.permits[n].latch = false := by
  obtain ⟨-, -, -, -, hrise, -⟩ := h
  exact Bool.eq_false_iff.2 fun hu => Bool.eq_false_iff.1 hlow (hrise n hu)

/-- What is done for a permit of a list leaves it low, and no other one rises. -/
theorem each_dropPermit_latch {l : List (Fin 4)} {n : Fin 4} {c : Nat} {hs : List (Fin 8)}
    (h : n ∈ l ∨ s.keep.permits[n].latch = false) : (State.each s l fun s n => s.dropPermit n [c] hs).keep.permits[n].latch = false := by
  induction l generalizing s with
  | nil => exact h.resolve_left List.not_mem_nil
  | cons m l ih =>
    refine ih ?_
    by_cases hmn : n = m
    · subst hmn
      exact .inr (dropPermit_latch ..)
    · refine h.imp (fun hm => (List.mem_cons.1 hm).resolve_left hmn) fun hlow => ?_
      exact low_of_keeps (State.dropPermit_keeps m [c] hs (Keeps.refl s)) hlow

/-- R58, R319: what a failure does after the permits have fallen. -/
def State.afterFailure (s : State) (v : Fin 2) (cause row : Nat) : State :=
  ((((s.when (s.serving.isEmpty && s.phase == .service) fun s => s.journalStop 5).record (codeFaultRow row) (svSource v)
    [BitVec.ofNat 8 v.val, BitVec.ofNat 8 cause]).wakeEvent 2).publish).managePower

theorem afterFailure_faults (cause row : Nat) : (s.afterFailure v cause row).faults = s.faults := by
  have hstop : (s.when (s.serving.isEmpty && s.phase == .service) fun s => s.journalStop 5).faults = s.faults :=
    when_view State.faults (faults_of_same (w := areaMask [.journal, .dictRest]) (State.journalStop_same 5 rfl .refl) rfl)
  rw [State.afterFailure, managePower_faults, publish_faults, wakeEvent_faults, ← hstop]
  exact faults_of_sv rfl

theorem afterFailure_keeps (cause row : Nat) : Keeps s (s.afterFailure v cause row) :=
  State.managePower_keeps (State.publish_keeps (State.wakeEvent_keeps 2 (State.record_keeps _ _ _ _
    (State.when_keeps (Keeps.refl s) fun _ h => State.journalStop_keeps 5 h))))

/-- R58 steps 1 and 2, up to the permits: the supervisor is marked as failed. -/
def State.svMarked (s : State) (v : Fin 2) (cause : Nat) : State :=
  ((s.isoAbort false).unacknowledge v).onSv v fun x => { x with
    st := .failed, failCause := cause, failTime := s.tbNow, votes := Vector.replicate 4 (.drop 4), inbox := [] }

/-- R58 step 2: every permit falls. -/
def State.svDropped (s : State) (v : Fin 2) (cause : Nat) : State :=
  State.each (s.svMarked v cause) sections fun s n => s.dropPermit n [4] []

/-- R58: the time of the failure is kept, the Tumbler's tolerances end, and a lockstep failure is counted. -/
def State.failureKept (s : State) (v : Fin 2) (cause : Nat) (now : Time) : State :=
  { s with
    keep := { s.keep with failedAt := some now, tumbler := {} }
    nv := { s.nv with svLock := updV s.nv.svLock v fun n => if cause = 1 then n + 1 else n } }

theorem svFail_of_serves {cause row : Nat} (h : s.sv[v].serves = true) : s.svFail v cause row =
    ((s.svDropped v cause).failureKept v cause s.clk.now).afterFailure v cause row := by
  unfold State.svFail
  rw [if_neg (by rw [h]; decide), State.afterFailure, State.failureKept, State.svDropped, State.svMarked]

theorem svMarked_fault (cause : Nat) :
    (s.svMarked v cause).sv[v].fault = (.failed, cause, s.tbNow, s.sv[v].overruns) := by
  have hsv0 : ((s.isoAbort false).unacknowledge v).sv = s.sv :=
    (State.unacknowledge_same (w := areaMask [.pulses, .offered, .selfTest, .freeCount, .ledger]) v rfl
      (State.isoAbort_same false rfl .refl)).area .supervisors rfl
  rw [← hsv0]
  exact congrArg Sv.fault (updV_self ..)

theorem svDropped_fault (cause : Nat) :
    (s.svDropped v cause).sv[v].fault = (.failed, cause, s.tbNow, s.sv[v].overruns) := by
  unfold State.svDropped
  refine (fault_of_faults (each_view State.faults fun x n => ?_) v).trans (svMarked_fault cause)
  exact faults_of_same (w := areaMask [.permits, .drops, .offered]) (State.dropPermit_same n [4] [] rfl .refl) rfl

theorem svDropped_latch (cause : Nat) (n : Fin 4) : (s.svDropped v cause).keep.permits[n].latch = false := by
  unfold State.svDropped
  exact each_dropPermit_latch (.inl (List.mem_finRange n))

/-- R58: a supervisor that serves fails, with its cause and time, and every permit falls. -/
theorem svFail_effect {cause row : Nat} (h : s.sv[v].serves = true) :
    (s.svFail v cause row).sv[v].fault = (.failed, cause, s.tbNow, s.sv[v].overruns) ∧
    ∀ n : Fin 4, (s.svFail v cause row).keep.permits[n].latch = false := by
  have hkept (x : State) (now : Time) : (x.failureKept v cause now).sv = x.sv ∧
      (x.failureKept v cause now).keep.permits = x.keep.permits := ⟨rfl, rfl⟩
  obtain ⟨hsv, hpermits⟩ := hkept (s.svDropped v cause) s.clk.now
  rw [svFail_of_serves h]
  refine ⟨?_, fun n => low_of_keeps (afterFailure_keeps cause row) (by rw [hpermits]; exact svDropped_latch cause n)⟩
  rw [fault_of_faults (afterFailure_faults cause row) v, hsv, svDropped_fault]

/-! ### Degraded run (R58, R172, R195, R319) -/

theorem restLedger_statuses (w : Fin 2) : (s.restLedger w).statuses = s.statuses := by
  refine each_statuses fun x p => ?_
  split
  · rw [State.restEntry]
    split
    · rfl
    · split_ifs <;> simp
  · rfl

/-- R58 step 3: the supervisor runs alone, and since now. -/
def State.runsAlone (s : State) (w : Fin 2) : Prop :=
  s.keep.degraded = true ∧ s.keep.degradedAt = some s.clk.now ∧ s.sv[w].st = .survivor

theorem runsAlone_of_keep {w : Fin 2} (h : s.runsAlone w) (hst : u.statuses = s.statuses) (hdeg : Area.degraded.same s u)
    (hclk : u.clk = s.clk) : u.runsAlone w := by
  obtain ⟨hon, hat, hsv⟩ := h
  simp only [Area.same, Prod.mk.injEq] at hdeg
  obtain ⟨hon', hat', -⟩ := hdeg
  rw [State.runsAlone, hon', hat', hclk, st_of_statuses hst]
  exact ⟨hon, hat, hsv⟩

theorem evalStep_runsAlone {w : Fin 2} (h : s.runsAlone w) : (s.evalStep v).runsAlone w :=
  runsAlone_of_keep h evalStep_statuses (State.evalStep_same (w := maskBut .degraded) v rfl .refl).only
    (State.evalStep_same (w := maskBut .clk) v rfl .refl).only

theorem enterDegraded_runsAlone (w : Fin 2) : (s.enterDegraded w).runsAlone w := by
  unfold State.enterDegraded
  extract_lets s1 s2 k s3 s4 s5
  have hclk2 : s2.clk = s.clk := (State.onSv_same (w := maskBut .clk) _ _ rfl (State.restLedger_same w rfl
    (State.evalStep_same w rfl .refl))).only
  have h3 : s3.runsAlone w := by
    refine ⟨rfl, congrArg some (congrArg Clock.now hclk2).symm, ?_⟩
    show (updV s1.sv w _)[w].st = .survivor
    rw [updV_self]
  have hwords : Same (areaMask [.offered, .words]) s3 s5 :=
    State.each_same (State.record_same _ _ _ _ rfl .refl) fun _ n h => State.publishWord_same n _ rfl h
  exact evalStep_runsAlone (runsAlone_of_keep h3 (statuses_of_same hwords rfl) (hwords.area .degraded rfl) (hwords.area .clk rfl))

/-! The end of a journal (R318 to R322) leaves every supervisor what it is. -/

theorem journalFinish_statuses : s.journalFinish.statuses = s.statuses :=
  statuses_of_same (w := areaMask [.stored, .journal, .dictRest]) (State.journalFinish_same rfl .refl) rfl

theorem connFresh_statuses (k : Fin 8) : (s.connFresh k).statuses = s.statuses := by
  unfold State.connFresh
  extract_lets s1
  have h1 : s1.statuses = s.statuses := by
    rw [State.statuses, State.statuses, Vector.map_map]
    rfl
  exact (statuses_of_same (w := areaMask [.pulses, .hasp, .offered]) (State.neighbourNoEntry_same k rfl
    (State.onHaspConn_same k _ rfl (.refl (s := s1)))) rfl).trans h1

theorem configHooks_statuses (old : State) (keys : List Nat) : (s.configHooks old keys).statuses = s.statuses := by
  unfold State.configHooks
  extract_lets s0 s1 s2 s3 s4 sensed s4b s5 s6 s7 s8 s9
  have h2 : Same (maskBut .supervisors) s s2 := State.eachFin_same (State.each_same (State.each_same .refl
    fun _ h k => State.headOff_same h rfl k) fun _ h k => State.headOn_same h rfl k) fun _ c k => State.chanHook_same old keys c rfl k
  have h4 : Same (maskBut .supervisors) s s4b := State.each_same (State.each_same (State.each_same h2
    fun _ b k => State.when_same k fun _ k => State.blankJudge_same b rfl k) fun _ c k => State.onTch_same c _ rfl k)
    fun _ h k => State.bodyWarning_same h rfl k
  have h5 : s5.statuses = s4b.statuses := when_statuses fun _ => statuses_of_sv rfl
  have h6 : s6.statuses = s5.statuses := each_statuses fun _ k => connFresh_statuses k
  have h9 : Same (maskBut .supervisors) s6 s9 := by
    have h7 : Same (maskBut .supervisors) s6 s7 := State.each_same .refl fun _ p k => State.linkLost_same p rfl k
    have h8 : Same (maskBut .supervisors) s6 s8 := Same.ite (State.whenSome_same h7 fun _ p k => State.signalOn_same p rfl k) h7
    exact State.when_same h8 fun _ k => State.judgeHoldover_same rfl k
  have hend : Same (maskBut .supervisors) s9 ((s9.when (old.syncPpsMode != s9.syncPpsMode) fun s => s.ppsRestart).amonRefresh) :=
    State.amonRefresh_same rfl (State.when_same .refl fun _ k => State.ppsRestart_same rfl k)
  rw [statuses_of_sv hend.only, statuses_of_sv h9.only, h6, h5, statuses_of_sv h4.only]

theorem strikeSec_statuses (n : Fin 4) : (s.strikeSec n).statuses = s.statuses := by
  unfold State.strikeSec
  extract_lets s1 hs s2 s3
  have h2 : s2.statuses = s1.statuses := each_statuses fun _ _ => setCumValid_statuses ..
  have h3 : s3.statuses = s2.statuses := bothSv_statuses fun _ _ => rfl
  refine (each_statuses fun x w => ?_).trans (h3.trans h2)
  split
  · rfl
  · exact enter_statuses ..

theorem publishAll_statuses : s.publishAll.statuses = s.statuses :=
  publish_statuses.trans (each_statuses fun _ _ => proposeBits_statuses)

theorem applyConfig_statuses (l : List Change) : (s.applyConfig l).statuses = s.statuses := by
  unfold State.applyConfig
  extract_lets keys s1 hit s2 s3 s4
  have h1 : s1.statuses = s.statuses := statuses_of_same (w := areaMask [.work]) (State.after_same l rfl .refl) rfl
  have h2 : s2.statuses = s1.statuses := configHooks_statuses ..
  have h3 : s3.statuses = s2.statuses := each_statuses fun _ n => strikeSec_statuses n
  have h4 : s4.statuses = s3.statuses := each_statuses fun _ w => each_statuses fun _ n => configStep_statuses w n
  rw [publishAll_statuses, h4, h3, h2, h1]

theorem journalDone_statuses : s.journalDone.statuses = s.statuses := by
  unfold State.journalDone
  extract_lets j s1 vals s2
  have h2 : s2.statuses = s1.statuses := when_statuses fun _ => statuses_of_sv rfl
  rw [applyConfig_statuses, h2, journalFinish_statuses]

/-- R319: the answer that waited for the journal is given. -/
def State.jrnReplied (s : State) (reply : Option (Fin 5 × SdpSrc × List Byte)) : State := match reply with
  | some (i, src, p) => s.answerKept src i p
  | none => s

/-- R319: the survivor ends the journal under way. -/
def State.journalAnswered (s : State) : State :=
  { s.journalDone with sdp := { s.journalDone.sdp with jrnReply := none } }.jrnReplied s.sdp.jrnReply

theorem jrnReplied_runsAlone {w : Fin 2} (h : s.runsAlone w) (reply : Option (Fin 5 × SdpSrc × List Byte)) :
    (s.jrnReplied reply).runsAlone w := by
  match reply with
  | none => exact h
  | some (i, src, p) =>
    have hsame : Same (areaMask [.mailbox, .sessions, .ports, .switch, .offered]) s (s.answerKept src i p) :=
      State.answerKept_same src i p rfl .refl
    exact runsAlone_of_keep h (statuses_of_same hsame rfl) (hsame.area .degraded rfl) (hsame.area .clk rfl)

theorem withSdp_runsAlone {w : Fin 2} (h : s.runsAlone w) (d : Sdp) : { s with sdp := d }.runsAlone w := h

theorem journalAnswered_runsAlone {w : Fin 2} (h : s.runsAlone w) : s.journalAnswered.runsAlone w :=
  jrnReplied_runsAlone (withSdp_runsAlone (runsAlone_of_keep h journalDone_statuses
    (State.journalDone_same (w := maskBut .degraded) rfl .refl).only
    (State.journalDone_same (w := maskBut .clk) rfl .refl).only) _) _

theorem completes_degradedRunEntry {w : Fin 2} (hserving : s.serving = [w]) (hdeg : s.keep.degraded = false)
    (hphase : s.phase = .service) :
    Completes (.degradedRunEntry t) s fun u =>
      u.keep.degraded = true ∧ u.keep.degradedAt = some u.clk.now ∧ u.sv[w].st = .survivor := by
  have hgo : (!(s.at t).keep.degraded && (s.at t).phase == .service) = true := by
    rw [show (s.at t).keep.degraded = false from hdeg, show (s.at t).phase = .service from hphase]
    rfl
  refine ⟨_, rfl, ?_⟩
  rw [show (s.at t).serving = [w] from hserving]
  dsimp only
  rw [when_of hgo]
  have h1 : ((s.at t).enterDegraded w).runsAlone w := enterDegraded_runsAlone w
  generalize (s.at t).enterDegraded w = s1 at h1 ⊢
  show (s1.when (s1.nv.journal.state == 2) State.journalAnswered).runsAlone w
  exact when_of_imp (P := fun u => u.runsAlone w) (fun _ => journalAnswered_runsAlone h1) fun _ => h1

/-! ### DEGRADED_CLEAR_EXPIRY (R195) -/

/-- R195: the expiry of a section's DegradedClearTime is kept and recorded. -/
def State.clearExpired (s : State) (n : Fin 4) : State :=
  { s with keep := { s.keep with expired := s.keep.expired ||| (1 <<< n.val) } }.record codeDegradedExpiry 0
    [BitVec.ofNat 8 n.val]

/-- The record of a section's expiry. -/
def expiryEvent (n : Fin 4) (now : Time) : RecEvent := { code := codeDegradedExpiry, payload := [BitVec.ofNat 8 n.val], time := now }

theorem clearExpired_offered (n : Fin 4) : (s.clearExpired n).intake.offered = s.intake.offered ++ [expiryEvent n s.tbNow] := rfl

theorem clearExpired_getLsbD (n m : Fin 4) : (s.clearExpired n).keep.expired.getLsbD m.val =
    (s.keep.expired.getLsbD m.val || decide (n = m)) := by
  show (s.keep.expired ||| ((1 <<< n.val : Nat) : BitVec 4)).getLsbD m.val = _
  rw [BitVec.getLsbD_or, getLsbD_cast_one_shiftLeft _ m.isLt]
  exact congrArg _ (decide_eq_decide.2 Fin.val_inj)

theorem each_clearExpired (l : List (Fin 4)) : 
    (∀ m : Fin 4, (State.each s l State.clearExpired).keep.expired.getLsbD m.val =
      (s.keep.expired.getLsbD m.val || decide (m ∈ l))) ∧
    (State.each s l State.clearExpired).intake.offered = s.intake.offered ++ l.map (expiryEvent · s.tbNow) ∧
    (State.each s l State.clearExpired).tbNow = s.tbNow := by
  induction l generalizing s with
  | nil => exact ⟨fun m => by simp [State.each], by simp [State.each], rfl⟩
  | cons n l ih =>
    obtain ⟨hbits, hoffered, hnow⟩ := ih (s := s.clearExpired n)
    refine ⟨fun m => ?_, ?_, hnow⟩
    · refine (hbits m).trans ?_
      rw [clearExpired_getLsbD, Bool.or_assoc, Bool.eq_iff_iff]
      simp only [Bool.or_eq_true, decide_eq_true_eq, List.mem_cons, eq_comm (a := n)]
    · refine hoffered.trans ?_
      rw [clearExpired_offered, List.append_assoc]
      rfl

/-- R195: the sections whose DegradedClearTime has run out are kept, and those that had not run out before are recorded. -/
theorem completes_degradedClearExpiry {n : Fin 4} (hdeg : s.keep.degraded = true) (hnew : s.keep.expired.getLsbD n.val = false)
    (hleft : (s.at t).degradedLeft n = 0) :
    Completes (.degradedClearExpiry t) s fun u =>
      (∀ m : Fin 4, u.keep.expired.getLsbD m.val = (s.keep.expired.getLsbD m.val || (s.at t).degradedLeft m == 0)) ∧
      ∃ e ∈ u.intake.offered, e.code = codeDegradedExpiry ∧ e.payload = [BitVec.ofNat 8 n.val] ∧ e.time = u.tbNow := by
  refine .of_when rfl hdeg ?_
  set l := sections.filter fun n => !(s.at t).keep.expired.getLsbD n.val && (s.at t).degradedLeft n == 0 with hl
  obtain ⟨hbits, hoffered, hnow⟩ := each_clearExpired (s := s.at t) l
  have hmem (m : Fin 4) : m ∈ l ↔ (!s.keep.expired.getLsbD m.val && (s.at t).degradedLeft m == 0) = true := by
    rw [hl, List.mem_filter]
    exact and_iff_right (List.mem_finRange m)
  refine ⟨fun m => (hbits m).trans ?_, expiryEvent n (s.at t).tbNow, ?_, rfl, rfl, hnow.symm⟩
  · have hin : decide (m ∈ l) = (!s.keep.expired.getLsbD m.val && (s.at t).degradedLeft m == 0) :=
      Bool.eq_iff_iff.2 (decide_eq_true_iff.trans (hmem m))
    rw [hin]
    show (s.keep.expired.getLsbD m.val || _) = _
    rw [Bool.or_and_distrib_left, Bool.or_not_self, Bool.true_and]
  · refine hoffered.symm ▸ List.mem_append_right _ (List.mem_map_of_mem ((hmem n).2 ?_))
    rw [hnew, hleft]
    decide

/-- R57, R58, R432: what is said of a supervisor's failure with its cause and time. -/
theorem svFail_at {cause row : Nat} (h : s.sv[v].serves = true) : ((s.at t).svFail v cause row).sv[v].st = .failed ∧
    ((s.at t).svFail v cause row).sv[v].failCause = cause ∧ ((s.at t).svFail v cause row).sv[v].failTime = (s.at t).tbNow ∧
    ∀ n : Fin 4, ((s.at t).svFail v cause row).keep.permits[n].latch = false := by
  obtain ⟨hfault, hlow⟩ := svFail_effect (s := s.at t) (v := v) (cause := cause) (row := row) h
  simp only [Sv.fault, Prod.mk.injEq] at hfault
  obtain ⟨hst, hcause, htime, -⟩ := hfault
  exact ⟨hst, hcause, htime, hlow⟩

/-- R337, R432: four periods overrun are counted, and the pair is stopped. -/
theorem completes_stepOverrun (h : s.sv[v].serves = true) :
    Completes (.stepOverrun t v) s fun u =>
      u.sv[v].overruns = s.sv[v].overruns + 4 ∧
      u.sv[v].st = .failed ∧ u.sv[v].failCause = 1 ∧ u.sv[v].failTime = (s.at t).tbNow ∧
      ∀ n : Fin 4, u.keep.permits[n].latch = false := by
  set x := (s.at t).onSv v fun x => { x with overruns := x.overruns + 4 } with hx
  have hwhen : ((s.at t).when (s.at t).sv[v].serves fun s => s.onSv v fun x => { x with overruns := x.overruns + 4 }) = x :=
    when_of h
  have hsv : x.sv[v] = { s.sv[v] with overruns := s.sv[v].overruns + 4 } := updV_self ..
  obtain ⟨hfault, hlow⟩ := svFail_effect (s := x) (v := v) (cause := 1) (row := 3) (by rw [hsv]; exact h)
  simp only [Sv.fault, Prod.mk.injEq] at hfault
  obtain ⟨hst, hcause, htime, hover⟩ := hfault
  refine ⟨_, congrArg (fun y : State => Host.Outcome.next (y.svFail v 1 3)) hwhen, hover.trans (congrArg Sv.overruns hsv), hst, hcause, htime, hlow⟩

/-- Settles O28: each fault takes the supervisor out with its cause and time, and no permit rises on the way. -/
theorem supervisorFaultsFailTheSupervisor : Obligations.SupervisorFaultsFailTheSupervisor := by
  unfold Obligations.SupervisorFaultsFailTheSupervisor
  refine ⟨fun t v c s h => ⟨_, rfl, ?_⟩, fun t v s h => ⟨_, rfl, svFail_at h⟩, fun t v s => completes_stepOverrun,
    fun t w s => completes_degradedRunEntry, fun t n s => completes_degradedClearExpiry⟩
  cases c with
  | lockstep => exact svFail_at h
  | ecc => exact svFail_at h

end Sys2Proof.Machine

/-! The isolation test and the scheduled self-tests (O57, O58). -/

namespace Sys2Proof.Machine

variable {s u : State} {t : Time}

/-! ### The scheduled self-tests (R443 to R446) -/

theorem serves_of_evaluates {v : Fin 2} (h : s.evaluates v = true) : s.sv[v].serves = true := by
  rw [State.evaluates, Bool.and_eq_true, Bool.and_eq_true] at h
  obtain ⟨⟨-, hserves⟩, -⟩ := h
  exact hserves

theorem at_evaluates (v : Fin 2) : (s.at t).evaluates v = s.evaluates v := rfl

theorem at_nv_svEcc (t : Time) : (s.at t).nv.svEcc = s.nv.svEcc := by
  show (if _ then _ else _ : NonVolatile).svEcc = _
  split <;> rfl

/-- A fault that the scrub or the comparator's test finds fails its supervisor. -/
theorem svFail_of_evaluates {v : Fin 2} {cause row : Nat} (h : s.evaluates v = true) :
    ((s.at t).svFail v cause row).sv[v].st = .failed ∧ ((s.at t).svFail v cause row).sv[v].failCause = cause ∧
    ∀ n : Fin 4, ((s.at t).svFail v cause row).keep.permits[n].latch = false := by
  obtain ⟨hst, hcause, -, hlow⟩ := svFail_at (t := t) (cause := cause) (row := row) (serves_of_evaluates h)
  exact ⟨hst, hcause, hlow⟩

theorem tumblerFails_failing : s.tumblerFails.keep.tumbler.failing = true := by
  unfold State.tumblerFails
  extract_lets k tu s1
  have hrest : Same (areaMask [.supervisors, .offered]) s1 ((State.each s1 (sections.filter fun (n : Fin 4) =>
      decide (1 ≤ s.legCount n)) fun s n => s.notify (.cause n 8 none)).record (codeFaultRow 11) 3 []) :=
    State.record_same _ _ _ _ rfl (State.each_same .refl fun _ _ h => State.notify_same _ rfl h)
  exact congrArg Tumbler.failing (hrest.area .tumbler rfl)

/-- R54: what a drop leaves of its permit. -/
theorem dropPermit_permit (n : Fin 4) (c : Nat) (hs : List (Fin 8)) : ∃ cause, (s.dropPermit n [c] hs).keep.permits[n] =
    { s.keep.permits[n] with latch := false, qualAt := none, cause := cause } := by
  unfold State.dropPermit
  extract_lets p d isDrop p' s1
  refine ⟨p'.cause, ?_⟩
  have h1 : s1.keep.permits[n] = p' := updV_self ..
  split <;> exact h1

/-- R53: what a requalification keeps of a permit that is low. -/
theorem requalify_permit_of_low {n : Fin 4} (h : s.keep.permits[n].latch = false) :
    s.requalify.keep.permits[n].latch = false ∧ s.requalify.keep.permits[n].testAt = s.keep.permits[n].testAt ∧
    s.requalify.keep.permits[n].gateShut = s.keep.permits[n].gateShut := by
  refine ⟨requalify_latch h, ?_, ?_⟩
  · rw [requalify_permits]
    unfold Permit.requalified
    extract_lets since
    split
    · rfl
    · split <;> rfl
  · rw [requalify_permits]
    exact requalified_gateShut ..

/-- R444: after a path test the permit is low, and its gate is shut where the test failed. -/
theorem pathTested_permit (n : Fin 4) (ok : Bool) :
    (s.pathTested n ok).keep.permits[n].latch = false ∧ (s.pathTested n ok).keep.permits[n].testAt = s.clk.now ∧
    (s.pathTested n ok).keep.permits[n].gateShut = (s.keep.permits[n].gateShut || !ok) := by
  unfold State.pathTested
  extract_lets s1
  have h1 : s1.keep.permits[n] =
      { s.keep.permits[n] with testAt := s.clk.now, latch := false, qualAt := none, gateShut := s.keep.permits[n].gateShut || !ok } :=
    updV_self ..
  split
  · rw [h1]
    exact ⟨rfl, rfl, rfl⟩
  · obtain ⟨cause, hdrop⟩ := dropPermit_permit (s := s1) n 5 []
    show (s1.dropPermit n [5] []).keep.permits[n].latch = false ∧ (s1.dropPermit n [5] []).keep.permits[n].testAt = _ ∧
      (s1.dropPermit n [5] []).keep.permits[n].gateShut = _
    rw [hdrop, h1]
    exact ⟨rfl, rfl, rfl⟩

theorem gate_of_mayTestPath {n : Fin 4} (h : s.mayTestPath n = true) : s.keep.permits[n].gateShut = false := by
  simp only [State.mayTestPath, Bool.and_eq_true, Bool.not_eq_true'] at h
  obtain ⟨⟨⟨⟨⟨-, hgate⟩, -⟩, -⟩, -⟩, -⟩ := h
  exact hgate

theorem completes_deadboltPathTest {n : Fin 4} {ok : Bool} (h : (s.at t).mayTestPath n = true) :
    Completes (.deadboltPathTest t n ok) s fun u =>
      u.keep.permits[n].testAt = u.clk.now ∧ u.keep.permits[n].latch = false ∧ u.keep.permits[n].gateShut = !ok := by
  refine .of_when rfl h ?_
  obtain ⟨hlow, hat, hgate⟩ := pathTested_permit (s := s.at t) n ok
  obtain ⟨hlow', hat', hgate'⟩ := requalify_permit_of_low hlow
  have hclk : ((s.at t).pathTested n ok).requalify.clk = (s.at t).clk :=
    (State.requalify_same (w := maskBut .clk) rfl (State.pathTested_same n ok rfl .refl)).only
  rw [hat', hat, hgate', hgate, gate_of_mayTestPath h, hclk]
  exact ⟨rfl, hlow', Bool.false_or _⟩

theorem completes_tumblerTest {ok : Bool} (hphase : s.phase = .service) (hpwr : s.pwr.state ≠ .hibernate) :
    Completes (.tumblerTest t ok) s fun u => u.keep.tumbler.failing = !ok := by
  refine .of_when rfl ?_ ?_
  · rw [show (s.at t).phase = .service from hphase]
    exact bne_iff_ne.2 hpwr
  · cases ok with
    | true => rfl
    | false => exact tumblerFails_failing

theorem completes_authKnownAnswer {ok : Bool} (h : s.released = true) :
    Completes (.authKnownAnswer t ok) s fun u => u.test.authFail = !ok :=
  .of_when rfl h (when_of_imp (P := fun u => u.test.authFail = !ok) (fun _ => rfl) fun _ => rfl)

/-- R446: a refresh that finds a failing row, in ACTIVE or WATCH. -/
theorem completes_mramRefresh {mem : RefreshMem} {row : Nat} {P : State → Prop} (hphase : s.phase = .service)
    (hpwr : s.pwr.state = .active ∨ s.pwr.state = .watch) (hP : P ((s.at t).refreshFails mem row)) :
    Completes (.mramRefresh t mem row false) s P := by
  refine .of_when rfl ?_ hP
  rw [show (s.at t).phase = .service from hphase, show (s.at t).pwr = s.pwr from rfl]
  rcases hpwr with h | h <;> rw [h] <;> rfl

/-- R445: a failing row of the recorder memory takes a spare while there is one. -/
theorem rowFails_of_spare {row : BitVec 16} (h : 1 ≤ s.nv.repair.spares[0]) :
    (s.rowFails row).nv.repair.spares[0] = s.nv.repair.spares[0] - 1 ∧ (s.rowFails row).nv.mem = s.nv.mem := by
  unfold State.rowFails
  extract_lets left k r s1
  rw [if_pos (show 0 < left from h)]
  have hown (p : List Byte) : Same (areaMask [.dictRest, .ports, .switch, .offered, .intake]) s1 (s1.recOwn 0x0007 false p) :=
    State.recOwn_same _ _ _ rfl .refl
  constructor
  · refine (congrArg (fun r : Repair => r.spares[0]) ((hown _).area .repair rfl)).trans ?_
    exact Vector.getElem_set_self ..
  · exact (hown _).area .recMem rfl

theorem left_of_lt {r : Repair} {mem row : Nat} (hne : mem ≠ 4) (h : mem < 8) : r.left mem row = r.spares[mem] := by
  rw [Repair.left, if_neg hne, List.getD_eq_getElem?_getD]
  simp [h]

theorem spare_of_lt {r : Repair} {mem row : Nat} {f : Nat → Nat} (hne : mem ≠ 4) (h : mem < 8) :
    r.spare mem row f = { r with spares := updV r.spares ⟨mem, h⟩ f } := by
  rw [Repair.spare, if_neg hne, dif_pos h]

/-- R445: a failing row takes a spare of its memory while there is one. -/
theorem softRepair_of_left {mem row n : Nat} (hne : mem ≠ 4) (hmem : mem < 8) (h : 1 ≤ s.nv.repair.left mem row) :
    (s.softRepair mem row n).nv.repair.left mem row = s.nv.repair.left mem row - 1 ∧
    (mem, row, n) ∈ (s.softRepair mem row n).nv.repair.soft := by
  have hrepair : (s.softRepair mem row n).nv.repair =
      { s.nv.repair with spares := updV s.nv.repair.spares ⟨mem, hmem⟩ (· - 1), soft := s.nv.repair.soft ++ [(mem, row, n)] } := by
    unfold State.softRepair
    rw [if_pos (show 0 < s.nv.repair.left mem row from h)]
    show ({ s.nv.repair.spare mem row (· - 1) with soft := (s.nv.repair.spare mem row (· - 1)).soft ++ [(mem, row, n)] } : Repair) = _
    rw [spare_of_lt hne hmem]
  rw [hrepair, left_of_lt hne hmem, left_of_lt hne hmem]
  exact ⟨updV_self (i := ⟨mem, hmem⟩) .., List.mem_append_right _ (List.mem_singleton_self _)⟩

/-- Settles O58: each finding is counted, fails its supervisor, shuts its gate or takes its spare. -/
theorem selfTestsFindTheirFaults : Obligations.SelfTestsFindTheirFaults := by
  unfold Obligations.SelfTestsFindTheirFaults
  refine ⟨fun t v s h => .of_when rfl h ⟨?_, rfl⟩, fun t v s h => .of_when rfl h (svFail_of_evaluates h),
    fun t v s h => .of_when rfl ?_ (svFail_of_evaluates h), fun t v s h => .of_when_not rfl ?_ rfl,
    fun t ok s => completes_tumblerTest, fun t n ok s => completes_deadboltPathTest, fun t ok s => completes_authKnownAnswer,
    fun t row s hphase hpwr hspare => completes_mramRefresh hphase hpwr ?_,
    fun t row s hphase hpwr hleft => completes_mramRefresh hphase hpwr ?_⟩
  · exact (updV_self ..).trans (congrArg (· + 1) (congrArg (·[v]) (at_nv_svEcc t)))
  · rw [at_evaluates, h]
    rfl
  · exact Bool.and_false _
  · have hrepair : (s.at t).nv.repair = s.nv.repair := at_nv_repair s t
    obtain ⟨hspares, hmem⟩ := rowFails_of_spare (s := s.at t) (row := BitVec.ofNat 16 row) (by rw [hrepair]; exact hspare)
    exact ⟨hspares.trans (by rw [hrepair]), (congrArg RecMem.capacity hmem).trans (by rw [at_nv_mem])⟩
  · have hrepair : (s.at t).nv.repair = s.nv.repair := at_nv_repair s t
    obtain ⟨hcount, hsoft⟩ := softRepair_of_left (s := s.at t) (mem := 1) (row := row) (n := 0) (by decide) (by decide)
      (by rw [hrepair]; exact hleft)
    exact ⟨hcount.trans (by rw [hrepair]), hsoft⟩

/-! ### The isolation test (R435, R437, R439 to R442) -/

theorem at_isolating (hphase : s.phase = .service) {d n : Nat} (hvalid : isoValid d n = true) :
    ((s.at t).phase == .service && isoValid d n) = true := by
  rw [show (s.at t).phase = .service from hphase, hvalid]
  rfl

theorem wakeEvent_test (n : Nat) : (s.wakeEvent n).test = s.test :=
  (State.wakeEvent_same (w := areaMask [.power]) n rfl .refl).area .selfTest rfl

/-- R435: a request is held where none is. -/
theorem isoRequest_of_none {h : Fin 8} {d n : Nat} (hnone : s.test.iso = none) :
    (s.isoRequest h d n).test.iso = some { head := h, durNs := us d, patterns := n } := by
  unfold State.isoRequest
  extract_lets stop s1
  rw [show s1.test.iso = none from hnone]
  dsimp only
  rw [wakeEvent_test]
  rfl

/-- R435: a request is turned away where one is held. -/
theorem isoRequest_of_some {h : Fin 8} {d n : Nat} {i : Isolation} (hheld : s.test.iso = some i) :
    (s.isoRequest h d n).test.iso = some i ∧ (s.isoRequest h d n).test.refusal = 4 := by
  unfold State.isoRequest
  extract_lets stop s1
  rw [show s1.test.iso = some i from hheld]
  exact ⟨rfl, rfl⟩

theorem chanX_ne_chanY (h : Fin 8) : chanX h ≠ chanY h := fun hxy => by
  have := congrArg Fin.val hxy
  simp only [chanX, chanY] at this
  omega

/-- A channel of a head is its X or its Y. -/
theorem chanOf_cases (h : Fin 8) (j : Fin 2) : chanOf h j = chanX h ∨ chanOf h j = chanY h := by
  match j with
  | 0 => exact .inl rfl
  | 1 => exact .inr rfl

theorem chanGiven_self (c : Fin 16) : (s.chanGiven c).fe.chans[c] =
    { s.fe.chans[c] with phase := if s.fe.chans[c].phase = .faulted then .faulted else .isolated, excOn := false, raws := [] } :=
  updV_self ..

theorem chanGiven_other {c e : Fin 16} (h : e ≠ c) : (s.chanGiven c).fe.chans[e] = s.fe.chans[e] := updV_other _ _ h

/-- R437: both channels of a head pass to the test controller. -/
theorem chansGiven {h : Fin 8} {c : Fin 16} (hc : c = chanX h ∨ c = chanY h) :
    ((s.chanGiven (chanX h)).chanGiven (chanY h)).fe.chans[c] =
      { s.fe.chans[c] with
        phase := if s.fe.chans[c].phase = .faulted then .faulted else .isolated, excOn := false, raws := [] } := by
  rcases hc with rfl | rfl
  · rw [chanGiven_other (chanX_ne_chanY h), chanGiven_self]
  · rw [chanGiven_self, chanGiven_other (chanX_ne_chanY h).symm]

theorem completes_isolationReady {i : Isolation} (hiso : s.test.iso = some i) (hstage : i.stage = 1) :
    Completes (.isolationReady t) s fun u =>
      u.test.iso = some { i with stage := 2, startAt := u.clk.now } ∧
      ∀ j : Fin 2, u.fe.chans[chanOf i.head j].excOn = false ∧ (s.fe.chans[chanOf i.head j].phase ≠ .faulted →
        u.fe.chans[chanOf i.head j].phase = .isolated) := by
  refine ⟨_, rfl, ?_⟩
  rw [show (s.at t).test.iso = some i from hiso]
  dsimp only
  rw [when_of (beq_iff_eq.2 hstage)]
  refine ⟨rfl, fun j => ?_⟩
  have hgiven := chansGiven (s := s.at t) (chanOf_cases i.head j)
  refine ⟨congrArg Chan.excOn hgiven, fun hne => (congrArg Chan.phase hgiven).trans (if_neg hne)⟩

/-- R437, R441, R442: the end of a test of this moment gives the result, and the return starts 0.1 ms later. -/
theorem completes_testDone {n : Nat} {g : Bool} {i : Isolation} (hiso : s.test.iso = some i)
    (hstage : i.stage = 2 ∨ i.abortAt = some (s.at t).clk.now) :
    Completes (.testDone t n g) s fun u =>
      u.test.result = (if n ≠ i.patterns then 2 else if g then 1 else 3) ∧ u.test.patterns = n ∧ u.test.planned = i.patterns ∧
      u.test.iso = some { i with stage := 3, startAt := u.clk.now + us 100, abortAt := none } := by
  have hgo : (i.stage == 2 || i.abortAt == some (s.at t).clk.now) = true := by
    rw [Bool.or_eq_true, beq_iff_eq, beq_iff_eq]
    exact hstage
  have hresult (x : State) (r : Nat) : (x.isoResult i r n).test.result = r ∧ (x.isoResult i r n).test.patterns = n ∧
      (x.isoResult i r n).test.planned = i.patterns ∧ (x.isoResult i r n).clk = x.clk := ⟨rfl, rfl, rfl, rfl⟩
  refine ⟨_, rfl, ?_⟩
  rw [show (s.at t).test.iso = some i from hiso]
  dsimp only
  rw [when_of hgo]
  obtain ⟨hres, hpat, hplan, hclk⟩ := hresult (if i.stage = 2 then s.at t else (s.at t).abortUndone) (testResult i n g)
  have hnow : (if i.stage = 2 then s.at t else (s.at t).abortUndone).clk = (s.at t).clk := by split <;> rfl
  refine ⟨hres, hpat, hplan, ?_⟩
  rw [hclk, hnow]

theorem isoAbort_of_running {i : Isolation} (hiso : s.test.iso = some i) (hstage : i.stage = 2) :
    (s.isoAbort false).test.result = 2 ∧
    (s.isoAbort false).test.iso = some { i with stage := 3, startAt := s.clk.now, abortAt := some s.clk.now } ∧
    (s.isoAbort false).clk = s.clk := by
  rw [State.isoAbort, hiso]
  dsimp only
  rw [if_pos (.inr hstage), if_pos hstage]
  exact ⟨rfl, rfl, rfl⟩

theorem completes_testDoneTimeout {i : Isolation} (hiso : s.test.iso = some i) (hstage : i.stage = 2)
    (hrun : (s.at t).isoEnd i + ms 1 ≤ (s.at t).tbNow) :
    Completes (.testDoneTimeout t) s fun u =>
      u.test.result = 2 ∧ u.test.iso = some { i with stage := 3, startAt := u.clk.now, abortAt := some u.clk.now } := by
  refine ⟨_, rfl, ?_⟩
  rw [show (s.at t).test.iso = some i from hiso]
  dsimp only
  rw [when_of (Bool.and_eq_true_iff.2 ⟨beq_iff_eq.2 hstage, decide_eq_true hrun⟩)]
  obtain ⟨hres, hiso', hclk⟩ := isoAbort_of_running (s := s.at t) hiso hstage
  rw [hiso', hclk]
  exact ⟨hres, rfl⟩

/-- R440: a channel that returns has its drive on, and no other channel changes. -/
theorem chanReturns_chans (c : Fin 16) (d : Det) : (s.chanReturns c d).fe.chans[c].excOn = true ∧
    ∀ e : Fin 16, e ≠ c → (s.chanReturns c d).fe.chans[e] = s.fe.chans[e] := by
  have hcheck (x : State) (f : Proof → Proof) (b : Option (Cx × Cx)) : ((x.onProof c f).baselineCheck c b).fe.chans = x.fe.chans :=
    (State.baselineCheck_same (w := areaMask [.nvChans, .dets, .proofs, .engOut, .freeCount]) c b rfl
      (State.onProof_same c f rfl .refl)).area .chans rfl
  unfold State.chanReturns
  split
  · exact ⟨congrArg Chan.excOn (updV_self ..), fun e he => updV_other _ _ he⟩
  · extract_lets s1 s2
    have hchans := hcheck s1 (fun p => { p with serviceAt := s.clk.now }) (if d.haveB0 then some (d.b0L, d.b0H) else none)
    refine ⟨(congrArg (fun x => x[c].excOn) hchans).trans (congrArg Chan.excOn (updV_self ..)), fun e he => ?_⟩
    exact (congrArg (fun x => x[e]) hchans).trans (updV_other _ _ he)

/-- R440: both channels of a head return with their drives on. -/
theorem chansReturn {h : Fin 8} {c : Fin 16} (hc : c = chanX h ∨ c = chanY h) (x y : Det) :
    ((s.chanReturns (chanX h) x).chanReturns (chanY h) y).fe.chans[c].excOn = true := by
  obtain ⟨honY, hotherY⟩ := chanReturns_chans (s := s.chanReturns (chanX h) x) (chanY h) y
  rcases hc with rfl | rfl
  · rw [hotherY _ (chanX_ne_chanY h)]
    exact (chanReturns_chans (chanX h) x).1
  · exact honY

/-- R440: the return ends. -/
theorem isoReturn_effect (i : Isolation) : (s.isoReturn i).test.iso = none ∧ (s.isoReturn i).test.drop = 0 ∧
    ∀ j : Fin 2, (s.isoReturn i).fe.chans[chanOf i.head j].excOn = true := by
  unfold State.isoReturn
  extract_lets s1 t1 s2 s3 t3
  have h2 : Same (areaMask [.passages]) { s1 with test := { s1.test with iso := none } } s2 := State.headReturns_same _ rfl .refl
  have hiso2 : s2.test.iso = none := congrArg SelfTest.iso (h2.area .selfTest rfl)
  have hchans2 : s2.fe.chans = s1.fe.chans := h2.area .chans rfl
  have h3 : Same (areaMask [.nvHeads, .supervisors, .cumValid, .offered]) s2 s3 :=
    Same.ite (State.isoRebase_same _ rfl .refl) (State.isoFound_same i rfl .refl)
  have hchans3 : s3.fe.chans = s2.fe.chans := h3.area .chans rfl
  refine ⟨(congrArg SelfTest.iso (h3.area .selfTest rfl)).trans hiso2, rfl, fun j => ?_⟩
  show s3.fe.chans[chanOf i.head j].excOn = true
  rw [hchans3, hchans2]
  exact chansReturn (chanOf_cases i.head j) i.x i.y

theorem completes_isolationReturnDone {i : Isolation} (hphase : s.phase = .service) (hiso : s.test.iso = some i)
    (hstage : i.stage = 3) (hrun : i.startAt + us 1600 ≤ t) :
    Completes (.isolationReturnDone t) s fun u =>
      u.test.iso = none ∧ u.test.drop = 0 ∧ ∀ j : Fin 2, u.fe.chans[chanOf i.head j].excOn = true := by
  refine ⟨_, rfl, ?_⟩
  rw [show (s.at t).test.iso = some i from hiso]
  dsimp only
  have hgo : (i.stage == 3 && (s.at t).phase == .service && decide (i.startAt + us 1600 ≤ (s.at t).clk.now)) = true := by
    rw [hstage, show (s.at t).phase = .service from hphase, decide_eq_true (le_at_now hrun)]
    rfl
  rw [when_of hgo]
  exact isoReturn_effect i

/-- Settles O57: by the course of the request, the hand-over, the end and the return. -/
theorem theIsolationTestRuns : Obligations.TheIsolationTestRuns := by
  unfold Obligations.TheIsolationTestRuns
  exact ⟨fun t h d n s hphase hvalid hnone => .of_when rfl (at_isolating hphase hvalid) (isoRequest_of_none (s := s.at t) hnone),
    fun t h d n i s hphase hvalid hheld => .of_when rfl (at_isolating hphase hvalid) (isoRequest_of_some (s := s.at t) hheld),
    fun t i s => completes_isolationReady, fun t n g i s => completes_testDone, fun t i s => completes_testDoneTimeout,
    fun t i s => completes_isolationReturnDone⟩

end Sys2Proof.Machine

/-! The recorder's intake, its token buckets and the end of a write (O53). -/

namespace Sys2Proof.Machine

variable {s : State} {t : Time} {ev : RecEvent}

/-! ### Events that reach the intake (R420 to R422, R428) -/

/-- R420: an event leaves the list of those offered. -/
def State.unoffered (s : State) (ev : RecEvent) : State :=
  { s with intake := { s.intake with offered := s.intake.offered.erase ev } }

/-- What the obligations ask of the intake. -/
def Intake.counts (i : Intake) : List Queued × Option Queued × Nat × Nat × Nat :=
  (i.queue, i.writing, i.overflow, i.suppressed, i.discarded)

theorem emcy_counts (ev : RecEvent) : (s.emcy ev).intake.counts = s.intake.counts := by
  have hintake := (State.emcy_same (w := areaMask [.dictRest, .ports, .switch, .offered]) ev rfl (.refl (s := s))).area .intake rfl
  simp only [Area.same, Prod.mk.injEq] at hintake
  obtain ⟨hqueue, hwriting, -, hsup, hover, -, hdisc, -⟩ := hintake
  rw [Intake.counts, Intake.counts, hqueue, hwriting, hsup, hover, hdisc]

/-- R421: an event of a class that is never suppressed passes the limits. -/
theorem recTake_counts_of_exempt (h : exemptClass (eventClass ev.code) = true) :
    (s.recTake ev).intake.counts = ((s.unoffered ev).recEnter ev).intake.counts := by
  have hlimit (i : Intake) (now : Time) : i.limit ev now = (i, true) := if_pos h
  rw [State.recTake]
  dsimp only
  rw [hlimit, if_pos rfl]
  exact when_view (fun x => x.intake.counts) (emcy_counts ev)

theorem recTake_of_offered {P : State → Prop} (h : s.intake.next = some ev) (hP : P ((s.at t).recTake ev)) :
    Completes (.recorderEvent t ev) s P :=
  .of_when rfl (beq_iff_eq.2 h) hP

/-- R428: a stopped recorder discards the event, and counts it. -/
theorem recEnter_of_stopped (h : s.nv.mem.stop ≠ 0) :
    (s.recEnter ev).intake = { s.intake with discarded := s.intake.discarded + 1 } := by
  rw [State.recEnter, if_pos (bne_iff_ne.2 h)]

/-- R420: an event that finds no slot is lost to overflow, and counted. -/
theorem recEnter_of_full (h : s.nv.mem.stop = 0) (hfull : 32 ≤ s.intake.queue.length) :
    (s.recEnter ev).intake.queue = s.intake.queue ∧ (s.recEnter ev).intake.overflow = s.intake.overflow + 1 := by
  have hslot : ¬ s.intake.hasSlot (exemptClass (eventClass ev.code)) = true := by
    simp only [Intake.hasSlot, Bool.or_eq_true, Bool.and_eq_true, decide_eq_true_eq]
    omega
  rw [State.recEnter, if_neg (by rw [h]; decide), if_neg hslot]
  exact ⟨rfl, rfl⟩

/-- R420: an event that finds the recorder at rest is taken for writing at once. -/
theorem recEnter_of_rest (h : s.nv.mem.stop = 0) (hwriting : s.intake.writing = none) (hempty : s.intake.Empty) :
    (s.recEnter ev).intake.counts =
      ([], some { ev := ev, degraded := s.keep.degraded }, s.intake.overflow, s.intake.suppressed, s.intake.discarded) := by
  obtain ⟨hqueue, hlost, hheld⟩ := hempty
  have hslot : s.intake.hasSlot (exemptClass (eventClass ev.code)) = true := by simp [Intake.hasSlot, hqueue]
  have hruns : s.intake.buckets.filter (fun b => b.held) = [] :=
    List.filter_eq_nil_iff.2 fun b hb => by simpa using List.all_eq_true.1 hheld b hb
  rw [State.recEnter, if_neg (by simp [h]), if_pos hslot]
  simp [State.recNext, Intake.counts, hqueue, hlost, hwriting, h, hruns]

/-! ### Token buckets (R421) -/

theorem setBucket_counts (i : Intake) (b : Bucket) : (i.setBucket b).counts = i.counts := rfl

/-- R421: an event of a class without a token, whose run is not over, is suppressed and counted. -/
theorem limit_of_suppressed {i : Intake} {now : Time} (hclass : exemptClass (eventClass ev.code) = false)
    (hrun : (i.bucket (eventClass ev.code)).runOver now = false)
    (hempty : ((i.bucket (eventClass ev.code)).refilled now).tokens = 0) : (i.limit ev now).2 = false ∧
    (i.limit ev now).1.counts = (i.queue, i.writing, i.overflow, i.suppressed + 1, i.discarded) := by
  rw [Intake.limit]
  dsimp only
  rw [if_neg (Bool.eq_false_iff.1 hclass), if_neg (Bool.eq_false_iff.1 hrun), if_neg (by omega)]
  exact ⟨rfl, rfl⟩

theorem recTake_of_suppressed (hclass : exemptClass (eventClass ev.code) = false)
    (hrun : (s.intake.bucket (eventClass ev.code)).runOver s.clk.now = false)
    (hempty : ((s.intake.bucket (eventClass ev.code)).refilled s.clk.now).tokens = 0) :
    (s.recTake ev).intake.counts =
      (s.intake.queue, s.intake.writing, s.intake.overflow, s.intake.suppressed + 1, s.intake.discarded) := by
  obtain ⟨hstop, hcounts⟩ := limit_of_suppressed (i := { s.intake with offered := s.intake.offered.erase ev }) hclass hrun hempty
  rw [State.recTake]
  dsimp only
  rw [hstop, if_neg Bool.false_ne_true]
  exact hcounts

theorem setBucket_bucket_of_cls {i : Intake} {b : Bucket} {c : BitVec 8} (h : b.cls = c) : (i.setBucket b).bucket c = b := by
  subst h
  exact setBucket_bucket_self

theorem setBucket_runFrom {i : Intake} {b : Bucket} {c : BitVec 8} (h : (i.bucket c).runFrom = none)
    (hb : b.cls = c → b.runFrom = none) : ((i.setBucket b).bucket c).runFrom = none := by
  by_cases hc : b.cls = c
  · subst hc
    rw [setBucket_bucket_self]
    exact hb rfl
  · rw [setBucket_bucket_other (Ne.symm hc)]
    exact h

/-- R421: the end of a class's run, where its summary finds a slot, leaves it without one. -/
theorem endRun_runFrom_self {i : Intake} {c : BitVec 8} (hslot : i.hasSlot true = true) :
    ((i.endRun c).bucket c).runFrom = none := by
  cases hrun : (i.bucket c).runFrom with
  | none =>
    have hstay : i.endRun c = i := by
      unfold Intake.endRun
      dsimp only
      rw [hrun]
    rw [hstay, hrun]
  | some f =>
    unfold Intake.endRun
    dsimp only
    rw [hrun]
    dsimp only
    rw [if_pos hslot]
    refine (congrArg Bucket.runFrom (setBucket_bucket_of_cls ?_)).trans ?_
    · exact bucket_cls i c
    · rfl

/-- R421: a run that has ended stays so, whichever run ends next. -/
theorem endRun_runFrom {i : Intake} {c : BitVec 8} (h : (i.bucket c).runFrom = none) (d : BitVec 8) :
    ((i.endRun d).bucket c).runFrom = none := by
  rw [Intake.endRun]
  dsimp only
  cases hrun : (i.bucket d).runFrom with
  | none => exact h
  | some f =>
    have hne : d ≠ c := fun hdc => by
      rw [hdc, h] at hrun
      cases hrun
    dsimp only
    split
    · exact setBucket_runFrom h fun _ => rfl
    · exact setBucket_runFrom h fun hc => absurd ((bucket_cls i d).symm.trans hc) hne

theorem endRuns_runFrom {c : BitVec 8} (l : List Bucket) {i : Intake} (h : (i.bucket c).runFrom = none) :
    ((l.foldl (fun j b => j.endRun b.cls) i).bucket c).runFrom = none := by
  induction l generalizing i with
  | nil => exact h
  | cons b l ih => exact ih (endRun_runFrom h b.cls)

/-- What the record taken up next leaves of the intake: the queue may fall by one, and runs that were held may end. -/
theorem recNext_intake {P : Intake → Prop} (h : P s.intake) (hlost : ∀ q, P { s.intake with lost := none, writing := some q })
    (htake : ∀ q l (r : List Bucket), P (r.foldl (fun j b => j.endRun b.cls) { s.intake with queue := l, writing := some q })) :
    P s.recNext.intake := by
  rw [State.recNext]
  dsimp only
  split
  · exact h
  · split
    · exact hlost _
    · split
      · exact h
      · exact htake _ _ _

theorem recNext_runFrom {c : BitVec 8} (h : (s.intake.bucket c).runFrom = none) : (s.recNext.intake.bucket c).runFrom = none :=
  recNext_intake (P := fun i => (i.bucket c).runFrom = none) h (fun _ => h) fun _ _ r => endRuns_runFrom r h

theorem endRun_clearBy (i : Intake) (c : BitVec 8) : (i.endRun c).clearBy = i.clearBy := by
  unfold Intake.endRun
  extract_lets b
  split
  · rfl
  · split <;> rfl

theorem endRuns_clearBy (l : List Bucket) (i : Intake) : (l.foldl (fun j b => j.endRun b.cls) i).clearBy = i.clearBy := by
  induction l generalizing i with
  | nil => rfl
  | cons b l ih => exact (ih _).trans (endRun_clearBy i b.cls)

theorem recNext_clearBy : s.recNext.intake.clearBy = s.intake.clearBy :=
  recNext_intake (P := fun i => i.clearBy = s.intake.clearBy) rfl (fun _ => rfl) fun _ _ r => endRuns_clearBy r _

/-! ### The end of a write (R420, R423 to R428) -/

theorem recEnter_clearBy (ev : RecEvent) : (s.recEnter ev).intake.clearBy = s.intake.clearBy := by
  rw [State.recEnter]
  dsimp only
  split_ifs
  · rfl
  · exact recNext_clearBy
  · rfl

theorem recOwn_clearBy (code : BitVec 16) (emergency : Bool) (payload : List Byte) :
    (s.recOwn code emergency payload).intake.clearBy = s.intake.clearBy := by
  have hview := recOwn_recView (s := s) code emergency payload
  exact (congrArg (fun x => x.2.2) hview).trans (recEnter_clearBy _)

/-- R427: without a failing row a record that fits is appended. -/
theorem recWrite_of_good {q : Queued} {row : BitVec 16} (hroom : s.nv.mem.used + (s.recordBytes q).length + 28 ≤ s.nv.mem.capacity) :
    (s.recWrite q 0 row).nv.mem = s.nv.mem.append (s.recordBytes q) ∧ (s.recWrite q 0 row).intake.clearBy = s.intake.clearBy := by
  have hwhole : s.recBroken 0 = false := rfl
  unfold State.recWrite
  extract_lets b m k i s1 s2
  rw [if_neg (not_lt.2 hroom), if_neg (Bool.eq_false_iff.1 hwhole)]
  have h2 : s2 = s1 := rfl
  have hown (p : List Byte) : Same (areaMask [.dictRest, .ports, .switch, .offered, .intake]) s2 (s2.recOwn 0x0004 true p) :=
    State.recOwn_same _ _ _ rfl .refl
  constructor
  · exact when_view (fun x => x.nv.mem) ((hown _).area .recMem rfl)
  · exact when_view (fun x => x.intake.clearBy) (recOwn_clearBy ..)

theorem recNext_mem : s.recNext.nv.mem = s.nv.mem := (State.recNext_same (w := maskBut .recMem) rfl .refl).only

theorem completes_recordWritten_good {row : BitVec 16} {q : Queued} (hwriting : s.intake.writing = some q)
    (hclear : s.intake.clearBy = none) (hroom : s.nv.mem.used + ((s.at t).recordBytes q).length + 28 ≤ s.nv.mem.capacity) :
    Completes (.recordWritten t 0 row) s fun u =>
      u.nv.mem.recs = s.nv.mem.recs ++ [(s.at t).recordBytes q] ∧ u.nv.mem.used = s.nv.mem.used + ((s.at t).recordBytes q).length ∧
      u.nv.mem.stop = s.nv.mem.stop := by
  rw [← at_nv_mem s t] at hroom ⊢
  obtain ⟨hmem, hkept⟩ := recWrite_of_good (row := row) hroom
  refine ⟨_, rfl, ?_⟩
  rw [show (s.at t).intake.writing = some q from hwriting]
  dsimp only
  rw [show _ = none from hkept.trans hclear]
  dsimp only
  rw [recNext_mem, hmem]
  exact ⟨rfl, rfl, rfl⟩

/-- R425: two row failures during a write stop the recorder. -/
theorem completes_recordWritten_broken {n : Nat} {row : BitVec 16} {q : Queued} (hwriting : s.intake.writing = some q)
    (hclear : s.intake.clearBy = none) (hn : 2 ≤ n)
    (hroom : s.nv.mem.used + ((s.at t).recordBytes q).length + 28 ≤ s.nv.mem.capacity) :
    Completes (.recordWritten t n row) s fun u =>
      u.nv.mem.stop = 2 ∧ u.nv.mem.recs = s.nv.mem.recs ∧ u.intake.writing = none := by
  rw [← at_nv_mem s t] at hroom ⊢
  have hbroken : (s.at t).recBroken n = true := by
    rw [State.recBroken, decide_eq_true hn, Bool.true_or]
  have hview := (congrArg State.recView (recWrite_of_broken (row := row) hroom hbroken)).trans (recFails_recView row)
  rw [at_intake, hclear] at hview
  obtain ⟨u, hexec, hmem, hw⟩ := exec_recordWritten hwriting hview (.inr (by decide : 2 ≠ 0))
  refine ⟨u, hexec, ?_⟩
  dsimp only
  rw [hmem]
  exact ⟨rfl, rfl, hw⟩

/-- Settles O53: by the course of an event through the intake, and of a record through its write. -/
theorem theRecorderTakesAndWritesEvents : Obligations.TheRecorderTakesAndWritesEvents := by
  unfold Obligations.TheRecorderTakesAndWritesEvents
  refine ⟨fun t ev s hnext hclass hstop hwriting hqueue hlost hheld => recTake_of_offered hnext ?_,
    fun t ev s hnext hclass hstop => recTake_of_offered hnext ?_, fun t ev s hnext hclass hstop hfull => recTake_of_offered hnext ?_,
    fun t ev s hnext hclass hrun hempty => recTake_of_offered hnext ?_, fun t cls s => ⟨_, rfl, ?_⟩,
    fun t cls s hrun hslot => .of_when rfl hrun (recNext_runFrom (endRun_runFrom_self hslot)),
    fun t n row q s hwriting hclear hn hroom => hn ▸ completes_recordWritten_good hwriting hclear hroom,
    fun t n row q s => completes_recordWritten_broken⟩
  · have hcounts := (recTake_counts_of_exempt (s := s.at t) hclass).trans
      (recEnter_of_rest (s := (s.at t).unoffered ev) (by rw [← hstop, ← at_nv_mem s t]; rfl) hwriting ⟨hqueue, hlost, hheld⟩)
    simp only [Intake.counts, Prod.mk.injEq] at hcounts
    obtain ⟨hq, hw, hover, hsup, hdisc⟩ := hcounts
    exact ⟨hw, hq, hover, hsup, hdisc⟩
  · have hcounts := recTake_counts_of_exempt (s := s.at t) hclass
    rw [recEnter_of_stopped (by rw [← at_nv_mem s t] at hstop; exact hstop)] at hcounts
    simp only [Intake.counts, Prod.mk.injEq] at hcounts
    obtain ⟨hq, hw, -, -, hdisc⟩ := hcounts
    exact ⟨hdisc, hq, hw⟩
  · obtain ⟨hqueue, hover⟩ := recEnter_of_full (s := (s.at t).unoffered ev) (ev := ev) (by rw [← hstop, ← at_nv_mem s t]; rfl) hfull
    have hcounts := recTake_counts_of_exempt (s := s.at t) hclass
    simp only [Intake.counts, Prod.mk.injEq] at hcounts
    obtain ⟨hq, -, hover', -⟩ := hcounts
    exact ⟨hover'.trans hover, hq.trans hqueue⟩
  · have hcounts := recTake_of_suppressed (s := s.at t) hclass hrun hempty
    simp only [Intake.counts, Prod.mk.injEq] at hcounts
    obtain ⟨hq, hw, hover, hsup, -⟩ := hcounts
    exact ⟨hsup, hq, hw, hover⟩
  · have hcls : ((s.intake.bucket cls).refilled (s.at t).clk.now).cls = cls := by rw [refilled_cls, bucket_cls]
    exact setBucket_bucket_of_cls hcls

end Sys2Proof.Machine

/-! The switch: links, received frames, cut-through, the end of a frame, and what ages (O54). -/

namespace Sys2Proof.Machine

variable {s : State} {t : Time} {port : Fin 4} {f : Frame}

/-! ### What a queue leaves of its port -/

/-- A port apart from what it sends and what waits for it. -/
def Port.line (p : Port) : Port := { p with sending := none, queues := Vector.replicate 3 [] }

theorem next_line (p : Port) (now : Time) : (p.next now).line = p.line := by
  rw [Port.next]
  split
  · rfl
  · split
    · rfl
    · split <;> rfl

theorem enqueue_line (x : TxFrame) : (s.enqueue port x).net.ports[port].line = s.net.ports[port].line := by
  rw [State.enqueue]
  dsimp only
  split_ifs
  · rfl
  · exact (congrArg Port.line (updV_self ..)).trans rfl
  · exact (congrArg Port.line (updV_self ..)).trans (next_line ..)
  · rfl

theorem signalOn_line : (s.signalOn port).net.ports[port].line = s.net.ports[port].line := by
  unfold State.signalOn
  extract_lets announce s1
  rw [State.sendTime]
  split
  · rfl
  · exact enqueue_line _

/-! ### Links (R346, R348, R351) -/

theorem at_linkable (hrel : s.released = true) (hlink : s.net.ports[port].link = false) :
    ((s.at t).released && !(s.at t).net.ports[port].link) = true := by
  rw [show (s.at t).released = true from hrel, show (s.at t).net = s.net from rfl, hlink]
  rfl

/-- R346, R360: a link comes up at the level the amplitudes give, its path delay still to be measured. -/
theorem completes_linkUp {cap req l : Bool} (hrel : s.released = true) (hlink : s.net.ports[port].link = false)
    (hlevel : linkLevel (s.phyAmplitude port.val) cap req = some l) :
    Completes (.linkUp t port cap req) s fun u =>
      u.net.ports[port].link = true ∧ u.net.ports[port].level24 = l ∧ u.net.ports[port].asCapable = false ∧
      u.net.ports[port].exchanges = 0 ∧ u.net.ports[port].pdelayAt = u.clk.now := by
  refine .of_when rfl (at_linkable hrel hlink) ?_
  rw [show linkLevel ((s.at t).phyAmplitude port.val) cap req = some l from hlevel]
  dsimp only
  set x := (s.at t).onPort port fun _ => { link := true, level24 := l, pdelayAt := (s.at t).clk.now } with hx
  have hport : x.net.ports[port] = { link := true, level24 := l, pdelayAt := (s.at t).clk.now } := updV_self ..
  have hline : (x.signalOn port).net.ports[port].line = x.net.ports[port].line := signalOn_line
  have hclk : (x.signalOn port).clk = x.clk := (State.signalOn_same (w := maskBut .clk) port rfl .refl).only
  rw [hport] at hline
  rw [hclk]
  exact ⟨(congrArg Port.link hline), congrArg Port.level24 hline, congrArg Port.asCapable hline, congrArg Port.exchanges hline,
    congrArg Port.pdelayAt hline⟩

theorem completes_linkUp_unfit {cap req : Bool} (hrel : s.released = true) (hlink : s.net.ports[port].link = false)
    (hlevel : linkLevel (s.phyAmplitude port.val) cap req = none) :
    Completes (.linkUp t port cap req) s fun u => u.net.ports = s.net.ports := by
  refine .of_when rfl (at_linkable hrel hlink) ?_
  rw [show linkLevel ((s.at t).phyAmplitude port.val) cap req = none from hlevel]
  rfl

/-- A port apart from its role. -/
def Port.roleless (p : Port) : Port := { p with role := 0 }

/-- R358: the choice of the best master gives the ports their roles; what else they are and the learnt addresses stay. -/
theorem bestMaster_roleless : s.bestMaster.net.ports[port].roleless = s.net.ports[port].roleless ∧
    s.bestMaster.net.learnt = s.net.learnt := by
  unfold State.bestMaster
  extract_lets sel info n s1 lost s2
  have h1 : s1.net.ports[port].roleless = s.net.ports[port].roleless :=
    (congrArg Port.roleless (Vector.getElem_ofFn ..)).trans rfl
  have h2 : Same (areaMask [.pulses, .timeBase, .power, .offered]) s1 s2 :=
    State.when_same .refl fun _ h => State.slaveLost_same rfl h
  have hend (u : State) (h : Same (areaMask [.pulses, .timeBase, .power, .offered]) s1 u) :
      u.net.ports[port].roleless = s.net.ports[port].roleless ∧ u.net.learnt = s.net.learnt := by
    have hports : u.net.ports = s1.net.ports := h.area .ports rfl
    have hswitch := h.area .switch rfl
    simp only [Area.same, Prod.mk.injEq] at hswitch
    obtain ⟨-, hlearnt, -⟩ := hswitch
    exact ⟨by rw [hports, h1], hlearnt⟩
  refine hend _ ?_
  clear_value sel
  cases sel with
  | none => exact h2
  | some p =>
    dsimp only
    refine State.when_same ?_ fun _ h => State.timeState_same _ rfl h
    exact Same.upd (m := areaMask [.timeBase]) (hw := rfl) (hk := h2)

/-- R348, R351: a port that loses its link is without it, and the addresses of its side are forgotten. -/
theorem linkLost_effect (hlink : s.net.ports[port].link = true) :
    (s.linkLost port).net.ports[port].link = false ∧ ∀ e ∈ (s.linkLost port).net.learnt, e.2.1 ≠ (sideOf port == 1) := by
  unfold State.linkLost
  rw [if_neg (by rw [hlink]; decide)]
  extract_lets s1 n s2
  obtain ⟨hport, hlearnt⟩ := bestMaster_roleless (s := s2.record codeLinkDown 0 [BitVec.ofNat 8 port.val]) (port := port)
  rw [hlearnt]
  refine ⟨(congrArg Port.link hport).trans (congrArg Port.link (updV_self ..)), fun e he => ?_⟩
  exact bne_iff_ne.1 (List.mem_filter.1 he).2

/-! ### Received frames (R349 to R351, R356) -/

/-- R356: a LanId that does not match its port is counted, and nothing else changes. -/
theorem lanCheck_eq : ∃ a b, s.lanCheck port f = { s with net := { s.net with wrongA := a, wrongB := b } } := by
  rw [State.lanCheck]
  split
  · exact ⟨s.net.wrongA, s.net.wrongB, rfl⟩
  · next r _ =>
    by_cases hlan : r.lanId = (if laneOf port = 0 then 0xA else 0xB)
    · exact ⟨s.net.wrongA, s.net.wrongB, if_pos hlan⟩
    · by_cases hlane : laneOf port = 0
      · exact ⟨s.net.wrongA + 1, s.net.wrongB, (if_neg hlan).trans (if_pos hlane)⟩
      · exact ⟨s.net.wrongA, s.net.wrongB + 1, (if_neg hlan).trans (if_neg hlane)⟩

/-- R350, R351: what a good frame leaves before it is routed: its source is learnt, and its LanId checked. -/
def State.frameHeard (s : State) (port : Fin 4) (f : Frame) : State := (s.learn f.src port).lanCheck port f

theorem frameHeard_eq : ∃ a b, s.frameHeard port f = { s.learn f.src port with
    net := { (s.learn f.src port).net with wrongA := a, wrongB := b } } := lanCheck_eq

theorem frameHeard_net : (s.frameHeard port f).net.delivered = s.net.delivered ∧ (s.frameHeard port f).net.seen = s.net.seen ∧
    (s.frameHeard port f).net.discards = s.net.discards ∧ (s.frameHeard port f).clk = s.clk ∧
    (f.src, sideOf port == 1, s.clk.now) ∈ (s.frameHeard port f).net.learnt ∧
    (s.frameHeard port f).frameRow f = s.frameRow f ∧ (s.frameHeard port f).prpEntryForgetTime = s.prpEntryForgetTime := by
  obtain ⟨a, b, h⟩ := frameHeard_eq (s := s) (port := port) (f := f)
  rw [h]
  exact ⟨rfl, rfl, rfl, rfl, List.mem_append_right _ (List.mem_singleton_self _), rfl, rfl⟩

theorem completes_frameReceive {P : State → Prop} (hon : s.switchOn port = true) (hgood : badFrame f = false)
    (hP : P (((s.at t).frameHeard port f).routeFrame port f)) : Completes (.frameReceive t port f) s P :=
  .of_when rfl hon ((if_neg (Bool.eq_false_iff.1 hgood)).symm ▸ hP)

/-- R349: a bad frame reaches the node nowhere and teaches nothing. -/
theorem completes_frameReceive_bad (hon : s.switchOn port = true) (hbad : badFrame f = true) :
    Completes (.frameReceive t port f) s fun u =>
      u.net.delivered = s.net.delivered ∧ u.net.learnt = s.net.learnt ∧ u.net.nodes = s.net.nodes := by
  refine .of_when rfl hon ?_
  rw [if_pos hbad]
  have hswitch := (State.spoilCut_same (w := areaMask [.ports]) port f rfl (.refl (s := s.at t))).area .switch rfl
  simp only [Area.same, Prod.mk.injEq] at hswitch
  obtain ⟨-, hlearnt, -, -, -, hnodes, -, -, -, hdelivered, -⟩ := hswitch
  exact ⟨hdelivered, hlearnt, hnodes⟩

theorem routeFrame_of_hasp (h : s.frameRow f = .hasp) : s.routeFrame port f = s.toNode port f := by
  rw [State.routeFrame, h]

theorem routeFrame_of_own (h : s.frameRow f = .own) : s.routeFrame port f = s.deliverOnce port f := by
  rw [State.routeFrame, h]

theorem deliverOnce_of_plain (h : f.prp = none) : s.deliverOnce port f = s.toNode port f := by
  rw [State.deliverOnce, State.takeOnce, h]

/-- R349: a Hasp frame and a frame to the node without trailer reach the node. -/
theorem completes_frameReceive_taken (hon : s.switchOn port = true) (hgood : badFrame f = false)
    (hrow : s.frameRow f = .hasp ∨ (s.frameRow f = .own ∧ f.prp = none)) :
    Completes (.frameReceive t port f) s fun u =>
      u.net.delivered = s.net.delivered ++ [(port, f)] ∧ (f.src, sideOf port == 1, u.clk.now) ∈ u.net.learnt := by
  obtain ⟨hdelivered, -, -, hclk, hlearnt, hframe, -⟩ := frameHeard_net (s := s.at t) (port := port) (f := f)
  have hnode : ((s.at t).frameHeard port f).routeFrame port f = ((s.at t).frameHeard port f).toNode port f := by
    rcases hrow with hrow | ⟨hrow, hplain⟩
    · exact routeFrame_of_hasp (hframe.trans hrow)
    · rw [routeFrame_of_own (hframe.trans hrow), deliverOnce_of_plain hplain]
  refine completes_frameReceive hon hgood ?_
  rw [hnode]
  refine ⟨congrArg (· ++ [(port, f)]) hdelivered, ?_⟩
  show (f.src, sideOf port == 1, ((s.at t).frameHeard port f).clk.now) ∈ _
  rw [hclk]
  exact hlearnt

/-- R356: the first copy of a SeqNr is taken and kept. -/
theorem deliverOnce_of_first {r : PrpTrailer} (hprp : f.prp = some r)
    (hnew : (s.net.seen.any fun e => e.1 == f.src && e.2.1 == r.seqNr) = false) :
    (s.deliverOnce port f).net.delivered = s.net.delivered ++ [(port, f)] ∧
    (f.src, r.seqNr, s.clk.now) ∈ (s.deliverOnce port f).net.seen ∧ (s.deliverOnce port f).clk = s.clk := by
  have hknown : ¬ (s.net.seen.any fun (e : Mac × BitVec 16 × Time) =>
      e.1 == f.src && e.2.1 == r.seqNr && decide (s.clk.now < e.2.2 + ms s.prpEntryForgetTime)) = true := by
    rw [List.any_eq_true]
    rintro ⟨e, he, hkey⟩
    exact List.any_eq_false.1 hnew e he (Bool.and_eq_true_iff.1 hkey).1
  rw [State.deliverOnce, State.takeOnce, hprp]
  dsimp only
  rw [if_neg (show ¬ ((s.nodeSeen f.src).net.seen.any _) = true from hknown)]
  exact ⟨rfl, List.mem_append_right _ (List.mem_singleton_self _), rfl⟩

/-- R356: the second copy within PrpEntryForgetTime is discarded. -/
theorem deliverOnce_of_second {r : PrpTrailer} {a : Time} (hprp : f.prp = some r) (hseen : (f.src, r.seqNr, a) ∈ s.net.seen)
    (hrun : s.clk.now < a + ms s.prpEntryForgetTime) : (s.deliverOnce port f).net.delivered = s.net.delivered ∧
    (s.deliverOnce port f).net.discards = s.net.discards + 1 := by
  have hknown : (s.net.seen.any fun (e : Mac × BitVec 16 × Time) =>
      e.1 == f.src && e.2.1 == r.seqNr && decide (s.clk.now < e.2.2 + ms s.prpEntryForgetTime)) = true := by
    refine List.any_eq_true.2 ⟨_, hseen, ?_⟩
    rw [beq_self_eq_true, beq_self_eq_true, decide_eq_true hrun]
    rfl
  rw [State.deliverOnce, State.takeOnce, hprp]
  dsimp only
  rw [if_pos (show ((s.nodeSeen f.src).net.seen.any _) = true from hknown)]
  exact ⟨rfl, rfl⟩

/-! ### Cut-through, the end of a frame, and what ages (R350 to R352, R355 to R357) -/

theorem gateOpen_of_none {p : Port} (h : p.gate = none) (now : Time) (dur : Option Time) : p.gateOpen now dur = true := by
  rw [Port.gateOpen, h]

/-- R350: a frame that goes on starts on the twin port where that is free. -/
theorem completes_cutThroughStart (hon : s.switchOn port = true) (hcut : s.cutThrough = true)
    (hfwd : (s.frameRow f).forwards = true) (hlink : s.net.ports[twinPort port].link = true)
    (hsend : s.net.ports[twinPort port].sending = none) (hfront : s.net.ports[twinPort port].front = none)
    (hgate : s.net.ports[twinPort port].gate = none) :
    Completes (.cutThroughStart t port f) s fun u =>
      u.net.ports[twinPort port].sending = some { frame := f, cls := (queueOf f).val, cut := true } := by
  refine .of_when rfl ?_ (congrArg Port.sending (updV_self ..))
  rw [show (s.at t).switchOn port = true from hon, show (s.at t).cutThrough = true from hcut,
    show ((s.at t).frameRow f).forwards = true from hfwd, show (s.at t).net = s.net from rfl, hlink, hsend, hfront,
    gateOpen_of_none hgate]
  rfl

theorem next_of_front_none {p : Port} (h : p.front = none) (now : Time) : p.next now = p := by
  rw [Port.next, h]
  exact ite_self p

/-- R352: the frame on a port is kept as sent; with nothing waiting the port is free. -/
theorem frameEnds_effect {x : TxFrame} (h : s.net.ports[port].sending = some x) :
    (s.frameEnds port).net.sent = s.net.sent ++ [(port, x)] ∧
    (s.net.ports[port].front = none → (s.frameEnds port).net.ports[port].sending = none) := by
  unfold State.frameEnds
  rw [h]
  refine ⟨rfl, fun hfront => ?_⟩
  have hfreed : (s.onPort port fun y => { y with sending := none }).net.ports[port] = { s.net.ports[port] with sending := none } :=
    updV_self ..
  refine (congrArg Port.sending ((updV_self ..).trans (next_of_front_none ?_ _))).trans (congrArg Port.sending hfreed)
  exact (congrArg Port.front hfreed).trans hfront

theorem sendFrame_seqNr (dest : List (Fin 4)) (dst : Mac) (tag : Option Tag) (ether : BitVec 16) (data : List Byte)
    (h : s.net.trailers = true) : (s.sendFrame dest dst tag ether data).net.seqNr = s.net.seqNr + 1 := by
  unfold State.sendFrame
  rw [if_neg (by rw [h]; decide)]
  extract_lets body s1
  have h1 : Same (areaMask [.ports, .offered]) s s1 := State.each_same .refl fun _ _ h => State.enqueue_same _ _ rfl h
  have hswitch := h1.area .switch rfl
  simp only [Area.same, Prod.mk.injEq] at hswitch
  obtain ⟨-, -, hseq, -⟩ := hswitch
  exact congrArg (· + 1) hseq

/-- R357: a supervision frame that is due is sent on both lanes under the next sequence number. -/
theorem completes_supervisionFrame (htr : s.net.trailers = true) (hon : s.net.stopped = false)
    (hrun : (s.net.superAt.all fun a => decide (a + ms s.prpLifeCheckInterval ≤ t)) = true) :
    Completes (.supervisionFrame t) s fun u => u.net.superAt = some u.clk.now ∧ u.net.seqNr = s.net.seqNr + 1 := by
  have hdue : (match (s.at t).net.superAt with
      | some a => decide (a + ms (s.at t).prpLifeCheckInterval ≤ (s.at t).clk.now)
      | none => true) = true := by
    rw [show (s.at t).net.superAt = s.net.superAt from rfl]
    cases hat : s.net.superAt with
    | none => rfl
    | some a =>
      rw [hat, Option.all_some] at hrun
      exact decide_eq_true (le_at_now (of_decide_eq_true hrun))
  have hclk : ((s.at t).sendFrame ports superMac none etherPrp ([20, 6] ++ macBytes (s.at t).part.nodeMac)).clk = (s.at t).clk :=
    (State.sendFrame_same (w := maskBut .clk) _ _ _ _ _ rfl .refl).only
  refine .of_when rfl ?_ ⟨?_, sendFrame_seqNr _ _ _ _ _ htr⟩
  · exact Bool.and_eq_true_iff.2 ⟨Bool.and_eq_true_iff.2 ⟨hdue, htr⟩, (congrArg not hon).trans rfl⟩
  · exact (congrArg some (congrArg Clock.now hclk)).symm

/-- Settles O54: by the branches of the switch for links, frames and what ages. -/
theorem theSwitchMovesFrames : Obligations.TheSwitchMovesFrames := by
  unfold Obligations.TheSwitchMovesFrames
  refine ⟨fun t port cap req l s => completes_linkUp, fun t port cap req s => completes_linkUp_unfit,
    fun t port s hlink => ⟨_, rfl, linkLost_effect hlink⟩, fun t port f s => completes_frameReceive_bad,
    fun t port f s => completes_frameReceive_taken, fun t port f r s hon hgood hrow hprp hnew => completes_frameReceive hon hgood ?_,
    fun t a port f r s hon hgood hrow hprp hseen hrun => completes_frameReceive hon hgood ?_,
    fun t port f s => completes_cutThroughStart, fun t port x s h => ⟨_, rfl, frameEnds_effect h⟩,
    fun t s => ⟨_, rfl, rfl⟩, fun t s => ⟨_, rfl, rfl, rfl⟩, fun t s hrel hrun => .of_when rfl ?_ rfl,
    fun t s => completes_supervisionFrame⟩
  · obtain ⟨hdelivered, hseen, -, hclk, -, hframe, -⟩ := frameHeard_net (s := s.at t) (port := port) (f := f)
    rw [routeFrame_of_own (hframe.trans hrow)]
    obtain ⟨hd, hs, hc⟩ := deliverOnce_of_first (s := (s.at t).frameHeard port f) (port := port) hprp (by rw [hseen]; exact hnew)
    rw [hd, hc]
    exact ⟨congrArg (· ++ [(port, f)]) hdelivered, hs⟩
  · obtain ⟨hdelivered, hkept, hdisc, hclk, -, hframe, hforget⟩ := frameHeard_net (s := s.at t) (port := port) (f := f)
    rw [routeFrame_of_own (hframe.trans hrow)]
    obtain ⟨hd, hc⟩ := deliverOnce_of_second (s := (s.at t).frameHeard port f) (port := port) hprp (by rw [hkept]; exact hseen)
      (by rw [hclk, hforget]; exact hrun)
    exact ⟨hd.trans hdelivered, hc.trans (congrArg (· + 1) hdisc)⟩
  · rw [show (s.at t).released = true from hrel, Bool.true_and]
    exact decide_eq_true (le_at_now hrun)

end Sys2Proof.Machine

/-! The host window (R270, R272, R290, R291): the time latch, the commands and registers of the mailbox, and the offsets that take
no write. -/

namespace Sys2Proof.Machine

section
variable {s : State} {t : Time} {w : Word} {off : Nat}

/-- R388: a wake event leaves the mailbox. -/
theorem wakeEvent_mailbox {k : Nat} : (s.wakeEvent k).host.mailbox = s.host.mailbox :=
  (State.wakeEvent_same (w := areaMask [.power]) k rfl (.refl (s := s))).area .mailbox rfl

theorem Mailbox.maySend_iff {m : Mailbox} :
    m.maySend = true ↔ m.busy = false ∧ m.respReady = false ∧ 1 ≤ m.reqLen ∧ m.reqLen ≤ 256 := by
  simp [Mailbox.maySend, and_assoc]

/-- R291: a SEND that is taken. -/
theorem mailboxSend_taken (hsend : s.host.mailbox.maySend = true) :
    s.mailboxSend.host.mailbox.busy = true ∧
      s.mailboxSend.host.mailbox.current = some ((wordBytes s.host.mailbox.req).take s.host.mailbox.reqLen) := by
  rw [State.mailboxSend, if_pos hsend, wakeEvent_mailbox]
  exact ⟨rfl, rfl⟩

/-- R291: a SEND that is not taken sets OVERRUN alone. -/
theorem mailboxSend_ignored (hsend : s.host.mailbox.maySend = false) :
    s.mailboxSend = s.onMailbox fun m => m.overran s.clk.now := by
  rw [State.mailboxSend, if_neg (Bool.eq_false_iff.1 hsend)]

/-- R291: CANCEL of a request in progress. -/
theorem mailboxCancel_busy (hbusy : s.host.mailbox.busy = true) :
    s.mailboxCancel.host.mailbox.busy = false ∧ s.mailboxCancel.host.mailbox.cancelled = true ∧
      s.mailboxCancel.host.mailbox.staged = none ∧ s.mailboxCancel.host.mailbox.current = none ∧
      s.mailboxCancel.sdp.sessions[0] = s.sdp.sessions[0].unreceived := by
  rw [State.mailboxCancel, if_pos hbusy]
  exact ⟨rfl, rfl, rfl, rfl, updV_self ..⟩

/-- R291: the response that is ready is delivered. -/
theorem completes_mailboxResponse {p : List Byte} (hbusy : s.host.mailbox.busy = true) (hreleased : s.released = true)
    (hstaged : s.host.mailbox.staged = some p) :
    Completes (.mailboxResponse t) s fun u => u.host.mailbox = s.host.mailbox.delivered p (s.at t).clk.now := by
  refine ⟨_, rfl, ?_⟩
  rw [show (s.at t).host.mailbox.staged = some p from hstaged]
  dsimp only
  rw [when_of (show ((s.at t).host.mailbox.busy && (s.at t).released) = true from Bool.and_eq_true_iff.2 ⟨hbusy, hreleased⟩)]
  rfl

/-! ### Writes of registers (R270) -/

/-- R270: the offsets outside SK_DEADBOLT and the ranges from 0x0200 to 0x11FF take no write. -/
theorem writeWindow_ignored (hoff : off < 0x0044 ∨ (0x0048 ≤ off ∧ off < 0x0200) ∨ 0x1200 ≤ off) :
    s.writeWindow t off w = s := by
  rw [State.writeWindow, if_neg (by omega), if_neg (by omega), if_neg (by omega), if_neg (by omega), if_neg (by omega),
    if_neg (by omega)]

theorem writeWindow_mailbox (hlow : 0x0400 ≤ off) (hhigh : off < 0x0700) : s.writeWindow t off w = s.writeMailbox off w := by
  rw [State.writeWindow, if_neg (by omega), if_neg (by omega), if_pos ⟨hlow, hhigh⟩]

/-- R270: an aligned 32-bit write to the mailbox range. -/
theorem registerWrite_mailbox {off : BitVec 16} (hlow : 0x0400 ≤ off.toNat) (hhigh : off.toNat < 0x0700)
    (halign : off.toNat % 4 = 0) : exec (.registerWrite t off 4 w) s = .next ((s.at t).writeMailbox off.toNat w) := by
  show execRegisterWrite t off 4 w s = _
  rw [execRegisterWrite, if_pos ⟨rfl, halign⟩, writeWindow_mailbox hlow hhigh]

/-- R290: a write of a request word. -/
theorem writeMailbox_req (hlow : 0x0500 ≤ off) (hhigh : off < 0x0600) :
    s.writeMailbox off w = s.onMailbox fun m => if s.host.mailbox.busy then m.overran s.clk.now
      else { m with req := m.req.set ((off - 0x0500) / 4) w } := by
  rw [State.writeMailbox, if_neg (by omega), if_neg (by omega), if_neg (by omega), if_pos ⟨hlow, hhigh⟩]

/-- R290: a write of the request's length. -/
theorem writeMailbox_reqLen : s.writeMailbox 0x0408 w = s.onMailbox fun m =>
    if s.host.mailbox.busy then m.overran s.clk.now else { m with reqLen := w.toNat % 512 } := by
  rw [State.writeMailbox, if_neg (by decide), if_neg (by decide), if_pos rfl]

/-- R290, R291: of a register that BUSY guards: a write while BUSY sets OVERRUN alone. -/
theorem completes_write_mailbox {P : State → Prop} {off : BitVec 16} {f : Mailbox → Mailbox} (hlow : 0x0400 ≤ off.toNat)
    (hhigh : off.toNat < 0x0700) (halign : off.toNat % 4 = 0)
    (hwrite : (s.at t).writeMailbox off.toNat w =
      (s.at t).onMailbox fun m => if s.host.mailbox.busy then m.overran (s.at t).clk.now else f m)
    (hbusy : s.host.mailbox.busy = true → P ((s.at t).onMailbox fun m => m.overran (s.at t).clk.now))
    (hfree : s.host.mailbox.busy ≠ true → P ((s.at t).onMailbox f)) : Completes (.registerWrite t off 4 w) s P := by
  refine ⟨_, registerWrite_mailbox hlow hhigh halign, ?_⟩
  rw [hwrite]
  by_cases h : s.host.mailbox.busy = true
  · simpa only [if_pos h] using hbusy h
  · simpa only [if_neg h] using hfree h

end

/-- Settles O41: SEND and CANCEL go by BUSY and RESP_READY, and a write of the window reaches the mailbox, or nothing, by its
offset. -/
theorem theHostWindowTakesItsCommands : Obligations.TheHostWindowTakesItsCommands := by
  unfold Obligations.TheHostWindowTakesItsCommands
  refine ⟨?_, ?_, ?_, ?_, ?_, ?_, ?_, ?_, ?_⟩
  · exact fun t s => ⟨_, rfl, rfl, rfl⟩
  · exact fun t s hbusy hready hone h256 => ⟨_, rfl, mailboxSend_taken (s := s.at t) (Mailbox.maySend_iff.2 ⟨hbusy, hready, hone, h256⟩)⟩
  · intro t s h
    have hsend : s.host.mailbox.maySend = false := by
      refine Bool.eq_false_iff.2 fun hsend => ?_
      obtain ⟨hbusy, hready, hone, h256⟩ := Mailbox.maySend_iff.1 hsend
      rw [hbusy, hready] at h
      simp only [Bool.false_eq_true, false_or] at h
      omega
    exact ⟨_, congrArg done (mailboxSend_ignored (s := s.at t) hsend), rfl⟩
  · exact fun t s hbusy => ⟨_, rfl, mailboxCancel_busy (s := s.at t) hbusy⟩
  · intro t p s hbusy hreleased hstaged
    obtain ⟨u, hu, hmailbox⟩ := completes_mailboxResponse (t := t) hbusy hreleased hstaged
    rw [Mailbox.delivered] at hmailbox
    exact ⟨u, hu, by rw [hmailbox], by rw [hmailbox], by rw [hmailbox], by rw [hmailbox]⟩
  · intro t off size w s hoff
    refine ⟨_, congrArg done ?_, rfl⟩
    by_cases hword : size = 4 ∧ off.toNat % 4 = 0
    · exact (if_pos hword).trans (writeWindow_ignored (by omega))
    · exact if_neg hword
  · intro t off w s hlow hhigh halign
    exact completes_write_mailbox (by omega) (by omega) halign (writeMailbox_req (s := s.at t) hlow hhigh)
      (fun h => (if_pos h).mpr rfl) fun h => (if_neg h).mpr rfl
  · exact fun t w s => completes_write_mailbox (by decide) (by decide) (by decide) (writeMailbox_reqLen (s := s.at t))
      (fun h => (if_pos h).mpr rfl) fun h => (if_neg h).mpr rfl
  · exact fun t w s => ⟨_, registerWrite_mailbox (by decide) (by decide) (by decide), rfl, rfl, rfl, rfl⟩

end Sys2Proof.Machine

/-! The host event controller (R392 to R406): what its commands make of the slots, the flags, the targets, the vectors and the
counts, on what the writes held over HIBERNATE and the sample of the claimed sources have left. -/

namespace Sys2Proof.Machine

/-! ### What the sample and arbitration leave (R394, R397) -/

section
variable {s : State} {t : Time} {i : Instr} {w : Word} {core c : Fin 4}

/-- R397: a sample leaves of each slot all but whether its condition has ceased. -/
theorem exists_hecSample_slot : ∃ b, s.hecSample.hec.slots[c] = { s.hec.slots[c] with ceased := b } := by
  unfold State.hecSample
  by_cases hpow : s.hecPowered = true
  · rw [if_pos hpow]
    by_cases hceased : (s.hec.slots[c].busy && !s.hec.slots[c].accessed && isLevel s.hec.slots[c].src &&
        !s.levelOf s.hec.slots[c].src) = true
    · exact ⟨true, (Vector.getElem_ofFn ..).trans (if_pos hceased)⟩
    · exact ⟨_, (Vector.getElem_ofFn ..).trans (if_neg hceased)⟩
  · rw [if_neg hpow]
    exact ⟨_, rfl⟩

theorem hecSample_busy : s.hecSample.hec.slots[c].busy = s.hec.slots[c].busy := by
  obtain ⟨b, h⟩ := exists_hecSample_slot (s := s) (c := c)
  rw [h]

theorem hecSample_src : s.hecSample.hec.slots[c].src = s.hec.slots[c].src := by
  obtain ⟨b, h⟩ := exists_hecSample_slot (s := s) (c := c)
  rw [h]

theorem hecSample_eoiErr : s.hecSample.hec.slots[c].eoiErr = s.hec.slots[c].eoiErr := by
  obtain ⟨b, h⟩ := exists_hecSample_slot (s := s) (c := c)
  rw [h]

theorem hecSample_vbase : s.hecSample.hec.vbase = s.hec.vbase := by
  obtain ⟨slots, h⟩ := exists_hecSample_hec_eq (s := s)
  rw [h]

theorem hecSample_goneCnt : s.hecSample.hec.goneCnt = s.hec.goneCnt := by
  obtain ⟨slots, h⟩ := exists_hecSample_hec_eq (s := s)
  rw [h]

theorem hecSample_held : s.hecSample.hec.held = s.hec.held := by
  obtain ⟨slots, h⟩ := exists_hecSample_hec_eq (s := s)
  rw [h]

theorem hecSample_clk : s.hecSample.clk = s.clk := by
  unfold State.hecSample
  exact (apply_ite State.clk ..).trans (ite_self _)

/-- R393: a slot in service is offered nothing. -/
theorem hecArbitrate_offer_of_busy (hbusy : s.hec.slots[core].busy = true) : s.hecArbitrate.hec.offer[core] = none := by
  have hbest : s.hecBest core = none := if_pos hbusy
  unfold State.hecArbitrate
  by_cases hpow : s.hecPowered = true
  · rw [if_pos hpow]
    exact (Vector.getElem_ofFn ..).trans (congrArg (Option.map _) hbest)
  · rw [if_neg hpow]
    exact Vector.getElem_replicate core.isLt

/-! ### Claims and first accesses (R394, R395, R397) -/

/-- R394: a core takes the offer of its target. -/
theorem completes_hecAccept {n : Fin 64} {a : Word} (hoffer : (s.at t).hecFlush.hec.offer[core].isSome = true)
    (htaken : (s.at t).hecFlush.hecOffered core = some (n, a)) : Completes (.hecAccept t core) s fun u =>
      u.hec.slots[core].busy = true ∧ u.hec.slots[core].src = n ∧ u.hec.slots[core].accessed = false ∧ u.hec.offer[core] = none ∧
      ∀ c : Fin 4, c ≠ core → u.hec.slots[c] = (s.at t).hecFlush.hec.slots[c] := by
  refine ⟨_, rfl, ?_⟩
  rw [if_pos hoffer, htaken]
  have hslot (slots : Vector HecSlot 4) (k : HecSlot) : (updV slots core fun _ => k)[core] = k := updV_self ..
  refine ⟨congrArg HecSlot.busy (hslot ..), congrArg HecSlot.src (hslot ..), congrArg HecSlot.accessed (hslot ..),
    hecArbitrate_offer_of_busy (congrArg HecSlot.busy (hslot ..)), fun c hc => updV_other _ _ hc⟩

/-- R397: the first access after a claim. -/
theorem hecAccess_of_claimed (hbusy : s.hec.slots[core].busy = true) (haccess : s.hec.slots[core].accessed = false) :
    s.hecAccess core = { s with hec := { s.hec with
      slots := updV s.hec.slots core fun k =>
        { k with accessed := true, gone := isLevel s.hec.slots[core].src && s.hec.slots[core].ceased }
      goneCnt := updV s.hec.goneCnt core fun c =>
        if isLevel s.hec.slots[core].src && s.hec.slots[core].ceased && c != 0xFFFFFFFF then c + 1 else c
      goneAt := if isLevel s.hec.slots[core].src && s.hec.slots[core].ceased then
        updV s.hec.goneAt core fun _ => some s.clk.now else s.hec.goneAt } } := by
  unfold State.hecAccess
  exact if_pos (by rw [hbusy, haccess]; rfl)

theorem completes_hecFirstAccess {r : State} (hr : r = (s.at t).hecFlush.hecSample) (hbusy : r.hec.slots[core].busy = true)
    (haccess : r.hec.slots[core].accessed = false) : Completes (.hecFirstAccess t core) s fun u =>
      u.hec.slots[core].accessed = true ∧ u.hec.slots[core].busy = true ∧
      u.hec.slots[core].gone = (isLevel r.hec.slots[core].src.val && r.hec.slots[core].ceased) ∧
      u.hec.goneCnt[core] = (if u.hec.slots[core].gone && r.hec.goneCnt[core] != 0xFFFFFFFF then r.hec.goneCnt[core] + 1
        else r.hec.goneCnt[core]) := by
  refine ⟨_, rfl, ?_⟩
  rw [← hr, hecAccess_of_claimed hbusy haccess]
  have hslot (f : HecSlot → HecSlot) : (updV r.hec.slots core f)[core] = f r.hec.slots[core] := updV_self ..
  have hgone : (updV r.hec.slots core fun k =>
      { k with accessed := true, gone := isLevel r.hec.slots[core].src && r.hec.slots[core].ceased })[core].gone =
      (isLevel r.hec.slots[core].src.val && r.hec.slots[core].ceased) := congrArg HecSlot.gone (hslot _)
  refine ⟨congrArg HecSlot.accessed (hslot _), (congrArg HecSlot.busy (hslot _)).trans hbusy, hgone, ?_⟩
  exact (updV_self ..).trans (congrArg (fun b => if b && r.hec.goneCnt[core] != 0xFFFFFFFF then r.hec.goneCnt[core] + 1
    else r.hec.goneCnt[core]) hgone.symm)

/-! ### EOI (R396, R403) -/

/-- R397: an access leaves the source in service, and whether there is one. -/
theorem hecAccess_slot : (s.hecAccess core).hec.slots[core].busy = s.hec.slots[core].busy ∧
    (s.hecAccess core).hec.slots[core].src = s.hec.slots[core].src ∧
    (s.hecAccess core).hec.slots[core].eoiErr = s.hec.slots[core].eoiErr := by
  unfold State.hecAccess
  dsimp only
  split
  · have hslot (f : HecSlot → HecSlot) : (updV s.hec.slots core f)[core] = f s.hec.slots[core] := updV_self ..
    exact ⟨(congrArg HecSlot.busy (hslot _)).trans rfl, (congrArg HecSlot.src (hslot _)).trans rfl,
      (congrArg HecSlot.eoiErr (hslot _)).trans rfl⟩
  · exact ⟨rfl, rfl, rfl⟩

/-- R396: EOI of the source in service. -/
theorem hecEnd_served (hbusy : s.hec.slots[core].busy = true) (hsrc : s.hec.slots[core].src.val = w.toNat % 64) :
    (s.hecEnd core w).hec.slots[core] = { eoiErr := s.hec.slots[core].eoiErr, errAt := s.hec.slots[core].errAt } := by
  unfold State.hecEnd
  exact (updV_self ..).trans (if_pos (by rw [hbusy, hsrc, beq_self_eq_true, Bool.and_self]))

/-- R403: EOI of another source, or of none in service. -/
theorem hecEnd_other (h : s.hec.slots[core].busy = false ∨ s.hec.slots[core].src.val ≠ w.toNat % 64) :
    (s.hecEnd core w).hec.slots[core] = { s.hec.slots[core] with eoiErr := true, errAt := some s.clk.now } := by
  unfold State.hecEnd
  refine (updV_self ..).trans (if_neg fun hserved => ?_)
  obtain ⟨hbusy, hsrc⟩ := Bool.and_eq_true_iff.1 hserved
  exact h.elim (fun hf => Bool.noConfusion (hf.symm.trans hbusy)) fun hne => hne (beq_iff_eq.1 hsrc)

theorem hecEoi_slot (hpow : s.hecFlush.hecSample.hecPowered = true) {b : Instr} (hi : i = .hecEoi t core w)
    (hb : b = i) : (s.hecCommand b).hec.slots[core].busy = ((s.hecFlush.hecSample.hecAccess core).hecEnd core w).hec.slots[core].busy ∧
      (s.hecCommand b).hec.slots[core].src = ((s.hecFlush.hecSample.hecAccess core).hecEnd core w).hec.slots[core].src ∧
      (s.hecCommand b).hec.slots[core].eoiErr = ((s.hecFlush.hecSample.hecAccess core).hecEnd core w).hec.slots[core].eoiErr := by
  rw [hb, hi, hecCommand_of_powered hpow]
  exact ⟨hecSample_busy, hecSample_src, hecSample_eoiErr⟩

theorem completes_hecEoi {r : State} (hr : r = (s.at t).hecFlush.hecSample) (hpow : r.hecPowered = true)
    (hbusy : r.hec.slots[core].busy = true) (hsrc : r.hec.slots[core].src.val = w.toNat % 64) :
    Completes (.hecEoi t core w) s fun u =>
      u.hec.slots[core].busy = false ∧ u.hec.slots[core].eoiErr = r.hec.slots[core].eoiErr := by
  subst hr
  obtain ⟨hb, -, he⟩ := hecEoi_slot (t := t) (w := w) (core := core) hpow rfl rfl
  obtain ⟨hab, has, hae⟩ := hecAccess_slot (s := (s.at t).hecFlush.hecSample) (core := core)
  have hend := hecEnd_served (hab.trans hbusy) ((congrArg Fin.val has).trans hsrc)
  rw [hend] at hb he
  exact ⟨_, rfl, hb, he.trans hae⟩

theorem completes_hecEoi_other {r : State} (hr : r = (s.at t).hecFlush.hecSample) (hpow : r.hecPowered = true)
    (h : r.hec.slots[core].busy = false ∨ r.hec.slots[core].src.val ≠ w.toNat % 64) :
    Completes (.hecEoi t core w) s fun u =>
      u.hec.slots[core].busy = r.hec.slots[core].busy ∧ u.hec.slots[core].src = r.hec.slots[core].src ∧
      u.hec.slots[core].eoiErr = true := by
  subst hr
  obtain ⟨hb, hs, he⟩ := hecEoi_slot (t := t) (w := w) (core := core) hpow rfl rfl
  obtain ⟨hab, has, hae⟩ := hecAccess_slot (s := (s.at t).hecFlush.hecSample) (core := core)
  have hend := hecEnd_other (s := (s.at t).hecFlush.hecSample.hecAccess core) (w := w) (by rw [hab, has]; exact h)
  rw [hend] at hb hs he
  exact ⟨_, rfl, hb.trans hab, hs.trans has, he⟩

/-! ### Other writes with the controller powered (R398, R402 to R404) -/

/-- R392: no source of the upper half of HEC_PEND is a pulse source. -/
theorem Hec.clear_high {h : Hec} {sets : Word} {now : Time} : h.clear true w sets now = h := by
  unfold Hec.clear
  refine List.foldlRecOn (motive := fun x => x = h) _ _ rfl fun x hx n _ => ?_
  have hpulse : isPulse (n.val + 32) = false := by
    rw [isPulse, decide_eq_false (by omega), Bool.false_and]
  rw [← hx]
  exact if_pos (by rw [if_pos rfl, hpulse]; rfl)

/-- R398: a source that is no pulse source has no flag that a write clears. -/
theorem Hec.clear_of_not_pulse {h : Hec} {sets : Word} {now : Time} {n : Fin 64} (hn : isPulse n.val = false) :
    (h.clear false w sets now).pend.getLsbD n.val = h.pend.getLsbD n.val ∧
      (h.clear false w sets now).lostClr[n] = h.lostClr[n] := by
  rw [clear_low]
  refine List.foldlRecOn (motive := fun x : Hec => x.pend.getLsbD n.val = h.pend.getLsbD n.val ∧ x.lostClr[n] = h.lostClr[n])
    _ _ ⟨rfl, rfl⟩ fun x ⟨hp, hl⟩ j _ => ?_
  rcases eq_or_ne (⟨j.val, by omega⟩ : Fin 64) n with hj | hj
  · rw [hj, clearOne_of_not_pulse hn]
    exact ⟨hp, hl⟩
  · exact ⟨(clearOne_pend_other hj).trans hp, (clearOne_lostClr_other hj).trans hl⟩

/-- R398: what a write to a half of HEC_PEND leaves of the flag and of the counter of a source. -/
theorem Hec.clear_source {h : Hec} {high : Bool} {m : Word} {now : Time} {n : Fin 64} :
    (h.clear high w m now).pend.getLsbD n.val =
      (if isPulse n.val && !high then m.getLsbD n.val || (h.pend.getLsbD n.val && !w.getLsbD n.val)
      else h.pend.getLsbD n.val) ∧
    (h.clear high w m now).lostClr[n] =
      (if isPulse n.val && !high && m.getLsbD n.val && w.getLsbD n.val && h.lostClr[n] != 0xFFFF then h.lostClr[n] + 1
      else h.lostClr[n]) := by
  cases high with
  | true =>
    rw [clear_high]
    simp
  | false =>
    cases hn : isPulse n.val with
    | false =>
      obtain ⟨hp, hl⟩ := clear_of_not_pulse (h := h) (w := w) (sets := m) (now := now) hn
      rw [hp, hl]
      simp
    | true =>
      rw [clear_pend hn, clear_lostClr hn]
      refine ⟨rfl, ?_⟩
      rcases eq_or_ne h.lostClr[n] 0xFFFF with hmax | hmax
      · rw [if_pos hmax, hmax]
        simp
      · rw [if_neg hmax, bne_iff_ne.2 hmax]
        simp

theorem completes_hecVbaseWrite {r : State} (hr : r = (s.at t).hecFlush.hecSample) (hpow : r.hecPowered = true) :
    Completes (.hecVbaseWrite t core w) s fun u =>
      u.hec.vbase[core] = w &&& 0xFFFFFC00 ∧ ∀ c : Fin 4, c ≠ core → u.hec.vbase[c] = r.hec.vbase[c] := by
  subst hr
  refine ⟨_, congrArg done (hecCommand_of_powered hpow), ?_⟩
  have hvbase : ∀ u : State, u.hecSample.hecArbitrate.hec.vbase = u.hec.vbase := fun u => hecSample_vbase
  beta_reduce
  rw [hvbase]
  exact ⟨updV_self .., fun c hc => updV_other _ _ hc⟩

theorem completes_clrCounts {r : State} (hr : r = (s.at t).hecFlush.hecSample) (hpow : r.hecPowered = true) :
    Completes (.clrCounts t) s fun u =>
      (∀ c : Fin 4, u.hec.goneCnt[c] = if r.hec.goneAt[c] = some u.clk.now then 1 else 0) ∧
      ∀ n : Fin 64, u.hec.lostClr[n] = if r.hec.lostAt[n] = some u.clk.now then 1 else 0 := by
  subst hr
  refine ⟨_, congrArg done (hecCommand_of_powered hpow), ?_⟩
  have hview : ∀ u : State, u.hecSample.hecArbitrate.hec.goneCnt = u.hec.goneCnt ∧
      u.hecSample.hecArbitrate.hec.lostClr = u.hec.lostClr ∧ u.hecSample.hecArbitrate.clk = u.clk :=
    fun u => ⟨hecSample_goneCnt, hecSample_lostClr, hecSample_clk⟩
  obtain ⟨hgone, hlost, hclk⟩ := hview ((s.at t).hecFlush.hecSample.hecWrite (.clrCounts t))
  beta_reduce
  rw [hgone, hlost, hclk]
  exact ⟨fun c => Vector.getElem_ofFn .., fun n => Vector.getElem_ofFn ..⟩

/-- R400: a core reset frees the slot of its target. -/
theorem completes_coreReset {r : State} (hr : r = (s.at t).hecFlush.hecSample) :
    Completes (.coreReset t core) s fun u =>
      u.hec.slots[core].busy = false ∧ u.hec.slots[core].eoiErr = r.hec.slots[core].eoiErr ∧ u.hec.pend = r.hec.pend ∧
      ∀ c : Fin 4, c ≠ core → u.hec.slots[c] = r.hec.slots[c] := by
  subst hr
  have hslot (slots : Vector HecSlot 4) (f : HecSlot → HecSlot) : (updV slots core f)[core] = f slots[core] := updV_self ..
  exact ⟨_, rfl, congrArg HecSlot.busy (hslot ..), (congrArg HecSlot.eoiErr (hslot ..)).trans rfl, rfl, fun c hc => updV_other _ _ hc⟩

/-! ### Writes held over HIBERNATE (R405) -/

theorem wakeEvent_hec {k : Nat} : (s.wakeEvent k).hec = s.hec := by
  rw [State.wakeEvent]
  split
  · exact when_view (g := State.hec) rfl
  · exact (apply_ite State.hec ..).trans (ite_self _)

theorem not_hecPowered (hstate : s.pwr.state = .hibernate) (hwake : s.pwr.waking = none) : s.hecPowered = false := by
  rw [State.hecPowered, hstate, hwake]

/-- R405: in HIBERNATE a write is held and changes nothing else of the controller. -/
theorem hecCommand_of_not_powered (hpow : s.hecPowered = false) :
    (s.hecCommand i).hec = { s.hec with held := s.hec.held ++ [i] } := by
  have hneg : ¬ s.hecPowered = true := Bool.eq_false_iff.1 hpow
  have hflush : s.hecFlush.hecSample = s := by
    rw [State.hecFlush, if_neg hneg]
    unfold State.hecSample
    exact if_neg hneg
  rw [State.hecCommand, hflush, if_neg hneg]
  exact wakeEvent_hec

/-- R405: with the controller powered again a held write of a vector base has been applied. -/
theorem hecFlush_of_held_vbase {b : Time} (hpow : s.hecPowered = true) (hheld : s.hec.held = [.hecVbaseWrite b c w]) :
    s.hecFlush.hec.held = [] ∧ s.hecFlush.hec.vbase[c] = w &&& 0xFFFFFC00 := by
  rw [State.hecFlush, if_pos hpow, hheld]
  exact ⟨rfl, updV_self ..⟩

theorem hecAccess_keeps : (s.hecAccess core).hec.held = s.hec.held ∧ (s.hecAccess core).hec.vbase = s.hec.vbase := by
  unfold State.hecAccess
  dsimp only
  split <;> exact ⟨rfl, rfl⟩

end

/-- Settles O42: a command of the controller acts on the writes held before it and the sample, and is itself held in
HIBERNATE. -/
theorem theHostEventControllerDelivers : Obligations.TheHostEventControllerDelivers := by
  unfold Obligations.TheHostEventControllerDelivers
  refine ⟨?_, ?_, ?_, ?_, ?_, ?_, ?_, ?_, ?_, ?_, ?_, ?_, ?_, ?_, ?_, ?_⟩
  · rintro t src r s hpulse rfl
    obtain ⟨u, hexec, hpend, -⟩ := exec_hecSourcePending (s := s) (t := t) hpulse
    refine ⟨u, hexec, fun n => ?_⟩
    rw [hpend, BitVec.getLsbD_or, getLsbD_one_shiftLeft, Bool.beq_eq_decide_eq]
    simp only [eq_comm]
  · rintro t core n a r s rfl hoffer htaken
    exact completes_hecAccept hoffer htaken
  · exact fun t core r s hr hbusy haccess => completes_hecFirstAccess hr hbusy haccess
  · exact fun t core w r s hr hpow hbusy hsrc => completes_hecEoi hr hpow hbusy hsrc
  · exact fun t core w r s hr hpow h => completes_hecEoi_other hr hpow h
  · rintro t high w sets m r s rfl hpow rfl
    refine ⟨_, congrArg done (hecCommand_of_powered hpow), fun n => ?_⟩
    rw [hecArbitrate_pend, hecArbitrate_lostClr, hecSample_pend, hecSample_lostClr]
    exact Hec.clear_source
  · rintro t i w r s rfl hpow
    obtain ⟨u, hexec, htarget⟩ := exec_hecTargetWrite (i := i) (w := w) hpow
    refine ⟨u, hexec, fun n => ?_⟩
    rw [htarget, Hec.setTargets_target]
  · exact fun t core w r s hr hpow => completes_hecVbaseWrite hr hpow
  · exact fun t r s hr hpow => completes_clrCounts hr hpow
  · exact fun t core r s hr => completes_coreReset hr
  · intro t core w s hstate hwake
    have h := hecCommand_of_not_powered (i := .hecEoi t core w) (not_hecPowered (s := s.at t) hstate hwake)
    exact ⟨_, rfl, congrArg Hec.held h, (congrArg Hec.slots h).trans rfl⟩
  · intro t high w sets s hstate hwake
    have h := hecCommand_of_not_powered (i := .hecPendClear t high w sets) (not_hecPowered (s := s.at t) hstate hwake)
    exact ⟨_, rfl, congrArg Hec.held h, (congrArg Hec.pend h).trans rfl⟩
  · intro t i w s hstate hwake
    have h := hecCommand_of_not_powered (i := .hecTargetWrite t i w) (not_hecPowered (s := s.at t) hstate hwake)
    exact ⟨_, rfl, congrArg Hec.held h, (congrArg Hec.target h).trans rfl⟩
  · intro t core w s hstate hwake
    have h := hecCommand_of_not_powered (i := .hecVbaseWrite t core w) (not_hecPowered (s := s.at t) hstate hwake)
    exact ⟨_, rfl, congrArg Hec.held h, (congrArg Hec.vbase h).trans rfl⟩
  · intro t s hstate hwake
    have h := hecCommand_of_not_powered (i := .clrCounts t) (not_hecPowered (s := s.at t) hstate hwake)
    exact ⟨_, rfl, congrArg Hec.held h, (congrArg Hec.goneCnt h).trans rfl, (congrArg Hec.lostClr h).trans rfl⟩
  · intro t b core c w s hpow hheld
    obtain ⟨hheld', hvbase'⟩ := hecFlush_of_held_vbase (s := s.at t) hpow hheld
    obtain ⟨hh, hv⟩ := hecAccess_keeps (s := (s.at t).hecFlush.hecSample) (core := core)
    refine ⟨_, rfl, (hh.trans hecSample_held).trans hheld', ?_⟩
    rw [show ∀ x : State, x.hecArbitrate.hec.vbase = x.hec.vbase from fun _ => rfl, hv, hecSample_vbase, hvbase']

end Sys2Proof.Machine

/-! The time base (R358 to R365, R432): Announce and path delay, Sync, holdover, SYNC_PPS and the loss of its clock. -/

namespace Sys2Proof.Machine

variable {s : State} {t : Time} {port : Fin 4}

/-! ### Announce and path delay (R358 to R360) -/

/-- R358: an Announce that is not worse is kept at its port. -/
theorem completes_announce {a : AnnounceInfo} (hlink : s.net.ports[port].link = true)
    (hcapable : s.net.ports[port].asCapable = true)
    (hbest : (s.net.ports[port].best.all fun b => a.source == b.source || lexLess (annVector a) (annVector b)) = true) :
    Completes (.announce t port a) s fun u => u.net.ports[port].best = some a := by
  refine ⟨_, rfl, ?_⟩
  rw [when_of]
  · obtain ⟨hport, -⟩ := bestMaster_roleless (s := (s.at t).onPort port fun x => { x with best := some a }) (port := port)
    exact (congrArg Port.best hport).trans (congrArg Port.best (updV_self ..))
  · rw [show (s.at t).net = s.net from rfl, hlink, hcapable, Bool.true_and, Bool.true_and]
    cases h : s.net.ports[port].best with
    | none => rfl
    | some b => rwa [h] at hbest

/-- What sending a frame of the time protocol leaves of its port. -/
theorem sendTime_line (dst : Mac) (body : List Byte) : (s.sendTime port dst body).net.ports[port].line = s.net.ports[port].line := by
  rw [State.sendTime]
  split
  · rfl
  · exact enqueue_line _

/-- R359: what an exchange makes of its port. -/
def State.exchanged (s : State) (d : Option Nat) (x : Port) : Port :=
  { x with
    exchanges := x.exchanges + 1
    pdelayAt := s.clk.now + s.pdelayInterval (x.exchanges + 1)
    delay := d.getD x.delay
    asCapable := d.any fun x => decide (x ≤ s.propDelayThreshold)
    best := if d.any fun x => decide (x ≤ s.propDelayThreshold) then x.best else none }

/-- R359: an exchange that is due. -/
def State.exchange (s : State) (port : Fin 4) (d : Option Nat) : State :=
  ((s.sendTime port timeMac [0x02]).onPort port (s.exchanged d)).bestMaster

theorem completes_exchange {P : State → Prop} {d : Option Nat} (hlink : s.net.ports[port].link = true)
    (hdue : s.net.ports[port].pdelayAt ≤ t) (hP : P ((s.at t).exchange port d)) : Completes (.pdelayReq t port d) s P := by
  refine .of_when rfl (Bool.and_eq_true_iff.2 ⟨hlink, decide_eq_true (le_at_now hdue)⟩) ?_
  cases d <;> exact hP

theorem exchange_clk (d : Option Nat) : (s.exchange port d).clk = s.clk :=
  (State.bestMaster_same (w := maskBut .clk) rfl (State.onPort_same port _ rfl (State.sendTime_same port _ _ rfl .refl))).only

theorem exchange_port (d : Option Nat) : (s.exchange port d).net.ports[port].roleless =
    (s.exchanged d (s.sendTime port timeMac [0x02]).net.ports[port]).roleless := by
  obtain ⟨hport, -⟩ :=
    bestMaster_roleless (s := (s.sendTime port timeMac [0x02]).onPort port (s.exchanged d)) (port := port)
  exact hport.trans (congrArg Port.roleless (updV_self ..))

/-- R359, R360: a path-delay exchange that is due is counted, and judged by its delay. -/
theorem completes_pdelayReq {d : Option Nat} (hlink : s.net.ports[port].link = true) (hdue : s.net.ports[port].pdelayAt ≤ t) :
    Completes (.pdelayReq t port d) s fun u =>
      u.net.ports[port].exchanges = s.net.ports[port].exchanges + 1 ∧
      u.net.ports[port].asCapable = d.any (fun x => decide (x ≤ s.propDelayThreshold)) ∧
      u.net.ports[port].delay = d.getD s.net.ports[port].delay ∧
      u.net.ports[port].pdelayAt = u.clk.now + s.pdelayInterval (s.net.ports[port].exchanges + 1) := by
  refine completes_exchange hlink hdue ?_
  have hline : ((s.at t).sendTime port timeMac [0x02]).net.ports[port].line = s.net.ports[port].line := sendTime_line ..
  have hexch := congrArg Port.exchanges hline
  have hdelay : ((s.at t).sendTime port timeMac [0x02]).net.ports[port].delay = s.net.ports[port].delay :=
    (congrArg Port.delay hline :)
  have hport := exchange_port (s := s.at t) (port := port) d
  rw [exchange_clk]
  refine ⟨(congrArg Port.exchanges hport).trans (congrArg (· + 1) hexch), (congrArg Port.asCapable hport).trans rfl,
    (congrArg Port.delay hport).trans (congrArg d.getD hdelay),
    (congrArg Port.pdelayAt hport).trans (congrArg (fun n => (s.at t).clk.now + s.pdelayInterval (n + 1)) hexch)⟩

/-! ### Time states and Sync (R361, R362) -/

/-- R361: a change of time state. -/
theorem timeState_tb {n : Nat} (hne : s.tb.state ≠ n) : (s.timeState n).tb = { s.tb with
    state := n
    good := 0
    bad := 0
    stepped := if n = 1 then false else s.tb.stepped
    ppsOut := s.tb.ppsOut && decide (2 ≤ n) } := by
  rw [State.timeState, if_neg hne]
  exact (State.when_same (w := areaMask [.power]) .refl fun _ h => State.wakeEvent_same 3 rfl h).area .timeBase rfl

theorem timeState_state (n : Nat) : (s.timeState n).tb.state = n := by
  by_cases h : s.tb.state = n
  · rwa [State.timeState, if_pos h]
  · rw [timeState_tb h]

theorem relaySync_keeps : s.relaySync.tb = s.tb ∧ s.relaySync.clk = s.clk :=
  ⟨(State.relaySync_same (w := maskBut .timeBase) rfl .refl).only, (State.relaySync_same (w := maskBut .clk) rfl .refl).only⟩

/-- R365: the offset of a Sync is taken from its stamp. -/
def State.syncOffset (s : State) (gm : Time) : Int := (s.eventStamp.1 : Int) - (gm : Int)

/-- R358: a Sync on the slave port is taken. -/
theorem completes_sync {P : State → Prop} {gm : Time} (hslave : s.tb.slave = some port) (hlink : s.net.ports[port].link = true)
    (hP : ∀ u : State, u.tb = ((s.at t).takeSync gm).tb → u.clk = ((s.at t).takeSync gm).clk → P u) :
    Completes (.sync t port gm) s P := by
  refine .of_when rfl (Bool.and_eq_true_iff.2 ⟨beq_iff_eq.2 hslave, hlink⟩) ?_
  obtain ⟨htb, hclk⟩ := relaySync_keeps (s := (s.at t).takeSync gm)
  exact hP _ htb hclk

/-- R362: while the part acquires, the first Sync steps the time base. -/
theorem takeSync_step {gm : Time} (hstate : s.tb.state = 1) (hstepped : s.tb.stepped = false) :
    (s.takeSync gm).tb = { s.tb with stepped := true, good := 0, offset := 0, lastSync := s.clk.now } ∧
    (s.takeSync gm).clk = { s.eventStamp.2.clk with tbOff := s.eventStamp.2.clk.tbOff + -s.syncOffset gm, slew := 0 } := by
  unfold State.takeSync
  rw [if_pos hstate, if_pos (by rw [hstepped]; rfl)]
  exact ⟨rfl, rfl⟩

theorem eventStamp_keeps : s.eventStamp.2.clk = s.clk ∧ s.eventStamp.2.tb = s.tb := by
  unfold State.eventStamp State.unstatedRound
  dsimp only
  split <;> exact ⟨rfl, rfl⟩

/-- R361: what the time base is once the stamp of a Sync is taken. -/
def State.syncTb (s : State) (gm : Time) : TimeBase := { s.tb with offset := s.syncOffset gm, lastSync := s.clk.now }

/-- R361: the state once the stamp of a Sync is taken. -/
def State.synced (s : State) (gm : Time) : State :=
  { s.eventStamp.2 with tb := { s.tb with offset := s.syncOffset gm, lastSync := s.clk.now } }

/-- R361: while the part acquires, each Sync within 250 ns after the step counts, and the fourth makes it synchronised. -/
theorem takeSync_acquire {gm : Time} (hstate : s.tb.state = 1) (hstepped : s.tb.stepped = true)
    (hoff : (s.syncOffset gm).natAbs ≤ 250) :
    (s.takeSync gm).tb.state = (if 4 ≤ s.tb.good + 1 then 2 else 1) ∧ (s.takeSync gm).tb.offset = s.syncOffset gm := by
  rw [State.syncOffset] at hoff
  rw [State.takeSync, if_pos hstate, if_neg (by rw [hstepped]; decide), if_pos hoff]
  by_cases hgood : 4 ≤ s.tb.good + 1
  · rw [if_pos hgood, if_pos hgood]
    have hne : (s.synced gm).tb.state ≠ 2 := fun h => absurd (hstate.symm.trans h) (by decide)
    have htb := timeState_tb hne
    exact ⟨congrArg TimeBase.state htb, congrArg TimeBase.offset htb⟩
  · rw [if_neg hgood, if_neg hgood]
    exact ⟨hstate, rfl⟩

/-- R361: while the part is synchronised, an offset within 1 µs is slewed away. -/
theorem takeSync_slew {gm : Time} (hstate : s.tb.state = 2) (hoff : (s.syncOffset gm).natAbs ≤ 1000) :
    (s.takeSync gm).tb.state = 2 ∧ (s.takeSync gm).clk.slew = -s.syncOffset gm ∧ (s.takeSync gm).tb.bad = 0 := by
  rw [State.syncOffset] at hoff
  rw [State.takeSync, if_neg (by rw [hstate]; decide), if_pos hstate, if_pos hoff]
  exact ⟨hstate, rfl, rfl⟩

/-! ### Holdover (R361) -/

theorem judgeHoldover_over (h : s.holdOver = true) : s.judgeHoldover.tb.state = 0 := by
  rw [State.judgeHoldover, when_of h]
  exact timeState_state 0

/-- R361: synchronised goes to holdover, which does not end at once. -/
theorem enterHoldover_holds (hstate : s.tb.state = 2) (hlock : s.tb.ppsLock = false) (hoff : s.tb.offset.natAbs ≤ 1000)
    (hlimit : 1 ≤ s.holdoverLimit) :
    s.enterHoldover.tb.state = 3 ∧ s.enterHoldover.tb.holdAt = s.clk.now ∧ s.enterHoldover.clk = s.clk := by
  unfold State.enterHoldover
  extract_lets _ s1
  have htb : s1.tb = _ := timeState_tb (s := { s with tb := { s.tb with holdAt := s.clk.now, holdOff := s.tb.offset.natAbs } }) (n := 3)
    (by rw [hstate]; decide)
  have h1 : Same (areaMask [.pulses, .timeBase, .power, .offered]) s s1 :=
    State.timeState_same 3 rfl (Same.upd (m := areaMask [.timeBase]) (hw := rfl) (hk := .refl))
  have hclk : s1.clk = s.clk := h1.area .clk rfl
  have hlimit1 : s1.holdoverLimit = s.holdoverLimit := by
    rw [State.holdoverLimit, State.cfg, show s1.sdp.work = s.sdp.work from h1.area .work rfl]
    rfl
  have herror : ¬ 1000 * 1000000000 < s1.holdError := by
    rw [State.holdError, htb, hclk]
    dsimp only
    rw [if_neg (by rw [hlock]; decide), Nat.sub_self]
    omega
  have hover : s1.holdOver = false := by
    rw [State.holdOver, decide_eq_false herror, htb, hclk, hlimit1]
    refine Bool.and_eq_false_iff.2 (.inr ?_)
    rw [Bool.false_or]
    exact decide_eq_false (Nat.not_le.2 (Nat.lt_add_of_pos_right (Nat.mul_pos hlimit (by decide))))
  rw [State.judgeHoldover, when_of_not hover, htb, hclk]
  exact ⟨rfl, rfl, rfl⟩

/-! ### SYNC_PPS (R364, R365) -/

theorem ppsLocked_tb (on : Bool) : (s.ppsLocked on).tb = { s.tb with ppsLock := on } := by
  rw [State.ppsLocked]
  split
  · next h => rw [← h]
  · rfl

theorem ppsLocked_clk (on : Bool) : (s.ppsLocked on).clk = s.clk := (State.ppsLocked_same (w := maskBut .clk) on rfl .refl).only

/-- R365: an edge of the input is stamped; four in a row near a whole second lock it. -/
theorem completes_syncPpsEdge (hmode : s.syncPpsMode = 1) : Completes (.syncPpsEdge t) s fun u =>
    u.tb.ppsAt = some u.clk.now ∧ u.tb.ppsLock = (u.tb.ppsRun == 4) ∧
    u.tb.ppsRun = (if u.tb.ppsPhase ≤ 500 then min 4 (s.tb.ppsRun + 1) else 0) := by
  refine .of_when rfl (beq_iff_eq.2 hmode) ?_
  dsimp only
  rw [ppsLocked_tb, ppsLocked_clk]
  exact ⟨congrArg (fun c : Clock => some c.now) eventStamp_keeps.1.symm, rfl, rfl⟩

theorem completes_syncPpsTimeout {a : Time} (hmode : s.syncPpsMode = 1) (hedge : s.tb.ppsAt = some a) (hlate : a + ms 1500 ≤ t) :
    Completes (.syncPpsTimeout t) s fun u => u.tb.ppsLock = false ∧ u.tb.ppsRun = 0 := by
  refine ⟨_, rfl, ?_⟩
  rw [show (s.at t).tb.ppsAt = some a from hedge]
  dsimp only
  rw [when_of (Bool.and_eq_true_iff.2 ⟨beq_iff_eq.2 (show (s.at t).syncPpsMode = 1 from hmode),
    decide_eq_true (le_at_now hlate)⟩), ppsLocked_tb]
  exact ⟨rfl, rfl⟩

/-- Settles O55: each command of the time base is gated by its condition, and a change of time state keeps what it does not
name. -/
theorem theTimeBaseFollowsItsMaster : Obligations.TheTimeBaseFollowsItsMaster := by
  unfold Obligations.TheTimeBaseFollowsItsMaster
  refine ⟨?_, ?_, ?_, ?_, ?_, ?_, ?_, ?_, ?_, ?_, ?_, ?_⟩
  · exact fun t port a s hlink hcapable hbest => completes_announce hlink hcapable hbest
  · exact fun t port d s hlink hdue => completes_pdelayReq hlink hdue
  · intro t gm port s hslave hlink hstate hstepped
    obtain ⟨htb, hclk⟩ := takeSync_step (s := s.at t) (gm := gm) hstate hstepped
    obtain ⟨hkeep, -⟩ := eventStamp_keeps (s := s.at t)
    refine completes_sync hslave hlink fun u hu hc => ?_
    rw [hu, hc, htb, hclk, hkeep]
    exact ⟨hstate, rfl, rfl, rfl, (Int.sub_eq_add_neg ..).symm⟩
  · intro t gm port s hslave hlink hstate hstepped hoff
    refine completes_sync hslave hlink fun u hu hc => ?_
    rw [hu]
    exact takeSync_acquire (s := s.at t) hstate hstepped hoff
  · intro t gm port s hslave hlink hstate hoff
    refine completes_sync hslave hlink fun u hu hc => ?_
    rw [hu, hc]
    exact takeSync_slew (s := s.at t) hstate hoff
  · intro t s hstate hlate hlock hoff hlimit
    obtain ⟨h3, hat, hclk⟩ := enterHoldover_holds (s := s.at t) hstate hlock hoff hlimit
    refine .of_when rfl (Bool.and_eq_true_iff.2 ⟨beq_iff_eq.2 hstate, decide_eq_true (le_at_now hlate)⟩) ⟨h3, ?_⟩
    rw [hat, hclk]
  · exact fun t s hover => ⟨_, rfl, judgeHoldover_over hover⟩
  · exact fun t s hmode => completes_syncPpsEdge hmode
  · exact fun t a s hmode hedge hlate => completes_syncPpsTimeout hmode hedge hlate
  · intro t s hmode hgood hphase
    exact .of_when rfl (Bool.and_eq_true_iff.2 ⟨Bool.and_eq_true_iff.2 ⟨beq_iff_eq.2 hmode, hgood⟩, decide_eq_true hphase⟩)
      ⟨rfl, rfl⟩
  · exact fun t s hout hdue => .of_when rfl (Bool.and_eq_true_iff.2 ⟨hout, decide_eq_true (le_at_now hdue)⟩) rfl
  · exact fun t s hreleased => .of_when rfl hreleased (timeState_state (s := s.at t) 0)

end Sys2Proof.Machine

/-! Channel faults (R80, R81): what a fault leaves of its channel, of the cumulative count's validity and of the permits that its
head concerns. -/

namespace Sys2Proof.Machine

variable {s u : State} {c : Fin 16}

/-! ### The sections that a head concerns depend on the working configuration alone -/

theorem headConcerns_of_work (hwork : u.sdp.work = s.sdp.work) (h : Fin 8) (n : Nat) :
    u.headConcerns h n = s.headConcerns h n := by
  have hread : ({ u with sdp := { u.sdp with work := s.sdp.work } } : State).headConcerns h n = s.headConcerns h n := rfl
  rwa [← hwork] at hread

/-! ### What a fault does (R80, R81) -/

/-- R80: the fault that a channel takes. -/
def State.newFault (s : State) (prov : Nat) (back : Time) : ChanFault :=
  { at_ := s.clk.now, suspect := s.tbNow - back, prov := prov, seen := [prov] }

/-- R80: a channel that has faulted. -/
def Chan.faulted (ch : Chan) (now tbNow back : Time) (f : ChanFault) : Chan :=
  { ch.discardFrom (now - back) with
    phase := .faulted
    fault := some f
    faultCause := 0
    lastFault := tbNow
    suspectFrom := f.suspect
    cal := none
    calStage := 0
    recal := false
    excOn := true
    quietSince := if ch.monitorsIn then some now else none }

/-- R80, R81: a channel faults, up to what follows at its head. -/
def State.faultMarked (s : State) (c : Fin 16) (prov : Nat) (back : Time) (detect : Nat) : State :=
  let h := headOf c
  let s1 := (s.abortProof (chanX h)).abortProof (chanY h)
  let s2 := s1.onChan c fun ch => ch.faulted s.clk.now s.tbNow back (s.newFault prov back)
  let s3 := (s2.onNvChan c fun n => { n with faultCount := n.faultCount + 1 }).onStats c fun st =>
    { st with detectCause := detect, reRefd := false }
  [chanX h, chanY h].foldl (fun (s : State) c => s.onScan c fun k => { k with stop := k.stop || k.pause.isSome }) s3

/-- R81: what a fault of a channel does at its head. -/
def State.headFaulted (s : State) (h : Fin 8) (suspect : Time) : State :=
  (((((s.setCumValid h false).notify (.headFault h)).passageHeadFault h (some suspect)).dropForHead h).requalify).amonRefresh

theorem chanFault_of_none {prov detect : Nat} {back : Time} (h : s.fe.chans[c].fault = none) :
    s.chanFault c prov back detect = (s.faultMarked c prov back detect).headFaulted (headOf c) (s.tbNow - back) := by
  unfold State.chanFault
  rw [if_neg (by rw [h]; decide)]
  rfl

/-- R80: a fault that stands stays as it is. -/
theorem chanFault_of_some {prov detect : Nat} {back : Time} (h : s.fe.chans[c].fault.isSome = true) :
    s.chanFault c prov back detect = s := by
  unfold State.chanFault
  exact if_pos h

theorem faultMarked_chan (prov detect : Nat) (back : Time) : (s.faultMarked c prov back detect).fe.chans[c] =
    s.fe.chans[c].faulted s.clk.now s.tbNow back (s.newFault prov back) := by
  have hproof : ((s.abortProof (chanX (headOf c))).abortProof (chanY (headOf c))).fe.chans = s.fe.chans :=
    (State.abortProof_same (w := areaMask [.proofs, .pulses, .offered]) _ rfl (State.abortProof_same _ rfl .refl)).area .chans rfl
  rw [← hproof]
  exact updV_self ..

/-! ### What follows at the head -/

section
variable {h : Fin 8}

theorem setCumValid_false_cumValid (j : Fin 8) (hnone : s.keep.cumValid[h] = none) :
    (s.setCumValid j false).keep.cumValid[h] = none := by
  by_cases hj : h = j
  · exact hj ▸ updV_self ..
  · exact (updV_other _ _ hj).trans hnone

/-- R163: a void entry leaves no cumulative count valid that was not. -/
theorem voidEntry_cumValid (slot cause : Nat) (hnone : s.keep.cumValid[h] = none) :
    (s.voidEntry slot cause).keep.cumValid[h] = none := by
  have hcause (x : State) (j : Fin 8) (k : Nat) (hx : x.keep.cumValid[h] = none) : (x.causeAtHead j k).keep.cumValid[h] = none := by
    have hkeep := (State.causeAtHead_same (w := areaMask [.supervisors]) j k rfl (.refl (s := x))).area .cumValid rfl
    simp only [Area.same, Prod.mk.injEq] at hkeep
    rw [hkeep.1, hx]
  rw [State.voidEntry]
  split
  · next en _ =>
    rw [if_pos rfl]
    split
    · exact hnone
    · rw [State.voided, if_pos rfl]
      exact hcause _ _ _ (setCumValid_false_cumValid _ hnone)
  · exact hnone

theorem passageHeadFault_cumValid (j : Fin 8) (x : Option Time) (hnone : s.keep.cumValid[h] = none) :
    (s.passageHeadFault j x).keep.cumValid[h] = none := by
  unfold State.passageHeadFault
  extract_lets hit s1 s2
  exact List.foldlRecOn (motive := fun x : State => x.keep.cumValid[h] = none) _ _ hnone fun x hx p _ => voidEntry_cumValid _ _ hx

/-- R81: the permits that a head concerns fall. -/
theorem dropForHead_latch {n : Fin 4} (hn : s.headConcerns h n = true) : (s.dropForHead h).keep.permits[n].latch = false := by
  unfold State.dropForHead
  exact each_dropPermit_latch (.inl (List.mem_filter.2 ⟨List.mem_finRange n, hn⟩))

/-- R81: up to the permits, the fault of a head leaves its cumulative count not valid. -/
def State.headNoted (s : State) (h : Fin 8) (suspect : Time) : State :=
  ((s.setCumValid h false).notify (.headFault h)).passageHeadFault h (some suspect)

theorem headNoted_same (suspect : Time) :
    Same (areaMask [.nvHeads, .passages, .ledger, .supervisors, .cumValid, .offered]) s (s.headNoted h suspect) :=
  State.passageHeadFault_same _ _ rfl (State.notify_same _ rfl (State.setCumValid_same _ _ rfl .refl))

theorem headNoted_cumValid (suspect : Time) : (s.headNoted h suspect).keep.cumValid[h] = none := by
  refine passageHeadFault_cumValid _ _ ?_
  exact updV_self ..

/-- R81: and the drops follow. -/
theorem headFaulted_same (suspect : Time) :
    Same (areaMask [.permits, .drops, .offered, .amon]) (s.headNoted h suspect) (s.headFaulted h suspect) :=
  State.amonRefresh_same rfl (State.requalify_same rfl (State.dropForHead_same _ rfl .refl))

theorem headFaulted_effect (suspect : Time) :
    (s.headFaulted h suspect).fe.chans = s.fe.chans ∧ (s.headFaulted h suspect).keep.cumValid[h] = none ∧
      ∀ n : Fin 4, (s.headFaulted h suspect).headConcerns h n = true → (s.headFaulted h suspect).keep.permits[n].latch = false := by
  have hnoted := headNoted_same (s := s) (h := h) suspect
  have hdrops := headFaulted_same (s := s) (h := h) suspect
  have hcum := hdrops.area .cumValid rfl
  simp only [Area.same, Prod.mk.injEq] at hcum
  refine ⟨(hdrops.area .chans rfl).trans (hnoted.area .chans rfl), by rw [hcum.1, headNoted_cumValid], fun n hn => ?_⟩
  rw [headConcerns_of_work (hdrops.area .work rfl)] at hn
  exact low_of_keeps (State.amonRefresh_keeps (State.requalify_keeps (Keeps.refl _))) (dropForHead_latch hn)

end

/-- R80, R81: a channel without a fault takes one. -/
theorem chanFault_stands {prov detect : Nat} {back : Time} (h : s.fe.chans[c].fault = none) :
    (s.chanFault c prov back detect).faultStands c prov (s.tbNow - back) := by
  obtain ⟨hchans, hcum, hlow⟩ := headFaulted_effect (s := s.faultMarked c prov back detect) (h := headOf c) (s.tbNow - back)
  have hchan := faultMarked_chan (s := s) (c := c) prov detect back
  rw [chanFault_of_none h, State.faultStands, hchans, hchan]
  exact ⟨rfl, by simp [Chan.faulted, State.newFault], rfl, hcum, hlow⟩

/-- What leaves the channels, the validity of the cumulative counts, the permits and the working configuration leaves a fault. -/
theorem faultStands_of_same {w prov : Nat} {suspect : Time} (hsame : Same w s u) (hfault : s.faultStands c prov suspect)
    (hchans : w.testBit Area.chans.ctorIdx = false) (hcum : w.testBit Area.cumValid.ctorIdx = false)
    (hpermits : w.testBit Area.permits.ctorIdx = false) (hwork : w.testBit Area.work.ctorIdx = false) : u.faultStands c prov suspect := by
  have hc := hsame.area .cumValid hcum
  simp only [Area.same, Prod.mk.injEq] at hc
  have hch : u.fe.chans = s.fe.chans := hsame.area .chans hchans
  have hp : u.keep.permits = s.keep.permits := hsame.area .permits hpermits
  obtain ⟨hphase, hany, hcause, hnone, hlow⟩ := hfault
  rw [← hch] at hphase hany hcause
  refine ⟨hphase, hany, hcause, hc.1 ▸ hnone, fun n hn => ?_⟩
  rw [headConcerns_of_work (hsame.area .work hwork)] at hn
  rw [hp]
  exact hlow n hn

end Sys2Proof.Machine

/-! Proof tests (R145 to R149): when one is due, its start, its end and its overdue warning. -/

namespace Sys2Proof.Machine

/-- A property that one turn of a loop brings about, and that every turn keeps, holds after the loop. -/
theorem each_of_mem {α : Type} {I Q : State → Prop} {f : State → α → State} {l : List α} {i : α} {s : State}
    (hI : ∀ x j, I x → I (f x j)) (hself : ∀ x, I x → Q (f x i)) (hkeep : ∀ x j, I x → Q x → Q (f x j)) (hi : i ∈ l)
    (h : I s) : Q (State.each s l f) := by
  have hstays (l : List α) (x : State) (hx : I x) (hq : Q x) : Q (State.each x l f) := by
    induction l generalizing x with
    | nil => exact hq
    | cons j l ih => exact ih _ (hI x j hx) (hkeep x j hx hq)
  induction l generalizing s with
  | nil => cases hi
  | cons j l ih =>
    rcases List.mem_cons.1 hi with rfl | hl
    · exact hstays l _ (hI s i h) (hself s h)
    · exact ih hl (hI s j h)

/-! ### Warnings (R81) -/

theorem warnAt_warnPut_some (k : WarnKind) (t : Time) (l : List (WarnKind × Time)) : warnAt k (warnPut k (some t) l) = some t := by
  have hnone : (l.filter fun p => p.1 != k).find? (fun p => p.1 == k) = none := by
    simp
  simp only [warnAt, warnPut, List.find?_append, hnone]
  simp

section
variable {s u : State} {t : Time} {c : Fin 16}

theorem warnCond_warns (k : WarnKind) (on : Bool) : Same (areaMask [.warns]) s (s.warnCond c k on) :=
  State.warnCond_same _ _ _ rfl .refl

/-- R81: a warning is raised at this moment. -/
theorem warn_raised (k : WarnKind) : warnAt k (s.warn c k).fe.warns[c].raised = some s.clk.now := by
  have hself : (s.onWarn c fun w => { w with raised := warnPut k (some s.clk.now) w.raised }).fe.warns[c].raised =
      warnPut k (some s.clk.now) s.fe.warns[c].raised := (congrArg Warn.raised (updV_self ..)).trans rfl
  have hrec (x : State) (b : Bool) (code : BitVec 16) (src : BitVec 2) (p : List Byte) :
      (x.when b fun s => s.record code src p).fe.warns = x.fe.warns :=
    (State.when_same (w := areaMask [.offered]) .refl fun _ h => State.record_same _ _ _ _ rfl h).area .warns rfl
  rw [State.warn, hrec, hself, warnAt_warnPut_some]

theorem warnWhile_raised (k : WarnKind) : warnAt k (s.warnWhile c k true).fe.warns[c].raised = some s.clk.now := by
  rw [State.warnWhile, when_of rfl, warn_raised, show (s.warnCond c k true).clk = s.clk from (warnCond_warns k true).area .clk rfl]

/-! ### When a test is due (R146) -/

/-- R146: that a test falls due does not change when it comes. -/
theorem proofComes_onProof_due (d : Fin 16) (ahead : Time) :
    (s.onProof d fun p => { p with due := true }).proofComes c ahead = s.proofComes c ahead := by
  have hproof : ∃ b, (s.onProof d fun p => { p with due := true }).eng.proofs[c] = { s.eng.proofs[c] with due := b } := by
    by_cases hd : c = d
    · exact ⟨true, hd ▸ updV_self ..⟩
    · exact ⟨s.eng.proofs[c].due, updV_other _ _ hd⟩
  obtain ⟨b, hb⟩ := hproof
  rw [State.proofComes, State.proofDueAt, hb]
  rfl

theorem completes_proofTestDue (hphase : s.phase = .service) (hcomes : (s.at t).proofComes c 0 = true) :
    Completes (.proofTestDue t c) s fun u => u.eng.proofs[c].due = true := by
  refine .of_when rfl (Bool.and_eq_true_iff.2 ⟨beq_iff_eq.2 hphase, hcomes⟩) ?_
  rw [show ∀ f, (s.at t).eachFin 16 f = State.each (s.at t) (List.finRange 16) f from fun _ => rfl]
  refine each_of_mem (I := fun x => x.proofComes c 0 = true) (Q := fun u => u.eng.proofs[c].due = true) (i := c)
    (fun x d hx => ?_) (fun x hx => ?_) (fun x d hx hdue => ?_) (List.mem_finRange c) hcomes
  · exact when_of_imp (P := fun u => u.proofComes c 0 = true) (fun _ => (proofComes_onProof_due ..).trans hx) fun _ => hx
  · rw [if_pos rfl, when_of hx]
    exact congrArg Proof.due (updV_self ..)
  · refine when_of_imp (P := fun u => u.eng.proofs[c].due = true) (fun _ => ?_) fun _ => hdue
    by_cases hd : c = d
    · subst hd
      exact congrArg Proof.due (updV_self ..)
    · exact (congrArg Proof.due (updV_other _ _ hd)).trans hdue

/-! ### The start of a test (R146, R147) -/

theorem baseline_at : (s.at t).baseline c = s.baseline c := by
  unfold State.baseline State.tempFactor
  rw [at_nv_chans]
  rfl

theorem completes_proofTestStart (hmay : (s.at t).mayProve c = true) (hframe : (s.at t).clk.now = s.fe.frameAt) :
    Completes (.proofTestStart t c) s fun u =>
      u.eng.proofs[c].running = some u.clk.now ∧ u.eng.proofs[c].injAt = some u.clk.now ∧
      (u.eng.proofs[c].bL, u.eng.proofs[c].bH) = s.baseline c := by
  refine .of_when rfl (Bool.and_eq_true_iff.2 ⟨hmay, beq_iff_eq.2 hframe⟩) ?_
  have hproof (f : Proof → Proof) : ((s.at t).onProof c f).eng.proofs[c] = f s.eng.proofs[c] := updV_self ..
  unfold State.proofStarts
  rw [hproof, baseline_at]
  exact ⟨rfl, rfl, rfl⟩

/-! ### The end of a test (R149) -/

/-- R149: a test whose time has come is judged. -/
theorem completes_proofTestEnd {P : State → Prop} {b : Time} (hrun : s.eng.proofs[c].running = some b) (hfull : b + us 1024 ≤ t)
    (hdone : s.eng.proofs[c].endAt.isSome = true ∨ b + us 1100 ≤ t)
    (hP : P ((if s.eng.proofs[c].passed then (s.at t).proofPassed c else (s.at t).proofFailed c).warnCond c .proofOverdue false)) :
    Completes (.proofTestEnd t c) s P := by
  refine ⟨_, rfl, ?_⟩
  rw [show (s.at t).eng = s.eng from rfl, hrun]
  dsimp only
  rw [if_pos ⟨le_at_now hfull, hdone.imp id le_at_now⟩]
  exact hP

theorem warnCond_proof {k : WarnKind} {on : Bool} : (s.warnCond c k on).eng.proofs = s.eng.proofs ∧
    (s.warnCond c k on).clk = s.clk ∧ (s.warnCond c k on).nv.chans = s.nv.chans ∧ (s.warnCond c k on).sdp.work = s.sdp.work :=
  have h := warnCond_warns k on
  ⟨h.area .proofs rfl, h.area .clk rfl, h.area .nvChans rfl, h.area .work rfl⟩

/-- R146: after a pass the next test is due a ProofInterval later. -/
theorem proofDueAt_of_doneAt {d : Time} (hdone : u.eng.proofs[c].doneAt = some d) (hwork : u.sdp.work = s.sdp.work) :
    u.proofDueAt c = d + secs (s.proofInterval (headOf c)) := by
  rw [State.proofDueAt, hdone]
  dsimp only
  rw [State.proofInterval, State.cfg, hwork]
  rfl

theorem completes_proofTestEnd_passed {b : Time} (hrun : s.eng.proofs[c].running = some b) (hfull : b + us 1024 ≤ t)
    (hdone : s.eng.proofs[c].endAt.isSome = true ∨ b + us 1100 ≤ t) (hpass : s.eng.proofs[c].passed = true) :
    Completes (.proofTestEnd t c) s fun u =>
      u.eng.proofs[c].running = none ∧ u.eng.proofs[c].due = false ∧ u.eng.proofs[c].result = 1 ∧
      u.eng.proofs[c].doneAt = some u.clk.now ∧ u.proofDueAt c = u.clk.now + secs (s.proofInterval (headOf c)) ∧
      u.nv.chans[c].proofCount = s.nv.chans[c].proofCount + 1 := by
  refine completes_proofTestEnd hrun hfull hdone ?_
  rw [if_pos hpass]
  obtain ⟨hproofs, hclk, hchans, hwork⟩ := warnCond_proof (s := (s.at t).proofPassed c) (c := c) (k := .proofOverdue) (on := false)
  have hproof : ((s.at t).proofPassed c).eng.proofs[c] = { s.eng.proofs[c] with
      running := none, due := false, doneAt := some (s.at t).clk.now, failed := false, result := 1
      lastTime := (s.at t).tbNow } := updV_self ..
  have hd := proofDueAt_of_doneAt (s := s) (c := c) (u := ((s.at t).proofPassed c).warnCond c .proofOverdue false)
    (d := (s.at t).clk.now) (by rw [hproofs, hproof]) hwork
  rw [hd, hproofs, hproof, hchans, hclk]
  refine ⟨rfl, rfl, rfl, rfl, rfl, ?_⟩
  refine (congrArg NvChan.proofCount (updV_self ..)).trans ?_
  rw [at_nv_chans]

/-- R149: what a failure leaves, up to the fault that a second one in a row brings. -/
def State.proofMissed (s : State) (c : Fin 16) : State :=
  ((s.onProof c fun p =>
    { p with
      running := none
      due := false
      failed := true
      result := 3
      lastTime := s.tbNow
      notBefore := s.clk.now + secs 1
      doneAt := none
      dueAt := s.clk.now + secs 1 }).record codeProofFailed 0 [BitVec.ofNat 8 c.val]).pulse 31

theorem proofFailed_eq : s.proofFailed c = (s.proofMissed c).when s.eng.proofs[c].failed fun s => s.chanFault c 9 0 1 := rfl

theorem completes_proofTestEnd_failed {b : Time} (hrun : s.eng.proofs[c].running = some b) (hfull : b + us 1024 ≤ t)
    (hdone : s.eng.proofs[c].endAt.isSome = true ∨ b + us 1100 ≤ t) (hpass : s.eng.proofs[c].passed = false)
    (hfirst : s.eng.proofs[c].failed = false) :
    Completes (.proofTestEnd t c) s fun u =>
      u.eng.proofs[c].running = none ∧ u.eng.proofs[c].failed = true ∧
      u.eng.proofs[c].result = 3 ∧ u.eng.proofs[c].notBefore = u.clk.now + secs 1 := by
  refine completes_proofTestEnd hrun hfull hdone ?_
  rw [if_neg (Bool.eq_false_iff.1 hpass), proofFailed_eq, when_of_not (show (s.at t).eng.proofs[c].failed = false from hfirst)]
  obtain ⟨hproofs, hclk, -, -⟩ := warnCond_proof (s := (s.at t).proofMissed c) (c := c) (k := .proofOverdue) (on := false)
  have hproof : ((s.at t).proofMissed c).eng.proofs[c] = { s.eng.proofs[c] with
      running := none, due := false, failed := true, result := 3, lastTime := (s.at t).tbNow
      notBefore := (s.at t).clk.now + secs 1, doneAt := none, dueAt := (s.at t).clk.now + secs 1 } := updV_self ..
  rw [hproofs, hproof, hclk]
  exact ⟨rfl, rfl, rfl, rfl⟩

theorem completes_proofTestEnd_second {b : Time} (hrun : s.eng.proofs[c].running = some b) (hfull : b + us 1024 ≤ t)
    (hdone : s.eng.proofs[c].endAt.isSome = true ∨ b + us 1100 ≤ t) (hpass : s.eng.proofs[c].passed = false)
    (hsecond : s.eng.proofs[c].failed = true) (hfault : s.fe.chans[c].fault = none) :
    Completes (.proofTestEnd t c) s fun u => u.faultStands c 9 (s.at t).tbNow := by
  refine completes_proofTestEnd hrun hfull hdone ?_
  rw [if_neg (Bool.eq_false_iff.1 hpass), proofFailed_eq, when_of (show (s.at t).eng.proofs[c].failed = true from hsecond)]
  have hstands : (((s.at t).proofMissed c).chanFault c 9 0 1).faultStands c 9 (((s.at t).proofMissed c).tbNow - 0) :=
    chanFault_stands hfault
  exact faultStands_of_same (warnCond_warns ..) hstands rfl rfl rfl rfl

end

/-- Settles O37: each command of a proof test is gated by its times, and a second failure in a row faults the channel. -/
theorem proofTestsRunTheirCourse : Obligations.ProofTestsRunTheirCourse := by
  unfold Obligations.ProofTestsRunTheirCourse
  refine ⟨fun t c s => completes_proofTestDue, fun t c s => completes_proofTestStart,
    fun t b c s => completes_proofTestEnd_passed, fun t b c s => completes_proofTestEnd_failed,
    fun t b c s => completes_proofTestEnd_second, ?_, ?_⟩
  · intro t c s hfailed hrun hbefore
    refine .of_when rfl ?_ (congrArg Proof.due (updV_self ..))
    rw [show (s.at t).eng = s.eng from rfl, hfailed, hrun, decide_eq_true (le_at_now hbefore), Bool.and_true]
    rfl
  · intro t c s hphase hdue hrun hlate
    refine .of_when rfl ?_ ?_
    · exact Bool.and_eq_true_iff.2 ⟨Bool.and_eq_true_iff.2 ⟨Bool.and_eq_true_iff.2 ⟨beq_iff_eq.2 hphase, hdue⟩,
        Option.isNone_iff_eq_none.2 hrun⟩, decide_eq_true (le_at_now hlate)⟩
    · rw [warnWhile_raised]
      exact congrArg (fun c : Clock => some c.now) (State.warnWhile_same (w := areaMask [.warns, .offered]) c _ true rfl .refl |>.area .clk rfl).symm

end Sys2Proof.Machine

/-! Checkpoints and the Tumbler (R165, R187, R245, R246), and the age of a kinematic block (R287). -/

namespace Sys2Proof.Machine

section
variable {s u : State} {t : Time}

/-! ### The end of a checkpoint write (R246) -/

/-- R246: what follows the end of a checkpoint write leaves the slots. -/
theorem completes_checkpointDone {P : State → Prop} {k : Checkpoint} {ok : Bool} (hbusy : s.keep.ckBusy = some k)
    (hP : ∀ u : State, Area.ckpts.same ((s.at t).ckptDone ok) u → P u) : Completes (.checkpointDone t ok) s P :=
  .of_when rfl (Option.isSome_iff_exists.2 ⟨k, hbusy⟩) (hP _
    ((State.checkpointDue_same (w := areaMask [.ledger, .ckptRun, .pulses]) rfl (State.attestEntries_same rfl .refl)).area
      .ckpts rfl))

/-- R246: no checkpoint is being written. -/
def State.ckptFree (s : State) : State := { s with keep := { s.keep with ckBusy := none } }

theorem ckptDone_of_busy {k : Checkpoint} {ok : Bool} (hbusy : s.keep.ckBusy = some k) (hslots : s.ckptSlots ≠ 0) :
    s.ckptDone ok = if ok then (s.ckptFree.storeCkpt k).markCkpt k
      else (s.ckptFree.storeCkpt { k with good := false, counted := true }).ckptFailed := by
  rw [State.ckptDone, hbusy]
  exact if_neg hslots

theorem ckptSlots_at : (s.at t).ckptSlots = s.ckptSlots := by
  rw [State.ckptSlots, at_nv_repair]
  rfl

/-- R246: the slot that is written is the newest. -/
theorem storeCkpt_getLast? (k : Checkpoint) (hslots : s.ckptSlots ≠ 0) : (s.storeCkpt k).nv.ckpts.getLast? = some k := by
  unfold State.storeCkpt
  dsimp only
  split
  · next h =>
    rw [List.getLast?_drop, if_neg, List.getLast?_concat]
    rw [List.length_append, List.length_singleton] at h ⊢
    omega
  · exact List.getLast?_concat

theorem ckptFailed_ckpts : s.ckptFailed.nv.ckpts = s.nv.ckpts ∧ s.ckptFailed.nv.ckErrors = s.nv.ckErrors + 1 := by
  unfold State.ckptFailed
  dsimp only
  split_ifs <;> exact ⟨rfl, rfl⟩

/-! ### The Tumbler (R187) -/

/-- R187: since when a difference has been seen. -/
theorem tumblerSeen_at (n : Fin 4) (h : Fin 8) :
    s.tumblerSeen.secAt[n] = (if s.secDiffers n then some (s.keep.tumbler.secAt[n].getD s.clk.now) else none) ∧
    s.tumblerSeen.propAt[n] = (if s.propDiffers n then some (s.keep.tumbler.propAt[n].getD s.clk.now) else none) ∧
    s.tumblerSeen.headAt[h] = if s.headDiffers h then some (s.keep.tumbler.headAt[h].getD s.clk.now) else none :=
  ⟨Vector.getElem_ofFn .., Vector.getElem_ofFn .., Vector.getElem_ofFn ..⟩

theorem overdue_iff {o : Option Time} {d : Time} : s.overdue o d = true ↔ ∃ a, o = some a ∧ a + d < s.clk.now := by
  cases o <;> simp [State.overdue]

/-! ### The age of a kinematic block (R287) -/

theorem kinWrite_self (n : Fin 4) (f : Kin → Kin) : (s.kinWrite n f).kin[n] =
    if f s.kin[n] = s.kin[n] then s.kin[n] else { f s.kin[n] with seq := s.kin[n].seq + 1 } := by
  unfold State.kinWrite
  dsimp only
  split
  · rfl
  · exact updV_self ..

/-- R289: a block that is valid no longer is written anew; one that was not valid stays. -/
theorem kinWrite_invalid (n : Fin 4) : (s.kinWrite n fun k => { k with valid := false }).kin[n].valid = false ∧
    (s.kinWrite n fun k => { k with valid := false }).kin[n].seq =
      (if s.kin[n].valid then s.kin[n].seq + 1 else s.kin[n].seq) := by
  rw [kinWrite_self]
  split
  · next hsame =>
    have hvalid : s.kin[n].valid = false := (congrArg Kin.valid hsame).symm
    rw [hvalid]
    exact ⟨rfl, rfl⟩
  · next hchanged =>
    have hvalid : s.kin[n].valid = true := by
      refine Bool.not_eq_false _ ▸ fun hvalid => hchanged ?_
      rw [← hvalid]
    rw [hvalid]
    exact ⟨rfl, rfl⟩

/-! ### Differences that are no longer tolerated (R187) -/

/-- R187: the sections whose proposals have differed for too long. -/
def State.lateProps (s : State) : List (Fin 4) := sections.filter fun (n : Fin 4) => s.overdue s.tumblerSeen.propAt[n] (us 100)

/-- R187: a counter has differed for too long. -/
def State.countersLate (s : State) : Bool := (sections.any fun (n : Fin 4) => s.overdue s.tumblerSeen.secAt[n] (us 24)) ||
  heads.any fun (h : Fin 8) => s.overdue s.tumblerSeen.headAt[h] (us 24)

/-- R187: the Tumbler once the differences have been judged. -/
def State.toleranceOver (s : State) : State :=
  { s with keep := { s.keep with tumbler := { s.tumblerSeen with
      propAt := Vector.ofFn fun n => if s.lateProps.contains n then none else s.tumblerSeen.propAt[n]
      rederiving := s.tumblerSeen.rederiving || s.countersLate
      rederiveAt := if s.countersLate && !s.tumblerSeen.rederiving then s.clk.now else s.tumblerSeen.rederiveAt } } }

theorem completes_tumblerToleranceExpiry {P : State → Prop} (htumbling : s.tumbling = true)
    (hP : P (State.each (s.at t).toleranceOver (s.at t).lateProps fun s n => s.mismatch n)) :
    Completes (.tumblerToleranceExpiry t) s P := .of_when rfl htumbling hP

theorem mismatches_tumbler (l : List (Fin 4)) :
    (State.each s l fun s n => s.mismatch n).keep.tumbler = s.keep.tumbler :=
  (State.each_same (w := areaMask [.nvSecs, .supervisors, .offered]) .refl fun _ n h => State.mismatch_same n rfl h).area .tumbler rfl

theorem mem_lateProps {n : Fin 4} {a : Time} (hdiff : s.propDiffers n = true) (hat : s.keep.tumbler.propAt[n] = some a)
    (hlate : a + us 100 < s.clk.now) : n ∈ s.lateProps := by
  obtain ⟨-, hseen, -⟩ := tumblerSeen_at (s := s) n 0
  rw [if_pos hdiff, hat] at hseen
  exact List.mem_filter.2 ⟨List.mem_finRange n, overdue_iff.2 ⟨a, hseen, hlate⟩⟩

theorem countersLate_of_secAt {n : Fin 4} {a : Time} (hdiff : s.secDiffers n = true) (hat : s.keep.tumbler.secAt[n] = some a)
    (hlate : a + us 24 < s.clk.now) : s.countersLate = true := by
  obtain ⟨hseen, -, -⟩ := tumblerSeen_at (s := s) n 0
  rw [if_pos hdiff, hat] at hseen
  exact Bool.or_eq_true_iff.2 (.inl (List.any_eq_true.2 ⟨n, List.mem_finRange n, overdue_iff.2 ⟨a, hseen, hlate⟩⟩))

/-- R187, R198: each mismatch counts once. -/
theorem mismatches_count {n : Fin 4} {l : List (Fin 4)} (hn : n ∈ l) (hl : l.Nodup) :
    (State.each s l fun s n => s.mismatch n).nv.secs[n].mismatch = s.nv.secs[n].mismatch + 1 :=
  foldl_of_mem (g := fun s : State => s.nv.secs[n].mismatch) (step := fun s n => s.mismatch n) (f := (· + 1))
    (fun _ => congrArg NvSec.mismatch (updV_self ..)) (fun _ _ hj => congrArg NvSec.mismatch (updV_other _ _ hj.symm)) hl hn s

/-- R187, R198: a mismatch is noticed by every serving supervisor. -/
theorem mismatches_noticed {n : Fin 4} {l : List (Fin 4)} {v : Fin 2} (hn : n ∈ l) (hv : s.sv[v].serves = true) :
    Notice.cause n 8 none ∈ (State.each s l fun s n => s.mismatch n).sv[v].inbox := by
  have hnotify (x : State) (j : Fin 4) (hx : x.sv[v].serves = true) :
      (x.mismatch j).sv[v] = { x.sv[v] with inbox := x.sv[v].inbox ++ [Notice.cause j 8 none] } :=
    (Vector.getElem_ofFn ..).trans (if_pos hx)
  refine each_of_mem (I := fun x => x.sv[v].serves = true) (Q := fun x => Notice.cause n 8 none ∈ x.sv[v].inbox) (i := n)
    (fun x j hx => ?_) (fun x hx => ?_) (fun x j hx hq => ?_) hn hv
  · rw [hnotify x j hx]
    exact hx
  · rw [hnotify x n hx]
    exact List.mem_append_right _ (List.mem_singleton_self _)
  · rw [hnotify x j hx]
    exact List.mem_append_left _ hq

theorem serves_of_tumbling (h : s.tumbling = true) (v : Fin 2) : s.sv[v].serves = true := by
  obtain ⟨h0, h1⟩ := Bool.and_eq_true_iff.1 h
  have hst : s.sv[v].st = .inService := by
    match v with
    | 0 => exact beq_iff_eq.1 h0
    | 1 => exact beq_iff_eq.1 h1
  rw [Sv.serves, hst]
  rfl

/-- R187: the re-derivation ends, and with it every tolerance. -/
theorem completes_tumblerRederiveDone (htumbling : s.tumbling = true) (hrederiving : s.keep.tumbler.rederiving = true) :
    Completes (.tumblerRederiveDone t) s fun u =>
      u.keep.tumbler.rederiving = false ∧ u.keep.tumbler.secAt = Vector.replicate 4 none ∧
      u.keep.tumbler.headAt = Vector.replicate 8 none := by
  refine .of_when rfl (Bool.and_eq_true_iff.2 ⟨htumbling, hrederiving⟩) ?_
  extract_lets hit s1 _ _ s2
  have hafter (u : State) (h : u.keep.tumbler = s2.keep.tumbler) : u.keep.tumbler.rederiving = false ∧
      u.keep.tumbler.secAt = Vector.replicate 4 none ∧ u.keep.tumbler.headAt = Vector.replicate 8 none := by
    rw [h]
    exact ⟨rfl, rfl, rfl⟩
  refine hafter _ (Same.area (w := areaMask [.nvSecs, .supervisors, .ckptRun, .pulses, .offered]) ?_ .tumbler rfl)
  refine State.checkpointDue_same rfl (State.each_same .refl fun x n h => ?_)
  exact Same.ite (State.mismatch_same n rfl h) (State.record_same _ _ _ _ rfl (State.onNvSec_same n _ rfl h))

end

/-- Settles O39: a checkpoint write ends in its slot, and the Tumbler keeps and ends its tolerances. -/
theorem checkpointsAndTumblerAct : Obligations.CheckpointsAndTumblerAct := by
  unfold Obligations.CheckpointsAndTumblerAct
  refine ⟨?_, ?_, ?_, ?_, ?_, fun t s => completes_tumblerRederiveDone, fun t n s hold => .of_when rfl (decide_eq_true hold) (kinWrite_invalid (s := s.at t) n)⟩
  · intro t k s hbusy hslots
    refine completes_checkpointDone hbusy fun u hu => ?_
    rw [← ckptSlots_at (t := t)] at hslots
    rw [ckptDone_of_busy (s := s.at t) hbusy hslots, if_pos rfl] at hu
    simp only [Area.same, Prod.mk.injEq] at hu
    obtain ⟨hck, hseq, htime, hwrites, herrors⟩ := hu
    rw [hck, hseq, htime, hwrites, herrors]
    exact ⟨storeCkpt_getLast? (s := (s.at t).ckptFree) k hslots, rfl, rfl, congrArg (· + 1) (at_nv_ckWrites s t),
      at_nv_ckErrors s t⟩
  · intro t k s hbusy hslots
    refine completes_checkpointDone hbusy fun u hu => ?_
    rw [← ckptSlots_at (t := t)] at hslots
    rw [ckptDone_of_busy (s := s.at t) hbusy hslots, if_neg Bool.false_ne_true] at hu
    simp only [Area.same, Prod.mk.injEq] at hu
    obtain ⟨hck, -, -, -, herrors⟩ := hu
    obtain ⟨hc, he⟩ := ckptFailed_ckpts (s := (s.at t).ckptFree.storeCkpt { k with good := false, counted := true })
    rw [hck, herrors, hc, he]
    exact ⟨storeCkpt_getLast? (s := (s.at t).ckptFree) _ hslots, congrArg (· + 1) (at_nv_ckErrors s t)⟩
  · exact fun t s htumbling => .of_when rfl htumbling ⟨fun n => ⟨(tumblerSeen_at (s := s.at t) n 0).1, (tumblerSeen_at (s := s.at t) n 0).2.1⟩, fun h => (tumblerSeen_at (s := s.at t) 0 h).2.2⟩
  · intro t a n s htumbling hdiff hat hlate
    refine completes_tumblerToleranceExpiry htumbling ?_
    rw [mismatches_tumbler]
    refine (congrArg (_ || ·) (countersLate_of_secAt (s := s.at t) hdiff hat ?_)).trans (Bool.or_true _)
    exact lt_of_lt_of_le hlate (le_max_right _ _)
  · intro t a n s htumbling hdiff hat hlate
    have hmem : n ∈ (s.at t).lateProps := mem_lateProps (s := s.at t) hdiff hat (lt_of_lt_of_le hlate (le_max_right _ _))
    refine completes_tumblerToleranceExpiry htumbling ⟨?_, ?_, fun v => ?_⟩
    · refine (mismatches_count hmem ((List.nodup_finRange 4).filter _)).trans (congrArg (· + 1) ?_)
      exact congrArg (fun x => x[n].mismatch) (at_nv_secs s t)
    · rw [mismatches_tumbler]
      exact (Vector.getElem_ofFn ..).trans (if_pos (List.contains_iff_mem.2 hmem))
    · exact mismatches_noticed hmem (serves_of_tumbling (s := s) htumbling v)

end Sys2Proof.Machine

/-! The supervision limits of a Hasp connection, of its lanes and of its mirror (R220, R224, R238). -/

namespace Sys2Proof.Machine

/-- A property that the one turn of i brings about in a loop, and that the other turns keep, holds after the loop. -/
theorem each_of_mem_nodup {α : Type} {I Q : State → Prop} {f : State → α → State} {l : List α} {i : α} {s : State}
    (hI : ∀ x j, j ≠ i → I x → I (f x j)) (hself : ∀ x, I x → Q (f x i)) (hkeep : ∀ x j, j ≠ i → Q x → Q (f x j))
    (hl : l.Nodup) (hi : i ∈ l) (h : I s) : Q (State.each s l f) := by
  have hstays (l : List α) (hil : i ∉ l) (x : State) (hq : Q x) : Q (State.each x l f) := by
    induction l generalizing x with
    | nil => exact hq
    | cons j l ih =>
      obtain ⟨hij, hil⟩ := not_or.1 (List.mem_cons.not.1 hil)
      exact ih hil _ (hkeep x j (Ne.symm hij) hq)
  induction l generalizing s with
  | nil => cases hi
  | cons j l ih =>
    obtain ⟨hj, hl⟩ := List.nodup_cons.1 hl
    rcases eq_or_ne j i with rfl | hne
    · exact hstays l hj _ (hself s h)
    · exact ih hl ((List.mem_cons.1 hi).resolve_left hne.symm) (hI s j hne h)

section
variable {s u : State} {t : Time} {k : Fin 8} {v w : Fin 2}

theorem nodup_serving : s.serving.Nodup := (List.nodup_finRange 2).filter _

theorem serves_of_mem_serving (h : v ∈ s.serving) : s.sv[v].serves = true := (List.mem_filter.1 h).2

/-- R220: the limit depends on the working configuration. -/
theorem superLimit_of_work (h : u.sdp.work = s.sdp.work) : u.superLimit = s.superLimit := by
  rw [State.superLimit, State.haspPeriod, State.cfg, h]
  rfl

/-! ### What a cause leaves of the connections (R198, R236) -/

theorem onSv_sv_other (hvw : w ≠ v) (f : Sv → Sv) : (s.onSv v f).sv[w] = s.sv[w] := updV_other _ _ hvw

theorem onSv_sv_self (f : Sv → Sv) : (s.onSv v f).sv[v] = f s.sv[v] := updV_self ..

theorem raise_conns (sec : Fin 4) (code : Nat) (leg : Option (Fin 4)) :
    (s.raise v sec code leg).sv[w].conns = s.sv[w].conns := by
  rw [State.raise]
  split_ifs
  · rfl
  · rfl
  · by_cases hvw : w = v
    · subst hvw
      exact (congrArg Sv.conns (updV_self ..)).trans rfl
    · exact congrArg Sv.conns (updV_other _ _ hvw)

theorem raises_conns (l : List (Fin 4)) (code : Nat) (leg : State → Fin 4 → Option (Fin 4)) :
    (State.each s l fun s n => s.raise v n code (leg s n)).sv[w].conns = s.sv[w].conns :=
  each_view (fun s : State => s.sv[w].conns) fun _ _ => raise_conns ..

theorem crossCheck_conns (detail : Nat) : (s.crossCheck v k detail).sv[w].conns =
    (s.onSv v fun x => x.onConn k fun c => { c with detail := detail }).sv[w].conns := by
  unfold State.crossCheck
  extract_lets sec n s1
  have h1 : s1.sv[w].conns = (s.onSv v fun x => x.onConn k fun c => { c with detail := detail }).sv[w].conns := raise_conns ..
  split
  · exact (raises_conns _ 13 fun s t => s.innerLegOf t _).trans h1
  · exact h1

/-! ### A connection leaves service (R220) -/

/-- R220: a connection out of service, to be initialised afresh. -/
theorem connOut_effect {farewell : Bool} (hin : s.sv[v].conns[k].inService = true) :
    (∀ w : Fin 2, (s.connOut k farewell).sv[w].conns[k] =
      { s.sv[w].conns[k] with inService := false, farewell := farewell, reinit := true, gapSince := none }) ∧
    (s.connOut k farewell).keep.breaks[k] = s.keep.breaks[k] + 1 ∧
    (s.connOut k farewell).nv.conns[k].loss = s.nv.conns[k].loss + 1 := by
  unfold State.connOut
  extract_lets was s1 k2 s2 s3
  have hwas : was = true := List.any_eq_true.2 ⟨v, List.mem_finRange v, hin⟩
  rw [if_neg (by rw [hwas]; decide)]
  have hsame : Same (areaMask [.pulses, .hasp, .power, .offered]) s3 ((s3.neighbourNoEntry k).wakeEvent 3) :=
    State.wakeEvent_same 3 rfl (State.neighbourNoEntry_same k rfl .refl)
  have hkeeper := hsame.area .keeperRest rfl
  simp only [Area.same, Prod.mk.injEq] at hkeeper
  obtain ⟨-, -, -, -, hbreaks, -⟩ := hkeeper
  rw [show ((s3.neighbourNoEntry k).wakeEvent 3).sv = s3.sv from hsame.area .supervisors rfl, hbreaks,
    show ((s3.neighbourNoEntry k).wakeEvent 3).nv.conns = s3.nv.conns from hsame.area .nvConns rfl]
  refine ⟨fun w => ?_, updV_self .., congrArg NvConn.loss (updV_self ..)⟩
  have hw : s1.sv[w] = s.sv[w].onConn k fun c =>
      { c with inService := false, farewell := farewell, reinit := true, gapSince := none } := Vector.getElem_map ..
  show s1.sv[w].conns[k] = _
  rw [hw]
  exact updV_self ..

/-- R220, R238: a lane leaves service. -/
theorem laneLost_effect (lane : Fin 2) : (s.laneLost k lane).hasp.conns[k].laneOut[lane] = true ∧
    (s.laneLost k lane).nv.conns[k].laneLoss[lane] = s.nv.conns[k].laneLoss[lane] + 1 := by
  have hconn : (s.laneLost k lane).hasp.conns[k] = { s.hasp.conns[k] with
      laneOut := updV s.hasp.conns[k].laneOut lane fun _ => true } := updV_self ..
  have hnv : (s.laneLost k lane).nv.conns[k] = { s.nv.conns[k] with
      laneLoss := updV s.nv.conns[k].laneLoss lane (· + 1) } := updV_self ..
  rw [hconn, hnv]
  exact ⟨updV_self .., updV_self ..⟩

/-! ### A mirror stays short (R224) -/

/-- R224: what the supervision limit makes of a mirror that one supervisor has. -/
def State.mirrorLate (s : State) (k : Fin 8) (v : Fin 2) : State :=
  match s.sv[v].conns[k].gapSince with
  | some g => s.when (decide (g + s.superLimit ≤ s.clk.now)) fun s =>
      (s.crossCheck v k 2).onSv v fun y => y.onConn k fun c => { c with reinit := true, gapSince := none }
  | none => s

theorem mirrorLate_self {g : Time} (hgap : s.sv[v].conns[k].gapSince = some g) (hlate : g + s.superLimit ≤ s.clk.now) :
    (s.mirrorLate k v).sv[v].conns[k] = { s.sv[v].conns[k] with detail := 2, reinit := true, gapSince := none } := by
  rw [State.mirrorLate, hgap]
  dsimp only
  rw [when_of (decide_eq_true hlate)]
  have hcross : (s.crossCheck v k 2).sv[v].conns[k] = { s.sv[v].conns[k] with detail := 2 } := by
    rw [crossCheck_conns, onSv_sv_self]
    exact updV_self ..
  rw [onSv_sv_self]
  exact (updV_self ..).trans (by rw [hcross])

theorem mirrorLate_other (hvw : w ≠ v) : (s.mirrorLate k v).sv[w].conns = s.sv[w].conns := by
  rw [State.mirrorLate]
  split
  · refine when_view (g := fun s : State => s.sv[w].conns) ?_
    rw [onSv_sv_other hvw, crossCheck_conns, onSv_sv_other hvw]
  · rfl

theorem mirrorLate_same : Same (areaMask [.supervisors, .offered]) s (s.mirrorLate k v) := by
  rw [State.mirrorLate]
  split
  · exact State.when_same .refl fun _ h => State.onSv_same _ _ rfl (State.crossCheck_same _ _ _ rfl h)
  · exact .refl

end

/-- Settles O51: a limit that has run out ends the service of what it supervises. -/
theorem connectionsLeaveService : Obligations.ConnectionsLeaveService := by
  unfold Obligations.ConnectionsLeaveService
  refine ⟨?_, ?_, ?_⟩
  · intro t k v s hv hin hlate
    refine .of_when rfl (List.any_eq_true.2 ⟨v, hv, Bool.and_eq_true_iff.2 ⟨hin, decide_eq_true (le_at_now hlate)⟩⟩) ?_
    obtain ⟨hconn, hbreaks, hloss⟩ := connOut_effect (s := s.at t) (k := k) (farewell := false) (v := v) hin
    refine ⟨fun w => ?_, hbreaks, hloss.trans ?_⟩
    · rw [hconn w]
      exact ⟨rfl, rfl, rfl⟩
    · rw [at_nv_conns]
  · intro t g k lane s hout hgood hlate
    refine ⟨_, rfl, ?_⟩
    rw [show (s.at t).hasp = s.hasp from rfl, hgood]
    dsimp only
    have hlate' : g + (s.at t).superLimit ≤ (s.at t).clk.now := le_at_now hlate
    rw [when_of (by rw [hout, decide_eq_true hlate']; rfl)]
    obtain ⟨hlane, hloss⟩ := laneLost_effect (s := s.at t) (k := k) lane
    exact ⟨hlane, hloss.trans (by rw [at_nv_conns])⟩
  · intro t g k v s hv hgap hlate
    refine ⟨_, rfl, ?_⟩
    have hlate' : g + (s.at t).superLimit ≤ (s.at t).clk.now := le_at_now hlate
    refine each_of_mem_nodup (f := fun s v => s.mirrorLate k v)
      (I := fun x => x.sv[v].conns[k].gapSince = some g ∧ g + x.superLimit ≤ x.clk.now)
      (Q := fun u => u.sv[v].conns[k].reinit = true ∧ u.sv[v].conns[k].gapSince = none ∧ u.sv[v].conns[k].detail = 2) (i := v)
      (fun x w hw hx => ?_) (fun x hx => ?_) (fun x w hw hq => ?_) nodup_serving hv ⟨hgap, hlate'⟩
    · obtain ⟨hxgap, hxlate⟩ := hx
      rw [mirrorLate_other hw.symm, superLimit_of_work (mirrorLate_same.area .work rfl),
        show (x.mirrorLate k w).clk = x.clk from mirrorLate_same.area .clk rfl]
      exact ⟨hxgap, hxlate⟩
    · obtain ⟨hxgap, hxlate⟩ := hx
      rw [mirrorLate_self hxgap hxlate]
      exact ⟨rfl, rfl, rfl⟩
    · rw [mirrorLate_other hw.symm]
      exact hq

end Sys2Proof.Machine

/-! The sending of telegrams (R214): a telegram is assembled as of its snapshot time, with the settings of that time, and one that
is to be authenticated without a key does not leave, whatever AuthMode is at its SEND_TIME. -/

namespace Sys2Proof.Machine

open Slice0 in
/-- In service with supervisor 0 alone at a SEND_TIME of connection 0: at the snapshot its AuthMode was 1, now it is 0, and no key
is held. -/
def authModeChanged : State :=
  let s := survivorOnly (connected inService)
  { s with
    clk := { now := ms 4 }
    nv := { s.nv with keys := [] }
    past := Vector.replicate 8 (some { s.snapshot (ms 4) with work := s.sdp.work ++ [(dkey 0x1410 8, [1])] }) }

/-- Whether connection 0 has sent a telegram after a command. -/
def sentAfter (c : Instr) (s : State) : Bool :=
  match exec c s with
  | .next u => u.hasp.conns[(0 : Fin 8)].sent
  | _ => true

theorem sentAfter_of_exec {c : Instr} {s u : State} (h : exec c s = .next u) : sentAfter c s = u.hasp.conns[(0 : Fin 8)].sent := by
  rw [sentAfter, h]

theorem authModeChanged_not_sent : sentAfter (.haspSend (ms 4) 0) authModeChanged = false := by decide +kernel

/-- Refutes O49: the statement asks AuthMode at the SEND_TIME alone, and the telegram takes it from the snapshot, 50 µs before:
where it was 1 then and no key is held, no telegram leaves. -/
theorem not_telegramsAreSentAtTheirTimes : ¬ Obligations.TelegramsAreSentAtTheirTimes := by
  unfold Obligations.TelegramsAreSentAtTheirTimes
  rintro ⟨-, -, halone, -⟩
  obtain ⟨u, hexec, -, -, hsent⟩ := halone (ms 4) (ms 4) 0 0 authModeChanged (by decide +kernel) (by decide +kernel)
    (by decide +kernel) (by decide +kernel) (by decide +kernel)
  rw [← sentAfter_of_exec hexec, authModeChanged_not_sent] at hsent
  exact Bool.false_ne_true hsent

end Sys2Proof.Machine

/-! What the Hasp layer makes of a received frame (R217, R218, R220): its rejections, and the acceptance of a telegram. -/

namespace Sys2Proof.Machine

section
variable {s u : State} {t : Time} {k j : Fin 8} {v w : Fin 2} {x : Tele}

/-! ### What acceptance sets of a connection, and nothing else does -/

/-- R220: whether a connection is in service, its latest telegram and when it was accepted. -/
def SvConn.link (c : SvConn) : Bool × Option Tele × Time := (c.inService, c.last, c.lastAt)

/-- R220: the same of supervisor w's connection k. -/
def State.link (w : Fin 2) (k : Fin 8) (s : State) : Bool × Option Tele × Time := s.sv[w].conns[k].link

theorem link_eq_iff {a : Bool} {b : Option Tele} {d : Time} : s.link w k = (a, b, d) ↔
    s.sv[w].conns[k].inService = a ∧ s.sv[w].conns[k].last = b ∧ s.sv[w].conns[k].lastAt = d := by
  rw [State.link, SvConn.link, Prod.mk.injEq, Prod.mk.injEq]

theorem link_of_conns (h : u.sv[w].conns = s.sv[w].conns) : u.link w k = s.link w k := by
  rw [State.link, h]
  rfl

theorem link_of_same {m : Nat} (h : Same m s u) (hm : m.testBit Area.supervisors.ctorIdx = false) : u.link w k = s.link w k := by
  rw [State.link, show u.sv = s.sv from h.area .supervisors hm]
  rfl

theorem onSv_link {f : Sv → Sv} (hf : ∀ y : Sv, (f y).conns[k].link = y.conns[k].link) :
    (s.onSv v f).link w k = s.link w k := by
  by_cases hvw : w = v
  · subst hvw
    rw [State.link, onSv_sv_self, hf]
    rfl
  · rw [State.link, onSv_sv_other hvw]
    rfl

theorem onConn_link {f : SvConn → SvConn} (hf : ∀ c, (f c).link = c.link) : (s.onSv v fun y => y.onConn j f).link w k = s.link w k := by
  refine onSv_link fun y => ?_
  by_cases hjk : k = j
  · subst hjk
    exact (congrArg SvConn.link (updV_self ..)).trans (hf _)
  · exact congrArg SvConn.link (updV_other _ _ hjk)

theorem raise_link (n : Fin 4) (code : Nat) (leg : Option (Fin 4)) : (s.raise v n code leg).link w k = s.link w k :=
  link_of_conns (raise_conns ..)

theorem crossCheck_link (detail : Nat) : (s.crossCheck v j detail).link w k = s.link w k :=
  (link_of_conns (crossCheck_conns ..)).trans (onConn_link fun _ => rfl)

theorem isoWheel_link : (s.isoWheel v).link w k = s.link w k := by
  rw [State.isoWheel]
  split
  · split
    · exact (link_of_same (m := areaMask [.pulses, .offered, .selfTest, .freeCount]) (State.isoAbort_same false rfl .refl) rfl).trans
        ((each_view (State.link w k) fun _ _ => raise_link ..) :)
    · rfl
  · rfl

theorem when_link {b : Bool} {f : State → State} (hf : (f s).link w k = s.link w k) : (s.when b f).link w k = s.link w k :=
  when_view (State.link w k) hf

theorem each_link {α : Type} {l : List α} {f : State → α → State} (hf : ∀ x a, (f x a).link w k = x.link w k) :
    (State.each s l f).link w k = s.link w k := each_view (State.link w k) hf

theorem kinTake_link (n : Fin 4) (place : QPlace) (into : Bool) (ref : Time) (speed : Nat) (held : Bool) (unc : Nat) :
    (s.kinTake n place into ref speed held unc).link w k = s.link w k :=
  link_of_same (m := areaMask [.kin, .pulses, .freeCount]) (State.kinTake_same _ _ _ _ _ _ _ rfl .refl) rfl

theorem onNvSec_link (n : Fin 4) (f : NvSec → NvSec) : (s.onNvSec n f).link w k = s.link w k := link_of_conns rfl

theorem deliver_link (n m : Fin 4) (r : PassRec) : (s.deliver v n m r).link w k = s.link w k := by
  rw [State.deliver]
  split
  · rfl
  · split
    · rw [raise_link]
      exact when_link (onNvSec_link ..)
    · refine Eq.trans (when_link (kinTake_link ..)) (Eq.trans (when_link isoWheel_link) ?_)
      exact onSv_link fun _ => rfl

theorem takeRecords_link : (s.takeRecords v j x).link w k = s.link w k := by
  rw [State.takeRecords]
  dsimp only
  split
  · exact Eq.trans (onConn_link fun _ => rfl) (crossCheck_link 1)
  · exact each_link fun _ _ => Eq.trans (onConn_link fun _ => rfl) (deliver_link ..)

theorem mirrorCheck_link : (s.mirrorCheck v j x).link w k = s.link w k := by
  unfold State.mirrorCheck
  extract_lets c di do_
  split_ifs
  · rfl
  · exact Eq.trans (onConn_link fun _ => rfl) (crossCheck_link 3)
  · exact onConn_link fun _ => rfl
  · exact onConn_link fun _ => rfl

theorem takeZone_link : (s.takeZone v j x).link w k = s.link w k := by
  unfold State.takeZone
  extract_lets sec
  split_ifs
  · exact onConn_link fun _ => rfl
  · rfl

theorem onRest_link (n : Fin 4) (f : Rest → Rest) : (s.onSv v fun y => y.onRest n f).link w k = s.link w k :=
  onSv_link fun _ => rfl

theorem refuse_link (g : BitVec 4) (code : Nat) : (s.refuse v g code).link w k = s.link w k := by
  unfold State.refuse
  extract_lets s1
  have h1 : s1.link w k = s.link w k := each_link fun _ _ => onRest_link ..
  split_ifs
  · exact h1
  · exact h1

theorem takeAnswer_link : (s.takeAnswer v j x).link w k = s.link w k := by
  unfold State.takeAnswer
  extract_lets sec cum
  refine each_link fun y lead => ?_
  extract_lets r c br s1 cont
  have h1 : s1.link w k = y.link w k := onRest_link ..
  clear_value s1
  split
  · rfl
  · split
    · exact h1
    · split
      · exact (onRest_link ..).trans h1
      · split_ifs
        · exact (onRest_link ..).trans h1
        · exact (refuse_link ..).trans h1
        · exact h1

/-- R223 to R255: what a supervisor does with an accepted telegram leaves the connection in service as it is. -/
theorem process_link (fresh : Bool) : (s.process v j x fresh).link w k = s.link w k := by
  unfold State.process
  extract_lets s2 s3
  have h2 : s2.link w k = s.link w k := by
    refine (apply_ite (State.link w k) ..).trans ?_
    split
    · exact onConn_link fun _ => rfl
    · exact mirrorCheck_link.trans takeRecords_link
  clear_value s2
  have h3 : s3.link w k = s.link w k := (takeAnswer_link.trans takeZone_link).trans (Eq.trans (onConn_link fun _ => rfl) h2)
  split_ifs
  · exact (crossCheck_link 6).trans h3
  · exact h3

/-! ### Acceptance (R218, R220) -/

theorem accept_self (payload : List Byte) : (s.accept v k x payload).link v k = (true, some x, s.clk.now) := by
  unfold State.accept
  extract_lets c changed fresh s1
  have h1 : s1.link v k = (true, some x, s.clk.now) := by
    show (s.onSv v _).sv[v].conns[k].link = _
    rw [onSv_sv_self]
    exact congrArg SvConn.link (updV_self ..)
  split_ifs
  · exact Eq.trans (onConn_link fun _ => rfl) h1
  · exact (process_link fresh).trans h1

theorem accept_other (hvw : w ≠ v) (payload : List Byte) : (s.accept v k x payload).link w k = s.link w k := by
  unfold State.accept
  extract_lets c changed fresh s1
  have h1 : s1.link w k = s.link w k := by
    rw [State.link, onSv_sv_other hvw]
    rfl
  split_ifs
  · exact Eq.trans (onConn_link fun _ => rfl) h1
  · exact (process_link fresh).trans h1

/-- R218: every serving supervisor accepts the copy. -/
def State.allAccept (s : State) (k : Fin 8) (x : Tele) (payload : List Byte) : State :=
  State.each s (s.serving.map fun v => (v, Copy.accepted)) fun s p => s.accept p.1 k x payload

theorem accept_same (payload : List Byte) :
    Same (areaMask [.nvSecs, .supervisors, .kin, .pulses, .ports, .offered, .selfTest, .freeCount]) s (s.accept v k x payload) :=
  State.accept_same v k x payload rfl .refl

theorem allAccept_link (payload : List Byte) (hv : v ∈ s.serving) :
    (s.allAccept k x payload).link v k = (true, some x, s.clk.now) := by
  refine each_of_mem (I := fun y => y.clk = s.clk) (Q := fun y => y.link v k = (true, some x, s.clk.now))
    (i := (v, Copy.accepted)) (fun y p hy => ?_) (fun y hy => ?_) (fun y p hy hq => ?_)
    (List.mem_map.2 ⟨v, hv, rfl⟩) rfl
  · exact (show (y.accept p.1 k x payload).clk = y.clk from (accept_same payload).area .clk rfl).trans hy
  · rw [accept_self, hy]
  · by_cases hp : v = p.1
    · rw [← hp, accept_self, hy]
    · rw [accept_other hp, hq]

theorem allAccept_same (payload : List Byte) :
    Same (areaMask [.nvSecs, .supervisors, .kin, .pulses, .ports, .offered, .selfTest, .freeCount]) s (s.allAccept k x payload) :=
  State.each_same .refl fun _ _ h => State.accept_same _ _ _ _ rfl h

/-- R229: what follows leaves the lanes. -/
theorem neighbourNoEntry_laneOut : (s.neighbourNoEntry k).hasp.conns[k].laneOut = s.hasp.conns[k].laneOut := by
  unfold State.neighbourNoEntry
  extract_lets v c on
  split
  · rfl
  · exact (congrArg HaspConn.laneOut (updV_self ..)).trans rfl

/-- R220: the time and the age of the copy are kept. -/
def State.copyNoted (s : State) (k : Fin 8) (x : Tele) : State :=
  s.cvuDone.onHaspConn k fun c => { c with lastAcc := s.tbNow, lastAge := min 0xFFFF ((s.tbNow - x.sendTime) / 1000) }

theorem copyNoted_same : Same (areaMask [.pulses, .hasp]) s (s.copyNoted k x) :=
  State.onHaspConn_same _ _ rfl (State.cvuDone_same rfl .refl)

theorem copyNoted_laneOut : (s.copyNoted k x).hasp.conns[k].laneOut = s.hasp.conns[k].laneOut := by
  rw [← show s.cvuDone.hasp = s.hasp from (State.cvuDone_same (w := areaMask [.pulses]) rfl .refl).area .hasp rfl]
  exact (congrArg HaspConn.laneOut (updV_self ..)).trans rfl

theorem serving_of_sv (h : u.sv = s.sv) : u.serving = s.serving := by
  rw [State.serving, h]
  rfl

/-- R218: the supervisors that accept, where all do. -/
theorem takers_of_accepted (l : List (Fin 2)) : ((l.zip (l.map fun _ => Copy.accepted)).filter fun p => p.2 == .accepted) =
    l.map fun v => (v, Copy.accepted) := by
  induction l with
  | nil => rfl
  | cons v l ih => exact congrArg ((v, Copy.accepted) :: ·) ih

/-- R218: what a cyclic copy that every serving supervisor accepts does. -/
theorem takeCopy_of_accepted {payload : List Byte} (hall : ∀ v ∈ s.serving, s.judge v k x payload = .accepted)
    (hsome : s.serving ≠ []) (htyp : x.typ = 0) : s.takeCopy k x payload =
      (((((s.copyNoted k x).allAccept k x payload).when (!s.serving.all fun v => s.sv[v].conns[k].inService) fun s =>
        s.record codeConnection 0 [BitVec.ofNat 8 k.val, 1]).neighbourNoEntry k).haspWake k x) := by
  have hverdicts : (s.serving.map fun v => s.judge v k x payload) = s.serving.map fun _ => Copy.accepted :=
    List.map_congr_left hall
  have hserving : (s.copyNoted k x).serving = s.serving := serving_of_sv (copyNoted_same.area .supervisors rfl)
  rw [State.allAccept, hserving]
  unfold State.takeCopy
  extract_lets vs verdicts s1 takers was
  have hv : verdicts = s.serving.map fun _ => Copy.accepted := hverdicts
  have htakers : takers = s.serving.map fun v => (v, Copy.accepted) := by
    rw [← takers_of_accepted, ← hv]
  obtain ⟨a, l, hl⟩ := List.exists_cons_of_ne_nil hsome
  rw [hl] at hv htakers
  clear_value takers verdicts
  subst hv htakers
  have hsplit : ((l.map fun _ => Copy.accepted).any fun b => b != Copy.accepted) = false := by
    refine List.any_eq_false.2 fun b hb => ?_
    obtain ⟨-, -, rfl⟩ := List.mem_map.1 hb
    decide
  rw [hl, List.map_cons]
  dsimp only
  have hwas : was = (a :: l).all fun v => s.sv[v].conns[k].inService := congrArg (List.all · _) hl
  have htaken : ¬ ((a :: l).map fun v => (v, Copy.accepted)).isEmpty = true := Bool.false_ne_true
  rw [when_of_not hsplit, if_neg htaken, if_neg (by rw [htyp]; decide), hwas]
  rfl

/-- R218, R220: and what it leaves of the connection. -/
theorem takeCopy_accepted {payload : List Byte} (hall : ∀ v ∈ s.serving, s.judge v k x payload = .accepted)
    (hsome : s.serving ≠ []) (htyp : x.typ = 0) :
    (∀ v ∈ s.serving, (s.takeCopy k x payload).link v k = (true, some x, s.clk.now)) ∧
    (s.takeCopy k x payload).hasp.conns[k].laneOut = s.hasp.conns[k].laneOut ∧ (s.takeCopy k x payload).clk = s.clk := by
  rw [takeCopy_of_accepted hall hsome htyp]
  have hnoted := copyNoted_same (s := s) (k := k) (x := x)
  have haccept := allAccept_same (s := s.copyNoted k x) (k := k) (x := x) payload
  set y := (s.copyNoted k x).allAccept k x payload with hy
  set z := y.when (!s.serving.all fun v => s.sv[v].conns[k].inService) fun s =>
    s.record codeConnection 0 [BitVec.ofNat 8 k.val, 1] with hz
  have hrecord : Same (areaMask [.offered]) y z := State.when_same .refl fun _ h => State.record_same _ _ _ _ rfl h
  have hwake : Same (areaMask [.power]) (z.neighbourNoEntry k) ((z.neighbourNoEntry k).haspWake k x) :=
    State.haspWake_same _ _ rfl .refl
  have hafter : Same (areaMask [.offered, .pulses, .hasp, .power]) y ((z.neighbourNoEntry k).haspWake k x) :=
    State.haspWake_same _ _ rfl (State.neighbourNoEntry_same _ rfl (State.when_same .refl fun _ h => State.record_same _ _ _ _ rfl h))
  have hclk : (s.copyNoted k x).clk = s.clk := hnoted.area .clk rfl
  refine ⟨fun v hv => ?_, ?_, (hafter.area .clk rfl).trans ((haccept.area .clk rfl).trans hclk)⟩
  · rw [link_of_same hafter rfl, hy, ← hclk]
    exact allAccept_link payload (by rwa [serving_of_sv (hnoted.area .supervisors rfl)])
  · rw [show ((z.neighbourNoEntry k).haspWake k x).hasp = (z.neighbourNoEntry k).hasp from hwake.area .hasp rfl,
      neighbourNoEntry_laneOut, show z.hasp = y.hasp from hrecord.area .hasp rfl,
      show y.hasp = (s.copyNoted k x).hasp from haccept.area .hasp rfl, copyNoted_laneOut]

/-! ### Received frames (R217) -/

/-- The state as a frame that leaves the switch's delivery finds it. -/
def State.handedOver (s : State) (port : Fin 4) (f : Frame) : State :=
  { s with net := { s.net with delivered := s.net.delivered.erase (port, f) } }

/-- R217: the enabled connections of a frame's sender on the side of its port. -/
def State.namedHere (s : State) (port : Fin 4) (f : Frame) : List (Fin 8) :=
  (connections.filter fun (k : Fin 8) => s.connEnable k && s.neighbourMac k == f.src).filter fun (k : Fin 8) =>
    s.connSide k == (sideOf port).val

/-- R217: a good Hasp frame on a port with a link. -/
theorem completes_haspReceive {P : State → Prop} {port : Fin 4} {f : Frame} (hphase : s.phase = .service)
    (hlink : s.net.ports[port].link = true) (hfcs : f.fcsOk = true) (hproto : protocolOf f = some protoHasp)
    (hP : P (((s.at t).handedOver port f).haspTake port f)) : Completes (.haspReceive t port f) s P := by
  refine .of_when rfl ?_ hP
  simp only [at_phase, at_net, hphase, hlink, hfcs, hproto]
  rfl

/-- R217 step 1: an address that no enabled connection has. -/
theorem haspTake_unknown {port : Fin 4} {f : Frame}
    (hnone : (connections.filter fun (k : Fin 8) => s.connEnable k && s.neighbourMac k == f.src) = []) :
    s.haspTake port f = { s with hasp := { s.hasp with unknown := s.hasp.unknown + 1 } }.record codeHaspReject 0 [0xFF, 1] := by
  unfold State.haspTake
  extract_lets side payload named here
  have hnamed : named = [] := hnone
  have hhere : here = [] := congrArg (List.filter _) hnone
  rw [hhere, hnamed]

/-- R217 steps 2 to 4: a frame whose sender a connection on its side names. -/
theorem haspTake_named {port : Fin 4} {f : Frame} {l : List (Fin 8)} (hhere : s.namedHere port f = k :: l) :
    s.haspTake port f = 
      if !(match f.tag with
        | some t => t.vid == 0
        | none => true) || !teleFormat (f.body.drop 5) then s.rejectCopy k 2
      else match (k :: l).find? fun (k : Fin 8) => crcHolds (f.body.drop 5) (s.rxConnId k) with
        | none => s.rejectCopy k 3
        | some k =>
          if s.authMode k == 1 && (s.test.authFail || !cmacHolds (f.body.drop 5) (s.rxConnId k) (s.connKey k)) then s.rejectCopy k 4
          else (s.laneHeard k (laneOf port)).takeCopy k (parseTele (f.body.drop 5)) (f.body.drop 5) := by
  unfold State.haspTake
  extract_lets side payload named here
  have hh : here = k :: l := hhere
  clear_value here
  subst hh
  rfl

theorem rejectCopy_conn (step : Nat) : (s.rejectCopy k step).hasp.conns[k] = s.hasp.conns[k].reject step ∧
    (s.rejectCopy k step).sv = s.sv := ⟨updV_self .., rfl⟩

/-- R217: what the lane has heard does not change a supervisor's verdict. -/
theorem laneHeard_judge (lane : Fin 2) (payload : List Byte) :
    (s.laneHeard k lane).judge v k x payload = s.judge v k x payload := by
  unfold State.laneHeard
  extract_lets out s1
  cases out <;> rfl

theorem laneHeard_laneOut (lane : Fin 2) : (s.laneHeard k lane).hasp.conns[k].laneOut[lane] = false := by
  unfold State.laneHeard
  extract_lets out s1
  have h1 : s1.hasp.conns[k].laneOut[lane] = false := by
    rw [show s1.hasp.conns[k] = _ from updV_self ..]
    exact updV_self ..
  cases out <;> exact h1

theorem laneHeard_same (lane : Fin 2) : Same (areaMask [.hasp, .offered]) s (s.laneHeard k lane) :=
  State.laneHeard_same _ _ rfl .refl

end

/-- Settles O50: a rejection counts at its connection alone; a copy that every serving supervisor accepts is the latest of each. -/
theorem receivedTelegramsAreTakenOrCounted : Obligations.ReceivedTelegramsAreTakenOrCounted := by
  unfold Obligations.ReceivedTelegramsAreTakenOrCounted
  refine ⟨?_, ?_, ?_, ?_⟩
  · intro t port f s hphase hlink hfcs hproto hnone
    refine completes_haspReceive hphase hlink hfcs hproto ?_
    rw [haspTake_unknown (s := (s.at t).handedOver port f) hnone]
    exact ⟨rfl, rfl, fun _ _ => rfl⟩
  · intro t port f k l s hphase hlink hfcs hproto hhere hformat
    refine completes_haspReceive hphase hlink hfcs hproto ?_
    rw [haspTake_named (s := (s.at t).handedOver port f) hhere, hformat, Bool.not_false, Bool.or_true, if_pos rfl]
    exact rejectCopy_conn 2
  · intro t port f k l s hphase hlink hfcs hproto htag hhere hformat hcrc
    refine completes_haspReceive hphase hlink hfcs hproto ?_
    have hfind : ((k :: l).find? fun (j : Fin 8) => crcHolds (f.body.drop 5) (s.rxConnId j)) = none :=
      List.find?_eq_none.2 fun j hj => by simpa using List.all_eq_true.1 hcrc j hj
    rw [haspTake_named (s := (s.at t).handedOver port f) hhere, htag, hformat, if_neg (by decide)]
    rw [show ((k :: l).find? fun (j : Fin 8) => crcHolds (f.body.drop 5) (((s.at t).handedOver port f).rxConnId j)) = none from hfind]
    exact rejectCopy_conn 3
  · intro t port f k x s hphase hlink hfcs hproto htag hhere hformat hcrc hauth hx htyp hall hsome
    refine completes_haspReceive hphase hlink hfcs hproto ?_
    have hfind : ([k].find? fun (j : Fin 8) => crcHolds (f.body.drop 5) (((s.at t).handedOver port f).rxConnId j)) = some k :=
      List.find?_cons_of_pos hcrc
    rw [haspTake_named (s := (s.at t).handedOver port f) hhere, htag, hformat, if_neg (by decide), hfind]
    dsimp only
    rw [beq_false_of_ne (show ((s.at t).handedOver port f).authMode k ≠ 1 from hauth), Bool.false_and,
      if_neg Bool.false_ne_true, ← hx]
    have hsame := laneHeard_same (s := (s.at t).handedOver port f) (k := k) (laneOf port)
    have hserving : (((s.at t).handedOver port f).laneHeard k (laneOf port)).serving = s.serving :=
      serving_of_sv (hsame.area .supervisors rfl)
    obtain ⟨hlink', hlane, hclk⟩ := takeCopy_accepted (s := ((s.at t).handedOver port f).laneHeard k (laneOf port)) (k := k)
      (x := x) (payload := f.body.drop 5)
      (fun v hv => by
        rw [laneHeard_judge]
        exact beq_iff_eq.1 (List.all_eq_true.1 hall v (hserving ▸ hv)))
      (by rwa [hserving]) htyp
    rw [hclk]
    refine ⟨fun v hv => ?_, by rw [hlane, laneHeard_laneOut]⟩
    have hl := hlink' v (by rw [hserving]; exact List.mem_filter.2 ⟨List.mem_finRange v, hv⟩)
    obtain ⟨hin, hlast, hat⟩ := link_eq_iff.1 hl
    exact ⟨hin, hlast, hat⟩

end Sys2Proof.Machine

/-! The execution of a decision to hibernate (R373, R390): the drops are voted by the supervisors that serve. -/

namespace Sys2Proof.Machine

open Slice0 in
/-- In service, decided to hibernate, with supervisor 1 failed and its vote for every permit still at rise. -/
def failedVotingRise : State :=
  { (oneFailed.onSv 1 fun x => { x with votes := Vector.replicate 4 .rise }) with
    pwr := { oneFailed.pwr with decision := some .hibernate } }

/-- The vote of supervisor 1 for permit 0 after a command. -/
def voteAfter (c : Instr) (s : State) : Option Vote :=
  match exec c s with
  | .next u => some u.sv[(1 : Fin 2)].votes[(0 : Fin 4)]
  | _ => none

theorem voteAfter_of_exec {c : Instr} {s u : State} (h : exec c s = .next u) :
    voteAfter c s = some u.sv[(1 : Fin 2)].votes[(0 : Fin 4)] := by
  rw [voteAfter, h]

theorem failedVotingRise_votes : voteAfter (.sleepExecute 5) failedVotingRise = some .rise := by decide +kernel

/-- Refutes O56: at entry to HIBERNATE the supervisors that serve vote drop. A failed one keeps the vote it holds, and in a state
where that is a rise it stays a rise. -/
theorem not_sleepAndWakeAreExecuted : ¬ Obligations.SleepAndWakeAreExecuted := by
  unfold Obligations.SleepAndWakeAreExecuted
  rintro ⟨hexecute, -⟩
  obtain ⟨u, hexec, -, -, -, hhibernate⟩ := hexecute 5 .hibernate failedVotingRise (by decide +kernel) (by decide +kernel)
    (by decide +kernel)
  have hvote := voteAfter_of_exec hexec
  rw [failedVotingRise_votes, Option.some.injEq] at hvote
  exact (hhibernate rfl).2 1 0 hvote.symm

end Sys2Proof.Machine

/-! Engine checkpoints, engine failures and the first decision after a takeover (R139 to R143). -/

namespace Sys2Proof.Machine

variable {s u : State} {t : Time} {e : Fin 9} {h : Fin 8} {c d : Fin 16}

/-! ### A checkpoint write (R140) -/

theorem chanCkpt_at : (s.at t).chanCkpt c = s.chanCkpt c := by
  unfold State.chanCkpt
  rw [at_nv_chans]
  rfl

/-- R140: what the engine of a head writes. -/
def State.newCkpt (s : State) (e : Fin 9) (h : Fin 8) (w : CkptWrite) : EngineCkpt :=
  { seq := w.seq
    crcOk := w.crcOk && w.seq == s.eng.wse[e].seq + 1
    kat := w.kat
    index := s.eng.wse[e].samples
    stamp := max s.eng.dets[chanX h].lastAt s.eng.dets[chanY h].lastAt
    x := s.chanCkpt (chanX h)
    y := s.chanCkpt (chanY h) }

/-- R140: the write itself. -/
def State.ckptStored (s : State) (e : Fin 9) (h : Fin 8) (w : CkptWrite) : State :=
  s.onWse e fun x => { x with
    seq := s.eng.wse[e].seq + 1
    ckAt := some s.clk.now
    ckpts := x.ckpts.set ((s.eng.wse[e].seq + 1) % 2) (some (s.newCkpt e h w)) (Nat.mod_lt _ (by decide)) }

theorem ckptWritten_eq (w : CkptWrite) : s.ckptWritten e h w = (s.ckptStored e h w).when
    (!(w.crcOk && w.seq == s.eng.wse[e].seq + 1) || !w.kat || s.ckptOverdue e) fun s => s.engineFails e 8 := rfl

theorem ckptStored_wse (w : CkptWrite) : (s.ckptStored e h w).eng.wse[e] = { s.eng.wse[e] with
    seq := s.eng.wse[e].seq + 1
    ckAt := some s.clk.now
    ckpts := s.eng.wse[e].ckpts.set ((s.eng.wse[e].seq + 1) % 2) (some (s.newCkpt e h w)) (Nat.mod_lt _ (by decide)) } :=
  updV_self ..

theorem lateCkpt {r : Option Time} {a : Time} : (r.all fun b => decide (b + us 100 ≤ a)) = true →
    (match r with
      | some b => decide (a < b + us 100)
      | none => false) = false := by
  intro h
  cases r with
  | none => rfl
  | some b =>
    rw [Option.all_some, decide_eq_true_eq] at h
    exact decide_eq_false (Nat.not_lt.2 h)

theorem completes_engineCheckpoint {P : State → Prop} {w : CkptWrite} (hon : s.feOn = true)
    (hruns : s.eng.wse[e].failed = false)
    (hdue : (s.eng.wse[e].ckAt.all fun a => decide (a + us 100 ≤ (s.at t).clk.now)) = true)
    (hserved : ∀ h, s.headServed e = some h → P ((s.at t).ckptWritten e h w))
    (hstandby : s.headServed e = none → P ((s.at t).when (!w.kat) fun s => s.engineFails e 8)) :
    Completes (.engineCheckpoint t e w) s P := by
  refine .of_when rfl ?_ ?_
  · refine Bool.and_eq_true_iff.2 ⟨?_, ?_⟩
    · rw [show (s.at t).feOn = true from hon, show (s.at t).eng = s.eng from rfl, hruns]
      rfl
    · exact (congrArg Bool.not (lateCkpt hdue)).trans rfl
  · cases hh : s.headServed e with
    | some h => rw [show (s.at t).headServed e = some h from hh]; exact hserved h hh
    | none => rw [show (s.at t).headServed e = none from hh]; exact hstandby hh

/-! ### The failure of an engine (R139, R141) -/

theorem takeover_held (s : State) (h : Fin 8) :
    (((s.onDet (chanX h) fun d => { d with hold := .takeover }).onDet (chanY h) fun d => { d with hold := .takeover }).amonRefresh).eng.dets[chanX h].hold = .takeover ∧
    (((s.onDet (chanX h) fun d => { d with hold := .takeover }).onDet (chanY h) fun d => { d with hold := .takeover }).amonRefresh).eng.dets[chanY h].hold = .takeover := by
  refine ⟨(congrArg Det.hold (updV_other _ _ (chanX_ne_chanY h))).trans (congrArg Det.hold (updV_self ..)),
    congrArg Det.hold (updV_self ..)⟩

/-- R139, R141: an engine that fails is declared, and the decisions of its head are held. -/
theorem engineFails_effect (row : Nat) (hruns : s.eng.wse[e].failed = false) :
    (s.engineFails e row).eng.wse[e].failed = true ∧ e ∈ (s.engineFails e row).eng.declared ∧
    ∀ h, s.headServed e = some h →
      (s.engineFails e row).eng.dets[chanX h].hold = .takeover ∧ (s.engineFails e row).eng.dets[chanY h].hold = .takeover := by
  unfold State.engineFails
  rw [if_neg (by rw [hruns]; decide)]
  extract_lets s1 _ s2 s3
  have hsame : Same (areaMask [.dets, .amon, .offered]) s2 (s3.record (codeFaultRow row) 0 [BitVec.ofNat 8 e.val]) :=
    State.record_same _ _ _ _ rfl (State.whenSome_same .refl fun s h hs =>
      State.amonRefresh_same rfl (State.onDet_same (chanY h) _ rfl (State.onDet_same (chanX h) _ rfl hs)))
  refine ⟨?_, ?_, ?_⟩
  · rw [hsame.area .wse rfl]
    exact congrArg Engine.failed (updV_self ..)
  · have h := hsame.area .crossbar rfl
    simp only [Area.same, Prod.mk.injEq] at h
    obtain ⟨-, -, hdeclared, -⟩ := h
    rw [hdeclared]
    exact List.mem_append_right _ (List.mem_singleton_self e)
  · intro h hh
    have hdets : (s3.record (codeFaultRow row) 0 [BitVec.ofNat 8 e.val]).eng.dets = s3.eng.dets :=
      (State.record_same (w := maskBut .dets) _ _ _ _ rfl .refl).only
    rw [hdets, show s3 = _ from congrArg (s2.whenSome · _) hh]
    exact takeover_held s2 h

/-! ### Which channels are held for a takeover (R142) -/

/-- R142: the decisions of a channel are not held for a takeover. -/
def State.unheld (s : State) (d : Fin 16) : Prop := s.eng.dets[d].hold ≠ .takeover

theorem unheld_of_dets (hu : s.unheld d) (hdets : u.eng.dets = s.eng.dets) : u.unheld d := by
  rw [State.unheld, hdets]
  exact hu

theorem unheld_of_same (hu : s.unheld d) (hsame : Same (maskBut .dets) s u) : u.unheld d :=
  unheld_of_dets hu hsame.only

theorem onDet_unheld_self {f : Det → Det} (hf : (f s.eng.dets[c]).hold ≠ .takeover) : (s.onDet c f).unheld c := by
  rw [State.unheld, show (s.onDet c f).eng.dets[c] = f s.eng.dets[c] from updV_self ..]
  exact hf

theorem onDet_unheld {f : Det → Det} (hu : s.unheld d) (hf : s.unheld c → (f s.eng.dets[c]).hold ≠ .takeover) :
    (s.onDet c f).unheld d := by
  by_cases hd : d = c
  · subst hd
    exact onDet_unheld_self (hf hu)
  · rw [State.unheld, show (s.onDet c f).eng.dets[d] = s.eng.dets[d] from updV_other _ _ hd]
    exact hu

theorem judge_hold (x : Det) (y : Seen) (k : Levels) : (x.judge y k).1.hold = x.hold := by
  unfold Det.judge
  extract_lets d1 conf d2 out1 low d3
  have h2 : d2.hold = x.hold := (apply_ite Det.hold ..).trans (ite_self _)
  have h3 : d3.hold = x.hold := by
    dsimp only [d3]
    split_ifs <;> exact h2
  split_ifs
  · rfl
  · rfl
  all_goals exact h3

theorem firstJudge_hold {x : Det} {y : Seen} {k : Levels} {a : Time} {r : Det × Edge} (hr : x.firstJudge y k a = some r) :
    r.1.hold = x.hold := by
  unfold Det.firstJudge at hr
  dsimp only at hr
  split_ifs at hr <;> cases hr <;> rfl

theorem emit_unheld (edge : Edge) (stamp : Time) (settling takeover blanked : Bool) (hu : s.unheld d) :
    (s.emit c edge stamp settling takeover blanked).unheld d := by
  unfold State.emit
  extract_lets x h out base ending peak cls r cen p s1 s2 s3 s0
  split
  · have hpeak : Same (maskBut .dets) s peak.2 := State.rootRound_same _ _ rfl .refl
    have hcen : Same (maskBut .dets) s cen.2 := by
      dsimp only [cen]
      split
      · exact hpeak
      · split
        · exact State.drawFree_same rfl hpeak
        · exact State.unstatedRound_same _ rfl hpeak
    have h1 : s1.unheld d := unheld_of_dets (unheld_of_same hu hcen) rfl
    have h2 : s2.unheld d := unheld_of_same (onDet_unheld h1 id) (State.onChan_same _ _ rfl .refl)
    have h3 : Same (maskBut .dets) s2 s3 := State.warnCond_same _ _ _ rfl (State.onStats_same _ _ rfl .refl)
    exact unheld_of_same h2 (State.when_same h3 fun u hs => State.warn_same _ _ rfl hs)
  · have h0 : s0.unheld d := unheld_of_dets hu rfl
    exact unheld_of_same h0 (State.when_same .refl fun u hs => State.partnerOnset_same _ rfl hs)

theorem emitAll_unheld (l : List (Edge × Time × Bool)) (hu : s.unheld d) : (s.emitAll c l).unheld d := by
  unfold State.emitAll
  induction l generalizing s with
  | nil => exact hu
  | cons r l ih => exact ih (emit_unheld r.1 r.2.1 false false r.2.2 hu)

theorem decideOn_unheld (f : FastS) (x : Seen) (hu : s.unheld d) : (s.decideOn c f x).unheld d := by
  unfold State.decideOn
  extract_lets y k r1 r2
  split
  · exact onDet_unheld hu fun _ => by simp
  · split
    · split
      · next r hr => exact emit_unheld _ _ _ _ _ (onDet_unheld hu fun _ => by simp)
      · next hr =>
        refine emitAll_unheld _ (onDet_unheld hu fun _ => ?_)
        rw [show r1.1.hold = .free from judge_hold ..]
        decide
    · refine emitAll_unheld _ (onDet_unheld hu fun hc => ?_)
      rw [show r2.1.hold = y.hold from judge_hold ..]
      exact hc

theorem track_unheld (x : Seen) (hu : s.unheld d) : (s.track c x).unheld d := by
  unfold State.track
  extract_lets h y f lim
  split
  · exact onDet_unheld hu id
  · split
    · exact onDet_unheld hu id
    · exact onDet_unheld hu id

theorem push_hold (x : Det) (f : Option FastS) (z : Cx × Cx) (even quiet : Bool) (a : Time) :
    (x.push f z even quiet a).hold = x.hold := by
  unfold Det.push
  extract_lets d1
  split
  · rfl
  · extract_lets ok
    split <;> rfl

theorem recall_hold (x : Det) (a : Time) (f : FastS) (span : Time) : (x.recall a f span).hold = x.hold := by
  unfold Det.recall
  split <;> rfl

theorem push_fast_last (x : Det) (f : FastS) (z : Cx × Cx) (even quiet : Bool) (a : Time) :
    (x.push (some f) z even quiet a).fast.getLast? = some (some f) := by
  have h : (pushFast x.fast (some f)).getLast? = some (some f) := by
    rw [pushFast, List.getLast?_drop, if_neg (by simp), List.getLast?_concat]
  unfold Det.push
  dsimp only
  split
  · exact h
  · exact h

theorem recall_fast (x : Det) (a : Time) (f : FastS) (span : Time) : (x.recall a f span).fast = x.fast := by
  unfold Det.recall
  split <;> rfl

theorem engineSample_unheld (hu : s.unheld d) : (s.engineSample c true).unheld d := by
  unfold State.engineSample
  extract_lets raws stamp y even quiet m w inj z f span s1 seen s2 s3
  rw [if_neg (by decide)]
  have h1 : s1.unheld d := unheld_of_same
    (onDet_unheld hu fun hc => by rw [recall_hold, push_hold]; exact hc) (State.onChan_same _ _ rfl .refl)
  split
  · exact h1
  · have h2 : s2.unheld d := unheld_of_same (decideOn_unheld _ _ h1) (State.shadowSample_same _ _ _ rfl .refl)
    have h3 : s3.unheld d := by
      dsimp only [s3]
      split
      · exact onDet_unheld h2 id
      · exact unheld_of_same (track_unheld _ h2) (State.watchProof_same _ _ _ rfl (State.gatherStats_same _ _ rfl .refl))
    exact unheld_of_same h3 (State.amonShow_same _ _ _ rfl (State.amonRefresh_same rfl .refl))

/-- R142: a channel that is held takes a sample of the 64 raw samples without a decision. -/
theorem engineSample_held (hheld : s.eng.dets[c].hold = .takeover) :
    ∃ f, (s.engineSample c true).eng.dets[c].fast.getLast? = some (some f) := by
  unfold State.engineSample
  extract_lets raws stamp y even quiet m w inj z f span s1 seen s2 s3
  rw [if_neg (by decide)]
  rw [if_pos (Bool.or_eq_true_iff.2 (.inl (decide_eq_true hheld)))]
  refine ⟨f, ?_⟩
  rw [show s1.eng.dets[c] = _ from updV_self .., recall_fast, push_fast_last]

/-- R142: what the first decision does with the sample it has. -/
def State.decideFirst (s : State) (c : Fin 16) : State :=
  let d := s.eng.dets[c]
  let blanked := s.fe.chans[c].raws.any fun w => w.blanked
  match d.fast.getLast? with
  | some (some f) =>
    if f.settling then s.onDet c fun d => { d with hold := .settling }
    else
      match d.firstJudge (s.see c f s.tbNow blanked) (s.levels (headOf c)) s.tbNow with
      | some r => (s.onDet c fun _ => { r.1 with hold := .free }).emit c r.2 s.tbNow false true blanked
      | none => s.onDet c fun d => { d with hold := .free }
  | _ => s

theorem takeoverDecision_eq : s.takeoverDecision c = (match s.eng.dets[c].fast.getLast? with
    | some (some _) => s
    | _ => s.engineSample c true).decideFirst c := rfl

theorem decideFirst_unheld (hu : s.unheld d) : (s.decideFirst c).unheld d := by
  unfold State.decideFirst
  extract_lets x blanked
  split
  · split
    · exact onDet_unheld hu fun _ => by simp
    · split
      · exact emit_unheld _ _ _ _ _ (onDet_unheld hu fun _ => by simp)
      · exact onDet_unheld hu fun _ => by simp
  · exact hu

theorem decideFirst_frees {f : FastS} (hf : s.eng.dets[c].fast.getLast? = some (some f)) : (s.decideFirst c).unheld c := by
  unfold State.decideFirst
  extract_lets x blanked
  rw [show x.fast.getLast? = _ from hf]
  dsimp only
  split
  · exact onDet_unheld_self (by simp)
  · split
    · exact emit_unheld _ _ _ _ _ (onDet_unheld_self (by simp))
    · exact onDet_unheld_self (by simp)

theorem takeoverDecision_unheld (hu : s.unheld d) : (s.takeoverDecision c).unheld d := by
  rw [takeoverDecision_eq]
  split
  · exact decideFirst_unheld hu
  · exact decideFirst_unheld (engineSample_unheld hu)

/-- R142: the first decision frees the channel. -/
theorem takeoverDecision_frees : (s.takeoverDecision c).unheld c := by
  rw [takeoverDecision_eq]
  split
  · next f hf => exact decideFirst_frees hf
  · by_cases hheld : s.unheld c
    · exact decideFirst_unheld (engineSample_unheld hheld)
    · obtain ⟨f, hf⟩ := engineSample_held (Classical.not_not.1 hheld)
      exact decideFirst_frees hf

/-- R142: what TAKEOVER_FIRST_DECISION does with one channel of the head. -/
def State.firstDecision (s : State) (c : Fin 16) : State :=
  if s.decides c then s.takeoverDecision c else s.onDet c fun d => { d with hold := .free }

theorem firstDecision_unheld (hu : s.unheld d) : (s.firstDecision c).unheld d := by
  unfold State.firstDecision
  split
  · exact takeoverDecision_unheld hu
  · exact onDet_unheld hu fun _ => by simp

theorem firstDecision_frees : (s.firstDecision c).unheld c := by
  unfold State.firstDecision
  split
  · exact takeoverDecision_frees
  · exact onDet_unheld_self (by simp)

theorem firstDecision_takeover : (s.firstDecision c).eng.takeover = s.eng.takeover := by
  have h : Same (maskBut .crossbar) s (s.firstDecision c) :=
    Same.ite (State.takeoverDecision_same _ rfl .refl) (State.onDet_same _ _ rfl .refl)
  have h := h.only
  simp only [Area.same, Prod.mk.injEq] at h
  obtain ⟨-, htakeover, -, -⟩ := h
  exact htakeover

/-! ### The obligation -/

theorem ckptWritten_right {w : CkptWrite} (hseq : w.seq = s.eng.wse[e].seq + 1) (hcrc : w.crcOk = true) (hkat : w.kat = true)
    (hdue : s.ckptOverdue e = false) : s.ckptWritten e h w = s.ckptStored e h w := by
  rw [ckptWritten_eq, hcrc, hkat, hdue, hseq, beq_self_eq_true]
  rfl

/-- R140: a write that is out of sequence, wrong or overdue fails the engine. -/
theorem ckptWritten_fails {w : CkptWrite}
    (hbad : w.seq ≠ s.eng.wse[e].seq + 1 ∨ w.crcOk = false ∨ w.kat = false ∨ s.ckptOverdue e = true) :
    s.ckptWritten e h w = (s.ckptStored e h w).engineFails e 8 := by
  rw [ckptWritten_eq]
  refine when_of ?_
  rcases hbad with hseq | hcrc | hkat | hdue
  · rw [beq_false_of_ne hseq, Bool.and_false]
    rfl
  · rw [hcrc]
    rfl
  · rw [hkat]
    simp
  · rw [hdue, Bool.or_true]

/-- R139, R140: an engine in time writes the next checkpoint. -/
theorem completes_engineCheckpoint_right {w : CkptWrite} (hon : s.feOn = true) (hruns : s.eng.wse[e].failed = false)
    (hserved : s.headServed e = some h)
    (hdue : (s.eng.wse[e].ckAt.all fun a => decide (a + us 100 ≤ (s.at t).clk.now)) = true)
    (hseq : w.seq = s.eng.wse[e].seq + 1) (hcrc : w.crcOk = true) (hkat : w.kat = true)
    (htime : (s.at t).ckptOverdue e = false) : Completes (.engineCheckpoint t e w) s fun u =>
      u.eng.wse[e].seq = s.eng.wse[e].seq + 1 ∧ u.eng.wse[e].failed = false ∧ u.eng.wse[e].ckAt = some u.clk.now ∧
      u.eng.wse[e].ckpts[(s.eng.wse[e].seq + 1) % 2]'(Nat.mod_lt _ (by decide)) = some
        { seq := s.eng.wse[e].seq + 1, crcOk := true, kat := true, index := s.eng.wse[e].samples,
          stamp := max s.eng.dets[chanX h].lastAt s.eng.dets[chanY h].lastAt,
          x := s.chanCkpt (chanX h), y := s.chanCkpt (chanY h) } := by
  refine completes_engineCheckpoint hon hruns hdue (fun h' hh => ?_) fun hh => absurd (hserved.symm.trans hh) nofun
  obtain rfl := Option.some.inj (hserved.symm.trans hh)
  rw [ckptWritten_right (s := s.at t) hseq hcrc hkat htime]
  rw [ckptStored_wse]
  refine ⟨rfl, hruns, rfl, ?_⟩
  refine (Vector.getElem_set_self _).trans (congrArg some ?_)
  rw [State.newCkpt, chanCkpt_at, chanCkpt_at, hcrc, hkat, hseq, show (s.at t).eng = s.eng from rfl, beq_self_eq_true]
  rfl

/-- R141: a check that fails leaves the engine failed. -/
theorem completes_engineFailure {k : EngineCheck} (hon : s.feOn = true) (hruns : s.eng.wse[e].failed = false)
    (hfails : (s.at t).checkFails e k = true) : Completes (.engineFailure t e k) s fun u =>
      u.eng.wse[e].failed = true ∧ e ∈ u.eng.declared ∧
      ∀ h, s.headServed e = some h → u.eng.dets[chanX h].hold = .takeover ∧ u.eng.dets[chanY h].hold = .takeover :=
  .of_when rfl (Bool.and_eq_true_iff.2 ⟨hon, hfails⟩) (engineFails_effect (s := s.at t) _ hruns)

theorem ready_of (hc : s.decides c = false ∨ s.sampleReady c = true) : (!s.decides c || s.sampleReady c) = true := by
  rcases hc with h | h
  · rw [h]
    rfl
  · rw [h, Bool.or_true]

/-- R142: the first decision after a takeover. -/
theorem completes_takeoverFirstDecision (hon : s.feOn = true) (htaken : s.eng.takeover[h].isSome = true)
    (hx : (s.at t).decides (chanX h) = false ∨ (s.at t).sampleReady (chanX h) = true)
    (hy : (s.at t).decides (chanY h) = false ∨ (s.at t).sampleReady (chanY h) = true) :
    Completes (.takeoverFirstDecision t h) s fun u =>
      u.eng.takeover[h] = none ∧ u.eng.dets[chanX h].hold ≠ .takeover ∧ u.eng.dets[chanY h].hold ≠ .takeover := by
  refine .of_when rfl ?_ ?_
  · exact Bool.and_eq_true_iff.2 ⟨Bool.and_eq_true_iff.2 ⟨Bool.and_eq_true_iff.2 ⟨hon, htaken⟩, ready_of hx⟩, ready_of hy⟩
  · refine ⟨?_, ?_, ?_⟩
    · exact (congrArg (·[h]) ((firstDecision_takeover (c := chanY h)).trans (firstDecision_takeover (c := chanX h)))).trans
        (updV_self ..)
    · exact firstDecision_unheld firstDecision_frees
    · exact firstDecision_frees

/-- Settles O36: a checkpoint write stores its contents in the slot of its parity and fails the engine on any wrong answer; a
failure declares the engine and holds its head; the first decision after a takeover frees both channels. -/
theorem enginesCheckpointAndFail : Obligations.EnginesCheckpointAndFail := by
  refine ⟨fun t e w h s hon hruns hserved hdue hseq hcrc hkat htime =>
      completes_engineCheckpoint_right hon hruns hserved hdue hseq hcrc hkat htime,
    fun t e w h s hon hruns hserved hdue hbad => completes_engineCheckpoint hon hruns hdue (fun h' hh => ?_)
      fun hh => absurd (hserved.symm.trans hh) nofun,
    fun t e w s hon hruns hstandby hdue hkat => completes_engineCheckpoint hon hruns hdue
      (fun h' hh => absurd (hstandby.symm.trans hh) nofun) fun _ => ?_,
    fun t e k s hon hruns hfails => completes_engineFailure hon hruns hfails,
    fun t h s hon htaken hx hy => completes_takeoverFirstDecision hon htaken hx hy⟩
  · obtain rfl := Option.some.inj (hserved.symm.trans hh)
    rw [ckptWritten_fails (s := s.at t) hbad]
    obtain ⟨hfailed, hdeclared, hheld⟩ := engineFails_effect (s := (s.at t).ckptStored e h w) (e := e) 8
      ((congrArg Engine.failed (ckptStored_wse w)).trans hruns)
    exact ⟨hfailed, hdeclared, hheld h hserved⟩
  · rw [when_of (congrArg Bool.not hkat)]
    obtain ⟨hfailed, hdeclared, -⟩ := engineFails_effect (s := s.at t) 8 hruns
    exact ⟨hfailed, hdeclared⟩

end Sys2Proof.Machine

/-! Final causes, settling masks and lost references (R59, R72, R80, R107). -/

namespace Sys2Proof.Machine

variable {s u : State} {t : Time} {c d : Fin 16}

/-! ### What an operation on one channel leaves of a channel -/

theorem onChan_chan_other {f : Chan → Chan} (h : c ≠ d) : (s.onChan d f).fe.chans[c] = s.fe.chans[c] := updV_other _ _ h

/-- What a change of one channel keeps, any operation that is such a change keeps of every channel. -/
theorem onChan_keeps {P : Chan → Prop} {f : Chan → Chan} (hP : ∀ ch, P ch → P (f ch)) (h : P s.fe.chans[c]) :
    P (s.onChan d f).fe.chans[c] := by
  by_cases hcd : c = d
  · subst hcd
    rw [show (s.onChan c f).fe.chans[c] = f s.fe.chans[c] from updV_self ..]
    exact hP _ h
  · rw [onChan_chan_other hcd]
    exact h

theorem faultMarked_eq (prov detect : Nat) (back : Time) : (s.faultMarked d prov back detect).fe.chans =
    updV s.fe.chans d fun ch => ch.faulted s.clk.now s.tbNow back (s.newFault prov back) := by
  have hproof : ((s.abortProof (chanX (headOf d))).abortProof (chanY (headOf d))).fe.chans = s.fe.chans :=
    (State.abortProof_same (w := areaMask [.proofs, .pulses, .offered]) _ rfl (State.abortProof_same _ rfl .refl)).area .chans rfl
  rw [← hproof]
  rfl

/-- R80: what a fault of its own keeps of a channel, a fault of any channel keeps. -/
theorem chanFault_keeps {P : Chan → Prop} {prov detect : Nat} {back : Time}
    (hP : ∀ ch now tbNow f, P ch → P (ch.faulted now tbNow back f)) (h : P s.fe.chans[c]) :
    P (s.chanFault d prov back detect).fe.chans[c] := by
  cases hd : s.fe.chans[d].fault with
  | some f => rwa [chanFault_of_some (by rw [hd]; rfl)]
  | none =>
    rw [chanFault_of_none hd]
    obtain ⟨hchans, -, -⟩ := headFaulted_effect (s := s.faultMarked d prov back detect) (h := headOf d) (s.tbNow - back)
    rw [hchans, faultMarked_eq]
    exact onChan_keeps (s := s) (d := d) (fun ch => hP ch _ _ _) h

theorem chanFault_isSome (prov detect : Nat) (back : Time) : (s.chanFault c prov back detect).fe.chans[c].fault.isSome = true := by
  cases hc : s.fe.chans[c].fault with
  | some f =>
    rw [chanFault_of_some (by rw [hc]; rfl), hc]
    rfl
  | none =>
    obtain ⟨hchans, -, -⟩ := headFaulted_effect (s := s.faultMarked c prov back detect) (h := headOf c) (s.tbNow - back)
    rw [chanFault_of_none hc, hchans, faultMarked_chan]
    rfl

theorem partnerChan_ne (c : Fin 16) : c ≠ partnerChan c := by
  revert c
  decide

/-! ### A calibration leaves the mask of its channel (R70) -/

theorem calFails_mask (cause : Nat) : (s.calFails d cause).fe.chans[c].mask = s.fe.chans[c].mask := by
  unfold State.calFails
  split
  · exact onChan_keeps (P := fun ch => ch.mask = s.fe.chans[c].mask) (fun ch h => h) rfl
  · exact chanFault_keeps (P := fun ch => ch.mask = s.fe.chans[c].mask) (fun ch _ _ _ h => h) rfl

theorem calStep_mask : (s.calStep d).fe.chans[c].mask = s.fe.chans[c].mask := by
  have hset {f : Chan → Chan} (hf : ∀ ch, (f ch).mask = ch.mask) : (s.onChan d f).fe.chans[c].mask = s.fe.chans[c].mask :=
    onChan_keeps (P := fun ch => ch.mask = s.fe.chans[c].mask) (fun ch h => (hf ch).trans h) rfl
  unfold State.calStep
  extract_lets ch
  split
  · split
    · rfl
    · split
      · split
        · exact hset fun _ => rfl
        · exact calFails_mask 10
      · unfold State.calRamp
        split
        · exact calFails_mask 9
        · refine (congrArg (fun x => x[c].mask) (State.warnWhile_same (w := maskBut .chans) _ _ _ rfl .refl).only).trans ?_
          exact hset fun _ => rfl
      · unfold State.calGain
        extract_lets n return_ again g
        split
        · exact calFails_mask 9
        · exact hset fun _ => rfl
      · exact hset fun _ => rfl
      · rfl
  · rfl

theorem calRun_mask : (s.calRun d).fe.chans[c].mask = s.fe.chans[c].mask := by
  rw [State.calRun, calStep_mask, calStep_mask, calStep_mask, calStep_mask]

theorem calRun_clk : (s.calRun d).clk = s.clk := (State.calRun_same (w := maskBut .clk) d rfl .refl).only

/-! ### Masks (R72, R107) -/

/-- R72: a channel whose mask begins, or is extended. -/
def Chan.masked (ch : Chan) (now : Time) (move : Bool) (mag : Rat) : Chan :=
  let m : Mask := match ch.mask with
    | some m => { m with until_ := max m.until_ (now + us 150), move := m.move || move }
    | none => { start := now, until_ := now + us 150, move := move, oldMag := mag }
  { ch with mask := some m, settledAt := m.until_, moveEnd := if m.move then some m.until_ else ch.moveEnd }

/-- R72: a channel is masked up to an instant at least. -/
def Chan.masksUntil (ch : Chan) (a : Time) : Prop := ch.mask.any (fun m => decide (a ≤ m.until_)) = true

theorem masked_until (ch : Chan) (now : Time) (move : Bool) (mag : Rat) :
    (ch.masked now move mag).masksUntil (now + us 150) := by
  rw [Chan.masksUntil, Chan.masked]
  generalize us 150 = w
  cases ch.mask with
  | some m =>
    dsimp only
    rw [Option.any_some, decide_eq_true_eq]
    exact Nat.le_max_right ..
  | none =>
    dsimp only
    rw [Option.any_some, decide_eq_true_eq]

theorem maskFrom_chans (move : Bool) :
    ∃ mag, (s.maskFrom d move).fe.chans = updV s.fe.chans d fun ch => ch.masked s.clk.now move mag := by
  have hproof : Same (areaMask [.proofs, .pulses, .offered]) s ((s.abortProof d).abortProof (partnerChan d)) :=
    State.abortProof_same _ rfl (State.abortProof_same _ rfl .refl)
  rw [← show _ = s.fe.chans from hproof.area .chans rfl, ← show _ = s.clk from hproof.area .clk rfl]
  exact ⟨_, rfl⟩

theorem maskFrom_other (move : Bool) (h : c ≠ d) : (s.maskFrom d move).fe.chans[c] = s.fe.chans[c] := by
  obtain ⟨mag, hchans⟩ := maskFrom_chans (s := s) (d := d) move
  rw [hchans]
  exact updV_other _ _ h

/-- R72: a mask runs for at least 150 µs from now. -/
theorem maskFrom_until (move : Bool) :
    (s.maskFrom c move).fe.chans[c].masksUntil (s.clk.now + us 150) := by
  obtain ⟨mag, hchans⟩ := maskFrom_chans (s := s) (d := c) move
  rw [hchans, show (updV s.fe.chans c _)[c] = _ from updV_self ..]
  exact masked_until ..

theorem maskFrom_clk (move : Bool) : (s.maskFrom c move).clk = s.clk := (State.maskFrom_same (w := maskBut .clk) _ _ rfl .refl).only

theorem applyChanges_other (l : List ChanChange) (h : c ≠ d) : (s.applyChanges d l).fe.chans[c] = s.fe.chans[c] := by
  unfold State.applyChanges
  extract_lets s1 s2
  rw [maskFrom_other _ h, show s2.fe.chans = s1.fe.chans from when_view (fun x => x.fe.chans) rfl]
  exact onChan_chan_other h

theorem releaseDeferred_other (h : c ≠ d) : (s.releaseDeferred d).fe.chans[c] = s.fe.chans[c] := by
  unfold State.releaseDeferred
  extract_lets l
  split
  · rw [applyChanges_other _ h, onChan_chan_other h]
  · rfl

theorem moveEnds_mask (m : Mask) : (s.moveEnds d m).fe.chans[c].mask = s.fe.chans[c].mask := by
  unfold State.moveEnds
  split
  · exact chanFault_keeps (P := fun ch => ch.mask = s.fe.chans[c].mask) (fun ch _ _ _ h => h) rfl
  · exact onChan_keeps (P := fun ch => ch.mask = s.fe.chans[c].mask) (fun ch h => h) rfl

theorem moveWhen_mask (b : Bool) (m : Mask) :
    (s.when b fun s => s.moveEnds d m).fe.chans[c].mask = s.fe.chans[c].mask := by
  cases b with
  | false => rfl
  | true => exact moveEnds_mask m

/-- R72, R107: a mask that has run is gone. -/
theorem completes_settlingMaskEnd {m : Mask} (hmask : s.fe.chans[c].mask = some m) (hend : m.until_ ≤ t) :
    Completes (.settlingMaskEnd t c) s fun u => u.fe.chans[c].mask = none := by
  have hmask' : ((s.at t).calRun c).fe.chans[c].mask = some m := calRun_mask.trans hmask
  have hnow : m.until_ ≤ ((s.at t).calRun c).clk.now := by
    rw [calRun_clk]
    exact le_at_now hend
  refine ⟨_, rfl, ?_⟩
  beta_reduce
  rw [hmask']
  dsimp only
  rw [if_pos hnow]
  exact (congrArg Chan.mask (releaseDeferred_other (partnerChan_ne c))).trans
    ((moveWhen_mask _ m).trans (congrArg Chan.mask (updV_self ..)))

/-! ### Lost references (R57, R59, R113) -/

theorem record_offers (code : BitVec 16) (src : BitVec 2) (p : List Byte) :
    ∃ e ∈ (s.record code src p).intake.offered, e.code = code ∧ e.time = (s.record code src p).tbNow :=
  ⟨_, List.mem_append_right _ (List.mem_singleton_self _), rfl, rfl⟩

/-- R57, R59: references that are lost. -/
def State.refsGone (s : State) (n : Nat) : State := { s with fe := { s.fe with refsLost := n } }

/-- R57, R72: what a switchover does at one channel. -/
def State.switchedOver (s : State) (c : Fin 16) : State :=
  if s.fe.chans[c].phase == .off then s
  else (s.maskFrom c false).onScan c fun k => { k with stop := k.stop || k.pause.isSome }

theorem switchedOver_same {w : Nat} {r : State} (hw : areaMask [.chans, .scans, .amon, .dets, .proofs, .pulses, .offered] &&& w =
    areaMask [.chans, .scans, .amon, .dets, .proofs, .pulses, .offered]) (hk : Same w r s) : Same w r (s.switchedOver d) := by
  unfold State.switchedOver
  split
  · exact hk
  · exact State.onScan_same _ _ (Same.sub rfl hw) (State.maskFrom_same _ _ (Same.sub rfl hw) hk)

theorem switchedOver_clk : (s.switchedOver d).clk = s.clk := (switchedOver_same (w := maskBut .clk) rfl .refl).only

theorem onScan_chans (f : Scan → Scan) : (s.onScan d f).fe.chans = s.fe.chans := rfl

theorem eachFin_eq_each {n : Nat} (f : State → Fin n → State) : s.eachFin n f = State.each s (List.finRange n) f := rfl

theorem switchedOver_other (h : c ≠ d) : (s.switchedOver d).fe.chans[c] = s.fe.chans[c] := by
  by_cases hoff : s.fe.chans[d].phase == .off
  · rw [State.switchedOver, if_pos hoff]
  · rw [State.switchedOver, if_neg hoff, onScan_chans]
    exact maskFrom_other _ h

/-- R72: every channel that is not off is masked from the loss of one reference. -/
theorem switchedOver_masks (hon : s.fe.chans[c].phase ≠ .off) :
    (State.eachFin s 16 State.switchedOver).fe.chans[c].masksUntil (s.clk.now + us 150) := by
  have hmask {x : State} (hclk : x.clk = s.clk) : (x.maskFrom c false).fe.chans[c].masksUntil (s.clk.now + us 150) :=
    hclk ▸ maskFrom_until false
  revert hmask
  generalize s.clk.now + us 150 = a
  intro hmask
  rw [eachFin_eq_each]
  refine each_of_mem_nodup (f := State.switchedOver) (I := fun x => x.fe.chans[c].phase ≠ .off ∧ x.clk = s.clk)
    (Q := fun x => x.fe.chans[c].masksUntil a)
    (fun x d hd hx => ?_) (fun x hx => ?_) (fun x d hd hq => ?_) (List.nodup_finRange 16) (List.mem_finRange c) ⟨hon, rfl⟩
  · obtain ⟨hxon, hxclk⟩ := hx
    exact ⟨(congrArg Chan.phase (switchedOver_other hd.symm)).trans_ne hxon, switchedOver_clk.trans hxclk⟩
  · obtain ⟨hxon, hxclk⟩ := hx
    rw [State.switchedOver, if_neg (by simpa using hxon), onScan_chans]
    exact hmask hxclk
  · rw [switchedOver_other hd.symm]
    exact hq

theorem switchedOver_refs : (State.eachFin s 16 State.switchedOver).fe.refsLost = s.fe.refsLost :=
  (State.eachFin_same (w := maskBut .refs) (r := s) (f := State.switchedOver) .refl fun _ _ h => switchedOver_same rfl h).only

/-- R57, R72: one reference is lost. -/
def State.oneLost (s : State) : State := (State.eachFin (s.refsGone 1) 16 State.switchedOver).record (codeFaultRow 6) 0 []

theorem oneLost_eq : s.oneLost = (State.eachFin (s.refsGone 1) 16 State.switchedOver).record (codeFaultRow 6) 0 [] := rfl

theorem completes_referenceSwitchover (hservice : s.phase = .service) (hrefs : s.fe.refsLost = 0) :
    Completes (.referenceSwitchover t) s fun u =>
      u.fe.refsLost = 1 ∧
      (∀ c : Fin 16, s.fe.chans[c].phase ≠ .off →
        u.fe.chans[c].mask.any (fun m => decide (u.clk.now + us 150 ≤ m.until_)) = true) ∧
      ∃ e ∈ u.intake.offered, e.code = codeFaultRow 6 ∧ e.time = u.tbNow := by
  refine .of_when (f := State.oneLost) rfl (Bool.and_eq_true_iff.2 ⟨beq_iff_eq.2 hservice, beq_iff_eq.2 hrefs⟩) ?_
  have hclk : (s.at t).oneLost.clk = (s.at t).clk :=
    (State.record_same (w := maskBut .clk) (r := (s.at t).refsGone 1) _ _ _ _ rfl (State.eachFin_same .refl fun _ _ h =>
      switchedOver_same rfl h)).only
  refine ⟨?_, fun c hon => ?_, ?_⟩
  · rw [oneLost_eq, record_fe]
    exact Eq.trans (switchedOver_refs (s := (s.at t).refsGone 1)) rfl
  · rw [hclk, oneLost_eq, record_fe]
    exact switchedOver_masks (s := (s.at t).refsGone 1) hon
  · rw [oneLost_eq]
    exact record_offers (s := State.eachFin ((s.at t).refsGone 1) 16 State.switchedOver) ..

/-- R59: both references are lost. -/
def State.bothLost (s : State) : State :=
  (State.eachFin (s.refsGone 2) 16 fun s c => s.chanFault c 2 500).record (codeFaultRow 7) 0 []

theorem bothLost_refs : s.bothLost.fe.refsLost = 2 :=
  (State.record_same (w := maskBut .refs) (r := s.refsGone 2) _ _ _ _ rfl (State.eachFin_same .refl fun _ _ h =>
    State.chanFault_same _ _ _ _ rfl h)).only

theorem bothLost_fault : s.bothLost.fe.chans[c].fault.isSome = true := by
  rw [State.bothLost, record_fe, eachFin_eq_each]
  exact each_of_mem (f := fun s c => s.chanFault c 2 500) (I := fun _ => True) (Q := fun x => x.fe.chans[c].fault.isSome = true)
    (fun _ _ h => h) (fun x _ => chanFault_isSome 2 0 500)
    (fun x d _ hq => chanFault_keeps (P := fun ch => ch.fault.isSome = true) (fun _ _ _ _ _ => rfl) hq) (List.mem_finRange c) trivial

/-- Settles O30: a fault that is 2 ms old takes its final cause; a mask that has run is gone; one lost reference masks every channel
that is not off, and two leave every channel faulted. -/
theorem frontEndFaultsRunTheirCourse : Obligations.FrontEndFaultsRunTheirCourse := by
  refine ⟨fun t c f s hfault hopen hdue => ?_, fun t c m s hmask hend => completes_settlingMaskEnd hmask hend,
    fun t s hservice hrefs => ?_, fun t s hservice hrefs => ?_⟩
  · refine ⟨_, rfl, ?_⟩
    beta_reduce
    rw [show (s.at t).fe = s.fe from rfl, hfault]
    dsimp only
    rw [if_pos (Bool.and_eq_true_iff.2 ⟨congrArg Bool.not hopen, decide_eq_true (le_at_now hdue)⟩)]
    obtain ⟨e, he, hcode, -⟩ := record_offers (s := (s.at t).onChan c fun ch => { ch with
      fault := some { f with final := true }, faultCause := finalCause f s.fe.chans[c] s.fe.chans[partnerChan c] }) codeChanFault 0 _
    exact ⟨congrArg Chan.fault (updV_self ..), congrArg Chan.faultCause (updV_self ..), e, he, hcode⟩
  · exact completes_referenceSwitchover hservice hrefs
  · exact .of_when (f := State.bothLost) rfl (Bool.and_eq_true_iff.2 ⟨beq_iff_eq.2 hservice, decide_eq_true hrefs⟩)
      ⟨bothLost_refs, fun c => bothLost_fault⟩

end Sys2Proof.Machine

/-! The scanner (R99 to R103, R113, R114) and the frame boundaries (R64, R65). -/

namespace Sys2Proof.Machine

variable {s u : State} {t : Time} {c d : Fin 16}

/-! ### Frame boundaries (R64, R65) -/

/-- R64, R65: a frame begins. -/
def State.nextFrame (s : State) : State := { s with fe := { s.fe with frame := s.fe.frame + 1, frameAt := s.clk.now } }

/-- R64, R70, R103, R117: what a frame boundary does beside. -/
def State.frameWork (s : State) (odd : Bool) : State :=
  let s2 := if odd then State.eachFin s 16 fun s c => s.onDet c Det.nUpdate else s
  if s2.feOn then
    State.eachFin (State.eachFin (State.eachFin s2 16 fun s c => s.calRun c) 16 fun s c => s.pauseEnds c) 16 fun s c =>
      s.boundaryChanges c
  else s2

theorem frameWork_same {w : Nat} {r : State} {odd : Bool} (hw : areaMask faultAreas &&& w = areaMask faultAreas) (hk : Same w r s) :
    Same w r (s.frameWork odd) := by
  unfold State.frameWork
  have h2 : Same w r (if odd then State.eachFin s 16 fun s c => s.onDet c Det.nUpdate else s) :=
    Same.ite (State.eachFin_same hk fun _ _ h => State.onDet_same _ _ (Same.sub rfl hw) h) hk
  exact Same.ite (State.eachFin_same (State.eachFin_same (State.eachFin_same h2
    fun _ _ h => State.calRun_same _ (Same.sub rfl hw) h) fun _ _ h => State.pauseEnds_same _ (Same.sub rfl hw) h)
    fun _ _ h => State.boundaryChanges_same _ (Same.sub rfl hw) h) h2

/-- R64: a frame boundary counts the frame. -/
theorem completes_frameBoundary (hservice : s.phase = .service) (hdue : s.fe.frameAt + us 1024 ≤ t) :
    Completes (.frameBoundary t) s fun u => u.fe.frame = s.fe.frame + 1 ∧ u.fe.frameAt = u.clk.now := by
  refine .of_when (f := fun s => s.nextFrame.frameWork (s.fe.frame % 2 == 1)) rfl
    (Bool.and_eq_true_iff.2 ⟨beq_iff_eq.2 hservice, decide_eq_true (le_at_now hdue)⟩) ?_
  have hsame : Same (areaMask faultAreas) (s.at t).nextFrame ((s.at t).nextFrame.frameWork ((s.at t).fe.frame % 2 == 1)) :=
    frameWork_same rfl .refl
  have hframes := hsame.area .frames rfl
  have hclk : _ = _ := hsame.area .clk rfl
  simp only [Area.same, Prod.mk.injEq] at hframes
  obtain ⟨hframe, hat⟩ := hframes
  rw [hframe, hat, hclk]
  exact ⟨rfl, rfl⟩

/-! ### Scans that are due, and their pauses (R99 to R102) -/

theorem onScan_self (f : Scan → Scan) : (s.onScan c f).fe.scans[c] = f s.fe.scans[c] := updV_self ..

theorem scanDue_due : (s.scanDue c).fe.scans[c].due = true := by
  rw [State.scanDue, onScan_self]
  split
  · assumption
  · rfl

/-- R99: what a pause that starts leaves. -/
theorem completes_scanPauseStart (hfirst : (s.at t).firstDue c = true) (hnow : (s.at t).clk.now = s.fe.frameAt) :
    Completes (.scanPauseStart t c) s fun u =>
      u.fe.chans[c].phase = .paused ∧ u.fe.chans[c].excOn = false ∧ u.fe.scans[c].pause = some u.clk.now :=
  .of_when rfl (Bool.and_eq_true_iff.2 ⟨hfirst, beq_iff_eq.2 hnow⟩)
    ⟨congrArg Chan.phase (updV_self ..), congrArg Chan.excOn (updV_self ..), congrArg Scan.pause (updV_self ..)⟩

/-! ### The end of a scan (R100 to R102, log entry 60) -/

/-- R101: the table that the window of a pause gives. -/
def State.scanTable (s : State) (c : Fin 16) : List Rat :=
  (disturbance s.fe.scans[c].win s.fe.scans[c].winGain).map fun x => x / min s.fe.chans[c].aRefSqL s.fe.chans[c].aRefSqH

/-- R101, R102: the scan of a channel once its table, its shown figures `lo` and `hi` and its spectrum stand. -/
def Scan.ended (k : Scan) (table : List Rat) (awake : Nat) (now : Time) (lo hi : Int) (spectrum : List Byte) : Scan :=
  { k with
    due := false
    resumed := false
    reports := 0
    lastDone := awake
    distLow := lo
    distHigh := hi
    spectrum := spectrum
    win := []
    table := table
    tableAt := now
    open_ := true
    plans := Vector.replicate 2 none }

/-- R101: the table of a whole window is kept. -/
def State.scanEnded (s : State) (c : Fin 16) : State :=
  let lo := s.decibels 10 (distAt (s.scanTable c) s.fe.chans[c].kL)
  let hi := lo.2.decibels 10 (distAt (s.scanTable c) s.fe.chans[c].kH)
  let sp := hi.2.spectrumOf (s.scanTable c)
  (sp.2.onScan c fun k => k.ended (s.scanTable c) s.awakeNs s.clk.now lo.1 hi.1 sp.1).warnCond c .scanOverdue false

theorem scanEnded_scan : ∃ k lo hi sp,
    (s.scanEnded c).fe.scans[c] = Scan.ended k (s.scanTable c) s.awakeNs s.clk.now lo hi sp := by
  unfold State.scanEnded
  extract_lets lo hi sp
  refine ⟨sp.2.fe.scans[c], lo.1, hi.1, sp.1, ?_⟩
  rw [show ∀ x : State, (x.warnCond c .scanOverdue false).fe.scans = x.fe.scans from
    fun x => (State.warnCond_same (w := maskBut .scans) _ _ _ rfl .refl).only, onScan_self]

theorem scanEnded_clk : (s.scanEnded c).clk = s.clk :=
  (State.warnCond_same (w := maskBut .clk) _ _ _ rfl (State.onScan_same _ _ rfl (State.spectrumOf_same _ rfl
    (State.decibels_same _ _ rfl (State.decibels_same _ _ rfl .refl))))).only

/-- R100: the end of a resumed pause. -/
theorem completes_scanComplete {P : State → Prop} (hservice : s.phase = .service) (hresumed : s.fe.scans[c].resumed = true)
    (hP : P (if s.fe.scans[c].win.length != 4096 then (s.at t).onScan c fun k => { k with resumed := false, win := [] }
      else (s.at t).scanEnded c)) : Completes (.scanComplete t c) s P :=
  .of_when rfl (Bool.and_eq_true_iff.2 ⟨beq_iff_eq.2 hservice, hresumed⟩) hP

/-- Settles O33: a frame boundary counts the frame, a scan falls due, is overdue and pauses as R99 to R102 say, and a whole window gives
the table that is kept while one that lost samples gives none. -/
theorem scannerRunsItsCourse : Obligations.ScannerRunsItsCourse := by
  refine ⟨fun t s hservice hdue => completes_frameBoundary hservice hdue, fun t c s hservice hphase hdue => ?_,
    fun t c s hservice hdue hon hlate => ?_, fun t c s hfirst hnow => completes_scanPauseStart hfirst hnow,
    fun t c s hservice hresumed hwin => ?_, fun t c s hservice hresumed hwin => ?_⟩
  · refine .of_when (f := fun s => s.scanDue c) rfl ?_ scanDue_due
    refine Bool.and_eq_true_iff.2 ⟨Bool.and_eq_true_iff.2 ⟨beq_iff_eq.2 hservice, ?_⟩, ?_⟩
    · exact Bool.or_eq_true_iff.2 (hphase.imp beq_iff_eq.2 beq_iff_eq.2)
    · exact Bool.or_eq_true_iff.2 (hdue.imp decide_eq_true decide_eq_true)
  · refine .of_when (f := fun s => s.warnWhile c .scanOverdue true) rfl ?_ ?_
    · exact Bool.and_eq_true_iff.2 ⟨Bool.and_eq_true_iff.2 ⟨Bool.and_eq_true_iff.2 ⟨beq_iff_eq.2 hservice, hdue⟩, hon⟩,
        decide_eq_true (le_at_now hlate)⟩
    · rw [warnWhile_raised]
      exact congrArg (fun c : Clock => some c.now) (State.warnWhile_same (w := areaMask [.warns, .offered]) c _ true rfl .refl |>.area .clk rfl).symm
  · refine completes_scanComplete hservice hresumed ?_
    rw [hwin, if_neg (by decide), scanEnded_clk]
    obtain ⟨k, lo, hi, sp, hscan⟩ := scanEnded_scan (s := s.at t) (c := c)
    rw [hscan]
    exact ⟨rfl, rfl, rfl, rfl, rfl, rfl⟩
  · refine completes_scanComplete hservice hresumed ?_
    rw [if_pos (by simpa using hwin), onScan_self]
    exact ⟨rfl, rfl, rfl⟩

end Sys2Proof.Machine

/-! The monitors of a wheel channel (R78, R80, R81). -/

namespace Sys2Proof.Machine

variable {r s u : State} {t : Time} {c d : Fin 16}

theorem Completes.of_iteNext {i : Instr} {x : State} {o : Host.Outcome State Fault Refusal} {P : State → Prop} {p : Prop} [Decidable p]
    (h : exec i s = if p then .next x else o) (hp : p) (hP : P x) : Completes i s P := ⟨x, h.trans (if_pos hp), hP⟩

/-! ### What the evaluations of the monitors count (R78) -/

/-- R78: what the evaluations of a channel's monitors have found and counted. -/
def Chan.evals (ch : Chan) : Rat × Nat × Rat × Nat × Nat × Bool :=
  (ch.loopAmp, ch.loopLow, ch.excCur, ch.excBad, ch.cmBad, ch.boRail)

theorem onChan_self (f : Chan → Chan) : (s.onChan c f).fe.chans[c] = f s.fe.chans[c] := updV_self ..

theorem chanFault_evals (prov detect : Nat) (back : Time) :
    (s.chanFault c prov back detect).fe.chans[c].evals = s.fe.chans[c].evals :=
  chanFault_keeps (P := fun ch => ch.evals = s.fe.chans[c].evals) (fun _ _ _ _ h => h) rfl

theorem monitorSeen_evals : (s.monitorSeen c).fe.chans[c].evals = s.fe.chans[c].evals := by
  rw [State.monitorSeen, onChan_self]
  split
  · split <;> rfl
  · rfl

theorem recordFault_chans (cause : Nat) : (s.recordFault c cause).fe.chans = s.fe.chans := rfl

theorem warnCond_chans (k : WarnKind) (on : Bool) : (s.warnCond c k on).fe.chans = s.fe.chans :=
  (State.warnCond_same (w := maskBut .chans) _ _ _ rfl .refl).only

/-- R82: the monitors look at a fault that stands. -/
theorem monitorSeen_faultStands {cause : Nat} {suspect : Time} (h : s.faultStands c cause suspect) :
    (s.monitorSeen c).faultStands c cause suspect := by
  obtain ⟨hphase, hfault, hcause, hcum, hlow⟩ := h
  have hsome : s.fe.chans[c].fault.isSome = true := by
    cases hf : s.fe.chans[c].fault with
    | none => rw [hf] at hfault; cases hfault
    | some f => rfl
  have hself := onChan_self (s := s) (c := c) fun ch =>
    if ch.fault.isSome then
      (if ch.monitorsIn then { ch with quietSince := some (ch.quietSince.getD s.clk.now) }
      else { ch with quietSince := none, phase := .faulted, recal := false })
    else { ch with quietSince := none }
  rw [if_pos hsome] at hself
  rw [State.faultStands, State.monitorSeen, hself]
  split
  · exact ⟨hphase, hfault, hcause, hcum, hlow⟩
  · exact ⟨rfl, hfault, hcause, hcum, hlow⟩

/-! ### An evaluation (R78, R80) -/

theorem report_fault {ch : Chan} (cause : Nat) (h : ch.fault = none) : (ch.report cause).fault = none := by
  rw [Chan.report, h]
  rfl

/-- R78, R80: an evaluation takes what it found by `f`, reports by `g`, and faults the channel. -/
def State.evaluated (r : State) (c : Fin 16) (f : Chan → Chan) (reports : Bool) (g : State → Chan → Chan) (faults : Bool)
    (cause : Nat) (back : Time) : State :=
  (((r.onChan c f).when reports fun s => s.onChan c (g s)).when faults fun s => s.chanFault c cause back).monitorSeen c

section
variable {f : Chan → Chan} {g : State → Chan → Chan} {reports faults : Bool} {cause : Nat} {back : Time}

theorem evaluated_evals (hg : ∀ s ch, (g s ch).evals = ch.evals) :
    (r.evaluated c f reports g faults cause back).fe.chans[c].evals = (f r.fe.chans[c]).evals := by
  rw [State.evaluated, monitorSeen_evals]
  have hreport : ((r.onChan c f).when reports fun s => s.onChan c (g s)).fe.chans[c].evals = (f r.fe.chans[c]).evals := by
    cases reports with
    | false => exact congrArg Chan.evals (onChan_self f)
    | true =>
      rw [when_of rfl, onChan_self, hg, onChan_self]
  cases faults with
  | false => exact hreport
  | true => exact (chanFault_evals ..).trans hreport

theorem evaluated_stands (hf : (f r.fe.chans[c]).fault = none) (hg : ∀ s ch, ch.fault = none → (g s ch).fault = none)
    (hfaults : faults = true) : (r.evaluated c f reports g faults cause back).faultStands c cause (r.tbNow - back) := by
  rw [State.evaluated, when_of hfaults]
  refine monitorSeen_faultStands ?_
  cases reports with
  | false => exact chanFault_stands (s := r.onChan c f) ((congrArg Chan.fault (onChan_self f)).trans hf)
  | true =>
    refine chanFault_stands (s := (r.onChan c f).onChan c (g (r.onChan c f))) ?_
    rw [onChan_self, onChan_self]
    exact hg _ _ hf

end

/-! ### The stages of a calibration leave the time base -/

theorem calRun_tbNow : (s.calRun c).tbNow = s.tbNow := by
  rw [State.tbNow, calRun_clk]
  rfl

/-! ### The loop monitor -/

/-- R78: what an amplitude found by a loop evaluation leaves. -/
def Chan.loopSeen (ch : Chan) (now : Time) (amp : Rat) (out : Bool) (low : Nat) : Chan :=
  { ch with
    loopAmp := amp
    loopLow := low
    loopOut := out
    mask := ch.mask.map fun m => { m with loops := evalsPut now m.until_ amp m.loops } }

/-- R78: a loop evaluation; `low` counts those below the floor. -/
def State.loopJudged (r : State) (c : Fin 16) (amp : Rat) (out : Bool) (low : Nat) : State :=
  r.evaluated c (fun ch => ch.loopSeen r.clk.now amp out low) (low == 2)
    (fun s ch => { ch.report 2 with lossAt := some s.clk.now }) (decide (2 ≤ low)) 2 (us 16)

/-- R78: whether an amplitude lies below the floor of its channel. -/
def State.loopOutside (r : State) (c : Fin 16) (amp : Rat) : Bool := decide (amp < (r.loopFloor c : Rat) / 100 * r.fe.chans[c].aCal)

theorem completes_loopMonitorEval {amp : Rat} {n : Nat} {P : State → Prop} (hr : r = (s.at t).calRun c) (hmon : r.monitored c = true)
    (hn : 8 ≤ n)
    (hP : ∀ wide, P ((r.loopJudged c amp (r.loopOutside c amp)
      (if r.loopOutside c amp then r.fe.chans[c].loopLow + 1 else 0)).warnCond c .loopRange wide)) :
    Completes (.loopMonitorEval t c amp n) s P := by
  subst hr
  exact .of_iteNext rfl (Bool.and_eq_true_iff.2 ⟨hmon, decide_eq_true hn⟩) (hP _)

theorem loopJudged_evals (amp : Rat) (out : Bool) (low : Nat) : (r.loopJudged c amp out low).fe.chans[c].evals =
    (r.fe.chans[c].loopSeen r.clk.now amp out low).evals := evaluated_evals fun _ _ => rfl

theorem loopJudged_stands {amp : Rat} {out : Bool} {low : Nat} (hfault : r.fe.chans[c].fault = none) (hlow : 2 ≤ low) :
    (r.loopJudged c amp out low).faultStands c 2 (r.tbNow - us 16) :=
  evaluated_stands hfault (fun _ _ h => report_fault _ h) (decide_eq_true hlow)

/-! ### The excitation current -/

/-- R78: what a current leaves of its channel. -/
def Chan.currentSeen (ch : Chan) (now : Time) (cur : Rat) (out : Bool) (bad : Nat) : Chan :=
  { ch with
    excCur := cur
    excBad := bad
    excOut := out
    mask := ch.mask.map fun m => { m with curs := evalsPut now m.until_ cur m.curs } }

/-- R78: an evaluation of the excitation current; `bad` counts those outside the limits. -/
def State.currentJudged (r : State) (c : Fin 16) (cur : Rat) (low high : Bool) (bad : Nat) : State :=
  r.evaluated c (fun ch => ch.currentSeen r.clk.now cur (low || high) bad) (bad == 4)
    (fun s ch => { ch.report (if high then 5 else 4) with excOpenAt := if high then ch.excOpenAt else some s.clk.now })
    (decide (4 ≤ bad)) (if high then 5 else 4) (us 50)

def State.currentLow (r : State) (c : Fin 16) (cur : Rat) : Bool :=
  decide (cur < (r.excCurrentMin c : Rat) / 100 * r.fe.chans[c].iCal)

def State.currentHigh (r : State) (c : Fin 16) (cur : Rat) (limiter : Bool) : Bool :=
  limiter || decide ((r.excCurrentMax c : Rat) / 100 * r.fe.chans[c].iCal < cur)

theorem completes_excCurrentEval {cur : Rat} {lim : Bool} {P : State → Prop} (hr : r = (s.at t).calRun c)
    (hmon : r.monitored c = true)
    (hP : ∀ wide, P ((r.currentJudged c cur (r.currentLow c cur) (r.currentHigh c cur lim)
      (if r.currentLow c cur || r.currentHigh c cur lim then r.fe.chans[c].excBad + 1 else 0)).warnCond c .currentRange wide)) :
    Completes (.excCurrentEval t c cur lim) s P := by
  subst hr
  exact .of_iteNext rfl hmon (hP _)

theorem currentOut_iff {cur : Rat} {lim : Bool} : (r.currentLow c cur || r.currentHigh c cur lim) = true ↔
    lim = true ∨ cur < (r.excCurrentMin c : Rat) / 100 * r.fe.chans[c].iCal ∨
      (r.excCurrentMax c : Rat) / 100 * r.fe.chans[c].iCal < cur := by
  rw [State.currentLow, State.currentHigh, Bool.or_eq_true_iff, Bool.or_eq_true_iff, decide_eq_true_iff, decide_eq_true_iff]
  exact or_left_comm

theorem currentJudged_evals (cur : Rat) (low high : Bool) (bad : Nat) : (r.currentJudged c cur low high bad).fe.chans[c].evals =
    (r.fe.chans[c].currentSeen r.clk.now cur (low || high) bad).evals := evaluated_evals fun _ _ => rfl

theorem currentJudged_stands {cur : Rat} {low high : Bool} {bad : Nat} (hfault : r.fe.chans[c].fault = none) (hbad : 4 ≤ bad) :
    (r.currentJudged c cur low high bad).faultStands c (if high then 5 else 4) (r.tbNow - us 50) :=
  evaluated_stands hfault (fun _ _ h => report_fault _ h) (decide_eq_true hbad)

/-! ### The common mode -/

/-- R78: an evaluation of the common mode; `bad` counts those outside the limits. -/
def State.modeJudged (r : State) (c : Fin 16) (out : Bool) (bad : Nat) : State :=
  r.evaluated c (fun ch => { ch with cmBad := bad, cmOut := out }) (bad == 4) (fun _ ch => ch.report 3) (decide (4 ≤ bad)) 3 (us 16)

theorem completes_commonModeEval {volts vafe : Rat} {P : State → Prop} (hr : r = (s.at t).calRun c)
    (hmon : r.monitoredDc c = true)
    (hP : P (r.modeJudged c (decide (volts < 1 / 2 ∨ vafe - 1 / 2 < volts))
      (if decide (volts < 1 / 2 ∨ vafe - 1 / 2 < volts) then r.fe.chans[c].cmBad + 1 else 0))) :
    Completes (.commonModeEval t c volts vafe) s P := by
  subst hr
  exact .of_iteNext rfl hmon hP

/-! ### The burn-out monitor -/

/-- R78, R80: a burn-out evaluation, up to what it says of the cause of a fault that stands. -/
def State.burnoutJudged (r : State) (c : Fin 16) (rail : Bool) : State :=
  (r.onChan c fun ch => if rail && r.fe.chans[c].burn != 0 then { ch.report 1 with boRail := rail } else { ch with boRail := rail }).when rail
    fun s => s.chanFault c 1 (match r.fe.scans[c].pause with
      | some p => r.clk.now - p
      | none => us 64)

/-- R81: what a burn-out evaluation says of the cause of a fault that stands. -/
def State.burnoutLate (s : State) (c : Fin 16) (late : Bool) : State :=
  (s.when late fun s => (s.onChan c fun ch => { ch with faultCause := 1 }).recordFault c 1).monitorSeen c

theorem completes_burnoutEval {share : Rat} {P : State → Prop} (hr : r = (s.at t).calRun c)
    (hmon : r.monitoredDc c = true)
    (hP : ∀ late, (r.fe.chans[c].fault = none → late = false) → P ((r.burnoutJudged c (decide (1 / 2 < share))).burnoutLate c late)) :
    Completes (.burnoutEval t c share) s P := by
  subst hr
  refine .of_iteNext rfl hmon (hP _ fun hnone => ?_)
  rw [hnone]

theorem modeJudged_evals (out : Bool) (bad : Nat) : (r.modeJudged c out bad).fe.chans[c].evals =
    { r.fe.chans[c] with cmBad := bad, cmOut := out : Chan }.evals := evaluated_evals fun _ _ => rfl

theorem modeJudged_stands {out : Bool} {bad : Nat} (hfault : r.fe.chans[c].fault = none) (hbad : 4 ≤ bad) :
    (r.modeJudged c out bad).faultStands c 3 (r.tbNow - us 16) :=
  evaluated_stands hfault (fun _ _ h => report_fault _ h) (decide_eq_true hbad)

theorem burnoutJudged_rail (rail : Bool) : (r.burnoutJudged c rail).fe.chans[c].boRail = rail := by
  have hseen {rail : Bool} : (r.onChan c fun ch => if rail && r.fe.chans[c].burn != 0 then { ch.report 1 with boRail := rail }
      else { ch with boRail := rail }).fe.chans[c].boRail = rail := by
    rw [onChan_self]
    split <;> rfl
  cases rail with
  | false => exact hseen
  | true => exact chanFault_keeps (P := fun ch => ch.boRail = true) (fun _ _ _ _ h => h) hseen

theorem burnoutLate_rail (late : Bool) : (s.burnoutLate c late).fe.chans[c].boRail = s.fe.chans[c].boRail := by
  have h : (s.burnoutLate c late).fe.chans[c].evals = s.fe.chans[c].evals := by
    rw [State.burnoutLate, monitorSeen_evals]
    cases late with
    | false => rfl
    | true =>
      rw [when_of rfl, recordFault_chans, onChan_self]
      rfl
  exact congrArg (fun x => x.2.2.2.2.2) h

theorem burnoutJudged_stands (hpause : r.fe.scans[c].pause = none) (hfault : r.fe.chans[c].fault = none) :
    (r.burnoutJudged c true).faultStands c 1 (r.tbNow - us 64) := by
  rw [State.burnoutJudged, when_of rfl, hpause]
  refine chanFault_stands ?_
  rw [onChan_self]
  split
  · exact report_fault 1 hfault
  · exact hfault

/-- What the range warnings change leaves a fault. -/
theorem warnCond_faultStands {cause : Nat} {suspect : Time} {k : WarnKind} {on : Bool} (h : s.faultStands c cause suspect) :
    (s.warnCond c k on).faultStands c cause suspect :=
  faultStands_of_same (w := areaMask [.warns]) (State.warnCond_same _ _ _ rfl .refl) h rfl rfl rfl rfl

/-- R78: a count that one more evaluation outside the limits raises. -/
theorem le_count_of {out : Prop} [Decidable out] {n k : Nat} (hout : out) (hn : k ≤ n) : k + 1 ≤ if out then n + 1 else 0 := by
  rw [if_pos hout]
  omega

/-- Settles O29: each evaluation keeps what it found and counts those outside the limits in a row, the last of which faults the channel
as R78 and R80 say; a fault that stands stays. -/
theorem monitorsCountAndFault : Obligations.MonitorsCountAndFault := by
  refine ⟨fun t c amp n r s hr hmon hn => completes_loopMonitorEval hr hmon hn fun wide => ?_,
    fun t c amp n r s hr hmon hn hout hlow hfault => completes_loopMonitorEval hr hmon hn fun wide => ?_,
    fun t c cur lim r s hr hmon => completes_excCurrentEval hr hmon fun wide => ?_,
    fun t c cur lim r s hr hmon hhigh hbad hfault => completes_excCurrentEval hr hmon fun wide => ?_,
    fun t c cur r s hr hmon hlow hnot hbad hfault => completes_excCurrentEval hr hmon fun wide => ?_,
    fun t c volts vafe r s hr hmon => completes_commonModeEval hr hmon ?_,
    fun t c volts vafe r s hr hmon hout hbad hfault => completes_commonModeEval hr hmon ?_,
    fun t c share r s hr hmon => completes_burnoutEval hr hmon fun late _ => ?_,
    fun t c share r s hr hmon hshare hpause hfault => completes_burnoutEval hr hmon fun late hlate => ?_,
    fun c p d b s hfault => chanFault_of_some hfault⟩
  · have h := loopJudged_evals (r := r) (c := c) amp (r.loopOutside c amp)
      (if r.loopOutside c amp then r.fe.chans[c].loopLow + 1 else 0)
    rw [warnCond_chans]
    exact ⟨congrArg (fun x => x.1) h, (congrArg (fun x => x.2.1) h).trans (if_congr decide_eq_true_iff rfl rfl)⟩
  · rw [← calRun_tbNow (c := c), ← hr]
    exact warnCond_faultStands (loopJudged_stands hfault (le_count_of (decide_eq_true hout) hlow))
  · have h := currentJudged_evals (r := r) (c := c) cur (r.currentLow c cur) (r.currentHigh c cur lim)
      (if r.currentLow c cur || r.currentHigh c cur lim then r.fe.chans[c].excBad + 1 else 0)
    rw [warnCond_chans]
    refine ⟨congrArg (fun x => x.2.2.1) h, (congrArg (fun x => x.2.2.2.1) h).trans (if_congr (currentOut_iff) rfl rfl)⟩
  · have hover : r.currentHigh c cur lim = true := Bool.or_eq_true_iff.2 (hhigh.imp id decide_eq_true)
    rw [← calRun_tbNow (c := c), ← hr, hover]
    exact warnCond_faultStands (currentJudged_stands hfault (le_count_of (Bool.or_true _) hbad))
  · have hover : r.currentHigh c cur false = false := decide_eq_false hnot
    have hunder : r.currentLow c cur = true := decide_eq_true hlow
    rw [← calRun_tbNow (c := c), ← hr, hover, hunder]
    exact warnCond_faultStands (currentJudged_stands hfault (le_count_of (Bool.true_or _) hbad))
  · have h := modeJudged_evals (r := r) (c := c) (decide (volts < 1 / 2 ∨ vafe - 1 / 2 < volts))
      (if decide (volts < 1 / 2 ∨ vafe - 1 / 2 < volts) then r.fe.chans[c].cmBad + 1 else 0)
    exact (congrArg (fun x => x.2.2.2.2.1) h).trans (if_congr decide_eq_true_iff rfl rfl)
  · rw [← calRun_tbNow (c := c), ← hr]
    exact modeJudged_stands hfault (le_count_of (decide_eq_true hout) hbad)
  · rw [burnoutLate_rail, burnoutJudged_rail]
  · rw [← calRun_tbNow (c := c), ← hr, decide_eq_true hshare, hlate hfault]
    exact monitorSeen_faultStands (burnoutJudged_stands hpause hfault)

end Sys2Proof.Machine

/-! Calibration of a channel and its return from a fault (R64, R70, R71, R82, R124). -/

namespace Sys2Proof.Machine

variable {s u : State} {t : Time} {c d : Fin 16} {r : CalReport}

/-! ### The start (R64, R70) -/

/-- R64, R70: what the start of a calibration leaves of its channel. -/
def Chan.calStarted (ch : Chan) (now : Time) (k : Nat × Nat) (r : CalReport) (amp burn : Nat) : Chan :=
  { ch.stepped now k.1 k.2 with
    phase := .calibrating
    calAt := now
    cal := some r
    calStage := 1
    again := false
    excOn := false
    amp := amp
    burn := burn
    raws := []
    invalidRun := 0
    mask := none
    moveEnd := none
    deferred := []
    plan := none
    recal := ch.fault.isSome
    loopLow := 0
    excBad := 0
    cmBad := 0 }

theorem startCal_chan : (s.startCal c r).fe.chans[c] =
    s.fe.chans[c].calStarted s.clk.now (s.startSteps c) r (s.excAmplitude c) (s.burnOut c) := updV_self ..

theorem stepped_steps (ch : Chan) (now : Time) (l h : Nat) : ((ch.stepped now l h).kL, (ch.stepped now l h).kH) = (l, h) := by
  unfold Chan.stepped
  split
  · next hk => rw [hk.1, hk.2]
  · rfl

theorem stepped_fault (ch : Chan) (now : Time) (l h : Nat) : (ch.stepped now l h).fault = ch.fault := by
  unfold Chan.stepped
  split <;> rfl

theorem startSteps_at : (s.at t).startSteps c = s.startSteps c := by
  unfold State.startSteps
  rw [at_nv_chans]
  rfl

/-- R64, R70: the start of a calibration. -/
theorem startCal_effect : (s.startCal c r).fe.chans[c].phase = .calibrating ∧ (s.startCal c r).fe.chans[c].calAt = (s.startCal c r).clk.now ∧
    (s.startCal c r).fe.chans[c].cal = some r ∧ (s.startCal c r).fe.chans[c].calStage = 1 ∧
    (s.startCal c r).fe.chans[c].excOn = false ∧ (s.startCal c r).fe.chans[c].recal = s.fe.chans[c].fault.isSome ∧
    ((s.startCal c r).fe.chans[c].kL, (s.startCal c r).fe.chans[c].kH) = s.startSteps c ∧
    (s.startCal c r).fe.chans[c].fault = s.fe.chans[c].fault := by
  rw [startCal_chan]
  exact ⟨rfl, rfl, rfl, rfl, rfl, rfl, stepped_steps .., stepped_fault ..⟩

/-! ### The stages (R70, R71) -/

/-- R70: what the end of a stage does. -/
def State.calStaged (s : State) (c : Fin 16) (r : CalReport) : Nat → State
  | 1 => if r.selfCheck then s.onChan c fun ch => { ch with calStage := 2 } else s.calFails c 10
  | 2 => s.calRamp c r
  | 3 => s.calGain c r
  | 4 => s.calAverages c r
  | _ => s

/-- R70: a stage of a calibration whose time has come. -/
theorem calStep_of {n : Nat} (hphase : s.fe.chans[c].phase = .calibrating) (hcal : s.fe.chans[c].cal = some r)
    (hstage : s.fe.chans[c].calStage = n) (hdue : s.fe.chans[c].calAt + calTime c n ≤ s.clk.now) :
    s.calStep c = s.calStaged c r n := by
  subst hstage
  unfold State.calStep
  extract_lets ch
  rw [show ch.cal = some r from hcal]
  dsimp only
  have hrun : (ch.phase != .calibrating || decide (s.clk.now < ch.calAt + calTime c ch.calStage)) = false := by
    rw [show ch.phase = .calibrating from hphase, decide_eq_false (Nat.not_lt.2 hdue)]
    rfl
  rw [hrun, if_neg (by decide)]
  rfl

theorem calTime_one : calTime c 1 = ms 4 := by
  unfold calTime
  rw [if_pos (by decide)]

theorem calTime_two : calTime c 2 = us (if c.val % 2 = 0 then 4000 else 4600) := by
  unfold calTime
  rw [if_neg (by decide), if_pos rfl]

theorem calTime_three : calTime c 3 = us 21200 := by
  unfold calTime
  rw [if_neg (by decide), if_neg (by decide), if_pos rfl]

theorem calTime_four : calTime c 4 = us 23200 := by
  unfold calTime
  rw [if_neg (by decide), if_neg (by decide), if_neg (by decide)]

theorem calStep_of_none (hcal : s.fe.chans[c].cal = none) : s.calStep c = s := by
  unfold State.calStep
  extract_lets ch
  rw [show ch.cal = none from hcal]

/-- R64, R71: the ramp drives the channel at the amplitude found. -/
theorem calRamp_effect {a : Nat} {red : Bool} (hamp : ampChoice r (s.excAmplitude c) (s.excOverridden c) = some (a, red)) :
    (s.calRamp c r).fe.chans[c].excOn = true ∧ (s.calRamp c r).fe.chans[c].amp = a ∧ (s.calRamp c r).fe.chans[c].calStage = 3 := by
  rw [State.calRamp, hamp]
  dsimp only
  rw [show ∀ x : State, (x.warnWhile c .amplitudeReduced red).fe.chans = x.fe.chans from
    fun x => (State.warnWhile_same (w := maskBut .chans) _ _ _ rfl .refl).only, onChan_self]
  exact ⟨rfl, rfl, rfl⟩

/-- R71: the gain search of a channel without a fault. -/
theorem calGain_effect {g : Nat} (hfault : s.fe.chans[c].fault = none)
    (hg : g = if s.senseGain c = 255 then gainSearch r else s.senseGain c) (hgood : gainFails r g = false) :
    (s.calGain c r).fe.chans[c].gain = g ∧ (s.calGain c r).fe.chans[c].calStage = 4 := by
  unfold State.calGain
  extract_lets n return_ again g'
  have hret : return_ = false := by
    dsimp only [return_]
    rw [hfault]
    rfl
  have hg' : g' = g := by
    dsimp only [g']
    rw [hret, hg]
    by_cases h : s.senseGain c = 255
    · rw [h]
      rfl
    · rw [if_pos (by simpa using h), if_neg h]
  rw [hg', hgood, if_neg (by decide), onChan_self]
  exact ⟨rfl, rfl⟩

/-! ### A self-check that fails (R71, R80) -/

/-- R70, R71: a calibration that has failed has no stages left. -/
theorem calRun_of_selfCheck (hphase : s.fe.chans[c].phase = .calibrating) (hcal : s.fe.chans[c].cal = some r)
    (hstage : s.fe.chans[c].calStage = 1) (hdue : s.fe.chans[c].calAt + ms 4 ≤ s.clk.now) (hfault : s.fe.chans[c].fault = none)
    (hcheck : r.selfCheck = false) : s.calRun c = s.chanFault c 10 0 := by
  have hstep : s.calStep c = s.chanFault c 10 0 := by
    rw [calStep_of hphase hcal hstage (calTime_one ▸ hdue), State.calStaged, hcheck, if_neg (by decide), State.calFails, hfault, if_neg (by decide)]
  have hnone : (s.chanFault c 10 0).fe.chans[c].cal = none := by
    obtain ⟨hchans, -, -⟩ := headFaulted_effect (s := s.faultMarked c 10 0 0) (h := headOf c) (s.tbNow - 0)
    rw [chanFault_of_none hfault, hchans, faultMarked_chan]
    rfl
  rw [State.calRun, hstep, calStep_of_none hnone, calStep_of_none hnone, calStep_of_none hnone]

/-! ### The end (R70, R82, R124) -/

theorem enterService_due : (s.enterService c).eng.proofs[c].due = true ∧ (s.enterService c).fe.scans[c].due = true :=
  ⟨congrArg Proof.due (updV_self ..), congrArg Scan.due (updV_self ..)⟩

theorem enterService_chans : (s.enterService c).fe.chans = s.fe.chans := rfl

theorem carryPresence_haveB0 (h : s.eng.dets[c].haveB0 = true) : (s.carryPresence c).eng.dets[c].haveB0 = true :=
  (congrArg Det.haveB0 (updV_self ..)).trans h

/-- R124: the baseline check leaves a baseline. -/
theorem baselineCheck_haveB0 (stored : Option (Cx × Cx)) : (s.baselineCheck c stored).eng.dets[c].haveB0 = true := by
  unfold State.baselineCheck
  extract_lets b x mL mH f y fresh take
  split
  · exact congrArg Det.haveB0 (updV_self ..)
  · split
    · exact carryPresence_haveB0 (congrArg Det.haveB0 (updV_self ..))
    · exact congrArg Det.haveB0 (updV_self ..)

theorem calEnds_effect : (s.calEnds c).fe.chans[c].phase = .inService ∧ (s.calEnds c).fe.chans[c].amp = s.fe.chans[c].amp ∧
    (s.calEnds c).fe.chans[c].gain = s.fe.chans[c].gain ∧ (s.calEnds c).fe.chans[c].aCal = s.fe.chans[c].aCal ∧
    (s.calEnds c).fe.chans[c].iCal = s.fe.chans[c].iCal ∧ (s.calEnds c).fe.chans[c].fault = none ∧
    (s.calEnds c).eng.proofs[c].due = true ∧ (s.calEnds c).fe.scans[c].due = true ∧ (s.calEnds c).eng.dets[c].haveB0 = true := by
  unfold State.calEnds
  extract_lets n ch again stored s1 s2 s3
  have hcheck : Same (areaMask [.nvChans, .dets, .engOut, .freeCount]) (s2.enterService c) s3 := State.baselineCheck_same _ _ rfl .refl
  have hend : Same (areaMask [.passages, .permits, .amon]) s3 ((s3.headReturns (headOf c)).requalify.amonRefresh) :=
    State.amonRefresh_same rfl (State.requalify_same rfl (State.headReturns_same _ rfl .refl))
  have hchan : s2.fe.chans[c] = { s.fe.chans[c] with
      phase := .inService
      cal := none
      calStage := 0
      fault := none
      faultCause := 0
      recal := false
      invalidRun := 0
      lossAt := none
      excOpenAt := none
      quietSince := none
      loopOut := false
      excOut := false } := updV_self ..
  have hchans : _ = _ := (hend.area .chans rfl).trans (hcheck.area .chans rfl)
  have hproofs : _ = _ := (hend.area .proofs rfl).trans (hcheck.area .proofs rfl)
  have hscans : _ = _ := (hend.area .scans rfl).trans (hcheck.area .scans rfl)
  have hdets : _ = _ := hend.area .dets rfl
  obtain ⟨hproof, hscan⟩ := enterService_due (s := s2) (c := c)
  rw [hchans, hproofs, hscans, hdets, enterService_chans, hchan]
  exact ⟨rfl, rfl, rfl, rfl, rfl, rfl, hproof, hscan, baselineCheck_haveB0 ..⟩

theorem fault_of_mayReturn (h : s.mayReturn c = true) : s.fe.chans[c].fault.isSome = true := by
  simp only [State.mayReturn, Bool.and_eq_true] at h
  obtain ⟨⟨⟨⟨-, hfault⟩, -⟩, -⟩, -⟩ := h
  exact hfault

theorem calRun_feOn : (s.calRun c).feOn = s.feOn := by
  have h : Same (areaMask faultAreas) s (s.calRun c) := State.calRun_same c rfl .refl
  have hpower : _ = _ := h.area .power rfl
  have hphase : _ = _ := h.area .phase rfl
  rw [State.feOn, hpower, hphase]
  rfl

/-- Settles O31: a calibration starts with the drive off and takes the stages of R70 in turn; a self-check that fails is cause 10, and
150 ms after its start the channel enters service. -/
theorem channelsCalibrate : Obligations.ChannelsCalibrate := by
  refine ⟨fun t c r s hon henabled hoff hrefs => ?_, fun t c r s hreturn horder => ?_, fun c r s hphase hcal hstage hdue hcheck => ?_,
    fun c r a red s hphase hcal hstage hdue hamp => ?_, fun c r g s hphase hcal hstage hdue hfault hg hgood => ?_,
    fun c r s hphase hcal hstage hdue => ?_, fun t c r s hphase hcal hstage hdue hfault hcheck => ?_,
    fun t c r s hr hon hphase hstage hdue hfirst => ?_⟩
  · refine .of_when (f := fun s => s.startCal c r) rfl ?_ ?_
    · exact Bool.and_eq_true_iff.2 ⟨Bool.and_eq_true_iff.2 ⟨Bool.and_eq_true_iff.2 ⟨hon, henabled⟩, beq_iff_eq.2 hoff⟩,
        decide_eq_true hrefs⟩
    · obtain ⟨h1, h2, h3, h4, h5, -, h7, h8⟩ := startCal_effect (s := s.at t) (c := c) (r := r)
      exact ⟨h1, h2, h3, h4, h5, h7.trans startSteps_at, h8⟩
  · refine .of_when (f := fun s => s.startCal c r) rfl ?_ ?_
    · refine Bool.and_eq_true_iff.2 ⟨hreturn, ?_⟩
      exact Bool.or_eq_true_iff.2 (horder.imp beq_iff_eq.2 (congrArg Bool.not))
    · obtain ⟨h1, h2, h3, h4, h5, h6, h7, h8⟩ := startCal_effect (s := s.at t) (c := c) (r := r)
      exact ⟨h1, h2, h3, h4, h5, h6.trans (fault_of_mayReturn hreturn), h7.trans startSteps_at, h8⟩
  · rw [calStep_of hphase hcal hstage (calTime_one ▸ hdue), State.calStaged, hcheck, if_pos rfl, onChan_self]
  · rw [calStep_of hphase hcal hstage (calTime_two ▸ hdue)]
    exact calRamp_effect hamp
  · rw [calStep_of hphase hcal hstage (calTime_three ▸ hdue)]
    exact calGain_effect hfault hg hgood
  · rw [calStep_of hphase hcal hstage (calTime_four ▸ hdue)]
    have hchan : ((s.calAverages c r).fe.chans[c]) = { s.fe.chans[c] with
      aCal := r.aCal
      iCal := r.iCal
      aRefSqL := r.aRefLow * r.aRefLow
      aRefSqH := r.aRefHigh * r.aRefHigh
      loopAmp := r.aCal
      excCur := r.iCal
      calStage := 5 } := updV_self ..
    rw [State.calStaged, hchan]
    exact ⟨rfl, rfl, rfl⟩
  · have hrun : (s.at t).calRun c = (s.at t).chanFault c 10 0 :=
      calRun_of_selfCheck (s := s.at t) hphase hcal hstage (le_at_now hdue) hfault hcheck
    have hstands : ((s.at t).chanFault c 10 0).faultStands c 10 (s.at t).tbNow := chanFault_stands (s := s.at t) hfault
    refine .of_when_not rfl ?_ ?_
    · obtain ⟨hphase', -⟩ := hstands
      rw [hrun, hphase', show ∀ b, (b && (ChanPhase.faulted == .calibrating)) = false from fun b => Bool.and_false b,
        Bool.false_and, Bool.false_and, Bool.false_and]
    · rw [hrun]
      exact hstands
  · subst hr
    have hnow : ((s.at t).calRun c).fe.chans[c].calAt + ms 150 ≤ ((s.at t).calRun c).clk.now := by
      rw [calRun_clk]
      exact le_at_now hdue
    refine .of_when (f := fun s => s.calEnds c) rfl ?_ calEnds_effect
    rw [calRun_feOn, hphase, hstage, hfirst, show (s.at t).feOn = true from hon, decide_eq_true hnow]
    rfl

end Sys2Proof.Machine

/-! Fast samples and the presence decision (R68, R69, R77, R126). -/

namespace Sys2Proof.Machine

variable {r s u : State} {t : Time} {c d : Fin 16}

/-! ### The decision on one valid sample (R126) -/

section
variable {x : Det} {y : Seen} {k : Levels}

theorem judge_below (hp : x.present = false) (hlow : reaches y.ecSq k.onset = false) : x.judge y k = (x, []) := by
  unfold Det.judge
  rw [hp, if_pos (by decide), hlow, if_neg (by decide)]

theorem judge_onset (hp : x.present = false) (hon : reaches y.ecSq k.onset = true) :
    x.judge y k = ((x.began y.stamp).gather y k.release k.confirm, [(.onset, y.stamp, y.blanked)]) := by
  unfold Det.judge
  rw [hp, if_pos (by decide), hon, if_pos rfl]

/-- R126: the seventh sample in a row below ReleaseLevel. -/
theorem judge_end (hp : x.present = true) (hlow : reaches y.ecSq k.release = false) (hrun : x.run = 6)
    (hno : y.confirms k.confirm = false) :
    (x.judge y k).1.present = false ∧ ∃ b, (x.judge y k).2 = [(if x.confirmed then .endd else .withdraw, x.runStart, b)] := by
  unfold Det.judge
  rw [hp, if_neg (by decide)]
  extract_lets d1 conf d2 out1 low d3
  have hconf : conf = false := by
    dsimp only [conf]
    rw [hno, Bool.and_false]
  have hd2 : d2 = d1 := if_neg (by rw [hconf]; decide)
  have hout1 : out1 = [] := if_neg (by rw [hconf]; decide)
  have hlow' : low = true := congrArg Bool.not hlow
  have hd3 : d3.run = 7 ∧ d3.runStart = x.runStart ∧ d3.confirmed = x.confirmed := by
    have hrun2 : d2.run = 6 := (congrArg Det.run hd2).trans hrun
    dsimp only [d3]
    rw [if_pos hlow', hrun2, hd2]
    exact ⟨rfl, rfl, rfl⟩
  obtain ⟨hrun3, hstart, hconfirmed⟩ := hd3
  rw [if_pos (Bool.and_eq_true_iff.2 ⟨hlow', beq_iff_eq.2 hrun3⟩), hout1, hstart, hconfirmed]
  exact ⟨rfl, _, rfl⟩

end

theorem ite_of {P : State → Prop} {p : Prop} [Decidable p] (hs : P s) (hu : P u) : P (if p then s else u) := by
  split
  · exact hs
  · exact hu

/-! ### The raw samples taken (R68, R74) -/

theorem rawWords_length (l : List RawIn) : (s.rawWords c l).1.length = l.length := by
  have hfold (l : List RawIn) (a : Time × List (Time × RawWord) × State) :
      (l.foldl (fun (a : Time × List (Time × RawWord) × State) r =>
        let w := a.2.2.rawWord c a.1 r
        (a.1 + 500, a.2.1 ++ [(a.1, w.1)], w.2)) a).2.1.length = a.2.1.length + l.length := by
    induction l generalizing a with
    | nil => rfl
    | cons x l ih =>
      rw [List.foldl_cons, ih, List.length_append, List.length_singleton, List.length_cons]
      omega
  exact (hfold l _).trans (Nat.zero_add _)

/-- R68: a channel has taken samples at an instant, and holds `n` of them. -/
def Chan.took (ch : Chan) (now : Time) (n : Nat) : Prop := ch.rawAt = now ∧ ch.raws.length = n

theorem discarded_took {ch : Chan} {now now' tbNow back : Time} {n : Nat} {f : ChanFault} (h : ch.took now n) :
    (ch.faulted now' tbNow back f).took now n := by
  obtain ⟨hat, hlen⟩ := h
  exact ⟨hat, (List.length_mapIdx ..).trans hlen⟩

/-- What a channel keeps of itself where samples are counted: its fault, and its run of invalid samples. -/
def Chan.judgedBy (ch ch' : Chan) : Prop := ch'.fault = ch.fault ∧ ch'.invalidRun = ch.invalidRun

/-- R68: the samples of a channel are taken in, and the last 64 of them kept. -/
theorem takeRaws_chan (l : List RawIn) :
    (s.takeRaws c l).fe.chans[c].took s.clk.now (s.fe.chans[c].raws.length + l.length - (s.fe.chans[c].raws.length + l.length - 64)) ∧
    s.fe.chans[c].judgedBy (s.takeRaws c l).fe.chans[c] := by
  unfold State.takeRaws
  extract_lets r s0 ws ch all n b s1 r'
  have hwords : Same (areaMask [.freeCount, .scans]) s s0 := State.windowTakes_same _ _ rfl (State.rawWords_same _ _ rfl .refl)
  have hchans : s0.fe.chans = s.fe.chans := hwords.area .chans rfl
  have hclk : s0.clk = s.clk := hwords.area .clk rfl
  have hch : ch = s.fe.chans[c] := congrArg (·[c]) hchans
  have h1 : s1.fe.chans[c].took s.clk.now
      (s.fe.chans[c].raws.length + l.length - (s.fe.chans[c].raws.length + l.length - 64)) ∧
      s.fe.chans[c].judgedBy s1.fe.chans[c] := by
    have hall : all.length = s.fe.chans[c].raws.length + l.length := by
      rw [List.length_append, hch, List.length_map, rawWords_length]
    have hself : s1.fe.chans[c] = { ch with raws := all.drop (all.length - 64), rawAt := s0.clk.now, rawCount := n, blankCount := b } :=
      onChan_self _
    rw [hself, hch, hclk]
    refine ⟨⟨rfl, ?_⟩, rfl, rfl⟩
    rw [List.length_drop, hall]
  refine ite_of (P := fun u => u.fe.chans[c].took s.clk.now
      (s.fe.chans[c].raws.length + l.length - (s.fe.chans[c].raws.length + l.length - 64)) ∧
      s.fe.chans[c].judgedBy u.fe.chans[c]) h1 ?_
  · have hround : r'.2.fe.chans = s1.fe.chans := (State.unstatedRound_same (w := maskBut .chans) _ rfl .refl).only
    rw [warnCond_chans, onChan_self, hround]
    exact h1

theorem takeRaws_clk (l : List RawIn) : (s.takeRaws c l).clk = s.clk := (State.takeRaws_same (w := maskBut .clk) _ _ rfl .refl).only

/-! ### The sample that they complete leaves them (R116 to R126) -/

section
variable {now : Time} {n : Nat}

theorem onChan_took {f : Chan → Chan} (hf : ∀ ch, ch.took now n → (f ch).took now n) (h : s.fe.chans[d].took now n) :
    (s.onChan c f).fe.chans[d].took now n := onChan_keeps (P := fun ch => ch.took now n) hf h

theorem took_of_same (h : s.fe.chans[d].took now n) (hsame : Same (maskBut .chans) s u) : u.fe.chans[d].took now n := by
  rw [show u.fe.chans = s.fe.chans from hsame.only]
  exact h

theorem partnerOnset_took (h : s.fe.chans[d].took now n) : (s.partnerOnset c).fe.chans[d].took now n := by
  unfold State.partnerOnset
  extract_lets p s1
  have h1 : s1.fe.chans[d].took now n := took_of_same h (State.abortProof_same _ rfl (State.onScan_same _ _ rfl .refl))
  split
  · exact when_of_imp (P := fun u => u.fe.chans[d].took now n)
      (fun _ => chanFault_keeps (P := fun ch => ch.took now n) (fun _ _ _ _ h => discarded_took h) h1) fun _ => h1
  · exact h1

theorem emit_took (edge : Edge) (stamp : Time) (settling takeover blanked : Bool) (h : s.fe.chans[d].took now n) :
    (s.emit c edge stamp settling takeover blanked).fe.chans[d].took now n := by
  unfold State.emit
  extract_lets x hd out base ending peak cls r cen p s1 s2 s3 s0
  split
  · have hpeak : Same (maskBut .chans) s peak.2 := State.rootRound_same _ _ rfl .refl
    have hcen : Same (maskBut .chans) s cen.2 := by
      dsimp only [cen]
      split
      · exact hpeak
      · split
        · exact State.drawFree_same rfl hpeak
        · exact State.unstatedRound_same _ rfl hpeak
    have h0 : cen.2.fe.chans[d].took now n := took_of_same h hcen
    have h1 : s1.fe.chans[d].took now n := h0
    have h2 : s2.fe.chans[d].took now n := onChan_took (fun _ h => h) h1
    have h3 : Same (maskBut .chans) s2 s3 := State.warnCond_same _ _ _ rfl (State.onStats_same _ _ rfl .refl)
    exact took_of_same h2 (State.when_same h3 fun u hs => State.warn_same _ _ rfl hs)
  · exact when_of_imp (P := fun u => u.fe.chans[d].took now n) (fun _ => partnerOnset_took h) fun _ => h

theorem emitAll_took (l : List (Edge × Time × Bool)) (h : s.fe.chans[d].took now n) : (s.emitAll c l).fe.chans[d].took now n := by
  unfold State.emitAll
  induction l generalizing s with
  | nil => exact h
  | cons r l ih => exact ih (emit_took r.1 r.2.1 false false r.2.2 h)

theorem decideOn_took (f : FastS) (x : Seen) (h : s.fe.chans[d].took now n) : (s.decideOn c f x).fe.chans[d].took now n := by
  unfold State.decideOn
  extract_lets y k r1 r2
  split
  · exact h
  · split
    · split
      · exact emit_took _ _ _ _ _ h
      · exact emitAll_took _ h
    · exact emitAll_took _ h

theorem engineSample_took (valid : Bool) (h : s.fe.chans[d].took now n) : (s.engineSample c valid).fe.chans[d].took now n := by
  unfold State.engineSample
  extract_lets raws stamp y even quiet m w inj z f span s1 seen s2 s3
  split
  · exact took_of_same h (State.shadowSample_same _ _ _ rfl (State.onDet_same _ _ rfl .refl))
  · have h1 : s1.fe.chans[d].took now n := onChan_took (fun _ h => h) h
    split
    · exact h1
    · have h2 : s2.fe.chans[d].took now n := took_of_same (decideOn_took _ _ h1) (State.shadowSample_same _ _ _ rfl .refl)
      have h3 : s3.fe.chans[d].took now n := took_of_same h2 (Same.ite (State.onDet_same _ _ rfl .refl)
        (State.watchProof_same _ _ _ rfl (State.gatherStats_same _ _ rfl (State.track_same _ _ rfl .refl))))
      exact took_of_same h3 (State.amonShow_same _ _ _ rfl (State.amonRefresh_same rfl .refl))

end

/-! ### FAST_SAMPLE -/

/-- R69, R77: the sample that 64 raw samples complete, found bad or not, and what a run of bad ones brings. -/
def State.spanJudged (s : State) (c : Fin 16) (only judged : Bool) (bad : Option Nat) : State :=
  let run := if judged && bad.isSome then s.fe.chans[c].invalidRun + 1 else 0
  let s2 := (s.onChan c fun ch => { ch with invalidRun := run }).heartbeat c
  let s3 := s2.when (decide (19 ≤ run)) fun s => s.chanFault c (invalidCause bad) (us 152)
  s3.when ((s3.engineOf (headOf c)).isSome && (only || s3.decides c || s3.fe.chans[c].fault.isSome)) fun s =>
    s.engineSample c (bad.isNone && (only || s.fe.chans[c].fault.isNone))

/-- R68, R69, R77: the samples of a channel are taken in, and judged once 64 are held. -/
def State.samplesTaken (s : State) (c : Fin 16) (l : List RawIn) : State :=
  let s1 := s.takeRaws c l
  let raws := s1.fe.chans[c].raws
  if raws.length < 64 then s1
  else s1.spanJudged c (s.samplesOnly c)
    (s.fe.chans[c].phase == .inService || s.fe.chans[c].phase == .paused || (s.fe.chans[c].phase == .calibrating && s.samplesOnly c))
    (spanBad (if s.samplesOnly c then raws.map fun w => { w with invalid := false } else raws))

theorem exec_fastSample (l : List RawIn) (hr : r = (s.at t).calRun c) : exec (.fastSample t c l) s =
    if !r.samplesOnly c && (!r.feOn || r.fe.chans[c].phase == .off || r.fe.chans[c].phase == .isolated) then .next r
    else .next (r.samplesTaken c l) := by
  have hdone : exec (.fastSample t c l) s =
      if !r.samplesOnly c && (!r.feOn || r.fe.chans[c].phase == .off || r.fe.chans[c].phase == .isolated) then .next r
      else if (r.takeRaws c l).fe.chans[c].raws.length < 64 then .next (r.takeRaws c l)
      else .next ((r.takeRaws c l).spanJudged c (r.samplesOnly c)
        (r.fe.chans[c].phase == .inService || r.fe.chans[c].phase == .paused ||
          (r.fe.chans[c].phase == .calibrating && r.samplesOnly c))
        (spanBad (if r.samplesOnly c then (r.takeRaws c l).fe.chans[c].raws.map fun w => { w with invalid := false }
          else (r.takeRaws c l).fe.chans[c].raws))) := by
    change execFastSample t c l s = _
    unfold execFastSample
    rw [← hr]
    rfl
  rw [hdone, State.samplesTaken]
  split
  · rfl
  · split <;> rfl

theorem completes_fastSample {l : List RawIn} {P : State → Prop} (hr : r = (s.at t).calRun c)
    (htakes : r.samplesOnly c = true ∨ (r.feOn = true ∧ r.fe.chans[c].phase ≠ .off ∧ r.fe.chans[c].phase ≠ .isolated))
    (hP : P (r.samplesTaken c l)) : Completes (.fastSample t c l) s P := by
  have hruns : ¬ (!r.samplesOnly c && (!r.feOn || r.fe.chans[c].phase == .off || r.fe.chans[c].phase == .isolated)) = true := by
    rcases htakes with honly | ⟨hon, hoff, hiso⟩
    · rw [honly]
      simp
    · rw [hon, beq_false_of_ne hoff, beq_false_of_ne hiso]
      simp
  exact ⟨_, (exec_fastSample l hr).trans (if_neg hruns), hP⟩

theorem spanJudged_clk {only judged : Bool} {bad : Option Nat} : (s.spanJudged c only judged bad).clk = s.clk :=
  (State.when_same (w := maskBut .clk) (State.when_same (State.heartbeat_same _ rfl (State.onChan_same _ _ rfl .refl))
    fun _ h => State.chanFault_same _ _ _ _ rfl h) fun _ h => State.engineSample_same _ _ rfl h).only

theorem spanJudged_took {only judged : Bool} {bad : Option Nat} {now : Time} {n : Nat} (h : s.fe.chans[c].took now n) :
    (s.spanJudged c only judged bad).fe.chans[c].took now n := by
  unfold State.spanJudged
  extract_lets run s2 s3
  have h1 : (s.onChan c fun ch => { ch with invalidRun := run }).fe.chans[c].took now n := onChan_took (fun _ h => h) h
  have h2 : s2.fe.chans[c].took now n := took_of_same h1 (State.heartbeat_same _ rfl .refl)
  have h3 : s3.fe.chans[c].took now n := when_of_imp (P := fun u => u.fe.chans[c].took now n)
    (fun _ => chanFault_keeps (P := fun ch => ch.took now n) (fun _ _ _ _ h => discarded_took h) h2) fun _ => h2
  exact when_of_imp (P := fun u => u.fe.chans[c].took now n) (fun _ => engineSample_took _ h3) fun _ => h3

/-- R77: an invalid sample reaches the streams of its channel alone. -/
theorem engineSample_invalid_same : Same (areaMask [.dets, .proofs]) s (s.engineSample c false) := by
  unfold State.engineSample
  extract_lets
  rw [if_pos (by decide)]
  exact State.shadowSample_same _ _ _ rfl (State.onDet_same _ _ rfl .refl)

/-- R77: the nineteenth bad sample in a row faults the channel. -/
theorem spanJudged_stands {b : Nat} (hfault : s.fe.chans[c].fault = none) (hrun : 18 ≤ s.fe.chans[c].invalidRun) :
    (s.spanJudged c false true (some b)).faultStands c (invalidCause (some b)) (s.tbNow - us 152) := by
  unfold State.spanJudged
  extract_lets run s2 s3
  have hrun' : decide (19 ≤ run) = true := decide_eq_true (Nat.succ_le_succ hrun)
  have hfault2 : s2.fe.chans[c].fault = none := by
    rw [show s2.fe.chans = _ from (State.heartbeat_same (w := maskBut .chans) _ rfl .refl).only, onChan_self]
    exact hfault
  have hclk2 : s2.clk = s.clk := (State.heartbeat_same (w := maskBut .clk) _ rfl (State.onChan_same _ _ rfl .refl)).only
  have hstands : s3.faultStands c (invalidCause (some b)) (s.tbNow - us 152) := by
    rw [show s3 = _ from when_of hrun', show s.tbNow = s2.tbNow by rw [State.tbNow, State.tbNow, hclk2]]
    exact chanFault_stands hfault2
  refine when_of_imp (P := fun u => u.faultStands c (invalidCause (some b)) (s.tbNow - us 152)) (fun _ => ?_) fun _ => hstands
  exact faultStands_of_same (w := areaMask [.dets, .proofs]) engineSample_invalid_same hstands rfl rfl rfl rfl

/-- R68: what a fast sample takes in. -/
theorem completes_fastSample_takes {l : List RawIn} (hr : r = (s.at t).calRun c)
    (htakes : r.samplesOnly c = true ∨ (r.feOn = true ∧ r.fe.chans[c].phase ≠ .off ∧ r.fe.chans[c].phase ≠ .isolated)) :
    Completes (.fastSample t c l) s fun u =>
      u.fe.chans[c].rawAt = u.clk.now ∧
      u.fe.chans[c].raws.length = (r.fe.chans[c].raws.length + l.length) - (r.fe.chans[c].raws.length + l.length - 64) := by
  obtain ⟨htook, -⟩ := takeRaws_chan (s := r) (c := c) l
  refine completes_fastSample hr htakes (ite_of (P := fun u => u.fe.chans[c].rawAt = u.clk.now ∧ u.fe.chans[c].raws.length =
    (r.fe.chans[c].raws.length + l.length) - (r.fe.chans[c].raws.length + l.length - 64)) ?_ ?_)
  · rw [takeRaws_clk]
    exact htook
  · rw [spanJudged_clk, takeRaws_clk]
    exact spanJudged_took htook

/-- Settles O34: the raw samples are taken in and the last 64 kept, the nineteenth bad span in a row faults the channel, and a valid
sample decides as R126 says. -/
theorem fastSamplesFeedTheDetector : Obligations.FastSamplesFeedTheDetector := by
  refine ⟨fun t c l r s hr htakes => completes_fastSample_takes hr htakes,
    fun t c l b r s hr hon hphase hfault honly hrun hlen hbad => ?_,
    fun b hb => ?_, fun d x k hp hlow => judge_below hp hlow, fun d x k hp hon => ?_,
    fun d x k hp hlow hrun hno => judge_end hp hlow hrun hno⟩
  · obtain ⟨-, hfault', hrun'⟩ := takeRaws_chan (s := r) (c := c) l
    refine completes_fastSample hr (.inr ⟨hon, by rw [hphase]; decide, by rw [hphase]; decide⟩) ?_
    have htb : (s.at t).tbNow = (r.takeRaws c l).tbNow := by
      rw [← calRun_tbNow (c := c), ← hr, State.tbNow, State.tbNow, takeRaws_clk]
    rw [State.samplesTaken, honly, if_neg (Nat.not_lt.2 hlen), if_neg Bool.false_ne_true, hbad, hphase, htb]
    exact spanJudged_stands (hfault'.trans hfault) (hrun'.symm ▸ hrun)
  · rcases hb with rfl | rfl
    · rfl
    · rfl
  · rw [judge_onset hp hon]
    exact ⟨rfl, rfl, rfl, rfl⟩

end Sys2Proof.Machine

/-! Noise blocks, stored baselines, drift, the temperature fit and residual presences (R123 to R125, R129, R134, R135). -/

namespace Sys2Proof.Machine

variable {s u : State} {t : Time} {c d : Fin 16}

theorem onStats_self (f : Stats → Stats) : (s.onStats c f).eng.stats[c] = f s.eng.stats[c] := updV_self ..

/-- What a fault of its own keeps of the statistics of a channel, the fault keeps. -/
theorem chanFault_stats {P : Stats → Prop} {prov detect : Nat} {back : Time}
    (hP : ∀ st k, P st → P { st with detectCause := k, reRefd := false }) (h : P s.eng.stats[c]) :
    P (s.chanFault c prov back detect).eng.stats[c] := by
  cases hc : s.fe.chans[c].fault with
  | some f => rwa [chanFault_of_some (by rw [hc]; rfl)]
  | none =>
    have hproof : Same (maskBut .stats) s ((s.abortProof (chanX (headOf c))).abortProof (chanY (headOf c))) :=
      State.abortProof_same _ rfl (State.abortProof_same _ rfl .refl)
    have hhead : Same (maskBut .stats) (s.faultMarked c prov back detect)
        ((s.faultMarked c prov back detect).headFaulted (headOf c) (s.tbNow - back)) :=
      State.amonRefresh_same rfl (State.requalify_same rfl (State.dropForHead_same _ rfl (State.passageHeadFault_same _ _ rfl
        (State.notify_same _ rfl (State.setCumValid_same _ _ rfl .refl)))))
    have hmarked : (s.faultMarked c prov back detect).eng.stats[c] = { s.eng.stats[c] with detectCause := detect, reRefd := false } := by
      rw [← show _ = s.eng.stats from hproof.only]
      exact updV_self ..
    rw [chanFault_of_none hc, show _ = (s.faultMarked c prov back detect).eng.stats from hhead.only, hmarked]
    exact hP _ _ h

/-! ### Noise blocks (R125, R129) -/

/-- R125: the peaks of the last eight blocks once one has ended. -/
def Stats.peaksAfter (st : Stats) : List Rat :=
  if st.blockN = 0 then st.peaksSq else (st.peaksSq ++ [st.blockPeakSq]).drop (st.peaksSq.length - 7)

/-- R125: a block that has ended, and the next that begins. -/
def Stats.blockEnded (st : Stats) (now : Time) (run : Nat) : Stats :=
  { st with
    blockPeakSq := 0, blockN := 0, blockAt := now, peaksSq := st.peaksAfter, resSumL := 0, resSumH := 0, resN := 0,
    noiseRun := run }

/-- R129: the blocks in a row above NoiseFault. -/
def State.noiseRunAfter (s : State) (c : Fin 16) : Nat :=
  if s.eng.stats[c].blockN = 0 then s.eng.stats[c].noiseRun
  else if decide ((s.noiseFault (headOf c) : Rat) * s.noiseFault (headOf c) / 1000000 < s.eng.stats[c].peaksAfter.foldl max 0) then
    s.eng.stats[c].noiseRun + 1
  else 0

/-- R102, R125, R129: a noise block. -/
theorem completes_noiseBlock {P : State → Prop} (hon : s.feOn = true) (hphase : s.fe.chans[c].phase = .inService)
    (hdue : s.eng.stats[c].blockAt + secs 1 ≤ t)
    (hP : ∀ f on, P (((((s.at t).onStats c fun st => st.blockEnded (s.at t).clk.now (s.noiseRunAfter c)).onScan c f).warnWhile c .noise on).when
      (decide (8 ≤ s.noiseRunAfter c)) fun s => s.chanFault c 9 0 2)) :
    Completes (.noiseBlock t c) s P := by
  exact .of_when rfl (Bool.and_eq_true_iff.2 ⟨Bool.and_eq_true_iff.2 ⟨hon, beq_iff_eq.2 hphase⟩, decide_eq_true (le_at_now hdue)⟩)
    (hP _ _)

/-- What a block, or a judgement, keeps that a fault may follow. -/
theorem whenFault_stats {P : Stats → Prop} {b : Bool} {prov detect : Nat} {back : Time}
    (hP : ∀ st k, P st → P { st with detectCause := k, reRefd := false }) (h : P s.eng.stats[c]) :
    P (s.when b fun s => s.chanFault c prov back detect).eng.stats[c] := by
  cases b with
  | false => exact h
  | true => exact chanFault_stats hP h

theorem whenFault_clk {b : Bool} {prov detect : Nat} {back : Time} : (s.when b fun s => s.chanFault c prov back detect).clk = s.clk :=
  (State.when_same (w := maskBut .clk) .refl fun _ h => State.chanFault_same _ _ _ _ rfl h).only

theorem onScan_stats (f : Scan → Scan) : (s.onScan c f).eng.stats = s.eng.stats := rfl

theorem warnWhile_stats (k : WarnKind) (on : Bool) : (s.warnWhile c k on).eng.stats = s.eng.stats :=
  (State.warnWhile_same (w := maskBut .stats) _ _ _ rfl .refl).only

theorem warnWhile_clk (k : WarnKind) (on : Bool) : (s.warnWhile c k on).clk = s.clk :=
  (State.warnWhile_same (w := maskBut .clk) _ _ _ rfl .refl).only

theorem warnWhile_chans (k : WarnKind) (on : Bool) : (s.warnWhile c k on).fe.chans = s.fe.chans :=
  (State.warnWhile_same (w := maskBut .chans) _ _ _ rfl .refl).only

theorem completes_noiseBlock_ends (hon : s.feOn = true) (hphase : s.fe.chans[c].phase = .inService)
    (hdue : s.eng.stats[c].blockAt + secs 1 ≤ t) : Completes (.noiseBlock t c) s fun u =>
      u.eng.stats[c].blockAt = u.clk.now ∧ u.eng.stats[c].blockN = 0 ∧ u.eng.stats[c].peaksSq = s.eng.stats[c].peaksAfter := by
  refine completes_noiseBlock hon hphase hdue fun f on => ?_
  rw [whenFault_clk, warnWhile_clk]
  refine whenFault_stats (P := fun st => st.blockAt = (s.at t).clk.now ∧ st.blockN = 0 ∧ st.peaksSq = s.eng.stats[c].peaksAfter)
    (fun _ _ h => h) ?_
  rw [warnWhile_stats, onScan_stats, onStats_self]
  exact ⟨rfl, rfl, rfl⟩

theorem completes_noiseBlock_faults (hon : s.feOn = true) (hphase : s.fe.chans[c].phase = .inService)
    (hdue : s.eng.stats[c].blockAt + secs 1 ≤ t) (hrun : 8 ≤ s.noiseRunAfter c) (hfault : s.fe.chans[c].fault = none) :
    Completes (.noiseBlock t c) s fun u => u.faultStands c 9 (s.at t).tbNow := by
  refine completes_noiseBlock hon hphase hdue fun f on => ?_
  rw [when_of (decide_eq_true hrun)]
  have htb : (s.at t).tbNow = (((s.at t).onStats c fun st => st.blockEnded (s.at t).clk.now (s.noiseRunAfter c)).onScan c f |>.warnWhile c
      .noise on).tbNow := by
    rw [State.tbNow, State.tbNow, warnWhile_clk]
    rfl
  rw [htb]
  refine chanFault_stands ?_
  rw [warnWhile_chans]
  exact hfault

/-! ### Stored baselines (R124) -/

/-- R123, R124: what BASELINE_STORE does at one channel. -/
def State.storedAndClosed (s : State) (c : Fin 16) : State :=
  (s.when (s.quiet (headOf c)) fun s => s.storeBaseline c).closeHour c

theorem storedAndClosed_keeps {r : State} (hk : Same (areaMask [.nvChans, .stats]) r s) :
    Same (areaMask [.nvChans, .stats]) r (s.storedAndClosed c) :=
  State.closeHour_same _ rfl (State.when_same hk fun _ h => State.storeBaseline_same _ rfl h)

theorem storedAndClosed_same : Same (areaMask [.nvChans, .stats]) s (s.storedAndClosed c) := storedAndClosed_keeps .refl

theorem closeHour_nv : (s.closeHour c).nv.chans = s.nv.chans := (State.closeHour_same (w := maskBut .nvChans) _ rfl .refl).only

theorem storeBaseline_other (h : c ≠ d) : (s.storeBaseline d).nv.chans[c] = s.nv.chans[c] :=
  when_of_imp (P := fun u => u.nv.chans[c] = s.nv.chans[c]) (fun _ => updV_other _ _ h) fun _ => rfl

theorem storedAndClosed_other (h : c ≠ d) : (s.storedAndClosed d).nv.chans[c] = s.nv.chans[c] := by
  rw [State.storedAndClosed, closeHour_nv]
  exact when_of_imp (P := fun u => u.nv.chans[c] = s.nv.chans[c]) (fun _ => storeBaseline_other h) fun _ => rfl

theorem storedAndClosed_b0 (hhave : s.eng.dets[c].haveB0 = true) (hquiet : s.quiet (headOf c) = true) :
    (s.storedAndClosed c).nv.chans[c].b0 = some (s.eng.dets[c].b0L, s.eng.dets[c].b0H) := by
  rw [State.storedAndClosed, closeHour_nv, when_of hquiet, State.storeBaseline, when_of hhave]
  exact congrArg NvChan.b0 (updV_self ..)

theorem quiet_of_same {h : Fin 8} (hsame : Same (areaMask [.nvChans, .stats]) s u) : u.quiet h = s.quiet h := by
  have hdets : u.eng.dets = s.eng.dets := hsame.area .dets rfl
  have hpas : u.pas = s.pas := hsame.area .passages rfl
  have hled : u.led = s.led := hsame.area .ledger rfl
  rw [State.quiet, hdets, hpas, hled]
  rfl

/-- R124: the baseline of every quiet head is stored. -/
theorem storedAll_b0 (hhave : s.eng.dets[c].haveB0 = true) (hquiet : s.quiet (headOf c) = true) :
    (State.eachFin s 16 State.storedAndClosed).nv.chans[c].b0 = some (s.eng.dets[c].b0L, s.eng.dets[c].b0H) := by
  rw [eachFin_eq_each]
  refine each_of_mem_nodup (f := State.storedAndClosed) (I := fun x => x.eng.dets = s.eng.dets ∧ x.quiet (headOf c) = true)
    (Q := fun x => x.nv.chans[c].b0 = some (s.eng.dets[c].b0L, s.eng.dets[c].b0H))
    (fun x d hd hx => ?_) (fun x hx => ?_) (fun x d hd hq => ?_) (List.nodup_finRange 16) (List.mem_finRange c) ⟨rfl, hquiet⟩
  · obtain ⟨hdets, hxquiet⟩ := hx
    exact ⟨(storedAndClosed_same.area .dets rfl).trans hdets, (quiet_of_same storedAndClosed_same).trans hxquiet⟩
  · obtain ⟨hdets, hxquiet⟩ := hx
    rw [← hdets] at hhave ⊢
    exact storedAndClosed_b0 hhave hxquiet
  · exact (congrArg NvChan.b0 (storedAndClosed_other hd.symm)).trans hq

/-- R123, R124: the instant of a store is kept. -/
def State.storeBegun (s : State) : State := { s with eng := { s.eng with storeAt := s.clk.now } }

/-- R123, R124: what BASELINE_STORE does. -/
def State.baselinesStored (s : State) : State := State.eachFin s.storeBegun 16 State.storedAndClosed

theorem baselinesStored_same : Same (areaMask [.nvChans, .stats]) s.storeBegun s.baselinesStored := by
  unfold State.baselinesStored
  exact State.eachFin_same .refl fun _ _ h => storedAndClosed_keeps h

theorem completes_baselineStore (hon : s.feOn = true) (hdue : s.eng.storeAt + secs 3600 ≤ t) : Completes (.baselineStore t) s fun u =>
    u.eng.storeAt = u.clk.now ∧ ∀ c : Fin 16, s.eng.dets[c].haveB0 = true → s.quiet (headOf c) = true →
      u.nv.chans[c].b0 = some (s.eng.dets[c].b0L, s.eng.dets[c].b0H) := by
  refine .of_when (f := State.baselinesStored) rfl (Bool.and_eq_true_iff.2 ⟨hon, decide_eq_true (le_at_now hdue)⟩) ⟨?_, ?_⟩
  · have hclk : _ = _ := (baselinesStored_same (s := s.at t)).area .clk rfl
    have hstore : _ = _ := (baselinesStored_same (s := s.at t)).area .engStore rfl
    rw [hclk, hstore]
    rfl
  · exact fun c hhave hquiet => storedAll_b0 (s := (s.at t).storeBegun) hhave hquiet

/-! ### Drift (R135) -/

/-- R135: whether the baseline of a channel lies beyond the fault limits. -/
def State.driftBad (s : State) (c : Fin 16) (r : Cx × Cx) : Bool :=
  magBeyond (s.eng.dets[c].b0L.normSq / r.1.normSq) (s.driftFaultMag (headOf c)) ||
    magBeyond (s.eng.dets[c].b0H.normSq / r.2.normSq) (s.driftFaultMag (headOf c)) ||
    phaseBeyond (argDeg (cdiv s.eng.dets[c].b0L r.1)) (s.driftFaultPhase (headOf c)) ||
    phaseBeyond (argDeg (cdiv s.eng.dets[c].b0H r.2)) (s.driftFaultPhase (headOf c))

theorem drift_effect (r : Cx × Cx) : (s.drift c r.1 r.2).eng.stats[c].driftAt = s.clk.now ∧
    (s.drift c r.1 r.2).eng.stats[c].driftRun = if s.driftBad c r then s.eng.stats[c].driftRun + 1 else 0 := by
  unfold State.drift
  extract_lets d h qL qH pL pH a b x y beyond bad run s1
  refine whenFault_stats (P := fun st => st.driftAt = s.clk.now ∧ st.driftRun = run) (fun _ _ h => h) ?_
  rw [warnWhile_stats, onStats_self]
  exact ⟨rfl, rfl⟩

theorem drift_clk (r : Cx × Cx) : (s.drift c r.1 r.2).clk = s.clk := (State.drift_same (w := maskBut .clk) _ _ _ rfl .refl).only

theorem completes_driftEvaluation {r : Cx × Cx} (href : s.nv.chans[c].ref = some r) (hon : s.feOn = true)
    (hphase : s.fe.chans[c].phase = .inService) (hquiet : s.quiet (headOf c) = true) (hdue : s.eng.stats[c].driftAt + secs 3600 ≤ t) :
    Completes (.driftEvaluation t c) s fun u => u.eng.stats[c].driftAt = u.clk.now ∧
      u.eng.stats[c].driftRun = if s.driftBad c r then s.eng.stats[c].driftRun + 1 else 0 := by
  refine ⟨_, rfl, ?_⟩
  have href' : (s.at t).nv.chans[c].ref = some r := by rw [at_nv_chans]; exact href
  have hgo : ((s.at t).feOn && (s.at t).fe.chans[c].phase == .inService && (s.at t).quiet (headOf c) &&
      decide ((s.at t).eng.stats[c].driftAt + secs 3600 ≤ (s.at t).clk.now)) = true :=
    Bool.and_eq_true_iff.2 ⟨Bool.and_eq_true_iff.2 ⟨Bool.and_eq_true_iff.2 ⟨hon, beq_iff_eq.2 hphase⟩, hquiet⟩,
      decide_eq_true (le_at_now hdue)⟩
  rw [href']
  dsimp only
  rw [when_of hgo, drift_clk]
  exact drift_effect r

/-! ### The temperature fit (R123) -/

theorem fitChannel_of_nil (hnone : s.eng.stats[c].meansT = []) : s.fitChannel c = s := by
  rw [State.fitChannel, hnone]
  rfl

theorem completes_kappaFit (hon : s.feOn = true) (hdue : s.eng.stats[c].kappaAt + secs 86400 ≤ t) :
    Completes (.kappaFit t c) s fun u =>
      u.eng.stats[c].kappaAt = u.clk.now ∧ (s.eng.stats[c].meansT = [] → u.nv.chans[c] = s.nv.chans[c]) := by
  refine .of_when (f := fun s => (s.onStats c fun st => { st with kappaAt := s.clk.now }).fitChannel c) rfl
    (Bool.and_eq_true_iff.2 ⟨hon, decide_eq_true (le_at_now hdue)⟩) ⟨?_, fun hnone => ?_⟩
  · have hstats (x : State) : (x.fitChannel c).eng.stats = x.eng.stats := (State.fitChannel_same (w := maskBut .stats) _ rfl .refl).only
    have hclk (x : State) : (x.fitChannel c).clk = x.clk := (State.fitChannel_same (w := maskBut .clk) _ rfl .refl).only
    rw [hstats, hclk, onStats_self]
    rfl
  · have hself : ((s.at t).onStats c fun st => { st with kappaAt := (s.at t).clk.now }).eng.stats[c].meansT = [] :=
      (congrArg Stats.meansT (onStats_self _)).trans hnone
    rw [fitChannel_of_nil hself]
    exact congrArg (·[c]) (at_nv_chans s t)

/-- Settles O35: a noise block keeps the last eight peaks and its eighth bad one faults the channel, baselines are stored and drift
judged every hour, the temperature fit runs once a day, and a long presence below WheelFloor is residual. -/
theorem slowStatisticsAct : Obligations.SlowStatisticsAct := by
  refine ⟨fun t c peaks s hon hphase hdue hpeaks => hpeaks ▸ completes_noiseBlock_ends hon hphase hdue,
    fun t c peaks s hon hphase hdue hN hpeaks hnoise hrun hfault => completes_noiseBlock_faults hon hphase hdue ?_ hfault,
    fun t s hon hdue => completes_baselineStore hon hdue, fun t c r s href hon hphase hquiet hdue => completes_driftEvaluation href hon hphase hquiet hdue,
    fun t c s hon hdue => completes_kappaFit hon hdue,
    fun t c s hon hp hq hpeak hlong hsome hset => ?_⟩
  · rw [State.noiseRunAfter, if_neg hN, if_pos]
    · exact Nat.succ_le_succ hrun
    · have hafter : peaks = s.eng.stats[c].peaksAfter := hpeaks
      exact decide_eq_true (hafter ▸ hnoise)
  · refine .of_when (f := fun s => (s.onStats c fun st => { st with residual := true }).warnWhile c .residual true) rfl ?_ ?_
    · rw [show (s.at t).feOn = true from hon, show (s.at t).eng = s.eng from rfl,
        show (s.at t).residualTime (headOf c) = s.residualTime (headOf c) from rfl, hp, hq, hsome,
        show (s.at t).quietSet c _ = true from hset, show reaches _ ((s.at t).wheelFloor (headOf c)) = false from hpeak,
        decide_eq_true hlong]
      rfl
    · refine ⟨?_, ?_⟩
      · rw [warnWhile_stats, onStats_self]
      · rw [warnWhile_raised, warnWhile_clk]

end Sys2Proof.Machine

/-! Warnings, resistive channels and blanking (R84 to R89, R109, R110, R137). -/

namespace Sys2Proof.Machine

variable {s u : State} {t : Time}

/-! ### Warnings (R84, R137) -/

theorem warnAt_warnPut_none (k : WarnKind) (l : List (WarnKind × Time)) : warnAt k (warnPut k none l) = none := by
  have h : (l.filter fun p => p.1 != k).find? (fun p => p.1 == k) = none := by
    simp
  exact congrArg (Option.map (·.2)) h

section
variable {c : Fin 16} {k : WarnKind} {q : Time}

/-- R84: a condition that has stood long enough raises its warning. -/
theorem completes_channelWarning (hsince : warnAt k s.fe.warns[c].since = some q) (hdue : q + secs 1 ≤ t ∨ k = .blankedShare) :
    Completes (.channelWarning t c k) s fun u => warnAt k u.fe.warns[c].raised = some u.clk.now := by
  have hgo : (decide (q + secs 1 ≤ (s.at t).clk.now) || k == .blankedShare) = true :=
    Bool.or_eq_true_iff.2 (hdue.imp (fun h => decide_eq_true (le_at_now h)) beq_iff_eq.2)
  refine ⟨_, rfl, ?_⟩
  rw [show (s.at t).fe = s.fe from rfl, hsince]
  dsimp only
  rw [when_of hgo, warn_raised, show ((s.at t).warn c k).clk = (s.at t).clk from (State.warn_same (w := maskBut .clk) _ _ rfl .refl).only]

/-- R137: a warning whose condition has gone ends. -/
theorem completes_warningHoldExpiry (hraised : warnAt k s.fe.warns[c].raised = some q) (hsince : warnAt k s.fe.warns[c].since = none)
    (hdue : q + secs 60 ≤ t) : Completes (.warningHoldExpiry t c k) s fun u => warnAt k u.fe.warns[c].raised = none := by
  have hgo : decide (q + secs 60 ≤ (s.at t).clk.now) = true := decide_eq_true (le_at_now hdue)
  refine ⟨_, rfl, ?_⟩
  rw [show (s.at t).fe = s.fe from rfl, hraised, hsince]
  dsimp only
  rw [when_of hgo]
  exact (congrArg (warnAt k) (congrArg Warn.raised (updV_self ..))).trans (warnAt_warnPut_none ..)

end

/-! ### Resistive channels (R86 to R89) -/

section
variable {c : Fin 8} {m1 m2 vref : Rat}

/-- R86: what a reading of a resistive channel gives. -/
def State.readOhms (s : State) (c : Fin 8) (m1 m2 vref : Rat) : Rat := tchOhms (bitOf s.tchFourWire c.val) m1 m2 vref

theorem onTch_self (f : Tch → Tch) : (s.onTch c f).fe.tch[c] = f s.fe.tch[c] := updV_self ..

/-- R87: a reading within the range. -/
def State.goodReading (s : State) (c : Fin 8) (ohms : Rat) : State :=
  let k := s.fe.tch[c]
  let r := s.ptTemp ohms
  let s1 := r.2.onTch c fun k' =>
    { k' with
      temp := some r.1
      last := some r.1
      lastAt := s.clk.now
      goodAt := s.clk.now
      goodRun := k.goodRun + 1
      badRun := 0
      faulted := false }
  (s1.when (k.faulted && decide (2 ≤ k.goodRun + 1)) fun s => s.bodyWarnings c).cabinetReading c k.temp

/-- R88: a reading outside it. -/
def State.badReading (s : State) (c : Fin 8) : State :=
  let k := s.fe.tch[c]
  let s1 := s.onTch c fun k' => { k' with lastAt := s.clk.now, badRun := k.badRun + 1, goodRun := 0 }
  s1.when (k.badRun + 1 == 2) fun s => (s.onTch c fun k => { k with temp := none, faulted := true }).bodyWarnings c

/-- R86, R87: a reading that is due reaches its channel. -/
theorem exec_tchReading (hservice : s.phase = .service) (hpower : s.pwr.state ≠ .hibernate) (hrole : s.tchRole c ≠ 0)
    (hdue : s.fe.tch[c].lastAt + (if s.feOn then ms 100 else secs 10) ≤ t) :
    exec (.tchReading t c m1 m2 vref) s =
      if decide (700 ≤ s.readOhms c m1 m2 vref ∧ s.readOhms c m1 m2 vref ≤ 2100) then
        if s.fe.tch[c].faulted && !(s.fe.tch[c].faulted && decide (2 ≤ s.fe.tch[c].goodRun + 1)) then
          .next ((s.at t).onTch c fun k => { k with lastAt := (s.at t).clk.now, goodRun := s.fe.tch[c].goodRun + 1, badRun := 0 })
        else .next ((s.at t).goodReading c (s.readOhms c m1 m2 vref))
      else .next ((s.at t).badReading c) := by
  have hreads : ((s.at t).phase == .service && (s.at t).pwr.state != .hibernate && (s.at t).tchRole c != 0 &&
      decide ((s.at t).fe.tch[c].lastAt + (if (s.at t).feOn then ms 100 else secs 10) ≤ (s.at t).clk.now)) = true :=
    Bool.and_eq_true_iff.2 ⟨Bool.and_eq_true_iff.2 ⟨Bool.and_eq_true_iff.2 ⟨beq_iff_eq.2 hservice, bne_iff_ne.2 hpower⟩,
      bne_iff_ne.2 hrole⟩, decide_eq_true (le_at_now hdue)⟩
  exact if_pos hreads

theorem goodReading_effect (ohms : Rat) : (s.goodReading c ohms).fe.tch[c].temp = some (s.ptTemp ohms).1 ∧
    (s.goodReading c ohms).fe.tch[c].lastAt = (s.goodReading c ohms).clk.now ∧ (s.goodReading c ohms).fe.tch[c].badRun = 0 := by
  unfold State.goodReading
  extract_lets k r s1
  have hsame : Same (areaMask [.warns, .offered]) s1
      ((s1.when (k.faulted && decide (2 ≤ k.goodRun + 1)) fun s => s.bodyWarnings c).cabinetReading c k.temp) :=
    State.cabinetReading_same _ _ rfl (State.when_same .refl fun _ h => State.bodyWarnings_same _ rfl h)
  have htch : _ = _ := hsame.area .tch rfl
  have hclk : _ = _ := hsame.area .clk rfl
  have hround : r.2.clk = s.clk := (State.ptTemp_same (w := maskBut .clk) _ rfl .refl).only
  rw [htch, hclk, show s1.clk = r.2.clk from rfl, hround, show s1.fe.tch[c] = _ from onTch_self _]
  exact ⟨rfl, rfl, rfl⟩

/-- R88: the second bad reading in a row. -/
theorem badReading_effect (hbad : s.fe.tch[c].badRun = 1) : (s.badReading c).fe.tch[c].temp = none ∧
    (s.badReading c).fe.tch[c].faulted = true ∧ (s.badReading c).fe.tch[c].lastAt = (s.badReading c).clk.now := by
  unfold State.badReading
  extract_lets k s1
  rw [when_of (show (k.badRun + 1 == 2) = true by rw [show k.badRun = 1 from hbad]; rfl)]
  have hsame : Same (areaMask [.warns, .offered]) (s1.onTch c fun k => { k with temp := none, faulted := true })
      ((s1.onTch c fun k => { k with temp := none, faulted := true }).bodyWarnings c) := State.bodyWarnings_same _ rfl .refl
  have htch : _ = _ := hsame.area .tch rfl
  have hclk : _ = _ := hsame.area .clk rfl
  rw [htch, hclk, onTch_self, show s1.fe.tch[c] = _ from onTch_self _]
  exact ⟨rfl, rfl, rfl⟩

end

/-! ### Blanking (R109, R110) -/

section
variable {b : Fin 6}

theorem onBlank_self (f : Blank → Blank) : (s.onBlank b f).fe.blank[b] = f s.fe.blank[b] := updV_self ..

theorem blankWindow_self (active : Bool) : (s.blankWindow b active).fe.blank[b].active = active ∧
    (s.blankWindow b active).fe.blank[b].level = s.fe.blank[b].level := by
  unfold State.blankWindow
  extract_lets now
  rw [onBlank_self]
  split
  · next h => exact ⟨(beq_iff_eq.1 h).symm, rfl⟩
  · split
    · next h => exact ⟨h.symm, rfl⟩
    · next h => exact ⟨(Bool.eq_false_iff.2 h).symm, rfl⟩

/-- R109: a source keeps its level, and in service its window follows it. -/
theorem completes_blankingWindowEdge (l : Bool) : Completes (.blankingWindowEdge t b l) s fun u =>
    u.fe.blank[b].level = l ∧ (s.phase = .service → u.fe.blank[b].active = s.blankActive b l) := by
  have hlevel : ((s.at t).onBlank b fun x => { x with level := l }).fe.blank[b].level = l := congrArg Blank.level (onBlank_self _)
  by_cases hservice : s.phase = .service
  · obtain ⟨hactive, hkeeps⟩ := blankWindow_self (s := (s.at t).onBlank b fun x => { x with level := l }) (b := b)
      (((s.at t).onBlank b fun x => { x with level := l }).blankActive b
        ((s.at t).onBlank b fun x => { x with level := l }).fe.blank[b].level)
    refine .of_when (f := fun s => s.blankJudge b) rfl (beq_iff_eq.2 hservice) ⟨hkeeps.trans hlevel, fun _ => hactive.trans ?_⟩
    rw [hlevel]
    rfl
  · exact .of_when_not (f := fun s => s.blankJudge b) rfl (beq_false_of_ne hservice) ⟨hlevel, fun h => absurd h hservice⟩

/-- R110: what a source that is stuck does. -/
def State.blankStuck (s : State) (b : Fin 6) : State :=
  (State.each (s.onBlank b fun b => { b with stuck := true, shortRun := 0 }) (s.selecting b) fun s c =>
    s.warnWhile c .blankStuck true).record codeBlankStuck 0 [BitVec.ofNat 8 b.val]

theorem blankStuck_stuck : (s.blankStuck b).fe.blank[b].stuck = true := by
  have h : Same (maskBut .blank) (s.onBlank b fun b => { b with stuck := true, shortRun := 0 }) (s.blankStuck b) :=
    State.record_same _ _ _ _ rfl (State.each_same .refl fun _ _ h => State.warnWhile_same _ _ _ rfl h)
  rw [show (s.blankStuck b).fe.blank = _ from h.only, onBlank_self]

/-- R110: a source that is no longer stuck. -/
def State.blankRestored (s : State) (b : Fin 6) : State :=
  let s1 := s.onBlank b fun b => { b with stuck := false, shortRun := 0 }
  State.each s1 (s1.selecting b) fun s c =>
    s.warnCond c .blankStuck ((List.finRange 6).any fun b => bitOf (s.blankMask c) b.val && s.fe.blank[b].stuck)

theorem blankRestored_stuck : (s.blankRestored b).fe.blank[b].stuck = false := by
  have h : Same (maskBut .blank) (s.onBlank b fun b => { b with stuck := false, shortRun := 0 }) (s.blankRestored b) :=
    State.each_same .refl fun _ _ h => State.warnCond_same _ _ _ rfl h
  rw [show (s.blankRestored b).fe.blank = _ from h.only, onBlank_self]

end

/-- Settles O32: warnings are raised and end at their times, a resistive channel takes its reading or faults at the second bad one in a
row, and a blanking source follows its level until it is stuck. -/
theorem warningsAndSensorsAct : Obligations.WarningsAndSensorsAct := by
  refine ⟨fun t q c k s hsince hdue => completes_channelWarning hsince hdue,
    fun t q c k s hraised hsince hdue => completes_warningHoldExpiry hraised hsince hdue,
    fun t c m1 m2 vref ohms s hohms hservice hpower hrole hdue hgood hrange => ?_,
    fun t c m1 m2 vref ohms s hohms hservice hpower hrole hdue hbad hrange => ?_,
    fun t b l s => completes_blankingWindowEdge l, fun t b s hservice hactive hfree hlong => ?_,
    fun t b s hstuck hruns => .of_when (f := fun s => s.blankRestored b) rfl
      (Bool.and_eq_true_iff.2 ⟨hstuck, decide_eq_true hruns⟩) blankRestored_stuck⟩
  · have hread : ohms = s.readOhms c m1 m2 vref := hohms
    subst hread
    refine ⟨_, (exec_tchReading hservice hpower hrole hdue).trans ?_, goodReading_effect ..⟩
    rw [if_pos (decide_eq_true hrange), hgood, Bool.false_and, if_neg Bool.false_ne_true]
  · have hread : ohms = s.readOhms c m1 m2 vref := hohms
    subst hread
    refine ⟨_, (exec_tchReading hservice hpower hrole hdue).trans ?_, badReading_effect (s := s.at t) hbad⟩
    have hout : ¬ (700 ≤ s.readOhms c m1 m2 vref ∧ s.readOhms c m1 m2 vref ≤ 2100) := fun h =>
      hrange.elim (not_lt.2 h.1) (not_lt.2 h.2)
    rw [decide_eq_false hout, if_neg (by decide)]
  · refine .of_when (f := fun s => s.blankStuck b) rfl ?_ ⟨blankStuck_stuck, ?_⟩
    · exact Bool.and_eq_true_iff.2 ⟨Bool.and_eq_true_iff.2 ⟨Bool.and_eq_true_iff.2 ⟨beq_iff_eq.2 hservice, hactive⟩,
        congrArg Bool.not hfree⟩, decide_eq_true (lt_of_lt_of_le hlong (le_at_now (Nat.le_refl t)))⟩
    · exact ⟨_, List.mem_append_right _ (List.mem_singleton_self _), rfl, rfl⟩

end Sys2Proof.Machine

/-! Requests of the dictionary protocol (R291, R294 to R300, R306): a request that stands is taken, executed and answered. -/

namespace Sys2Proof.Machine

variable {s u x : State} {t : Time} {src : SdpSrc} {i j : Fin 5} {q : SdpReq} {w : StoreRun}

/-! ### Sessions -/

theorem onSession_self (f : Session → Session) : (s.onSession i f).sdp.sessions[i] = f s.sdp.sessions[i] := updV_self ..

theorem updV_updV {α : Type} {n : Nat} (v : Vector α n) (k : Fin n) (f g : α → α) :
    updV (updV v k f) k g = updV v k fun a => g (f a) := by
  simp [updV]

theorem onSession_onSession (f g : Session → Session) : (s.onSession i f).onSession i g = s.onSession i fun a => g (f a) := by
  unfold State.onSession
  dsimp only
  rw [updV_updV]

/-! ### A request is taken (R291, R298) -/

theorem takeRequest_same (s : State) (src : SdpSrc) : Same (areaMask [.mailbox, .switch]) s (s.takeRequest src) :=
  State.takeRequest_same _ rfl .refl

theorem takeRequest_sdp : (s.takeRequest src).sdp = s.sdp := by
  cases src <;> rfl

theorem takeRequest_clk : (s.takeRequest src).clk = s.clk := by
  cases src <;> rfl

theorem sessionOf_sdp (h : u.sdp = s.sdp) : u.sessionOf src q = s.sessionOf src q := by
  unfold State.sessionOf
  rw [h]

/-- R297: whose session it is does not hang on when it was last heard. -/
theorem sessionOf_lastAt (now : Time) : (s.onSession j fun x => { x with lastAt := now }).sessionOf src q = s.sessionOf src q := by
  cases src with
  | mailbox => rfl
  | net mac tag p =>
    unfold State.sessionOf
    dsimp only
    split
    · next h =>
      by_cases hj : (⟨q.sess, h⟩ : Fin 5) = j
      · subst hj
        rw [onSession_self]
      · rw [onSession_other hj]
    · rfl

/-- R291, R297: the number of the session that a request belongs to. -/
theorem sessionOf_val (hsess : s.sessionOf src q = some i) : (if onNet src then q.sess % 5 else 0) = i.val := by
  cases src with
  | mailbox =>
    simp only [State.sessionOf] at hsess
    split at hsess
    · cases hsess
      rfl
    · cases hsess
  | net mac tag p =>
    simp only [State.sessionOf] at hsess
    split at hsess
    · next h =>
      split at hsess
      · cases hsess
        exact Nat.mod_eq_of_lt h
      · cases hsess
    · cases hsess

theorem length_of_formAbort {p : List Byte} {net : Bool} (h : formAbort p q net = none) : 20 ≤ p.length := by
  unfold formAbort at h
  by_contra hlt
  rw [if_pos (Nat.not_le.1 hlt)] at h
  cases h

/-- R297: the session of a request has had one. -/
theorem heard_of_session {p : List Byte} (hsess : s.sessionOf src (parseSdp p) = some i) (hlen : 20 ≤ p.length) :
    s.heard src p = s.onSession i fun x => { x with lastAt := s.clk.now } := by
  rw [State.heard, hsess]
  exact when_of (decide_eq_true hlen)

/-- R298: a request that its session takes is kept as the last one. -/
theorem heard_taken (hsess : s.sessionOf src q = some i) (hparse : parseSdp q.whole = q) (hlen : 20 ≤ q.whole.length) :
    (((s.at t).takeRequest src).heard src q.whole).onSession i (fun x => { x with
      reqId := some q.reqId
      lastReq := q.whole
      lastResp := []
      before := some (x.reqId, x.lastReq, x.lastResp) }) = s.taken t src i q := by
  have hsess' : ((s.at t).takeRequest src).sessionOf src (parseSdp q.whole) = some i := by
    rw [hparse, sessionOf_sdp takeRequest_sdp]
    exact hsess
  rw [heard_of_session hsess' hlen, onSession_onSession, takeRequest_clk]

theorem heard_session (hsess : s.sessionOf src q = some i) (hparse : parseSdp q.whole = q) (hlen : 20 ≤ q.whole.length) :
    (((s.at t).takeRequest src).heard src q.whole).sdp.sessions[i] = { s.sdp.sessions[i] with lastAt := (s.at t).clk.now } := by
  have hsess' : ((s.at t).takeRequest src).sessionOf src (parseSdp q.whole) = some i := by
    rw [hparse, sessionOf_sdp takeRequest_sdp]
    exact hsess
  rw [heard_of_session hsess' hlen, onSession_self, takeRequest_sdp, takeRequest_clk]
  rfl

/-! ### A request is answered (R298, R318) -/

/-- R298, R318: how the answer of an operation goes out: at once, or once the journal has run. -/
def State.sentBack (s1 : State) (src : SdpSrc) (i : Fin 5) (r : SdpReq) (respKey : Option (List Byte)) (a : Answered) : State :=
  let key := a.named.getD r.key
  let p := packed r a.res a.last key r.sess (if r.op = opClose then respKey else a.st.sdp.sessions[i].respKey)
  let sent (s : State) : State := if r.op = opClose then s.answer src p else s.answerKept src i p
  match a.st.nv.journal.state, s1.nv.journal.state with
  | 2, 0 => { a.st with sdp := { a.st.sdp with jrnReply := some (i, src, p) } }
  | 2, 3 => { a.st with sdp := { a.st.sdp with jrnReply := some (i, src, p) } }
  | 3, 0 => a.st
  | _, _ => if a.st.nv.journal.state = 3 ∧ a.st.nv.journal.cause = 4 ∧ s1.nv.journal ≠ a.st.nv.journal then a.st
            else sent a.st

/-- R297 to R300: a request that its session takes is executed, or waits for the supervisors. -/
theorem serveSession_of_stands {a : Answered} (hst : s.stands src i q)
    (hperform : (s.taken t src i q).perform i q (onNet src) w = some a) :
    (((s.at t).takeRequest src).heard src q.whole).serveSession src i q w =
      (s.taken t src i q).sentBack src i q s.sdp.sessions[i].respKey a := by
  obtain ⟨-, -, -, hparse, hform, -, hsess, hauth, hrepeat, hid⟩ := hst
  have hlen := length_of_formAbort hform
  unfold State.serveSession
  extract_lets x' s1
  have hx : x' = { s.sdp.sessions[i] with lastAt := (s.at t).clk.now } := heard_session (t := t) hsess hparse hlen
  have h1 : s1 = s.taken t src i q := heard_taken hsess hparse hlen
  have hauth' : authOk x' q = true := by rw [hx]; exact hauth
  have hrepeat' : isRepeat x' q = false := by rw [hx]; exact hrepeat
  have hid' : reqIdOk x' q = true := by rw [hx]; exact hid
  rw [hauth', if_neg (by decide), hrepeat', if_neg (by decide), hid', if_neg (by decide), h1, hperform, hx]
  rfl

theorem serve_of_stands {a : Answered} (hst : s.stands src i q)
    (hperform : (s.taken t src i q).perform i q (onNet src) w = some a) :
    (s.at t).serve src q.whole w = (s.taken t src i q).sentBack src i q s.sdp.sessions[i].respKey a := by
  have hserve := serveSession_of_stands hst hperform
  obtain ⟨-, -, -, hparse, hform, hop, hsess, -, -, -⟩ := hst
  unfold State.serve
  extract_lets r s1
  have hr : r = q := hparse
  have hheard : s1 = ((s.at t).takeRequest src).onSession i fun x => { x with lastAt := ((s.at t).takeRequest src).clk.now } := by
    refine heard_of_session ?_ (length_of_formAbort hform)
    rw [hparse, sessionOf_sdp takeRequest_sdp]
    exact hsess
  have hsess' : s1.sessionOf src r = some i := by
    rw [hheard, sessionOf_lastAt, sessionOf_sdp takeRequest_sdp, hr]
    exact hsess
  rw [hsess', hr, hform]
  dsimp only
  rw [decide_eq_false hop]
  cases src with
  | mailbox => exact hserve
  | net mac tag p => exact hserve

/-- R291, R308: a request that stands is the one that is served. -/
theorem serveIf_of_stands {a : Answered} {want : State → Fin 5 → SdpReq → Bool} (hst : s.stands src i q)
    (hwant : want (s.at t) i q = true) (hperform : (s.taken t src i q).perform i q (onNet src) w = some a) :
    (s.at t).serveIf src want w = (s.taken t src i q).sentBack src i q s.sdp.sessions[i].respKey a := by
  have hserve := serve_of_stands hst hperform
  obtain ⟨hserves, hpayload, hturn, hparse, -, -, hsess, -, -, -⟩ := hst
  have hpayload' : (s.at t).payloadOf src = some q.whole := by
    cases src <;> exact hpayload
  unfold State.serveIf
  rw [hpayload']
  dsimp only
  have hi (h : (if onNet src then (parseSdp q.whole).sess % 5 else 0) < 5) :
      (⟨if onNet src then (parseSdp q.whole).sess % 5 else 0, h⟩ : Fin 5) = i :=
    Fin.ext ((congrArg (fun r : SdpReq => if onNet src then r.sess % 5 else 0) hparse).trans (sessionOf_val hsess))
  rw [hi, hparse, when_of, hserve]
  rw [hwant, Bool.and_true]
  exact Bool.and_eq_true_iff.2 ⟨hserves, hturn⟩

/-! ### An operation is executed (R305, R306) -/

/-- R306: a request that no test hinders and whose supervisors evaluate. -/
def State.performed (s : State) (t : Time) (src : SdpSrc) (i : Fin 5) (q : SdpReq) (w : StoreRun) : Answered :=
  if s.requestNeeds i q then (s.taken t src i q).executeStepped i q (onNet src) w else (s.taken t src i q).execute i q (onNet src) w

theorem taken_session : (s.taken t src i q).sdp.sessions[i] = { s.sdp.sessions[i] with
    reqId := some q.reqId
    lastReq := q.whole
    lastResp := []
    before := some (s.sdp.sessions[i].reqId, s.sdp.sessions[i].lastReq, s.sdp.sessions[i].lastResp)
    lastAt := (s.at t).clk.now } := by
  rw [State.taken, onSession_self, takeRequest_sdp]
  rfl

/-- R298: what taking a request changes. -/
theorem taken_same : Same (areaMask [.mailbox, .switch, .sessions]) (s.at t) (s.taken t src i q) :=
  State.onSession_same _ _ rfl (State.takeRequest_same _ rfl .refl)

theorem perform_of_unhindered (hfree : s.unhindered i q) :
    (s.taken t src i q).perform i q (onNet src) w = some (s.performed t src i q w) := by
  obtain ⟨htest, hneeds⟩ := hfree
  have htouched : (s.taken t src i q).touched i q = s.touched i q := by
    unfold State.touched
    rw [taken_session]
  have hneeds' : (s.taken t src i q).requestNeeds i q = s.requestNeeds i q := by
    unfold State.requestNeeds
    rw [taken_session]
  have htest' : (s.taken t src i q).test = s.test := taken_same.area .selfTest rfl
  have hunder : (s.taken t src i q).underTest = s.underTest := by
    funext key
    unfold State.underTest
    rw [htest']
  unfold State.perform
  rw [htouched, hunder, htest]
  dsimp only
  rw [hneeds', State.performed]
  cases hn : s.requestNeeds i q with
  | false => rfl
  | true =>
    obtain ⟨hpower, hev⟩ := hneeds hn
    have hpwr : (s.taken t src i q).pwr = s.pwr := taken_same.area .power rfl
    have heval : (s.taken t src i q).evaluates 0 = true ∨ (s.taken t src i q).evaluates 1 = true := by
      have hphase : (s.taken t src i q).phase = s.phase := taken_same.area .phase rfl
      have hsv : (s.taken t src i q).sv = s.sv := taken_same.area .supervisors rfl
      unfold State.evaluates
      rw [hphase, hsv, hpwr]
      exact hev
    have hany : ((s.taken t src i q).serving.any fun v => (s.taken t src i q).evaluates v) = true := by
      rcases heval with h | h
      · exact List.any_eq_true.2 ⟨0, List.mem_filter.2 ⟨List.mem_finRange _, serves_of_evaluates h⟩, h⟩
      · exact List.any_eq_true.2 ⟨1, List.mem_filter.2 ⟨List.mem_finRange _, serves_of_evaluates h⟩, h⟩
    rw [if_neg (by decide), hpwr, if_neg hpower, if_pos hany, if_pos rfl]

/-! ### A request completes (R298) -/

/-- R298: an answer that leaves the journal as it was goes out at once. -/
theorem sentBack_of_journal {a : Answered} {k : Option (List Byte)} (hop : q.op ≠ opClose)
    (hjournal : a.st.nv.journal = s.nv.journal) : s.sentBack src i q k a =
      a.st.answerKept src i (packed q a.res a.last (a.named.getD q.key) q.sess a.st.sdp.sessions[i].respKey) := by
  unfold State.sentBack
  extract_lets key p sent
  rw [hjournal]
  split
  · next h2 h0 => exact absurd (h2.symm.trans h0) (by decide)
  · next h2 h3 => exact absurd (h2.symm.trans h3) (by decide)
  · next h3 h0 => exact absurd (h3.symm.trans h0) (by decide)
  · rw [if_neg fun h => h.2.2 rfl]
    dsimp only [sent, p, key]
    rw [if_neg hop, if_neg hop]

/-- R297: the answer to CLOSE goes out and is not kept. -/
theorem sentBack_close {a : Answered} {k : Option (List Byte)} (hop : q.op = opClose)
    (hjournal : a.st.nv.journal = s.nv.journal) : s.sentBack src i q k a =
      a.st.answer src (packed q a.res a.last (a.named.getD q.key) q.sess k) := by
  unfold State.sentBack
  extract_lets key p sent
  rw [hjournal]
  split
  · next h2 h0 => exact absurd (h2.symm.trans h0) (by decide)
  · next h2 h3 => exact absurd (h2.symm.trans h3) (by decide)
  · next h3 h0 => exact absurd (h3.symm.trans h0) (by decide)
  · rw [if_neg fun h => h.2.2 rfl]
    dsimp only [sent, p, key]
    rw [if_pos hop, if_pos hop]

theorem answer_sessions {p : List Byte} : (s.answer src p).sdp.sessions = s.sdp.sessions :=
  (State.answer_same (w := maskBut .sessions) _ _ rfl .refl).only

theorem answerKept_session {p : List Byte} : (s.answerKept src i p).sdp.sessions[i] = { s.sdp.sessions[i] with lastResp := p } := by
  rw [State.answerKept, answer_sessions, onSession_self]

theorem answerKept_session_other {p : List Byte} (h : j ≠ i) : (s.answerKept src i p).sdp.sessions[j] = s.sdp.sessions[j] := by
  rw [State.answerKept, answer_sessions, onSession_other h]

/-- R298: what an answer changes. -/
theorem answerKept_same {p : List Byte} : Same (areaMask [.mailbox, .sessions, .ports, .switch, .offered]) s (s.answerKept src i p) :=
  State.answerKept_same _ _ _ rfl .refl

/-- R298: a response that is kept and sent. -/
theorem answerKept_replied {p : List Byte} {res : Except Abort (List Byte)} {last : Bool}
    (hp : p = packed q res last q.key q.sess s.sdp.sessions[i].respKey) : (s.answerKept src i p).replied src i q res last := by
  rw [State.replied, answerKept_session]
  refine ⟨hp, fun hmail => ?_⟩
  subst hmail
  rfl

/-- R298: a request that stands, and that no test hinders, is executed and its answer sent where it leaves the journal as it was. -/
theorem completes_request {c : Instr} {want : State → Fin 5 → SdpReq → Bool} {P : State → Prop} {a : Answered}
    (hc : exec c s = .next ((s.at t).serveIf src want w)) (hst : s.stands src i q) (hfree : s.unhindered i q)
    (hop : q.op ≠ opClose) (hwant : want (s.at t) i q = true) (hperf : s.performed t src i q w = a)
    (hjournal : Same (maskBut .journal) (s.taken t src i q) a.st)
    (hP : P (a.st.answerKept src i (packed q a.res a.last (a.named.getD q.key) q.sess a.st.sdp.sessions[i].respKey))) :
    Completes c s P := by
  subst hperf
  refine ⟨_, hc, ?_⟩
  rw [serveIf_of_stands hst hwant (perform_of_unhindered hfree), sentBack_of_journal hop hjournal.only]
  exact hP

/-! ### A request that the supervisors judge (R36, R306, R307) -/

theorem taken_commitsNow : (s.taken t src i q).commitsNow i q = s.commitsNow i q := by
  unfold State.commitsNow
  rw [taken_session]

/-- R306: a request that commits nothing at once is executed after the whole step of the supervisors. -/
theorem performed_of_staged (hnow : s.commitsNow i q = false) :
    s.performed t src i q w = (s.staged t src i q).execute i q (onNet src) w := by
  unfold State.performed State.staged State.executeStepped
  rw [taken_commitsNow, hnow, if_neg Bool.false_ne_true, if_neg Bool.false_ne_true]
  cases s.requestNeeds i q <;> rfl

/-- R36: a commit of immediate effect is executed between the causes and the outcomes of the supervisors' step. -/
theorem performed_of_now (hneeds : s.requestNeeds i q = true) (hnow : s.commitsNow i q = true) : s.performed t src i q w =
    { (s.staged t src i q).execute i q (onNet src) w with
      st := ((s.staged t src i q).execute i q (onNet src) w).st.evalBacks (s.taken t src i q).evalFronts.2 } := by
  unfold State.performed State.staged State.executeStepped
  rw [taken_commitsNow, hnow, hneeds, if_pos rfl, if_pos rfl, if_pos rfl, if_pos rfl]

/-- R36, R48: what the supervisors' step before a request leaves as it is. -/
theorem staged_same : Same (areaMask evalAreas) (s.taken t src i q) (s.staged t src i q) := by
  unfold State.staged
  split
  · split
    · exact State.evalFronts_same rfl .refl
    · exact State.evalBoth_same rfl .refl
  · exact .refl

theorem staged_session : (s.staged t src i q).sdp.sessions[i] = (s.taken t src i q).sdp.sessions[i] :=
  congrArg (·[i]) (staged_same.area .sessions rfl)

/-- R302: an entry whose value a session may write. -/
theorem mayWrite_of_checkValue {k : Nat} {r : DRow} {v : List Byte} (hrow : dictRow k = some r)
    (hcheck : checkValue s.sdp.sessions[i].level k r v = none) : s.mayWrite i k = .ok r := by
  unfold checkValue at hcheck
  rw [State.mayWrite, findRow, hrow]
  dsimp only
  by_cases hacc : (r.acc == .ro || r.acc == .const) = true
  · rw [if_pos hacc] at hcheck
    cases hcheck
  by_cases hlevel : s.sdp.sessions[i].level < r.level
  · rw [if_neg hacc, if_pos hlevel] at hcheck
    cases hcheck
  rw [if_neg hacc, if_neg hlevel]

/-- R302: a value of an entry without form takes more than one exchange. -/
theorem typ_of_checkValue {level k : Nat} {r : DRow} {v : List Byte} (hcheck : checkValue level k r v = none) :
    (r.typ == .domain) = false := by
  unfold checkValue at hcheck
  refine Bool.eq_false_of_not_eq_true fun htyp => ?_
  rw [if_pos htyp] at hcheck
  split at hcheck
  · cases hcheck
  · split at hcheck <;> cases hcheck

/-- R306: what the supervisors that an entry needs, or else the engine, make of a write. -/
def State.writeRefused (s : State) (i : Fin 5) (k : Nat) (r : DRow) (v : List Byte) : Option Abort :=
  if needsSv k then s.bothJudge fun n => s.judgeWrite n i k r v else s.judgeWrite 0 i k r v

/-- R306, R307: an accepted write applies. -/
theorem writeValue_of_accepted {k : Nat} {r : DRow} {v : List Byte} (hkey : k ≠ keyResponse) (hrow : dictRow k = some r)
    (hcheck : checkValue s.sdp.sessions[i].level k r v = none) (haccepted : s.writeRefused i k r v = none) {whole : Bool} :
    s.writeValue i k v false whole w = { st := s.applyWrite i k r v w, res := .ok [] } := by
  unfold State.writeValue
  rw [mayWrite_of_checkValue hrow hcheck]
  dsimp only
  rw [typ_of_checkValue hcheck, decide_eq_false hkey, Bool.false_and, Bool.false_and, if_neg Bool.false_ne_true,
    if_neg Bool.false_ne_true, hcheck]
  dsimp only
  rw [if_neg Bool.false_ne_true, show (if needsSv k then _ else _) = none from haccepted]

theorem execute_write {net : Bool} (hop : q.op = opWrite) :
    s.execute i q net w = s.writeValue i q.key q.data (q.flags.testBit 0) true w := by
  unfold State.execute
  rw [hop, if_neg (by decide), if_neg (by decide), if_pos rfl]

/-- R306: a granted write applies. -/
theorem execute_of_granted {r : DRow} (hg : s.granted t src i q r) : (s.staged t src i q).execute i q (onNet src) w =
    { st := (s.staged t src i q).applyWrite i q.key r q.data w, res := .ok [] } := by
  obtain ⟨-, -, hop, htxn, hkey, hrow, hcheck, haccepted⟩ := hg
  rw [execute_write hop, htxn]
  refine writeValue_of_accepted hkey hrow ?_ haccepted
  rw [staged_session, taken_session]
  exact hcheck

/-- R306: a granted write that commits nothing at once completes. -/
theorem completes_granted {c : Instr} {want : State → Fin 5 → SdpReq → Bool} {P : State → Prop} {r : DRow}
    (hc : exec c s = .next ((s.at t).serveIf src want w)) (hg : s.granted t src i q r) (hnow : s.commitsNow i q = false)
    (hwant : want (s.at t) i q = true)
    (hjournal : ((s.staged t src i q).applyWrite i q.key r q.data w).nv.journal = (s.staged t src i q).nv.journal)
    (hP : ∀ p, (((s.staged t src i q).applyWrite i q.key r q.data w).answerKept src i p).replied src i q (.ok []) false →
      P (((s.staged t src i q).applyWrite i q.key r q.data w).answerKept src i p)) :
    Completes c s P := by
  have hperf := (performed_of_staged (t := t) (src := src) (w := w) hnow).trans (execute_of_granted hg)
  obtain ⟨hst, hfree, hop, -, -, -, -, -⟩ := hg
  refine ⟨_, hc, ?_⟩
  rw [serveIf_of_stands hst hwant (perform_of_unhindered hfree), hperf,
    sentBack_of_journal (by rw [hop]; decide) (hjournal.trans (staged_same.area .journal rfl))]
  exact hP _ (answerKept_replied rfl)

end Sys2Proof.Machine

/-! OPEN, CLOSE, READ, unknown operations and the raise of a session (R296, R297, R299, R302, R303). -/

namespace Sys2Proof.Machine

variable {s u x : State} {t : Time} {src : SdpSrc} {i j : Fin 5} {q : SdpReq} {w : StoreRun}

/-! ### OPEN (R297) -/

theorem sess_of_formAbort {p : List Byte} {net : Bool} (hop : q.op = opOpen) (h : formAbort p q net = none) : q.sess = 0 := by
  unfold formAbort at h
  by_contra hne
  split_ifs at h
  simp_all

theorem sessionOf_zero {mac : Mac} {tag : Option Tag} {p : List Byte} (h : q.sess = 0) :
    s.sessionOf (.net mac tag p) q = none := by
  unfold State.sessionOf
  dsimp only
  rw [dif_pos (by omega), decide_eq_false (by omega), Bool.false_and, Bool.false_and, if_neg Bool.false_ne_true]

/-- R297: the lowest session that the network may open. -/
def State.freeSession (s : State) : Option (Fin 5) :=
  (List.finRange 5).find? fun (j : Fin 5) => decide (0 < j.val) && !s.sdp.sessions[j].opened

theorem doOpen_of_free {mac : Mac} {data : List Byte} (hlen : data.length = 2) (hlow : 10 ≤ leNat data) (hhigh : leNat data ≤ 3600)
    (hfree : s.freeSession = some i) : s.doOpen mac data =
      { st := s.onSession i fun _ =>
          { opened := true, mac := mac, idle := leNat data, lastAt := s.clk.now, ledCursor := s.led.newestSeq }
        res := .ok []
        sess := some i.val } := by
  unfold State.doOpen
  extract_lets n
  rw [if_neg (by simp [hlen]), if_neg (by simp; omega), show (List.finRange 5).find? _ = some i from hfree]

/-- R297: an OPEN in order opens the lowest free session. -/
theorem completes_sdpOpen {mac : Mac} {tag : Option Tag} {p : List Byte} (hserves : s.deServes = true)
    (hturn : s.inTurn (.net mac tag p) = true) (hop : (parseSdp p).op = opOpen) (hform : formAbort p (parseSdp p) true = none)
    (hauth : (parseSdp p).flags.testBit 1 = false) (hlen : (parseSdp p).data.length = 2) (hlow : 10 ≤ leNat (parseSdp p).data)
    (hhigh : leNat (parseSdp p).data ≤ 3600) (hfree : s.freeSession = some i) :
    Completes (.sdpOpen t (.net mac tag p)) s fun u =>
      u.sdp.sessions[i].opened = true ∧ u.sdp.sessions[i].mac = mac ∧ u.sdp.sessions[i].idle = leNat (parseSdp p).data ∧
      u.sdp.sessions[i].level = 0 ∧ u.sdp.sessions[i].pending = [] ∧ u.sdp.sessions[i].xfer = none := by
  refine .of_when (f := fun s => s.serve (.net mac tag p) p .whole) rfl ?_ ?_
  · exact Bool.and_eq_true_iff.2 ⟨Bool.and_eq_true_iff.2 ⟨hserves, hturn⟩, beq_iff_eq.2 hop⟩
  · have hheard : ((s.at t).takeRequest (.net mac tag p)).heard (.net mac tag p) p = (s.at t).takeRequest (.net mac tag p) := by
      rw [State.heard, sessionOf_zero (sess_of_formAbort hop hform)]
    have hfree' : ((s.at t).takeRequest (.net mac tag p)).freeSession = some i := hfree
    unfold State.serve
    extract_lets r s1
    rw [show formAbort p r (onNet (.net mac tag p)) = none from hform]
    dsimp only
    rw [decide_eq_true (show r.op = opOpen from hop)]
    dsimp only
    rw [if_neg (by rw [show r.flags.testBit 1 = false from hauth]; decide), answer_sessions, show s1 = _ from hheard,
      doOpen_of_free hlen hlow hhigh hfree']
    dsimp only
    rw [onSession_self]
    exact ⟨rfl, rfl, rfl, rfl, rfl, rfl⟩

/-! ### CLOSE (R297) -/

/-- R297: CLOSE empties the session. -/
theorem completes_sdpClose (hst : s.stands src i q) (hop : q.op = opClose) :
    Completes (.sdpClose t src) s fun u => u.sdp.sessions[i] = {} := by
  refine ⟨_, rfl, ?_⟩
  have hperform : (s.taken t src i q).perform i q (onNet src) .whole =
      some { st := (s.taken t src i q).closeSession i, res := .ok [] } := by
    have htouched : (s.taken t src i q).touched i q = none := by
      unfold State.touched
      rw [hop, if_neg (by decide), if_neg (by decide)]
    have hneeds : (s.taken t src i q).requestNeeds i q = false := by
      unfold State.requestNeeds
      rw [hop, if_neg (by decide), if_neg (by decide)]
      rfl
    have hexec : (s.taken t src i q).execute i q (onNet src) .whole = { st := (s.taken t src i q).closeSession i, res := .ok [] } :=
      if_pos hop
    unfold State.perform
    rw [htouched]
    dsimp only [Option.bind_none]
    rw [hneeds, hexec]
    rfl
  have hjournal : ((s.taken t src i q).closeSession i).nv.journal = (s.taken t src i q).nv.journal :=
    (State.closeSession_same (w := maskBut .journal) _ rfl .refl).only
  rw [serveIf_of_stands hst (beq_iff_eq.2 hop) hperform, sentBack_close hop hjournal]
  exact (congrArg (·[i]) answer_sessions).trans (onSession_self _)

/-! ### An operation that is none of R296's -/

/-- R296, R300: an unknown operation is answered, and its session has been heard. -/
theorem formAbort_of_unknown {net : Bool} (hlen : 20 ≤ q.whole.length) (hver : q.ver = 1) (hop : knownOp q.op = false) :
    formAbort q.whole q net = some (abMalformed, 0) := by
  unfold formAbort
  rw [if_neg (Nat.not_lt.2 hlen), if_neg (by simp [hver]), hop, if_pos (by simp)]

/-- R296: what refusing a request's form changes. -/
theorem refuseForm_same {p : List Byte} {a : Abort} :
    Same (areaMask [.mailbox, .ports, .switch, .offered]) s (s.refuseForm src p q a) :=
  State.refuseForm_same _ _ _ _ rfl .refl

theorem heard_session_any {p : List Byte} (j : Fin 5) :
    (s.heard src p).sdp.sessions[j] = { s.sdp.sessions[j] with lastAt := (s.heard src p).sdp.sessions[j].lastAt } := by
  unfold State.heard
  split
  · next i _ =>
    cases decide (20 ≤ p.length) with
    | false => rfl
    | true =>
      rw [when_of rfl]
      by_cases hj : j = i
      · subst hj
        rw [onSession_self]
      · rw [onSession_other hj]
  · rfl

/-- R296: at a session without authentication the abort goes back as it is. -/
theorem refuseForm_of_plain {p : List Byte} {a : Abort}
    (h : ∀ i, s.sessionOf src q = some i → s.sdp.sessions[i].authed = false) :
    s.refuseForm src p q a = s.answer src (packed q (.error a) false q.key q.sess none) := by
  unfold State.refuseForm
  cases hi : s.sessionOf src q with
  | none => rfl
  | some i =>
    dsimp only [Option.map_some, Option.filter_some]
    rw [h i hi, Bool.false_and, if_neg Bool.false_ne_true]

theorem sessionOf_mailbox (h : s.sessionOf .mailbox q = some i) : i = 0 := by
  unfold State.sessionOf at h
  dsimp only at h
  split at h
  · exact (Option.some.inj h).symm
  · cases h

/-- R296: an unknown operation is answered with its abort and changes nothing else. -/
theorem completes_unknownOp (hserves : s.deServes = true) (hpayload : s.payloadOf src = some q.whole) (hturn : s.inTurn src = true)
    (hparse : parseSdp q.whole = q) (hlen : 20 ≤ q.whole.length) (hver : q.ver = 1) (hop : knownOp q.op = false) :
    Completes (.unknownOp t src) s fun u =>
      u.sdp.work = s.sdp.work ∧ u.sdp.txn = s.sdp.txn ∧ u.nv.cfg = s.nv.cfg ∧ u.nv.journal = s.nv.journal ∧
      (∀ j : Fin 5, u.sdp.sessions[j] = { s.sdp.sessions[j] with lastAt := u.sdp.sessions[j].lastAt }) ∧
      (src = .mailbox → s.sdp.sessions[0].authed = false →
        u.host.mailbox.staged = some (packed q (.error (abMalformed, 0)) false q.key q.sess none)) := by
  refine ⟨_, rfl, ?_⟩
  have hserved : (s.at t).serveIf src (fun _ _ r => !knownOp r.op) =
      (((s.at t).takeRequest src).heard src q.whole).refuseForm src q.whole q (abMalformed, 0) := by
    have hpayload' : (s.at t).payloadOf src = some q.whole := by
      cases src <;> exact hpayload
    unfold State.serveIf
    rw [hpayload']
    dsimp only
    rw [hparse, when_of]
    · unfold State.serve
      extract_lets r s1
      rw [show r = q from hparse, formAbort_of_unknown hlen hver hop]
    · rw [hop]
      exact Bool.and_eq_true_iff.2 ⟨Bool.and_eq_true_iff.2 ⟨hserves, hturn⟩, rfl⟩
  rw [hserved]
  have hsame : Same (areaMask [.mailbox, .switch, .sessions, .ports, .offered]) (s.at t)
      ((((s.at t).takeRequest src).heard src q.whole).refuseForm src q.whole q (abMalformed, 0)) :=
    State.refuseForm_same _ _ _ _ rfl (State.heard_same _ _ rfl (State.takeRequest_same _ rfl .refl))
  refine ⟨hsame.area .work rfl, hsame.area .txn rfl, (hsame.area .stored rfl).trans (at_nv_cfg s t),
    (hsame.area .journal rfl).trans (at_nv_journal s t), fun j => ?_, fun hmail hplain => ?_⟩
  · have hkept : ((((s.at t).takeRequest src).heard src q.whole).refuseForm src q.whole q (abMalformed, 0)).sdp.sessions =
        (((s.at t).takeRequest src).heard src q.whole).sdp.sessions := refuseForm_same.area .sessions rfl
    have hj := heard_session_any (s := (s.at t).takeRequest src) (src := src) (p := q.whole) j
    rw [takeRequest_sdp] at hj
    rw [hkept]
    exact hj
  · subst hmail
    rw [refuseForm_of_plain]
    · rfl
    · intro i hi
      obtain rfl := sessionOf_mailbox hi
      rw [heard_session_any, takeRequest_sdp]
      exact hplain

/-! ### READ (R302, R303) -/

theorem performed_of_needs (h : s.requestNeeds i q = false) :
    s.performed t src i q w = (s.taken t src i q).execute i q (onNet src) w := by
  rw [State.performed, h]
  exact if_neg Bool.false_ne_true

theorem requestNeeds_read (hop : q.op = opRead) : s.requestNeeds i q = false := by
  unfold State.requestNeeds
  rw [hop, if_neg (by decide), if_neg (by decide)]
  rfl

theorem execute_read (hop : q.op = opRead) {net : Bool} : s.execute i q net w = s.doRead i q net := by
  unfold State.execute
  rw [hop, if_neg (by decide), if_pos rfl]

/-- R303: an entry that may be read gives its value. -/
theorem doRead_of_row {net : Bool} {r : DRow} {v : List Byte} (hrow : findRow q.key = .ok r) (hacc : r.acc ≠ .wo) (htyp : r.typ ≠ .domain)
    (hv : (s.readValue i q.key r).1 = .ok v) (hlen : v.length ≤ segSize net) :
    s.doRead i q net = { st := (s.readValue i q.key r).2, res := .ok v } := by
  unfold State.doRead
  rw [hrow]
  dsimp only
  rw [if_neg (by simpa using hacc), if_neg (by simpa using htyp), hv]
  dsimp only
  rw [if_neg (Nat.not_lt.2 hlen)]

theorem completes_sdpRead {r : DRow} {v : List Byte} (hst : s.stands src i q) (hfree : s.unhindered i q) (hop : q.op = opRead)
    (hrow : findRow q.key = .ok r) (hacc : r.acc ≠ .wo) (htyp : r.typ ≠ .domain)
    (hv : ((s.taken t src i q).readValue i q.key r).1 = .ok v) (hlen : v.length ≤ segSize (onNet src)) :
    Completes (.sdpRead t src) s fun u => u.replied src i q (.ok v) false := by
  have hperf : s.performed t src i q .whole = { st := ((s.taken t src i q).readValue i q.key r).2, res := .ok v } := by
    rw [performed_of_needs (requestNeeds_read hop), execute_read hop, doRead_of_row hrow hacc htyp hv hlen]
  exact completes_request rfl hst hfree (by rw [hop]; decide) (beq_iff_eq.2 hop) hperf (State.readValue_same _ _ _ rfl .refl)
    (answerKept_replied rfl)

/-- R302: an entry that does not exist is refused. -/
theorem completes_sdpRead_missing {a : Abort} (hst : s.stands src i q) (hfree : s.unhindered i q) (hop : q.op = opRead)
    (hrow : findRow q.key = .error a) :
    Completes (.sdpRead t src) s fun u => u.replied src i q (.error a) false ∧ u.sdp.work = s.sdp.work := by
  have hperf : s.performed t src i q .whole = refused (s.taken t src i q) a := by
    rw [performed_of_needs (requestNeeds_read hop), execute_read hop, State.doRead, hrow]
  refine completes_request rfl hst hfree (by rw [hop]; decide) (beq_iff_eq.2 hop) hperf .refl ⟨answerKept_replied rfl, ?_⟩
  exact (answerKept_same.area .work rfl).trans (taken_same.area .work rfl)

/-! ### The challenge (R299) -/

/-- The entry Challenge. -/
def challengeRow : DRow := ⟨0x1100, 1, 0x02, 1, .octets, .ro, 0, 0, 0, 0, none, false, 16⟩

theorem findRow_of_dictRow {k : Nat} {r : DRow} (h : dictRow k = some r) : findRow k = .ok r := by
  rw [findRow, h]

theorem readValue_challenge {r : DRow} : s.readValue i keyChallenge r = s.drawChallenge i := by
  unfold State.readValue
  dsimp only
  rw [if_neg (by decide), if_neg (by decide), if_pos (by decide)]

/-- R299: a challenge of 16 bytes is drawn, kept and answered. -/
theorem completes_challenge (hst : s.stands src i q) (hfree : s.unhindered i q) (hop : q.op = opRead) (hkey : q.key = keyChallenge) :
    Completes (.challenge t src) s fun u =>
      (u.sdp.sessions[i].challenge.any fun c => c.1.length == 16 && c.2 == u.clk.now) = true ∧
      u.replied src i q (.ok ((u.sdp.sessions[i].challenge.map fun c => c.1).getD [])) false := by
  let z := s.taken t src i q
  let c := (List.range 16).map fun j => Config.randomByte (z.sdp.random + j)
  have hread : z.doRead i q (onNet src) = { st := (z.drawChallenge i).2, res := .ok c } := by
    have hrow : findRow q.key = .ok challengeRow :=
      findRow_of_dictRow (hkey ▸ (by decide : dictRow keyChallenge = some challengeRow))
    have hvalue : z.readValue i q.key challengeRow = z.drawChallenge i := hkey ▸ readValue_challenge
    have hlen : c.length ≤ segSize (onNet src) := by
      rw [List.length_map, List.length_range]
      cases src
      · decide
      · exact (by decide : 16 ≤ 1024)
    rw [doRead_of_row hrow (by decide) (by decide) (hvalue ▸ rfl) hlen, hvalue]
  have hperf : s.performed t src i q .whole = { st := (z.drawChallenge i).2, res := .ok c } := by
    rw [performed_of_needs (requestNeeds_read hop), execute_read hop, hread]
  refine completes_request rfl hst hfree (by rw [hop]; decide) ?_ hperf (State.drawChallenge_same _ rfl .refl) ?_
  · exact Bool.and_eq_true_iff.2 ⟨beq_iff_eq.2 hop, beq_iff_eq.2 hkey⟩
  · generalize hp : packed q _ _ _ _ _ = p
    have hkept : ((z.drawChallenge i).2.answerKept src i p).sdp.sessions[i].challenge = some (c, z.clk.now) := by
      rw [answerKept_session, State.drawChallenge, onSession_self]
    have hclk : ((z.drawChallenge i).2.answerKept src i p).clk = z.clk := answerKept_same.area .clk rfl
    rw [hkept, hclk]
    refine ⟨?_, answerKept_replied hp.symm⟩
    rw [Option.any_some]
    exact Bool.and_eq_true_iff.2 ⟨beq_iff_eq.2 (by rw [List.length_map, List.length_range]), beq_self_eq_true _⟩

/-! ### The raise of a session (R299) -/

/-- The entry Response. -/
def responseRow : DRow := ⟨0x1100, 1, 0x03, 1, .octets, .wo, 0, 0, 0, 0, none, false, 9⟩

theorem mayWrite_response : s.mayWrite i keyResponse = .ok responseRow := by
  rw [State.mayWrite, findRow_of_dictRow (show dictRow keyResponse = some responseRow by decide)]
  dsimp only
  rw [if_neg (by decide), if_neg (show ¬ s.sdp.sessions[i].level < responseRow.level from Nat.not_lt_zero _)]

/-- R299: a refused raise is counted, and the third bars the session. -/
theorem raiseRefused_session {slot : Nat} : (s.raiseRefused i slot).sdp.sessions[i] = if 2 ≤ s.sdp.sessions[i].refusals
    then { s.sdp.sessions[i] with refusals := 0, barUntil := some (s.clk.now + secs 60) }
    else { s.sdp.sessions[i] with refusals := s.sdp.sessions[i].refusals + 1 } := by
  rw [State.raiseRefused, onSession_self, record_sdp]
  by_cases h : 2 ≤ s.sdp.sessions[i].refusals
  · rw [if_pos h, if_pos (Nat.succ_le_succ h)]
  · rw [if_neg h, if_neg fun h' => h (Nat.le_of_succ_le_succ h')]

theorem raiseRefused_count {slot : Nat} : (s.raiseRefused i slot).nv.refusedRaises = s.nv.refusedRaises + 1 := by
  unfold State.raiseRefused State.onSession
  dsimp only
  rw [record_nv]

/-- R299: what is left of a refused raise once it has been answered. -/
theorem raiseRefused_effect {slot : Nat} {p : List Byte} (hu : (s.raiseRefused i slot).answerKept src i p = u)
    (hbar : s.sdp.sessions[i].barUntil = none) :
    u.sdp.sessions[i].level = s.sdp.sessions[i].level ∧ u.nv.refusedRaises = s.nv.refusedRaises + 1 ∧
    u.sdp.sessions[i].refusals = (if 2 ≤ s.sdp.sessions[i].refusals then 0 else s.sdp.sessions[i].refusals + 1) ∧
    u.sdp.sessions[i].barUntil = (if 2 ≤ s.sdp.sessions[i].refusals then some (u.clk.now + secs 60) else none) ∧
    u.sdp.sessions[i].challenge = s.sdp.sessions[i].challenge := by
  have hnv : u.nv.refusedRaises = (s.raiseRefused i slot).nv.refusedRaises := by
    have h := (hu ▸ answerKept_same).area .tallies rfl
    simp only [Area.same, Prod.mk.injEq] at h
    obtain ⟨h, -⟩ := h
    exact h
  have hclk : u.clk = (s.raiseRefused i slot).clk := (hu ▸ answerKept_same).area .clk rfl
  have hclk' : (s.raiseRefused i slot).clk = s.clk := (State.raiseRefused_same (w := maskBut .clk) _ _ rfl .refl).only
  rw [hnv, raiseRefused_count, hclk, hclk', ← hu, answerKept_session, raiseRefused_session]
  generalize s.sdp.sessions[i] = x at hbar ⊢
  by_cases h : 2 ≤ x.refusals
  · simp [h]
  · simp [h, hbar]

theorem taken_nv : (s.taken t src i q).nv = (s.at t).nv := by
  cases src <;> rfl

theorem taken_refusedRaises : (s.taken t src i q).nv.refusedRaises = s.nv.refusedRaises := by
  rw [taken_nv, at_nv_refusedRaises]

theorem taken_level : (s.taken t src i q).sdp.sessions[i].level = s.sdp.sessions[i].level := by
  rw [taken_session]

theorem taken_refusals : (s.taken t src i q).sdp.sessions[i].refusals = s.sdp.sessions[i].refusals := by
  rw [taken_session]

/-- R299: an answer while the session is barred counts nothing. -/
theorem raiseSession_barred {b : Time} {val : List Byte} (hlen : val.length = 9) (hbar : s.sdp.sessions[i].barUntil = some b) :
    s.raiseSession i val = ((s.unstatedRound (((b - s.clk.now : Nat) : Rat) / 1000000000)).2,
      .error (abBarred, (s.unstatedRound (((b - s.clk.now : Nat) : Rat) / 1000000000)).1.toNat)) := by
  unfold State.raiseSession
  dsimp only
  rw [if_neg (by simp [hlen]), hbar]

/-- R299: a level that no answer reaches. -/
theorem raiseSession_unreachable {val : List Byte} (hlen : val.length = 9) (hbar : s.sdp.sessions[i].barUntil = none)
    (hlvl : (val.head?.getD 0).toNat = 0 ∨ 3 < (val.head?.getD 0).toNat) :
    s.raiseSession i val = (s.raiseRefused i 0xFF, .error (abUnreachable, 0)) := by
  unfold State.raiseSession
  dsimp only
  rw [if_neg (by simp [hlen]), hbar]
  dsimp only
  rw [if_pos (by simpa using hlvl)]

/-- R299: an answer to no challenge. -/
theorem raiseSession_unchallenged {val : List Byte} (hlen : val.length = 9) (hbar : s.sdp.sessions[i].barUntil = none)
    (hlow : 1 ≤ (val.head?.getD 0).toNat) (hhigh : (val.head?.getD 0).toNat ≤ 3) (hchal : s.sdp.sessions[i].challenge = none) :
    s.raiseSession i val = (s.raiseRefused i (s.levelKeySlot ((val.head?.getD 0).toNat - 1)), .error (abChallenge, 0)) := by
  unfold State.raiseSession
  dsimp only
  rw [if_neg (by simp [hlen]), hbar]
  dsimp only
  generalize (val.head?.getD 0).toNat = lvl at hlow hhigh ⊢
  rw [if_neg (by simp; omega), hchal]

/-- R299: an answer to a challenge is the right one. -/
def State.answersRight (s : State) (i : Fin 5) (lvl : Nat) (c : List Byte) (a : Time) (val : List Byte) : Prop :=
  s.clk.now ≤ a + secs 10 ∧ s.nv.keys.getD (s.levelKeySlot (lvl - 1)) [] ≠ [] ∧ s.test.authFail = false ∧
    val.drop 1 = (aesCmac (s.nv.keys.getD (s.levelKeySlot (lvl - 1)) []) (c ++ leBytes 2 i.val ++ leBytes 1 lvl)).take 8

/-- R299: whether an answer is right does not hang on its being taken. -/
theorem taken_answersRight {lvl : Nat} {c val : List Byte} {a : Time} : (s.taken t src i q).answersRight i lvl c a val ↔
    (s.at t).clk.now ≤ a + secs 10 ∧ s.nv.keys.getD (s.levelKeySlot (lvl - 1)) [] ≠ [] ∧ s.test.authFail = false ∧
      val.drop 1 = (aesCmac (s.nv.keys.getD (s.levelKeySlot (lvl - 1)) []) (c ++ leBytes 2 i.val ++ leBytes 1 lvl)).take 8 := by
  have hkeys : (s.taken t src i q).nv.keys = s.nv.keys := by rw [taken_nv, at_nv_keys]
  have hslot : (s.taken t src i q).levelKeySlot (lvl - 1) = s.levelKeySlot (lvl - 1) := by cases src <;> rfl
  have hclk : (s.taken t src i q).clk = (s.at t).clk := taken_same.area .clk rfl
  have htest : (s.taken t src i q).test = s.test := taken_same.area .selfTest rfl
  rw [State.answersRight, hkeys, hslot, hclk, htest]

/-- R299: the session that the right answer leaves. -/
def Session.raised (x : Session) (i : Fin 5) (lvl slot : Nat) (key : List Byte) : Session :=
  { x with challenge := none, level := lvl, refusals := 0, raiseSlot := slot, key := key, authed := x.authed || i != 0 }

/-- R299: the right answer raises the session. -/
theorem raiseSession_right {val c : List Byte} {a : Time} {lvl : Nat} (hlen : val.length = 9)
    (hbar : s.sdp.sessions[i].barUntil = none) (hlvl : lvl = (val.head?.getD 0).toNat) (hlow : 1 ≤ lvl) (hhigh : lvl ≤ 3)
    (hchal : s.sdp.sessions[i].challenge = some (c, a)) (hright : s.answersRight i lvl c a val) :
    s.raiseSession i val = ((s.onSession i fun x => x.raised i lvl (s.levelKeySlot (lvl - 1))
      (sessionKey (s.nv.keys.getD (s.levelKeySlot (lvl - 1)) []) c i.val lvl)).record codeRaise 0
        [BitVec.ofNat 8 (s.levelKeySlot (lvl - 1))], .ok []) := by
  obtain ⟨htime, hslot, htest, hmac⟩ := hright
  unfold State.raiseSession
  dsimp only
  rw [if_neg (by simp [hlen]), hbar, ← hlvl]
  dsimp only
  rw [if_neg (by simp; omega), hchal]
  dsimp only
  rw [if_pos, onSession_onSession]
  · rfl
  · rw [decide_eq_true htime, htest, beq_iff_eq.2 hmac, bne_iff_ne.2 hslot]
    rfl

/-- R299: any other answer is refused. -/
theorem raiseSession_wrong {val c : List Byte} {a : Time} {lvl : Nat} (hlen : val.length = 9)
    (hbar : s.sdp.sessions[i].barUntil = none) (hlvl : lvl = (val.head?.getD 0).toNat) (hlow : 1 ≤ lvl) (hhigh : lvl ≤ 3)
    (hchal : s.sdp.sessions[i].challenge = some (c, a)) (hwrong : ¬ s.answersRight i lvl c a val) :
    s.raiseSession i val = ((s.onSession i fun x => { x with challenge := none }).raiseRefused i (s.levelKeySlot (lvl - 1)),
      .error (abChallenge, 0)) := by
  unfold State.raiseSession
  dsimp only
  rw [if_neg (by simp [hlen]), hbar, ← hlvl]
  dsimp only
  rw [if_neg (by simp; omega), hchal]
  dsimp only
  rw [if_neg fun hok => hwrong ?_]
  simp only [Bool.and_eq_true, decide_eq_true_eq, bne_iff_ne, beq_iff_eq, Bool.not_eq_true'] at hok
  obtain ⟨⟨⟨htime, hslot⟩, htest⟩, hmac⟩ := hok
  exact ⟨htime, hslot, htest, hmac⟩

/-- R299: a write of Response raises the session or is refused. -/
theorem completes_response {P : State → Prop} {r : State × Except Abort (List Byte)} (hst : s.stands src i q)
    (hfree : s.unhindered i q) (hop : q.op = opWrite) (hkey : q.key = keyResponse) (htxn : q.flags.testBit 0 = false)
    (hr : (s.taken t src i q).raiseSession i q.data = r)
    (hP : P (r.1.answerKept src i (packed q r.2 false q.key q.sess r.1.sdp.sessions[i].respKey))) :
    Completes (.response t src) s P := by
  have hneeds : s.requestNeeds i q = false := by
    rw [State.requestNeeds, if_pos hop, hkey, show needsSv keyResponse = false by decide, Bool.false_and]
  have hperf : s.performed t src i q .whole = { st := r.1, res := r.2 } := by
    rw [performed_of_needs hneeds, execute_write hop, State.writeValue, hkey, mayWrite_response, htxn]
    dsimp only
    rw [if_pos (by decide), hr]
  refine completes_request rfl hst hfree (by rw [hop]; decide) ?_ hperf ?_ hP
  · exact Bool.and_eq_true_iff.2 ⟨beq_iff_eq.2 hop, beq_iff_eq.2 hkey⟩
  · rw [← hr]
    exact State.raiseSession_same _ _ rfl .refl

/-- R299: the right answer to a challenge raises the session. -/
theorem completes_response_right {lvl : Nat} {c : List Byte} {a : Time} (hst : s.stands src i q) (hfree : s.unhindered i q)
    (hop : q.op = opWrite) (hkey : q.key = keyResponse) (htxn : q.flags.testBit 0 = false) (hlen : q.data.length = 9)
    (hlvl : lvl = (q.data.head?.getD 0).toNat) (hlow : 1 ≤ lvl) (hhigh : lvl ≤ 3) (hbar : s.sdp.sessions[i].barUntil = none)
    (hchal : s.sdp.sessions[i].challenge = some (c, a)) (hright : (s.taken t src i q).answersRight i lvl c a q.data) :
    Completes (.response t src) s fun u =>
      u.sdp.sessions[i].level = lvl ∧ u.sdp.sessions[i].refusals = 0 ∧ u.sdp.sessions[i].challenge = none ∧
      u.replied src i q (.ok []) false := by
  have hr := raiseSession_right (s := s.taken t src i q) hlen (taken_session (t := t) ▸ hbar) hlvl hlow hhigh
    (taken_session (t := t) ▸ hchal) hright
  refine completes_response hst hfree hop hkey htxn hr ?_
  generalize hp : packed q _ _ _ _ _ = p
  refine ⟨?_, ?_, ?_, answerKept_replied hp.symm⟩ <;>
  · rw [answerKept_session, record_sdp, onSession_self]
    rfl

/-- R299: a refused answer is counted and answered. -/
theorem completes_response_refused {y : State} {slot : Nat} {b : Abort} (hst : s.stands src i q) (hfree : s.unhindered i q)
    (hop : q.op = opWrite) (hkey : q.key = keyResponse) (htxn : q.flags.testBit 0 = false)
    (hr : (s.taken t src i q).raiseSession i q.data = (y.raiseRefused i slot, .error b))
    (hcount : y.nv.refusedRaises = s.nv.refusedRaises) (hlevel : y.sdp.sessions[i].level = s.sdp.sessions[i].level)
    (hrefusals : y.sdp.sessions[i].refusals = s.sdp.sessions[i].refusals) (hbar : y.sdp.sessions[i].barUntil = none) :
    Completes (.response t src) s fun u =>
      u.sdp.sessions[i].level = s.sdp.sessions[i].level ∧ u.nv.refusedRaises = s.nv.refusedRaises + 1 ∧
      u.sdp.sessions[i].refusals = (if 2 ≤ s.sdp.sessions[i].refusals then 0 else s.sdp.sessions[i].refusals + 1) ∧
      u.sdp.sessions[i].barUntil = (if 2 ≤ s.sdp.sessions[i].refusals then some (u.clk.now + secs 60) else none) ∧
      u.sdp.sessions[i].challenge = y.sdp.sessions[i].challenge ∧ u.replied src i q (.error b) false := by
  refine completes_response hst hfree hop hkey htxn hr ?_
  generalize hp : packed q _ _ _ _ _ = p
  obtain ⟨hlevel', hcount', hrefusals', huntil, hchal⟩ := raiseRefused_effect (slot := slot) (p := p) (src := src) rfl hbar
  rw [hlevel] at hlevel'
  rw [hcount] at hcount'
  rw [hrefusals] at hrefusals' huntil
  exact ⟨hlevel', hcount', hrefusals', huntil, hchal, answerKept_replied hp.symm⟩

/-- R299: a wrong answer to a challenge. -/
theorem completes_response_wrong {lvl : Nat} {c : List Byte} {a : Time} (hst : s.stands src i q) (hfree : s.unhindered i q)
    (hop : q.op = opWrite) (hkey : q.key = keyResponse) (htxn : q.flags.testBit 0 = false) (hlen : q.data.length = 9)
    (hbar : s.sdp.sessions[i].barUntil = none) (hlvl : lvl = (q.data.head?.getD 0).toNat) (hlow : 1 ≤ lvl) (hhigh : lvl ≤ 3)
    (hchal : s.sdp.sessions[i].challenge = some (c, a)) (hwrong : ¬ (s.taken t src i q).answersRight i lvl c a q.data) :
    Completes (.response t src) s fun u =>
      u.sdp.sessions[i].level = s.sdp.sessions[i].level ∧ u.nv.refusedRaises = s.nv.refusedRaises + 1 ∧
      u.sdp.sessions[i].refusals = (if 2 ≤ s.sdp.sessions[i].refusals then 0 else s.sdp.sessions[i].refusals + 1) ∧
      u.sdp.sessions[i].barUntil = (if 2 ≤ s.sdp.sessions[i].refusals then some (u.clk.now + secs 60) else none) ∧
      u.sdp.sessions[i].challenge = none ∧ u.replied src i q (.error (abChallenge, 0)) false := by
  have hr := raiseSession_wrong (s := s.taken t src i q) hlen (taken_session (t := t) ▸ hbar) hlvl hlow hhigh
    (taken_session (t := t) ▸ hchal) hwrong
  have hsess : ((s.taken t src i q).onSession i fun x => { x with challenge := none }).sdp.sessions[i] =
      { (s.taken t src i q).sdp.sessions[i] with challenge := none } := onSession_self _
  rw [taken_session] at hsess
  have hdone := completes_response_refused hst hfree hop hkey htxn hr (taken_refusedRaises (t := t) (src := src) (i := i) (q := q))
    (congrArg Session.level hsess :)
    (congrArg Session.refusals hsess :) ((congrArg Session.barUntil hsess).trans hbar)
  rw [hsess] at hdone
  exact hdone

/-- R299: an answer to no challenge. -/
theorem completes_response_unchallenged (hst : s.stands src i q) (hfree : s.unhindered i q) (hop : q.op = opWrite)
    (hkey : q.key = keyResponse) (htxn : q.flags.testBit 0 = false) (hlen : q.data.length = 9)
    (hbar : s.sdp.sessions[i].barUntil = none) (hlow : 1 ≤ (q.data.head?.getD 0).toNat) (hhigh : (q.data.head?.getD 0).toNat ≤ 3)
    (hchal : s.sdp.sessions[i].challenge = none) :
    Completes (.response t src) s fun u =>
      u.sdp.sessions[i].level = s.sdp.sessions[i].level ∧ u.nv.refusedRaises = s.nv.refusedRaises + 1 ∧
      u.sdp.sessions[i].refusals = (if 2 ≤ s.sdp.sessions[i].refusals then 0 else s.sdp.sessions[i].refusals + 1) ∧
      u.sdp.sessions[i].barUntil = (if 2 ≤ s.sdp.sessions[i].refusals then some (u.clk.now + secs 60) else none) ∧
      u.sdp.sessions[i].challenge = (s.taken t src i q).sdp.sessions[i].challenge ∧
      u.replied src i q (.error (abChallenge, 0)) false :=
  completes_response_refused hst hfree hop hkey htxn
    (raiseSession_unchallenged hlen (taken_session (t := t) ▸ hbar) hlow hhigh (taken_session (t := t) ▸ hchal))
    taken_refusedRaises taken_level taken_refusals
    (taken_session (t := t) ▸ hbar)

/-- R299: an answer for a level that no answer reaches. -/
theorem completes_response_unreachable (hst : s.stands src i q) (hfree : s.unhindered i q) (hop : q.op = opWrite)
    (hkey : q.key = keyResponse) (htxn : q.flags.testBit 0 = false) (hlen : q.data.length = 9)
    (hbar : s.sdp.sessions[i].barUntil = none) (hlvl : (q.data.head?.getD 0).toNat = 0 ∨ 3 < (q.data.head?.getD 0).toNat) :
    Completes (.response t src) s fun u =>
      u.sdp.sessions[i].level = s.sdp.sessions[i].level ∧ u.nv.refusedRaises = s.nv.refusedRaises + 1 ∧
      u.sdp.sessions[i].refusals = (if 2 ≤ s.sdp.sessions[i].refusals then 0 else s.sdp.sessions[i].refusals + 1) ∧
      u.sdp.sessions[i].barUntil = (if 2 ≤ s.sdp.sessions[i].refusals then some (u.clk.now + secs 60) else none) ∧
      u.sdp.sessions[i].challenge = (s.taken t src i q).sdp.sessions[i].challenge ∧
      u.replied src i q (.error (abUnreachable, 0)) false :=
  completes_response_refused hst hfree hop hkey htxn (raiseSession_unreachable hlen (taken_session (t := t) ▸ hbar) hlvl)
    taken_refusedRaises taken_level taken_refusals
    (taken_session (t := t) ▸ hbar)

/-- R299: an answer while the session is barred. -/
theorem completes_response_barred {b : Time} (hst : s.stands src i q) (hfree : s.unhindered i q) (hop : q.op = opWrite)
    (hkey : q.key = keyResponse) (htxn : q.flags.testBit 0 = false) (hlen : q.data.length = 9)
    (hbar : s.sdp.sessions[i].barUntil = some b) :
    Completes (.response t src) s fun u =>
      u.sdp.sessions[i].level = s.sdp.sessions[i].level ∧ u.sdp.sessions[i].barUntil = some b ∧
      u.nv.refusedRaises = s.nv.refusedRaises ∧
      u.replied src i q (.error (abBarred,
        ((s.at t).unstatedRound (((b - (s.at t).clk.now : Nat) : Rat) / 1000000000)).1.toNat)) false := by
  have hbar' : (s.taken t src i q).sdp.sessions[i].barUntil = some b := taken_session (t := t) ▸ hbar
  have hclk : (s.taken t src i q).clk = (s.at t).clk := taken_same.area .clk rfl
  have hround : ((s.taken t src i q).unstatedRound (((b - (s.at t).clk.now : Nat) : Rat) / 1000000000)).1 =
      ((s.at t).unstatedRound (((b - (s.at t).clk.now : Nat) : Rat) / 1000000000)).1 := by
    have hfreeCount : (s.taken t src i q).freeCount = (s.at t).freeCount := taken_same.area .freeCount rfl
    simp only [State.unstatedRound, hfreeCount, apply_ite Prod.fst]
  have hr := raiseSession_barred (s := s.taken t src i q) hlen hbar'
  rw [hclk, hround] at hr
  refine completes_response hst hfree hop hkey htxn hr ?_
  have hsame := State.unstatedRound_same (s := s.taken t src i q) (w := areaMask [.freeCount])
    (((b - (s.at t).clk.now : Nat) : Rat) / 1000000000) rfl .refl
  generalize hp : packed q _ _ _ _ _ = p
  have hsess : (((s.taken t src i q).unstatedRound (((b - (s.at t).clk.now : Nat) : Rat) / 1000000000)).2.answerKept
      src i p).sdp.sessions[i] = { (s.taken t src i q).sdp.sessions[i] with lastResp := p } := by
    rw [answerKept_session, show _ = _ from hsame.area .sessions rfl]
  refine ⟨?_, ?_, ?_, answerKept_replied hp.symm⟩
  · rw [hsess, taken_session]
  · rw [hsess]
    exact hbar'
  · have h := (State.answerKept_same (w := maskBut .tallies) src i p rfl
      (State.unstatedRound_same (s := s.taken t src i q) (((b - (s.at t).clk.now : Nat) : Rat) / 1000000000) rfl .refl)).only
    simp only [Area.same, Prod.mk.injEq] at h
    obtain ⟨h, -⟩ := h
    exact h.trans taken_refusedRaises

/-! ### The level of a session is lowered (R299) -/

/-- The entry SessionLevel. -/
def levelRow : DRow := ⟨0x1100, 1, 0x01, 1, .u8, .rw, 0, 0, 0, 255, none, false, 0⟩

theorem dictRow_keyLevel : dictRow keyLevel = some levelRow := by
  decide

theorem runCommand_level {v : List Byte} : s.runCommand i keyLevel v w = s.onSession i fun x => { x with level := leNat v } := by
  unfold State.runCommand
  dsimp only
  rw [if_neg (by decide), if_neg (by decide), if_neg (by decide), if_neg (by decide), if_neg (by decide),
    if_neg (by decide), if_neg (by decide), if_neg (by decide), if_neg (by decide), if_neg (by decide), if_pos rfl]

/-- R299: a write of SessionLevel lowers the level. -/
theorem completes_sessionLevel {r : DRow} (hg : s.granted t src i q r) (hkey : q.key = keyLevel) :
    Completes (.sessionLevel t src) s fun u => u.sdp.sessions[i].level = leNat q.data ∧ u.replied src i q (.ok []) false := by
  have happly : (s.staged t src i q).applyWrite i q.key r q.data .whole =
      (s.staged t src i q).onSession i fun x => { x with level := leNat q.data } := by
    obtain ⟨-, -, -, -, -, hrow, -, -⟩ := hg
    rw [hkey] at hrow ⊢
    obtain rfl := Option.some.inj (hrow.symm.trans dictRow_keyLevel)
    rw [State.applyWrite, if_neg (by decide), if_neg (by decide), runCommand_level]
  have hnow : s.commitsNow i q = false := by
    rw [State.commitsNow, hkey, show (keyLevel == keyCommit) = false by decide, Bool.and_false, Bool.false_and]
  have hop : q.op = opWrite := by
    obtain ⟨-, -, hop, -, -, -, -, -⟩ := hg
    exact hop
  refine completes_granted rfl hg hnow ?_ ?_ fun p hreplied => ⟨?_, hreplied⟩
  · exact Bool.and_eq_true_iff.2 ⟨beq_iff_eq.2 hop, beq_iff_eq.2 hkey⟩
  · rw [happly]
    rfl
  · rw [happly, answerKept_session, onSession_self]

/-- Settles O44: OPEN, CLOSE, READ, unknown operations, the challenge and its answers, and the level that is written. -/
theorem sessionsOpenReadAndClose : Obligations.SessionsOpenReadAndClose := by
  unfold Obligations.SessionsOpenReadAndClose
  refine ⟨?_, ?_, ?_, ?_, ?_, ?_, ?_, ?_, ?_, ?_, ?_, ?_⟩
  · intro t src mac tag p i s hsrc hserves hturn hop hform hauth hlen hlow hhigh hfree
    subst hsrc
    exact completes_sdpOpen hserves hturn hop hform hauth hlen hlow hhigh hfree
  · intro t src i q s hst hop
    exact completes_sdpClose hst hop
  · intro t src q s hserves hpayload hturn hparse hlen hver hop
    exact completes_unknownOp hserves hpayload hturn hparse hlen hver hop
  · intro t src i q r v s hst hfree hop hrow hacc htyp hv hlen
    exact completes_sdpRead hst hfree hop hrow hacc htyp hv hlen
  · intro t src i q a s hst hfree hop hrow
    exact completes_sdpRead_missing hst hfree hop hrow
  · intro t src i q s hst hfree hop hkey
    exact completes_challenge hst hfree hop hkey
  · intro t src i q lvl c a s hst hfree hop hkey htxn hlen hlvl hlow hhigh hbar hchal htime hslot htest hmac
    exact completes_response_right hst hfree hop hkey htxn hlen hlvl hlow hhigh hbar hchal
      (taken_answersRight.2 ⟨htime, hslot, htest, hmac⟩)
  · intro t src i q lvl c a s hst hfree hop hkey htxn hlen hbar hlvl hlow hhigh hchal hwrong
    exact completes_response_wrong hst hfree hop hkey htxn hlen hbar hlvl hlow hhigh hchal
      fun h => hwrong (taken_answersRight.1 h)
  · intro t src i q s hst hfree hop hkey htxn hlen hbar hlow hhigh hchal
    obtain ⟨u, hexec, hlevel, hcount, hrefusals, huntil, -, hreplied⟩ :=
      completes_response_unchallenged (t := t) hst hfree hop hkey htxn hlen hbar hlow hhigh hchal
    exact ⟨u, hexec, hlevel, hcount, hrefusals, huntil, hreplied⟩
  · intro t src i q s hst hfree hop hkey htxn hlen hbar hlvl
    obtain ⟨u, hexec, hlevel, hcount, hrefusals, huntil, -, hreplied⟩ :=
      completes_response_unreachable (t := t) hst hfree hop hkey htxn hlen hbar hlvl
    exact ⟨u, hexec, hlevel, hcount, hrefusals, huntil, hreplied⟩
  · intro t src i q b s hst hfree hop hkey htxn hlen hbar
    exact completes_response_barred hst hfree hop hkey htxn hlen hbar
  · intro t src i q r s hg hkey
    exact completes_sessionLevel hg hkey

end Sys2Proof.Machine

/-! Segmented transfers and transactions (R304, R317, R318, R320). -/

namespace Sys2Proof.Machine

variable {s u x : State} {t : Time} {src : SdpSrc} {i j : Fin 5} {q : SdpReq} {w : StoreRun}

/-! ### A request that leaves the journal idle (R318) -/

/-- R318: an answer goes out at once where no journal stands. -/
theorem sentBack_of_idle {a : Answered} {k : Option (List Byte)} (hop : q.op ≠ opClose) (h2 : a.st.nv.journal.state ≠ 2)
    (h3 : a.st.nv.journal.state ≠ 3) : s.sentBack src i q k a =
      a.st.answerKept src i (packed q a.res a.last (a.named.getD q.key) q.sess a.st.sdp.sessions[i].respKey) := by
  unfold State.sentBack
  extract_lets key p sent
  split
  · next h _ => exact absurd h h2
  · next h _ => exact absurd h h2
  · next h _ => exact absurd h h3
  · rw [if_neg fun h => h3 h.1]
    dsimp only [sent, p, key]
    rw [if_neg hop, if_neg hop]

/-- R298, R318: a request that leaves no journal under way or interrupted is executed and answered. -/
theorem completes_request_idle {c : Instr} {want : State → Fin 5 → SdpReq → Bool} {P : State → Prop} {a : Answered}
    (hc : exec c s = .next ((s.at t).serveIf src want w)) (hst : s.stands src i q) (hfree : s.unhindered i q)
    (hop : q.op ≠ opClose) (hwant : want (s.at t) i q = true) (hperf : s.performed t src i q w = a)
    (h2 : a.st.nv.journal.state ≠ 2) (h3 : a.st.nv.journal.state ≠ 3)
    (hP : P (a.st.answerKept src i (packed q a.res a.last (a.named.getD q.key) q.sess a.st.sdp.sessions[i].respKey))) :
    Completes c s P := by
  subst hperf
  refine ⟨_, hc, ?_⟩
  rw [serveIf_of_stands hst hwant (perform_of_unhindered hfree), sentBack_of_idle hop h2 h3]
  exact hP

/-! ### Transfers (R304) -/

/-- R306: of the operations only WRITE, WRITE_SEG and TXN_END need the supervisors. -/
theorem requestNeeds_of_op (hwrite : q.op ≠ opWrite) (hseg : q.op ≠ opWriteSeg) (hend : q.op ≠ opTxnEnd) :
    s.requestNeeds i q = false := by
  rw [State.requestNeeds, if_neg hwrite, if_neg hseg, beq_false_of_ne hend]

theorem taken_xfer : (s.taken t src i q).sdp.sessions[i].xfer = s.sdp.sessions[i].xfer := by
  rw [taken_session]

theorem answerKept_xfer {p : List Byte} : (s.answerKept src i p).sdp.sessions[i].xfer = s.sdp.sessions[i].xfer := by
  rw [answerKept_session]

theorem answerKept_clk {p : List Byte} : (s.answerKept src i p).clk = s.clk :=
  answerKept_same.area .clk rfl

/-- R304: READ_INIT opens a transfer of the entry's value. -/
theorem completes_readInit {r : DRow} {v : List Byte} (hst : s.stands src i q) (hfree : s.unhindered i q) (hop : q.op = opReadInit)
    (hidle : s.sdp.sessions[i].xfer = none) (hrow : findRow q.key = .ok r) (hacc : r.acc ≠ .wo)
    (hv : ((s.taken t src i q).readValue i q.key r).1 = .ok v) :
    Completes (.readInit t src) s fun u =>
      u.sdp.sessions[i].xfer = some { key := q.key, write := false, data := v, size := v.length, next := 0, lastAt := u.clk.now } ∧
      u.replied src i q (.ok (leBytes 4 v.length)) false := by
  have hneeds : s.requestNeeds i q = false := requestNeeds_of_op (by rw [hop]; decide) (by rw [hop]; decide) (by rw [hop]; decide)
  have hread : (s.taken t src i q).execute i q (onNet src) .whole =
      { st := ((s.taken t src i q).readValue i q.key r).2.onSession i fun x => { x with
          xfer := some { key := q.key, write := false, data := v, size := v.length, next := 0, lastAt := (s.taken t src i q).clk.now }
          xferOver := false }
        res := .ok (leBytes 4 v.length) } := by
    unfold State.execute State.doReadInit
    rw [hop, if_neg (by decide), if_neg (by decide), if_neg (by decide), if_pos rfl, taken_xfer, hidle]
    dsimp only [Option.map_none, Option.getD_none]
    rw [if_neg Bool.false_ne_true, hrow]
    dsimp only
    rw [if_neg (by simpa using hacc), hv]
  have hclk : ((s.taken t src i q).readValue i q.key r).2.clk = (s.taken t src i q).clk :=
    (State.readValue_same (w := maskBut .clk) _ _ _ rfl .refl).only
  refine completes_request rfl hst hfree (by rw [hop]; decide) (beq_iff_eq.2 hop) ((performed_of_needs hneeds).trans hread)
    (State.onSession_same _ _ rfl (State.readValue_same _ _ _ rfl .refl)) ⟨?_, answerKept_replied rfl⟩
  rw [answerKept_xfer, answerKept_clk, onSession_self]
  exact congrArg (fun c : Clock =>
    (some { key := q.key, write := false, data := v, size := v.length, next := 0, lastAt := c.now } : Option Xfer)) hclk.symm

/-- R304: READ_SEG of the segment that is due answers its bytes. -/
theorem completes_readSeg {f : Xfer} (hst : s.stands src i q) (hfree : s.unhindered i q) (hop : q.op = opReadSeg)
    (hxfer : s.sdp.sessions[i].xfer = some f) (hread : f.write = false) (hdue : q.segNo = f.next)
    (hopen : f.done (segSize (onNet src)) = false) :
    Completes (.readSeg t src) s fun u =>
      u.sdp.sessions[i].xfer = some { f with next := f.next + 1, lastAt := u.clk.now } ∧
      u.replied src i q (.ok ((f.data.drop (q.segNo * segSize (onNet src))).take (segSize (onNet src))))
        (decide (f.data.length ≤ (q.segNo + 1) * segSize (onNet src))) := by
  have hneeds : s.requestNeeds i q = false := requestNeeds_of_op (by rw [hop]; decide) (by rw [hop]; decide) (by rw [hop]; decide)
  have hexec : (s.taken t src i q).execute i q (onNet src) .whole =
      { st := (s.taken t src i q).onSession i fun x => { x with
          xfer := some { f with next := f.next + 1, lastAt := (s.taken t src i q).clk.now } }
        res := .ok ((f.data.drop (q.segNo * segSize (onNet src))).take (segSize (onNet src)))
        last := decide (f.data.length ≤ (q.segNo + 1) * segSize (onNet src)) } := by
    have hfresh : (q.segNo == f.next && !f.done (segSize (onNet src))) = true := by
      rw [beq_iff_eq.2 hdue, hopen]
      rfl
    unfold State.execute State.doReadSeg
    rw [hop, if_neg (by decide), if_neg (by decide), if_neg (by decide), if_neg (by decide), if_pos rfl]
    dsimp only
    rw [taken_xfer, hxfer]
    dsimp only
    rw [hread, if_neg Bool.false_ne_true, hfresh, if_pos (Bool.true_or _), if_pos rfl]
  refine completes_request rfl hst hfree (by rw [hop]; decide) (beq_iff_eq.2 hop) ((performed_of_needs hneeds).trans hexec)
    (State.onSession_same _ _ rfl .refl) ⟨?_, answerKept_replied rfl⟩
  rw [answerKept_xfer, answerKept_clk, onSession_self]
  rfl

/-- R302: an entry that a session may write. -/
theorem mayWrite_of_row {k : Nat} {r : DRow} (hrow : dictRow k = some r) (hro : r.acc ≠ .ro) (hconst : r.acc ≠ .const)
    (hlevel : r.level ≤ s.sdp.sessions[i].level) : s.mayWrite i k = .ok r := by
  rw [State.mayWrite, findRow_of_dictRow hrow]
  dsimp only
  rw [if_neg (by simp [hro, hconst]), if_neg (Nat.not_lt.2 hlevel)]

/-- R304: WRITE_INIT opens a transfer of its size. -/
theorem completes_writeInit {r : DRow} (hst : s.stands src i q) (hfree : s.unhindered i q) (hop : q.op = opWriteInit)
    (hidle : s.sdp.sessions[i].xfer = none) (htxn : q.flags.testBit 0 = false) (hlen : q.data.length = 4)
    (hrow : dictRow q.key = some r) (hro : r.acc ≠ .ro) (hconst : r.acc ≠ .const) (hlevel : r.level ≤ s.sdp.sessions[i].level)
    (hkey : q.key ≠ keyImage) :
    Completes (.writeInit t src) s fun u =>
      u.sdp.sessions[i].xfer = some { key := q.key, write := true, data := [], size := leNat q.data, next := 0, lastAt := u.clk.now } ∧
      u.replied src i q (.ok []) false := by
  have hneeds : s.requestNeeds i q = false := requestNeeds_of_op (by rw [hop]; decide) (by rw [hop]; decide) (by rw [hop]; decide)
  have hmay : (s.taken t src i q).mayWrite i q.key = .ok r := mayWrite_of_row hrow hro hconst (taken_level.symm ▸ hlevel)
  have hexec : (s.taken t src i q).execute i q (onNet src) .whole =
      { st := (s.taken t src i q).onSession i fun x => { x with
          xfer := some { key := q.key, write := true, data := [], size := leNat q.data, next := 0
                         lastAt := (s.taken t src i q).clk.now, txn := false }
          xferOver := false }
        res := .ok [] } := by
    unfold State.execute State.doWriteInit
    rw [hop, if_neg (by decide), if_neg (by decide), if_neg (by decide), if_neg (by decide), if_neg (by decide), if_pos rfl,
      taken_xfer, hidle, hmay]
    dsimp only [Option.map_none, Option.getD_none]
    rw [if_neg (by simp [hlen]), if_neg Bool.false_ne_true, htxn, if_neg Bool.false_ne_true]
    dsimp only
    rw [if_neg fun h => hkey h.1, beq_false_of_ne hkey]
    rfl
  refine completes_request rfl hst hfree (by rw [hop]; decide) (beq_iff_eq.2 hop) ((performed_of_needs hneeds).trans hexec)
    (State.onSession_same _ _ rfl .refl) ⟨?_, answerKept_replied rfl⟩
  rw [answerKept_xfer, answerKept_clk, onSession_self]
  rfl

/-- R304: a full segment that is due and not the last is kept. -/
theorem completes_writeSeg {f : Xfer} (hst : s.stands src i q) (hfree : s.unhindered i q) (hop : q.op = opWriteSeg)
    (hxfer : s.sdp.sessions[i].xfer = some f) (hwrite : f.write = true) (hdue : q.segNo = f.next)
    (hopen : f.done (segSize (onNet src)) = false) (hmore : q.flags.testBit 2 = false)
    (hfull : q.data.length = segSize (onNet src)) :
    Completes (.writeSeg t src) s fun u =>
      u.sdp.sessions[i].xfer = some { f with data := f.data ++ q.data, next := f.next + 1, lastAt := u.clk.now } ∧
      u.replied src i q (.ok []) false := by
  have hneeds : s.requestNeeds i q = false := by
    rw [State.requestNeeds, if_neg (by rw [hop]; decide), if_pos hop, hmore, Bool.false_and]
  have hexec : (s.taken t src i q).execute i q (onNet src) .whole =
      { st := (s.taken t src i q).onSession i fun x => { x with
          xfer := some { f with data := f.data ++ q.data, next := f.next + 1, lastAt := (s.taken t src i q).clk.now } }
        res := .ok [] } := by
    unfold State.execute State.doWriteSeg
    rw [hop, if_neg (by decide), if_neg (by decide), if_neg (by decide), if_neg (by decide), if_neg (by decide),
      if_neg (by decide), if_pos rfl]
    dsimp only
    rw [taken_xfer, hxfer, hmore]
    dsimp only
    rw [hwrite, if_neg (by decide), if_neg (by omega), hopen, if_neg Bool.false_ne_true, if_neg (not_not_intro hdue),
      if_pos (by decide), if_neg (not_not_intro hfull)]
  refine completes_request rfl hst hfree (by rw [hop]; decide) (beq_iff_eq.2 hop) ((performed_of_needs hneeds).trans hexec)
    (State.onSession_same _ _ rfl .refl) ⟨?_, answerKept_replied rfl⟩
  rw [answerKept_xfer, answerKept_clk, onSession_self]
  rfl

/-- R297: the mailbox has session 0, the network the others. -/
theorem onNet_of_sessionOf (h : s.sessionOf src q = some i) : onNet src = (i != 0) := by
  cases src with
  | mailbox =>
    obtain rfl := sessionOf_mailbox h
    rfl
  | net mac tag p =>
    unfold State.sessionOf at h
    dsimp only at h
    split at h
    · split at h
      · next hok =>
        cases h
        simp only [Bool.and_eq_true, decide_eq_true_eq] at hok
        obtain ⟨⟨hpos, -⟩, -⟩ := hok
        exact (bne_iff_ne.2 fun h0 => Nat.ne_of_gt hpos (congrArg Fin.val h0)).symm
      · cases h
    · cases h

/-- R304: XFER_ABORT ends a transfer that has segments still to come. -/
theorem completes_xferAbort {f : Xfer} (hst : s.stands src i q) (hfree : s.unhindered i q) (hop : q.op = opXferAbort)
    (hxfer : s.sdp.sessions[i].xfer = some f) (hopen : f.done (segSize (onNet src)) = false) :
    Completes (.xferAbort t src) s fun u =>
      u.sdp.sessions[i].xfer = none ∧ u.sdp.sessions[i].xferOver = true ∧ u.replied src i q (.ok []) false := by
  have hneeds : s.requestNeeds i q = false := requestNeeds_of_op (by rw [hop]; decide) (by rw [hop]; decide) (by rw [hop]; decide)
  have hexec : (s.taken t src i q).execute i q (onNet src) .whole =
      { st := ((s.taken t src i q).loadStops i).onSession i fun x => { x with xfer := none, xferOver := true }
        res := .ok [] } := by
    have hopen' : f.done (segSize (i != 0)) = false := by
      obtain ⟨-, -, -, -, -, -, hsess, -, -, -⟩ := hst
      rw [← onNet_of_sessionOf hsess]
      exact hopen
    unfold State.execute State.doXferAbort State.xferGone
    rw [hop, if_neg (by decide), if_neg (by decide), if_neg (by decide), if_neg (by decide), if_neg (by decide),
      if_neg (by decide), if_neg (by decide), if_pos rfl]
    dsimp only
    rw [taken_xfer, hxfer]
    dsimp only [Option.map_some, Option.getD_some]
    rw [if_neg (by rw [hopen']; decide), if_neg (by rw [hopen']; decide)]
  refine completes_request rfl hst hfree (by rw [hop]; decide) (beq_iff_eq.2 hop) ((performed_of_needs hneeds).trans hexec)
    (State.onSession_same _ _ rfl (State.loadStops_same _ rfl .refl)) ⟨?_, ?_, answerKept_replied rfl⟩
  · rw [answerKept_xfer, onSession_self]
  · rw [answerKept_session, onSession_self]

/-! ### Transactions (R317, R318) -/

theorem taken_txn : (s.taken t src i q).sdp.txn = s.sdp.txn :=
  taken_same.area .txn rfl

theorem taken_work : (s.taken t src i q).sdp.work = s.sdp.work :=
  taken_same.area .work rfl

theorem taken_journal : (s.taken t src i q).nv.journal = s.nv.journal := by
  rw [taken_nv, at_nv_journal]

theorem taken_cfg : (s.taken t src i q).nv.cfg = s.nv.cfg := by
  rw [taken_nv, at_nv_cfg]

/-- R317: TXN_BEGIN opens a transaction under the next number. -/
theorem completes_txnBegin (hst : s.stands src i q) (hfree : s.unhindered i q) (hop : q.op = opTxnBegin) (hnone : s.sdp.txn = none)
    (h2 : s.nv.journal.state ≠ 2) (h3 : s.nv.journal.state ≠ 3) :
    Completes (.txnBegin t src) s fun u =>
      u.sdp.txn = some { sess := i, number := s.nv.journal.next, lastAt := u.clk.now } ∧
      u.nv.journal.next = s.nv.journal.next + 1 ∧ u.replied src i q (.ok (leBytes 4 s.nv.journal.next)) false := by
  have hneeds : s.requestNeeds i q = false := requestNeeds_of_op (by rw [hop]; decide) (by rw [hop]; decide) (by rw [hop]; decide)
  have hexec : (s.taken t src i q).execute i q (onNet src) .whole =
      { st := { s.taken t src i q with
          nv := { (s.taken t src i q).nv with journal := { s.nv.journal with next := s.nv.journal.next + 1 } }
          sdp := { (s.taken t src i q).sdp with
            txn := some { sess := i, number := s.nv.journal.next, lastAt := (s.taken t src i q).clk.now } } }
        res := .ok (leBytes 4 s.nv.journal.next) } := by
    unfold State.execute State.doTxnBegin
    rw [hop, if_neg (by decide), if_neg (by decide), if_neg (by decide), if_neg (by decide), if_neg (by decide),
      if_neg (by decide), if_neg (by decide), if_neg (by decide), if_pos rfl]
    dsimp only
    rw [taken_journal, if_neg h3, taken_txn, hnone, beq_false_of_ne h2, if_neg (by decide)]
  refine completes_request_idle rfl hst hfree (by rw [hop]; decide) (beq_iff_eq.2 hop) ((performed_of_needs hneeds).trans hexec)
    h2 h3 ⟨?_, ?_, answerKept_replied rfl⟩
  · rw [show _ = _ from answerKept_same.area .txn rfl, answerKept_clk]
  · rw [show _ = _ from answerKept_same.area .journal rfl]

/-- R317: a write with TXN is held in the transaction and takes effect nowhere. -/
theorem completes_sdpWrite_held {r : DRow} {x : Txn} (hst : s.stands src i q) (hfree : s.unhindered i q) (hop : q.op = opWrite)
    (htxn : q.flags.testBit 0 = true) (hrow : dictRow q.key = some r)
    (hcheck : checkValue s.sdp.sessions[i].level q.key r q.data = none) (hrwt : keyRwt q.key = false) (hx : s.sdp.txn = some x)
    (hsess : x.sess = i) (hroom : x.items.length < 64) :
    Completes (.sdpWrite t src) s fun u =>
      u.sdp.txn = some { x with items := holdItem q.key q.data x.items, lastAt := u.clk.now } ∧ u.sdp.work = s.sdp.work ∧
      u.nv.cfg = s.nv.cfg ∧ u.replied src i q (.ok []) false := by
  have hneeds : s.requestNeeds i q = false := by
    rw [State.requestNeeds, if_pos hop, htxn]
    exact Bool.and_false _
  have hcheck' : checkValue (s.taken t src i q).sdp.sessions[i].level q.key r q.data = none := taken_level.symm ▸ hcheck
  have habort : (s.taken t src i q).txnAbort i q.key = none := by
    unfold State.txnAbort
    rw [taken_txn, hx]
    dsimp only
    rw [if_neg (not_not_intro hsess), hrwt, if_neg Bool.false_ne_true, decide_eq_false (Nat.not_le.2 hroom), Bool.and_false,
      if_neg Bool.false_ne_true]
  have hexec : (s.taken t src i q).execute i q (onNet src) .whole =
      { st := { s.taken t src i q with sdp := { (s.taken t src i q).sdp with
          txn := some { x with items := holdItem q.key q.data x.items, lastAt := (s.taken t src i q).clk.now } } }
        res := .ok [] } := by
    rw [execute_write hop, htxn, State.writeValue, mayWrite_of_checkValue hrow hcheck']
    dsimp only
    rw [typ_of_checkValue hcheck', Bool.not_true, Bool.and_false, if_neg Bool.false_ne_true, Bool.false_and,
      if_neg Bool.false_ne_true, hcheck']
    dsimp only
    rw [if_pos rfl, habort]
    dsimp only
    rw [taken_txn, hx]
    rfl
  refine completes_request rfl hst hfree (by rw [hop]; decide) (beq_iff_eq.2 hop) ((performed_of_needs hneeds).trans hexec)
    (Same.upd (m := areaMask [.txn]) (hw := rfl) (hk := .refl)) ⟨?_, ?_, ?_, answerKept_replied rfl⟩
  · rw [show _ = _ from answerKept_same.area .txn rfl, answerKept_clk]
  · exact (answerKept_same.area .work rfl).trans (taken_work (t := t) (src := src) (i := i) (q := q))
  · exact (answerKept_same.area .stored rfl).trans (taken_cfg (t := t) (src := src) (i := i) (q := q))

/-- R317: TXN_DISCARD drops the transaction. -/
theorem completes_txnDiscard {x : Txn} (hst : s.stands src i q) (hfree : s.unhindered i q) (hop : q.op = opTxnDiscard)
    (hx : s.sdp.txn = some x) (hsess : x.sess = i) :
    Completes (.txnDiscard t src) s fun u =>
      u.sdp.txn = none ∧ u.sdp.work = s.sdp.work ∧ u.replied src i q (.ok []) false := by
  have hneeds : s.requestNeeds i q = false := requestNeeds_of_op (by rw [hop]; decide) (by rw [hop]; decide) (by rw [hop]; decide)
  have hexec : (s.taken t src i q).execute i q (onNet src) .whole =
      { st := { s.taken t src i q with sdp := { (s.taken t src i q).sdp with txn := none } }, res := .ok [] } := by
    unfold State.execute State.doTxnDiscard
    rw [hop, if_neg (by decide), if_neg (by decide), if_neg (by decide), if_neg (by decide), if_neg (by decide),
      if_neg (by decide), if_neg (by decide), if_neg (by decide), if_neg (by decide), if_neg (by decide), taken_txn, hx]
    dsimp only
    rw [if_pos hsess]
  refine completes_request rfl hst hfree (by rw [hop]; decide) (beq_iff_eq.2 hop) ((performed_of_needs hneeds).trans hexec)
    (Same.upd (m := areaMask [.txn]) (hw := rfl) (hk := .refl)) ⟨?_, ?_, answerKept_replied rfl⟩
  · rw [show _ = _ from answerKept_same.area .txn rfl]
  · exact (answerKept_same.area .work rfl).trans (taken_work (t := t) (src := src) (i := i) (q := q))

/-! ### The journal runs to its end (R318, R320) -/

/-- R318: what of a journal stands as it was opened. -/
def Journal.opened (j : Journal) : Nat × List (Nat × List Byte × List Byte) × Bool := (j.number, j.items, j.back)

/-- R318: the store writes mark the entries and leave the rest of the journal. -/
theorem journalWrite_opened {l : List (Nat × Nat × List Byte)} : (s.journalWrite l).nv.journal.opened = s.nv.journal.opened :=
  each_view (g := fun s => s.nv.journal.opened) fun x p => by
    have hstored : (x.when (cfgKey p.2.1) fun s => s.storeEntry p.2.1 p.2.2).nv.journal = x.nv.journal :=
      when_view (g := fun s => s.nv.journal) rfl
    exact (congrArg Journal.opened hstored :)

/-- R318: a journal whose store writes are done is idle. -/
theorem journalDone_journal : s.journalDone.nv.journal =
    { (s.journalWrite s.nv.journal.todo).nv.journal with state := 0, cause := 0, time := 0 } := by
  unfold State.journalDone
  extract_lets j s1 vals s2
  have h2 : s2.nv.journal = s1.nv.journal := when_view (g := fun s => s.nv.journal) rfl
  have hconfig : (s2.applyConfig (changesOf vals)).nv.journal = s2.nv.journal :=
    (State.applyConfig_same (w := maskBut .journal) _ rfl .refl).only
  rw [hconfig, h2]
  rfl

theorem journalDone_state : s.journalDone.nv.journal.state = 0 :=
  congrArg Journal.state journalDone_journal

theorem journalDone_opened : s.journalDone.nv.journal.opened = s.nv.journal.opened :=
  (congrArg Journal.opened journalDone_journal).trans journalWrite_opened

theorem journalDone_txn : s.journalDone.sdp.txn = s.sdp.txn :=
  (State.journalDone_same (w := maskBut .txn) rfl .refl).only

/-- R318: TXN_END of settings that the supervisors accept leaves no transaction and an idle journal of its number. -/
theorem completes_txnEnd {x : Txn} (hst : s.stands src i q) (hfree : s.unhindered i q) (hop : q.op = opTxnEnd)
    (hx : s.sdp.txn = some x) (hsess : x.sess = i) (hsettings : x.items.all (fun e => cfgKey e.1) = true)
    (haccepted : (s.staged t src i q).bothJudgeTxn (fun v => (s.staged t src i q).judgeTxn v i x.items) = none) :
    Completes (.txnEnd t src .whole) s fun u =>
      u.sdp.txn = none ∧ u.nv.journal.state = 0 ∧ u.nv.journal.number = x.number ∧
      u.nv.journal.items.map (fun e => (e.1, e.2.2)) = x.items ∧ u.replied src i q (.ok []) false := by
  have hnow : s.commitsNow i q = false := by
    rw [State.commitsNow, hop]
    rfl
  generalize hz : s.staged t src i q = z at haccepted
  have htxn : z.sdp.txn = some x := by
    rw [← hz, show _ = _ from staged_same.area .txn rfl, taken_txn, hx]
  have hnone : (x.items.filter fun e => !cfgKey e.1) = [] := by
    refine List.filter_eq_nil_iff.2 fun e he => ?_
    rw [List.all_eq_true.1 hsettings e he]
    decide
  generalize hy : ((z.openJournal x.number x.items).applyTxn x.items) = y
  have hexec : z.execute i q (onNet src) .whole = { st := ({ y with sdp := { y.sdp with txn := none } } : State).journalDone, res := .ok [] } := by
    unfold State.execute State.doTxnEnd
    rw [hop, if_neg (by decide), if_neg (by decide), if_neg (by decide), if_neg (by decide), if_neg (by decide),
      if_neg (by decide), if_neg (by decide), if_neg (by decide), if_neg (by decide), if_pos rfl, htxn]
    dsimp only
    rw [if_neg (not_not_intro hsess), haccepted]
    dsimp only
    unfold State.runTxn
    dsimp only
    rw [hnone, hy]
    rfl
  have hperf := (performed_of_staged (t := t) (src := src) (w := .whole) hnow).trans (hz ▸ hexec)
  have hjournal : y.nv.journal = (z.openJournal x.number x.items).nv.journal :=
    hy ▸ (State.applyTxn_same (w := maskBut .journal) _ rfl .refl).only
  have hopened : y.nv.journal.opened = (z.openJournal x.number x.items).nv.journal.opened := congrArg Journal.opened hjournal
  generalize hm : ({ y with sdp := { y.sdp with txn := none } } : State).journalDone = m at hperf
  have hstate : m.nv.journal.state = 0 := hm ▸ journalDone_state
  have hdone : m.nv.journal.opened = (z.openJournal x.number x.items).nv.journal.opened := (hm ▸ journalDone_opened).trans hopened
  have hgone : m.sdp.txn = none := hm ▸ journalDone_txn
  refine completes_request_idle rfl hst hfree (by rw [hop]; decide) (beq_iff_eq.2 hop) hperf (by simp [hstate]) (by simp [hstate])
    ⟨?_, ?_, ?_, ?_, answerKept_replied rfl⟩
  · exact (answerKept_same.area .txn rfl).trans hgone
  · rw [show _ = _ from answerKept_same.area .journal rfl, hstate]
  · rw [show _ = _ from answerKept_same.area .journal rfl]
    exact congrArg Prod.fst hdone
  · rw [show _ = _ from answerKept_same.area .journal rfl, show m.nv.journal.items = _ from congrArg (fun o => o.2.1) hdone]
    change (x.items.map _).map _ = x.items
    rw [List.map_map]
    exact List.map_id _

/-- R320: what a journal that is rolled back or run again leaves. -/
theorem resolve_effect {back : Bool} (hu : s.resolve back .whole = u) :
    u.nv.journal.state = 0 ∧ u.nv.journal.back = back := by
  generalize hz : ({ s with nv := { s.nv with journal := { s.nv.journal with state := 2, back := back } } } : State) = z
  have hrun : z.journalDone = u := by
    rw [← hu, ← hz]
    rfl
  have hopened : u.nv.journal.opened = z.nv.journal.opened := hrun ▸ journalDone_opened
  have hback : z.nv.journal.back = back := by
    rw [← hz]
  exact ⟨hrun ▸ journalDone_state, (congrArg (fun o => o.2.2) hopened).trans hback⟩

/-- R320: an interrupted journal is resolved by a write of 1. -/
theorem completes_resolve {c : Instr} {r : DRow} {f : Nat → Bool} {back : Bool}
    (hc : exec c s = .next ((s.at t).serveIf src (wantWrite f))) (hg : s.granted t src i q r) (hwant : f q.key = true)
    (hcommit : q.key ≠ keyCommit) (hrun : (s.staged t src i q).applyWrite i q.key r q.data .whole = (s.staged t src i q).resolve back .whole) :
    Completes c s fun u => u.nv.journal.state = 0 ∧ u.nv.journal.back = back ∧ u.replied src i q (.ok []) false := by
  have hnow : s.commitsNow i q = false := by
    rw [State.commitsNow, beq_false_of_ne hcommit, Bool.and_false, Bool.false_and]
  have hperf := (performed_of_staged (t := t) (src := src) (w := .whole) hnow).trans ((execute_of_granted hg).trans
    (congrArg (fun y => { st := y, res := .ok [] : Answered }) hrun))
  obtain ⟨hst, hfree, hop, -, -, -, -, -⟩ := hg
  generalize hm : (s.staged t src i q).resolve back .whole = m at hperf
  obtain ⟨hstate, hback⟩ := resolve_effect hm
  refine completes_request_idle hc hst hfree (by rw [hop]; decide) (Bool.and_eq_true_iff.2 ⟨beq_iff_eq.2 hop, hwant⟩) hperf
    (by simp [hstate]) (by simp [hstate]) ⟨?_, ?_, answerKept_replied rfl⟩
  · rw [show _ = _ from answerKept_same.area .journal rfl, hstate]
  · rw [show _ = _ from answerKept_same.area .journal rfl, hback]

/-- The entry Rollback. -/
def rollbackRow : DRow := ⟨0x5F00, 1, 0x08, 1, .bool, .wo, 1, 0, 0, 1, none, false, 0⟩

/-- The entry Rerun. -/
def rerunRow : DRow := ⟨0x5F00, 1, 0x09, 1, .bool, .wo, 1, 0, 0, 1, none, false, 0⟩

theorem runCommand_rollback : s.runCommand i keyRollback [1] w = s.resolve true w := by
  unfold State.runCommand
  dsimp only
  rw [if_neg (by decide), if_neg (by decide), if_neg (by decide), if_neg (by decide), if_neg (by decide),
    if_neg (by decide), if_neg (by decide), if_neg (by decide), if_pos rfl]
  rfl

theorem runCommand_rerun : s.runCommand i keyRerun [1] w = s.resolve false w := by
  unfold State.runCommand
  dsimp only
  rw [if_neg (by decide), if_neg (by decide), if_neg (by decide), if_neg (by decide), if_neg (by decide),
    if_neg (by decide), if_neg (by decide), if_neg (by decide), if_neg (by decide), if_pos rfl]
  rfl

/-- R306: an entry that is no setting and no two-key entry runs its command. -/
theorem applyWrite_command {k : Nat} {r : DRow} {v : List Byte} (hrwt : (r.acc == .rwt) = false) (hcfg : cfgKey k = false) :
    s.applyWrite i k r v w = s.runCommand i k v w := by
  rw [State.applyWrite, hrwt, hcfg]
  rfl

theorem row_of_granted {r : DRow} (hg : s.granted t src i q r) : dictRow q.key = some r := by
  obtain ⟨-, -, -, -, -, hrow, -, -⟩ := hg
  exact hrow

/-- R320: ROLLBACK of an interrupted journal. -/
theorem completes_rollback {r : DRow} (hg : s.granted t src i q r) (hkey : q.key = keyRollback) (hdata : q.data = [1]) :
    Completes (.rollback t src .whole) s fun u =>
      u.nv.journal.state = 0 ∧ u.nv.journal.back = true ∧ u.replied src i q (.ok []) false := by
  have hrow := row_of_granted hg
  rw [hkey, show dictRow keyRollback = some rollbackRow by decide] at hrow
  obtain rfl := Option.some.inj hrow
  refine completes_resolve rfl hg (beq_iff_eq.2 hkey) (by rw [hkey]; decide) ?_
  rw [hkey, hdata, applyWrite_command rfl (by decide), runCommand_rollback]

/-- R320: RERUN of an interrupted journal. -/
theorem completes_rerun {r : DRow} (hg : s.granted t src i q r) (hkey : q.key = keyRerun) (hdata : q.data = [1]) :
    Completes (.rerun t src .whole) s fun u =>
      u.nv.journal.state = 0 ∧ u.nv.journal.back = false ∧ u.replied src i q (.ok []) false := by
  have hrow := row_of_granted hg
  rw [hkey, show dictRow keyRerun = some rerunRow by decide] at hrow
  obtain rfl := Option.some.inj hrow
  refine completes_resolve rfl hg (beq_iff_eq.2 hkey) (by rw [hkey]; decide) ?_
  rw [hkey, hdata, applyWrite_command rfl (by decide), runCommand_rerun]

/-- Settles O45: every operation of a transfer and of a transaction does what it names. -/
theorem transfersAndTransactionsRun : Obligations.TransfersAndTransactionsRun := by
  unfold Obligations.TransfersAndTransactionsRun
  refine ⟨?_, ?_, ?_, ?_, ?_, ?_, ?_, ?_, ?_, ?_, ?_⟩
  · intro t src i q r v s hst hfree hop hidle hrow hacc hv
    exact completes_readInit hst hfree hop hidle hrow hacc hv
  · intro t src i q f s hst hfree hop hxfer hread hdue hopen
    exact completes_readSeg hst hfree hop hxfer hread hdue hopen
  · intro t src i q r s hst hfree hop hidle htxn hlen hrow hro hconst hlevel hkey
    exact completes_writeInit hst hfree hop hidle htxn hlen hrow hro hconst hlevel hkey
  · intro t src i q f s hst hfree hop hxfer hwrite hdue hopen hmore hfull
    exact completes_writeSeg hst hfree hop hxfer hwrite hdue hopen hmore hfull
  · intro t src i q f s hst hfree hop hxfer hopen
    exact completes_xferAbort hst hfree hop hxfer hopen
  · intro t src i q s hst hfree hop hnone h2 h3
    exact completes_txnBegin hst hfree hop hnone h2 h3
  · intro t src i q r x s hst hfree hop htxn hrow hcheck hrwt hx hsess hroom
    exact completes_sdpWrite_held hst hfree hop htxn hrow hcheck hrwt hx hsess hroom
  · intro t src i q x s hst hfree hop hx hsess _ hsettings haccepted
    exact completes_txnEnd hst hfree hop hx hsess hsettings haccepted
  · intro t src i q x s hst hfree hop hx hsess
    exact completes_txnDiscard hst hfree hop hx hsess
  · intro t src i q r s hg hkey hdata _
    exact completes_rollback hg hkey hdata
  · intro t src i q r s hg hkey hdata _
    exact completes_rerun hg hkey hdata

end Sys2Proof.Machine

/-! Writes that take effect: settings, two-key entries that join the pending set, and the entries that command (R102, R283, R303,
R306, R307, R310, R313, R315, R316, R341, R342). -/

namespace Sys2Proof.Machine

variable {s u x : State} {t : Time} {src : SdpSrc} {i j : Fin 5} {q : SdpReq} {w : StoreRun} {v : Fin 2} {c : Fin 16}

/-! ### What stands after the step of the supervisors -/

theorem staged_session_eq : (s.staged t src i q).sdp.sessions[i] = { s.sdp.sessions[i] with
    reqId := some q.reqId
    lastReq := q.whole
    lastResp := []
    before := some (s.sdp.sessions[i].reqId, s.sdp.sessions[i].lastReq, s.sdp.sessions[i].lastResp)
    lastAt := (s.at t).clk.now } :=
  staged_session.trans taken_session

theorem staged_work : (s.staged t src i q).sdp.work = s.sdp.work := by
  rw [show _ = _ from staged_same.area .work rfl, taken_work]

theorem staged_waiting : (s.staged t src i q).nv.waiting = s.nv.waiting ∧ (s.staged t src i q).nv.nextSet = s.nv.nextSet := by
  have h := staged_same (s := s) (t := t) (src := src) (i := i) (q := q) |>.area .waitingSets rfl
  simp only [Area.same, Prod.mk.injEq] at h
  obtain ⟨hwaiting, hnext⟩ := h
  rw [hwaiting, hnext, taken_nv, at_nv_waiting, at_nv_nextSet]
  exact ⟨rfl, rfl⟩

theorem staged_mem : (s.staged t src i q).nv.mem = s.nv.mem := by
  rw [show _ = _ from staged_same.area .recMem rfl, taken_nv, at_nv_mem]

/-- The entry PendingCommit. -/
def commitRow : DRow := ⟨0x4010, 1, 0x01, 1, .u32, .wo, 1, 0, 0, 4294967295, none, false, 0⟩

theorem answerKept_waiting {p : List Byte} : (s.answerKept src i p).nv.waiting = s.nv.waiting := by
  have h := answerKept_same (s := s) (src := src) (i := i) (p := p) |>.area .waitingSets rfl
  simp only [Area.same, Prod.mk.injEq] at h
  obtain ⟨h, -⟩ := h
  exact h

theorem answerKept_nextSet {p : List Byte} : (s.answerKept src i p).nv.nextSet = s.nv.nextSet := by
  have h := answerKept_same (s := s) (src := src) (i := i) (p := p) |>.area .waitingSets rfl
  simp only [Area.same, Prod.mk.injEq] at h
  obtain ⟨-, h⟩ := h
  exact h

/-! ### Settings and two-key entries (R306, R307, R313) -/

theorem commitsNow_of_key (h : q.key ≠ keyCommit) : s.commitsNow i q = false := by
  rw [State.commitsNow, beq_false_of_ne h, Bool.and_false, Bool.false_and]

theorem op_of_granted {r : DRow} (hg : s.granted t src i q r) : q.op = opWrite := by
  obtain ⟨-, -, hop, -, -, -, -, -⟩ := hg
  exact hop

/-- R307: the working configuration after a change of configuration. -/
theorem applyConfig_work {l : List Change} : (s.applyConfig l).sdp.work = workWith s.sdp.work l := by
  unfold State.applyConfig
  extract_lets keys s1 hit s2 s3 s4
  have hsame : Same (maskBut .work) s1 s4.publishAll :=
    State.publishAll_same rfl (State.each_same (State.each_same (State.configHooks_same _ _ rfl .refl)
      fun _ _ k => State.strikeSec_same _ rfl k) fun _ _ k => State.each_same k fun _ _ k => State.configStep_same _ _ rfl k)
  exact hsame.only

/-- R306: the store holds a setting that is written. -/
theorem storeChanges_setting {k : Nat} {val : List Byte} (hcfg : cfgKey k = true) :
    s.storeChanges [(k, some val)] = s.storeEntry k val := by
  unfold State.storeChanges
  rw [show [(k, some val)].filter (fun c : Change => cfgKey c.1) = [(k, some val)] from List.filter_cons_of_pos hcfg]
  rfl

/-- R306, R307: a setting that is written is the working value and the stored one. -/
theorem completes_sdpWrite_setting {r : DRow} (hg : s.granted t src i q r) (hcfg : cfgKey q.key = true) (hacc : r.acc ≠ .rwt) :
    Completes (.sdpWrite t src) s fun u =>
      kvGet q.key u.sdp.work = some q.data ∧ kvGet q.key u.nv.cfg = some q.data ∧ u.replied src i q (.ok []) false := by
  have hne : q.key ≠ keyCommit := by
    intro h
    rw [h] at hcfg
    exact absurd hcfg (by decide)
  generalize hz : s.staged t src i q = z
  have happly : z.applyWrite i q.key r q.data .whole = (z.storeEntry q.key q.data).applyConfig [(q.key, some q.data)] := by
    rw [State.applyWrite, if_neg (by simpa using hacc), if_pos hcfg]
    dsimp only
    rw [storeChanges_setting hcfg]
  refine completes_granted (w := .whole) rfl hg (commitsNow_of_key hne) (beq_iff_eq.2 (op_of_granted hg)) ?_ fun p hreplied =>
    ⟨?_, ?_, hreplied⟩
  · rw [hz, happly]
    exact (State.applyConfig_same (w := maskBut .journal) _ rfl (State.storeEntry_same _ _ rfl .refl)).only
  · rw [hz, happly, show _ = _ from answerKept_same.area .work rfl, applyConfig_work]
    exact kvGet_kvSet_self _
  · have hstored : ((z.storeEntry q.key q.data).applyConfig [(q.key, some q.data)]).nv.cfg = (z.storeEntry q.key q.data).nv.cfg :=
      (State.applyConfig_same (w := maskBut .stored) _ rfl .refl).only
    rw [hz, happly, show _ = _ from answerKept_same.area .stored rfl, hstored]
    exact kvGet_kvSet_self _

/-- R313, R315: a two-key entry that is written joins the pending set of its session. -/
theorem completes_sdpWrite_pending {r : DRow} (hg : s.granted t src i q r) (hacc : r.acc = .rwt) :
    Completes (.sdpWrite t src) s fun u =>
      kvGet q.key u.sdp.sessions[i].pending = some q.data ∧ u.sdp.sessions[i].pendAt = u.clk.now ∧
      kvGet q.key u.sdp.work = kvGet q.key s.sdp.work ∧ u.replied src i q (.ok []) false := by
  have hne : q.key ≠ keyCommit := by
    intro h
    have hrow := row_of_granted hg
    rw [h, show dictRow keyCommit = some commitRow by decide] at hrow
    obtain rfl := Option.some.inj hrow
    exact absurd hacc (by decide)
  generalize hz : s.staged t src i q = z
  have happly : z.applyWrite i q.key r q.data .whole =
      z.onSession i fun x => { x with pending := kvSet q.key q.data x.pending, pendAt := z.clk.now } := by
    rw [State.applyWrite, if_pos (beq_iff_eq.2 hacc)]
  refine completes_granted (w := .whole) rfl hg (commitsNow_of_key hne) (beq_iff_eq.2 (op_of_granted hg)) ?_ fun p hreplied =>
    ⟨?_, ?_, ?_, hreplied⟩
  · rw [hz, happly]
    rfl
  · rw [hz, happly, answerKept_session, onSession_self]
    exact kvGet_kvSet_self _
  · rw [hz, happly, answerKept_session, onSession_self, answerKept_clk]
    rfl
  · rw [hz, happly, show _ = _ from answerKept_same.area .work rfl]
    exact congrArg (kvGet q.key) (hz ▸ staged_work)

/-! ### Entries that command -/

/-- R306: an entry that is none of the settings commands: what a granted write to it does. -/
theorem completes_command {c : Instr} {f : Nat → Bool} {P : State → Prop} {r row : DRow} {k : Nat}
    (hc : exec c s = .next ((s.at t).serveIf src (wantWrite f))) (hg : s.granted t src i q r) (hkey : q.key = k)
    (hrow : dictRow k = some row) (hrwt : (row.acc == .rwt) = false) (hcfg : cfgKey k = false)
    (hnow : s.commitsNow i q = false) (hwant : f k = true)
    (hjournal : Same (maskBut .journal) (s.staged t src i q) ((s.staged t src i q).runCommand i k q.data .whole))
    (hP : ∀ p, (((s.staged t src i q).runCommand i k q.data .whole).answerKept src i p).replied src i q (.ok []) false →
      P (((s.staged t src i q).runCommand i k q.data .whole).answerKept src i p)) : Completes c s P := by
  subst hkey
  obtain rfl := Option.some.inj ((row_of_granted hg).symm.trans hrow)
  have happly : (s.staged t src i q).applyWrite i q.key r q.data .whole = (s.staged t src i q).runCommand i q.key q.data .whole :=
    applyWrite_command hrwt hcfg
  refine completes_granted (w := .whole) hc hg hnow (Bool.and_eq_true_iff.2 ⟨beq_iff_eq.2 (op_of_granted hg), hwant⟩) ?_ ?_
  · rw [happly]
    exact hjournal.only
  · rw [happly]
    exact hP

theorem runCommand_discard : s.runCommand i keyDiscard [1] w = s.onSession i fun x => { x with pending := [] } := by
  unfold State.runCommand
  dsimp only
  rw [if_neg (by decide), if_neg (by decide), if_neg (by decide), if_neg (by decide), if_neg (by decide), if_pos rfl]
  rfl

theorem runCommand_cancel {val : List Byte} : s.runCommand i keyCancel val w =
    { s with nv := { s.nv with waiting := s.nv.waiting.filter fun w => w.number != leNat val } } := by
  unfold State.runCommand
  dsimp only
  rw [if_neg (by decide), if_neg (by decide), if_neg (by decide), if_neg (by decide), if_neg (by decide),
    if_neg (by decide), if_pos rfl]

theorem runCommand_advance : s.runCommand i keyAdvance [1] w = s.onSession i fun x =>
    { x with recCursor := if x.recCursor < s.nv.mem.recs.length then x.recCursor + 1 else x.recCursor, recStale := false } := by
  unfold State.runCommand
  dsimp only
  rw [if_neg (by decide), if_neg (by decide), if_neg (by decide), if_neg (by decide), if_neg (by decide),
    if_neg (by decide), if_neg (by decide), if_neg (by decide), if_neg (by decide), if_neg (by decide), if_neg (by decide),
    if_neg (by decide), if_pos rfl]
  rfl

theorem runCommand_scanNow {val : List Byte} (hval : leNat val = c.val) : s.runCommand i keyScanNow val w = s.scanDue c := by
  unfold State.runCommand
  dsimp only
  rw [if_neg (by decide), if_neg (by decide), if_pos rfl, dif_pos (hval ▸ c.isLt)]
  exact congrArg s.scanDue (Fin.ext hval)

theorem runCommand_proofNow {val : List Byte} (hval : leNat val = c.val) : s.runCommand i keyProofNow val w =
    s.onProof c fun p => { p with due := true, dueAt := s.clk.now, doneAt := none } := by
  unfold State.runCommand
  dsimp only
  rw [if_neg (by decide), if_neg (by decide), if_neg (by decide), if_pos rfl, dif_pos (hval ▸ c.isLt)]
  exact congrArg (fun c => s.onProof c fun p => { p with due := true, dueAt := s.clk.now, doneAt := none }) (Fin.ext hval)

theorem runCommand_release {val : List Byte} : s.runCommand i keyRelease val w = s.releaseOverrides (leNat val) := by
  unfold State.runCommand
  dsimp only
  rw [if_neg (by decide), if_pos rfl]

theorem runCommand_commit {val : List Byte} : s.runCommand i keyCommit val w = s.commit i := by
  unfold State.runCommand
  dsimp only
  rw [if_neg (by decide), if_neg (by decide), if_neg (by decide), if_neg (by decide), if_pos rfl]

/-! ### The latch of braking loss (R283) -/

/-- R283: an evaluation step takes the blocks of a stage with short-circuit braking. -/
theorem brakeStep_trac (n : Fin 4) : (s.brakeStep n).trac = updV s.trac n fun a => { a with braked := [] } := by
  unfold State.brakeStep
  exact each_view (fun s => s.trac) fun x b => (State.pulse_same (w := maskBut .traction) _ rfl (State.record_same _ _ _ _ rfl
    (Same.upd (m := areaMask [.keeperRest]) (hw := rfl) (hk := .refl)))).only

theorem brakeSteps_braked (n : Fin 4) : (State.each s sections fun s n => s.brakeStep n).trac[n].braked = [] :=
  each_of_mem (I := fun _ => True) (Q := fun x => x.trac[n].braked = []) (fun _ _ _ => trivial)
    (fun x _ => by rw [brakeStep_trac, updV_self])
    (fun x m _ h => by
      rw [brakeStep_trac]
      by_cases hm : n = m
      · subst hm
        rw [updV_self]
      · rw [updV_other _ _ hm]
        exact h)
    (List.mem_finRange n) trivial

theorem publish_braked (n : Fin 4) : s.publish.trac[n].braked = [] := by
  unfold State.publish
  extract_lets s1 s2
  have hsame : Same (maskBut .traction) s1 s2.attestEntries.checkpointDue.requalify :=
    State.requalify_same rfl (State.checkpointDue_same rfl (State.attestEntries_same rfl
      (State.each_same .refl fun _ _ k => State.mergeSec_same _ rfl k)))
  rw [show _ = _ from hsame.only]
  exact brakeSteps_braked n

theorem evalStep_braked (n : Fin 4) (h : s.evaluates v = true) : (s.evalStep v).trac[n].braked = [] := by
  obtain ⟨x, k, hx⟩ := exists_evalBack_eq_votesCast (s := (s.evalFront v).1) (s.evalFront v).2 ((evalFront_evaluates v).trans h)
  rw [State.evalStep, hx, show _ = _ from (State.managePower_same (w := maskBut .traction) rfl .refl).only]
  exact publish_braked n

/-- R283: after an evaluation step no block with short-circuit braking waits. -/
theorem evalBoth_braked (n : Fin 4) (h : s.evaluates 0 = true ∨ s.evaluates 1 = true) : s.evalBoth.trac[n].braked = [] := by
  rw [State.evalBoth]
  cases h1 : (s.evalStep 0).evaluates 1 with
  | true => exact evalStep_braked n h1
  | false =>
    rw [evalStep_of_not h1]
    cases h0 : s.evaluates 0 with
    | true => exact evalStep_braked n h0
    | false =>
      rw [evalStep_of_not h0] at h1
      exact absurd h (by rw [h0, h1]; decide)

theorem brakeStep_braking {n : Fin 4} (h : s.trac[n].braked = []) : (s.brakeStep n).keep.braking = s.keep.braking := by
  unfold State.brakeStep
  rw [h, ite_self]
  rfl

theorem brakeSteps_braking {l : List (Fin 4)} (h : ∀ n : Fin 4, s.trac[n].braked = []) :
    (State.each s l fun s n => s.brakeStep n).keep.braking = s.keep.braking := by
  induction l generalizing s with
  | nil => rfl
  | cons n l ih =>
    refine (ih fun m => ?_).trans (brakeStep_braking (h n))
    rw [brakeStep_trac]
    by_cases hm : m = n
    · subst hm
      rw [updV_self]
    · rw [updV_other _ _ hm]
      exact h m

theorem braking_of_same {m : Nat} (h : Same m s u) (hrest : m.testBit Area.keeperRest.ctorIdx = false) : u.keep.braking = s.keep.braking := by
  have h := h.area .keeperRest hrest
  simp only [Area.same, Prod.mk.injEq] at h
  obtain ⟨h, -⟩ := h
  exact h

theorem mergedEntry_braking {n : Fin 4} {st old : SecState} : (s.mergedEntry n st old).keep.braking = s.keep.braking := by
  unfold State.mergedEntry
  extract_lets p s1 s2 s3 s4
  have h1 : s1.keep.braking = s.keep.braking :=
    braking_of_same (m := areaMask [.pulses, .offered]) (State.pulse_same _ rfl (State.record_same _ _ _ _ rfl .refl)) rfl
  have h3 : s3.keep.braking = s1.keep.braking := when_view (fun s => s.keep.braking) rfl
  have h4 : s4.keep.braking = s3.keep.braking :=
    (when_view (fun s => s.keep.braking) rfl).trans (when_view (fun s => s.keep.braking) rfl)
  refine (when_view (fun s => s.keep.braking) ?_).trans (h4.trans (h3.trans h1))
  exact braking_of_same (State.sweepRebase_same (w := maskBut .keeperRest) _ rfl .refl) rfl

theorem mergeSec_braking {n : Fin 4} : (s.mergeSec n).keep.braking = s.keep.braking := by
  unfold State.mergeSec
  extract_lets old new s1 s2 s3 s4 s5
  split
  · rfl
  · have h2 : s2.keep.braking = s1.keep.braking := when_view (fun s => s.keep.braking) mergedEntry_braking
    have h5 : Same (areaMask [.words, .kin, .pulses, .offered, .freeCount]) s2 (s5.kinMerged n (new.bal == 0 && old.bal != 0)) :=
      State.kinMerged_same _ _ rfl (State.when_same (State.when_same (State.when_same .refl
        fun _ k => State.pulse_same _ rfl (State.record_same _ _ _ _ rfl k)) fun _ k => State.publishWord_same _ _ rfl k)
        fun _ k => State.kinProvisional_same _ rfl k)
    exact (braking_of_same h5 rfl).trans h2

theorem mergeSecs_braking {l : List (Fin 4)} : (State.each s l fun s n => s.mergeSec n).keep.braking = s.keep.braking :=
  each_view (fun s => s.keep.braking) fun _ _ => mergeSec_braking

theorem afterMerge_braking : s.attestEntries.checkpointDue.requalify.keep.braking = s.keep.braking :=
  braking_of_same (m := areaMask [.ledger, .ckptRun, .pulses, .permits]) (State.requalify_same rfl (State.checkpointDue_same rfl
    (State.attestEntries_same rfl .refl))) rfl

/-- R283: where no block waits, what is published leaves the latch as it is. -/
theorem publishAll_braking (h : ∀ n : Fin 4, s.trac[n].braked = []) : s.publishAll.keep.braking = s.keep.braking := by
  have h0 : Same (areaMask [.supervisors]) s (State.each s s.serving fun s v => s.proposeBits v) :=
    State.each_same .refl fun _ v k => State.proposeBits_same v rfl k
  unfold State.publishAll
  generalize (State.each s s.serving fun s v => s.proposeBits v) = s0 at h0 ⊢
  have h0' : ∀ n : Fin 4, s0.trac[n].braked = [] := fun n => by
    rw [show s0.trac = s.trac from h0.area .traction rfl]
    exact h n
  unfold State.publish
  dsimp only
  rw [afterMerge_braking, mergeSecs_braking, brakeSteps_braking h0', braking_of_same h0 rfl]

/-! ### What scans are due (R102) -/

/-- R102: which scan is due, and since when. -/
def State.dues (s : State) (c : Fin 16) : Bool × Time := (s.fe.scans[c].due, s.fe.scans[c].dueAt)

theorem dues_of_same {m : Nat} (h : Same m s u) (hscans : m.testBit Area.scans.ctorIdx = false) : u.dues = s.dues := by
  unfold State.dues
  rw [show u.fe.scans = s.fe.scans from h.area .scans hscans]

theorem dues_of_scans (h : u.fe.scans = s.fe.scans) : u.dues = s.dues := by
  unfold State.dues
  rw [h]

theorem onScan_dues {f : Scan → Scan} (hf : ∀ k, (f k).due = k.due ∧ (f k).dueAt = k.dueAt) : (s.onScan c f).dues = s.dues := by
  funext d
  unfold State.dues State.onScan
  by_cases h : d = c
  · subst h
    obtain ⟨hdue, hat⟩ := hf s.fe.scans[d]
    simp only [updV_self, hdue, hat]
  · simp only [updV_other _ _ h]

theorem chanFault_dues {prov : Nat} {back : Time} {detect : Nat} : (s.chanFault c prov back detect).dues = s.dues := by
  unfold State.chanFault
  extract_lets h f s1 s2 s3 s4 s5
  split
  · rfl
  · have h3 : s3.dues = s.dues := dues_of_same (m := maskBut .scans) (State.onStats_same _ _ rfl (State.onNvChan_same _ _ rfl
      (State.onChan_same _ _ rfl (State.abortProof_same _ rfl (State.abortProof_same _ rfl .refl))))) rfl
    have h4 : s4.dues = s3.dues := each_view (l := [chanX h, chanY h]) State.dues fun _ _ => onScan_dues fun _ => ⟨rfl, rfl⟩
    refine (dues_of_same (m := maskBut .scans) (s := s4) ?_ rfl).trans (h4.trans h3)
    exact State.amonRefresh_same rfl (State.requalify_same rfl (State.dropForHead_same _ rfl (State.passageHeadFault_same _ _ rfl
      (State.notify_same _ rfl (State.setCumValid_same _ _ rfl .refl)))))

theorem takeOver_dues {h : Fin 8} {e : Fin 9} : (s.takeOver h e).dues = s.dues := by
  unfold State.takeOver
  extract_lets src s1 s2 eps
  have h1 : s1.dues = s.dues := dues_of_scans (congrArg FrontEnd.scans (record_fe ..))
  have h2 : Same (maskBut .scans) s1 s2 := State.abortProof_same _ rfl (State.abortProof_same _ rfl (State.dropEvents_same _ rfl .refl))
  refine Eq.trans ?_ h1
  split
  · exact dues_of_same (State.amonRefresh_same rfl (State.chanResumes_same _ _ _ _ rfl (State.chanResumes_same _ _ _ _ rfl h2))) rfl
  · rw [chanFault_dues, chanFault_dues, dues_of_same h2 rfl]

theorem loseEngine_dues {h : Fin 8} {e : Fin 9} : (s.loseEngine h e).dues = s.dues :=
  dues_of_same (m := maskBut .scans) (State.loseEngine_same _ _ rfl .refl) rfl

theorem remapOne_dues {e : Fin 9} : (s.remapOne e).dues = s.dues := by
  unfold State.remapOne
  split
  · rfl
  · split
    · rfl
    · split
      · exact takeOver_dues
      · exact loseEngine_dues

theorem remapStep_dues : (s.remapStep v).dues = s.dues := by
  unfold State.remapStep
  extract_lets src s1 order s2
  split
  · rfl
  · exact (each_view State.dues fun _ _ => remapOne_dues :)

theorem evalFront_dues : (s.evalFront v).1.dues = s.dues := by
  cases h : s.evaluates v with
  | false => rw [show s.evalFront v = (s, 0) from if_pos (by rw [h]; rfl)]
  | true =>
    have hsame : Same (maskBut .scans) (s.remapStep v) (s.evalFront v).1 := by
      unfold State.evalFront
      rw [if_neg (by rw [h]; decide)]
      dsimp only
      refine State.each_same (State.each_same (State.each_same (State.when_same (State.knownVehicles_same _ rfl
        (State.takeInbox_same _ _ rfl ?_)) fun _ k => State.isoWheel_same _ rfl k) fun _ _ k => State.settleStep_same _ _ rfl k)
        fun _ _ k => State.expireCauses_same _ _ rfl (State.evalWitness_same _ _ rfl (State.conditions_same _ _ rfl k)))
        fun _ _ k => State.disturbStep_same _ _ rfl k
      exact State.each_same (State.onSv_same _ _ rfl .refl) fun _ _ k => State.configStep_same _ _ rfl k
    rw [dues_of_same hsame rfl, remapStep_dues]

theorem horizonStops_dues : s.horizonStops.dues = s.dues :=
  each_view State.dues fun _ _ => when_view State.dues (onScan_dues fun _ => ⟨rfl, rfl⟩)

theorem plansDiscarded_dues : (s.plansDiscarded c).dues = s.dues :=
  (dues_of_same (m := areaMask [.offered]) (State.record_same _ _ _ _ rfl .refl) rfl).trans (onScan_dues fun _ => ⟨rfl, rfl⟩)

theorem plansAgree_dues {p : Nat × Nat} : (s.plansAgree c p).dues = s.dues := by
  unfold State.plansAgree
  extract_lets ch s1
  have h1 : s1.dues = s.dues := onScan_dues fun _ => ⟨rfl, rfl⟩
  split
  · exact h1
  · split
    · exact (dues_of_same (m := maskBut .scans) (State.warn_same _ _ rfl .refl) rfl).trans h1
    · split
      · exact (dues_of_same (m := maskBut .scans) (State.onChan_same _ _ rfl .refl) rfl).trans h1
      · exact h1

theorem planStep_dues : (s.planStep v c).dues = s.dues := by
  unfold State.planStep
  extract_lets k p s1 s2
  have h1 : s1.dues = s.dues := onScan_dues fun _ => ⟨rfl, rfl⟩
  have h2 : s2.dues = s.dues :=
    (dues_of_same (m := maskBut .scans) (State.when_same .refl fun _ k => State.noCleanCarrier_same _ rfl k) rfl).trans h1
  split
  · rfl
  · split
    · exact plansDiscarded_dues
    · split
      · rfl
      · split
        · split
          · exact plansAgree_dues.trans h2
          · exact plansDiscarded_dues.trans h2
        · exact h2

theorem planned_dues : (s.planned v).dues = s.dues := by
  have hiso : Same (maskBut .scans) (s.horizons v).horizonStops (((s.horizons v).horizonStops.isoWatch v).isoJudge) :=
    State.isoJudge_same rfl (State.isoWatch_same v rfl .refl)
  refine (each_view State.dues fun _ _ => planStep_dues).trans ?_
  rw [dues_of_same hiso rfl, horizonStops_dues]
  exact dues_of_same (m := maskBut .scans) (State.horizons_same v rfl .refl) rfl

/-- R48: the outcomes of a step up to the votes, then sleep, the isolation test and the plans, then what is published. -/
theorem exists_evalBack_eq_planned (trig : BitVec 4) (h : s.evaluates v = true) : ∃ (x : State) (k : Keeper),
    Same (areaMask [.nvHeads, .nvConns, .supervisors, .cumValid, .pulses, .offered, .permits, .drops]) s x ∧ s.evalBack v trig = ({ x.planned v with keep := k }.proposeBits v).publish.managePower := by
  refine ⟨_, _, ?_, if_neg (by simp [h])⟩
  exact State.each_same (State.each_same (State.each_same (State.each_same (State.each_same (State.each_same .refl
    fun _ _ k => State.applyResults_same _ rfl (State.barResult_same _ _ rfl k)) fun _ _ k => State.restoreStep_same _ _ rfl k)
    fun _ _ k => State.selfAttest_same _ rfl (State.selfTimer_same _ _ rfl (State.outcome_same _ _ rfl k)))
    fun _ _ k => State.occupancy_same _ _ _ rfl k) fun _ _ k => State.clearance_same _ _ rfl k)
    fun _ _ k => State.castVote_same _ _ _ rfl k

theorem withKeep_dues {k : Keeper} : ({ s with keep := k } : State).dues = s.dues := rfl

theorem evalBack_dues (trig : BitVec 4) : (s.evalBack v trig).dues = s.dues := by
  cases h : s.evaluates v with
  | false => rw [show s.evalBack v trig = s from if_pos (by rw [h]; rfl)]
  | true =>
    obtain ⟨x, k, hx, heq⟩ := exists_evalBack_eq_planned trig h
    have hdues : ({ x.planned v with keep := k } : State).dues = (x.planned v).dues := withKeep_dues
    generalize ({ x.planned v with keep := k } : State) = y at heq hdues
    have hafter : Same (maskBut .scans) y (y.proposeBits v).publish.managePower :=
      State.managePower_same rfl (State.publish_same rfl (State.proposeBits_same _ rfl .refl))
    rw [heq, dues_of_same hafter rfl, hdues, planned_dues, dues_of_same hx rfl]

theorem evalStep_dues : (s.evalStep v).dues = s.dues :=
  (evalBack_dues _).trans evalFront_dues

/-- R102: an evaluation step makes no scan due, and ends none. -/
theorem evalBoth_dues : s.evalBoth.dues = s.dues :=
  evalStep_dues.trans evalStep_dues

theorem staged_dues : (s.staged t src i q).dues = s.dues := by
  have htaken : (s.taken t src i q).dues = s.dues := dues_of_scans (taken_same.area .scans rfl)
  unfold State.staged
  split
  · split
    · exact (evalFront_dues (v := 1)).trans ((evalFront_dues (v := 0)).trans htaken)
    · exact evalBoth_dues.trans htaken
  · exact htaken

/-! ### The entries that command, one by one -/

/-- R313: PendingDiscard empties the pending set. -/
theorem completes_pendingDiscard {r : DRow} (hg : s.granted t src i q r) (hkey : q.key = keyDiscard) (hdata : q.data = [1]) :
    Completes (.pendingDiscard t src) s fun u => u.sdp.sessions[i].pending = [] ∧ u.replied src i q (.ok []) false := by
  have hrow : dictRow keyDiscard = some ⟨0x4010, 1, 0x03, 1, .bool, .wo, 1, 0, 0, 1, none, false, 0⟩ := by decide
  have hrun : (s.staged t src i q).runCommand i keyDiscard q.data .whole =
      (s.staged t src i q).onSession i fun x => { x with pending := [] } := hdata ▸ runCommand_discard
  refine completes_command rfl hg hkey hrow rfl (by decide) (commitsNow_of_key (by rw [hkey]; decide)) rfl ?_
    fun p hreplied => ⟨?_, hreplied⟩
  · rw [hrun]
    exact State.onSession_same _ _ rfl .refl
  · rw [hrun, answerKept_session, onSession_self]

/-- R316: WaitingCancel takes a waiting set away. -/
theorem completes_waitingCancel {r : DRow} (hg : s.granted t src i q r) (hkey : q.key = keyCancel) :
    Completes (.waitingCancel t src) s fun u =>
      u.nv.waiting = s.nv.waiting.filter (fun w => w.number != leNat q.data) ∧ u.replied src i q (.ok []) false := by
  have hrow : dictRow keyCancel = some ⟨0x4010, 1, 0x06, 1, .u32, .wo, 1, 0, 0, 4294967295, none, false, 0⟩ := by decide
  obtain ⟨hwaiting, -⟩ := staged_waiting (s := s) (t := t) (src := src) (i := i) (q := q)
  refine completes_command rfl hg hkey hrow rfl (by decide) (commitsNow_of_key (by rw [hkey]; decide)) rfl ?_
    fun p hreplied => ⟨?_, hreplied⟩
  · rw [runCommand_cancel]
    exact Same.upd (m := areaMask [.waitingSets]) (hw := rfl) (hk := .refl)
  · rw [answerKept_waiting, runCommand_cancel, ← hwaiting]

/-- R341: RecAdvance moves the cursor to the next record. -/
theorem completes_recAdvance {r : DRow} (hg : s.granted t src i q r) (hkey : q.key = keyAdvance) (hdata : q.data = [1])
    (hmore : s.sdp.sessions[i].recCursor < s.nv.mem.recs.length) :
    Completes (.recAdvance t src) s fun u =>
      u.sdp.sessions[i].recCursor = s.sdp.sessions[i].recCursor + 1 ∧ u.replied src i q (.ok []) false := by
  have hrow : dictRow keyAdvance = some ⟨0x7000, 1, 0x03, 1, .bool, .wo, 0, 0, 0, 1, none, false, 0⟩ := by decide
  have hrun : (s.staged t src i q).runCommand i keyAdvance q.data .whole = (s.staged t src i q).onSession i fun x =>
      { x with recCursor := if x.recCursor < (s.staged t src i q).nv.mem.recs.length then x.recCursor + 1 else x.recCursor
               recStale := false } := hdata ▸ runCommand_advance
  refine completes_command rfl hg hkey hrow rfl (by decide) (commitsNow_of_key (by rw [hkey]; decide)) rfl ?_
    fun p hreplied => ⟨?_, hreplied⟩
  · rw [hrun]
    exact State.onSession_same _ _ rfl .refl
  · rw [hrun, answerKept_session, onSession_self, staged_mem, staged_session_eq]
    exact if_pos hmore

/-- R102: ScanNow makes a scan of the channel due. -/
theorem completes_scanNow {r : DRow} (hg : s.granted t src i q r) (hkey : q.key = keyScanNow) (hdata : leNat q.data = c.val)
    (hdue : s.fe.scans[c].due = false) :
    Completes (.scanNow t src) s fun u =>
      u.fe.scans[c].due = true ∧ u.fe.scans[c].dueAt = u.clk.now ∧ u.replied src i q (.ok []) false := by
  have hrow : dictRow keyScanNow = some ⟨0x3600, 1, 0x0B, 1, .u8, .wo, 2, 0, 0, 15, none, false, 0⟩ := by decide
  have hstill : (s.staged t src i q).fe.scans[c].due = false := (congrArg Prod.fst (congrFun staged_dues c)).trans hdue
  have hscan : ((s.staged t src i q).scanDue c).fe.scans[c] =
      { (s.staged t src i q).fe.scans[c] with due := true, dueAt := (s.staged t src i q).clk.now } := by
    rw [State.scanDue, onScan_self, if_neg (by rw [hstill]; decide)]
  refine completes_command rfl hg hkey hrow rfl (by decide) (commitsNow_of_key (by rw [hkey]; decide)) rfl ?_
    fun p hreplied => ⟨?_, ?_, hreplied⟩
  · rw [runCommand_scanNow hdata]
    exact State.scanDue_same _ rfl .refl
  · rw [runCommand_scanNow hdata, show _ = _ from answerKept_same.area .scans rfl, hscan]
  · rw [runCommand_scanNow hdata, show _ = _ from answerKept_same.area .scans rfl, hscan, answerKept_clk]
    rfl

theorem onProof_proofs_self (f : Proof → Proof) : (s.onProof c f).eng.proofs[c] = f s.eng.proofs[c] := updV_self ..

/-- R342: ProofNow makes a proof test of the channel due. -/
theorem completes_proofNow {r : DRow} (hg : s.granted t src i q r) (hkey : q.key = keyProofNow) (hdata : leNat q.data = c.val) :
    Completes (.proofNow t src) s fun u =>
      u.eng.proofs[c].due = true ∧ u.eng.proofs[c].dueAt = u.clk.now ∧ u.eng.proofs[c].doneAt = none ∧
      u.replied src i q (.ok []) false := by
  have hrow : dictRow keyProofNow = some ⟨0x7200, 1, 0x01, 1, .u8, .wo, 2, 0, 0, 15, none, false, 0⟩ := by decide
  refine completes_command rfl hg hkey hrow rfl (by decide) (commitsNow_of_key (by rw [hkey]; decide)) rfl ?_
    fun p hreplied => ⟨?_, ?_, ?_, hreplied⟩
  · rw [runCommand_proofNow hdata]
    exact State.onProof_same _ _ rfl .refl
  · rw [runCommand_proofNow hdata, show _ = _ from answerKept_same.area .proofs rfl, onProof_proofs_self]
  · rw [runCommand_proofNow hdata, show _ = _ from answerKept_same.area .proofs rfl, onProof_proofs_self, answerKept_clk]
    rfl
  · rw [runCommand_proofNow hdata, show _ = _ from answerKept_same.area .proofs rfl, onProof_proofs_self]

/-- R283: NoEntryRelease is an entry of one of the four sections. -/
theorem key_of_isNoEntryRelease {k : Nat} (h : isNoEntryRelease k = true) : ∃ n : Fin 4, k = dkey (0x2200 + n.val) 0x0E := by
  simp only [isNoEntryRelease, Bool.and_eq_true, decide_eq_true_eq, beq_iff_eq] at h
  obtain ⟨⟨hlow, hhigh⟩, hsub⟩ := h
  obtain ⟨m, hm⟩ : ∃ m, k / 256 = 0x2200 + m := ⟨k / 256 - 0x2200, by omega⟩
  refine ⟨⟨m, by omega⟩, ?_⟩
  rw [dkey, ← hm, ← hsub]
  exact (Nat.div_add_mod' k 256).symm

/-- The entry NoEntryRelease. -/
def noEntryReleaseRow : DRow := ⟨0x2200, 4, 0x0E, 1, .bool, .wo, 1, 0, 0, 1, none, false, 0⟩

theorem noEntryRelease_rows : ∀ n : Fin 4, dictRow (dkey (0x2200 + n.val) 0x0E) = some noEntryReleaseRow ∧
    cfgKey (dkey (0x2200 + n.val) 0x0E) = false ∧ needsSv (dkey (0x2200 + n.val) 0x0E) = true ∧
    dkey (0x2200 + n.val) 0x0E ≠ keyCommit := by
  decide

/-- R283: the latch of a section has been released. -/
def State.brakingReleased (s : State) (n : Fin 4) : State :=
  { s with keep := { s.keep with braking := updV s.keep.braking n fun _ => false } }

theorem runCommand_noEntryRelease {k : Nat} (h : isNoEntryRelease k = true) : s.runCommand i k [1] w =
    (s.brakingReleased (secOfKey 0x2200 k)).publishAll := by
  unfold State.runCommand
  dsimp only
  rw [if_pos h, when_of (by decide)]
  rfl

/-- R283: NoEntryRelease ends the latch of braking loss. -/
theorem completes_noEntryRelease {r : DRow} {n : Fin 4} (hg : s.granted t src i q r) (hkey : isNoEntryRelease q.key = true)
    (hdata : q.data = [1]) (hn : n = secOfKey 0x2200 q.key) :
    Completes (.noEntryRelease t src) s fun u => u.keep.braking[n] = false ∧ u.replied src i q (.ok []) false := by
  obtain ⟨m, hm⟩ := key_of_isNoEntryRelease hkey
  obtain ⟨hrow, hcfg, hneeds, hne⟩ := noEntryRelease_rows m
  rw [← hm] at hrow hcfg hneeds hne
  have hnow : s.commitsNow i q = false := commitsNow_of_key hne
  have hrun : (s.staged t src i q).runCommand i q.key q.data .whole =
      ((s.staged t src i q).brakingReleased n).publishAll := hn ▸ hdata ▸ runCommand_noEntryRelease hkey
  have hquiet (k : Fin 4) : (s.staged t src i q).trac[k].braked = [] := by
    obtain ⟨hst, ⟨-, hevaluates⟩, hop, htxn, -, -, -, -⟩ := hg
    have hrequest : s.requestNeeds i q = true := by
      rw [State.requestNeeds, if_pos hop, hneeds, htxn]
      rfl
    obtain ⟨-, hev⟩ := hevaluates hrequest
    unfold State.staged
    rw [hrequest, if_pos rfl, hnow, if_neg Bool.false_ne_true]
    refine evalBoth_braked k ?_
    cases src <;> exact hev
  refine completes_command rfl hg rfl hrow rfl hcfg hnow hkey ?_ fun p hreplied => ⟨?_, hreplied⟩
  · rw [hrun]
    exact State.publishAll_same rfl (Same.upd (m := areaMask [.keeperRest]) (hw := rfl) (hk := .refl))
  · rw [braking_of_same answerKept_same rfl, hrun, publishAll_braking (s := (s.staged t src i q).brakingReleased n) hquiet]
    exact updV_self ..

/-! ### The release of an override (R310) -/

theorem kvGet_of_lt {α : Type} {k : Nat} {m : List (Nat × α)} (h : ∀ e ∈ m, k < e.1) : kvGet k m = none := by
  induction m with
  | nil => rfl
  | cons e m ih =>
    obtain ⟨j, a⟩ := e
    rw [kvGet, if_neg (Nat.ne_of_gt (h _ List.mem_cons_self))]
    exact ih fun e he => h e (List.mem_cons_of_mem _ he)

/-- A key that is deleted from a canonical map is gone. -/
theorem kvGet_kvDel_self {α : Type} {k : Nat} {m : List (Nat × α)} (h : kvWf m = true) : kvGet k (kvDel k m) = none := by
  rw [kvWf_iff] at h
  induction m with
  | nil => rfl
  | cons e m ih =>
    obtain ⟨j, a⟩ := e
    obtain ⟨hlt, hrest⟩ := List.pairwise_cons.1 h
    by_cases hj : j = k
    · rw [kvDel, if_pos hj]
      exact kvGet_of_lt (hj ▸ hlt)
    · rw [kvDel, if_neg hj, kvGet, if_neg hj]
      exact ih hrest

/-- R306: what both supervisors accept, one of them has judged. -/
theorem exists_of_bothJudge {f : Fin 2 → Option Abort} (h : s.bothJudge f = none) : ∃ v, f v = none := by
  unfold State.bothJudge at h
  cases hserving : s.serving with
  | nil =>
    rw [hserving] at h
    cases h
  | cons v l =>
    rw [hserving, List.map_cons] at h
    dsimp only at h
    refine ⟨v, ?_⟩
    split at h
    · next hall => exact Option.isNone_iff_eq_none.1 (List.all_eq_true.1 hall _ List.mem_cons_self)
    · split at h
      · exact h
      · cases h

/-- The entry ReleaseOverride. -/
def releaseRow : DRow := ⟨0x3000, 1, 0x03, 1, .u32, .wo, 2, 0, 0, 4294967295, none, false, 0⟩

theorem judgeCommand_release {val : List Byte} : s.judgeCommand v i keyRelease val =
    s.judgeRelease v s.sdp.sessions[i].level (leNat val) := by
  unfold State.judgeCommand
  dsimp only
  rw [if_neg (by decide), if_pos rfl]

/-- R310: only an override is released. -/
theorem released_of_judgeRelease {level n : Nat} (h : s.judgeRelease v level n = none) (hn : n ≠ 0xFFFFFFFF) :
    s.released_ n = some [n] := by
  unfold State.judgeRelease at h
  unfold State.released_ at h ⊢
  rw [if_neg hn] at h ⊢
  split_ifs at h ⊢ with hc
  rfl

/-- R310: ReleaseOverride takes the override from the working configuration. -/
theorem completes_releaseOverride {r : DRow} (hg : s.granted t src i q r) (hkey : q.key = keyRelease)
    (hone : leNat q.data ≠ 0xFFFFFFFF) (hwf : kvWf s.sdp.work = true) :
    Completes (.releaseOverride t src) s fun u => kvGet (leNat q.data) u.sdp.work = none ∧ u.replied src i q (.ok []) false := by
  have hrow : dictRow keyRelease = some releaseRow := by decide
  generalize hz : s.staged t src i q = z
  have hreleased : z.released_ (leNat q.data) = some [leNat q.data] := by
    have hr : r = releaseRow := Option.some.inj ((row_of_granted hg).symm.trans (hkey ▸ hrow))
    obtain ⟨-, -, -, -, -, -, -, haccepted⟩ := hg
    rw [hkey, show needsSv keyRelease = true by decide, if_pos rfl, hz] at haccepted
    obtain ⟨v, hv⟩ := exists_of_bothJudge haccepted
    rw [State.judgeWrite, hr, if_neg (by decide), if_neg (by decide), judgeCommand_release] at hv
    exact released_of_judgeRelease hv hone
  have hrun : z.runCommand i keyRelease q.data .whole =
      (z.storeChanges [(leNat q.data, none)]).applyConfig [(leNat q.data, none)] := by
    rw [runCommand_release, State.releaseOverrides, hreleased]
    rfl
  refine completes_command rfl hg hkey hrow rfl (by decide) (commitsNow_of_key (by rw [hkey]; decide)) rfl ?_
    fun p hreplied => ⟨?_, hreplied⟩
  · rw [hz, hrun]
    exact State.applyConfig_same _ rfl (State.storeChanges_same _ rfl .refl)
  · have hwork : (z.storeChanges [(leNat q.data, none)]).sdp.work = s.sdp.work :=
      ((State.storeChanges_same (w := maskBut .work) _ rfl .refl).only).trans (hz ▸ staged_work)
    rw [hz, hrun, show _ = _ from answerKept_same.area .work rfl, applyConfig_work, hwork]
    exact kvGet_kvDel_self hwf

/-! ### A deferred set (R315, R316) -/

/-- R315: what a commit of a deferred set leaves. -/
theorem commit_of_deferred (h : deferredSet s.sdp.sessions[i].pending = true) (hu : s.commit i = u) :
    u.sdp.sessions[i].pending = [] ∧ u.nv.nextSet = s.nv.nextSet + 1 ∧
    u.nv.waiting = s.nv.waiting ++ [⟨s.nv.nextSet, s.tbNow, highestLevel (s.sdp.sessions[i].pending.map fun e => e.1),
      s.sdp.sessions[i].pending, s.sdp.sessions[i].raiseSlot⟩] ∧ u.clk = s.clk ∧ u.nv.journal = s.nv.journal := by
  subst hu
  unfold State.commit
  dsimp only
  rw [if_pos h]
  exact ⟨congrArg Session.pending (onSession_self _), rfl, rfl, rfl, rfl⟩

/-- R315, R316: a commit of a deferred set gives it the next number, and it waits. -/
theorem completes_pendingCommit_deferred {r : DRow} (hg : s.granted t src i q r) (hkey : q.key = keyCommit)
    (hdeferred : deferredSet s.sdp.sessions[i].pending = true) :
    Completes (.pendingCommit t src) s fun u =>
      u.sdp.sessions[i].pending = [] ∧ u.nv.nextSet = s.nv.nextSet + 1 ∧
      u.nv.waiting = s.nv.waiting ++ [⟨s.nv.nextSet, u.tbNow,
        highestLevel (s.sdp.sessions[i].pending.map fun e => e.1), s.sdp.sessions[i].pending, s.sdp.sessions[i].raiseSlot⟩] ∧
      u.replied src i q (.ok []) false := by
  have hrow : dictRow keyCommit = some commitRow := by decide
  have hnow : s.commitsNow i q = false := by
    rw [State.commitsNow, hdeferred]
    exact Bool.and_false _
  generalize hz : s.staged t src i q = z
  have hpending : z.sdp.sessions[i].pending = s.sdp.sessions[i].pending := by rw [← hz, staged_session_eq]
  have hslot : z.sdp.sessions[i].raiseSlot = s.sdp.sessions[i].raiseSlot := by rw [← hz, staged_session_eq]
  obtain ⟨hwaiting, hnext⟩ : z.nv.waiting = s.nv.waiting ∧ z.nv.nextSet = s.nv.nextSet := hz ▸ staged_waiting
  generalize hm : z.commit i = m
  obtain ⟨hempty, hnext', hwaits, hclk, hjournal⟩ := commit_of_deferred (hpending ▸ hdeferred) hm
  have hrun : z.runCommand i keyCommit q.data .whole = m := runCommand_commit.trans hm
  have happly : z.applyWrite i q.key r q.data .whole = m := by
    rw [Option.some.inj ((row_of_granted hg).symm.trans (hkey ▸ hrow)), hkey, applyWrite_command rfl (by decide), hrun]
  refine completes_granted (w := .whole) rfl hg hnow (Bool.and_eq_true_iff.2 ⟨beq_iff_eq.2 (op_of_granted hg), beq_iff_eq.2 hkey⟩) ?_
    fun p hreplied => ⟨?_, ?_, ?_, hreplied⟩
  · rw [hz, happly, hjournal]
  · rw [hz, happly, answerKept_session, hempty]
  · rw [hz, happly, answerKept_nextSet, hnext', hnext]
  · rw [hz, happly, answerKept_waiting, hwaits, hwaiting, hnext, hpending, hslot, State.tbNow, State.tbNow, answerKept_clk, hclk]

/-- Settles O46: settings, two-key entries and the entries that command take effect. -/
theorem writesTakeEffect : Obligations.WritesTakeEffect := by
  unfold Obligations.WritesTakeEffect
  refine ⟨?_, ?_, ?_, ?_, ?_, ?_, ?_, ?_, ?_, ?_⟩
  · intro t src i q r s hg hcfg hacc
    exact completes_sdpWrite_setting hg hcfg hacc
  · intro t src i q r s hg hacc
    exact completes_sdpWrite_pending hg hacc
  · intro t src i q r s hg hkey hdata
    exact completes_pendingDiscard hg hkey hdata
  · intro t src i q r s hg hkey
    exact completes_waitingCancel hg hkey
  · intro t src i q r s hg hkey hdata hmore
    exact completes_recAdvance hg hkey hdata hmore
  · intro t src i q r n s hg hkey hdata hn
    exact completes_noEntryRelease hg hkey hdata hn
  · intro t src i q r c s hg hkey hdata hdue
    exact completes_scanNow hg hkey hdata hdue
  · intro t src i q r c s hg hkey hdata
    exact completes_proofNow hg hkey hdata
  · intro t src i q r s hg hkey hone hwf
    exact completes_releaseOverride hg hkey hone hwf
  · intro t src i q r s hg hkey hdeferred
    exact completes_pendingCommit_deferred hg hkey hdeferred

end Sys2Proof.Machine

/-! The outcomes of an evaluation step leave the back-EMF witness and the epochs as they are (R197, R199, R243): a commit of immediate
effect stands after the step that it is made in. -/

namespace Sys2Proof.Machine

variable {s u x : State} {v : Fin 2} {t : Time} {n : Fin 4}

/-! ### The witness: what an effect on one supervisor leaves -/

/-- R199: the back-EMF witness of every section, as each supervisor has it. -/
def Sv.witnesses (x : Sv) : Vector Bool 4 := x.props.map Prop_.witness

def State.witnesses (s : State) : Vector (Vector Bool 4) 2 := s.sv.map Sv.witnesses

theorem witness_of_witnesses (h : u.witnesses = s.witnesses) (v : Fin 2) (n : Fin 4) :
    u.sv[v].props[n].witness = s.sv[v].props[n].witness := by
  have hv := congrArg (fun x => x[v][n]) h
  simpa only [State.witnesses, Sv.witnesses, Fin.getElem_fin, Vector.getElem_map] using hv

theorem witnesses_of_sv (h : u.sv = s.sv) : u.witnesses = s.witnesses := congrArg (Vector.map Sv.witnesses) h

theorem witnesses_of_same {w : Nat} (h : Same w s u) (hw : w.testBit Area.supervisors.ctorIdx = false) :
    u.witnesses = s.witnesses := witnesses_of_sv (h.out .supervisors hw)

@[simp] theorem onSv_witnesses (v : Fin 2) {f : Sv → Sv} (hf : ∀ x, (f x).witnesses = x.witnesses) :
    (s.onSv v f).witnesses = s.witnesses := by
  rw [State.witnesses, onSv_sv, updV]
  ext1 i hi
  simp only [State.witnesses, Vector.getElem_map, Vector.getElem_set]
  split
  · next h => subst h; exact hf _
  · rfl

@[simp] theorem Sv.onProp_witnesses (x : Sv) (n : Fin 4) {f : Prop_ → Prop_} (hf : ∀ p, (f p).witness = p.witness) :
    (x.onProp n f).witnesses = x.witnesses := by
  rw [Sv.witnesses, Sv.onProp, updV]
  ext1 i hi
  simp only [Sv.witnesses, Vector.getElem_map, Vector.getElem_set]
  split
  · next h => subst h; exact hf _
  · rfl

@[simp] theorem Sv.onSec_witnesses (x : Sv) (n : Fin 4) (f : SecCnt → SecCnt) : (x.onSec n f).witnesses = x.witnesses := rfl
@[simp] theorem Sv.onHead_witnesses (x : Sv) (h : Fin 8) (f : HeadCnt → HeadCnt) : (x.onHead h f).witnesses = x.witnesses := rfl
@[simp] theorem Sv.onConn_witnesses (x : Sv) (k : Fin 8) (f : SvConn → SvConn) : (x.onConn k f).witnesses = x.witnesses := rfl
@[simp] theorem Sv.onRest_witnesses (x : Sv) (n : Fin 4) (f : Rest → Rest) : (x.onRest n f).witnesses = x.witnesses := rfl
@[simp] theorem Sv.withdrawWith_witnesses (x : Sv) (n : Fin 4) : (x.withdrawWith n).witnesses = x.witnesses := rfl

@[simp] theorem each_witnesses {α : Type} {l : List α} {f : State → α → State} (hf : ∀ x a, (f x a).witnesses = x.witnesses) :
    (State.each s l f).witnesses = s.witnesses := each_view State.witnesses hf

@[simp] theorem when_witnesses {c : Bool} {f : State → State} (hf : ∀ x, (f x).witnesses = x.witnesses) :
    (s.when c f).witnesses = s.witnesses := when_view State.witnesses (hf s)

@[simp] theorem bothSv_witnesses {f : Fin 2 → Sv → Sv} (hf : ∀ w x, (f w x).witnesses = x.witnesses) :
    (s.bothSv f).witnesses = s.witnesses := each_witnesses fun _ w => onSv_witnesses w (hf w)

@[simp] theorem record_witnesses (code : BitVec 16) (src : BitVec 2) (p : List Byte) (e : Bool) :
    (s.record code src p e).witnesses = s.witnesses := witnesses_of_sv (record_sv ..)

@[simp] theorem pulse_witnesses (k : Nat) : (s.pulse k).witnesses = s.witnesses := witnesses_of_sv (pulse_sv ..)

/-! ### The operations of the second half of a step -/

@[simp] theorem enter_witnesses (v : Fin 2) (n : Fin 4) (st : SecState) (route : Nat) :
    (s.enter v n st route).witnesses = s.witnesses := by
  rw [State.enter, onSv_witnesses _ fun x => ?_, onSv_witnesses _ fun x => Sv.withdrawWith_witnesses x n]
  exact Sv.onProp_witnesses x n fun _ => rfl

@[simp] theorem raise_witnesses (v : Fin 2) (n : Fin 4) (code : Nat) (leg : Option (Fin 4)) :
    (s.raise v n code leg).witnesses = s.witnesses := by
  unfold State.raise
  extract_lets p k
  split_ifs
  · rfl
  · rfl
  · rw [record_witnesses]
    exact onSv_witnesses v fun x => Sv.onProp_witnesses x n fun _ => rfl

@[simp] theorem refuse_witnesses (v : Fin 2) (g : BitVec 4) (code : Nat) (once : Bool) :
    (s.refuse v g code once).witnesses = s.witnesses := by
  unfold State.refuse
  extract_lets s1
  have h1 : s1.witnesses = s.witnesses := each_witnesses fun _ _ => onSv_witnesses v fun _ => rfl
  split
  · rw [pulse_witnesses, record_witnesses, h1]
  · exact h1

@[simp] theorem chooseTR_witnesses (v : Fin 2) (g : BitVec 4) (t : Time) : (s.chooseTR v g t).witnesses = s.witnesses :=
  each_witnesses fun _ _ => onSv_witnesses v fun _ => rfl

@[simp] theorem chooseInternal_witnesses (g : BitVec 4) : (s.chooseInternal g).witnesses = s.witnesses := by
  rw [State.chooseInternal]
  split
  · dsimp only
    split
    · rfl
    · exact each_witnesses fun _ w => chooseTR_witnesses w ..
  · rfl

@[simp] theorem checkSettled_witnesses (v : Fin 2) (n : Fin 4) : (s.checkSettled v n).witnesses = s.witnesses :=
  each_witnesses fun _ _ => raise_witnesses ..

theorem crossCheck_witnesses (v : Fin 2) (k : Fin 8) (detail : Nat) : (s.crossCheck v k detail).witnesses = s.witnesses := by
  unfold State.crossCheck
  extract_lets m leg s1
  have h1 : s1.witnesses = s.witnesses := (raise_witnesses ..).trans (onSv_witnesses v fun _ => rfl)
  split
  · exact (each_witnesses fun _ _ => raise_witnesses ..).trans h1
  · exact h1

theorem transitCheck_witnesses (v : Fin 2) (n : Fin 4) (q : QPass) : (s.transitCheck v n q).witnesses = s.witnesses := by
  have hsec (x : State) (f : SecCnt → SecCnt) : (x.onSv v fun y => y.onSec n f).witnesses = x.witnesses :=
    onSv_witnesses v fun _ => rfl
  rw [State.transitCheck]
  dsimp only
  split
  · rfl
  · split_ifs
    · rfl
    · exact hsec ..
    · rfl
    · split
      · exact hsec s _
      · exact hsec s _
    · split
      · exact hsec s _
      · exact hsec s _
    · split
      · exact (crossCheck_witnesses ..).trans (hsec s _)
      · exact hsec s _

theorem settleOne_witnesses (v : Fin 2) (n : Fin 4) (q : QPass) : (s.settleOne v n q).witnesses = s.witnesses :=
  (transitCheck_witnesses ..).trans (onSv_witnesses v fun _ => rfl)

@[simp] theorem settleUpTo_witnesses (v : Fin 2) (n : Fin 4) (t : Time) : (s.settleUpTo v n t).witnesses = s.witnesses := by
  unfold State.settleUpTo
  extract_lets k now s1 s2
  have h2 : s2.witnesses = s.witnesses :=
    (each_witnesses fun _ _ => settleOne_witnesses ..).trans (onSv_witnesses v fun _ => rfl)
  split
  · exact h2
  · exact (checkSettled_witnesses ..).trans h2

theorem barResult_witnesses (v : Fin 2) (n : Fin 4) : (s.barResult v n).witnesses = s.witnesses := by
  rw [State.barResult]
  dsimp only
  split
  · rfl
  · exact when_witnesses fun _ => refuse_witnesses ..

theorem rebaseHead_witnesses (h : Fin 8) (b : Bool) (z : Int) (t : Time) : (s.rebaseHead h b z t).witnesses = s.witnesses := by
  unfold State.rebaseHead
  extract_lets d d0 s1
  have h1 : s1.witnesses = s.witnesses := bothSv_witnesses fun _ _ => rfl
  exact (witnesses_of_same (w := areaMask [.nvHeads, .cumValid, .offered]) (State.record_same _ _ _ _ rfl
    (State.onNvHead_same _ _ rfl (State.setCumValid_same h true rfl (.refl (s := s1))))) rfl).trans h1

theorem rebaseOuter_witnesses (n m : Fin 4) (a : Answer) (t : Time) : (s.rebaseOuter n m a t).witnesses = s.witnesses := by
  rw [State.rebaseOuter]
  split
  · exact rebaseHead_witnesses ..
  · rfl

theorem resultFailed_witnesses (v : Fin 2) (n : Fin 4) : (s.resultFailed v n).witnesses = s.witnesses := by
  unfold State.resultFailed
  extract_lets s1
  have h1 : s1.witnesses = s.witnesses := onSv_witnesses v fun _ => rfl
  split
  · rw [pulse_witnesses, record_witnesses, h1]
  · exact h1

theorem applySection_witnesses (v : Fin 2) (n : Fin 4) (core total : Int) (zones : List ((Fin 4 × Fin 4) × Int)) (single : Bool)
    (tR : Time) : (s.applySection v n core total zones single tR).witnesses = s.witnesses := by
  unfold State.applySection
  extract_lets s1 s2 s3
  have h1 : s1.witnesses = s.witnesses := onSv_witnesses v fun _ => rfl
  have h2 : s2.witnesses = s1.witnesses := by
    show (match s1.settleTo v n with
      | some t => if tR < t then s1.settleUpTo v n t else s1
      | none => s1).witnesses = s1.witnesses
    split
    · split
      · exact settleUpTo_witnesses ..
      · rfl
    · rfl
  have h3 : s3.witnesses = s2.witnesses :=
    (when_witnesses fun _ => resultFailed_witnesses ..).trans (checkSettled_witnesses ..)
  have hroute (x : State) : (x.onSv v fun y => y.onProp n fun p => { p with route := 2, routeT := tR }).witnesses = x.witnesses :=
    onSv_witnesses v fun y => Sv.onProp_witnesses y n fun _ => rfl
  exact (hroute s3).trans (h3.trans (h2.trans h1))

theorem rebaseGroup_witnesses (g : BitVec 4) (terms : List ((Fin 4 × Fin 4) × Answer)) (tR : Time) :
    (s.rebaseGroup g terms tR).witnesses = s.witnesses := by
  unfold State.rebaseGroup
  extract_lets s1 core flows s2
  have h1 : s1.witnesses = s.witnesses := each_witnesses fun _ _ => rebaseOuter_witnesses ..
  have h2 : s2.witnesses = s1.witnesses := each_witnesses fun x f => by
    split
    · exact rebaseHead_witnesses ..
    · rfl
  refine (each_witnesses fun x n => ?_).trans (h2.trans h1)
  split
  · exact rebaseHead_witnesses ..
  · rfl

theorem applyResults_witnesses (n : Fin 4) : (s.applyResults n).witnesses = s.witnesses := by
  rw [State.applyResults]
  split
  · rfl
  · dsimp only
    split
    · rfl
    · split_ifs
      · rfl
      · exact each_witnesses fun _ _ => refuse_witnesses ..
      · rw [pulse_witnesses, rebaseGroup_witnesses]
        exact each_witnesses fun _ _ => each_witnesses fun _ _ => applySection_witnesses ..

theorem request_witnesses (v : Fin 2) (n : Fin 4) : (s.request v n).witnesses = s.witnesses := by
  rw [State.request]
  dsimp only
  split_ifs
  · rfl
  · exact refuse_witnesses ..
  · rfl
  · rfl
  · exact refuse_witnesses ..
  · exact refuse_witnesses ..
  · exact refuse_witnesses ..
  · exact refuse_witnesses ..
  · rw [chooseInternal_witnesses]
    exact each_witnesses fun _ _ => onSv_witnesses v fun _ => rfl
  · rfl

theorem compute_witnesses (v : Fin 2) (n : Fin 4) : (s.compute v n).witnesses = s.witnesses := by
  rw [State.compute]
  dsimp only
  split_ifs
  · rfl
  · rfl
  · exact refuse_witnesses ..
  · split
    · exact refuse_witnesses ..
    · exact onSv_witnesses v fun _ => rfl

theorem restoreStep_witnesses (v : Fin 2) (n : Fin 4) : (s.restoreStep v n).witnesses = s.witnesses := by
  unfold State.restoreStep
  extract_lets s1 s2
  have h2 : s2.witnesses = s.witnesses := (request_witnesses v n).trans (when_witnesses fun _ => onSv_witnesses v fun _ => rfl)
  split
  · rw [refuse_witnesses, h2]
  · rw [compute_witnesses, h2]

theorem outcome_witnesses (v : Fin 2) (n : Fin 4) : (s.outcome v n).witnesses = s.witnesses := by
  rw [State.outcome]
  split_ifs
  · rfl
  · exact enter_witnesses ..
  · exact enter_witnesses ..
  · exact refuse_witnesses ..
  · rfl

theorem selfTimer_witnesses (v : Fin 2) (n : Fin 4) : (s.selfTimer v n).witnesses = s.witnesses :=
  onSv_witnesses v fun x => Sv.onProp_witnesses x n fun _ => rfl

theorem applyZoneReset_witnesses (v : Fin 2) (n : Fin 4) (t : Time) : (s.applyZoneReset v n t).witnesses = s.witnesses := by
  unfold State.applyZoneReset
  extract_lets s1
  have h1 : s1.witnesses = s.witnesses := onSv_witnesses v fun _ => rfl
  rw [checkSettled_witnesses]
  split
  · rw [record_witnesses, h1]
  · exact h1

theorem selfApply_witnesses (n : Fin 4) : (s.selfApply n).witnesses = s.witnesses := by
  unfold State.selfApply
  extract_lets s1
  have h1 : s1.witnesses = s.witnesses := each_witnesses fun _ _ => applyZoneReset_witnesses ..
  split
  · exact h1
  · extract_lets tR terms s2 all s3
    have h2 : s2.witnesses = s1.witnesses := each_witnesses fun _ _ => rebaseOuter_witnesses ..
    have h3 : s3.witnesses = s2.witnesses := by
      simp only [s3]
      split
      · split
        · exact rebaseHead_witnesses ..
        · rfl
      · rfl
    rw [pulse_witnesses]
    refine (each_witnesses fun x w => ?_).trans (h3.trans (h2.trans h1))
    rw [enter_witnesses]
    exact onSv_witnesses w fun y => Sv.onProp_witnesses y n fun _ => rfl

theorem selfAttest_witnesses (n : Fin 4) : (s.selfAttest n).witnesses = s.witnesses := by
  have hstop (c : Nat) : (State.each s s.serving fun s v => s.refuse v (1 <<< n.val) c).witnesses = s.witnesses :=
    each_witnesses fun _ _ => refuse_witnesses ..
  rw [State.selfAttest]
  dsimp only
  split_ifs
  · rfl
  · exact hstop 13
  · exact hstop 8
  · exact hstop 11
  · exact selfApply_witnesses n

theorem occupancy_witnesses (v : Fin 2) (n : Fin 4) (b : Bool) : (s.occupancy v n b).witnesses = s.witnesses := by
  rw [State.occupancy]
  split
  · exact enter_witnesses ..
  · rfl

theorem clearance_witnesses (v : Fin 2) (n : Fin 4) : (s.clearance v n).witnesses = s.witnesses := by
  unfold State.clearance
  extract_lets conds now s1
  have h1 : s1.witnesses = s.witnesses := onSv_witnesses v fun x => Sv.onProp_witnesses x n fun _ => rfl
  split
  · split
    · rw [enter_witnesses, h1]
    · exact h1
  · exact h1

theorem castVote_witnesses (v : Fin 2) (n : Fin 4) (x : Vote) : (s.castVote v n x).witnesses = s.witnesses := by
  have hdrop (y : State) (l : List Nat) : (y.dropPermit n l []).witnesses = y.witnesses :=
    witnesses_of_same (w := areaMask [.permits, .drops, .offered]) (State.dropPermit_same n l [] rfl .refl) rfl
  have hvote : (s.onSv v fun y => { y with votes := updV y.votes n fun _ => x }).witnesses = s.witnesses :=
    onSv_witnesses v fun _ => rfl
  rw [State.castVote]
  dsimp only
  split
  · rfl
  · split
    · exact hvote
    · exact (hdrop ..).trans hvote
    · split
      · exact (hdrop ..).trans hvote
      · exact hvote

theorem planned_witnesses (v : Fin 2) : (s.planned v).witnesses = s.witnesses := by
  have hsame : Same (areaMask [.amon, .dets, .wse, .crossbar, .passages, .permits, .drops, .cumValid, .pulses, .offered,
      .selfTest, .freeCount, .chans, .warns, .scans]) (s.horizons v) (s.planned v) :=
    State.eachFin_same (State.isoJudge_same rfl (State.isoWatch_same v rfl (State.horizonStops_same rfl .refl)))
      fun _ c k => State.planStep_same v c rfl k
  exact (witnesses_of_same hsame rfl).trans (onSv_witnesses v fun _ => rfl)

/-! ### What is published -/

theorem sweepRebase_witnesses (n : Fin 4) : (s.sweepRebase n).witnesses = s.witnesses := by
  rw [State.sweepRebase]
  split
  · rfl
  · refine each_witnesses fun x m => ?_
    split
    · exact rebaseOuter_witnesses ..
    · rfl

theorem mergedEntry_witnesses (n : Fin 4) (st old : SecState) : (s.mergedEntry n st old).witnesses = s.witnesses := by
  unfold State.mergedEntry
  extract_lets p s1 s2 s3 s4
  have h3 : s3.witnesses = s.witnesses := when_view State.witnesses (witnesses_of_sv rfl)
  have hbar : (s3.when (st == .clear) fun s => s.setBarred n false).witnesses = s3.witnesses :=
    when_view State.witnesses (witnesses_of_sv rfl)
  have h4 : s4.witnesses = (s3.when (st == .clear) fun s => s.setBarred n false).witnesses :=
    when_view State.witnesses (witnesses_of_sv rfl)
  exact (when_view State.witnesses (sweepRebase_witnesses n)).trans (h4.trans (hbar.trans h3))

theorem mergeSec_witnesses (n : Fin 4) : (s.mergeSec n).witnesses = s.witnesses := by
  unfold State.mergeSec
  extract_lets old new s1 s2 s3 s4 s5
  split
  · rfl
  · have h2 : s2.witnesses = s1.witnesses := when_view State.witnesses (mergedEntry_witnesses ..)
    have h5 : Same (areaMask [.words, .kin, .pulses, .offered, .freeCount]) s2 (s5.kinMerged n (new.bal == 0 && old.bal != 0)) :=
      State.kinMerged_same _ _ rfl (State.when_same (State.when_same (State.when_same .refl
        fun _ k => State.pulse_same _ rfl (State.record_same _ _ _ _ rfl k)) fun _ k => State.publishWord_same _ _ rfl k)
        fun _ k => State.kinProvisional_same _ rfl k)
    exact (witnesses_of_same h5 rfl).trans h2

theorem publish_witnesses : s.publish.witnesses = s.witnesses := by
  unfold State.publish
  extract_lets s1 s2
  refine (witnesses_of_same (w := areaMask [.ledger, .ckptRun, .pulses, .permits]) (State.requalify_same rfl
    (State.checkpointDue_same rfl (State.attestEntries_same rfl (.refl (s := s2))))) rfl).trans ?_
  exact (each_witnesses fun _ n => mergeSec_witnesses n).trans (each_witnesses fun _ n =>
    witnesses_of_same (w := areaMask [.keeperRest, .traction, .pulses, .offered]) (State.brakeStep_same n rfl .refl) rfl)

theorem managePower_witnesses : s.managePower.witnesses = s.witnesses :=
  witnesses_of_same (w := areaMask [.pulses, .power, .offered]) (State.managePower_same rfl .refl) rfl

theorem proposeBits_witnesses (v : Fin 2) : (s.proposeBits v).witnesses = s.witnesses := by
  refine onSv_witnesses v fun x => ?_
  rw [Sv.witnesses, Sv.witnesses]
  ext1 i hi
  simp

theorem withKeep_witnesses (k : Keeper) : ({ s with keep := k } : State).witnesses = s.witnesses := rfl

/-- R199: the outcomes of a step leave the witness as it is. -/
theorem evalBack_witnesses (trig : BitVec 4) : (s.evalBack v trig).witnesses = s.witnesses := by
  unfold State.evalBack
  split
  · rfl
  · extract_lets s1 s2 s3 s4 s5 s6 s7 k s8
    have h1 : s1.witnesses = s.witnesses := each_witnesses fun _ n => (applyResults_witnesses n).trans (barResult_witnesses v n)
    have h2 : s2.witnesses = s1.witnesses := each_witnesses fun _ n => restoreStep_witnesses v n
    have h3 : s3.witnesses = s2.witnesses := each_witnesses fun _ n =>
      (selfAttest_witnesses n).trans ((selfTimer_witnesses v n).trans (outcome_witnesses v n))
    have h4 : s4.witnesses = s3.witnesses := each_witnesses fun _ n => occupancy_witnesses v n _
    have h5 : s5.witnesses = s4.witnesses := each_witnesses fun _ n => clearance_witnesses v n
    have h6 : s6.witnesses = s5.witnesses := each_witnesses fun _ n => castVote_witnesses v n _
    have h7 : s7 = s6.planned v := rfl
    have h8 : s8.witnesses = s7.witnesses := withKeep_witnesses _
    rw [managePower_witnesses, publish_witnesses, proposeBits_witnesses, h8, h7, planned_witnesses, h6, h5, h4, h3, h2, h1]

theorem evalBacks_witnesses (trig : BitVec 4 × BitVec 4) : (s.evalBacks trig).witnesses = s.witnesses :=
  (evalBack_witnesses _).trans (evalBack_witnesses _)

/-! ### The epochs (R243) -/

/-- R243: the epoch of a section, and since when. -/
def NvSec.epochSince (e : NvSec) : Nat × Time := (e.epoch, e.epochStart)

/-- R243: the epoch of every section. -/
def State.epochs (s : State) : Vector (Nat × Time) 4 := s.nv.secs.map NvSec.epochSince

theorem epochSince_of_epochs (h : u.epochs = s.epochs) (n : Fin 4) : u.nv.secs[n].epochSince = s.nv.secs[n].epochSince := by
  have hn := congrArg (fun x => x[n]) h
  simpa only [State.epochs, Fin.getElem_fin, Vector.getElem_map] using hn

theorem epoch_of_epochs (h : u.epochs = s.epochs) (n : Fin 4) : u.nv.secs[n].epoch = s.nv.secs[n].epoch :=
  congrArg Prod.fst (epochSince_of_epochs h n)

theorem epochStart_of_epochs (h : u.epochs = s.epochs) (n : Fin 4) : u.nv.secs[n].epochStart = s.nv.secs[n].epochStart :=
  congrArg Prod.snd (epochSince_of_epochs h n)

theorem epochs_of_same {w : Nat} (h : Same w s u) (hw : w.testBit Area.nvSecs.ctorIdx = false) : u.epochs = s.epochs :=
  congrArg (Vector.map NvSec.epochSince) (h.area .nvSecs hw)

theorem onNvSec_epochs (n : Fin 4) {f : NvSec → NvSec} (hf : ∀ e, (f e).epochSince = e.epochSince) : (s.onNvSec n f).epochs = s.epochs := by
  unfold State.epochs State.onNvSec updV
  ext1 i hi
  simp only [Vector.getElem_map, Vector.getElem_set]
  split
  · next h => subst h; exact hf _
  · rfl

theorem mergedEntry_epochs (n : Fin 4) (st old : SecState) : (s.mergedEntry n st old).epochs = s.epochs := by
  unfold State.mergedEntry
  extract_lets p s1 s2 s3 s4
  have h1 : s1.epochs = s.epochs :=
    epochs_of_same (w := areaMask [.pulses, .offered]) (State.pulse_same _ rfl (State.record_same _ _ _ _ rfl .refl)) rfl
  have h2 : s2.epochs = s1.epochs := onNvSec_epochs n fun _ => rfl
  have h3 : s3.epochs = s2.epochs := when_view State.epochs (onNvSec_epochs n fun _ => rfl)
  have h4 : s4.epochs = s3.epochs := (when_view State.epochs rfl).trans (when_view State.epochs rfl)
  exact (when_view State.epochs (epochs_of_same (w := maskBut .nvSecs) (State.sweepRebase_same _ rfl .refl) rfl)).trans
    (h4.trans (h3.trans (h2.trans h1)))

theorem mergeSec_epochs (n : Fin 4) : (s.mergeSec n).epochs = s.epochs := by
  unfold State.mergeSec
  extract_lets old new s1 s2 s3 s4 s5
  split
  · rfl
  · have h2 : s2.epochs = s1.epochs := when_view State.epochs (mergedEntry_epochs ..)
    have h5 : Same (areaMask [.words, .kin, .pulses, .offered, .freeCount]) s2 (s5.kinMerged n (new.bal == 0 && old.bal != 0)) :=
      State.kinMerged_same _ _ rfl (State.when_same (State.when_same (State.when_same .refl
        fun _ k => State.pulse_same _ rfl (State.record_same _ _ _ _ rfl k)) fun _ k => State.publishWord_same _ _ rfl k)
        fun _ k => State.kinProvisional_same _ rfl k)
    exact (epochs_of_same h5 rfl).trans h2

theorem publish_epochs : s.publish.epochs = s.epochs := by
  unfold State.publish
  extract_lets s1 s2
  refine (epochs_of_same (w := areaMask [.ledger, .ckptRun, .pulses, .permits]) (State.requalify_same rfl
    (State.checkpointDue_same rfl (State.attestEntries_same rfl (.refl (s := s2))))) rfl).trans ?_
  exact (each_view State.epochs fun _ n => mergeSec_epochs n).trans (each_view State.epochs fun _ n =>
    epochs_of_same (w := areaMask [.keeperRest, .traction, .pulses, .offered]) (State.brakeStep_same n rfl .refl) rfl)

theorem withKeep_epochs (k : Keeper) : ({ s with keep := k } : State).epochs = s.epochs := rfl

theorem planned_epochs : (s.planned v).epochs = s.epochs :=
  epochs_of_same (w := maskBut .nvSecs) (State.eachFin_same (State.isoJudge_same rfl (State.isoWatch_same v rfl
    (State.horizonStops_same rfl (State.horizons_same v rfl .refl)))) fun _ c k => State.planStep_same v c rfl k) rfl

/-- R243: the outcomes of a step leave the epochs as they are. -/
theorem evalBack_epochs (trig : BitVec 4) : (s.evalBack v trig).epochs = s.epochs := by
  cases h : s.evaluates v with
  | false => rw [show s.evalBack v trig = s from if_pos (by rw [h]; rfl)]
  | true =>
    obtain ⟨x, k, hx, heq⟩ := exists_evalBack_eq_planned trig h
    have hkept := withKeep_epochs (s := x.planned v) k
    generalize ({ x.planned v with keep := k } : State) = y at heq hkept
    rw [heq, epochs_of_same (w := maskBut .nvSecs) (State.managePower_same rfl .refl) rfl, publish_epochs,
      epochs_of_same (w := maskBut .nvSecs) (State.proposeBits_same v rfl .refl) rfl, hkept, planned_epochs, epochs_of_same hx rfl]

theorem evalBacks_epochs (trig : BitVec 4 × BitVec 4) : (s.evalBacks trig).epochs = s.epochs :=
  (evalBack_epochs _).trans (evalBack_epochs _)

end Sys2Proof.Machine

/-! The commits of sets that hold a two-key entry that applies at once (R36, R138, R197, R241, R243, R261, R263, R301, R315). -/

namespace Sys2Proof.Machine

variable {s u x : State} {t : Time} {src : SdpSrc} {i j : Fin 5} {q : SdpReq} {w : StoreRun} {v : Fin 2} {n : Fin 4} {c : Fin 16}

/-! ### A commit within the step of the supervisors (R36, R315) -/

theorem execute_of_commit {r : DRow} (hg : s.granted t src i q r) (hkey : q.key = keyCommit) :
    (s.staged t src i q).execute i q (onNet src) w = { st := (s.staged t src i q).commit i, res := .ok [] } := by
  have hrow : dictRow keyCommit = some commitRow := by decide
  have hr : r = commitRow := Option.some.inj ((row_of_granted hg).symm.trans (hkey ▸ hrow))
  rw [execute_of_granted hg, hr, hkey, applyWrite_command rfl (by decide), runCommand_commit]

theorem staged_journal : Same (maskBut .journal) (s.taken t src i q) (s.staged t src i q) := by
  unfold State.staged
  split
  · split
    · exact State.evalFronts_same rfl .refl
    · exact State.evalBoth_same rfl .refl
  · exact .refl

/-- R36, R315: a granted commit of immediate effect applies, the rest of the step follows, and it is answered. -/
theorem completes_commitNow {c : Instr} {f : Nat → Bool} {P : State → Prop} {r : DRow}
    (hc : exec c s = .next ((s.at t).serveIf src (wantCommit f))) (hg : s.granted t src i q r) (hkey : q.key = keyCommit)
    (hnow : deferredSet s.sdp.sessions[i].pending = false) (hany : (s.sdp.sessions[i].pending.any fun e => f e.1) = true)
    (hP : ∀ p, ((((s.staged t src i q).commit i).evalBacks (s.taken t src i q).evalFronts.2).answerKept src i p).replied
        src i q (.ok []) false →
      P ((((s.staged t src i q).commit i).evalBacks (s.taken t src i q).evalFronts.2).answerKept src i p)) :
    Completes c s P := by
  have hexec := execute_of_commit (w := .whole) hg hkey
  obtain ⟨hst, hfree, hop, htxn, -, -, -, -⟩ := hg
  have hneeds : s.requestNeeds i q = true := by
    rw [State.requestNeeds, if_pos hop, hkey, htxn, show needsSv keyCommit = true by decide]
    rfl
  have hcommits : s.commitsNow i q = true := by
    rw [State.commitsNow, beq_iff_eq.2 hop, beq_iff_eq.2 hkey, hnow]
    rfl
  generalize hm : ((s.staged t src i q).commit i).evalBacks (s.taken t src i q).evalFronts.2 = m at hP
  have hperf : s.performed t src i q .whole = { st := m, res := .ok [] } := by
    rw [performed_of_now hneeds hcommits, hexec, ← hm]
  refine completes_request hc hst hfree (by rw [hop]; decide) ?_ hperf ?_ (hP _ (answerKept_replied rfl))
  · exact Bool.and_eq_true_iff.2 ⟨Bool.and_eq_true_iff.2 ⟨beq_iff_eq.2 hop, beq_iff_eq.2 hkey⟩, hany⟩
  · have hcommit : Same (maskBut .journal) (s.taken t src i q) ((s.staged t src i q).commit i) :=
      State.commit_same i rfl staged_journal
    exact hm ▸ State.evalBacks_same _ rfl hcommit

/-! ### A set of one entry that applies at once -/

/-- R315: the pending set of a session has been taken. -/
def State.emptied (s : State) (i : Fin 5) : State := s.onSession i fun x => { x with pending := [] }

theorem emptied_serving : (s.emptied i).serving = s.serving := rfl

/-- R315: a set of one entry of immediate effect. -/
theorem commit_of_immediate {k : Nat} {val : List Byte} (hp : s.sdp.sessions[i].pending = [(k, val)]) (hk : applyRule k = .immediate) :
    s.commit i = (s.emptied i).applyImmediate s.sdp.sessions[i].raiseSlot (k, val) := by
  have hdeferred : deferredSet [(k, val)] = false := by
    simp [deferredSet, hk]
  have hpitch : pitchSet [(k, val)] = false := by
    simp [pitchSet, hk]
  have himmediate : ([(k, val)].filter fun e : KeyVal => applyRule e.1 == .immediate) = [(k, val)] := by
    simp [hk]
  unfold State.commit
  dsimp only
  rw [hp]
  rw [if_neg (by rw [hdeferred]; decide), hpitch, himmediate]
  rfl

theorem deferredSet_of_immediate {k : Nat} {val : List Byte} (hk : applyRule k = .immediate) : deferredSet [(k, val)] = false := by
  simp [deferredSet, hk]

theorem staged_pending : (s.staged t src i q).sdp.sessions[i].pending = s.sdp.sessions[i].pending := by
  rw [staged_session_eq]

theorem staged_statuses : (s.staged t src i q).statuses = s.statuses := by
  have htaken : (s.taken t src i q).statuses = s.statuses := statuses_of_sv (taken_same.area .supervisors rfl)
  unfold State.staged
  split
  · split
    · exact (evalFront_statuses 1).trans ((evalFront_statuses 0).trans htaken)
    · exact evalStep_statuses.trans (evalStep_statuses.trans htaken)
  · exact htaken

theorem mem_staged_serving (h : v ∈ s.serving) : v ∈ (s.staged t src i q).serving :=
  mem_serving_of_statuses staged_statuses h

/-- R315: the pending set is empty once its commit has been answered. -/
theorem applyImmediate_pending {slot : Nat} {e : KeyVal} : ((s.emptied i).applyImmediate slot e).sdp.sessions[i].pending = [] := by
  have hsessions : ((s.emptied i).applyImmediate slot e).sdp.sessions = (s.emptied i).sdp.sessions :=
    (State.applyImmediate_same (w := maskBut .sessions) _ _ rfl .refl).only
  rw [hsessions, State.emptied, onSession_self]

/-- R36, R315: the granted commit of a set of one entry of immediate effect: the state m in which it has applied, and what the
outcomes of the step and the answer leave of it. -/
theorem completes_commitImmediate {c : Instr} {f : Nat → Bool} {P : State → Prop} {r : DRow} {k : Nat} {val : List Byte} {m : State}
    (hc : exec c s = .next ((s.at t).serveIf src (wantCommit f))) (hg : s.granted t src i q r) (hkey : q.key = keyCommit)
    (hp : s.sdp.sessions[i].pending = [(k, val)]) (hm : m = ((s.staged t src i q).execute i q (onNet src) .whole).st)
    (hk : applyRule k = .immediate) (hf : f k = true)
    (hP : ∀ u slot, m = ((s.staged t src i q).emptied i).applyImmediate slot (k, val) →
      Same (areaMask [.mailbox, .sessions, .ports, .switch, .offered]) (m.evalBacks (s.taken t src i q).evalFronts.2) u →
      u.sv = (m.evalBacks (s.taken t src i q).evalFronts.2).sv ∧ u.sdp.sessions[i].pending = [] ∧ u.replied src i q (.ok []) false →
      P u) : Completes c s P := by
  rw [execute_of_commit hg hkey] at hm
  have hcommit := commit_of_immediate (staged_pending (t := t) (src := src) (q := q) |>.trans hp) hk
  refine completes_commitNow hc hg hkey (hp ▸ deferredSet_of_immediate hk) (by rw [hp]; simp [hf]) fun p hreplied => ?_
  rw [show (s.staged t src i q).commit i = m from hm.symm] at hreplied ⊢
  refine hP _ _ (hm.trans hcommit) answerKept_same ⟨answerKept_same.area .supervisors rfl, ?_, hreplied⟩
  have hsessions : (m.evalBacks (s.taken t src i q).evalFronts.2).sdp.sessions = m.sdp.sessions :=
    (State.evalBacks_same (w := maskBut .sessions) _ rfl .refl).only
  rw [answerKept_session, hsessions, hm.trans hcommit, applyImmediate_pending]

end Sys2Proof.Machine

/-! The entries of two keys that apply at once: what each of them does (R138, R197, R241, R243, R261, R263). -/

namespace Sys2Proof.Machine

variable {s u x : State} {t : Time} {v w : Fin 2} {m n : Fin 4}

/-! ### An EpochStrike (R263) -/

theorem onProp_prop_other (x : Sv) (f : Prop_ → Prop_) (h : m ≠ n) : (x.onProp m f).props[n] = x.props[n] := updV_other _ _ h.symm

theorem onRest_secs (x : Sv) (f : Rest → Rest) : (x.onRest n f).secs = x.secs := rfl

theorem onProp_secs (x : Sv) (f : Prop_ → Prop_) : (x.onProp n f).secs = x.secs := rfl

theorem onSec_sec_self (x : Sv) (f : SecCnt → SecCnt) : (x.onSec n f).secs[n] = f x.secs[n] := updV_self ..

theorem enter_prop_other (h : m ≠ n) (st : SecState) (route : Nat) : (s.enter w m st route).sv[v].props[n] = s.sv[v].props[n] := by
  by_cases hvw : v = w
  · subst hvw
    rw [State.enter, onSv_sv_self, onRest_props, onSec_props, onProp_prop_other _ _ h, onSv_sv_self]
    rfl
  · rw [enter_sv_other hvw]

/-- R263: the proposal for a struck section is RESTORING, or UNCONFIGURED where the section is not configured. -/
def struckState (x : SecState) : Prop := x = .restoring ∨ x = .unconfigured

theorem strikeSec_struck (hv : v ∈ s.serving) : struckState (s.strikeSec n).sv[v].props[n].state := by
  unfold State.strikeSec
  extract_lets s1 hs s2 s3
  have h2 : s2.statuses = s.statuses := each_statuses fun _ _ => setCumValid_statuses ..
  have h3 : s3.statuses = s2.statuses := bothSv_statuses fun _ _ => rfl
  refine each_sv_of_mem (P := fun y => struckState y.props[n].state) (fun x w => ?_) (fun x w w' hw => ?_)
    (.inl (mem_serving_of_statuses (h3.trans h2) hv))
  · split
    · next h => exact .inr h
    · exact .inl (enter_state ..)
  · split
    · rfl
    · exact enter_sv_other hw ..

theorem bothSv_sv_keeps {α : Type} (g : Sv → α) {f : Fin 2 → Sv → Sv} (hf : ∀ w x, g (f w x) = g x) :
    g (s.bothSv f).sv[v] = g s.sv[v] := by
  refine each_view (g := fun x : State => g x.sv[v]) fun x w => ?_
  by_cases hvw : v = w
  · subst hvw
    rw [onSv_sv_self, hf]
  · rw [onSv_sv, updV_other _ _ hvw]

theorem strikeSec_prop_other (h : m ≠ n) : (s.strikeSec m).sv[v].props[n] = s.sv[v].props[n] := by
  unfold State.strikeSec
  extract_lets s1 hs s2 s3
  have h2 : s2.sv = s.sv := each_view (g := State.sv) fun _ _ => rfl
  have h3 : s3.sv[v].props[n] = s2.sv[v].props[n] := bothSv_sv_keeps (fun y => y.props[n]) fun _ _ => rfl
  refine (each_view (g := fun x : State => x.sv[v].props[n]) fun x w => ?_).trans (h3.trans (congrArg (fun y => y[v].props[n]) h2))
  split
  · rfl
  · exact enter_prop_other h ..

theorem strikeSec_nvSecs : (s.strikeSec n).nv.secs =
    (s.onNvSec n fun e => { e with lastEpoch := if e.epoch = 0 then e.lastEpoch else e.epoch, epoch := 0 }).nv.secs := by
  unfold State.strikeSec
  extract_lets s1 hs s2 s3
  have hrest : Same (areaMask [.supervisors, .cumValid]) s1
      (State.each s3 s3.serving fun s v => if s.sv[v].props[n].state = .unconfigured then s else s.enter v n .restoring) := by
    refine State.each_same (State.bothSv_same _ rfl (State.each_same .refl fun h x hx => State.setCumValid_same _ _ rfl hx)) fun w x hx => ?_
    exact Same.ite hx (State.enter_same _ _ _ _ rfl hx)
  exact hrest.area .nvSecs rfl

theorem strikeSec_epoch : (s.strikeSec n).nv.secs[n].epoch = 0 := by
  rw [strikeSec_nvSecs, State.onNvSec, updV_self]

theorem strikeSec_epoch_other (h : m ≠ n) : (s.strikeSec m).nv.secs[n].epoch = s.nv.secs[n].epoch := by
  rw [strikeSec_nvSecs, State.onNvSec, updV_other _ _ h.symm]

theorem ne_zero_of_bitOf {a k : Nat} (h : bitOf a k = true) : a ≠ 0 := by
  rintro rfl
  rw [bitOf, Nat.zero_testBit] at h
  exact Bool.false_ne_true h

/-- R263: the sections that the word of a strike names. -/
def struckSections (a : Nat) : List (Fin 4) := sections.filter fun m => bitOf a m.val

theorem mem_struckSections {a : Nat} (h : bitOf a n.val = true) : n ∈ struckSections a :=
  List.mem_filter.2 ⟨List.mem_finRange n, h⟩

theorem strikes_struck {l : List (Fin 4)} (hn : n ∈ l) (hv : v ∈ s.serving) :
    struckState (State.each s l State.strikeSec).sv[v].props[n].state := by
  refine each_of_mem (I := fun x => v ∈ x.serving) (Q := fun x => struckState x.sv[v].props[n].state)
    (fun x m hx => mem_serving_of_statuses (strikeSec_statuses m) hx) (fun x hx => strikeSec_struck hx) (fun x m hx hq => ?_) hn hv
  by_cases hmn : m = n
  · subst hmn
    exact strikeSec_struck hx
  · rw [strikeSec_prop_other hmn]
    exact hq

theorem strikes_epoch {l : List (Fin 4)} (hn : n ∈ l) : (State.each s l State.strikeSec).nv.secs[n].epoch = 0 := by
  refine each_of_mem (I := fun _ => True) (Q := fun x => x.nv.secs[n].epoch = 0) (fun _ _ _ => trivial) (fun _ _ => strikeSec_epoch)
    (fun x m _ hq => ?_) hn trivial
  by_cases hmn : m = n
  · subst hmn
    exact strikeSec_epoch
  · rw [strikeSec_epoch_other hmn]
    exact hq

theorem applyImmediate_strike {slot : Nat} {val : List Byte} (hval : leNat val ≠ 0) :
    s.applyImmediate slot (dkey 0x4021 1, val) = State.each s (struckSections (leNat val)) State.strikeSec := by
  unfold State.applyImmediate
  dsimp only
  rw [if_neg (by decide), if_neg hval, if_pos (by decide)]
  rfl

/-! ### A sweep request and a direct clear (R138, R261) -/

theorem mem_serving_discardResult (hv : v ∈ s.serving) : v ∈ (s.discardResult n).serving :=
  mem_serving_of_statuses (when_view State.statuses (record_statuses ..)) hv

/-- The balance of a section stays where it enters a state that counts. -/
theorem enter_balance_of_live {st : SecState} {route : Nat} (hlive : (st == .clear || st == .occupied || st == .prepared) = true) :
    (s.enter v n st route).sv[v].secs[n].b = s.sv[v].secs[n].b := by
  have hst : st ≠ .unconfigured := fun h => by subst h; exact Bool.false_ne_true hlive
  have hkeep (k : SecCnt) (a : Time) (c : Bool) : (k.setSound a c).b = k.b := by
    unfold SecCnt.setSound
    split <;> rfl
  rw [State.enter, onSv_sv_self, onRest_secs, onSec_sec_self]
  rw [if_neg hst, if_pos hlive, hkeep, onProp_secs, onSv_sv_self]
  rfl

/-- R138: the section of a sweep is PREPARED with balance 0. -/
def swept (x : Sv) (n : Fin 4) : Prop := x.props[n].state = .prepared ∧ x.secs[n].b = 0

theorem sweep_swept (hv : v ∈ s.serving) : swept (s.sweep n).sv[v] n := by
  unfold State.sweep
  dsimp only
  rw [pulse_sv]
  refine each_sv_of_mem (P := fun y => swept y n) (fun x w => ⟨enter_state .., ?_⟩) (fun x w w' hw => ?_)
    (.inl (mem_serving_discardResult hv))
  · rw [enter_balance_of_live rfl, onSv_sv_self, onProp_secs, onSec_sec_self]
    rfl
  · rw [enter_sv_other hw, onSv_sv, updV_other _ _ hw]

theorem sweepRebase_secs : (s.sweepRebase n).sv[v].secs = s.sv[v].secs := by
  have hrebase (x : State) (h : Fin 8) (b : Bool) (z : Int) (a : Time) : (x.rebaseHead h b z a).sv[v].secs = x.sv[v].secs := by
    unfold State.rebaseHead
    extract_lets d d0 s1
    have h1 : s1.sv[v].secs = x.sv[v].secs := bothSv_sv_keeps Sv.secs fun _ _ => rfl
    rw [record_sv]
    exact h1
  unfold State.sweepRebase
  split
  · rfl
  · refine each_view (g := fun x : State => x.sv[v].secs) fun x m => ?_
    split
    · rw [State.rebaseOuter]
      split
      · exact hrebase ..
      · rfl
    · rfl

/-- R261: the section of a direct clear is CLEAR by route 5 with balance 0. -/
def cleared (x : Sv) (n : Fin 4) : Prop := x.props[n].state = .clear ∧ x.props[n].route = 5 ∧ x.secs[n].b = 0

theorem enter_clear_cleared (h : s.sv[v].secs[n].b = 0) : cleared (s.enter v n .clear 5).sv[v] n :=
  ⟨enter_state .., enter_route _ (by decide), (enter_balance_of_live rfl).trans h⟩

theorem each_clear_cleared {l : List (Fin 2)} (hv : v ∈ l) (h : s.sv[v].secs[n].b = 0) :
    cleared (State.each s l fun s w => s.enter w n .clear 5).sv[v] n := by
  refine each_of_mem (I := fun x => x.sv[v].secs[n].b = 0) (Q := fun x => cleared x.sv[v] n) (fun x w hx => ?_)
    (fun x hx => enter_clear_cleared hx) (fun x w hx hq => ?_) hv h
  · by_cases hvw : v = w
    · subst hvw
      exact (enter_balance_of_live rfl).trans hx
    · rw [enter_sv_other hvw]
      exact hx
  · by_cases hvw : v = w
    · subst hvw
      exact enter_clear_cleared hx
    · rw [enter_sv_other hvw]
      exact hq

theorem sweepRebase_statuses : (s.sweepRebase n).statuses = s.statuses := by
  unfold State.sweepRebase
  split
  · rfl
  · refine each_statuses fun x m => ?_
    split
    · exact rebaseOuter_statuses ..
    · rfl

/-- R261: a direct clear takes the result back and empties the section's counters. -/
def State.emptiedSec (s : State) (n : Fin 4) : State :=
  State.each (s.discardResult n) (s.discardResult n).serving fun s v => s.onSv v fun x => x.onSec n fun k => k.emptied (s.tOwn n)

theorem mem_serving_emptiedSec (hv : v ∈ s.serving) : v ∈ (s.emptiedSec n).serving :=
  mem_serving_of_statuses (each_statuses fun _ w => onSv_statuses w fun _ => rfl) (mem_serving_discardResult hv)

theorem emptiedSec_balance (hv : v ∈ s.serving) : (s.emptiedSec n).sv[v].secs[n].b = 0 := by
  refine each_sv_of_mem (P := fun y => y.secs[n].b = 0) (fun x w => ?_) (fun x w w' hw => ?_) (.inl (mem_serving_discardResult hv))
  · rw [onSv_sv_self, onSec_sec_self]
    rfl
  · rw [onSv_sv, updV_other _ _ hw]

theorem setBarred_sv (b : Bool) : (s.setBarred n b).sv = s.sv := rfl

theorem rebased_secs : ((s.sweepRebase n).setBarred n false).sv[v].secs = s.sv[v].secs := sweepRebase_secs

theorem mem_serving_rebased (hv : v ∈ s.serving) : v ∈ ((s.sweepRebase n).setBarred n false).serving :=
  mem_serving_of_statuses (setBarred_statuses ..) (mem_serving_of_statuses sweepRebase_statuses hv)

theorem rebased_cleared (hv : v ∈ s.serving) (hb : s.sv[v].secs[n].b = 0) :
    cleared (State.each ((s.sweepRebase n).setBarred n false) ((s.sweepRebase n).setBarred n false).serving
      fun s w => s.enter w n .clear 5).sv[v] n :=
  each_clear_cleared (mem_serving_rebased hv) ((congrArg (fun k => k[n].b) rebased_secs).trans hb)

theorem directClear_cleared {a slot : Nat} (hv : v ∈ s.serving) : cleared (s.directClear n a slot).sv[v] n := by
  unfold State.directClear
  dsimp only
  rw [pulse_sv, record_sv]
  exact rebased_cleared (s := s.emptiedSec n) (mem_serving_emptiedSec hv) (emptiedSec_balance hv)

theorem barred_of_same {x u : State} (h : Same (areaMask [.supervisors, .pulses, .offered]) x u) : u.keep.barred = x.keep.barred :=
  congrArg (fun k => k.2.2.1) (h.area .keeperRest rfl)

theorem setBarred_barred {b : Bool} : (s.setBarred n b).keep.barred[n] = b := updV_self ..

theorem barred_kept_enters {l : List (Fin 2)} {code : BitVec 16} {p : List Byte} :
    (((State.each s l fun s w => s.enter w n .clear 5).record code 3 p).pulse 22).keep.barred = s.keep.barred :=
  barred_of_same (State.pulse_same _ rfl (State.record_same _ _ _ _ rfl
    (State.each_same .refl fun _ w hx => State.enter_same w n _ _ rfl hx)))

theorem directClear_barred {a slot : Nat} : (s.directClear n a slot).keep.barred[n] = false := by
  unfold State.directClear
  dsimp only
  rw [barred_kept_enters]
  exact setBarred_barred

/-! ### The re-reference of a channel (R138) -/

/-- R138: the temperature coefficients of a channel are forgotten, and its statistics say so. -/
def State.reReferenced (s : State) (d : Fin 16) : Prop :=
  s.nv.chans[d].kapLKnown = false ∧ s.nv.chans[d].kapHKnown = false ∧ s.eng.stats[d].reRefd = true

variable {c d : Fin 16}

/-- What the channels keep of their references (R138). -/
def State.references (s : State) : Vector NvChan 16 × Vector Bool 16 := (s.nv.chans, s.eng.stats.map Stats.reRefd)

theorem reReferenced_of_references (h : u.references = s.references) (hd : s.reReferenced d) : u.reReferenced d := by
  obtain ⟨hl, hh, hr⟩ := hd
  have hc : u.nv.chans = s.nv.chans := congrArg (fun k => k.1) h
  have ht := congrArg (fun k => k.2[d]) h
  simp only [State.references, Fin.getElem_fin, Vector.getElem_map] at ht
  exact ⟨hc ▸ hl, hc ▸ hh, ht.trans hr⟩

theorem references_of_same {w : Nat} (hs : Same w s u) (hchans : w.testBit Area.nvChans.ctorIdx = false)
    (hstats : w.testBit Area.stats.ctorIdx = false) : u.references = s.references := by
  have hc : u.nv.chans = s.nv.chans := hs.out .nvChans hchans
  have ht : u.eng.stats = s.eng.stats := hs.out .stats hstats
  rw [State.references, State.references, hc, ht]

theorem onStats_references {f : Stats → Stats} (hf : ∀ x, (f x).reRefd = x.reRefd) : (s.onStats c f).references = s.references := by
  refine Prod.ext rfl ?_
  simp only [State.references, State.onStats, updV]
  ext1 i hi
  simp only [Vector.getElem_map, Vector.getElem_set]
  split
  · next h => subst h; exact hf _
  · rfl

/-- R124: what ends a presence leaves the references as they are. -/
theorem emit_withdraw_references (stamp : Time) : (s.emit c .withdraw stamp false false false).references = s.references := by
  unfold State.emit
  extract_lets x hd out base ending peak cls r cen p s1 s2 s3 s0
  have hpeak : Same (areaMask [.freeCount]) s peak.2 := State.rootRound_same _ _ rfl .refl
  have hcen : Same (areaMask [.freeCount]) s cen.2 := by
    dsimp only [cen]
    split
    · exact hpeak
    · split
      · exact State.drawFree_same rfl hpeak
      · exact State.unstatedRound_same _ rfl hpeak
  have h1 : s1.references = cen.2.references := rfl
  have h2 : s2.references = s1.references :=
    references_of_same (w := areaMask [.dets, .chans]) (State.onChan_same _ _ rfl (State.onDet_same _ _ rfl .refl)) rfl rfl
  have h3 : s3.references = s2.references :=
    (references_of_same (w := areaMask [.warns]) (State.warnCond_same _ _ _ rfl .refl) rfl rfl).trans (onStats_references fun _ => rfl)
  have hending : ending = true := rfl
  rw [if_pos hending]
  refine (when_view State.references (references_of_same (w := areaMask [.warns, .offered]) (State.warn_same _ _ rfl .refl) rfl rfl)).trans ?_
  rw [h3, h2, h1, references_of_same hcen rfl rfl]

/-- R138: the coefficients of a channel are forgotten and its statistics begin anew. -/
theorem rereference_self : (s.rereference c).reReferenced c := by
  unfold State.rereference
  extract_lets r s' b s1 s2 s3 s4
  have h2 : s2.references = s1.references := references_of_same (w := areaMask [.dets]) (State.onDet_same _ _ rfl .refl) rfl rfl
  have h3 : s3.references = s2.references := when_view State.references (emit_withdraw_references _)
  have hchans : s4.nv.chans = s1.nv.chans := congrArg (fun k => k.1) (h3.trans h2)
  have hself : s4.reReferenced c := by
    refine ⟨?_, ?_, ?_⟩
    · rw [hchans]
      exact congrArg NvChan.kapLKnown (updV_self ..)
    · rw [hchans]
      exact congrArg NvChan.kapHKnown (updV_self ..)
    · rw [onStats_self]
  exact reReferenced_of_references (references_of_same (State.record_same _ _ _ _ (w := areaMask [.offered]) rfl .refl) rfl rfl) hself

theorem rereference_other (h : d ≠ c) (hd : s.reReferenced d) : (s.rereference c).reReferenced d := by
  unfold State.rereference
  extract_lets r s' b s1 s2 s3 s4
  have h0 : s'.reReferenced d :=
    reReferenced_of_references (references_of_same (w := areaMask [.freeCount]) (State.bandNow_same _ rfl .refl) rfl rfl) hd
  have h1 : s1.reReferenced d := by
    rw [State.reReferenced, show s1.nv.chans[d] = s'.nv.chans[d] from updV_other _ _ h]
    exact h0
  have h2 : s2.references = s1.references := references_of_same (w := areaMask [.dets]) (State.onDet_same _ _ rfl .refl) rfl rfl
  have h3 : s3.references = s2.references := when_view State.references (emit_withdraw_references _)
  have h3' : s3.reReferenced d := reReferenced_of_references (h3.trans h2) h1
  have h4 : s4.reReferenced d := by
    rw [State.reReferenced, show s4.eng.stats[d] = s3.eng.stats[d] from updV_other _ _ h]
    exact h3'
  exact reReferenced_of_references (references_of_same (State.record_same _ _ _ _ (w := areaMask [.offered]) rfl .refl) rfl rfl) h4

/-- R138: a re-reference of systems of a head reaches each of them. -/
theorem rereferences {h : Fin 8} {l : List (Fin 2)} {j : Fin 2} (hj : j ∈ l) :
    (State.each s l fun s i => s.rereference (chanOf h i)).reReferenced (chanOf h j) := by
  refine each_of_mem (I := fun _ => True) (Q := fun x => x.reReferenced (chanOf h j)) (fun _ _ _ => trivial) (fun _ _ => rereference_self)
    (fun x i _ hx => ?_) hj trivial
  by_cases hij : chanOf h j = chanOf h i
  · rw [hij]
    exact rereference_self
  · exact rereference_other hij hx

/-! ### The entry of an index of its own -/

variable {k slot : Nat} {val : List Byte}

theorem applyImmediate_sweep (hlow : 0x2200 ≤ k / 256) (hhigh : k / 256 < 0x2204) (hsub : k % 256 = 0x0C) (hval : leNat val ≠ 0) :
    s.applyImmediate slot (k, val) = s.sweep (secOfKey 0x2200 k) := by
  unfold State.applyImmediate
  dsimp only
  rw [if_neg (by omega), if_neg hval, if_neg (by omega), dif_neg (by omega), if_neg (by omega), if_pos hsub]

theorem applyImmediate_directClear (hlow : 0x2200 ≤ k / 256) (hhigh : k / 256 < 0x2204) (hsub : k % 256 = 0x0D)
    (hval : leNat val ≠ 0) : s.applyImmediate slot (k, val) = s.directClear (secOfKey 0x2200 k) (leNat val) slot := by
  unfold State.applyImmediate
  dsimp only
  rw [if_neg (by omega), if_neg hval, if_neg (by omega), dif_neg (by omega), if_neg (by omega), if_neg (by omega)]

theorem applyImmediate_rereference {h : Fin 8} (hidx : k / 256 = 0x3200 + h.val) (hval : leNat val ≠ 0) :
    s.applyImmediate slot (k, val) =
      State.each s ((List.finRange 2).filter fun i => bitOf (leNat val) i.val) fun s i => s.rereference (chanOf h i) := by
  have hh := h.isLt
  have hhead : (⟨k / 256 - 0x3200, by omega⟩ : Fin 8) = h := Fin.ext (by dsimp only; omega)
  unfold State.applyImmediate
  dsimp only
  rw [if_neg (by omega), if_neg hval, if_neg (by omega), dif_pos (by omega), hhead]

theorem applyImmediate_releaseWitness (hlow : 0x3300 ≤ k / 256) (hhigh : k / 256 < 0x3304) (hval : leNat val ≠ 0) :
    s.applyImmediate slot (k, val) = s.releaseWitness (secOfKey 0x3300 k) := by
  unfold State.applyImmediate
  dsimp only
  rw [if_neg (by omega), if_neg hval, if_neg (by omega), dif_neg (by omega), if_pos ⟨hlow, hhigh⟩]

theorem applyImmediate_loadKey (hidx : k / 256 = 0x4040) : s.applyImmediate slot (k, val) = s.loadKey (k % 256 - 1) val := by
  unfold State.applyImmediate
  dsimp only
  rw [if_pos hidx]

theorem releaseWitness_witness (hv : v ∈ s.serving) : (s.releaseWitness n).sv[v].props[n].witness = false := by
  refine each_sv_of_mem (P := fun y => y.props[n].witness = false) (fun x w => ?_) (fun x w w' hw => ?_) (.inl hv)
  · rw [onSv_sv_self, onProp_prop_self]
  · rw [onSv_sv, updV_other _ _ hw]

/-! ### What an answer and the outcomes of the step leave (R36) -/

end Sys2Proof.Machine

/-! The commits of sets of two keys (R315): each entry applies at once, and its set is empty. -/

namespace Sys2Proof.Machine

variable {s u m : State} {t : Time} {src : SdpSrc} {i : Fin 5} {q : SdpReq} {r : DRow} {v : Fin 2} {n : Fin 4} {k : Nat}
  {val : List Byte} {trig : BitVec 4 × BitVec 4}

/-! ### Entries that apply at once (R315) -/

theorem applyRule_section (hlow : 0x2200 ≤ k / 256) (hhigh : k / 256 < 0x2204) (hsub : k % 256 = 0x0C ∨ k % 256 = 0x0D) :
    applyRule k = .immediate := by
  unfold applyRule
  dsimp only
  rw [if_neg (by omega), if_pos]
  refine Bool.or_eq_true_iff.2 (.inr (Bool.and_eq_true_iff.2 ⟨decide_eq_true ⟨hlow, hhigh⟩, ?_⟩))
  exact Bool.or_eq_true_iff.2 (hsub.imp beq_iff_eq.2 beq_iff_eq.2)

theorem applyRule_head {h : Fin 8} (hidx : k / 256 = 0x3200 + h.val) (hsub : k % 256 = 0x12) : applyRule k = .immediate := by
  have hh := h.isLt
  unfold applyRule
  dsimp only
  rw [if_neg (by omega), if_pos]
  refine Bool.or_eq_true_iff.2 (.inl (Bool.or_eq_true_iff.2 (.inl (Bool.or_eq_true_iff.2 (.inr ?_)))))
  exact Bool.and_eq_true_iff.2 ⟨decide_eq_true (by omega), beq_iff_eq.2 hsub⟩

theorem applyRule_braking (hlow : 0x3300 ≤ k / 256) (hhigh : k / 256 < 0x3304) (hsub : k % 256 = 0x0A) : applyRule k = .immediate := by
  unfold applyRule
  dsimp only
  rw [if_neg (by omega), if_pos]
  refine Bool.or_eq_true_iff.2 (.inl (Bool.or_eq_true_iff.2 (.inr ?_)))
  exact Bool.and_eq_true_iff.2 ⟨decide_eq_true ⟨hlow, hhigh⟩, beq_iff_eq.2 hsub⟩

theorem applyRule_key (hidx : k / 256 = 0x4040) : applyRule k = .immediate := by
  unfold applyRule
  dsimp only
  rw [if_neg (by omega), if_pos]
  refine Bool.or_eq_true_iff.2 (.inl (Bool.or_eq_true_iff.2 (.inl (Bool.or_eq_true_iff.2 (.inl ?_)))))
  exact Bool.or_eq_true_iff.2 (.inr (beq_iff_eq.2 hidx))

theorem applyRule_timed (hidx : k / 256 = 0x4020) : applyRule k = .timed := if_pos hidx

/-! ### What the outcomes of the step and the answer leave -/

/-- The areas in which an answer may differ from the outcomes of the step. -/
def answered (trig : BitVec 4 × BitVec 4) (m u : State) : Prop :=
  Same (areaMask [.mailbox, .sessions, .ports, .switch, .offered]) (m.evalBacks trig) u

theorem answered_epoch (h : answered trig m u) (n : Fin 4) : u.nv.secs[n].epoch = m.nv.secs[n].epoch :=
  epoch_of_epochs ((epochs_of_same h rfl).trans (evalBacks_epochs trig)) n

theorem answered_witness (h : answered trig m u) (v : Fin 2) (n : Fin 4) : u.sv[v].props[n].witness = m.sv[v].props[n].witness :=
  witness_of_witnesses ((witnesses_of_same h rfl).trans (evalBacks_witnesses trig)) v n

theorem evalBacks_references : (s.evalBacks trig).references = s.references := by
  have hchans : (s.evalBacks trig).nv.chans = s.nv.chans := (State.evalBacks_same (w := maskBut .nvChans) trig rfl .refl).only
  have hstats : (s.evalBacks trig).eng.stats = s.eng.stats := (State.evalBacks_same (w := maskBut .stats) trig rfl .refl).only
  rw [State.references, State.references, hchans, hstats]

theorem answered_references (h : answered trig m u) : u.references = m.references :=
  (references_of_same h rfl rfl).trans evalBacks_references

theorem answered_keys (h : answered trig m u) : u.nv.keys = m.nv.keys :=
  (h.area .keys rfl).trans (State.evalBacks_same (w := maskBut .keys) trig rfl .refl).only

theorem staged_keys : (s.staged t src i q).nv.keys = s.nv.keys := by
  rw [staged_same.area .keys rfl, taken_nv, at_nv_keys]

/-! ### The commits (R138, R197, R241, R243, R261, R263) -/

theorem completes_strike (hg : s.granted t src i q r) (hkey : q.key = keyCommit) (hp : s.sdp.sessions[i].pending = [(k, val)])
    (hm : m = ((s.staged t src i q).execute i q (onNet src) .whole).st) (hk : k = dkey 0x4021 1) (hn : bitOf (leNat val) n.val = true) :
    Completes (.strike t src) s fun u =>
      u.nv.secs[n].epoch = 0 ∧ (∀ v ∈ s.serving, m.sv[v].props[n].state = .restoring ∨ m.sv[v].props[n].state = .unconfigured) ∧
      u.sv = (m.evalBacks (s.taken t src i q).evalFronts.2).sv ∧ u.sdp.sessions[i].pending = [] ∧ u.replied src i q (.ok []) false := by
  refine completes_commitImmediate rfl hg hkey hp hm (hk ▸ by decide) (hk ▸ by decide) fun u slot happlied hu hrest => ⟨?_, fun v hv => ?_, hrest⟩
  · rw [answered_epoch hu n, happlied, hk, applyImmediate_strike (ne_zero_of_bitOf hn)]
    exact strikes_epoch (mem_struckSections hn)
  · rw [happlied, hk, applyImmediate_strike (ne_zero_of_bitOf hn)]
    exact strikes_struck (mem_struckSections hn) (mem_staged_serving hv)

theorem completes_sweepRequest (hg : s.granted t src i q r) (hkey : q.key = keyCommit) (hp : s.sdp.sessions[i].pending = [(k, val)])
    (hm : m = ((s.staged t src i q).execute i q (onNet src) .whole).st) (hlow : 0x2200 ≤ k / 256) (hhigh : k / 256 < 0x2204)
    (hsub : k % 256 = 0x0C) (hval : leNat val ≠ 0) (hv : v ∈ s.serving) (hn : n = secOfKey 0x2200 k) :
    Completes (.sweepRequest t src) s fun u =>
      m.sv[v].props[n].state = .prepared ∧ m.sv[v].secs[n].b = 0 ∧
      u.sv = (m.evalBacks (s.taken t src i q).evalFronts.2).sv ∧ u.sdp.sessions[i].pending = [] ∧ u.replied src i q (.ok []) false := by
  refine completes_commitImmediate rfl hg hkey hp hm (applyRule_section hlow hhigh (.inl hsub)) ?_ fun u slot happlied hu hrest => ?_
  · exact Bool.and_eq_true_iff.2 ⟨decide_eq_true ⟨hlow, hhigh⟩, beq_iff_eq.2 hsub⟩
  · rw [applyImmediate_sweep hlow hhigh hsub hval, ← hn] at happlied
    obtain ⟨hstate, hb⟩ := sweep_swept (n := n) (s := (s.staged t src i q).emptied i) (mem_staged_serving hv)
    exact ⟨happlied ▸ hstate, happlied ▸ hb, hrest⟩

theorem completes_directClear (hg : s.granted t src i q r) (hkey : q.key = keyCommit) (hp : s.sdp.sessions[i].pending = [(k, val)])
    (hm : m = ((s.staged t src i q).execute i q (onNet src) .whole).st) (hlow : 0x2200 ≤ k / 256) (hhigh : k / 256 < 0x2204)
    (hsub : k % 256 = 0x0D) (hval : leNat val ≠ 0) (hv : v ∈ s.serving) (hn : n = secOfKey 0x2200 k) :
    Completes (.directClear t src) s fun u =>
      m.sv[v].props[n].state = .clear ∧ m.sv[v].props[n].route = 5 ∧ m.sv[v].secs[n].b = 0 ∧ m.keep.barred[n] = false ∧
      u.sv = (m.evalBacks (s.taken t src i q).evalFronts.2).sv ∧ u.sdp.sessions[i].pending = [] ∧ u.replied src i q (.ok []) false := by
  refine completes_commitImmediate rfl hg hkey hp hm (applyRule_section hlow hhigh (.inr hsub)) ?_ fun u slot happlied hu hrest => ?_
  · exact Bool.and_eq_true_iff.2 ⟨decide_eq_true ⟨hlow, hhigh⟩, beq_iff_eq.2 hsub⟩
  · rw [applyImmediate_directClear hlow hhigh hsub hval, ← hn] at happlied
    obtain ⟨hstate, hroute, hb⟩ :=
      directClear_cleared (n := n) (s := (s.staged t src i q).emptied i) (a := leNat val) (slot := slot) (mem_staged_serving hv)
    exact ⟨happlied ▸ hstate, happlied ▸ hroute, happlied ▸ hb, happlied ▸ directClear_barred, hrest⟩

theorem completes_rereference {h : Fin 8} {j : Fin 2} (hg : s.granted t src i q r) (hkey : q.key = keyCommit)
    (hp : s.sdp.sessions[i].pending = [(k, val)]) (hm : m = ((s.staged t src i q).execute i q (onNet src) .whole).st)
    (hidx : k / 256 = 0x3200 + h.val) (hsub : k % 256 = 0x12) (hj : bitOf (leNat val) j.val = true) :
    Completes (.rereference t src) s fun u =>
      u.nv.chans[chanOf h j].kapLKnown = false ∧ u.nv.chans[chanOf h j].kapHKnown = false ∧ u.eng.stats[chanOf h j].reRefd = true ∧
      u.sv = (m.evalBacks (s.taken t src i q).evalFronts.2).sv ∧ u.sdp.sessions[i].pending = [] ∧ u.replied src i q (.ok []) false := by
  have hh := h.isLt
  refine completes_commitImmediate rfl hg hkey hp hm (applyRule_head hidx hsub) ?_ fun u slot happlied hu hrest => ?_
  · exact Bool.and_eq_true_iff.2 ⟨decide_eq_true (by omega), beq_iff_eq.2 hsub⟩
  · rw [applyImmediate_rereference hidx (ne_zero_of_bitOf hj)] at happlied
    have hmem : j ∈ (List.finRange 2).filter fun i => bitOf (leNat val) i.val := List.mem_filter.2 ⟨List.mem_finRange j, hj⟩
    have hdone : m.reReferenced (chanOf h j) := happlied ▸ rereferences hmem
    obtain ⟨hl, hhigh, hr⟩ := reReferenced_of_references (answered_references hu) hdone
    exact ⟨hl, hhigh, hr, hrest⟩

theorem completes_bemfRelease (hg : s.granted t src i q r) (hkey : q.key = keyCommit) (hp : s.sdp.sessions[i].pending = [(k, val)])
    (hm : m = ((s.staged t src i q).execute i q (onNet src) .whole).st) (hlow : 0x3300 ≤ k / 256) (hhigh : k / 256 < 0x3304)
    (hsub : k % 256 = 0x0A) (hval : leNat val ≠ 0) (hv : v ∈ s.serving) (hn : n = secOfKey 0x3300 k) :
    Completes (.bemfRelease t src) s fun u =>
      u.sv[v].props[n].witness = false ∧
      u.sv = (m.evalBacks (s.taken t src i q).evalFronts.2).sv ∧ u.sdp.sessions[i].pending = [] ∧ u.replied src i q (.ok []) false := by
  refine completes_commitImmediate rfl hg hkey hp hm (applyRule_braking hlow hhigh hsub) ?_ fun u slot happlied hu hrest => ⟨?_, hrest⟩
  · exact Bool.and_eq_true_iff.2 ⟨decide_eq_true ⟨hlow, hhigh⟩, beq_iff_eq.2 hsub⟩
  · rw [applyImmediate_releaseWitness hlow hhigh hval, ← hn] at happlied
    rw [answered_witness hu, happlied]
    exact releaseWitness_witness (s := (s.staged t src i q).emptied i) (mem_staged_serving hv)

theorem completes_keySlotLoad (hg : s.granted t src i q r) (hkey : q.key = keyCommit) (hp : s.sdp.sessions[i].pending = [(k, val)])
    (hm : m = ((s.staged t src i q).execute i q (onNet src) .whole).st) (hidx : k / 256 = 0x4040) :
    Completes (.keySlotLoad t src) s fun u =>
      u.nv.keys = s.nv.keys.set (k % 256 - 1) (if val.all (fun b => b == 0) then [] else val) ∧
      u.sv = (m.evalBacks (s.taken t src i q).evalFronts.2).sv ∧ u.sdp.sessions[i].pending = [] ∧ u.replied src i q (.ok []) false := by
  refine completes_commitImmediate rfl hg hkey hp hm (applyRule_key hidx) (beq_iff_eq.2 hidx) fun u slot happlied hu hrest => ⟨?_, hrest⟩
  have hkeys : ((s.staged t src i q).emptied i).nv.keys = s.nv.keys := staged_keys
  rw [answered_keys hu, happlied, applyImmediate_loadKey hidx, State.loadKey, hkeys]

/-! ### A pitch (R241, R243) -/

/-- R241: every entry of a pitch waits for PitchTime. -/
def timedSet (p : List KeyVal) : Prop := ∀ e ∈ p, applyRule e.1 = .timed

variable {p : List KeyVal}

theorem timedSet_of_all (h : (p.all fun e => e.1 / 256 == 0x4020) = true) : timedSet p :=
  fun e he => applyRule_timed (beq_iff_eq.1 (List.all_eq_true.1 h e he))

theorem deferredSet_of_timed (h : timedSet p) : deferredSet p = false :=
  List.any_eq_false.2 fun e he => by rw [h e he]; decide

theorem pitchSet_of_timed (h : timedSet p) (hne : p ≠ []) : pitchSet p = true := by
  obtain ⟨e, he⟩ := List.exists_mem_of_ne_nil p hne
  exact List.any_eq_true.2 ⟨e, he, by rw [h e he]; rfl⟩

/-- R241: the entries of a pitch that has been committed are kept, its result pending. -/
def State.pitched (s : State) (p : List KeyVal) : State := { s with nv := { s.nv with pitch := p, pitchRes := 1 } }

theorem commit_of_timed (h : timedSet s.sdp.sessions[i].pending) (hne : s.sdp.sessions[i].pending ≠ []) :
    s.commit i = (s.emptied i).pitched s.sdp.sessions[i].pending := by
  generalize hp : s.sdp.sessions[i].pending = p at h hne
  have htimed : (p.filter fun e => applyRule e.1 == .timed) = p := List.filter_eq_self.2 fun e he => by rw [h e he]; rfl
  have himmediate : (p.filter fun e => applyRule e.1 == .immediate) = [] :=
    List.filter_eq_nil_iff.2 fun e he => by rw [h e he]; decide
  unfold State.commit
  dsimp only
  rw [hp, if_neg (by rw [deferredSet_of_timed h]; decide), himmediate, when_of (pitchSet_of_timed h hne), htimed]
  rfl

theorem answered_pitch (h : answered trig m u) : (u.nv.pitch, u.nv.pitchRes) = (m.nv.pitch, m.nv.pitchRes) :=
  (h.area .pitch rfl).trans (State.evalBacks_same (w := maskBut .pitch) trig rfl .refl).only

theorem completes_pitchCommit (hg : s.granted t src i q r) (hkey : q.key = keyCommit)
    (hall : (s.sdp.sessions[i].pending.all fun e => e.1 / 256 == 0x4020) = true) (hne : s.sdp.sessions[i].pending ≠ []) :
    Completes (.pitchCommit t src) s fun u =>
      u.nv.pitch = s.sdp.sessions[i].pending ∧ u.nv.pitchRes = 1 ∧ u.sdp.sessions[i].pending = [] ∧ u.replied src i q (.ok []) false := by
  have htimed : timedSet s.sdp.sessions[i].pending := timedSet_of_all hall
  have hpend : (s.staged t src i q).sdp.sessions[i].pending = s.sdp.sessions[i].pending := staged_pending
  have hcommit : (s.staged t src i q).commit i = ((s.staged t src i q).emptied i).pitched s.sdp.sessions[i].pending := by
    rw [commit_of_timed (hpend ▸ htimed) (hpend ▸ hne), hpend]
  refine completes_commitNow rfl hg hkey (deferredSet_of_timed htimed) ?_ fun p hreplied => ?_
  · obtain ⟨e, he⟩ := List.exists_mem_of_ne_nil _ hne
    exact List.any_eq_true.2 ⟨e, he, List.all_eq_true.1 hall e he⟩
  · rw [hcommit] at hreplied ⊢
    generalize hm : ((s.staged t src i q).emptied i).pitched s.sdp.sessions[i].pending = m at hreplied ⊢
    have hpitch := answered_pitch (answerKept_same (s := m.evalBacks (s.taken t src i q).evalFronts.2) (src := src) (i := i) (p := p))
    have hsessions : (m.evalBacks (s.taken t src i q).evalFronts.2).sdp.sessions = m.sdp.sessions :=
      (State.evalBacks_same (w := maskBut .sessions) _ rfl .refl).only
    have hempty : m.sdp.sessions[i].pending = [] := by
      rw [← hm]
      exact congrArg Session.pending (onSession_self ..)
    refine ⟨(congrArg Prod.fst hpitch).trans ?_, (congrArg Prod.snd hpitch).trans ?_, ?_, hreplied⟩
    · rw [← hm]
      rfl
    · rw [← hm]
      rfl
    · rw [answerKept_session, hsessions, hempty]

/-- Settles O47: each commit applies between the causes and the outcomes of the step of the supervisors, and what it does the
outcomes leave. -/
theorem twoKeyCommitsTakeEffect : Obligations.TwoKeyCommitsTakeEffect := by
  unfold Obligations.TwoKeyCommitsTakeEffect
  refine ⟨?_, ?_, ?_, ?_, ?_, ?_, ?_, ?_⟩
  · intro t src i q r k val m n s hg hkey hp hm hk hn
    exact completes_strike hg hkey hp hm hk hn
  · intro t src i q r k val m v n s hg hkey hp hm hlow hhigh hsub hval hv hn
    exact completes_sweepRequest hg hkey hp hm hlow hhigh hsub hval hv hn
  · intro t src i q r k val m v n s hg hkey hp hm hlow hhigh hsub hval hv hn
    exact completes_directClear hg hkey hp hm hlow hhigh hsub hval hv hn
  · intro t src i q r k val m h j s hg hkey hp hm hidx hsub hj _
    exact completes_rereference hg hkey hp hm hidx hsub hj
  · intro t src i q r k val m v n s hg hkey hp hm hlow hhigh hsub hval hv hn
    exact completes_bemfRelease hg hkey hp hm hlow hhigh hsub hval hv hn
  · intro t src i q r k val m s hg hkey hp hm hidx
    exact completes_keySlotLoad hg hkey hp hm hidx
  · intro t src i q r k val m s hg hkey hp hm hidx
    exact completes_keySlotLoad hg hkey hp hm hidx
  · intro t src i q r s hg hkey hall hne
    exact completes_pitchCommit hg hkey hall hne

end Sys2Proof.Machine


/-! Samples, engine checks, deliveries of the host event controller, requests and commits complete: each has its own effect. -/

namespace Sys2Proof.Machine

/-- A command that leaves a state of one kind leaves one of every wider kind. -/
theorem Completes.imp {c : Instr} {s : State} {P Q : State → Prop} (h : Completes c s P) (hPQ : ∀ u, P u → Q u) : Completes c s Q :=
  let ⟨u, hexec, hu⟩ := h
  ⟨u, hexec, hPQ u hu⟩

/-- Settles O60: each clause is part of what its command is proved to do. -/
theorem samplesChecksDeliveriesAndRequestsComplete : Obligations.SamplesChecksDeliveriesAndRequestsComplete := by
  unfold Obligations.SamplesChecksDeliveriesAndRequestsComplete
  refine ⟨?_, ?_, ?_, ?_, ?_, ?_, ?_, ?_, ?_, ?_, ?_, ?_, ?_, ?_, ?_, ?_, ?_, ?_, ?_, ?_, ?_, ?_, ?_, ?_, ?_, ?_, ?_, ?_, ?_, ?_, ?_, ?_,
    ?_, ?_⟩
  · intro t c l r s hr htakes
    exact (completes_fastSample_takes hr htakes).imp fun _ h => h.1
  · intro t e w h s hon hruns hserved hdue hseq hcrc hkat htime
    exact (completes_engineCheckpoint_right hon hruns hserved hdue hseq hcrc hkat htime).imp fun _ ⟨hseq, hruns, _⟩ => ⟨hseq, hruns⟩
  · intro t e k s hon hruns hfails
    exact (completes_engineFailure hon hruns hfails).imp fun _ ⟨hfailed, hdeclared, _⟩ => ⟨hfailed, hdeclared⟩
  · intro t h s hon htaken hx hy
    exact (completes_takeoverFirstDecision hon htaken hx hy).imp fun _ h => h.1
  · rintro t core n a r s rfl hoffer htaken
    exact (completes_hecAccept hoffer htaken).imp fun _ ⟨hbusy, hsrc, _⟩ => ⟨hbusy, hsrc⟩
  · intro t core r s hr hbusy haccess
    exact (completes_hecFirstAccess hr hbusy haccess).imp fun _ h => h.1
  · intro t core w r s hr hpow hbusy hsrc
    exact (completes_hecEoi hr hpow hbusy hsrc).imp fun _ h => h.1
  · intro t core w r s hr hpow
    exact (completes_hecVbaseWrite hr hpow).imp fun _ h => h.1
  · intro t r s hr hpow
    exact (completes_clrCounts hr hpow).imp fun _ h => h.1
  · intro t core r s hr
    exact (completes_coreReset hr).imp fun _ h => h.1
  · rintro t src mac tag p i s rfl hserves hturn hop hform hauth hlen hlow hhigh hfree
    exact (completes_sdpOpen hserves hturn hop hform hauth hlen hlow hhigh hfree).imp fun _ ⟨hopened, hmac, _⟩ => ⟨hopened, hmac⟩
  · intro t src i q s hst hop
    exact completes_sdpClose hst hop
  · intro t src q s hserves hpayload hturn hparse hlen hver hop
    exact (completes_unknownOp hserves hpayload hturn hparse hlen hver hop).imp fun _ ⟨_, _, _, _, _, hanswer⟩ => hanswer
  · intro t src i q r v s hst hfree hop hrow hacc htyp hv hlen
    exact completes_sdpRead hst hfree hop hrow hacc htyp hv hlen
  · intro t src i q s hst hfree hop hkey
    exact (completes_challenge hst hfree hop hkey).imp fun _ h => h.1
  · intro t src i q lvl c a s hst hfree hop hkey htxn hlen hlvl hlow hhigh hbar hchal htime hslot htest hmac
    exact (completes_response_right hst hfree hop hkey htxn hlen hlvl hlow hhigh hbar hchal
      (taken_answersRight.2 ⟨htime, hslot, htest, hmac⟩)).imp fun _ h => h.1
  · intro t src i q r s hg hkey
    exact (completes_sessionLevel hg hkey).imp fun _ h => h.1
  · intro t src i q r v s hst hfree hop hidle hrow hacc hv
    exact (completes_readInit hst hfree hop hidle hrow hacc hv).imp fun _ h => h.1
  · intro t src i q f s hst hfree hop hxfer hread hdue hopen
    exact (completes_readSeg hst hfree hop hxfer hread hdue hopen).imp fun _ h => h.1
  · intro t src i q r s hst hfree hop hidle htxn hlen hrow hro hconst hlevel hkey
    exact (completes_writeInit hst hfree hop hidle htxn hlen hrow hro hconst hlevel hkey).imp fun _ h => h.1
  · intro t src i q f s hst hfree hop hxfer hwrite hdue hopen hmore hfull
    exact (completes_writeSeg hst hfree hop hxfer hwrite hdue hopen hmore hfull).imp fun _ h => h.1
  · intro t src i q f s hst hfree hop hxfer hopen
    exact (completes_xferAbort hst hfree hop hxfer hopen).imp fun _ h => h.1
  · intro t src i q s hst hfree hop hnone h2 h3
    exact (completes_txnBegin hst hfree hop hnone h2 h3).imp fun _ h => h.1
  · intro t src i q x s hst hfree hop hx hsess _ hsettings haccepted
    exact (completes_txnEnd hst hfree hop hx hsess hsettings haccepted).imp fun _ h => h.1
  · intro t src i q x s hst hfree hop hx hsess
    exact (completes_txnDiscard hst hfree hop hx hsess).imp fun _ h => h.1
  · intro t src i q r s hg hkey hdata _
    exact (completes_rollback hg hkey hdata).imp fun _ h => h.1
  · intro t src i q r s hg hkey hdata _
    exact (completes_rerun hg hkey hdata).imp fun _ h => h.1
  · intro t src i q r k val m n s hg hkey hp hm hk hn
    exact (completes_strike hg hkey hp hm hk hn).imp fun _ h => h.1
  · intro t src i q r k val m v n s hg hkey hp hm hlow hhigh hsub hval hv hn
    exact (completes_sweepRequest hg hkey hp hm hlow hhigh hsub hval hv hn).imp fun _ ⟨hstate, _, hsv, _⟩ => ⟨hstate, hsv⟩
  · intro t src i q r k val m v n s hg hkey hp hm hlow hhigh hsub hval hv hn
    exact (completes_directClear hg hkey hp hm hlow hhigh hsub hval hv hn).imp fun _ ⟨hstate, _, _, _, hsv, _⟩ => ⟨hstate, hsv⟩
  · intro t src i q r k val m h j s hg hkey hp hm hidx hsub hj _
    exact (completes_rereference hg hkey hp hm hidx hsub hj).imp fun _ ⟨hl, hh, _⟩ => ⟨hl, hh⟩
  · intro t src i q r k val m v n s hg hkey hp hm hlow hhigh hsub hval hv hn
    exact (completes_bemfRelease hg hkey hp hm hlow hhigh hsub hval hv hn).imp fun _ h => h.1
  · intro t src i q r k val m s hg hkey hp hm hidx
    exact (completes_keySlotLoad hg hkey hp hm hidx).imp fun _ h => h.1
  · intro t src i q r s hg hkey hall hne
    exact (completes_pitchCommit hg hkey hall hne).imp fun _ h => h.1

end Sys2Proof.Machine

/-! PitchTime and the waiting sets that may apply (R241, R242, R315, R316). -/

namespace Sys2Proof.Machine

variable {s u m : State} {t : Time} {v w : Fin 2} {n : Fin 4}

/-! ### The causes of an evaluation step leave the epochs (R186, R243) -/

theorem overlapUnchecked_epochs : (s.overlapUnchecked v n).epochs = s.epochs :=
  when_view State.epochs (onNvSec_epochs n fun _ => rfl)

theorem raise_epochs {code : Nat} {leg : Option (Fin 4)} : (s.raise v n code leg).epochs = s.epochs :=
  epochs_of_same (w := maskBut .nvSecs) (State.raise_same _ _ _ _ rfl .refl) rfl

theorem compareZone_epochs {l : Fin 4} {k : Fin 8} : (s.compareZone v n l k).epochs = s.epochs := by
  unfold State.compareZone
  extract_lets x due s1
  refine each_view State.epochs fun x p => ?_
  split
  · exact overlapUnchecked_epochs
  · split
    · rfl
    · exact raise_epochs

theorem compareInternal_epochs {l : Fin 4} : (s.compareInternal v n l).epochs = s.epochs := by
  unfold State.compareInternal
  split
  · rfl
  · dsimp only
    split
    · rfl
    · split
      · split
        · rfl
        · exact raise_epochs.trans raise_epochs
      · exact overlapUnchecked_epochs

theorem compareOverlaps_epochs {settled : Bool} : (s.compareOverlaps v n settled).epochs = s.epochs := by
  refine each_view State.epochs fun x l => ?_
  split
  · exact compareZone_epochs
  · split
    · exact compareInternal_epochs
    · rfl

theorem settleStep_epochs : (s.settleStep v n).epochs = s.epochs := by
  unfold State.settleStep
  extract_lets s1 k settled
  rw [epochs_of_same (w := maskBut .nvSecs) (State.zoneResetDue_same _ _ rfl .refl) rfl, compareOverlaps_epochs]
  exact epochs_of_same (w := maskBut .nvSecs) (State.settle_same _ _ rfl .refl) rfl

theorem evalFront_epochs : (s.evalFront v).1.epochs = s.epochs := by
  unfold State.evalFront
  split
  · rfl
  · dsimp only
    refine (epochs_of_same (w := maskBut .nvSecs) (State.each_same .refl fun _ _ k => State.disturbStep_same _ _ rfl k) rfl).trans ?_
    refine (epochs_of_same (w := maskBut .nvSecs) (State.each_same .refl fun _ _ k =>
      State.expireCauses_same _ _ rfl (State.evalWitness_same _ _ rfl (State.conditions_same _ _ rfl k))) rfl).trans ?_
    refine (each_view State.epochs fun _ _ => settleStep_epochs).trans ?_
    refine epochs_of_same (w := maskBut .nvSecs) (State.when_same (State.knownVehicles_same _ rfl (State.takeInbox_same _ _ rfl ?_))
      fun _ k => State.isoWheel_same _ rfl k) rfl
    exact State.each_same (State.onSv_same _ _ rfl (State.remapStep_same _ rfl .refl)) fun _ _ k => State.configStep_same _ _ rfl k

theorem evalFronts_epochs : s.evalFronts.1.epochs = s.epochs := evalFront_epochs.trans evalFront_epochs

theorem at_epochs : (s.at t).epochs = s.epochs := by
  unfold State.epochs
  rw [at_nv_secs]

/-! ### A pitch applied to a section (R242) -/

theorem enter_sec_other {m : Fin 4} (h : m ≠ n) (st : SecState) (route : Nat) : (s.enter w m st route).sv[v].secs[n] = s.sv[v].secs[n] := by
  by_cases hvw : v = w
  · subst hvw
    rw [State.enter, onSv_sv_self, onRest_secs, Sv.onSec, updV_other _ _ h.symm, onProp_secs, onSv_sv_self]
    rfl
  · rw [enter_sv_other hvw]

/-- R242: a section of a pitch, as a supervisor that serves has it: CLEAR by route 1 with balance 0. -/
def pitchedClear (x : Sv) (n : Fin 4) : Prop := x.props[n].state = .clear ∧ x.props[n].route = 1 ∧ x.secs[n].b = 0

/-- R242: a section of a pitch, as the keeper has it: its epoch, since when, and that it is not barred. -/
def State.pitchedEpoch (s : State) (n : Fin 4) (epoch : Nat) (since : Time) : Prop :=
  s.nv.secs[n].epochSince = (epoch, since) ∧ s.keep.barred[n] = false

variable {epoch : Nat} {since : Time}

theorem pitchSec_same : Same (areaMask [.nvSecs, .supervisors, .keeperRest]) s (s.pitchSec n epoch since) :=
  State.pitchSec_same _ _ _ rfl .refl

theorem pitchSec_statuses : (s.pitchSec n epoch since).statuses = s.statuses := by
  unfold State.pitchSec
  extract_lets s1 s2
  exact each_statuses fun x w => (enter_statuses ..).trans (onSv_statuses w fun _ => rfl)

theorem pitchSec_pitchedClear (hv : v ∈ s.serving) : pitchedClear (s.pitchSec n epoch since).sv[v] n := by
  unfold State.pitchSec
  extract_lets s1 s2
  have h2 : v ∈ s2.serving := hv
  refine each_sv_of_mem (P := fun y => pitchedClear y n) (fun x w => ⟨enter_state .., enter_route _ (by decide), ?_⟩)
    (fun x w w' hw => ?_) (.inl h2)
  · rw [enter_balance_of_live rfl, onSv_sv_self, onProp_secs, onSec_sec_self]
  · rw [enter_sv_other hw, onSv_sv, updV_other _ _ hw]

/-- The proposal and the counters of a section. -/
def Sv.ofSec (x : Sv) (n : Fin 4) : Prop_ × SecCnt := (x.props[n], x.secs[n])

theorem enter_ofSec_other {m : Fin 4} (h : m ≠ n) (st : SecState) (route : Nat) :
    (s.enter w m st route).sv[v].ofSec n = s.sv[v].ofSec n :=
  congrArg₂ Prod.mk (enter_prop_other h st route) (enter_sec_other h st route)

theorem pitchSec_ofSec_other {m : Fin 4} (h : m ≠ n) : (s.pitchSec m epoch since).sv[v].ofSec n = s.sv[v].ofSec n := by
  unfold State.pitchSec
  extract_lets s1 s2
  refine each_view (fun x : State => x.sv[v].ofSec n) fun x w => ?_
  refine (enter_ofSec_other h _ _).trans ?_
  by_cases hvw : v = w
  · subst hvw
    rw [onSv_sv_self]
    exact congrArg₂ Prod.mk (onProp_prop_other _ _ h) (updV_other _ _ h.symm)
  · rw [onSv_sv, updV_other _ _ hvw]

theorem pitchedEpoch_of_same {w : Nat} (h : Same w s u) (hsecs : w.testBit Area.nvSecs.ctorIdx = false)
    (hrest : w.testBit Area.keeperRest.ctorIdx = false) (hs : s.pitchedEpoch n epoch since) : u.pitchedEpoch n epoch since := by
  obtain ⟨hepoch, hbarred⟩ := hs
  refine ⟨(epochSince_of_epochs (epochs_of_same h hsecs) n).trans hepoch, ?_⟩
  rw [show u.keep.barred = s.keep.barred from congrArg (fun k => k.2.2.1) (h.area .keeperRest hrest)]
  exact hbarred

theorem pitchSec_pitchedEpoch : (s.pitchSec n epoch since).pitchedEpoch n epoch since := by
  unfold State.pitchSec
  extract_lets s1 s2
  have h2 : s2.pitchedEpoch n epoch since := ⟨congrArg NvSec.epochSince (updV_self ..), updV_self ..⟩
  exact pitchedEpoch_of_same (w := areaMask [.supervisors]) (State.each_same .refl fun _ _ k =>
    State.enter_same _ _ _ _ rfl (State.onSv_same _ _ rfl k)) rfl rfl h2

theorem pitchSec_pitchedEpoch_other {m : Fin 4} (h : m ≠ n) (hs : s.pitchedEpoch n epoch since) :
    (s.pitchSec m epoch since).pitchedEpoch n epoch since := by
  obtain ⟨hepoch, hbarred⟩ := hs
  unfold State.pitchSec
  extract_lets s1 s2
  have h2 : s2.pitchedEpoch n epoch since :=
    ⟨(congrArg NvSec.epochSince (updV_other _ _ h.symm)).trans hepoch, (updV_other _ _ h.symm).trans hbarred⟩
  exact pitchedEpoch_of_same (w := areaMask [.supervisors]) (State.each_same .refl fun _ _ k =>
    State.enter_same _ _ _ _ rfl (State.onSv_same _ _ rfl k)) rfl rfl h2

/-! ### The pitch applied (R242) -/

theorem pitchVal_of_pitch (h : u.nv.pitch = s.nv.pitch) : u.pitchVal = s.pitchVal := by
  funext k
  unfold State.pitchVal
  rw [h]

theorem pitchSec_pitchVal : (s.pitchSec n epoch since).pitchVal = s.pitchVal :=
  pitchVal_of_pitch (congrArg Prod.fst (pitchSec_same.area .pitch rfl))

/-- R242: the pitch applied to the sections it names. -/
def State.pitchSections (s : State) (l : List (Fin 4)) : State :=
  State.each s l fun s n => s.pitchSec n (s.pitchVal 2) (s.pitchVal 3)

theorem pitchSections_clear {l : List (Fin 4)} (hn : n ∈ l) (hv : v ∈ s.serving) : pitchedClear (s.pitchSections l).sv[v] n := by
  refine each_of_mem (I := fun x => v ∈ x.serving) (Q := fun x => pitchedClear x.sv[v] n)
    (fun x m hx => mem_serving_of_statuses pitchSec_statuses hx) (fun x hx => pitchSec_pitchedClear hx) (fun x m hx hq => ?_) hn hv
  by_cases hmn : m = n
  · subst hmn
    exact pitchSec_pitchedClear hx
  · have hkept : (x.pitchSec m (x.pitchVal 2) (x.pitchVal 3)).sv[v].ofSec n = x.sv[v].ofSec n := pitchSec_ofSec_other hmn
    obtain ⟨hstate, hroute, hb⟩ := hq
    exact ⟨(congrArg (fun p => p.1.state) hkept).trans hstate, (congrArg (fun p => p.1.route) hkept).trans hroute,
      (congrArg (fun p => p.2.b) hkept).trans hb⟩

theorem pitchSections_epoch {l : List (Fin 4)} (hn : n ∈ l) : (s.pitchSections l).pitchedEpoch n (s.pitchVal 2) (s.pitchVal 3) := by
  refine each_of_mem (I := fun x => x.pitchVal = s.pitchVal) (Q := fun x => x.pitchedEpoch n (s.pitchVal 2) (s.pitchVal 3))
    (fun x m hx => pitchSec_pitchVal.trans hx) (fun x hx => ?_) (fun x m hx hq => ?_) hn rfl
  · rw [hx]
    exact pitchSec_pitchedEpoch
  · rw [hx]
    by_cases hmn : m = n
    · subst hmn
      exact pitchSec_pitchedEpoch
    · exact pitchSec_pitchedEpoch_other hmn hq

theorem exists_applyPitch : ∃ x : State, x.nv.pitch = s.nv.pitch ∧ x.statuses = s.statuses ∧
    s.applyPitch = (x.pitchSections s.pitchSecs).pulse 22 := by
  unfold State.applyPitch
  extract_lets hs zero fresh s1 s2
  have hsame : Same (areaMask [.supervisors, .cumValid]) s s2 :=
    State.each_same (State.bothSv_same _ rfl .refl) fun _ _ k => State.setCumValid_same _ _ rfl k
  have hfresh (l : List (Fin 8)) (x : Sv) : (l.foldl (fun (x : Sv) h => x.onHead h zero) x).st = x.st := by
    induction l generalizing x with
    | nil => rfl
    | cons h l ih => exact ih _
  have h1 : s1.statuses = s.statuses := bothSv_statuses fun _ x => hfresh hs x
  have h2 : s2.statuses = s1.statuses := each_statuses fun _ _ => setCumValid_statuses ..
  exact ⟨s2, congrArg Prod.fst (hsame.area .pitch rfl), h2.trans h1, rfl⟩

/-- R242: what an applied pitch leaves of a section it names. -/
theorem applyPitch_section (hn : n ∈ s.pitchSecs) :
    (s.applyPitch.pitchDone 2).pitchedEpoch n (s.pitchVal 2) (s.pitchVal 3) ∧
    ∀ v ∈ s.serving, pitchedClear (s.applyPitch.pitchDone 2).sv[v] n := by
  obtain ⟨x, hpitch, hst, heq⟩ := exists_applyPitch (s := s)
  have hval : x.pitchVal = s.pitchVal := pitchVal_of_pitch hpitch
  have hdone : Same (areaMask [.pitch, .pulses, .offered]) (x.pitchSections s.pitchSecs) (s.applyPitch.pitchDone 2) :=
    heq ▸ State.pitchDone_same _ rfl (State.pulse_same _ rfl .refl)
  refine ⟨?_, fun v hv => ?_⟩
  · rw [← hval]
    exact pitchedEpoch_of_same hdone rfl rfl (pitchSections_epoch hn)
  · rw [show (s.applyPitch.pitchDone 2).sv = (x.pitchSections s.pitchSecs).sv from hdone.area .supervisors rfl]
    exact pitchSections_clear hn (mem_serving_of_statuses hst hv)

/-! ### PitchTime (R36, R242, R264) -/

/-- R242: the outcome of a pitch within the step, once the waiting sets of its sections have applied. -/
def State.pitchOutcome (s : State) : State :=
  if s.phase != .service then s
  else if s.pitchCheck = 2 then s.applyPitch.pitchDone 2
  else s.pitchDone s.pitchCheck

theorem serving_any_evaluates (h : s.evaluates 0 = true ∨ s.evaluates 1 = true) : (s.serving.any fun v => s.evaluates v) = true := by
  rcases h with h | h
  · exact List.any_eq_true.2 ⟨0, List.mem_filter.2 ⟨List.mem_finRange _, serves_of_evaluates h⟩, h⟩
  · exact List.any_eq_true.2 ⟨1, List.mem_filter.2 ⟨List.mem_finRange _, serves_of_evaluates h⟩, h⟩

/-- R242: at PitchTime the pitch is checked between the causes and the outcomes of a step. -/
theorem exec_pitchTime (hres : s.nv.pitchRes = 1) (hphase : s.phase = .service)
    (heval : s.evaluates 0 = true ∨ s.evaluates 1 = true) (htime : s.pitchVal 3 ≤ (s.at t).tbNow) :
    exec (.pitchTime t) s = .next (((((s.at t).evalFronts.1.when ((s.at t).evalFronts.1.pitchCheck == 2) fun x =>
      x.applySets (secBits x.pitchSecs)).pitchOutcome).evalBacks (s.at t).evalFronts.2)) := by
  have hcond : ((s.at t).nv.pitchRes == 1 && (s.at t).phase == .service && decide ((s.at t).pitchVal 3 ≤ (s.at t).tbNow)) = true := by
    refine Bool.and_eq_true_iff.2 ⟨Bool.and_eq_true_iff.2 ⟨beq_iff_eq.2 ?_, beq_iff_eq.2 hphase⟩, decide_eq_true ?_⟩
    · rw [at_nv_pitchRes]
      exact hres
    · rw [pitchVal_of_pitch (at_nv_pitch s t)]
      exact htime
  have hany : ((s.at t).serving.any fun v => (s.at t).evaluates v) = true :=
    serving_any_evaluates (by rw [at_evaluates, at_evaluates]; exact heval)
  show done _ = _
  unfold done
  rw [when_of hcond, if_pos hany]
  rfl

theorem evalBacks_pitchRes {trig : BitVec 4 × BitVec 4} : (s.evalBacks trig).nv.pitchRes = s.nv.pitchRes :=
  congrArg Prod.snd (State.evalBacks_same (w := maskBut .pitch) trig rfl .refl).only

theorem pitchDone_pitchRes {code : Nat} : (s.pitchDone code).nv.pitchRes = code := by
  rw [State.pitchDone, record_nv]

theorem pitchDone_epochs {code : Nat} : (s.pitchDone code).epochs = s.epochs :=
  epochs_of_same (w := maskBut .nvSecs) (State.pitchDone_same _ rfl .refl) rfl

theorem evalFronts_phase : (s.at t).evalFronts.1.phase = s.phase :=
  (State.evalFronts_same (w := maskBut .phase) rfl .refl).only

/-- R242: a pitch that fails one of its checks is refused under its code, and no epoch changes. -/
theorem completes_pitchTime_refused (hres : s.nv.pitchRes = 1) (hphase : s.phase = .service)
    (heval : s.evaluates 0 = true ∨ s.evaluates 1 = true) (htime : s.pitchVal 3 ≤ (s.at t).tbNow)
    (hcheck : (s.at t).evalFronts.1.pitchCheck ≠ 2) : Completes (.pitchTime t) s fun u =>
      u.nv.pitchRes = (s.at t).evalFronts.1.pitchCheck ∧ ∀ n : Fin 4, u.nv.secs[n].epoch = s.nv.secs[n].epoch := by
  have houtcome : (((s.at t).evalFronts.1.when ((s.at t).evalFronts.1.pitchCheck == 2) fun x =>
      x.applySets (secBits x.pitchSecs)).pitchOutcome) = (s.at t).evalFronts.1.pitchDone (s.at t).evalFronts.1.pitchCheck := by
    have hservice := evalFronts_phase (s := s) (t := t)
    rw [hphase] at hservice
    rw [when_of_not (beq_false_of_ne hcheck), State.pitchOutcome, hservice, if_neg (by decide), if_neg hcheck]
  refine ⟨_, exec_pitchTime hres hphase heval htime, ?_, fun n => ?_⟩
  · rw [houtcome, evalBacks_pitchRes, pitchDone_pitchRes]
  · rw [houtcome]
    exact epoch_of_epochs ((evalBacks_epochs _).trans (pitchDone_epochs.trans (evalFronts_epochs.trans at_epochs))) n

theorem applySets_of_nil {b : BitVec 4} (h : s.nv.waiting = []) : s.applySets b = s := by
  rw [State.applySets, h]
  rfl

/-- R242: a pitch that passes its checks, no set before it, applies, and the rest of the step follows. -/
theorem completes_pitchTime_applied (hres : s.nv.pitchRes = 1) (hphase : s.phase = .service)
    (heval : s.evaluates 0 = true ∨ s.evaluates 1 = true) (htime : s.pitchVal 3 ≤ (s.at t).tbNow)
    (hcheck : (s.at t).evalFronts.1.pitchCheck = 2) (hwaiting : s.nv.waiting = [])
    (hm : m = (s.at t).evalFronts.1.applyPitch.pitchDone 2) : Completes (.pitchTime t) s fun u =>
      u = m.evalBacks (s.at t).evalFronts.2 ∧ u.nv.pitchRes = 2 ∧
      ∀ n ∈ s.pitchSecs, u.nv.secs[n].epoch = s.pitchVal 2 ∧ u.nv.secs[n].epochStart = s.pitchVal 3 ∧
        m.keep.barred[n] = false ∧ ∀ v : Fin 2, s.sv[v].serves = true →
          m.sv[v].props[n].state = .clear ∧ m.sv[v].props[n].route = 1 ∧ m.sv[v].secs[n].b = 0 := by
  have hfront : Same (maskBut .pitch) (s.at t) (s.at t).evalFronts.1 := State.evalFronts_same rfl .refl
  have hval : (s.at t).evalFronts.1.pitchVal = s.pitchVal :=
    pitchVal_of_pitch ((congrArg Prod.fst hfront.only).trans (at_nv_pitch s t))
  have hsecs : (s.at t).evalFronts.1.pitchSecs = s.pitchSecs := by
    unfold State.pitchSecs
    rw [hval]
  have hst : (s.at t).evalFronts.1.statuses = s.statuses := (evalFront_statuses 1).trans (evalFront_statuses 0)
  have hnone : (s.at t).evalFronts.1.nv.waiting = [] := by
    have hkept : Same (maskBut .waitingSets) (s.at t) (s.at t).evalFronts.1 := State.evalFronts_same rfl .refl
    exact (congrArg Prod.fst hkept.only).trans ((at_nv_waiting s t).trans hwaiting)
  have houtcome : (((s.at t).evalFronts.1.when ((s.at t).evalFronts.1.pitchCheck == 2) fun x =>
      x.applySets (secBits x.pitchSecs)).pitchOutcome) = m := by
    have hservice := evalFronts_phase (s := s) (t := t)
    rw [hphase] at hservice
    rw [when_of (beq_iff_eq.2 hcheck), applySets_of_nil hnone, State.pitchOutcome, hservice, if_neg (by decide), if_pos hcheck, hm]
  refine ⟨_, exec_pitchTime hres hphase heval htime, by rw [houtcome], ?_, fun n hn => ?_⟩
  · rw [houtcome, evalBacks_pitchRes, hm, pitchDone_pitchRes]
  · obtain ⟨⟨hepoch, hbarred⟩, hclear⟩ := applyPitch_section (s := (s.at t).evalFronts.1) (hsecs ▸ hn)
    rw [hval, ← hm] at hepoch
    rw [← hm] at hbarred hclear
    rw [houtcome, epoch_of_epochs (evalBacks_epochs _), epochStart_of_epochs (evalBacks_epochs _)]
    refine ⟨congrArg Prod.fst hepoch, congrArg Prod.snd hepoch, hbarred, fun v hv => hclear v ?_⟩
    exact mem_serving_of_statuses hst (List.mem_filter.2 ⟨List.mem_finRange _, hv⟩)

/-! ### A waiting set that may apply (R315, R316) -/

variable {k : Nat} {val : List Byte} {w : WaitingSet}

theorem applyConfig_cfg {l : List Change} : (s.applyConfig l).nv.cfg = s.nv.cfg :=
  (State.applyConfig_same (w := maskBut .stored) _ rfl .refl).only

theorem applyConfig_waitingSets {l : List Change} : (s.applyConfig l).nv.waiting = s.nv.waiting := by
  have h : Same (maskBut .waitingSets) s (s.applyConfig l) := State.applyConfig_same l rfl .refl
  have hkept := h.only
  simp only [Area.same, Prod.mk.injEq] at hkept
  obtain ⟨hwaiting, -⟩ := hkept
  exact hwaiting

theorem ne_of_cfgKey {j : Nat} (hk : cfgKey k = true) (hj : cfgKey j = false) : k ≠ j := fun h => by
  rw [h, hj] at hk
  exact Bool.false_ne_true hk

theorem applyOther_of_setting {slot : Nat} (hk : cfgKey k = true) : s.applyOther slot (k, val) = s := by
  unfold State.applyOther
  dsimp only
  rw [if_neg (ne_of_cfgKey hk (by decide)), if_neg (ne_of_cfgKey hk (by decide)),
    if_neg (ne_of_cfgKey hk (by decide))]

/-- R316: a set that waits no longer. -/
def State.unwaited (s : State) (w : WaitingSet) : State := { s with nv := { s.nv with waiting := s.nv.waiting.erase w } }

/-- R316: a waiting set of one setting. -/
theorem applySet_of_setting (hitems : w.items = [(k, val)]) (hk : cfgKey k = true) :
    s.applySet w = ((s.unwaited w).storeEntry k val).applyConfig [(k, some val)] := by
  have hsetting : changesOf (w.items.filter fun e => cfgKey e.1) = [(k, some val)] := by
    rw [hitems]
    simp [changesOf, hk]
  have hbank : (w.items.any fun e => e.1 == dkey 0x4050 6 && leNat e.2 != s.nv.images.active) = false := by
    rw [hitems, List.any_cons, beq_false_of_ne (ne_of_cfgKey hk (by decide)), Bool.false_and]
    rfl
  unfold State.applySet
  dsimp only
  rw [hsetting, storeChanges_setting hk, when_of_not hbank, hitems]
  exact applyOther_of_setting hk

theorem applySets_of_single {b : BitVec 4} (hw : s.nv.waiting = [w]) (hphase : s.phase = .service) (hready : s.setReady b w = true) :
    s.applySets b = s.applySet w := by
  rw [State.applySets, hw]
  exact when_of (f := fun x => x.applySet w) (Bool.and_eq_true_iff.2 ⟨beq_iff_eq.2 hphase, hready⟩)

theorem phase_of_evaluates (h : s.evaluates v = true) : s.phase = .service := by
  unfold State.evaluates at h
  simp only [Bool.and_eq_true, beq_iff_eq] at h
  obtain ⟨⟨hphase, -⟩, -⟩ := h
  exact hphase

/-- R315, R316: a set that waits alone, of one setting, applies with the step after which it may. -/
theorem completes_deferredSetApply (heval : s.evaluates 0 = true ∨ s.evaluates 1 = true) (hw : s.nv.waiting = [w])
    (hitems : w.items = [(k, val)]) (hk : cfgKey k = true) (hready : (s.at t).evalBoth.setReady 0 w = true) :
    Completes (.deferredSetApply t) s fun u =>
      u.nv.waiting = [] ∧ kvGet k u.sdp.work = some val ∧ kvGet k u.nv.cfg = some val := by
  have hsame : Same (areaMask evalAreas) (s.at t) (s.at t).evalBoth := State.evalBoth_same rfl .refl
  have hat : (s.at t).nv.waiting = [w] := (at_nv_waiting s t).trans hw
  have hphase : (s.at t).evalBoth.phase = .service := by
    rw [show (s.at t).evalBoth.phase = s.phase from hsame.area .phase rfl]
    obtain h | h := heval <;> exact phase_of_evaluates h
  have hwaiting : (s.at t).evalBoth.nv.waiting = [w] := (congrArg Prod.fst (hsame.area .waitingSets rfl)).trans hat
  have hcond : (!(s.at t).nv.waiting.isEmpty && (s.at t).serving.any fun v => (s.at t).evaluates v) = true := by
    rw [hat, serving_any_evaluates (by rw [at_evaluates, at_evaluates]; exact heval)]
    rfl
  refine Completes.of_when rfl hcond ?_
  generalize (s.at t).evalBoth = x at hready hphase hwaiting
  rw [applySets_of_single hwaiting hphase hready, applySet_of_setting hitems hk]
  refine ⟨?_, ?_, ?_⟩
  · rw [applyConfig_waitingSets, show ((x.unwaited w).storeEntry k val).nv.waiting = x.nv.waiting.erase w from rfl, hwaiting]
    exact List.erase_cons_head w []
  · rw [applyConfig_work]
    exact kvGet_kvSet_self _
  · rw [applyConfig_cfg]
    exact kvGet_kvSet_self _

/-- Settles O52: a pitch is refused or applies between the causes and the outcomes of the step at PitchTime, and a set that waits
alone applies after the step. -/
theorem pitchesAndWaitingSetsApply : Obligations.PitchesAndWaitingSetsApply := by
  unfold Obligations.PitchesAndWaitingSetsApply
  refine ⟨?_, ?_, ?_⟩
  · intro t s hres hphase heval htime hcheck
    exact completes_pitchTime_refused hres hphase heval htime hcheck
  · intro t m s hres hphase heval htime hcheck hwaiting hm
    exact completes_pitchTime_applied hres hphase heval htime hcheck hwaiting hm
  · intro t w k val s heval hw hitems hk hready
    exact completes_deferredSetApply heval hw hitems hk hready

end Sys2Proof.Machine

/-! Presence events, the outcome of episodes, and the Ledger (R153, R154, R157, R164, R169, R171, R172). -/

namespace Sys2Proof.Machine

variable {s u : State} {t : Time} {ev : PresenceEvent} {i : Nat} {slot : Fin 2048} {k v : Fin 2} {en : Entry}

/-! ### A presence event (R153) -/

theorem completes_presenceEvent {P : State → Prop} (hphase : s.phase = .service)
    (hP : P (if s.pas.gone.contains ev then { s.at t with pas := { s.pas with gone := s.pas.gone.erase ev } }
      else
        let first := sortBy eventRank (s.eng.out.filter fun e => headOf e.ch == headOf ev.ch && decide (eventRank e < eventRank ev))
        (State.each (s.at t) first fun s e =>
          let s1 := s.takePresence e
          { s1 with pas := { s1.pas with gone := s1.pas.gone ++ [e] } }).takePresence ev)) :
    Completes (.presenceEvent t ev) s P :=
  Completes.of_when rfl (beq_iff_eq.2 hphase) hP

/-- R153: an event that has been processed before its turn leaves no other trace. -/
theorem completes_presenceEvent_gone (hphase : s.phase = .service) (hgone : s.pas.gone.contains ev = true) :
    Completes (.presenceEvent t ev) s fun u => u = { s.at t with pas := { s.pas with gone := s.pas.gone.erase ev } } :=
  completes_presenceEvent hphase (if_pos hgone)

/-- R153: no earlier event of its head stands before an event. -/
def State.nextOf (s : State) (ev : PresenceEvent) : Prop :=
  ∀ e ∈ s.eng.out, headOf e.ch = headOf ev.ch → eventRank ev ≤ eventRank e

theorem completes_presenceEvent_next {P : State → Prop} (hphase : s.phase = .service) (hgone : s.pas.gone.contains ev = false)
    (hnext : s.nextOf ev) (hP : P ((s.at t).takePresence ev)) : Completes (.presenceEvent t ev) s P := by
  have hnone : (s.eng.out.filter fun e => headOf e.ch == headOf ev.ch && decide (eventRank e < eventRank ev)) = [] := by
    refine List.filter_eq_nil_iff.2 fun e he h => ?_
    rw [Bool.and_eq_true, beq_iff_eq, decide_eq_true_eq] at h
    obtain ⟨hhead, hless⟩ := h
    exact Nat.not_lt.2 (hnext e he hhead) hless
  refine completes_presenceEvent hphase ?_
  rw [if_neg (by rw [hgone]; decide)]
  dsimp only
  rw [hnone]
  exact hP

theorem takePresence_out : (s.takePresence ev).eng.out = s.eng.out.erase ev := by
  unfold State.takePresence
  extract_lets s1
  have h1 : s1.eng.out = s.eng.out := when_view (fun s => s.eng.out) rfl
  have h2 : Same (maskBut .engOut) ({ s1 with eng := { s1.eng with out := s1.eng.out.erase ev } } : State)
      (({ s1 with eng := { s1.eng with out := s1.eng.out.erase ev } } : State).passageEvent ev) := State.passageEvent_same _ rfl .refl
  rw [h2.only, h1]

/-! ### An ONSET opens an episode (R154, R170) -/

theorem open_active (e : Episode) : (e.open_ ev).active = true := rfl

theorem open_onset (e : Episode) : (e.open_ ev).onset[sysOf ev.ch] = some ev.stamp := updV_self ..

theorem present_of_onset {e : Episode} {a : Time} {j : Fin 2} (h : e.onset[j] = some a) : e.present = true := by
  unfold Episode.present
  match j, h with
  | 0, h =>
    rw [show e.onset[0] = some a from h]
    rfl
  | 1, h =>
    rw [show e.onset[1] = some a from h, Bool.or_comm]
    rfl

theorem lowestFree_lt {l : Ledger} (h : l.lowestFree = some i) : i < 2048 := by
  unfold Ledger.lowestFree at h
  exact List.mem_range.1 (List.mem_of_find?_eq_some h)

theorem allocate_slot {h : Fin 8} {dir : Bool} {a : Time} (hfree : s.led.lowestFree = some i) :
    (s.allocate h dir a).2.map (fun j => j.val) = some i := by
  unfold State.allocate
  dsimp only
  rw [hfree]
  dsimp only
  rw [dif_pos (lowestFree_lt hfree)]
  rfl

theorem allocate_entry {h : Fin 8} {dir : Bool} {a : Time} (hfree : s.led.lowestFree = some i) :
    (s.allocate h dir a).1.led.entry k i =
      some { seq := s.led.nextSeq, head := h, dir := dir, st := .opn, stamp := a % 2 ^ 48, since := s.clk.now } := by
  unfold State.allocate
  dsimp only
  rw [hfree]
  match k with
  | 0 => exact kvGet_kvSet_self _
  | 1 => exact kvGet_kvSet_self _

theorem take_onset_opens {e : Episode} (hedge : ev.edge = .onset) (hpresent : e.present = false) : e.take ev = e.open_ ev := by
  unfold Episode.take
  dsimp only
  rw [hedge]
  dsimp only
  rw [if_neg (by rw [hpresent]; decide)]

theorem notify_led (n : Notice) : (s.notify n).led = s.led := rfl

theorem notify_pas (n : Notice) : (s.notify n).pas = s.pas := rfl

/-- R154, R170: an ONSET at a head without presence opens an episode with the slot it is given. -/
theorem passageEvent_opens (hedge : ev.edge = .onset) (hdiscard : s.pas.discard[headOf ev.ch] = false)
    (hpresent : s.pas.eps[headOf ev.ch].present = false) (hstopped : s.pas.stopped = false) :
    (s.passageEvent ev).pas.eps[headOf ev.ch] = { s.pas.eps[headOf ev.ch].open_ ev with
      slot := (s.allocate (headOf ev.ch) (sysOf ev.ch == 1) ev.stamp).2 } ∧
    (s.passageEvent ev).led = (s.allocate (headOf ev.ch) (sysOf ev.ch == 1) ev.stamp).1.led := by
  have hbegins : (ev.edge == .onset && !s.pas.eps[headOf ev.ch].present) = true := by
    rw [hedge, hpresent]
    rfl
  have hstays : (s.pas.eps[headOf ev.ch].open_ ev).present = true := present_of_onset (open_onset _)
  unfold State.passageEvent
  dsimp only
  rw [if_neg (by rw [hdiscard]; decide), take_onset_opens hedge hpresent, hbegins, hstopped, hstays, Bool.not_true, Bool.and_false,
    notify_led, notify_pas, if_neg Bool.false_ne_true, if_pos (by decide)]
  generalize s.allocate (headOf ev.ch) (sysOf ev.ch == 1) ev.stamp = a
  exact ⟨updV_self .., rfl⟩

theorem completes_presenceEvent_opens (hphase : s.phase = .service) (hgone : s.pas.gone.contains ev = false) (hnext : s.nextOf ev)
    (hedge : ev.edge = .onset) (hdiscard : s.pas.discard[headOf ev.ch] = false)
    (hpresent : s.pas.eps[headOf ev.ch].present = false) (hstopped : s.pas.stopped = false) (hfree : s.led.lowestFree = some i) :
    Completes (.presenceEvent t ev) s fun u =>
      u.pas.eps[headOf ev.ch].active = true ∧
      u.pas.eps[headOf ev.ch].onset[sysOf ev.ch] = some ev.stamp ∧ u.pas.eps[headOf ev.ch].slot.map (fun j => j.val) = some i ∧
      ∀ k : Fin 2, (u.led.entry k i).any (fun en => en.st == .opn && en.head == headOf ev.ch && en.seq == s.led.nextSeq) = true := by
  refine completes_presenceEvent_next hphase hgone hnext ?_
  have htake : (s.at t).takePresence ev =
      ({ s.at t with eng := { (s.at t).eng with out := (s.at t).eng.out.erase ev } } : State).passageEvent ev := by
    unfold State.takePresence
    dsimp only
    rw [when_of_not (by rw [hedge]; decide)]
  rw [htake]
  generalize hx : ({ s.at t with eng := { (s.at t).eng with out := (s.at t).eng.out.erase ev } } : State) = x
  have hpas : x.pas = s.pas := by rw [← hx]; rfl
  have hled : x.led = s.led := by rw [← hx]; rfl
  obtain ⟨heps, hcopies⟩ := passageEvent_opens (s := x) hedge (hpas ▸ hdiscard) (hpas ▸ hpresent) (hpas ▸ hstopped)
  have hslot := allocate_slot (s := x) (h := headOf ev.ch) (dir := sysOf ev.ch == 1) (a := ev.stamp) (hled ▸ hfree)
  have hentry (k : Fin 2) := allocate_entry (s := x) (k := k) (h := headOf ev.ch) (dir := sysOf ev.ch == 1) (a := ev.stamp) (hled ▸ hfree)
  generalize x.allocate (headOf ev.ch) (sysOf ev.ch == 1) ev.stamp = a at heps hcopies hslot hentry
  rw [heps, hcopies]
  refine ⟨open_active (ev := ev) x.pas.eps[headOf ev.ch], open_onset x.pas.eps[headOf ev.ch], hslot, fun k => ?_⟩
  rw [hentry k, hled, Option.any_some]
  simp only [beq_self_eq_true, Bool.and_self]

/-! ### The outcome of an episode (R157) -/

variable {e : Episode} {r : Bool} {cx cy : Time} {ex ey : EndRec}

theorem result_of_order (hx : e.conf[0] = some cx) (hy : e.conf[1] = some cy) (hex : e.ends[0] = some ex) (hey : e.ends[1] = some ey)
    (hconf : cx ≠ cy) (hends : ex.stamp ≠ ey.stamp)
    (hleft : (if decide (cx < cy) then decide (ey.stamp < ex.stamp) else decide (ex.stamp < ey.stamp)) = false)
    (hcls : countingClass ex.cls = true) : e.result r = { st := .detected, dir := !decide (cx < cy), cls := passageClass ex.cls ey.cls } := by
  unfold Episode.result
  rw [hx, hy, hex, hey]
  dsimp only
  rw [if_neg (not_or.2 ⟨hconf, hends⟩), hleft, if_neg Bool.false_ne_true, hcls, Bool.not_true, Bool.and_false,
    if_neg Bool.false_ne_true]

/-- R157: confirmed and left by X before Y. -/
theorem result_x_first (hx : e.conf[0] = some cx) (hy : e.conf[1] = some cy) (hex : e.ends[0] = some ex) (hey : e.ends[1] = some ey)
    (hconf : cx < cy) (hends : ex.stamp < ey.stamp) (hcls : countingClass ex.cls = true) :
    (e.result r).st = .detected ∧ (e.result r).dir = false := by
  have horder : decide (cx < cy) = true := decide_eq_true hconf
  rw [result_of_order hx hy hex hey (Nat.ne_of_lt hconf) (Nat.ne_of_lt hends)
    (by rw [horder, if_pos rfl]; exact decide_eq_false (Nat.lt_asymm hends)) hcls, horder]
  exact ⟨rfl, rfl⟩

/-- R157: confirmed and left by Y before X. -/
theorem result_y_first (hx : e.conf[0] = some cx) (hy : e.conf[1] = some cy) (hex : e.ends[0] = some ex) (hey : e.ends[1] = some ey)
    (hconf : cy < cx) (hends : ey.stamp < ex.stamp) (hcls : countingClass ex.cls = true) :
    (e.result r).st = .detected ∧ (e.result r).dir = true := by
  have horder : decide (cx < cy) = false := decide_eq_false (Nat.lt_asymm hconf)
  rw [result_of_order hx hy hex hey (Nat.ne_of_gt hconf) (Nat.ne_of_gt hends)
    (by rw [horder, if_neg Bool.false_ne_true]; exact decide_eq_false (Nat.lt_asymm hends)) hcls, horder]
  exact ⟨rfl, rfl⟩

theorem result_together {c : Time} (hx : e.conf[0] = some c) (hy : e.conf[1] = some c) :
    (e.result r).st = .void ∧ (e.result r).cause = 1 := by
  unfold Episode.result
  rw [hx, hy]
  dsimp only
  split
  · rw [if_pos (.inl rfl)]
    exact ⟨rfl, rfl⟩
  · exact ⟨rfl, rfl⟩

theorem result_unconfirmed (hx : e.conf[0] = none) (hy : e.conf[1] = none) : (e.result r).st = .cancelled := by
  unfold Episode.result
  rw [hx, hy]

/-! ### A cause at a head (R198) -/

theorem notify_inbox {n : Notice} (h : s.sv[v].serves = true) : (s.notify n).sv[v].inbox = s.sv[v].inbox ++ [n] := by
  simp only [State.notify, Fin.getElem_fin, Vector.getElem_ofFn]
  rw [if_pos (by simpa only [Fin.getElem_fin] using h)]

/-- R198: a cause at a head reaches every supervisor that serves, for every section of the head. -/
theorem causeAtHead_inbox {h : Fin 8} {code : Nat} {n : Fin 4} (hn : n ∈ s.sectionsOf h) (hv : v ∈ s.serving) :
    ∃ leg, Notice.cause n code leg ∈ (s.causeAtHead h code).sv[v].inbox := by
  refine each_of_mem (I := fun x => v ∈ x.serving) (Q := fun x => ∃ leg, Notice.cause n code leg ∈ x.sv[v].inbox)
    (fun x m hx => mem_serving_of_statuses (notify_statuses _) hx)
    (fun x hx => ⟨(x.legOf n h).orElse fun _ => x.innerLegOf n h, ?_⟩) (fun x m hx hq => ?_) hn hv
  · rw [notify_inbox (serves_of_mem_serving hx)]
    exact List.mem_append_right _ (List.mem_singleton.2 rfl)
  · obtain ⟨leg, hleg⟩ := hq
    refine ⟨leg, ?_⟩
    rw [notify_inbox (serves_of_mem_serving hx)]
    exact List.mem_append_left _ hleg

theorem causeAtHead_led {h : Fin 8} {code : Nat} : (s.causeAtHead h code).led = s.led := each_view State.led fun _ _ => rfl

theorem mem_serving_of_inService (h : s.sv[v].st = .inService) : v ∈ s.serving :=
  List.mem_filter.2 ⟨List.mem_finRange v, by rw [Sv.serves, h]; rfl⟩

/-- R169: an entry that stands is a cause for the sections of its head. -/
theorem completes_ledgerStall (hen : s.led.entry 0 slot = some en) (hst : en.st = .detected ∨ en.st = .countedOne)
    (hlate : en.since + us 24 < t) (h0 : s.sv[0].st = .inService) (h1 : s.sv[1].st = .inService) :
    Completes (.ledgerStall t slot) s fun u =>
      u.led = s.led ∧ ∀ n ∈ s.sectionsOf en.head, ∀ v : Fin 2, ∃ leg, Notice.cause n 10 leg ∈ u.sv[v].inbox := by
  have hcond : ((en.st == .detected || en.st == .countedOne) && decide (en.since + us 24 < (s.at t).clk.now) &&
      (s.at t).sv[0].st == .inService && (s.at t).sv[1].st == .inService) = true := by
    have hnow : en.since + us 24 < (s.at t).clk.now := Nat.lt_of_lt_of_le hlate (le_at_now (Nat.le_refl t))
    refine Bool.and_eq_true_iff.2 ⟨Bool.and_eq_true_iff.2 ⟨Bool.and_eq_true_iff.2 ⟨?_, decide_eq_true hnow⟩, beq_iff_eq.2 h0⟩, beq_iff_eq.2 h1⟩
    exact Bool.or_eq_true_iff.2 (hst.imp beq_iff_eq.2 beq_iff_eq.2)
  have hserving (v : Fin 2) : v ∈ (s.at t).serving := by
    match v with
    | 0 => exact mem_serving_of_inService h0
    | 1 => exact mem_serving_of_inService h1
  have hexec : exec (.ledgerStall t slot) s = .next ((s.at t).causeAtHead en.head 10) := by
    show done (match (s.at t).led.entry 0 slot with
      | some en => (s.at t).when ((en.st == .detected || en.st == .countedOne) && decide (en.since + us 24 < (s.at t).clk.now) &&
          (s.at t).sv[0].st == .inService && (s.at t).sv[1].st == .inService) fun s => s.causeAtHead en.head 10
      | none => s.at t) = _
    rw [show (s.at t).led.entry 0 slot = some en from hen]
    dsimp only
    rw [when_of hcond]
  refine ⟨_, hexec, causeAtHead_led, fun n hn v => ?_⟩
  exact causeAtHead_inbox (s := s.at t) hn (hserving v)

/-! ### The scrub of the Ledger (R171, R172) -/

theorem upd_entry {l : Ledger} {f : Entry → Entry} (h : l.entry 0 i = some en) : (l.upd i f).entry 0 i = some (f en) := by
  unfold Ledger.entry at h
  have hget : kvGet i l.copies[0] = some en := h
  unfold Ledger.upd Ledger.entry
  dsimp only
  rw [hget]
  exact kvGet_kvSet_self _

theorem voided_led {h : Fin 8} {cause code : Nat} : (s.voided h cause code).led = s.led :=
  (State.voided_same (w := maskBut .ledger) _ _ _ rfl .refl).only

/-- R159: an entry that becomes VOID, or that is VOID. -/
theorem voidEntry_void {cause code : Nat} (h : s.led.entry 0 i = some en) :
    ((s.voidEntry i cause code).led.entry 0 i).any (fun e => e.st == .void) = true := by
  unfold State.voidEntry
  rw [h]
  dsimp only
  split
  · next hvoid =>
    have hled : (if code = 2 then s else s.causeAtHead en.head code).led = s.led := by
      split
      · rfl
      · exact causeAtHead_led
    rw [hled, h, Option.any_some]
    exact beq_iff_eq.2 hvoid
  · rw [voided_led, State.onEntry, upd_entry h, Option.any_some]
    rfl

theorem voidEntry_tallies {cause code : Nat} : (s.voidEntry i cause code).nv.ledger = s.nv.ledger :=
  (State.voidEntry_same (w := maskBut .ledgerCounts) _ _ _ rfl .refl).only

/-- R171: what a scrub finds is counted. -/
def State.scrubCounted (s : State) (i : Fin 4) : State := { s with nv := { s.nv with ledger := updV s.nv.ledger i (· + 1) } }

theorem completes_ledgerScrub_corrected : Completes (.ledgerScrub t slot k .corrected) s fun u =>
    u.nv.ledger[1] = s.nv.ledger[1] + 1 ∧ u.led = s.led := by
  refine ⟨(s.at t).scrubCounted 1, rfl, ?_, rfl⟩
  exact (updV_self (s.at t).nv.ledger 1 _).trans (congrArg (fun l => l[(1 : Fin 4)] + 1) (at_nv_ledger s t))

theorem completes_ledgerScrub_differ (hen : s.led.entry 0 slot = some en) : Completes (.ledgerScrub t slot k .differ) s fun u =>
    u.nv.ledger[2] = s.nv.ledger[2] + 1 ∧ (u.led.entry 0 slot).any (fun e => e.st == .void) = true := by
  refine ⟨((s.at t).scrubCounted 2).voidEntry slot 4, rfl, ?_, voidEntry_void (s := (s.at t).scrubCounted 2) hen⟩
  rw [voidEntry_tallies]
  exact (updV_self (s.at t).nv.ledger 2 _).trans (congrArg (fun l => l[(2 : Fin 4)] + 1) (at_nv_ledger s t))

theorem completes_ledgerScrub_fails (hrun : s.alone k = false ∨ s.keep.degraded = true) (hserves : s.sv[k].serves = true) :
    Completes (.ledgerScrub t slot k .uncorrectable) s fun u => u.sv[k].st = .failed ∧ u.sv[k].failCause = 2 := by
  have hcond : ¬ (s.alone k && !s.keep.degraded) = true := by
    rcases hrun with h | h
    · rw [h, Bool.false_and]
      exact Bool.false_ne_true
    · rw [h, Bool.not_true, Bool.and_false]
      exact Bool.false_ne_true
  obtain ⟨hst, hcause, -, -⟩ := svFail_at (t := t) (cause := 2) (row := 1) hserves
  exact Completes.of_ite_not rfl hcond ⟨hst, hcause⟩

theorem completes_ledgerScrub_voids (halone : s.alone k = true) (hrun : s.keep.degraded = false) (hen : s.led.entry 0 slot = some en) :
    Completes (.ledgerScrub t slot k .uncorrectable) s fun u =>
      u.sv[k].st = s.sv[k].st ∧ (u.led.entry 0 slot).any (fun e => e.st == .void) = true := by
  have hcond : (s.alone k && !s.keep.degraded) = true := by
    rw [halone, hrun]
    rfl
  refine Completes.of_ite rfl hcond ⟨?_, voidEntry_void (s := s.at t) hen⟩
  exact st_of_statuses (voidEntry_statuses (s := s.at t) ..) k

/-- Settles O38: presence events go in their order, an episode ends as its row says, and the Ledger keeps what a stall or a scrub
finds. -/
theorem episodesAndLedgerEntries : Obligations.EpisodesAndLedgerEntries := by
  unfold Obligations.EpisodesAndLedgerEntries
  refine ⟨?_, ?_, ?_, ?_, ?_, ?_, ?_, ?_, ?_, ?_, ?_, ?_⟩
  · intro t ev s hphase hgone
    exact completes_presenceEvent_gone hphase hgone
  · intro t ev s hphase hgone hnext
    exact completes_presenceEvent_next hphase hgone hnext takePresence_out
  · intro t ev i s hphase hgone hnext hedge hdiscard hpresent hstopped hfree
    exact completes_presenceEvent_opens hphase hgone hnext hedge hdiscard hpresent hstopped hfree
  · intro e r cx cy ex ey hx hy hex hey hconf hends hcls
    exact result_x_first hx hy hex hey hconf hends hcls
  · intro e r cx cy ex ey hx hy hex hey hconf hends hcls
    exact result_y_first hx hy hex hey hconf hends hcls
  · intro e r c hx hy
    exact result_together hx hy
  · intro e r hx hy
    exact result_unconfirmed hx hy
  · intro t slot en s hen hst hlate h0 h1
    exact completes_ledgerStall hen hst hlate h0 h1
  · intro t slot k s
    exact completes_ledgerScrub_corrected
  · intro t slot k en s hen
    exact completes_ledgerScrub_differ hen
  · intro t slot k s hrun hserves
    exact completes_ledgerScrub_fails hrun hserves
  · intro t slot k en s halone hrun hen
    exact completes_ledgerScrub_voids halone hrun hen

end Sys2Proof.Machine
